-- ==== Sys2Proof/Word.lean ====
section
/-! DEFINITION. Word types and the plain operand types that commands carry: status codes (R632), device states (R569),
fabric packets (R439), dictionary messages (R549), memory-side add requests (R256) and physical observations. -/

namespace Sys2Proof

/-- One byte. -/
abbrev Byte := BitVec 8
/-- A 32-bit word. -/
abbrev W32 := BitVec 32
/-- A 64-bit word: the width every register is held in (a 32-bit register uses the low half). -/
abbrev W64 := BitVec 64
/-- A tile tag (R33) or other 128-bit value. -/
abbrev W128 := BitVec 128

/-- The status codes of R632. -/
inductive Status where
  | ok | fallbackTaken
  | stateConflict | reservedNonzero | versionUnsupported | admissionRefused
  | pageFault | poolExhausted | staleSource | uncorrectable | crcResendExhausted
  | deadlineMissed | deadlockDetected
  | semUnderflow | barrierOverrun | ownerLost | manualRelease
  | linkRetryExhausted | miswired | laneRetired
  | streamCorrupt | concealed | bufferBounds
  | txnConflict | txnAborted | accessDenied
  | headerRejected | authFailed | decryptFailed
  | spareExhausted | thermalTrip | unfit
  deriving DecidableEq, Repr, Inhabited

/-- The device states of R569. -/
inductive DevState where
  | off | reset | boot | config | ready | running | draining | faulted
  deriving DecidableEq, Repr, Inhabited

/-- The link states of `PORT_STATUS` (R459). -/
inductive LinkState where
  | down | training | active | retrain | fenced | disabled
  deriving DecidableEq, Repr, Inhabited

/-- The phases of link training (R445). -/
inductive TrainPhase where
  | idle | detect | equalise | align | width | fecLock | ident
  deriving DecidableEq, Repr, Inhabited

/-- What a control processor does: a load or a store (R58), or a read of its `time` or `cycle` register (R43). -/
inductive CpOp where
  | load | store | time | cycle
  deriving DecidableEq, Repr, Inhabited

/-- The RISC-V exceptions of R58 and R234. -/
inductive CpCause where
  | loadAccessFault | storeAccessFault | loadMisaligned | storeMisaligned
  deriving DecidableEq, Repr, Inhabited

/-- Who asked for a near-memory access that the channel reports on (R250): nobody on this chip that receives a status,
a control processor, a taken descriptor (by its identity), or a request that came over the fabric. -/
inductive Requester where
  | none | cp (core : Nat) | desc (id : Nat) | fabric (chip tag : Nat)
  deriving DecidableEq, Repr, Inhabited

/-- What the hardware sets of a status register in the cycle of a write to it (R13): the bits, the code of what set a `FAULT` bit among
them, and the far pool of an `UNREACH`. -/
structure HwSets where
  bits : W64
  st : Status := .ok
  pool : Nat := 0
  deriving DecidableEq, Repr, Inhabited

/-- A near-memory data burst as it is received (R249): its 64 bytes and its CRC. -/
structure Burst where
  data : List Byte
  crc : Nat
  deriving DecidableEq, Repr, Inhabited

/-- One memory-side add request (R256). -/
structure AddReq where
  block : Nat
  fmt : Nat
  data : List Byte
  mask : Nat
  ordered : Bool
  oseq : Nat
  olast : Bool
  sender : Requester
  deriving DecidableEq, Repr, Inhabited

/-- The packet types of R439, and its reserved codes 9 to 15. -/
inductive PType where
  | write | read | readData | add | atomic | signal | check | cmpl | sync | rsvd (code : Nat)
  deriving DecidableEq, Repr, Inhabited

/-- One fabric packet (R439): the fields of its header and its data bytes. `lenM1` is the header's `len_m1`. -/
structure Packet where
  version : Nat := 1
  ptype : PType
  dst : Nat
  src : Nat
  tag : Nat
  longway : Bool := false
  dateline : Bool := false
  ldir : Nat := 0
  lenM1 : Nat
  addr : Nat
  aux : Nat
  data : List Byte
  deriving DecidableEq, Repr, Inhabited

/-- A link flit as it was received (R438): bytes 0 to 251, and the CRC-32 of bytes 252 to 255. -/
structure FlitWire where
  bytes : List Byte
  crc : Nat
  deriving DecidableEq, Repr, Inhabited

/-- The three paths to the dictionary (R548, R552), and a request forwarded from another chip (R555), with the
requester's identity on its path (R554): a logical core, nothing, a MAC address, or the original identity and chip. -/
inductive Path where
  | mailbox (core : Nat)
  | bridge
  | field (mac : Nat)
  | forwarded (fromBridge : Bool) (core chip role : Nat)
  deriving DecidableEq, Repr, Inhabited

/-- A dictionary message (R549): its header fields and data. -/
structure Msg where
  mver : Nat := 1
  mtype : Nat := 0
  cmd : Nat
  seq : Nat
  index : Nat := 0
  sub : Nat := 0
  last : Bool := true
  chip : Nat := 0x3FFF
  rsvd : Nat := 0
  txn : Nat := 0
  status : Nat := 0
  len : Nat := 0
  offset : Nat := 0
  ftAt : Nat := 0
  data : List Byte := []
  deriving DecidableEq, Repr, Inhabited

/-- What a port's training finds (R445 to R449): the lanes that every phase found good here and those of the mask that the other end sent,
the position at which each lane arrives (8 where it is found nowhere), the lanes that arrive inverted, and the identity received. -/
structure TrainResult where
  here : Nat
  there : Nat
  places : List Nat
  inverted : Nat
  peerVersion : Nat
  peerChip : Nat
  peerPort : Nat
  deriving DecidableEq, Repr, Inhabited

/-- An upset of the memories that a later read meets: a symbol of a near-memory block's 68 changed by a difference (R253), one more bit
in error of an 8-byte word of tile memory or the tag store (R235), or of a word of a cached line (word 8: its tag, R236). -/
inductive Upset where
  | near (block symbol : Nat) (diff : Byte)
  | tile (core off : Nat)
  | cache (core line word : Nat)
  deriving DecidableEq, Repr, Inhabited

/-- A picture: its size, its luma plane, and its two chroma planes of half the size in each direction, in raster order. -/
structure Pic where
  w : Nat := 0
  h : Nat := 0
  y : List Nat := []
  cb : List Nat := []
  cr : List Nat := []
  deriving DecidableEq, Repr, Inhabited

/-- What the coding standards make of one picture of a unit (R500, R516, R518). `pic` is the decoded picture, its in-loop filters stopping
at the boundaries of the concealed 16 × 16 luma blocks that `blocks` lists in raster order; `crop` the part to be output, as first column
and row, width and height; `rank` its `out_seq`; `decodes` is false for a frame that is only shown again, `due` says that it is to be
output at some time, `doneFt` is when it was complete. `drops` are the buffers that lose their reference before it, `shows` the buffers
output after it, in order (none: its own); `bins` has for each 16 × 16 luma block, in raster order, the bins or symbols decoded by its end. -/
structure PicOut where
  decodes : Bool := true
  ref : Bool := false
  due : Bool := true
  doneFt : Nat := 0
  drops : List Nat := []
  shows : List (Option Nat) := []
  inter : Bool := false
  rank : Int := 0
  pic : Pic := {}
  crop : Nat × Nat × Nat × Nat := (0, 0, 0, 0)
  blocks : List Nat := []
  bins : List Nat := []
  reason : Nat := 0
  deriving DecidableEq, Repr, Inhabited

/-- The blocks concealed (R499). -/
def PicOut.conceal (p : PicOut) : Nat := p.blocks.length

/-- What the coding standards make of one access unit or temporal unit (R514 to R516): whether it begins at a random access point,
whether it is corrupt, the first reason met, whether a write was suppressed, the decoded picture buffer that its headers ask for, and its
pictures in decoding order. -/
structure UnitOut where
  rap : Bool := true
  corrupt : Bool := false
  reason : Nat := 0
  bounds : Bool := false
  dpb : Nat := 0
  pics : List PicOut := []
  deriving DecidableEq, Repr, Inhabited

/-- What an encoder makes of one picture (R511, R513): its slices or tile groups at the quantiser that the rate controller chooses, those at
the highest quantiser, and those of a picture of skipped blocks. -/
structure EncOut where
  parts : List (List Byte) := []
  again : List (List Byte) := []
  skip : List (List Byte) := []
  deriving DecidableEq, Repr, Inhabited

/-- A firmware image or package (R589): its signed bytes (header and ciphertext), its versions, and whether its body reads without an
error (step 6 of R581) and its header, its signature and its decryption pass R590 to R592. -/
structure FwImage where
  bytes : List Byte := []
  fw : Nat := 0
  compute : Nat := 0
  readOk : Bool := true
  headOk : Bool := true
  sigOk : Bool := true
  tagOk : Bool := true
  deriving DecidableEq, Repr, Inhabited

end Sys2Proof
end

