-- ==== Sys2Proof/Syntax.lean ====
section
/-! DEFINITION. The commands of the block: one constructor per row of spec/opcode_table.json, with the row's operands.
`core` is a logical core (R3), `q` a queue number (R311), `port` a port index (R428), `ch` a near-memory channel (R245),
`eng` an engine of the pair on the edge dies, `desc` the identity the fetch engine gave a taken descriptor. What the world
outside the chip decides (temperatures, energies, pin levels, what a peer answers) is an operand. -/

namespace Sys2Proof

/-- The commands. Each docstring-free row stands under its family; the rule that governs it is in the table. -/
inductive Instr where
  -- registers and control processors (R639, R13, R58, R241, R244)
  | registerWrite (off size : Nat) (val : W64)
  | w1cClear (off : Nat) (val : W64) (hwSets : HwSets)
  | cpAccess (core : Nat) (op : CpOp) (addr : W64) (size : Nat) (val : W64) (ups : List Upset)
  | rv64aAmo (core code : Nat) (wide : Bool) (addr : W64) (val : W64)
  | lr (core : Nat) (addr : W64) (size : Nat)
  | sc (core : Nat) (addr : W64) (size : Nat) (val : W64)
  -- time and fencing (R45, R51)
  | holdoverEntry
  | coreFence (core : Nat)
  -- matrix engine (R77, R116 to R118)
  | mmaStart (q : Nat)
  | mmaContinue (q : Nat)
  | mmaFinish (q : Nat)
  | matrixSave (q : Nat)
  | matrixRestore (q : Nat)
  | ftqFlush (core : Nat)
  -- vector engine (R134, R172)
  | epi (q : Nat)
  | binary (q : Nat)
  | statP1 (q : Nat)
  | statP2 (q : Nat)
  | smaxAcc (q : Nat)
  | smaxNorm (q : Nat)
  | norm (q : Nat)
  | permute (q : Nat)
  | shuffle (q : Nat)
  | convert (q : Nat)
  | loadTable (q : Nat)
  | bufClear (core : Nat)
  -- attention sequencer (R188 to R202); `n` bounds the streamed blocks walked in this step
  | fwd (q n : Nat)
  | recomp (q n : Nat)
  | bwdQ (q n : Nat)
  | bwdKv (q n : Nat)
  | append (q : Nat)
  | prefetch (q : Nat)
  | release (q : Nat)
  | yield (core : Nat)
  | pageSpillComplete (pool frame : Nat)
  | useByExpiry (pool frame : Nat)
  | seqSlotWrite (slot : Nat) (val : BitVec 512)
  | poolWrite (pool : Nat) (val : BitVec 512)
  -- core cache (R239 to R243)
  | ccClean (core : Nat)
  | ccInvalidate (core : Nat)
  | ccCleanInvalidate (core : Nat)
  | amoIntegerAdd (core : Nat) (wide : Bool)
  | amoSignedMinimum (core : Nat) (wide : Bool)
  | amoSignedMaximum (core : Nat) (wide : Bool)
  | amoUnsignedMinimum (core : Nat) (wide : Bool)
  | amoUnsignedMaximum (core : Nat) (wide : Bool)
  | amoSwap (core : Nat) (wide : Bool)
  | amoCompareAndSwap (core : Nat) (wide : Bool)
  | amoFp32Add (core : Nat)
  | amoFp32Minimum (core : Nat)
  | amoFp32Maximum (core : Nat)
  | amoResultRead (core : Nat)
  -- memory stacks (R250 to R261)
  | burstCrcFail (addr resends : Nat) (burst : Burst)
  | odecReport (stack corrections : Nat)
  | scrubRead (addr : Nat) (ups : List Upset)
  | addRequest (r : AddReq)
  | addResend (ix : Nat)
  | writebackResend (core ix : Nat)
  | stackTempSample (stack : Nat) (temp : Int)
  -- tiered range (R284 to R306)
  | create
  | free
  | migrate
  | place
  | bump
  | transitWaitEnd (desc : Nat)
  | farPoolWrite (pool : Nat) (val : BitVec 256)
  | reachableLoss (pool : Nat) (peerReset : Bool)
  | reachableRestore (pool : Nat)
  | farTimeout (desc : Nat)
  | fallbackFire (desc : Nat)
  | hwmClear
  | tierEnable
  -- queues (R315 to R321, R638); `core` is the core whose control block is written
  | enable (core q : Nat) (neighbourAdmits : Bool)
  | disable (core q : Nat)
  | pause (core q : Nat)
  | resume (core q : Nat)
  | setEpoch (core q : Nat)
  | pauseCtx (core : Nat)
  | resumeCtx (core : Nat)
  | flushStats (core : Nat)
  | qDoorbell (core : Nat) (val : W64)
  | doorbellHeldApply (q : Nat)
  -- descriptors (R322 to R354)
  | copy (q : Nat)
  | add (q : Nat)
  | atomic (q : Nat)
  | signal (q : Nat)
  | descriptorComplete (desc : Nat)
  | stallFlush (die : Nat)
  | watchdogEval
  -- semaphores and barriers (R367 to R390); `core` is the control processor that asks
  | semSignal (core sem : Nat) (n : W32)
  | decrement (core sem : Nat) (n : W32)
  | semInit (core sem : Nat) (n : W32) (thr : BitVec 16)
  | semFree (core sem : Nat)
  | arrive (core bar part : Nat)
  | barInit (core bar : Nat)
  | barFree (core bar : Nat)
  | fabricArrival (bar chip : Nat) (round : W32)
  | fabricRelease (bar rootChip : Nat) (round : W32)
  | fabricFaultMessage (bar rootChip : Nat) (poison : Bool)
  | semaphoreWait (core sem : Nat) (n : W32) (consume : Bool)
  | swArrive (core bar part : Nat)
  | swWait (core bar : Nat) (round : W32)
  | arriveWait (core bar part : Nat)
  | swTimeout (core : Nat)
  | swResultRead (core : Nat)
  | set (source : Nat)
  | complete (source : Nat)
  | manualRelease (source : Nat)
  | manualFree (source : Nat)
  | poisonCtx (ctx : Nat)
  -- update unit (R402 to R418)
  | opt (q : Nat)
  | blockReread (q : Nat)
  | chain (q : Nat)
  | chainDecision (core : Nat)
  | chainHeaderArrival (core : Nat) (bytes : List Byte)
  | chainChunkArrival (core : Nat) (bytes : List Byte)
  | chainTrailerArrival (core : Nat) (bytes : List Byte)
  | lateCopy (core : Nat)
  | graceEnd (core : Nat)
  | lateFold (core : Nat)
  -- links (R437 to R453)
  | dataFlit (port : Nat) (wire : FlitWire) (corrected uncorrectable seq ack vc crVc credits : Nat) (pkts : List Packet)
  | idleFlit (port : Nat) (wire : FlitWire) (corrected uncorrectable ack crVc credits : Nat)
  | nak (port : Nat) (wire : FlitWire) (corrected uncorrectable expected ack crVc credits : Nat)
  | replayTimeout (port : Nat)
  | trainingPhaseTimeout (port : Nat)
  | trainingEnd (port : Nat) (found : TrainResult)
  | laneSerExceed (port lane : Nat)
  | downRetry (port : Nat)
  | ident (port version chip peerPort : Nat)
  | timeExchange
  | timeFlit (port : Nat) (reply valid holdover : Bool) (errBound : Nat) (t1 t2 t3 : W64)
  | ppsEdge
  | linkStateAnnounce (chip : Nat) (up : Nat)
  -- packets (R335, R439)
  | writePacket (p : Packet)
  | read (p : Packet)
  | readData (p : Packet)
  | addPacket (p : Packet)
  | atomicPacket (p : Packet)
  | signalPacket (p : Packet)
  | check (p : Packet)
  | cmpl (p : Packet)
  -- host bridge (R454 to R458, R616)
  | hostApertureRequest (isWrite : Bool) (off : Nat) (len : Nat) (data : List Byte)
  | pcieConfigRequest (isWrite : Bool) (off : Nat) (val : W32)
  | perstN
  | flr
  -- port control (R445, R449, R637)
  | reident (port : Nat)
  | portRetrain (port : Nat)
  | portDisable (port : Nat)
  | portDisableComplete (port : Nat)
  | portEnable (port : Nat)
  -- shard code engines and wear (R466 to R488)
  | snap (eng : Nat) (cmd : W64)
  | snapStart (eng : Nat)
  | scRestore (eng : Nat) (cmd : W64) (remote : List (Nat × List Byte))
  | scCheck (eng : Nat) (cmd : W64) (remote : List (Nat × List Byte))
  | dramBankCopyEnd (ch die bank : Nat)
  | retireLoad (role : Nat) (bytes : List Byte)
  | lifeSaveNow (role : Nat)
  | lifetimeSave
  -- media engines (R498 to R511)
  | openSession (eng : Nat)
  | closeSession (eng : Nat)
  | decode (eng : Nat)
  | encode (eng : Nat)
  | flush (eng : Nat)
  | frameBufferWaitEnd (eng : Nat)
  | patchBlockWrite (eng : Nat)
  | mxRelease (eng : Nat) (val : W32)
  | abort (eng : Nat)
  -- power and heat (R523 to R538, R626)
  | windowBoundary (measured uncore : Nat)
  | pmbusTelemetry (uncoreMeasured uncoreCounted : Nat) (phasePct : List Nat) (vcoreMv : Nat)
  | thermalAdjust (temps : List Int)
  | clockSwitch (core : Nat)
  | thermalTrip (stack : Bool) (unit : Nat)
  | thermNAssert
  | thermNRelease
  | thermNStuck
  | overcurrentWarning
  | undervoltageWarning
  | regulatorFault
  -- dictionary (R545 to R568)
  | write (path : Path) (m : Msg)
  | dictRead (path : Path) (m : Msg)
  | describe (path : Path) (m : Msg)
  | discover (path : Path) (m : Msg)
  | txnBegin (path : Path) (m : Msg)
  | txnStage (path : Path) (m : Msg)
  | txnCommit (path : Path) (m : Msg)
  | txnAbort (path : Path) (m : Msg)
  | scheduledCommit (txn : Nat)
  | txnIdleTimeout (txn : Nat)
  -- device control (R570, R571)
  | goReady (path : Path)
  | start (path : Path)
  | drain (path : Path)
  | drainComplete
  | reconfig (path : Path)
  | resetCmd (path : Path)
  | resetDelayExpiry
  -- mailbox and field network (R558 to R561)
  | mbClaim (core : Nat)
  | mbClaimRelease (core : Nat)
  | go (core : Nat)
  | mbRelease (path : Path)
  | pairShort
  | shortRetry (seen : Bool)
  | noBeacon
  | beaconResume
  | idConflict
  | stateEvent
  -- reset and start-up (R581, R613, R615, R536)
  | resetNAssert
  | resetNRelease (mode : Nat) (warm : Bool) (failedCores : List Nat)
  | railEvent (rail : Nat) (clockLost : Bool)
  | bootRrTimeout
  | temperatureGate
  -- firmware (R595 to R600)
  | fwBegin (path : Path)
  | fwUpdData (path : Path) (offset : Nat) (bytes : List Byte)
  | finish (path : Path)
  | cancel (path : Path)
  | activate (path : Path) (maxPause : Nat)
  | flashWriteEnd (verified : Bool)
  | pdcBlob (path : Path) (bytes : List Byte)
  | quoteNonce (path : Path) (nonce : List Byte)
  | quoteComplete
  -- test access port (R621 to R625)
  | extest (cells : BitVec 272)
  | samplePreload (cells : BitVec 272)
  | idcode
  | clamp
  | highz
  | ecidcode
  | extestPulse (cells : BitVec 272)
  | extestTrain (cells : BitVec 272)
  | bypass
  | trstN
  -- later rows of the table (R613, R250, R224, R458, R557, R487, R537)
  | supplyInRange
  | channelRetrainEnd (ch : Nat) (ok : Bool)
  | pageRecallComplete (pool frame : Nat)
  | perstNRelease
  | badFrame
  | histogramSample (entry : Nat) (bin : Nat)
  | overcurrentCapEnd
  deriving DecidableEq, Repr, Inhabited

end Sys2Proof
end

