-- ==== Sys2Proof/Decode.lean ====
section
/-! DEFINITION. The commands that a word spells. No row of spec/opcode_table.json gives bits (every row's field list is empty), so
no word spells a command: the block has no instruction words. -/

namespace Sys2Proof

/-- The command that the low `nbits` bits of `w` spell by the table: none, since the table gives no row bits. -/
def decodeTableWord (_nbits _w : Nat) : Option Instr := none

end Sys2Proof
end

