-- ==== Sys2Proof/Config.lean ====
section
/-! DEFINITION. What an implementation fixes and the free values: the numbers of units, and the opaque constants whose value
nothing in Lean can know. -/

namespace Sys2Proof

/-- Logical cores (R3). -/
def Config.cores : Nat := 144
/-- Queues (R311). -/
def Config.queues : Nat := 1048576
/-- Semaphores (R363). -/
def Config.sems : Nat := 65536
/-- Barriers (R363). -/
def Config.bars : Nat := 4096
/-- Fabric ports, the halves of port H included (R312, R428). -/
def Config.ports : Nat := 14
/-- Near-memory channels (R245). -/
def Config.channels : Nat := 256
/-- Bytes of near memory (R55). -/
def Config.nearBytes : Nat := 0xC000000000

/-- FREE VALUE. Byte `i` of the `draw`-th undefined extent. -/
opaque Config.freeByte : Nat → Nat → Byte
/-- FREE VALUE. Word `i` of the `draw`-th undefined register or result. -/
opaque Config.freeWord : Nat → Nat → W64

/-- FREE VALUE. DRAM die, bank and row of a near-memory address within its channel; the mapping belongs to the stack
controller (R248). -/
opaque Config.dramPlace : Nat → Nat × Nat × Nat
/-- FREE VALUE. The 2 MiB pages that hold a byte of a row of a channel, die and bank (R248, R477). -/
opaque Config.rowPages : Nat → Nat → Nat → Nat → List Nat

/-- FREE VALUE. The three coefficients of segment `i` of the built-in table of a slot under a `COMPUTE_VERSION` (R159, R636). -/
opaque Config.builtinCoef : Nat → Nat → Nat → W32 × W32 × W32

/-- FREE VALUE. The result of an XF operation (0 add, 1 subtract, 2 multiply, 3 divide) on its operands, where XF cannot hold it: a NaN,
an infinity or an exponent beyond its 16 bits (R164). -/
opaque Config.xfOver : Nat → W64 → W64 → W64

/-- FREE VALUE. A byte that a far pool holds where nothing has been written since its contents were last lost: pool, losses,
address (R285, R295). -/
opaque Config.farByte : Nat → Nat → Nat → Byte

/-- FREE VALUE. The frame that a manager takes among those that are free (R220, R290, R293): draw, and how many there are to choose
from. -/
opaque Config.freeFrame : Nat → Nat → Nat

/-- FREE VALUE. The staging slot of the `i`-th block that an attention item stages, and the scratch tile of its `i`-th product
(R190). -/
opaque Config.stagingSlot : Nat → Nat
opaque Config.scratchTile : Nat → Nat

/-- FREE VALUE. What a session makes of its last unit, from its descriptor and every unit since OPEN: the coding standards are not
part of the manual (R493, R494, R518). -/
opaque Config.mediaUnit : BitVec 512 → List (List Byte) → UnitOut

/-- FREE VALUE. Film grain (R496, R518): a session's descriptor and units, a picture's `out_seq` and the picture without it. -/
opaque Config.filmGrain : BitVec 512 → List (List Byte) → Int → Pic → Pic

/-- FREE VALUE. What an encode session makes of its last picture, from its descriptor and, for each since OPEN, whether a key frame
was forced and the picture to be coded (R511). -/
opaque Config.mediaEncode : BitVec 512 → List (List Byte) → EncOut

/-- FREE VALUE. A byte of filler of an encode session (R511): its descriptor, how many bytes of filler there are, and which one. -/
opaque Config.mediaFiller : BitVec 512 → Nat → Nat → Byte

/-- FREE VALUE. The scaler of a `COMPUTE_VERSION` (R506, R518): a picture scaled to a width and height other than its own. -/
opaque Config.mediaScale : Nat → Nat → Nat → Pic → Pic

/-- FREE VALUE. SHAKE256 to 64 bytes (R589, R594, R596): the standard is not part of the manual. -/
opaque Config.shake : List Byte → List Byte
/-- FREE VALUE. Does the signature block of an image verify (R591)? -/
opaque Config.imageSigned : List Byte → Bool
/-- FREE VALUE. Does an image decrypt on the device of a serial number (R592)? -/
opaque Config.imageOpens : BitVec 64 → List Byte → Bool
/-- FREE VALUE. The plaintext of an image on the device of a serial number, and a plaintext encrypted under a header (R592, R600). -/
opaque Config.imagePlain : BitVec 64 → List Byte → List Byte
opaque Config.imageSeal : BitVec 64 → List Byte → List Byte → List Byte
/-- FREE VALUE. Does the signature of a contents blob verify (R594)? -/
opaque Config.blobSigned : List Byte → Bool
/-- FREE VALUE. The signature of a quote by the device of a serial number (R596). -/
opaque Config.quoteSig : BitVec 64 → List Byte → List Byte
/-- FREE VALUE. `KEM_EK`, `ATT_PK` and `ATT_CERT` of the device of a serial number (R587, R588): which one, and the serial number. -/
opaque Config.identity : Nat → BitVec 64 → List Byte
/-- FREE VALUE. A byte of the running image in near memory (R585): which load of it, and the address. -/
opaque Config.fwByte : Nat → Nat → Byte
/-- FREE VALUE. `PWR_FLOOR_W` of the part (R523), and what firmware fixes of a histogram: lower edge, bin width, period (R487). -/
opaque Config.floorW : Nat
/-- Is the pair of the field network wired reversed (R558)? The board decides it, and no command changes it: a free value. -/
opaque Config.pairReversed : Bool
opaque Config.histLo : Nat → W32
opaque Config.histWidth : Nat → W32
opaque Config.histPeriod : Nat → W32

end Sys2Proof
end

