-- ==== Sys2Proof/Machine/Store.lean ====
section
/-! DEFINITION. Sparse stores in one canonical form (keys strictly rising, no entry equal to the default), bit fields of
numbers, and little-endian byte lists. -/

namespace Sys2Proof.Machine

/-- A sparse map from keys to values: every unlisted key holds the default that the reader states. -/
abbrev Store (α : Type) := List (Nat × α)

/-- The value at key `k`; `d` where nothing is listed. -/
def Store.get {α : Type} (d : α) : Store α → Nat → α
  | [], _ => d
  | (a, v) :: rest, k => if k = a then v else if k < a then d else Store.get d rest k

/-- What follows an entry at key `a` that goes; in a list whose keys do not rise the entry stays, at the default, so that every key
reads right in any list. -/
def Store.dropAt {α : Type} (d : α) (a : Nat) : Store α → Store α
  | [] => []
  | (b, w) :: rest => if a < b then (b, w) :: rest else (a, d) :: (b, w) :: rest

/-- The store without an entry at key `k`. -/
def Store.drop {α : Type} (d : α) : Store α → Nat → Store α
  | [], _ => []
  | (a, v) :: rest, k =>
    if k = a then Store.dropAt d a rest else if k < a then (a, v) :: rest else (a, v) :: Store.drop d rest k

/-- The store with `v` at key `k`, whatever `v` is. -/
def Store.put {α : Type} : Store α → Nat → α → Store α
  | [], k, v => [(k, v)]
  | (a, w) :: rest, k, v =>
    if k = a then (k, v) :: rest else if k < a then (k, v) :: (a, w) :: rest else (a, w) :: Store.put rest k v

/-- The store with `v` at key `k`, kept canonical: writing the default removes the entry. -/
def Store.set {α : Type} [DecidableEq α] (d : α) (m : Store α) (k : Nat) (v : α) : Store α :=
  if v = d then Store.drop d m k else Store.put m k v

/-- Every listed key is above `lo` (when there is one) and the keys rise strictly; no entry holds the default. -/
def Store.wfFrom {α : Type} [DecidableEq α] (d : α) : Option Nat → Store α → Bool
  | _, [] => true
  | lo, (a, v) :: rest =>
    (match lo with
      | none => true
      | some l => decide (l < a)) && decide (v ≠ d) && Store.wfFrom d (some a) rest

/-- The canonical form of a store. -/
def Store.wf {α : Type} [DecidableEq α] (d : α) (m : Store α) : Bool := Store.wfFrom d none m

/-- The store without the keys that `p` names. -/
def Store.erase {α : Type} (d : α) (p : Nat → Bool) : Store α → Store α
  | [] => []
  | (a, v) :: rest => if p a then Store.dropAt d a (Store.erase d p rest) else (a, v) :: Store.erase d p rest

/-- The store built by setting each of `l` in turn. -/
def Store.setAll {α : Type} [DecidableEq α] (d : α) (m : Store α) (l : List (Nat × α)) : Store α :=
  l.foldl (fun acc e => Store.set d acc e.1 e.2) m

/-- Bits [hi:lo] of `x`. -/
def bits (x hi lo : Nat) : Nat := (x >>> lo) % 2 ^ (hi + 1 - lo)

/-- Bit `i` of `x`. -/
def bitAt (x i : Nat) : Bool := x.testBit i

/-- `x` with bits [hi:lo] replaced by `v`. -/
def setBits (x hi lo v : Nat) : Nat :=
  x - (bits x hi lo <<< lo) + ((v % 2 ^ (hi + 1 - lo)) <<< lo)

/-- The two's-complement reading of the low `w` bits of `x`. -/
def signed (w x : Nat) : Int := if x % 2 ^ w < 2 ^ (w - 1) then ((x % 2 ^ w : Nat) : Int) else ((x % 2 ^ w : Nat) : Int) - 2 ^ w

/-- The low `w` bits of the two's-complement form of `i`. -/
def unsigned (w : Nat) (i : Int) : Nat := (i % (2 ^ w : Int)).toNat

/-- 1 for true. -/
def b2n (b : Bool) : Nat := if b then 1 else 0

/-- The number a little-endian byte list stands for. -/
def leNat : List Byte → Nat
  | [] => 0
  | b :: rest => b.toNat + 256 * leNat rest

/-- The `n` low bytes of `x`, little-endian. -/
def leBytes : Nat → Nat → List Byte
  | 0, _ => []
  | n + 1, x => BitVec.ofNat 8 x :: leBytes n (x / 256)

/-- Round `x` up to a multiple of `m`. -/
def roundUp (x m : Nat) : Nat := (x + m - 1) / m * m

/-- Ceiling division. -/
def ceilDiv (x m : Nat) : Nat := (x + m - 1) / m

/-- Do [a, a + n) and [b, b + m) share a number? -/
def overlaps (a n b m : Nat) : Bool := decide (a < b + m) && decide (b < a + n) && decide (0 < n) && decide (0 < m)

/-- Does some pair of the extents in the list overlap? -/
def anyOverlap : List (Nat × Nat) → Bool
  | [] => false
  | e :: rest => rest.any (fun f => overlaps e.1 e.2 f.1 f.2) || anyOverlap rest

end Sys2Proof.Machine
end

