-- ==== Sys2Proof/Machine/State.lean ====
section
/-! DEFINITION. The state of the block: everything the spec gives the device, as plain data, and State.reset, the device
with RESET_N held low (R391, R361, R309, R522, R544, R575, R635 and the Reset columns). Registers that the spec places in the
control and status window are held in one store keyed by their window offset (R57), at the width of the register. -/

namespace Sys2Proof.Machine

/-- Why the block can stop. -/
inductive Fault where
  /-- The command names a unit, an index or an extent that the device does not have (a core above 143, a port above 13, a
  queue above 1,048,575, a semaphore above 65,535). Raised by every meaning that takes such an operand. Safe: no such
  command can reach the device. -/
  | noSuchUnit (what : String)
  deriving DecidableEq, Repr

/-- Why a command is turned away by the model. -/
inductive Refusal where
  /-- The command has no meaning in this model. Raised by exec's arms alone. Safe. -/
  | notModelled (mnemonic : String)
  deriving DecidableEq, Repr

/-! ### Cores and engines -/

/-- One accumulator tile (R75, R76, R110): its key, its owner queue, and its 4,096 words of 96 bits; a word that `words`
does not list holds `fill`. -/
structure AccTile where
  key : W64 := 0x1000000000000000#64
  owner : Option Nat := none
  fill : BitVec 96 := 0
  words : Store (BitVec 96) := []
  deriving DecidableEq, Repr, Inhabited

/-- One complete entry of the finished-tile queue (R113): its valid rows and columns, its tag, and the words of the valid
part at index 64r + c. -/
structure FtqEntry where
  m : Nat := 0
  n : Nat := 0
  tag : W128 := 0
  words : Store W32 := []
  deriving DecidableEq, Repr, Inhabited

/-- One tile buffer (R128): 4,096 FP32 words (unlisted ones +0.0), valid rows and columns, and a tag. -/
structure TileBuf where
  m : Nat := 0
  n : Nat := 0
  tag : W128 := 0
  words : Store W32 := []
  deriving DecidableEq, Repr, Inhabited

/-- One bank of a table slot (R146, R156): the header's bits and the segments' three coefficients. A bank with
`header` zero is empty. `builtin` names the built-in table it holds (R159), whose coefficients are fixed by the firmware. -/
structure TableBank where
  header : BitVec 512 := 0
  builtin : Option Nat := none
  segs : List (W32 × W32 × W32) := []
  deriving DecidableEq, Repr, Inhabited

/-- An item between take and completion (R320, R373): its ring index, its 64 bytes, and whether its waits have been
satisfied (their decrements already applied). -/
structure Held where
  index : W32 := 0
  item : BitVec 512 := 0
  satisfied : Bool := false
  seq : Nat := 0
  deriving DecidableEq, Repr, Inhabited

/-- The page of a key/value pool (R216): its slot, layer, key/value head and page number, and the near-memory address of its page-table
entry, by the slot's entry as the item that asked for the page read it (R186). -/
structure KvPage where
  pte : Nat
  slot : Nat
  layer : Nat
  kvh : Nat
  page : Nat
  deriving DecidableEq, Repr, Inhabited

/-- An attention item under way (R195, R202): its queue, ring index and bits, the next streamed block, the pages that an APPEND
has obtained so far, since when a fetch has waited for an unreachable pool, and its slot's entry as it began (R186). -/
structure AsWalk where
  queue : Nat
  index : W32
  item : BitVec 512
  next : Nat
  pages : List KvPage := []
  farSince : Option Nat := none
  slot : BitVec 512 := 0
  deriving DecidableEq, Repr, Inhabited

/-- A vector item under way (R130, R131): its queue, the next of its tiles, the row-state rows it has in hand, as images of
64 bytes keyed by row, and the sequence slots as it began (R186). -/
structure VeWalk where
  queue : Nat
  next : Nat := 0
  rows : Store (BitVec 512) := []
  slots : Store (BitVec 512) := []
  deriving DecidableEq, Repr, Inhabited

/-- A control-processor wait request (R384, R385). `kind` is KIND; for a barrier, `n` is the round waited for; `start` is the
control cycle in which it began; `stalled` says that the processor waits in a read of `SW_RESULT`, of `size` bytes from
byte `part`. -/
structure SwReq where
  kind : Nat
  index : Nat
  n : W32
  consume : Bool
  start : Nat := 0
  stalled : Bool := false
  part : Nat := 0
  size : Nat := 8
  deriving DecidableEq, Repr, Inhabited

/-- A load-reserved reservation (R244): its line and the control cycle in which it expires. -/
structure Reservation where
  line : Nat
  expires : Nat
  deriving DecidableEq, Repr, Inhabited

/-- A line of a core cache (R236): its near-memory line number, its 64 bytes, whether it is dirty, and the words with a bit in error,
once for each bit (8 is the tag). -/
structure CLine where
  valid : Bool := false
  line : Nat := 0
  dirty : Bool := false
  data : BitVec 512 := 0
  err : List Nat := []
  deriving DecidableEq, Repr, Inhabited

/-- What a CHAIN item under way waits for (R405 to R418). -/
inductive ChainStage where
  | header | decision | chunks | trailer | grace | claim | tailWait | ending
  deriving DecidableEq, Repr, Inhabited

/-- A transfer that a member has sent to another chip (R408): the number its requests carry, the acknowledgements owed, and the chip and
semaphore to signal after it. -/
structure ChainSend where
  id : Nat
  owed : Nat
  chip : Nat
  sem : Option Nat
  deriving DecidableEq, Repr, Inhabited

/-- The fold instant F of a tail (R413): FT at F, the late slots whose entries were valid then, and whether the tail's own contribution
was there. -/
structure FoldPoint where
  ft : Nat
  slots : List Nat
  own : Bool
  deriving DecidableEq, Repr, Inhabited

/-- A CHAIN item under way on a core's update unit: its descriptor and translated ranks, the forced masks, the header (as it
arrived, then as it left), whether it arrived non-empty, its decision, the next chunk, the running `sum_sq`, its waits on `ctb_sem`
(`satisfied`) and `arr_sem` (`arrived`), the answers of holders' checks still owed, the old value of the late claim, the transfers
sent and not yet acknowledged, oldest first, and the fold instant once it has come. -/
structure ChainRun where
  queue : Nat
  item : BitVec 512
  cd : BitVec 512
  succChip : Nat
  tailChip : Nat
  force : Nat
  beganFt : Nat
  stage : ChainStage
  hdr : List Byte
  headerFt : Nat := 0
  nonempty : Bool := false
  included : Bool := false
  tk : Nat := 0
  chunk : Nat := 0
  sumSq : W32 := 0
  satisfied : Bool := false
  satisfiedFt : Nat := 0
  satisfiedPrev : Nat := 0
  arrived : Bool := false
  arrivedFt : Nat := 0
  checks : Nat := 0
  claimed : Option Nat := none
  sends : List ChainSend := []
  nextSend : Nat := 0
  mainEndFt : Nat := 0
  fold : Option FoldPoint := none
  deriving DecidableEq, Repr, Inhabited

/-- What the spec gives one logical core beside its registers, its memories and its engines' stores. `cpValue` is the value
the last load, atomic, counter or result read delivered to the control processor, `scheduled` says that it has started a schedule
program (R124), `cpExc` the last exception raised in it and its address. -/
structure Core where
  fenced : Bool := false
  scheduled : Bool := false
  phys : Option Nat := none
  absent : Bool := false
  cpValue : W64 := 0
  cpExc : Option (CpCause × W64) := none
  lr : Option Reservation := none
  sw : Option SwReq := none
  walk : Option AsWalk := none
  yieldPending : Bool := false
  vec : Option VeWalk := none
  bufClear : Bool := false
  chain : Option ChainRun := none
  optWait : Option (Nat × Nat) := none
  deriving DecidableEq, Repr, Inhabited

/-! ### Memories -/

/-- One near-memory channel (R250, R251, R258): open rounds (block, next `oseq`), held ordered requests, the FT instants at which re-sends
were exhausted, the failed and retraining marks, and the control cycle until which its last re-send lasts (R247). -/
structure Chan where
  rounds : List (Nat × Nat) := []
  window : List AddReq := []
  exhausted : List Nat := []
  failed : Bool := false
  retraining : Bool := false
  resendUntil : Nat := 0
  deriving DecidableEq, Repr, Inhabited

/-- A cache write-back that met an open round and waits to be re-sent (R260); `maint` says that a maintenance operation waits
for it (R239). -/
structure WbWait where
  core : Nat
  line : Nat
  bytes : List Byte
  notBefore : Nat
  maint : Bool := false
  deriving DecidableEq, Repr, Inhabited

/-- An ordered add request refused for want of an entry, held by its sender until its re-send (R259). -/
structure AddWait where
  req : AddReq
  notBefore : Nat
  deriving DecidableEq, Repr, Inhabited

/-- The memories of the chip. `near` is physical near memory (R55); `tile` every core's window, keyed by
core × 2^24 + window offset, the tag store included (R56); `badNear` the 64-byte blocks found uncorrectable (R254), `badTile` the
8-byte words found so (R235); `nearErr` and `tileErr` the errors that no read has met yet: a block's symbols and their differences, a
word's bits in error; `burstBad` the blocks whose next burst ends with its re-sends exhausted (R250); `cache` is keyed by core × 16,384 + set × 16 + way and `plru` by core × 1,024 + set (R236). -/
structure MemSt where
  near : Store Byte := []
  tile : Store Byte := []
  badNear : Store Bool := []
  badTile : Store Bool := []
  nearErr : Store (List (Nat × Byte)) := []
  tileErr : Store Nat := []
  burstBad : List Nat := []
  cache : Store CLine := []
  plru : Store Nat := []
  chans : Store Chan := []
  wbWaits : List WbWait := []
  addWaits : List AddWait := []
  deriving DecidableEq, Repr, Inhabited

/-! ### Queues and descriptors -/

/-- The queue states of R312. -/
inductive QState where
  | disabled | active | paused | stopped
  deriving DecidableEq, Repr, Inhabited

/-- A queue that the device holds (R312, R320, R347): its entry as written by software, and the fields the device keeps.
`ahead` lists the indices past `done` that have completed out of order; `held` is the item an execute engine has taken;
`heldTail` a doorbell held for want of a cache entry (R321); `readySince` and `heldEst` say since when its ready item has been passed
over, and with which estimate (R533); `pausedAt` and `resumedAt` the control cycle of its last PAUSE and of its last RESUME, the latter
with the core that gave it by its registers (R317). -/
structure Queue where
  cfg : BitVec 512 := 0
  state : QState := .disabled
  why : Nat := 0
  head : W32 := 0
  tail : W32 := 0
  done : W32 := 0
  ahead : List W32 := []
  faultStatus : Nat := 0
  faultIndex : W32 := 0
  enableFt : Nat := 0
  epoch : W64 := 0
  fin : Nat := 0
  admitted : Bool := false
  held : Option Held := none
  heldTail : Option W32 := none
  cached : Bool := false
  lastUse : Nat := 0
  waitSince : Option Nat := none
  readySince : Option Nat := none
  heldEst : Nat := 0
  pausedAt : Option W64 := none
  resumedAt : Option (W64 × Option Nat) := none
  deriving DecidableEq, Repr, Inhabited

/-- Where a taken descriptor stands (R333): waiting on its semaphore, waiting for a page in transit (R279), waiting for an
unreachable pool (R296), waiting for another chip's check (R335), moving, with its last byte acknowledged, or waiting for
every earlier descriptor of its queue (R331). -/
inductive DStage where
  | waiting | ordering | transit | unreachable | checking | moving | landed
  deriving DecidableEq, Repr, Inhabited

/-- A descriptor between take and completion (R333 to R339). `data` holds what its reads from another chip have brought, at
row × 2^33 + offset; `landed` what it has left in tile memory, as core, offset and bytes (R41). -/
structure Desc where
  id : Nat
  core : Nat
  fe : Nat
  queue : Nat
  index : W32
  item : BitVec 512
  stage : DStage
  satisfied : Bool := false
  takeFt : Nat := 0
  deadline : Option Nat := none
  guarEnd : Option Nat := none
  since : Nat := 0
  status : Status := .ok
  outstanding : Nat := 0
  farRead : Bool := false
  beats : Bool := false
  fallback : Bool := false
  data : Store Byte := []
  landed : List (Nat × Nat × List Byte) := []
  deriving DecidableEq, Repr, Inhabited

/-- A destination buffer (R345): one of ours registered with a neighbour, or, with its chip, one that a neighbour's GUARANTEED queue has
registered here. -/
structure BufReg where
  chip : Option Nat := none
  queue : Nat
  base : Nat
  size : Nat
  slots : Nat
  deriving DecidableEq, Repr, Inhabited

/-- Queues, descriptors, admission and the stall counts gathered but not yet written (keyed by queue × 8 + cause, R352). -/
structure QueueSt where
  queues : Store Queue := []
  descs : List Desc := []
  nextDesc : Nat := 0
  ctxPaused : List Nat := []
  buffers : List BufReg := []
  stalls : Store Nat := []
  useClock : Nat := 0
  lastServed : Store Nat := []
  deriving DecidableEq, Repr, Inhabited

/-! ### Synchronisation -/

/-- The states of a semaphore (R366). -/
inductive SemState where
  | free | live | poisoned
  deriving DecidableEq, Repr, Inhabited

/-- Who waits on a semaphore: the item a queue's engine holds, a taken descriptor, a core's control processor, a CHAIN item's
contribution or its next transfer, or a media engine's patch block. -/
inductive Waiter where
  | item (q : Nat) | desc (id : Nat) | cp (core : Nat) | chain (core : Nat) | chainArr (core : Nat) | media (eng : Nat)
  deriving DecidableEq, Repr, Inhabited

/-- A semaphore (R366) with its registered waits, oldest first (R370). `riseFt` is FT when a signal last found its count at 0. -/
structure Sem where
  version : Nat := 0
  state : SemState := .free
  observe : Bool := false
  take : Nat := 0
  add : Nat := 0
  ownCore : Nat := 0
  ownCtx : Nat := 0
  rsvd : Nat := 0
  thr : Nat := 0
  count : W32 := 0
  riseFt : Nat := 0
  waiters : List Waiter := []
  deriving DecidableEq, Repr, Inhabited

/-- The states of a barrier (R374). -/
inductive BarState where
  | free | live | faulted | poisoned
  deriving DecidableEq, Repr, Inhabited

/-- A barrier (R374) with the control-processor waits registered on it (core and round). -/
structure Bar where
  version : Nat := 0
  state : BarState := .free
  sense : Bool := false
  fabric : Bool := false
  nPartM1 : Nat := 0
  ownCore : Nat := 0
  ownCtx : Nat := 0
  rootChip : Nat := 0
  nChipsM1 : Nat := 0
  relEn : Bool := false
  relSem : Nat := 0
  round : W32 := 0
  chipArr0 : Nat := 0
  chipArr1 : Nat := 0
  ovrPart : Nat := 0
  slot0 : BitVec 144 := 0
  slot1 : BitVec 144 := 0
  rsvd : Nat := 0
  sent : Bool := false
  waiters : List (Nat × W32) := []
  deriving DecidableEq, Repr, Inhabited

/-- One record of `SYNC_DBG_LOG` (R386). -/
structure DbgRec where
  ft : Nat
  obj : Nat
  op : Nat
  source : Nat
  arg : Nat
  old : Nat
  oldState : Nat
  deriving DecidableEq, Repr, Inhabited

/-- The synchronisation objects, the log of manual operations, and the waits registered in this control cycle, by semaphore (R370). -/
structure SyncSt where
  sems : Store Sem := []
  bars : Store Bar := []
  dbgLog : List DbgRec := []
  fresh : List (Nat × Waiter) := []
  deriving DecidableEq, Repr, Inhabited

/-! ### Tiered range and key/value pools -/

/-- A frame the tier manager has given to a page: near memory, or the far pool named (R290, R293). -/
structure TFrame where
  pool : Option Nat
  addr : Nat
  log2 : Nat
  obj : Nat
  page : Nat
  deriving DecidableEq, Repr, Inhabited

/-- The MIGRATE under way (R286): the pages completed, and the frame given to the page being moved. -/
structure TierRun where
  done : Nat := 0
  target : Option TFrame := none
  deriving DecidableEq, Repr, Inhabited

/-- A frame in use of a key/value pool (R216, R218): its page, whether it is in transit, its last access, and the latest `use_by`
of the PREFETCH pin, where there is one. -/
structure KvFrame where
  page : KvPage
  transit : Bool := false
  lastAccess : Nat := 0
  useBy : Option Nat := none
  deriving DecidableEq, Repr, Inhabited

/-- A copy that the pool manager has under way (R220, R224): a spill of a victim to a spill frame, after which the frame goes to
`next`, where it is still wanted (recalled from spill frame `src`, where there is one, and pinned until `useBy`), or a recall. -/
inductive KvMove where
  | spill (pool frame : Nat) (victim : KvPage) (far : Nat) (next : Option KvPage) (src useBy : Option Nat)
  | recall (pool frame : Nat) (page : KvPage) (far : Nat)
  deriving DecidableEq, Repr, Inhabited

/-- The tiered range and the key/value pools: the tier manager's frames and next free page-table node (R291), the MIGRATE under
way, the bytes written to far pools keyed by pool × 2^48 + address (R267) and how often each pool's contents were lost, the pools
to be written again after a peer's reset and those whose path was reported failed (`lost`, `away`, R295), each die's object translation
cache, as the offsets of its pages from the range's start (`xlat`, R276), far-pool, slot and pool entries (R292, R182, R213), the pools'
frames and spill frames keyed by pool × 2^24 + number, and the pool manager's copies under way. -/
structure TierSt where
  frames : List TFrame := []
  nodes : Nat := 0
  run : Option TierRun := none
  farMem : Store (Option Byte) := []
  farLosses : Store Nat := []
  lost : List Nat := []
  away : List Nat := []
  xlat : Store (List Nat) := []
  farPools : Store (BitVec 256) := []
  slots : Store (BitVec 512) := []
  pools : Store (BitVec 512) := []
  kvFrames : Store (Option KvFrame) := []
  kvSpills : Store (Option KvPage) := []
  kvMoves : List KvMove := []
  deriving DecidableEq, Repr, Inhabited

/-! ### Fabric -/

/-- What an outstanding request was sent for. -/
inductive Purpose where
  | descCheck (id : Nat) | descWrite (id : Nat) | descRead (id row : Nat) | descAdd (id : Nat) | descAtomic (id : Nat)
  | farSignal (sem : Nat) | chain (core send : Nat) | chainCheck (core : Nat) | scHeader (eng : Nat) | scData (eng : Nat)
  | scCrc (eng : Nat) | scSeal (eng : Nat) | sync | hostRead (tag : Nat) | hostWrite (off : Nat) | dict (p : Path) (m : Msg) | lateClaim (core : Nat)
  deriving DecidableEq, Repr, Inhabited

/-- A request sent to another chip and not yet answered. -/
structure OutReq where
  tag : Nat
  dst : Nat
  why : Purpose
  addr : Nat := 0
  deriving DecidableEq, Repr, Inhabited

/-- A flit in a replay buffer (R442): its sequence number, virtual channel and packets. -/
structure Flit where
  seq : Nat
  vc : Nat
  pkts : List Packet
  deriving DecidableEq, Repr, Inhabited

/-- One fabric port (R428, R438 to R449, R459). `fails` counts the re-sends of the oldest flit, `attempts` the trainings of the present
series that failed; `reident` says that an identity exchange has been asked for. -/
structure Port where
  link : LinkState := .down
  width : Nat := 0
  version : Nat := 0
  reversed : Bool := false
  lastStatus : Nat := 0
  active : Nat := 0
  inverted : Nat := 0
  retired : Nat := 0
  peerChip : Nat := 0
  peerPort : Nat := 0
  phase : TrainPhase := .idle
  fast : Bool := false
  attempts : Nat := 0
  prevWidth : Nat := 0
  everWidth : Nat := 0
  txSeq : Nat := 0
  rxSeq : Nat := 0
  gapNaked : Bool := false
  replay : List Flit := []
  queue : List Packet := []
  fails : Nat := 0
  lastProgress : Nat := 0
  credits : List Nat := [128, 128, 128, 128]
  disabling : Bool := false
  disabled : Bool := false
  nextTry : Option Nat := none
  reident : Bool := false
  deriving DecidableEq, Repr, Inhabited

/-- What the bridge answers to a host request (R455, R458): data, nothing but its end, Unsupported Request, Completer Abort or Request
Retry Status. -/
inductive HostAns where
  | data (bytes : List Byte) | done | unsupported | abort | retry
  deriving DecidableEq, Repr, Inhabited

/-- A descriptor of another chip that reads or writes here, as its check stated it (R335): its sender, its 64 bytes, the bytes (for an
ADD the requests) still missing of each row, the bytes to be widened that have come, at row × 2^33 + offset, and whether its first beat
has come. -/
structure Plan where
  src : Nat
  item : BitVec 512
  write : Bool
  left : List (Nat × Nat)
  data : Store Byte := []
  begun : Bool := false
  deriving DecidableEq, Repr, Inhabited

/-- The fabric, the time exchange and the host bridge. `lost` holds the tags of requests of this chip whose packets were discarded,
`hostOut` what the bridge has answered to the host, newest first, with the offset asked for, `plans` the other chips' descriptors that
need more here than their packets say, `parked` the packets of other chips' descriptors that wait here for a page in transit or for an
unreachable pool, with FT of their arrival (R279, R296), `timeSent` the TIME replies sent, by port. -/
structure FabSt where
  ports : Store Port := []
  outReqs : List OutReq := []
  nextTag : Nat := 0
  linkUp : Store Nat := []
  chipNum : Nat := 0
  shape : Nat := 0
  fabricShape : Nat := 0
  lastUpdate : Nat := 0
  lastEdge : Nat := 0
  expectedEdge : Option Nat := none
  slewNs : Int := 0
  timeAsked : Option Nat := none
  lastAsk : Nat := 0
  timeSent : List (Nat × Nat) := []
  errAt : Nat := 0
  lost : List Nat := []
  plans : List Plan := []
  parked : List (Nat × Packet) := []
  pcieUp : Bool := false
  busMaster : Bool := false
  perst : Bool := true
  pcieWidth : Nat := 0
  pcieRate : Nat := 0
  cfgRegs : Store W32 := []
  msix : List Nat := []
  hostOut : List (Nat × HostAns) := []
  deriving DecidableEq, Repr, Inhabited

/-! ### Snapshots, recovery and wear -/

/-- Where a shard code engine stands. -/
inductive ScStage where
  | idle | waiting | header | data | crc | seal
  deriving DecidableEq, Repr, Inhabited

/-- A shard code engine (R466, R469): its stage, the command's address and bits, answers still owed, and the CRC-32 of each piece that a
SNAP has sent. -/
structure ScEng where
  stage : ScStage := .idle
  cmdAddr : Nat := 0
  cmd : BitVec 512 := 0
  owed : Nat := 0
  crcs : List Nat := []
  status : Status := .ok
  deriving DecidableEq, Repr, Inhabited

/-- One entry of the retirement record (R481). -/
structure RetEntry where
  kind : Nat
  a : Nat
  b : Nat
  c : Nat
  deriving DecidableEq, Repr, Inhabited

/-- Wear: the retirement record, spares used, worn rows awaiting READY, corrected counts, off-line pages, background bank
copies, the lifetime counters (keyed by subindex), histogram words (entry × 64 + word) and the powered-hour save. -/
structure WearSt where
  record : List RetEntry := []
  retireSeq : W64 := 0
  recordLost : Bool := false
  recordFull : Bool := false
  spareCores : List Nat := []
  tmRowsUsed : Store Nat := []
  tmCorrected : Store Nat := []
  tmWorn : List (Nat × Nat) := []
  dramRowsUsed : Store Nat := []
  dramCorrected : Store (Nat × Nat) := []
  dramBanksUsed : Store Nat := []
  bankCopies : List (Nat × Nat × Nat) := []
  offline : List Nat := []
  degraded : Bool := false
  unfit : Bool := false
  life : Store W64 := []
  hist : Store W64 := []
  hourStart : Nat := 0
  hourSaved : Bool := false
  pendingUv : Nat := 0
  deriving DecidableEq, Repr, Inhabited

/-! ### Media -/

/-- A media session (R496 to R516): its state (0 closed, 1 open, 2 awaiting a random access point), its descriptors, each
buffer's mark and the picture it holds, the buffers held for reordering, an encoder's references, newest first, the pictures output
and patched so far, the tokens written, the rows of the block being gathered and the block's number, every unit since OPEN, the fullness of an encoder's decoder
model (R511: bits × 90,000; none before its first picture) and its frames since the last key frame. -/
structure Session where
  state : Nat := 0
  desc : BitVec 512 := 0
  patch : BitVec 512 := 0
  marks : List Nat := []
  bufs : Store PicOut := []
  heldPics : List Nat := []
  refs : List Nat := []
  outSeq : Nat := 0
  tokens : Nat := 0
  rows : List (List W32) := []
  blocks : Nat := 0
  units : List (List Byte) := []
  hrd : Option Nat := none
  sinceKey : Nat := 0
  deriving DecidableEq, Repr, Inhabited

/-- What the command under way of a media engine waits for. -/
inductive MxWait where
  | none | frame | slot
  deriving DecidableEq, Repr, Inhabited

/-- A media engine (R503 to R510): what its command waits for, the command, its pictures still to be decoded, the patch blocks still to
be written (number, tokens, rows), its results so far, whether its wait on `free_sem` has ended (`slotReady`), and how (`status`). -/
structure MxEng where
  wait : MxWait := .none
  cmd : BitVec 512 := 0
  pics : List PicOut := []
  blocks : List (Nat × Nat × List (List W32)) := []
  outMask : Nat := 0
  outLen : Nat := 0
  fb : Nat := 255
  conceal : Nat := 0
  reason : Nat := 0
  result : Status := .ok
  slotReady : Bool := false
  status : Status := .ok
  deriving DecidableEq, Repr, Inhabited

/-! ### Power -/

/-- The power manager (R523 to R538). Balances, grants, charges, clocks and caps are kept per logical core, cuts per
compute die; temperatures are in 1/16 °C. -/
structure PwrSt where
  reserve : Nat := 0
  balance : Store Int := []
  charged : Store Nat := []
  heldWin : List Nat := []
  clk : Store Nat := []
  nextClk : Store Nat := []
  capStep : Store Nat := []
  cuts : Store Nat := []
  gauzeHeat : List Nat := []
  thermIn : Bool := false
  thermInPending : Option Bool := none
  thermOut : Bool := false
  tripped : Bool := false
  regFault : Bool := false
  ocUntil : Option Nat := none
  uvCap : Bool := false
  vcoreMv10 : Nat := 7500
  wantMv10 : Nat := 7500
  halfRate : List Nat := []
  uMeasured : Nat := 1
  uCounted : Nat := 1
  lastWindow : Nat := 0
  energyNj : Nat := 0
  temps : List Int := []
  stopped : Bool := false
  deriving DecidableEq, Repr, Inhabited

/-! ### Dictionary -/

/-- The segments of an entry that have not been applied yet (R550): their requester, the transaction that stages them (0 for none), the
entry, each segment's offset and bytes, and whether another write to the entry has been applied since. -/
structure Seg where
  path : Path
  txn : Nat
  key : Nat
  parts : List (Nat × List Byte)
  stale : Bool := false
  deriving DecidableEq, Repr, Inhabited

/-- A transaction (R564). `armed` holds the commit instant once it is armed; `writes` are its staged writes, each an entry and the
segments to apply. -/
structure Txn where
  num : Nat
  path : Path
  armed : Option Nat := none
  writes : List (Nat × List (Nat × List Byte)) := []
  lastFt : Nat := 0
  deriving DecidableEq, Repr, Inhabited

/-- A record of `TXN_TABLE` (R567). -/
structure TxnRec where
  txn : Nat
  path : Nat
  state : Nat
  status : Nat
  nWrites : Nat
  ftAt : Nat
  appliedFt : Nat
  failed : Nat
  deriving DecidableEq, Repr, Inhabited

/-- The dictionary service and the management network. `values` holds the bytes of every entry that no longer
holds its default, keyed by index × 256 + subindex (an empty list is the default); `responses` is what the service has answered, newest first (on the field network it leaves as a frame only while the transmitter is not stopped, R558); `mail` the mailbox
buffers, keyed by window offset. -/
structure MgmtSt where
  values : Store (List Byte) := []
  segs : List Seg := []
  txns : List Txn := []
  nextTxn : Nat := 1
  txnTable : List TxnRec := []
  stored : List (Path × Nat × Msg) := []
  responses : List (Path × Msg) := []
  mail : Store Byte := []
  mbRelease : Bool := false
  link : Nat := 0
  eventDue : Option Nat := none
  lastEvent : Option Nat := none
  events : List Nat := []
  shortNext : Option Nat := none
  deriving DecidableEq, Repr, Inhabited

/-! ### Start-up, firmware and flash -/

/-- A flash write waiting or under way, by what it writes (R579): the copy after an activation, an image received in BOOT, a package
with the image it gives, a contents blob (to copy B or A) with the hash to enroll, or a lifetime save. -/
inductive FlashJob where
  | activation | image | package | contents (copyB : Bool) (blob : List Byte) (owner : List Byte) | lifetime
  deriving DecidableEq, Repr, Inhabited

/-- The boot flash (R576 to R579), the security engine and the update in progress. The fields up to `serial` outlast a reset; those up
to `helperOk` and `serial` are in flash, and an area without valid contents is none or empty. `stacksOk` says whether the stacks train
(step 5 of R581). `pending` is the image that a FINISH has
accepted, `fwLoads` how often an image has been placed in the running slot. -/
structure BootSt where
  flashMiB : Nat := 256
  lineTestOk : Bool := true
  marker : Nat := 0
  image : Option FwImage := some {}
  staging : Option FwImage := none
  journal : Bool := false
  enrolled : List Byte := []
  pdcA : List Byte := []
  pdcB : List Byte := []
  lifeA : Option (Nat × Store W64 × Store W64) := none
  lifeB : Option (Nat × Store W64 × Store W64) := none
  helperOk : Bool := true
  stacksOk : Bool := true
  secretHeld : Bool := false
  sramDrained : Bool := true
  serial : W64 := 0
  mode : Nat := 0
  stage : Nat := 0
  status : Status := .ok
  oneBit : Bool := false
  pendingApplied : Bool := false
  warm : Bool := false
  pdcDefaults : Bool := false
  lifeReset : Bool := false
  recovery : Bool := false
  fwVersion : Nat := 0
  computeVersion : Nat := 0
  running : List Byte := []
  contents : List Byte := []
  pdcStatus : Status := .ok
  pending : Option FwImage := none
  updState : Nat := 0
  updStatus : Status := .ok
  updBytes : Nat := 0
  updOwner : Option Path := none
  jobs : List FlashJob := []
  retries : Nat := 0
  fwLoads : Nat := 0
  quote : List Byte := []
  nonce : List Byte := []
  quoteBusy : Bool := false
  quoteStatus : Status := .ok
  rrDeadline : Nat := 0
  rrLoaded : Bool := false
  holdTap : Bool := false
  failedCores : List Nat := []
  deriving DecidableEq, Repr, Inhabited

/-! ### Pins and test -/

/-- The pins and the test access port (R605, R613, R621 to R627). -/
structure PinSt where
  resetN : Bool := false
  thermN : Bool := true
  alertN : Bool := true
  bootMode : Nat := 0
  clkReset : Bool := false
  railReset : Bool := false
  railLast : Nat := 15
  supplyOk : Bool := true
  ir : Nat := 2
  effective : Nat := 2
  dr : Nat := 0x10768C57
  boundary : BitVec 272 := 0
  driven : Bool := false
  floating : Bool := false
  deriving DecidableEq, Repr, Inhabited

/-! ### The device -/

/-- One entry of the event log (R633). -/
structure LogEntry where
  seq : Nat
  ft : Nat
  status : Nat
  source : Nat
  unit : Nat
  detail : Nat
  deriving DecidableEq, Repr, Inhabited

/-- The state of the device. `regs` holds the registers of the control and status window by offset (R57); `ft` is the
fabric-time counter (R42), `cycle` the control-cycle count (R43) and `ninths` the part of a nanosecond since the last step of
`ft`, in ninths, `ftPrev` what `ft` was one control cycle ago. `free` counts the free values drawn so far (the model's own field); `pending` the commands that wait. -/
structure State where
  regs : Store W64
  cores : Store Core
  accs : Store AccTile
  ftq : Store (List FtqEntry)
  bufs : Store TileBuf
  tables : Store TableBank
  mem : MemSt
  qs : QueueSt
  sync : SyncSt
  tier : TierSt
  fab : FabSt
  sc : Store ScEng
  wear : WearSt
  sessions : Store Session
  media : Store MxEng
  pwr : PwrSt
  mgmt : MgmtSt
  boot : BootSt
  pins : PinSt
  dev : DevState
  devBusy : Bool
  devCmdStatus : Nat
  resetAt : Option Nat
  ft : W64
  cycle : W64
  ninths : Nat
  ftPrev : W64
  log : List LogEntry
  eventSeq : W64
  free : Nat
  pending : List Instr
  deriving DecidableEq, Repr

/-- The device right after reset: RESET_N low with the supplies in range, every register at its Reset column's value. -/
def State.reset : State where
  regs := []
  cores := []
  accs := []
  ftq := []
  bufs := []
  tables := []
  mem := {}
  qs := {}
  sync := {}
  tier := {}
  fab := {}
  sc := []
  wear := {}
  sessions := []
  media := []
  pwr := {}
  mgmt := {}
  boot := {}
  pins := {}
  dev := .reset
  devBusy := false
  devCmdStatus := 0
  resetAt := none
  ft := 0
  cycle := 0
  ninths := 0
  ftPrev := 0
  log := []
  eventSeq := 0
  free := 0
  pending := []

end Sys2Proof.Machine
end

