-- ==== Sys2Proof/Machine/DictTable.lean ====
section
/-! DEFINITION. The attributes of every dictionary entry (R545, R640, R642, R643 and the configuration tables of the
chapters): type, flags, access, lowest writing role, size and default. -/

namespace Sys2Proof.Machine

/-- The attributes that DESCRIBE returns (R545). `access` is 0 RO, 1 RW, 2 WO; `ty` is the type code. -/
structure DAttr where
  ty : Nat
  persistent : Bool := false
  config : Bool := false
  bridge : Bool := false
  access : Nat
  role : Nat := 0
  size : Nat
  dflt : Nat := 0
  deriving DecidableEq, Repr, Inhabited

/-- The staging flag (R642): every RW entry, and `FW_UPD_CMD`. -/
def DAttr.staged (a : DAttr) (idx sub : Nat) : Bool := decide (a.access = 1) || decide (idx = 0x8010 ∧ sub = 1)

/-- A read-only entry. -/
def dRO (ty size : Nat) (dflt : Nat := 0) : DAttr := { ty := ty, access := 0, size := size, dflt := dflt }
/-- A persistent RW entry; its role is ADMIN unless its chapter names one (R640). -/
def dPers (ty size dflt : Nat) (config : Bool := false) : DAttr :=
  { ty := ty, persistent := true, config := config, access := 1, role := 2, size := size, dflt := dflt }
/-- An RW entry that is not persistent: OPERATOR (R640). -/
def dRW (ty size : Nat) (dflt : Nat := 0) : DAttr := { ty := ty, access := 1, role := 1, size := size, dflt := dflt }

/-- The highest subindex of each index, which subindex 0 holds (R545). -/
def dictTop (idx : Nat) : Nat :=
  match idx with
  | 0x1000 => 5 | 0x1010 => 0x90 | 0x1020 => 8 | 0x2000 => 2 | 0x2010 => 7 | 0x2020 => 2
  | 0x2100 => 0x14 | 0x2101 => 0x14 | 0x2200 => 6 | 0x2210 => 3 | 0x2300 => 1
  | 0x3000 => 1 | 0x3001 => 5 | 0x3002 => 1 | 0x3110 => 0x40 | 0x3111 => 0x40
  | 0x4010 => 1 | 0x4100 => 0x20 | 0x4200 => 8 | 0x4300 => 9 | 0x4310 => 0x10 | 0x4400 => 4
  | 0x5000 => 1 | 0x5010 => 6 | 0x5020 => 3 | 0x5030 => 0x90 | 0x5040 => 6
  | 0x6000 => 0xC8 | 0x6100 => 0x20 | 0x6200 => 4 | 0x6300 => 2
  | 0x7000 => 2 | 0x7100 => 0x40 | 0x7200 => 0x40
  | 0x8000 => 2 | 0x8001 => 5 | 0x8002 => 3 | 0x8003 => 3 | 0x8010 => 5 | 0x8020 => 2
  | 0x9100 => 6 | 0x9200 => 3
  | _ => 0

/-- The attributes of an entry with a subindex of 1 or more, for an index in the 0x1000 and 0x2000 ranges. -/
def dictAttr12 (idx sub : Nat) : Option DAttr :=
  match idx, sub with
  | 0x1000, 1 => some (dRO 2 4)
  | 0x1000, 2 => some (dRO 2 4)
  | 0x1000, 3 => some (dRO 2 4)
  | 0x1000, 4 => some (dRO 3 8)
  | 0x1000, 5 => some (dRO 7 6)
  | 0x1010, _ => if sub ≤ 0x90 then some (dRO 1 2) else none
  | 0x1020, 3 => some (dRO 3 8)
  | 0x1020, _ => if sub ≤ 8 then some (dRO 2 4) else none
  | 0x2000, 1 => some { ty := 2, access := 2, role := 1, size := 4 }
  | 0x2000, 2 => some (dRO 2 4)
  | 0x2010, 1 => some (dPers 0 1 1)
  | 0x2010, 2 => some (dPers 7 48 0)
  | 0x2010, 3 => some (dPers 3 8 2)
  | 0x2010, 4 => some (dPers 0 1 1)
  | 0x2010, 5 => some (dPers 0 1 1)
  | 0x2010, 6 => some (dPers 0 1 0xFF)
  | 0x2010, 7 => some { ty := 0, access := 2, role := 2, size := 1 }
  | 0x2020, 1 => some (dPers 2 4 10000)
  | 0x2020, 2 => some (dRO 7 512)
  | 0x2100, _ =>
    if 1 ≤ sub ∧ sub ≤ 4 then some (dRW 7 32768) else if 0x11 ≤ sub ∧ sub ≤ 0x14 then some (dRO 7 32768) else none
  | 0x2101, _ =>
    if 1 ≤ sub ∧ sub ≤ 4 then some (dRW 2 4) else if 0x11 ≤ sub ∧ sub ≤ 0x14 then some (dRO 2 4) else none
  | 0x2200, 1 => some (dPers 2 4 50)
  | 0x2200, 2 => some (dPers 2 4 8 true)
  | 0x2200, 3 => some (dPers 2 4 2 true)
  | 0x2200, 4 => some (dPers 3 8 0xA000000000 true)
  | 0x2200, 5 => some (dPers 2 4 4096 true)
  | 0x2200, 6 => some (dPers 7 32 (2 ^ 256 - 1) true)
  | 0x2210, 1 => some (dPers 2 4 136)
  | 0x2210, 2 => some (dPers 2 4 778240)
  | 0x2210, 3 => some (dPers 2 4 4)
  | 0x2300, 1 => some (dRW 7 16)
  | _, _ => none

/-- The attributes of an entry in the 0x3000 to 0x5000 ranges. -/
def dictAttr35 (idx sub : Nat) : Option DAttr :=
  match idx, sub with
  | 0x3000, 1 => some (dRO 2 4 1)
  | 0x3001, 1 => some (dPers 2 4 0 true)
  | 0x3001, 2 => some (dPers 2 4 0 true)
  | 0x3001, 3 => some (dPers 2 4 0 true)
  | 0x3001, 4 => some (dPers 2 4 0 true)
  | 0x3001, 5 => some (dRO 2 4)
  | 0x3002, 1 => some { dRW 3 8 with bridge := true }
  | 0x3110, _ => if sub ≤ 0x40 then some { dRW 3 8 with bridge := true } else none
  | 0x3111, _ => if sub ≤ 0x40 then some { dRW 3 8 with bridge := true } else none
  | 0x4010, 1 => some (dPers 2 4 24)
  | 0x4100, _ => if sub ≤ 0x20 then some (dRW 7 64) else none
  | 0x4200, _ => if sub ≤ 8 then some (dRW 7 64) else none
  | 0x4300, 1 => some (dPers 2 4 128 true)
  | 0x4300, 2 => some (dPers 2 4 512 true)
  | 0x4300, 3 => some (dPers 2 4 1024 true)
  | 0x4300, 4 => some (dPers 2 4 1000)
  | 0x4300, 5 => some { dRW 2 4 with config := true }
  | 0x4300, _ => if 6 ≤ sub ∧ sub ≤ 9 then some (dRO 3 8) else none
  | 0x4310, _ => if sub ≤ 0x10 then some (dRW 7 32) else none
  | 0x4400, 1 => some (dPers 3 8 0xBFFC000000 true)
  | 0x4400, 2 => some (dPers 3 8 0xBFF8000000 true)
  | 0x4400, 3 => some (dPers 2 4 51 true)
  | 0x4400, 4 => some (dPers 2 4 640 true)
  | 0x5000, 1 => some (dRO 2 4)
  | 0x5010, 1 => some (dPers 2 4 2000)
  | 0x5010, 2 => some (dPers 2 4 2400)
  | 0x5010, 3 => some (dPers 2 4 80)
  | 0x5010, 4 => some (dRW 2 4)
  | 0x5010, 5 => some (dPers 2 4 2800)
  | 0x5010, 6 => some (dPers 2 4 3600)
  | 0x5020, 1 => some (dPers 2 4 95)
  | 0x5020, 2 => some (dRO 2 4 110)
  | 0x5020, 3 => some (dPers 2 4 1400)
  | 0x5030, _ => if sub ≤ 0x90 then some (dPers 2 4 8) else none
  | 0x5040, _ => if sub ≤ 6 then some (dRO 2 4 100) else none
  | _, _ => none

/-- The attributes of an entry in the 0x6000 to 0x9000 ranges. -/
def dictAttr69 (idx sub : Nat) : Option DAttr :=
  match idx, sub with
  | 0x6000, _ => if sub ≤ 0xC8 then some (dRO 3 8) else none
  | 0x6100, _ => if sub ≤ 0x20 then some (dRO 7 160) else none
  | 0x6200, 2 => some (dRO 7 4096)
  | 0x6200, 3 => some (dRO 3 8)
  | 0x6200, 4 => some { ty := 7, access := 2, role := 2, size := 4096 }
  | 0x6300, 2 => some { ty := 0, access := 2, role := 2, size := 1 }
  | 0x7000, 1 => some (dPers 3 8 0xBFF7FF0000 true)
  | 0x7000, 2 => some (dPers 3 8 0xBFF7FF4000 true)
  | 0x7100, _ => if sub ≤ 0x40 then some (dRO 7 16) else none
  | 0x7200, _ => if sub ≤ 0x40 then some (dRO 7 16) else none
  | 0x8000, 1 => some (dRO 2 4)
  | 0x8000, 2 => some (dPers 2 4 2000)
  | 0x8001, 1 => some (dRO 2 4)
  | 0x8001, 2 => some (dRO 2 4)
  | 0x8001, 3 => some (dRO 7 64)
  | 0x8001, 4 => some (dRO 3 8 0xBF00000000)
  | 0x8001, 5 => some (dRO 7 33280)
  | 0x8002, 1 => some (dRO 7 1568)
  | 0x8002, 2 => some (dRO 7 64)
  | 0x8002, 3 => some (dRO 7 65536)
  | 0x8003, 1 => some { ty := 7, access := 2, role := 2, size := 32 }
  | 0x8003, 2 => some (dRO 7 50112)
  | 0x8003, 3 => some (dRO 2 4)
  | 0x8010, 1 => some { ty := 2, access := 2, role := 2, size := 4 }
  | 0x8010, 2 => some { ty := 7, access := 2, role := 2, size := 0x3100000 }
  | 0x8010, 3 => some (dRO 3 8)
  | 0x8010, 4 => some (dPers 2 4 0)
  | 0x8010, 5 => some (dRO 2 4 120)
  | 0x8020, 1 => some { ty := 7, access := 2, role := 2, size := 262144 }
  | 0x8020, 2 => some (dRO 3 8)
  | 0x9100, 1 => some { dRW 2 4 with role := 3 }
  | 0x9100, 2 => some { dRW 2 4 with role := 3 }
  | 0x9100, 3 => some { ty := 2, access := 2, role := 3, size := 4 }
  | 0x9100, 4 => some (dRO 7 64)
  | 0x9100, 5 => some (dRO 7 2048)
  | 0x9100, 6 => some (dRO 2 4)
  | 0x9200, 1 => some (dRO 7 640)
  | 0x9200, 2 => some (dRO 7 8192)
  | 0x9200, 3 => some (dRO 3 8)
  | _, _ => none

/-- The attributes of an entry; none where it does not exist (R545). -/
def dictAttr (idx sub : Nat) : Option DAttr :=
  if sub = 0 then (if dictTop idx = 0 then none else some (dRO 0 1 (dictTop idx)))
  else if idx < 0x3000 then dictAttr12 idx sub
  else if idx < 0x6000 then dictAttr35 idx sub
  else dictAttr69 idx sub

/-- The key of an entry in the value store. -/
def dictKey (idx sub : Nat) : Nat := idx * 256 + sub

/-- The bytes of an entry's default. -/
def dictDefault (idx sub : Nat) : List Byte :=
  match dictAttr idx sub with
  | some a => leBytes a.size a.dflt
  | none => []

/-- The bytes an entry holds in the value store, or its default. -/
def State.dictBytes (s : State) (idx sub : Nat) : List Byte :=
  let v := Store.get [] s.mgmt.values (dictKey idx sub)
  if v = [] then dictDefault idx sub else v

/-- The number an entry holds. -/
def State.dictNat (s : State) (idx sub : Nat) : Nat :=
  let v := Store.get [] s.mgmt.values (dictKey idx sub)
  if v = [] then ((dictAttr idx sub).map DAttr.dflt).getD 0 else leNat v

/-- The state with the bytes of an entry replaced. -/
def State.setDict (s : State) (idx sub : Nat) (v : List Byte) : State :=
  { s with mgmt.values := Store.set [] s.mgmt.values (dictKey idx sub) v }

/-- The state with a numeric entry replaced. -/
def State.setDictNat (s : State) (idx sub n : Nat) : State :=
  s.setDict idx sub (leBytes (((dictAttr idx sub).map DAttr.size).getD 8) n)

end Sys2Proof.Machine
end

