-- ==== Sys2Proof/Machine/Units.lean ====
section
/-! DEFINITION. Which units exist: the ranges of the operands that commands carry, and the outcome of a command that names a
unit the device does not have. -/

namespace Sys2Proof.Machine

/-- A next state where the units named exist, else the fault that names the operand. -/
def ifUnit (ok : Bool) (what : String) (s : State) : Host.Outcome State Fault Refusal :=
  if ok then .next s else .fault (.noSuchUnit what)

/-- Is `core` a logical core (R3)? -/
def isCore (core : Nat) : Bool := decide (core < Config.cores)

/-- The operand sizes of LR and SC: a word or a doubleword. -/
def lrSize (size : Nat) : Bool := decide (size = 4 ∨ size = 8)

/-- The codes that RV64A performs (R240): integer operations to swap, and the bitwise ones. -/
def rvCode (code : Nat) : Bool := decide (code ≤ 0x0B ∨ (0x11 ≤ code ∧ code ≤ 0x13))

/-- Is `q` a queue number (R311)? -/
def isQueue (q : Nat) : Bool := decide (q < Config.queues)
/-- Is `i` a semaphore (R363)? -/
def isSem (i : Nat) : Bool := decide (i < Config.sems)
/-- Is `b` a barrier (R363)? -/
def isBar (b : Nat) : Bool := decide (b < Config.bars)
/-- Is `p` a port (R428)? -/
def isPort (p : Nat) : Bool := decide (p < Config.ports)
/-- Is `ch` a near-memory channel (R245)? -/
def isChannel (ch : Nat) : Bool := decide (ch < Config.channels)
/-- Is `t` a memory stack (R19)? -/
def isStack (t : Nat) : Bool := decide (t < 8)
/-- Is `e` one of the two engines of its kind on the edge dies (R18)? -/
def isEngine (e : Nat) : Bool := decide (e < 2)
/-- Is `d` a compute die (R18)? -/
def isDie (d : Nat) : Bool := decide (d < 4)
/-- Is `c` a chip number (R59)? -/
def isChip (c : Nat) : Bool := decide (c < 16384)
/-- Is `p` a key/value pool (R213)? -/
def isPool (p : Nat) : Bool := decide (p < 8)
/-- Is `p` a far pool (R292)? -/
def isFarPool (p : Nat) : Bool := decide (p < 16)
/-- Is `n` a sequence slot (R182)? -/
def isSlot (n : Nat) : Bool := decide (n < 32)
/-- Is `a` a near-memory address (R55)? -/
def isNear (a : Nat) : Bool := decide (a < Config.nearBytes)
/-- Is `r` a role code (R547)? -/
def isRole (r : Nat) : Bool := decide (r < 4)
/-- Is `c` a context (R312)? -/
def isCtx (c : Nat) : Bool := decide (c < 65536)

end Sys2Proof.Machine
end

