-- ==== Sys2Proof/Machine/Flags.lean ====
section
/-! DEFINITION. Registers by window offset, event counters and the bits they set (R13), status codes and their counters
(R629, R632), the event log (R633), and the first-fault records of the engines. -/

namespace Sys2Proof.Machine

/-! ### Registers -/

/-- The register at a control-and-status-window offset (R57). -/
def State.reg (s : State) (o : Nat) : W64 := Store.get 0 s.regs o

/-- The state with a register replaced. -/
def State.setReg (s : State) (o : Nat) (v : W64) : State := { s with regs := Store.set 0 s.regs o v }

/-- The offset of a register in a core's control block (R57). -/
def coreOff (core off : Nat) : Nat := 0x10000000 + core * 0x10000 + off

/-- A counter raised by `n`; counters wrap at 2^64. -/
def State.bump (s : State) (o n : Nat) : State := s.setReg o (s.reg o + BitVec.ofNat 64 n)

/-- One bit of a register. -/
def State.flag (s : State) (o bit : Nat) : Bool := (s.reg o).getLsbD bit

/-- One bit of a register set to 1. -/
def State.setFlag (s : State) (o bit : Nat) : State := s.setReg o (s.reg o ||| (1#64 <<< bit))

/-- One bit of a register set to 0. -/
def State.clearFlag (s : State) (o bit : Nat) : State := s.setReg o (s.reg o &&& ~~~(1#64 <<< bit))

/-- A counter raised by 1 together with the W1C bit that it sets (R13). -/
def State.bumpSeen (s : State) (counter status bit : Nat) : State := (s.bump counter 1).setFlag status bit

/-- A counter raised by `n`, with the W1C bit that it sets where `n` is not 0. -/
def State.bumpSeenN (s : State) (counter status bit n : Nat) : State :=
  if n = 0 then s else (s.bump counter n).setFlag status bit

/-- A register of a core raised by `n`. -/
def State.bumpCore (s : State) (core off n : Nat) : State := s.bump (coreOff core off) n

/-! ### Status codes -/

end Sys2Proof.Machine

namespace Sys2Proof

/-- The 16-bit code of a status (R632). -/
def Status.code : Status → Nat
  | .ok => 0x0000 | .fallbackTaken => 0x0001
  | .stateConflict => 0x0101 | .reservedNonzero => 0x0102 | .versionUnsupported => 0x0103 | .admissionRefused => 0x0104
  | .pageFault => 0x0201 | .poolExhausted => 0x0202 | .staleSource => 0x0203 | .uncorrectable => 0x0204
  | .crcResendExhausted => 0x0205
  | .deadlineMissed => 0x0301 | .deadlockDetected => 0x0302
  | .semUnderflow => 0x0401 | .barrierOverrun => 0x0402 | .ownerLost => 0x0403 | .manualRelease => 0x0404
  | .linkRetryExhausted => 0x0501 | .miswired => 0x0502 | .laneRetired => 0x0503
  | .streamCorrupt => 0x0601 | .concealed => 0x0602 | .bufferBounds => 0x0603
  | .txnConflict => 0x0701 | .txnAborted => 0x0702 | .accessDenied => 0x0703
  | .headerRejected => 0x0801 | .authFailed => 0x0802 | .decryptFailed => 0x0803
  | .spareExhausted => 0x0901 | .thermalTrip => 0x0902 | .unfit => 0x0903

/-- Every status but OK, for reading a code back. -/
def Status.all : List Status :=
  [.fallbackTaken, .stateConflict, .reservedNonzero, .versionUnsupported, .admissionRefused, .pageFault, .poolExhausted,
   .staleSource, .uncorrectable, .crcResendExhausted, .deadlineMissed, .deadlockDetected, .semUnderflow, .barrierOverrun,
   .ownerLost, .manualRelease, .linkRetryExhausted, .miswired, .laneRetired, .streamCorrupt, .concealed, .bufferBounds,
   .txnConflict, .txnAborted, .accessDenied, .headerRejected, .authFailed, .decryptFailed, .spareExhausted, .thermalTrip,
   .unfit]

/-- The status a code stands for; OK for 0 and for codes that R632 does not list. -/
def Status.ofCode (c : Nat) : Status := (Status.all.find? (fun st => st.code == c)).getD .ok

/-- The window offset of a status counter (R629). -/
def Status.counterOff (st : Status) : Nat := 0x600 + 0x40 * (st.code / 256) + 8 * (st.code % 256)

/-- Is an item with this status complete without a fault (R15)? -/
def Status.isOk (st : Status) : Bool := decide (st = .ok ∨ st = .fallbackTaken)

/-- The first status of two that is not OK. -/
def Status.orElse (a b : Status) : Status := if a = .ok then b else a

end Sys2Proof

namespace Sys2Proof.Machine

/-- One completion or logged event counted under its code (R629, R630); OK is never counted. -/
def State.count (s : State) (st : Status) : State := if st = .ok then s else s.bump st.counterOff 1

/-! ### Event log -/

/-- Are events logged yet (R635: from step 4 of the start-up sequence)? -/
def State.logging (s : State) : Bool :=
  match s.dev with
  | .off => false
  | .reset => false
  | .boot => decide (4 ≤ s.boot.stage)
  | _ => true

/-- Is the dictionary served (R575)? -/
def State.dictServed (s : State) : Bool := decide (s.dev ≠ .off ∧ s.dev ≠ .reset) && (decide (s.dev ≠ .boot) || decide (3 ≤ s.boot.stage))

/-- An event entered in the log: newest first, at most 256 (R633). -/
def State.logEvent (s : State) (st : Status) (source unit detail : Nat) : State :=
  if s.logging then
    let n := s.eventSeq + 1
    { s with
      eventSeq := n,
      log := ({ seq := n.toNat, ft := s.ft.toNat, status := st.code, source := source, unit := unit, detail := detail } :: s.log).take 256 }
  else s

/-- An event that ends no operation: counted under its code and logged (R630, R632). -/
def State.countLog (s : State) (st : Status) (source unit detail : Nat) : State :=
  (s.count st).logEvent st source unit detail

/-! ### First-fault records -/

/-- A fault register that is frozen while its W1C bit is set: written when the bit is clear, and the bit set. -/
def State.faultRec (s : State) (status bit : Nat) (recs : List (Nat × W64)) : State :=
  let s' := if s.flag status bit then s else recs.foldl (fun t r => t.setReg r.1 r.2) s
  s'.setFlag status bit

/-- [63:48] status, [47:28] queue: the fault word of the engines (R122, R172, R226, R358, R425). -/
def faultWord (st : Status) (q : Nat) : W64 := BitVec.ofNat 64 (st.code * 2 ^ 48 + q * 2 ^ 28)

/-- A register write that R639 refuses: the status counter of RESERVED_NONZERO counts it. -/
def State.refusedWrite (s : State) : State := s.count .reservedNonzero

/-- Is fabric time valid (R48)? -/
def State.ftValid (s : State) : Bool := s.flag 0x108 0

end Sys2Proof.Machine
end

