-- ==== Sys2Proof/Machine/Fp.lean ====
section
/-! DEFINITION. Number formats, rounding and exact arithmetic (R61 to R74): every operation works on exact dyadic values and
rounds once. -/

namespace Sys2Proof.Machine

/-- An exact value: a NaN, an infinity, or (−1)^neg × m × 2^e (zero keeps its sign). -/
inductive FVal where
  | nan
  | inf (neg : Bool)
  | fin (neg : Bool) (m : Nat) (e : Int)
  deriving DecidableEq, Repr, Inhabited

/-- How a floating-point format spends its codes (R61): IEEE infinities and NaNs, the one NaN code of E4M3, or neither. -/
inductive FKind where
  | ieee | e4m3 | plain
  deriving DecidableEq, Repr, Inhabited

/-- A floating-point element format (R61). -/
structure FFmt where
  expBits : Nat
  frac : Nat
  bias : Nat
  kind : FKind
  deriving DecidableEq, Repr, Inhabited

def fFp32 : FFmt := ⟨8, 23, 127, .ieee⟩
def fBf16 : FFmt := ⟨8, 7, 127, .ieee⟩
def fFp16 : FFmt := ⟨5, 10, 15, .ieee⟩
def fE4m3 : FFmt := ⟨4, 3, 7, .e4m3⟩
def fE5m2 : FFmt := ⟨5, 2, 15, .ieee⟩
def fE3m2 : FFmt := ⟨3, 2, 3, .plain⟩
def fE2m3 : FFmt := ⟨2, 3, 1, .plain⟩
def fE2m1 : FFmt := ⟨2, 1, 1, .plain⟩

/-- The exponent of a format's smallest subnormal (R61). -/
def FFmt.emin (f : FFmt) : Int := 1 - (f.bias : Int) - (f.frac : Int)

/-- The largest finite encoding of a format, without its sign (R61). -/
def FFmt.maxCode (f : FFmt) : Nat :=
  match f.kind with
  | .ieee => (2 ^ f.expBits - 1) * 2 ^ f.frac - 1
  | .e4m3 => 2 ^ (f.expBits + f.frac) - 2
  | .plain => 2 ^ (f.expBits + f.frac) - 1

/-- The sign bit of a format, as a weight. -/
def FFmt.signW (f : FFmt) : Nat := 2 ^ (f.expBits + f.frac)

/-- The value an encoding stands for (R61). -/
def FFmt.decode (f : FFmt) (x : Nat) : FVal :=
  let neg := bitAt x (f.expBits + f.frac)
  let e := bits x (f.expBits + f.frac - 1) f.frac
  let m := x % 2 ^ f.frac
  if f.kind = .ieee ∧ e = 2 ^ f.expBits - 1 then
    if m = 0 then .inf neg else .nan
  else if f.kind = .e4m3 ∧ x % f.signW = f.signW - 1 then .nan
  else if e = 0 then .fin neg m f.emin
  else .fin neg (m + 2 ^ f.frac) (f.emin + (e : Int) - 1)

/-- The canonical quiet NaN of a format (R68). -/
def FFmt.nan (f : FFmt) : Nat :=
  match f.kind with
  | .ieee => (2 ^ f.expBits - 1) * 2 ^ f.frac + 2 ^ (f.frac - 1)
  | _ => f.signW - 1

/-- The infinity of a format, without its sign. -/
def FFmt.infCode (f : FFmt) : Nat := (2 ^ f.expBits - 1) * 2 ^ f.frac

/-- The rounding in force (R69): to nearest even, or stochastic with the 32-bit draw. -/
inductive Rnd where
  | rne
  | sr (draw : Nat)
  deriving DecidableEq, Repr, Inhabited

/-- m / 2^sh rounded to a whole number (R67, R72). -/
def roundShift (r : Rnd) (m sh : Nat) : Nat :=
  let lo := m >>> sh
  let rem := m % 2 ^ sh
  match r with
  | .rne => if 2 * rem > 2 ^ sh ∨ (2 * rem = 2 ^ sh ∧ lo % 2 = 1) then lo + 1 else lo
  | .sr d => if d < rem * 2 ^ 32 / 2 ^ sh then lo + 1 else lo

/-- m × 2^e rounded to a whole number of units 2^q, with the exponent free above: the pair of units and q, where q is the
exponent of the significand of `prec` bits and never below `emin`. -/
def roundSig (r : Rnd) (prec : Nat) (emin : Int) (m : Nat) (e : Int) : Nat × Int :=
  if m = 0 then (0, emin)
  else
    let q := max (e + (Nat.log2 m + 1 : Nat) - (prec : Int)) emin
    if q ≤ e then (m * 2 ^ (e - q).toNat, q) else (roundShift r m (q - e).toNat, q)

/-- The magnitude code of u × 2^q, u at most 2^(frac+1), q at least emin, with no upper limit on the exponent. -/
def FFmt.magCode (f : FFmt) (u : Nat) (q : Int) : Nat :=
  if u < 2 ^ f.frac then u
  else (q - f.emin).toNat * 2 ^ f.frac + u

/-- An exact value rounded to a format. The flag says that it was beyond the largest finite value (R70); what is then stored
is an infinity where the format has one and `sat` is false, else the largest finite value. -/
def FFmt.encode (f : FFmt) (r : Rnd) (sat : Bool) (v : FVal) : Nat × Bool :=
  let top := if f.kind = .ieee ∧ !sat then f.infCode else f.maxCode
  let sgn := fun neg : Bool => if neg then f.signW else 0
  match v with
  | .nan => (f.nan, false)
  | .inf neg => (sgn neg + top, false)
  | .fin neg m e =>
    let (u, q) := roundSig r (f.frac + 1) f.emin m e
    let code := f.magCode u q
    if code > f.maxCode then (sgn neg + top, true) else (sgn neg + code, false)

/-- The value of an FP32 word. -/
def f32 (x : W32) : FVal := fFp32.decode x.toNat

/-- RNE to FP32 (R67). -/
def toF32 (v : FVal) : W32 := BitVec.ofNat 32 (fFp32.encode .rne false v).1

/-- The exact sum of two values (R67, R68); a sum of zero is −0 only when both are negative. -/
def FVal.add : FVal → FVal → FVal
  | .nan, _ => .nan
  | _, .nan => .nan
  | .inf a, .inf b => if a = b then .inf a else .nan
  | .inf a, _ => .inf a
  | _, .inf b => .inf b
  | .fin n1 m1 e1, .fin n2 m2 e2 =>
    let e := min e1 e2
    let x : Int := (m1 * 2 ^ (e1 - e).toNat : Nat)
    let y : Int := (m2 * 2 ^ (e2 - e).toNat : Nat)
    let s := (if n1 then -x else x) + (if n2 then -y else y)
    if s = 0 then .fin (n1 && n2) 0 e else .fin (decide (s < 0)) s.natAbs e

/-- The exact product of two values (R67, R68). -/
def FVal.mul : FVal → FVal → FVal
  | .nan, _ => .nan
  | _, .nan => .nan
  | .inf a, .inf b => .inf (a != b)
  | .inf a, .fin n m _ => if m = 0 then .nan else .inf (a != n)
  | .fin n m _, .inf a => if m = 0 then .nan else .inf (a != n)
  | .fin n1 m1 e1, .fin n2 m2 e2 => .fin (n1 != n2) (m1 * m2) (e1 + e2)

/-- The value with its sign turned. -/
def FVal.neg : FVal → FVal
  | .nan => .nan
  | .inf a => .inf (!a)
  | .fin n m e => .fin (!n) m e

/-- The magnitude of a value. -/
def FVal.abs : FVal → FVal
  | .nan => .nan
  | .inf _ => .inf false
  | .fin _ m e => .fin false m e

/-- A quotient, exact or with one sticky bit below 64 bits of precision. -/
def FVal.div : FVal → FVal → FVal
  | .nan, _ => .nan
  | _, .nan => .nan
  | .inf _, .inf _ => .nan
  | .inf a, .fin n _ _ => .inf (a != n)
  | .fin n _ _, .inf a => .fin (n != a) 0 0
  | .fin n1 m1 e1, .fin n2 m2 e2 =>
    if m2 = 0 then (if m1 = 0 then .nan else .inf (n1 != n2))
    else
      let k := 64 + (Nat.log2 m2 + 1)
      let x := m1 * 2 ^ k
      let qv := x / m2
      .fin (n1 != n2) (2 * qv + (if x % m2 = 0 then 0 else 1)) (e1 - e2 - k - 1)

/-- The whole square root of `n`, by `fuel` halvings of the interval [lo, hi). -/
def isqrtGo (n : Nat) : Nat → Nat → Nat → Nat
  | 0, lo, _ => lo
  | fuel + 1, lo, hi =>
    if hi ≤ lo + 1 then lo
    else
      let mid := (lo + hi) / 2
      if mid * mid ≤ n then isqrtGo n fuel mid hi else isqrtGo n fuel lo mid

/-- The whole square root of `n`. -/
def isqrt (n : Nat) : Nat := isqrtGo n (Nat.log2 n + 3) 0 (2 ^ (Nat.log2 n / 2 + 1) + 1)

/-- A square root with one sticky bit (IEEE 754: √−0 is −0, a negative value gives NaN). -/
def FVal.sqrt : FVal → FVal
  | .nan => .nan
  | .inf neg => if neg then .nan else .inf false
  | .fin neg m e =>
    if m = 0 then .fin neg 0 e
    else if neg then .nan
    else
      let k : Nat := if e % 2 = 0 then 80 else 81
      let x := m * 2 ^ k
      let r := isqrt x
      .fin false (2 * r + (if r * r = x then 0 else 1)) ((e - (k : Int)) / 2 - 1)

/-- The order of two values that are no NaN: is `a` below `b`? Zeros are equal. -/
def FVal.lt (a b : FVal) : Bool :=
  match a, b with
  | .nan, _ => false
  | _, .nan => false
  | .inf n1, .inf n2 => n1 && !n2
  | .inf n1, _ => n1
  | _, .inf n2 => !n2
  | .fin n1 m1 e1, .fin n2 m2 e2 =>
    let e := min e1 e2
    let x : Int := (m1 * 2 ^ (e1 - e).toNat : Nat)
    let y : Int := (m2 * 2 ^ (e2 - e).toNat : Nat)
    decide ((if n1 then -x else x) < (if n2 then -y else y))

/-- Is the value a NaN? -/
def FVal.isNan : FVal → Bool
  | .nan => true
  | _ => false

/-- Is the value finite? -/
def FVal.isFinite : FVal → Bool
  | .fin _ _ _ => true
  | _ => false

/-- Is the value a zero? -/
def FVal.isZero : FVal → Bool
  | .fin _ m _ => decide (m = 0)
  | _ => false

/-- Is the sign negative? -/
def FVal.isNeg : FVal → Bool
  | .nan => false
  | .inf n => n
  | .fin n _ _ => n

/-- The value of an integer. -/
def FVal.ofInt (i : Int) : FVal := .fin (decide (i < 0)) i.natAbs 0

/-- The value × 2^k. -/
def FVal.scale (k : Int) : FVal → FVal
  | .fin n m e => .fin n m (e + k)
  | v => v

/-- A finite value rounded to a whole number. -/
def FVal.toIntR (r : Rnd) : FVal → Int
  | .fin n m e =>
    let u : Int := ((if e ≥ 0 then m * 2 ^ e.toNat else roundShift r m (-e).toNat : Nat) : Int)
    if n then -u else u
  | _ => 0

/-- A value converted to a two's-complement integer of `w` bits (R70): saturates, NaN gives 0. The flag says that it lay
beyond the range. -/
def FVal.toIntSat (r : Rnd) (w : Nat) (v : FVal) : Int × Bool :=
  let lo : Int := -(2 ^ (w - 1) : Nat)
  let hi : Int := (2 ^ (w - 1) : Nat) - 1
  match v with
  | .nan => (0, false)
  | .inf neg => (if neg then lo else hi, false)
  | .fin n m e =>
    let i := (FVal.fin n m e).toIntR r
    if i < lo then (lo, true) else if hi < i then (hi, true) else (i, false)

/-! ### Binary32 operations, each with one rounding (R67) -/

def f32add (a b : W32) : W32 := toF32 ((f32 a).add (f32 b))
def f32sub (a b : W32) : W32 := toF32 ((f32 a).add (f32 b).neg)
def f32mul (a b : W32) : W32 := toF32 ((f32 a).mul (f32 b))
def f32fma (a b c : W32) : W32 := toF32 (((f32 a).mul (f32 b)).add (f32 c))
def f32div (a b : W32) : W32 := toF32 ((f32 a).div (f32 b))
def f32sqrt (a : W32) : W32 := toF32 (f32 a).sqrt

/-- IEEE 754-2019 maximum: a NaN operand gives NaN, and −0 is below +0 (R140, R240). -/
def f32max (a b : W32) : W32 :=
  let x := f32 a
  let y := f32 b
  if x.isNan || y.isNan then 0x7FC00000#32
  else if x.lt y then b else if y.lt x then a
  else if x.isNeg then b else a

/-- IEEE 754-2019 minimum. -/
def f32min (a b : W32) : W32 :=
  let x := f32 a
  let y := f32 b
  if x.isNan || y.isNan then 0x7FC00000#32
  else if x.lt y then a else if y.lt x then b
  else if x.isNeg then a else b

/-- An FP32 word, canonical if it is a NaN (R68). -/
def f32canon (a : W32) : W32 := if (f32 a).isNan then 0x7FC00000#32 else a

/-- An integer rounded to FP32. -/
def f32ofInt (i : Int) : W32 := toF32 (.ofInt i)

/-- A natural number rounded to FP32. -/
def f32ofNat (n : Nat) : W32 := toF32 (.fin false n 0)

/-! ### Element formats by code (R37, R61, R62) -/

/-- Is the format code a microscaled one? -/
def fmtIsMx (f : Nat) : Bool := decide (5 ≤ f ∧ f ≤ 10)

/-- The bits of one element of a format (R61, R62). -/
def fmtBits (f : Nat) : Nat :=
  match f with
  | 0 => 32 | 1 => 16 | 2 => 16 | 3 => 8 | 4 => 8 | 5 => 8 | 6 => 8 | 7 => 6 | 8 => 6 | 9 => 4 | 10 => 8 | 11 => 8 | _ => 32

/-- The element bytes of a tile (R31). -/
def fmtElemBytes (f : Nat) : Nat := 512 * fmtBits f

/-- The footprint of a tile in granules (R31). -/
def fmtGranules (f : Nat) : Nat :=
  match f with
  | 0 => 8 | 1 => 4 | 2 => 4 | 3 => 2 | 4 => 2 | 5 => 3 | 6 => 3 | 7 => 2 | 8 => 2 | 9 => 2 | 10 => 3 | 11 => 2 | _ => 8

/-- The floating-point format of a code, where it has one. -/
def fmtFloat (f : Nat) : Option FFmt :=
  match f with
  | 0 => some fFp32 | 1 => some fBf16 | 2 => some fFp16 | 3 => some fE4m3 | 4 => some fE5m2 | 5 => some fE4m3
  | 6 => some fE5m2 | 7 => some fE3m2 | 8 => some fE2m3 | 9 => some fE2m1 | _ => none

/-- The value of an element's bits before any block scale (R61, R62). -/
def elemVal (f x : Nat) : FVal :=
  match fmtFloat f with
  | some ff => ff.decode x
  | none =>
    if f = 10 then (FVal.ofInt (signed 8 x)).scale (-6)
    else if f = 11 then .ofInt (signed 8 x)
    else .ofInt (signed 32 x)

/-- The value of an element under its block's scale byte (R63): 0xFF marks NaN. -/
def scaledVal (f x scale : Nat) : FVal :=
  if scale = 255 then .nan else (elemVal f x).scale ((scale : Int) - 127)

/-- The rounding of a draw-carrying item (R69). -/
def rndOf (rnd draw : Nat) : Rnd := if rnd = 1 then .sr draw else .rne

/-- An exact value converted to a plain format (R70), with the flag that it lay beyond the largest finite value. FP8 E4M3
always saturates; so do the integers; FP32 gives no choice, so `sat` has no effect on it. -/
def convPlain (f rnd draw : Nat) (sat : Bool) (v : FVal) : Nat × Bool :=
  let r := rndOf rnd draw
  match fmtFloat f with
  | some ff => ff.encode r (sat && decide (f ≠ 0)) v
  | none =>
    let w := if f = 11 then 8 else 32
    let (i, o) := v.toIntSat r w
    (unsigned w i, o)

/-- emax of a microscaled format (R71). -/
def mxEmax (f : Nat) : Int :=
  match f with
  | 5 => 8 | 6 => 15 | 7 => 4 | 8 => 2 | 9 => 2 | _ => 0

/-- floor(log2 |v|) of a finite non-zero value. -/
def FVal.ilog2 : FVal → Int
  | .fin _ m e => (Nat.log2 m : Int) + e
  | _ => 0

/-- The larger magnitude of two finite values. -/
def FVal.maxMag (a b : FVal) : FVal := if a.abs.lt b.abs then b.abs else a.abs

/-- A block of exact values converted to a microscaled format (R71): the scale byte, the elements, and how many lay beyond
the largest finite value. `draws` holds each element's draw. -/
def convMx (f rnd : Nat) (vs : List (FVal × Nat)) : Nat × List Nat × Nat :=
  if vs.any (fun v => !v.1.isFinite) then (255, vs.map (fun _ => 0), 0)
  else
    let amax := vs.foldl (fun a v => FVal.maxMag a v.1) (.fin false 0 0)
    let se : Int := if amax.isZero then -127 else max (-127) (min 127 (amax.ilog2 - mxEmax f))
    let one := fun v : FVal × Nat =>
      let y := v.1.scale (-se)
      let r := rndOf rnd v.2
      if f = 10 then
        let i := (y.scale 6).toIntR r
        let c := max (-127) (min 127 i)
        (unsigned 8 c, decide (i ≠ c))
      else
        match fmtFloat f with
        | some ff => ff.encode r true y
        | none => (0, false)
    let es := vs.map one
    ((se + 127).toNat, es.map (·.1), (es.filter (·.2)).length)

/-! ### Stochastic draws (R73, R74) -/

/-- The mixing function of R73. -/
def srMix (z : W64) : W64 :=
  let z := (z ^^^ (z >>> 30)) * 0xbf58476d1ce4e5b9#64
  let z := (z ^^^ (z >>> 27)) * 0x94d049bb133111eb#64
  z ^^^ (z >>> 31)

/-- The 32-bit draw of R73. -/
def srDraw (seed : W64) (step : W32) (elem : W64) : Nat :=
  let h := srMix (seed ^^^ elem)
  let h := srMix (h + (step.zeroExtend 64 <<< 32))
  (h >>> 32).toNat

end Sys2Proof.Machine
end

