-- ==== Sys2Proof/Machine/Operands.lean ====
section
/-! DEFINITION. Fields of the 64-byte structures, tile tags, the local address map (R55 to R60), and the semaphore fields of
each kind of item. -/

namespace Sys2Proof.Machine

/-- Bits [hi:lo] of a 64-byte structure. -/
def fld (x : BitVec 512) (hi lo : Nat) : Nat := bits x.toNat hi lo

/-- One bit of a 64-byte structure. -/
def fbit (x : BitVec 512) (i : Nat) : Bool := x.getLsbD i

/-- A 64-byte structure with bits [hi:lo] replaced. -/
def setFld (x : BitVec 512) (hi lo v : Nat) : BitVec 512 := BitVec.ofNat 512 (setBits x.toNat hi lo v)

/-- Are bits [hi:lo] zero, for every pair in the list? -/
def zeros (x : BitVec 512) (l : List (Nat × Nat)) : Bool := l.all fun r => decide (fld x r.1 r.2 = 0)

/-! ### Tile tags (R33) -/

def tagVersion (t : W128) : Nat := bits t.toNat 127 124
def tagSlot (t : W128) : Nat := bits t.toNat 123 119
def tagLayer (t : W128) : Nat := bits t.toNat 118 108
def tagHead (t : W128) : Nat := bits t.toNat 107 100
def tagQBlock (t : W128) : Nat := bits t.toNat 99 80
def tagKvBlock (t : W128) : Nat := bits t.toNat 79 60
def tagFmt (t : W128) : Nat := bits t.toNat 59 56
def tagMask (t : W128) : Nat := bits t.toNat 55 54
def tagPhase (t : W128) : Nat := bits t.toNat 51 48
def tagStep (t : W128) : Nat := bits t.toNat 47 24
def tagQueue (t : W128) : Nat := bits t.toNat 23 4

/-- A tag with bits [hi:lo] replaced. -/
def setTag (t : W128) (hi lo v : Nat) : W128 := BitVec.ofNat 128 (setBits t.toNat hi lo v)

/-- An output tag: a copy of the first operand's with the output format and the item's queue (R39). -/
def outTag (t : W128) (fmt q : Nat) : W128 := setTag (setTag t 59 56 fmt) 23 4 q

/-- What R36 says of an operand's tag. -/
def tagCheck (t : W128) : Status :=
  if tagVersion t ≠ 1 then .versionUnsupported
  else if tagFmt t ≥ 13 ∨ tagPhase t ≥ 6 ∨ bits t.toNat 53 52 ≠ 0 ∨ bits t.toNat 3 0 ≠ 0 then .reservedNonzero
  else .ok

/-! ### Addresses (R55 to R60) -/

/-- The bit [62] of an address that takes a fabric address. -/
def addrFab (a : Nat) : Bool := bitAt a 62
/-- The chip number of a fabric address. -/
def addrChip (a : Nat) : Nat := bits a 61 48
/-- The local part of an address. -/
def addrLocal (a : Nat) : Nat := a % 2 ^ 48
/-- Is the address well formed (R59)? -/
def addrOk (a : Nat) : Bool := !bitAt a 63 && (addrFab a || decide (addrChip a = 0))

/-- Does an address name this chip (R60)? -/
def State.isOwn (s : State) (a : Nat) : Bool := !addrFab a || decide (addrChip a = s.fab.chipNum)

/-- Where a local address lies (R55, R56). -/
inductive Region where
  | near (a : Nat)
  | tile (core off : Nat)
  | window (off : Nat)
  | tiered (off : Nat)
  | unmapped
  deriving DecidableEq, Repr, Inhabited

/-- The map of R55 and R56, before the state of a core is asked. -/
def regionOf (a : Nat) : Region :=
  if a < 0xC000000000 then .near a
  else if 0x100000000000 ≤ a ∧ a < 0x100090000000 then
    let o := a - 0x100000000000
    if o % 0x1000000 < 0xE1C000 then .tile (o / 0x1000000) (o % 0x1000000) else .unmapped
  else if 0x200000000000 ≤ a ∧ a < 0x200100000000 then .window (a - 0x200000000000)
  else if 0x400000000000 ≤ a ∧ a < 0x800000000000 then .tiered (a - 0x400000000000)
  else .unmapped

/-- A core's state. -/
def State.core (s : State) (c : Nat) : Core := Store.get {} s.cores c
/-- The state with a core's replaced. -/
def State.setCore (s : State) (c : Nat) (v : Core) : State := { s with cores := Store.set {} s.cores c v }

/-- Does a logical core serve: neither absent nor fenced and not yet assigned again (R53, R51)? -/
def State.corePresent (s : State) (c : Nat) : Bool := !(s.core c).absent && !(s.core c).fenced

/-- The local map with the windows of absent and fenced cores unmapped (R56, R362). -/
def State.region (s : State) (a : Nat) : Region :=
  match regionOf a with
  | .tile c o => if s.corePresent c then .tile c o else .unmapped
  | .window o =>
    if o < 0x10000 then .window o
    else if 0x1000000 ≤ o ∧ o < 0x1100000 then .window o
    else if 0x2000000 ≤ o ∧ o < 0x2040000 then .window o
    else if 0x10000000 ≤ o ∧ o < 0x10900000 then .window o
    else if 0x20000000 ≤ o ∧ o < 0x22000000 then .window o
    else if 0x30000000 ≤ o ∧ o < 0x31000000 then .window o
    else .unmapped
  | r => r

/-! ### Semaphore fields of items by queue kind (R104, R133, R188, R393, R322) -/

/-- The bit of `wait0_en` for each kind of item; the other wait and release fields follow it at fixed distances. -/
def itemWaitBit (kind : Nat) : Nat :=
  match kind with
  | 1 => 383
  | 2 => 191
  | 3 => 63
  | _ => 191

/-- The semaphores of an item's enabled waits. -/
def itemWaits (kind : Nat) (x : BitVec 512) : List Nat :=
  if kind = 0 then (if fbit x 479 then [fld x 478 463] else [])
  else
    let b := itemWaitBit kind
    (if fbit x b then [fld x (b - 1) (b - 16)] else []) ++ (if fbit x (b - 17) then [fld x (b - 18) (b - 33)] else [])

/-- The semaphore of chip `chip` that an item of that chip signals at its end: a descriptor may name its own chip (R332). -/
def itemRel (chip kind : Nat) (x : BitVec 512) : Option Nat :=
  if kind = 0 then (if fbit x 462 && (!fbit x 445 || decide (fld x 444 431 = chip)) then some (fld x 461 446) else none)
  else
    let b := itemWaitBit kind
    if fbit x (b - 34) then some (fld x (b - 35) (b - 50)) else none

/-- The cookie of an item. -/
def itemCookie (kind : Nat) (x : BitVec 512) : Nat := if kind = 1 then fld x 319 256 else fld x 127 64

/-- An unsigned field that stands for its value minus 1. -/
def m1 (x : BitVec 512) (hi lo : Nat) : Nat := fld x hi lo + 1

/-! ### Queue entries (R312) -/

def Queue.version (q : Queue) : Nat := fld q.cfg 511 508
def Queue.kind (q : Queue) : Nat := fld q.cfg 505 503
def Queue.cls (q : Queue) : Nat := fld q.cfg 502 501
def Queue.dlPolicy (q : Queue) : Nat := fld q.cfg 500 499
def Queue.ringLog2 (q : Queue) : Nat := fld q.cfg 498 495
def Queue.core (q : Queue) : Nat := fld q.cfg 494 487
def Queue.fe (q : Queue) : Nat := fld q.cfg 486 486
def Queue.prio (q : Queue) : Nat := fld q.cfg 485 484
def Queue.pd (q : Queue) : Nat := fld q.cfg 483 472
def Queue.ctx (q : Queue) : Nat := fld q.cfg 471 456
def Queue.seqEn (q : Queue) : Bool := fbit q.cfg 455
def Queue.seqSlot (q : Queue) : Nat := fld q.cfg 454 450
def Queue.ringBase (q : Queue) : Nat := fld q.cfg 445 416 * 1024
def Queue.rsvSlots (q : Queue) : Nat := fld q.cfg 415 409
def Queue.rsvPort (q : Queue) : Nat := fld q.cfg 408 405
def Queue.bufBase (q : Queue) : Nat := fld q.cfg 319 284 * 4096
def Queue.bufSize (q : Queue) : Nat := 2 ^ fld q.cfg 283 278
/-- The items the ring holds. -/
def Queue.ringItems (q : Queue) : Nat := 2 ^ (q.ringLog2 + 4)
/-- The near-memory address of item `i` (R318). -/
def Queue.itemAddr (q : Queue) (i : Nat) : Nat := q.ringBase + 64 * (i % q.ringItems)
/-- Is the queue enabled? -/
def Queue.enabled (q : Queue) : Bool := decide (q.state ≠ .disabled)

/-- The code of a queue state (R312). -/
def QState.code : QState → Nat
  | .disabled => 0 | .active => 1 | .paused => 2 | .stopped => 3

/-- The 64-byte entry as the device writes it back (R312). -/
def Queue.entry (q : Queue) : BitVec 512 :=
  let x := setFld q.cfg 507 506 q.state.code
  let x := setFld x 449 446 q.why
  let x := setFld x 383 320 q.epoch.toNat
  let x := setFld x 255 224 q.head.toNat
  let x := setFld x 223 192 q.tail.toNat
  let x := setFld x 191 160 q.done.toNat
  let x := setFld x 159 144 q.faultStatus
  let x := setFld x 143 112 q.faultIndex.toNat
  setFld x 111 64 q.enableFt

end Sys2Proof.Machine
end

