-- ==== Sys2Proof/Machine/Codes.lean ====
section
/-! DEFINITION. The codes of near memory: the channel offset of an address (R248), the CRC-16 of a burst (R249), and the Reed-Solomon
code of a block (R253). -/

namespace Sys2Proof.Machine

/-! ### Channels and bursts (R248, R249) -/

/-- The channel of a near-memory address (R248). -/
def chanOf (a : Nat) : Nat := bits a 15 8 ^^^ bits a 23 16 ^^^ bits a 31 24 ^^^ bits a 39 32

/-- The byte offset of a near-memory address within its channel (R248). -/
def chanOffset (a : Nat) : Nat := bits a 39 16 * 256 + bits a 7 0

/-- One byte of the CRC-16, most significant bit first: polynomial 0x1021. -/
def crc16Byte (c : Nat) (b : Byte) : Nat :=
  (List.range 8).foldl (fun c _ => if bitAt c 15 then (2 * c % 65536) ^^^ 0x1021 else 2 * c) (c ^^^ (b.toNat * 256))

/-- The CRC-16 of bytes: initial value 0xFFFF, no final XOR (R249). -/
def crc16 (l : List Byte) : Nat := l.foldl crc16Byte 0xFFFF

/-- The CRC that a burst of 64 data bytes to or from the block at `a` carries (R249). -/
def burstCrc (a : Nat) (data : List Byte) : Nat := crc16 (data ++ leBytes 4 (chanOffset a / 64))

/-! ### GF(2^8) and the (68, 64) code (R253, R473) -/

/-- Multiplication by α. -/
def gfDouble (x : Nat) : Nat := if x < 128 then 2 * x else (2 * x - 256) ^^^ 0x1D

/-- Multiplication, bit by bit of the second factor from bit `fuel - 1` down. -/
def gfMulBits : Nat → Nat → Nat → Nat
  | 0, _, _ => 0
  | n + 1, a, b => (if b % 2 = 1 then a else 0) ^^^ gfMulBits n (gfDouble a) (b / 2)

/-- `gmul` of R473. -/
def gfMul (a b : Nat) : Nat := gfMulBits 8 a b

/-- α^n. -/
def gfAlpha : Nat → Nat
  | 0 => 1
  | n + 1 => gfDouble (gfAlpha n)

/-- x^n. -/
def gfPow (x : Nat) : Nat → Nat
  | 0 => 1
  | n + 1 => gfMul x (gfPow x n)

/-- `ginv` of R473: x^254. -/
def gfInv (x : Nat) : Nat := gfPow x 254

/-- A polynomial, highest power first, times (x - r). -/
def polyTimes (p : List Nat) (r : Nat) : List Nat := List.zipWith (· ^^^ ·) (p ++ [0]) (0 :: p.map (gfMul r))

/-- The generator polynomial, highest power first. -/
def rsGenerator : List Nat := [0, 1, 2, 3].foldl (fun p i => polyTimes p (gfAlpha i)) [1]

/-- The check symbols of a block's 64 bytes: the remainder of the data, times x^4, by the generator. The manual does not say which byte
is the highest power; the model takes byte 0, with the check symbols last. -/
def rsCheck (data : List Nat) : List Nat :=
  data.foldl
    (fun r d => List.zipWith (· ^^^ ·) (r.drop 1 ++ [0]) ((rsGenerator.drop 1).map (gfMul (d ^^^ r.headD 0))))
    [0, 0, 0, 0]

/-- The value of a received word, highest power first, at the `j`-th root of the generator. -/
def rsSyndrome (word : List Nat) (j : Nat) : Nat := word.foldl (fun acc x => gfMul acc (gfAlpha j) ^^^ x) 0

/-- What the decoder makes of a received word: no error seen, one symbol corrected by a difference, or an error that it cannot correct. -/
inductive RsOut where
  | clean | corrected (symbol diff : Nat) | bad
  deriving DecidableEq, Repr

/-- The decoder: one symbol in error is corrected where the four syndromes agree on its place (R253). -/
def rsDecode (word : List Nat) : RsOut :=
  let S := rsSyndrome word
  if S 0 = 0 ∧ S 1 = 0 ∧ S 2 = 0 ∧ S 3 = 0 then .clean
  else
    match (List.range 68).find? fun p =>
        let x := gfAlpha (67 - p)
        decide (S 0 ≠ 0 ∧ S 1 = gfMul (S 0) x ∧ S 2 = gfMul (S 1) x ∧ S 3 = gfMul (S 2) x) with
    | some p => .corrected p (S 0)
    | none => .bad

/-- A word with symbol errors. -/
def withErrors (word : List Nat) (errs : List (Nat × Byte)) : List Nat :=
  errs.foldl (fun w e => w.set e.1 ((w[e.1]?).getD 0 ^^^ e.2.toNat)) word

end Sys2Proof.Machine
end

