-- ==== Sys2Proof/Machine/Ops.lean ====
section
/-! DEFINITION. The named operations over the memories' contents: near memory by 64-byte blocks (R245 to R260), tile memory and the
tag store (R30 to R41, R235), and undefined extents. -/

namespace Sys2Proof.Machine

/-! ### Free values -/

/-- `n` bytes that nothing constrains, and the state with the draw used up. -/
def State.freeBytes (s : State) (n : Nat) : List Byte × State :=
  ((List.range n).map (Config.freeByte s.free), { s with free := s.free + 1 })

/-- One word that nothing constrains. -/
def State.freeWord (s : State) : W64 × State := (Config.freeWord s.free 0, { s with free := s.free + 1 })

/-! ### Bytes by address -/

/-- The cells that `bytes` fills from address `a`. -/
def cells (a : Nat) : List Byte → List (Nat × Byte)
  | [] => []
  | b :: rest => (a, b) :: cells (a + 1) rest

/-- `n` bytes of a byte store from `a`. -/
def loadBytes (m : Store Byte) (a : Nat) : Nat → List Byte
  | 0 => []
  | n + 1 => Store.get 0 m a :: loadBytes m (a + 1) n

/-- A byte store with `bytes` written from `a`. -/
def storeBytes (m : Store Byte) (a : Nat) (bytes : List Byte) : Store Byte := Store.setAll 0 m (cells a bytes)

/-- The canonical form of a memory: addresses strictly rising, no byte equal to 0, which an unlisted address reads as. -/
def Memory.wf (m : Store Byte) : Bool := Store.wf 0 m

/-! ### Channels and stacks -/

/-- The stack of a channel (R245). -/
def stackOf (ch : Nat) : Nat := ch / 32

/-- The offset of a stack's register (R263). -/
def msOff (stack off : Nat) : Nat := 0xA000 + 0x100 * stack + off

/-- A channel's state. -/
def State.chan (s : State) (ch : Nat) : Chan := Store.get {} s.mem.chans ch
/-- The state with a channel's replaced. -/
def State.setChan (s : State) (ch : Nat) (v : Chan) : State := { s with mem.chans := Store.set {} s.mem.chans ch v }

/-- The open round of a block, if there is one: the next `oseq` expected (R258). -/
def Chan.roundOf (c : Chan) (block : Nat) : Option Nat := (c.rounds.find? (fun r => r.1 == block)).map (·.2)

/-- Is the 64-byte block at `a` uncorrectable (R254)? -/
def State.blockBad (s : State) (a : Nat) : Bool := Store.get false s.mem.badNear (a / 64)

/-- An uncorrectable block found: counted, its address recorded while `UNCORR_SEEN` was clear, and logged (R254, R632). -/
def State.noteUncorr (s : State) (a : Nat) : State :=
  let st := stackOf (chanOf a)
  let s := if s.flag (msOff st 0) 2 then s else s.setReg (msOff st 0x30) (BitVec.ofNat 64 (a / 64 * 64))
  (s.bumpSeen (msOff st 0x28) (msOff st 0) 2).logEvent .uncorrectable 3 (chanOf a) (a / 64 * 64)

/-- A block corrected on a read: counted and its bit set (R254). -/
def State.noteCorrected (s : State) (a : Nat) : State :=
  let st := stackOf (chanOf a)
  s.bumpSeen (msOff st 0x18) (msOff st 0) 1

/-! ### Near memory -/

/-- Does [a, a + n) touch the firmware region (R585)? -/
def touchesFw (a n : Nat) : Bool := overlaps a n 0xBF00000000 0x10000000

/-- One byte of near memory, whatever its check symbols say. The running slot of the firmware region holds the running image (R585),
whose plaintext the manual does not give. -/
def State.nearByte (s : State) (a : Nat) : Byte :=
  if 0 < s.boot.fwLoads ∧ 0xBF00000000 ≤ a ∧ a < 0xBF04000000 then Config.fwByte s.boot.fwLoads a else Store.get 0 s.mem.near a

/-- The bytes of near memory, whatever their check symbols say. -/
def State.near (s : State) (a n : Nat) : List Byte :=
  if overlaps a n 0xBF00000000 0x4000000 then (List.range n).map fun i => s.nearByte (a + i) else loadBytes s.mem.near a n

/-- Near memory written with no check. -/
def State.putNear (s : State) (a : Nat) (bytes : List Byte) : State :=
  { s with mem.near := storeBytes s.mem.near a bytes }

/-- The pieces of an extent that lie in one 64-byte block each; `fuel` is at least the number of bytes. -/
def blockPieces : Nat → Nat → List Byte → List (Nat × List Byte)
  | 0, _, _ => []
  | fuel + 1, a, bs =>
    if bs.isEmpty then [] else (a, bs.take (64 - a % 64)) :: blockPieces fuel (a + (64 - a % 64)) (bs.drop (64 - a % 64))

/-- The 64-byte blocks that [a, a + n) touches, by address. -/
def blocksOf (a n : Nat) : List Nat :=
  if n = 0 then [] else (List.range ((a + n - 1) / 64 + 1 - a / 64)).map fun i => (a / 64 + i) * 64

/-! ### Tile memory -/

/-- The key of a byte in a core's tile-memory window (R56). -/
def tileKey (core off : Nat) : Nat := core * 0x1000000 + off

/-- Bytes of a core's tile memory. -/
def State.tile (s : State) (core off n : Nat) : List Byte := loadBytes s.mem.tile (tileKey core off) n

/-- Tile memory written; words written whole are no longer in error (R235). -/
def State.putTile (s : State) (core off : Nat) (bytes : List Byte) : State :=
  let lo := tileKey core off
  { s with
    mem.tile := storeBytes s.mem.tile lo bytes
    mem.badTile := Store.erase false (fun w => decide (lo ≤ w ∧ w + 8 ≤ lo + bytes.length)) s.mem.badTile
    mem.tileErr := Store.erase 0 (fun w => decide (lo ≤ w ∧ w + 8 ≤ lo + bytes.length)) s.mem.tileErr }

/-- The first uncorrectable word that [off, off + n) touches in a core's window. -/
def State.tileBad (s : State) (core off n : Nat) : Option Nat :=
  (s.mem.badTile.find? (fun e => e.2 && overlaps e.1 8 (tileKey core off) n)).map (fun e => e.1 - tileKey core 0)

/-- An uncorrectable word read: counted, and its offset recorded while `UNCORR_SEEN` was clear (R235, R262). The manual does not say how
often an access that meets several such words counts; the model counts one for the access, at its first. -/
def State.noteTileUncorr (s : State) (core off : Nat) : State :=
  let st := coreOff core 0x7000
  let s := if s.flag st 1 then s else s.setReg (coreOff core 0x7018) (BitVec.ofNat 64 off)
  (s.bumpSeen (coreOff core 0x7010) st 1).logEvent .uncorrectable 1 core off

/-- An extent of tile memory left undefined. -/
def State.havocTile (s : State) (core off n : Nat) : State :=
  let f := s.freeBytes n
  f.2.putTile core off f.1

/-- The window offset of a granule's tag (R56). -/
def tagOff (g : Nat) : Nat := 0xE00000 + 16 * g

/-- A granule's tag. -/
def State.tag (s : State) (core g : Nat) : W128 := BitVec.ofNat 128 (leNat (s.tile core (tagOff g) 16))

/-- One tag-store entry written. -/
def State.putTag (s : State) (core g : Nat) (t : W128) : State := s.putTile core (tagOff g) (leBytes 16 t.toNat)

/-- A tile's tag written: zero into the tag-store entries of its other granules in the same operation (R31, R38). -/
def State.writeTag (s : State) (core g fmt : Nat) (t : W128) : State :=
  s.putTile core (tagOff g) (leBytes 16 t.toNat ++ List.replicate (16 * (fmtGranules fmt - 1)) 0)

/-! ### Elements of tiles (R64) -/

/-- Element (r, c) of a tile's element bytes. -/
def elemAt (f : Nat) (bytes : List Byte) (r c : Nat) : Nat :=
  let i := 64 * r + c
  if fmtBits f = 6 then bits (leNat ((bytes.drop (3 * (i / 4))).take 3)) (6 * (i % 4) + 5) (6 * (i % 4))
  else if fmtBits f = 4 then bits (leNat ((bytes.drop (i / 2)).take 1)) (4 * (i % 2) + 3) (4 * (i % 2))
  else
    let k := fmtBits f / 8
    leNat ((bytes.drop (i * k)).take k)

/-- The scale byte of element (r, c) of a microscaled tile. -/
def scaleAt (f : Nat) (bytes : List Byte) (r c : Nat) : Nat :=
  leNat ((bytes.drop (fmtElemBytes f + 2 * r + c / 32)).take 1)

/-- The value of element (r, c) of a tile (R61 to R64). -/
def tileVal (f : Nat) (bytes : List Byte) (r c : Nat) : FVal :=
  if fmtIsMx f then scaledVal f (elemAt f bytes r c) (scaleAt f bytes r c) else elemVal f (elemAt f bytes r c)

/-- A byte list with the element (r, c) replaced; the bits of other elements stay (R65). -/
def putElem (f : Nat) (bytes : List Byte) (r c v : Nat) : List Byte :=
  let i := 64 * r + c
  let putAt := fun (o k hi lo : Nat) =>
    bytes.take o ++ leBytes k (setBits (leNat ((bytes.drop o).take k)) hi lo v) ++ bytes.drop (o + k)
  if fmtBits f = 6 then putAt (3 * (i / 4)) 3 (6 * (i % 4) + 5) (6 * (i % 4))
  else if fmtBits f = 4 then putAt (i / 2) 1 (4 * (i % 2) + 3) (4 * (i % 2))
  else
    let k := fmtBits f / 8
    putAt (i * k) k (8 * k - 1) 0

/-- A byte list with one byte replaced. -/
def putByte (bytes : List Byte) (o v : Nat) : List Byte := bytes.set o (BitVec.ofNat 8 v)

/-- The bytes of a whole tile of a format (R31). -/
def tileBytes (f : Nat) : Nat := fmtElemBytes f + (if fmtIsMx f then 128 else 0)

/-- The bytes of a tile at a granule. -/
def State.tileAt (s : State) (core g f : Nat) : List Byte := s.tile core (2048 * g) (tileBytes f)

/-- The extents, as offset and length within a tile, that hold its first `m` rows and `n` columns (R32, R64). -/
def validExtents (f m n : Nat) : List (Nat × Nat) :=
  let w := fmtBits f
  ((List.range m).map fun r => (8 * w * r, ceilDiv (w * n) 8)) ++
  (if fmtIsMx f then (List.range m).map (fun r => (fmtElemBytes f + 2 * r, ceilDiv n 32)) else [])

/-- The bytes that a read of a tile takes: its tag and its valid part (R235). -/
def tileReads (g f m n : Nat) : List (Nat × Nat) := (tagOff g, 16) :: (validExtents f m n).map fun e => (2048 * g + e.1, e.2)

/-- Codes packed little-endian at `w` bits each (R64). -/
def packCodes (w : Nat) : List Nat → Nat
  | [] => 0
  | c :: rest => c % 2 ^ w + 2 ^ w * packCodes w rest

/-- Codes of the elements of row `r` from column `c` on written to a tile; the bits of other elements in a shared byte keep what
they held (R65). Column `c` begins on a byte. -/
def State.putCodes (s : State) (core g f r c : Nat) (codes : List Nat) : State :=
  let w := fmtBits f
  let off := 2048 * g + w * (64 * r + c) / 8
  let nb := w * codes.length
  let old := leNat (s.tile core off (ceilDiv nb 8))
  s.putTile core off (leBytes (ceilDiv nb 8) (old / 2 ^ nb * 2 ^ nb + packCodes w codes))

/-- The draw of element (r, c) of an output tile (R74). -/
def elemDraw (seed base : W64) (step r c : Nat) : Nat :=
  srDraw seed (BitVec.ofNat 32 step) (base + BitVec.ofNat 64 (64 * r + c))

/-- How an item's outputs are converted (R69 to R74): format, rounding, saturation, seed, base and step. -/
structure Conv where
  fmt : Nat
  rnd : Nat
  sat : Bool
  seed : W64
  base : W64
  step : Nat

/-- One row of an output tile converted and written (R69 to R71, R65); the second part counts the values beyond the largest
finite one. -/
def State.putRow (s : State) (core g : Nat) (v : Conv) (r : Nat) (vals : List FVal) : State × Nat :=
  if fmtIsMx v.fmt then
    (List.range (ceilDiv vals.length 32)).foldl
      (fun acc b =>
        let blk := ((vals.drop (32 * b)).take 32).zipIdx.map fun x => (x.1, elemDraw v.seed v.base v.step r (32 * b + x.2))
        let k := convMx v.fmt v.rnd blk
        let t := acc.1.putCodes core g v.fmt r (32 * b) k.2.1
        (t.putTile core (2048 * g + fmtElemBytes v.fmt + 2 * r + b) (leBytes 1 k.1), acc.2 + k.2.2))
      (s, 0)
  else
    let cs := vals.zipIdx.map fun x => convPlain v.fmt v.rnd (elemDraw v.seed v.base v.step r x.2) v.sat x.1
    (s.putCodes core g v.fmt r 0 (cs.map (·.1)), (cs.filter (·.2)).length)

/-- The first `m` rows and `n` columns of an output tile converted and written, with the count of `putRow`. -/
def State.putTileVals (s : State) (core g : Nat) (v : Conv) (m n : Nat) (val : Nat → Nat → FVal) : State × Nat :=
  (List.range m).foldl
    (fun acc r =>
      let t := acc.1.putRow core g v r ((List.range n).map (val r))
      (t.1, acc.2 + t.2))
    (s, 0)

/-- The valid part of an output tile, and its tags, left undefined (R235). -/
def State.havocTileAt (s : State) (core g f m n : Nat) : State :=
  ((tagOff g, 16 * fmtGranules f) :: (validExtents f m n).map fun e => (2048 * g + e.1, e.2)).foldl
    (fun t e => t.havocTile core e.1 e.2) s

/-! ### Instants (R46, R300, R410, R412) -/

/-- Did FT reach instant `t` in an earlier control cycle? What happens in the control cycle in which FT reaches an instant is on time. -/
def State.pastBy (s : State) (t : Nat) : Bool := decide (t ≤ s.ftPrev.toNat)

end Sys2Proof.Machine
end

