-- ==== Sys2Proof/Machine/QueueOps.lean ====
section
/-! DEFINITION. Queues: their entries and rings (R311 to R321), how an execute engine takes an item and registers its waits,
the work picker and the energy tokens (R528, R531 to R533), and how an item completes (R109, R137, R194, R316, R320). -/

namespace Sys2Proof.Machine

/-- A queue as the device holds it. -/
def State.queue (s : State) (q : Nat) : Queue := Store.get {} s.qs.queues q
/-- The state with a queue replaced. -/
def State.setQueue (s : State) (q : Nat) (v : Queue) : State := { s with qs.queues := Store.set {} s.qs.queues q v }

/-- The near-memory address of a queue's table entry (R311). -/
def State.queueAddr (s : State) (q : Nat) : Nat := s.dictNat 0x4400 1 + 64 * q

/-- The item at ring index `i` (R318). -/
def State.ringItem (s : State) (Q : Queue) (i : W32) : BitVec 512 := BitVec.ofNat 512 (leNat (s.near (Q.itemAddr i.toNat) 64))

/-- Do the engines of a core run: the device RUNNING or DRAINING and the core present (R569)? -/
def State.engineRuns (s : State) (core : Nat) : Bool :=
  decide (s.dev = .running ∨ s.dev = .draining) && s.corePresent core

/-- Does an execute engine of a core take items: its control processor has started a schedule program (R124, R174, R228)? -/
def State.takesItems (s : State) (core : Nat) : Bool := s.engineRuns core && (s.core core).scheduled

/-! ### Completion -/

/-- `done` moved past every leading completed item (R320); `fuel` is at least the length of `ahead` plus one. -/
def advanceDone : Nat → W32 → List W32 → W32 × List W32
  | 0, d, l => (d, l)
  | fuel + 1, d, l => if l.contains d then advanceDone fuel (d + 1) (l.erase d) else (d, l)

/-- A queue whose item `i` has completed or been discarded (R320). -/
def Queue.finishItem (Q : Queue) (i : W32) : Queue :=
  let r := advanceDone (Q.ahead.length + 2) Q.done (i :: Q.ahead)
  { Q with done := r.1, ahead := r.2 }

/-- A queue moved to STOPPED by the device (R316). -/
def Queue.stop (Q : Queue) (why : Nat) : Queue := if Q.state = .disabled then Q else { Q with state := .stopped, why := why }

/-- The registers of the engine of each kind: status, FAULT bit, fault word, second fault word, items completed (R122, R172,
R226, R425, R358). -/
def engineRegs (kind fe core : Nat) : Nat × Nat × Nat × Nat × Nat :=
  match kind with
  | 1 => (coreOff core 0x4000, 3, coreOff core 0x4038, coreOff core 0x4040, coreOff core 0x4018)
  | 2 => (coreOff core 0x5000, 3, coreOff core 0x5040, coreOff core 0x5048, coreOff core 0x5008)
  | 3 => (coreOff core 0x6000, 2, coreOff core 0x6058, coreOff core 0x6060, coreOff core 0x6008)
  | 4 => (coreOff core 0x8000, 1, coreOff core 0x8060, coreOff core 0x8068, coreOff core 0x8008)
  | _ => (coreOff core (0x2000 + 0x100 * fe), 1, coreOff core (0x2040 + 0x100 * fe), coreOff core (0x2048 + 0x100 * fe),
      coreOff core (0x2008 + 0x100 * fe))

/-- A queue stopped by the device; a RESUME of the same control cycle is applied after it (R317). -/
def State.stopQueue (s : State) (q why : Nat) : State :=
  let Q := s.queue q
  if Q.resumedAt.any fun r => decide (r.1 = s.cycle) then s else s.setQueue q (Q.stop why)

/-- The record of a fault: the engine's fault registers, the queue's fault fields, and the queue STOPPED (R109, R137, R194,
R336, R316). -/
def State.recordFault (s : State) (q : Nat) (index : W32) (second : W64) (st : Status) : State :=
  let Q := s.queue q
  let e := engineRegs Q.kind Q.fe Q.core
  let s := s.faultRec e.1 e.2.1 [(e.2.2.1, faultWord st q), (e.2.2.2.1, second)]
  let s := s.stopQueue q 2
  s.setQueue q { s.queue q with faultStatus := st.code, faultIndex := index }

/-- An execute-engine item ends with status `st`: the counters, the fault record where it faulted, and `done` (R320). Its
release semaphore is signalled apart. -/
def State.endItem (s : State) (q : Nat) (st : Status) : State :=
  let Q := s.queue q
  match Q.held with
  | none => s
  | some h =>
    let e := engineRegs Q.kind Q.fe Q.core
    let s := s.setQueue q { Q.finishItem h.index with held := none, waitSince := none, readySince := none }
    let s := s.count st
    if st = .ok then s.bump e.2.2.2.2 1
    else s.recordFault q h.index (BitVec.ofNat 64 (itemCookie Q.kind h.item)) st

/-- A taken item discarded without completing (R320): it counts for `done` and leaves no status. -/
def State.discardItem (s : State) (q : Nat) : State :=
  let Q := s.queue q
  match Q.held with
  | none => s
  | some h => s.setQueue q { Q.finishItem h.index with held := none, waitSince := none, readySince := none }

/-- The status of a queue command left in `Q_CMD_STATUS` of the core that gave it, and counted (R315, R630). -/
def State.queueStatus (s : State) (st : Status) (core : Nat) : State :=
  let o := coreOff core 0x1004
  (s.setReg o (BitVec.ofNat 64 (setBits (s.reg o).toNat 15 0 st.code))).count st

/-! ### Energy tokens -/

/-- Energy of reference `ref` nJ at the present VDD_CORE set point and calibration of phase `h` (R531). -/
def State.energy (s : State) (ref h : Nat) : Nat :=
  ceilDiv (ref * s.pwr.vcoreMv10 * s.pwr.vcoreMv10 * s.dictNat 0x5040 (h + 1)) (8500 * 8500 * 100)

/-- A core's balance in nJ (R528). -/
def State.balance (s : State) (core : Nat) : Int := Store.get 0 s.pwr.balance core

/-- A core's grant of the present window (R541). -/
def State.grant (s : State) (core : Nat) : Nat := (s.reg (coreOff core 0x9008)).toNat

/-- May an item of estimate `e` begin on a core: it fits the balance, or the balance stands at its cap (R532)? -/
def State.affords (s : State) (core e : Nat) : Bool :=
  decide ((e : Int) ≤ s.balance core) ||
  (decide ((4 * s.grant core : Int) < e) && decide (s.balance core = 4 * s.grant core))

/-- An item's estimate charged to a core and its phase (R528, R541, R542). -/
def State.charge (s : State) (core h e : Nat) : State :=
  let s := { s with
    pwr.balance := Store.set 0 s.pwr.balance core (s.balance core - e),
    pwr.charged := Store.set 0 s.pwr.charged core (Store.get 0 s.pwr.charged core + e) }
  (s.bumpCore core 0x9018 e).bump (0x4100 + 8 * h) e

/-! ### The work picker -/

/-- The key under which the queue an engine served last is kept. -/
def engineKey (core kind : Nat) : Nat := core * 8 + kind

/-- The place of queue `q` in the round robin that starts after `last` (R532). -/
def robin (last q : Nat) : Nat := if last < q then q - last - 1 else q + Config.queues - last - 1

/-- The queues, other than `q`, whose ready item the picker of `q`'s engine considers with it: its waits satisfied and, by `can`, its
resources free (R532). -/
def State.rivals (s : State) (q : Nat) (can : Nat → Bool) : List (Nat × Queue) :=
  let Q := s.queue q
  s.qs.queues.filter fun e =>
    decide (e.1 ≠ q) && decide (e.2.core = Q.core) && decide (e.2.kind = Q.kind) &&
    (match e.2.held with
      | some h => h.satisfied
      | none => false) && can e.1

/-- Does rival `e` come before queue `q` in the picker's order (R532)? -/
def State.before (s : State) (q : Nat) (e : Nat × Queue) : Bool :=
  let Q := s.queue q
  let last := Store.get 0 s.qs.lastServed (engineKey Q.core Q.kind)
  decide (e.2.prio < Q.prio) || (decide (e.2.prio = Q.prio) && decide (robin last e.1 < robin last q))

/-- Has a rival's ready item been passed over for a full window (R533)? -/
def State.overdue (s : State) (e : Nat × Queue) : Bool :=
  match e.2.readySince with
  | some t => decide (t + 10000 ≤ s.ft.toNat)
  | none => false

/-- Does the picker begin `q`'s ready item of estimate `e` now (R532, R533)? `can` says of another queue's item that its resources are
free, `est` gives its estimate. -/
def State.picks (s : State) (q e : Nat) (can : Nat → Bool) (est : Nat → Nat) : Bool :=
  let Q := s.queue q
  s.affords Q.core e &&
  (s.rivals q can).all fun r =>
    !((s.before q r && s.affords Q.core (est r.1)) ||
      (s.overdue r && decide (r.2.prio ≤ Q.prio) && !(s.overdue (q, Q) && decide (Q.prio ≤ r.2.prio))))

/-- A ready item of estimate `e` passed over: the instant is kept since which it has been (R533). -/
def State.passOver (s : State) (q e : Nat) : State :=
  let Q := s.queue q
  s.setQueue q { Q with readySince := some (Q.readySince.getD s.ft.toNat), heldEst := e }

/-- Is a queue's ready item held for lack of balance (R533)? -/
def State.lacksTokens (s : State) (e : Nat × Queue) : Bool := e.2.readySince.isSome && !s.affords e.2.core e.2.heldEst

/-- A core with a ready item held for lack of balance (R533) is remembered for the present window (R527). -/
def State.holdFor (s : State) (core e : Nat) : State :=
  if s.affords core e || s.pwr.heldWin.contains core then s else { s with pwr.heldWin := s.pwr.heldWin ++ [core] }

/-- The picker's record that queue `q` was served. -/
def State.served (s : State) (q : Nat) : State :=
  let Q := s.queue q
  { s with qs.lastServed := Store.set 0 s.qs.lastServed (engineKey Q.core Q.kind) q }

end Sys2Proof.Machine
end

