-- ==== Sys2Proof/Machine/FabOps.lean ====
section
/-! DEFINITION. The torus, routes and ports (R428 to R437): which port a packet leaves by, how it joins a port's replay
buffer, and how this chip sends requests and answers. -/

namespace Sys2Proof.Machine

/-! ### Positions (R59, R428 to R431) -/

/-- Group of a chip number. -/
def chipGroup (c : Nat) : Nat := c / 32
/-- Member of a chip number. -/
def chipMember (c : Nat) : Nat := c % 32

/-- Members of a group shape (R429). -/
def shapeMembers (shape : Nat) : Nat := if shape = 0 then 32 else if shape = 1 then 16 else 4

/-- Size of dimension x, y or z (0, 1, 2) of a group shape. -/
def shapeSize (shape dim : Nat) : Nat :=
  match dim with
  | 0 => 4
  | 1 => if shape ≤ 1 then 4 else 1
  | _ => if shape = 0 then 2 else 1

/-- Coordinate of a member in dimension x, y or z (R59). -/
def memberCoord (m dim : Nat) : Nat :=
  match dim with
  | 0 => m % 4
  | 1 => m / 4 % 4
  | _ => m / 16

/-- The member at a position. -/
def memberAt (x y z : Nat) : Nat := x + 4 * y + 16 * z

/-- Coordinate of a group in dimension gx, gy or gz. -/
def groupCoord (g dim : Nat) : Nat :=
  match dim with
  | 0 => g % 8
  | 1 => g / 8 % 8
  | _ => g / 64

/-- Size of a group dimension (R432). -/
def State.groupSize (s : State) (dim : Nat) : Nat := 2 ^ bits s.fab.fabricShape (2 * dim + 1) (2 * dim)

/-- The shorter way round a ring: true for the minus direction (R433). -/
def ringMinus (a b n : Nat) : Bool := decide (n / 2 < (b + n - a % n) % n)

/-- The ports of a direction; a dimension of size 2 counts both directions as one (R433). -/
def dirPorts (shape dim : Nat) (minus : Bool) : List Nat :=
  if shapeSize shape dim = 2 then [4 * dim, 4 * dim + 1, 4 * dim + 2, 4 * dim + 3]
  else if minus then [4 * dim + 2, 4 * dim + 3] else [4 * dim, 4 * dim + 1]

/-- A port's state. -/
def State.port (s : State) (p : Nat) : Port := Store.get {} s.fab.ports p
/-- The state with a port's replaced. -/
def State.setPort (s : State) (p : Nat) (v : Port) : State := { s with fab.ports := Store.set {} s.fab.ports p v }
/-- The offset of a port's register (R459). -/
def portOff (p off : Nat) : Nat := 0xD000 + 0x100 * p + off

/-- May a route use a port: ACTIVE and not held by `DISABLE` (R435, R637)? -/
def Port.usable (P : Port) : Bool := decide (P.link = .active) && !P.disabled && !P.disabling

/-- k of R431. -/
def groupLinks (shape : Nat) : Nat := 2 * (shapeMembers shape - 1) / 6

/-- The direction and index of link `L` of a group (R431), none where it is unused. -/
def linkDir (shape l : Nat) : Option (Nat × Nat) :=
  let k := groupLinks shape
  if l < 6 * k then some (l / k, l % k) else none

/-- The member and H port that hold link (d, j) of a group (R431). -/
def linkHolder (shape d j : Nat) : Nat × Nat :=
  let l := d * groupLinks shape + j
  (l / 2 + 1, 12 + l % 2)

/-- Is link (d, j) of this group ACTIVE, as far as this chip knows: its own ports, or what members announced (R434)? -/
def State.linkActive (s : State) (d j : Nat) : Bool :=
  let h := linkHolder s.fab.shape d j
  if h.1 = chipMember s.fab.chipNum then (s.port h.2).usable else bitAt (Store.get 0 s.fab.linkUp h.1) h.2

/-- Is a packet of the classes that route by the lowest gateway (R434)? -/
def lowRoute (p : Packet) : Bool := decide (p.ptype = .sync)

/-- The gateway index for a direction (R434). -/
def State.gateway (s : State) (d : Nat) (p : Packet) : Option Nat :=
  let k := groupLinks s.fab.shape
  let start := if lowRoute p then 0 else (chipMember p.src + chipMember p.dst) % k
  ((List.range k).map fun i => (start + i) % k).find? fun j => s.linkActive d j

/-- The port of a direction that a packet takes, where one is usable (R435). -/
def State.portOf (s : State) (dim : Nat) (minus : Bool) (p : Packet) : Option Nat :=
  let ps := (dirPorts s.fab.shape dim minus).filter fun q => (s.port q).usable
  ps[(p.src + p.dst) % ps.length]?

/-- Does the hop from coordinate `a` in a direction wrap (R437)? In a dimension of size 2, whose two directions count as one, every hop goes
from 0 to n − 1 or from n − 1 to 0. -/
def wraps (a n : Nat) (minus : Bool) : Bool := decide (n = 2) || (if minus then decide (a = 0) else decide (a + 1 = n))

/-- The next port towards a member of this group, with the packet's long-way and dateline bits as they leave (R433, R435).
`free` says that the packet may be turned the long way. -/
def State.hopInGroup (s : State) (target : Nat) (free : Bool) (p : Packet) : Option (Nat × Packet) :=
  let me := chipMember s.fab.chipNum
  let sh := s.fab.shape
  match [0, 1, 2].find? fun d => decide (memberCoord me d ≠ memberCoord target d) with
  | none => none
  | some dim =>
    let a := memberCoord me dim
    let n := shapeSize sh dim
    let way := if p.longway && free then decide (p.ldir = 1) else ringMinus a (memberCoord target dim) n
    let leave := fun (minus : Bool) (q : Packet) =>
      { q with dateline := q.dateline || wraps a n minus }
    match s.portOf dim way p with
    | some port => some (port, leave way p)
    | none =>
      if free && decide (4 ≤ n) && !p.longway then
        match s.portOf dim (!way) p with
        | some port => some (port, leave (!way) { p with longway := true, ldir := b2n (!way) })
        | none => none
      else none

/-- The next port of a packet that is not for this chip, and the packet as it leaves (R433 to R437); none when it is
unroutable. -/
def State.nextHop (s : State) (p : Packet) : Option (Nat × Packet) :=
  let me := s.fab.chipNum
  if chipGroup me = chipGroup p.dst then s.hopInGroup (chipMember p.dst) true p
  else
    match [0, 1, 2].find? fun d => decide (groupCoord (chipGroup me) d ≠ groupCoord (chipGroup p.dst) d) with
    | none => none
    | some dim =>
      let a := groupCoord (chipGroup me) dim
      let n := s.groupSize dim
      let way := if p.longway then decide (p.ldir = 1) else ringMinus a (groupCoord (chipGroup p.dst) dim) n
      let go := fun (minus : Bool) (q : Packet) =>
        match s.gateway (2 * dim + b2n minus) q with
        | none => none
        | some j =>
          let h := linkHolder s.fab.shape (2 * dim + b2n minus) j
          if h.1 = chipMember me then
            some (h.2, { q with dateline := q.dateline || wraps a n minus })
          else s.hopInGroup h.1 false q
      match go way p with
      | some r => some r
      | none =>
        if decide (4 ≤ n) && !p.longway then go (!way) { p with longway := true, ldir := b2n (!way) } else none

/-! ### The expected peer (R428, R431, R449) -/

/-- The member one step along dimension `dim` of a group's section. -/
def memberStep (shape m dim : Nat) (minus : Bool) : Nat :=
  let n := shapeSize shape dim
  let step := fun (d : Nat) => if d = dim then (memberCoord m d + (if minus then n - 1 else 1)) % n else memberCoord m d
  memberAt (step 0) (step 1) (step 2)

/-- The group one step along dimension `dim` of the fabric. -/
def State.groupStep (s : State) (g dim : Nat) (minus : Bool) : Nat :=
  let n := s.groupSize dim
  let step := fun (d : Nat) => if d = dim then (groupCoord g d + (if minus then n - 1 else 1)) % n else groupCoord g d
  step 0 + 8 * step 1 + 64 * step 2

/-- Does the group shape use port `p` (R429 to R431)? -/
def State.portUsed (s : State) (p : Nat) : Bool :=
  if p < 12 then decide (p < (if s.fab.shape = 0 then 12 else if s.fab.shape = 1 then 8 else 4))
  else if chipMember s.fab.chipNum = 0 then false
  else
    match linkDir s.fab.shape (2 * (chipMember s.fab.chipNum - 1) + (p - 12)) with
    | some d => decide (1 < s.groupSize (d.1 / 2))
    | none => false

/-- The chip and port that must be at the far end of a port; none for a port that the shapes do not use. -/
def State.expectedPeer (s : State) (p : Nat) : Option (Nat × Nat) :=
  let me := s.fab.chipNum
  if !s.portUsed p then none
  else if p < 12 then
    some (chipGroup me * 32 + memberStep s.fab.shape (chipMember me) (p / 4) (decide (2 ≤ p % 4)), p / 4 * 4 + (p % 4 + 2) % 4)
  else
    match linkDir s.fab.shape (2 * (chipMember me - 1) + (p - 12)) with
    | none => none
    | some d =>
      let h := linkHolder s.fab.shape (d.1 ^^^ 1) d.2
      some (s.groupStep (chipGroup me) (d.1 / 2) (decide (d.1 % 2 = 1)) * 32 + h.1, h.2)

/-! ### Ports and flits -/

/-- The virtual channel of a packet (R437). -/
def packetVc (p : Packet) : Nat :=
  (match p.ptype with
    | .readData => 2
    | .cmpl => 2
    | .sync => 2
    | _ => 0) + b2n p.dateline

/-- The bytes of a packet on the wire: its header and its padded data (R439). -/
def packetBytes (p : Packet) : Nat := 16 + roundUp p.data.length 4

/-- The flits of a packet: its body bytes in 244-byte bodies, the packet counted with the last (R438). -/
def packetFlits (p : Packet) : Nat := ceilDiv (packetBytes p) 244

/-- Queued packets moved into the replay buffer while the port is ACTIVE, the buffer has room and the channel has credits
(R437, R442, R637); `fuel` is at least the number of queued packets. -/
def Port.pump : Nat → Port → Port
  | 0, P => P
  | fuel + 1, P =>
    match P.queue with
    | [] => P
    | p :: rest =>
      let n := packetFlits p
      let vc := packetVc p
      if P.usable && decide (P.replay.length + n ≤ 512) && decide (n ≤ (P.credits[vc]?).getD 0) then
        let fl := (List.range n).map fun i =>
          ({ seq := (P.txSeq + i) % 4096, vc := vc, pkts := if i + 1 = n then [p] else [] } : Flit)
        Port.pump fuel { P with
          queue := rest, replay := P.replay ++ fl, txSeq := (P.txSeq + n) % 4096,
          credits := P.credits.set vc ((P.credits[vc]?).getD 0 - n) }
      else P

/-- The descriptor that a request was sent for. -/
def Purpose.descId : Purpose → Option Nat
  | .descCheck i => some i
  | .descWrite i => some i
  | .descRead i _ => some i
  | .descAdd i => some i
  | .descAtomic i => some i
  | _ => none

/-- The core whose CHAIN item a request was sent for. -/
def Purpose.chainCore : Purpose → Option Nat
  | .chain c _ => some c
  | .chainCheck c => some c
  | .lateClaim c => some c
  | _ => none

/-- The place of a descriptor among those that share a fetch engine or a port (R343): an admitted GUARANTEED queue's reserved rate first,
then earliest deadline first; one without a deadline as if it were 1 ms after its take. -/
def State.descRank (s : State) (d : Desc) : Nat :=
  let Q := s.queue d.queue
  if decide (Q.cls = 1) && Q.admitted then 0 else d.deadline.getD (d.takeFt + 1000000)

/-- The rank of a packet that a descriptor of this chip sends. -/
def State.packetRank (s : State) (p : Packet) : Option Nat :=
  if p.src ≠ s.fab.chipNum then none
  else
    match p.ptype with
    | .readData | .cmpl | .sync | .signal => none
    | _ =>
      ((s.fab.outReqs.find? fun r => decide (r.tag = p.tag)).bind fun r =>
        r.why.descId.bind fun id => s.qs.descs.find? fun d => d.id == id).map s.descRank

/-- A packet put into a port's queue: before those at its end that rank after it (R343); packets without a rank keep their places. -/
def insertRanked (rank : Packet → Option Nat) (p : Packet) (l : List Packet) : List Packet :=
  match rank p with
  | none => l ++ [p]
  | some r =>
    let later := (l.reverse.takeWhile fun q => (rank q).any (r < ·)).length
    l.take (l.length - later) ++ p :: l.drop (l.length - later)

/-- A packet handed to a port. -/
def State.enqueue (s : State) (port : Nat) (p : Packet) : State :=
  let P := s.port port
  let P := { P with queue := insertRanked s.packetRank p P.queue, lastProgress := if P.replay.isEmpty then s.ft.toNat else P.lastProgress }
  (s.setPort port (P.pump (P.queue.length))).bump (portOff port 0x50) (packetBytes p)

/-- A packet sent on its route; false where it is unroutable, which `UNROUTABLE` counts (R435). -/
def State.forward (s : State) (p : Packet) : State × Bool :=
  match s.nextHop p with
  | some (port, q) => (s.enqueue port q, true)
  | none => ((s.bumpSeen 0xE028 0xE004 0).logEvent .linkRetryExhausted 0 0 p.dst, false)

/-- A packet sent by the hardware for no operation of this chip: where it is unroutable, the logged event is counted under its code
(R435, R630). -/
def State.sendOn (s : State) (p : Packet) : State :=
  let r := s.forward p
  if r.2 then r.1 else r.1.count .linkRetryExhausted

/-- The dimension a port serves: 0 to 2 within the group, 3 to 5 between groups (R428, R431). -/
def State.portDim (s : State) (p : Nat) : Nat :=
  if p < 12 then p / 4
  else
    match linkDir s.fab.shape (2 * (chipMember s.fab.chipNum - 1) + (p - 12)) with
    | some d => 3 + d.1 / 2
    | none => 6

/-- A packet that came in by port `ingress`: where its coordinate in the dimension of its long way matches, `longway` is cleared (R435). The
long way of a packet bound for another group is one between groups. -/
def State.clearLongway (s : State) (ingress : Nat) (p : Packet) : Packet :=
  let d := s.portDim ingress
  let me := s.fab.chipNum
  let there :=
    if d < 3 then decide (chipGroup me = chipGroup p.dst ∧ memberCoord (chipMember me) d = memberCoord (chipMember p.dst) d)
    else decide (groupCoord (chipGroup me) (d - 3) = groupCoord (chipGroup p.dst) (d - 3))
  if p.longway && there then { p with longway := false, ldir := 0 } else p

/-- A packet that came in by port `ingress` sent on; it clears `dateline` when it turns to another dimension (R437). -/
def State.transit (s : State) (ingress : Nat) (p : Packet) : State × Bool :=
  let p := s.clearLongway ingress p
  match s.nextHop p with
  | none => s.forward p
  | some (port, _) => if s.portDim port = s.portDim ingress then s.forward p else s.forward { p with dateline := false }

/-- A request sent to another chip under a fresh tag; false where no route exists (R439, R435). -/
def State.request (s : State) (why : Purpose) (p : Packet) : State × Bool :=
  let tag := s.fab.nextTag
  let old := s.fab.outReqs
  let t : State := { s with
    fab.nextTag := (tag + 1) % 16384
    fab.outReqs := old ++ [{ tag := tag, dst := p.dst, why := why, addr := p.addr }] }
  let q : Packet := { p with src := s.fab.chipNum, tag := tag }
  let r := t.forward q
  if r.2 then r
  else
    let back : State := r.1
    ({ back with fab.outReqs := old }, false)

/-- Requests of this chip taken back: their packets that have not left this chip, and the answers to those that have. -/
def State.dropRequests (s : State) (mine : Purpose → Bool) : State :=
  let tags := (s.fab.outReqs.filter fun r => mine r.why).map (·.tag)
  let own := fun (p : Packet) =>
    decide (p.src = s.fab.chipNum) && tags.contains p.tag && !(decide (p.ptype = .readData) || decide (p.ptype = .cmpl) || decide (p.ptype = .sync))
  let s := (List.range Config.ports).foldl
    (fun (t : State) i =>
      let P := t.port i
      t.setPort i { P with
        queue := P.queue.filter fun p => !own p,
        replay := P.replay.map fun f => { f with pkts := f.pkts.filter fun p => !own p } }) s
  { s with fab.outReqs := s.fab.outReqs.filter fun r => !mine r.why }

/-- The pieces of an extent that do not cross a 4 KiB boundary of `addr` (R439); `fuel` is at least the bytes. -/
def pagePieces : Nat → Nat → List Byte → List (Nat × List Byte)
  | 0, _, _ => []
  | fuel + 1, a, bs =>
    if bs.isEmpty then []
    else (a, bs.take (4096 - a % 4096)) :: pagePieces fuel (a + (4096 - a % 4096)) (bs.drop (4096 - a % 4096))

/-- The 4 KiB-bounded pieces of [a, a + n) as address and length. -/
def pageSpans (a n : Nat) : List (Nat × Nat) :=
  if n = 0 then []
  else (List.range ((a + n - 1) / 4096 + 1 - a / 4096)).map fun i =>
    let lo := max a ((a / 4096 + i) * 4096)
    let hi := min (a + n) ((a / 4096 + i + 1) * 4096)
    (lo, hi - lo)

/-- A packet of a request or answer, with its `len_m1` under R439. -/
def mkPacket (t : PType) (dst addr : Nat) (data : List Byte) (aux : Nat := 0) (want : Nat := 0) : Packet :=
  { ptype := t, dst := dst, src := 0, tag := 0,
    lenM1 := if t = .read then want - 1 else data.length - 1, addr := addr, aux := aux, data := data }

/-- A write of `data` at a chip's local address, as WRITE packets; the number of packets sent and whether all were routed. -/
def State.remoteWrite (s : State) (why : Purpose) (chip addr : Nat) (data : List Byte) : State × Nat × Bool :=
  (pagePieces data.length addr data).foldl
    (fun acc p =>
      let r := acc.1.request why (mkPacket .write chip p.1 p.2)
      (r.1, acc.2.1 + b2n r.2, acc.2.2 && r.2))
    (s, 0, true)

/-- A read of `n` bytes at a chip's local address, as READ packets. -/
def State.remoteRead (s : State) (why : Purpose) (chip addr n : Nat) : State × Nat × Bool :=
  (pageSpans addr n).foldl
    (fun acc p =>
      let r := acc.1.request why (mkPacket .read chip p.1 [] 0 p.2)
      (r.1, acc.2.1 + b2n r.2, acc.2.2 && r.2))
    (s, 0, true)

/-- An answer to a request that came from another chip: a CMPL with a status (R439). An unroutable answer is counted and
dropped. -/
def State.answer (s : State) (p : Packet) (st : Status) : State :=
  s.sendOn { mkPacket .cmpl p.src p.addr [] st.code with src := s.fab.chipNum, tag := p.tag }

end Sys2Proof.Machine
end

