-- ==== Sys2Proof/Machine/WearOps.lean ====
section
/-! DEFINITION. Wear: CRC-32 (R438), the lifetime counters (R486), the retirement record (R481), worn rows and banks and pages
taken off line (R477 to R480), spare cores (R50 to R53), and the DEGRADED and unfit conditions (R483 to R485). -/

namespace Sys2Proof.Machine

/-! ### CRC-32 (R438) -/

/-- One bit step of the reflected CRC-32. -/
def crcBit (c : Nat) : Nat := if c % 2 = 1 then (c / 2) ^^^ 0xEDB88320 else c / 2

/-- One byte of the reflected CRC-32. -/
def crcByte (c : Nat) (b : Byte) : Nat :=
  (List.range 8).foldl (fun c _ => crcBit c) (c ^^^ b.toNat)

/-- The CRC-32 of R438: initial value and final XOR all ones. -/
def crc32 (l : List Byte) : Nat := (l.foldl crcByte 0xFFFFFFFF) ^^^ 0xFFFFFFFF

/-! ### Lifetime counters (R486) -/

/-- A lifetime counter. -/
def State.life (s : State) (sub : Nat) : W64 := Store.get 0 s.wear.life sub
/-- The state with a lifetime counter replaced. -/
def State.setLife (s : State) (sub : Nat) (v : W64) : State := { s with wear.life := Store.set 0 s.wear.life sub v }
/-- A lifetime counter raised by `n`, saturating. -/
def State.lifeAdd (s : State) (sub n : Nat) : State :=
  s.setLife sub (BitVec.ofNat 64 (min ((s.life sub).toNat + n) (2 ^ 64 - 1)))
/-- A lifetime counter that keeps the highest value seen (two's complement of 64 bits where `v` is negative). -/
def State.lifeMax (s : State) (sub : Nat) (v : Int) : State :=
  if (s.life sub).toInt < v then s.setLife sub (BitVec.ofInt 64 v) else s

/-! ### Fitness (R483 to R485) -/

/-- Logical cores that are absent. -/
def State.absentCores (s : State) : Nat := (s.cores.filter fun e => e.2.absent).length

/-- Is some used port ACTIVE at fewer than `n` lanes? -/
def State.portNarrow (s : State) (n : Nat) : Bool :=
  (List.range Config.ports).any fun p =>
    s.portUsed p && decide ((s.port p).link = .active) && decide ((s.port p).width < n)

/-- The areas of near memory whose loss makes the device unfit: queue table, stall table, tier metadata, snapshots (R484). -/
def State.vitalAreas (s : State) : List (Nat × Nat) :=
  [(s.dictNat 0x4400 1, 0x4000000), (s.dictNat 0x4400 2, 0x4000000),
   (s.dictNat 0x4300 1 * 2 ^ 30, if s.dictNat 0x4300 5 = 1 then s.dictNat 0x4300 3 * 2 ^ 20 else 0),
   (s.dictNat 0x2200 4, 2 * (s.dictNat 0x2200 2 + s.dictNat 0x2200 3) * s.dictNat 0x2200 5 * 2 ^ 20)]

/-- DEGRADED (R483). -/
def State.isDegraded (s : State) : Bool :=
  decide (s.absentCores ≠ 0) || !s.wear.offline.isEmpty || s.portNarrow 8

/-- Unfit (R484). -/
def State.isUnfit (s : State) : Bool :=
  decide (Config.cores - s.absentCores < s.dictNat 0x2210 1) ||
  decide (786432 - 2 * s.wear.offline.length < s.dictNat 0x2210 2) ||
  s.portNarrow (s.dictNat 0x2210 3) ||
  s.mem.chans.any (fun e => e.2.failed) ||
  s.wear.offline.any (fun p => s.vitalAreas.any fun a => overlaps (p * 0x200000) 0x200000 a.1 a.2) ||
  s.wear.recordFull

/-- The code of a device state (R569). -/
def devCode : DevState → Nat
  | .off => 0
  | .reset => 1
  | .boot => 2
  | .config => 3
  | .ready => 4
  | .running => 5
  | .draining => 6
  | .faulted => 7

/-- The value of `DEV_STATE` (R572). -/
def State.devWord (s : State) : Nat :=
  devCode s.dev + b2n s.wear.degraded * 2 ^ 8 + b2n s.wear.unfit * 2 ^ 9 + b2n s.devBusy * 2 ^ 10 + s.devCmdStatus * 2 ^ 16

/-- The present value of `DEV_STATE` sent to the event node (R559). -/
def State.sendEvent (s : State) : State :=
  { s.bump 0x250 1 with
    mgmt.events := s.mgmt.events ++ [s.devWord], mgmt.lastEvent := some s.ft.toNat, mgmt.eventDue := none }

/-- `DEV_STATE` has changed from the value `old` (R559): an event at once, or, within 1 ms of the last one, when that millisecond has
passed; a change that replaces one not yet sent is lost. -/
def State.devChanged (s : State) (old : Nat) : State :=
  if s.devWord = old ∨ s.dictNat 0x2010 6 = 0xFF then s
  else
    match s.mgmt.eventDue, s.mgmt.lastEvent with
    | some _, _ => s.bump 0x278 1
    | none, some t =>
      if s.ft.toNat < t + 1000000 then { s with mgmt.eventDue := some (t + 1000000) }
      else if s.mgmt.link ≤ 1 then s.sendEvent else { s with mgmt.eventDue := some s.ft.toNat }
    | none, none => if s.mgmt.link ≤ 1 then s.sendEvent else { s with mgmt.eventDue := some s.ft.toNat }

/-- DEGRADED and unfitness evaluated together; entry into unfitness is a logged wear event (R485). -/
def State.evalFitness (s : State) : State :=
  let d := s.isDegraded
  let u := s.isUnfit
  let s := if d && !s.wear.degraded then s.lifeAdd 9 1 else s
  let s := if u && !s.wear.unfit then (s.lifeAdd 10 1).countLog .unfit 0 0 0 else s
  { s with wear.degraded := d, wear.unfit := u }.devChanged s.devWord

/-! ### The retirement record (R481) -/

/-- An entry added to the record; a full record is itself a wear event (R484). -/
def State.record (s : State) (e : RetEntry) : State :=
  if 254 ≤ s.wear.record.length then ({ s with wear.recordFull := true }).evalFitness
  else
    ({ s with wear.record := s.wear.record ++ [e], wear.retireSeq := s.wear.retireSeq + 1 }).setFlag 0xF000 3

/-- The kind-7 entry of a core replaced by another, or the other added (R481). -/
def State.recordCore (s : State) (core : Nat) (e : RetEntry) : State :=
  if s.wear.record.any (fun (r : RetEntry) => decide (r.kind = 7 ∧ r.a = core)) then
    ({ s with
      wear.record := s.wear.record.map (fun (r : RetEntry) => if r.kind = 7 ∧ r.a = core then e else r),
      wear.retireSeq := s.wear.retireSeq + 1 }).setFlag 0xF000 3
  else s.record e

/-- The bytes of one entry. -/
def RetEntry.bytes (e : RetEntry) : List Byte := leBytes 1 e.kind ++ [0] ++ leBytes 2 e.a ++ leBytes 4 e.b ++ leBytes 8 e.c

/-- The 4 KiB of the record (R481). -/
def State.recordBytes (s : State) : List Byte :=
  let head := leBytes 4 0x10000000 ++ leBytes 2 s.wear.record.length ++ [0, 0] ++ leBytes 8 s.boot.serial.toNat ++
    leBytes 8 s.wear.retireSeq.toNat
  let body := (s.wear.record.map RetEntry.bytes).flatten
  let tail := body ++ List.replicate (4064 - body.length) 0
  head ++ leBytes 4 (crc32 (head ++ tail)) ++ [0, 0, 0, 0] ++ tail

/-! ### DRAM rows, banks and pages (R477, R479, R480) -/

/-- A substitution counted (R490). -/
def State.spareUsed (s : State) : State := s.bumpSeen 0xF008 0xF000 1
/-- A retirement counted (R490). -/
def State.retired (s : State) : State := s.bumpSeen 0xF010 0xF000 2

/-- A 2 MiB page taken off line (R477, R480). -/
def State.pageOffline (s : State) (page : Nat) : State :=
  if s.wear.offline.contains page then s
  else
    let s := { s with wear.offline := s.wear.offline ++ [page] }
    let s := (s.retired.record ⟨6, 0, 0, page * 0x200000⟩).countLog .spareExhausted 7 page (page * 0x200000)
    s.evalFitness

/-- The key of a bank: channel, die and bank. -/
def bankKey (ch die bank : Nat) : Nat := (ch * 16 + die) * 65536 + bank

/-- A worn DRAM row handled at once (R477): a spare row, else a spare bank, else its pages off line. -/
def State.wornRow (s : State) (ch die bank row : Nat) : State :=
  let k := bankKey ch die bank
  let dk := stackOf ch * 16 + die
  let used := Store.get 0 s.wear.dramRowsUsed k
  let banks := Store.get 0 s.wear.dramBanksUsed dk
  let st := stackOf ch
  if used < 16 then
    let s := { s with wear.dramRowsUsed := Store.set 0 s.wear.dramRowsUsed k (used + 1) }
    ((s.spareUsed.record ⟨4, ch, die * 256 + bank, row⟩).lifeAdd (0xB9 + 2 * st) 1).evalFitness
  else if banks < 2 then
    let s := { s with
      wear.dramBanksUsed := Store.set 0 s.wear.dramBanksUsed dk (banks + 1),
      wear.dramRowsUsed := Store.set 0 s.wear.dramRowsUsed k 0,
      wear.bankCopies := s.wear.bankCopies ++ [(ch, die, bank)] }
    ((s.spareUsed.record ⟨5, ch, die * 256 + bank, banks⟩).lifeAdd (0xBA + 2 * st) 1).evalFitness
  else (Config.rowPages ch die bank row).foldl (fun t p => t.pageOffline p) s

/-- The row of an address worn. -/
def State.wornAt (s : State) (a : Nat) : State :=
  let p := Config.dramPlace a
  s.wornRow (chanOf a) p.1 p.2.1 p.2.2

/-- The number of the scrub period under way (R255). -/
def State.scrubPeriod (s : State) : Nat := s.ft.toNat / (s.dictNat 0x4010 1 * 3600000000000)

/-- A block corrected on a read: counted, and its row worn at the 16th within one scrub period (R254, R477). -/
def State.correctBlock (s : State) (a : Nat) : State :=
  let s := s.noteCorrected a
  let s := s.lifeAdd (0x89 + 4 * stackOf (chanOf a) + 1) 1
  let p := Config.dramPlace a
  let k := bankKey (chanOf a) p.1 p.2.1 * 2 ^ 32 + p.2.2
  let c := Store.get (0, 0) s.wear.dramCorrected k
  let n := if c.1 = s.scrubPeriod then c.2 + 1 else 1
  if 16 ≤ n then { s with wear.dramCorrected := Store.set (0, 0) s.wear.dramCorrected k (0, 0) }.wornAt a
  else { s with wear.dramCorrected := Store.set (0, 0) s.wear.dramCorrected k (s.scrubPeriod, n) }

/-- A block found uncorrectable for the first time: marked, and its row worn (R254, R477). -/
def State.spoilBlock (s : State) (a : Nat) : State :=
  if s.blockBad a then s
  else ({ s with mem.badNear := Store.set false s.mem.badNear (a / 64) true, mem.nearErr := Store.set [] s.mem.nearErr (a / 64) [] }.lifeAdd (0x89 + 4 * stackOf (chanOf a) + 2) 1).wornAt a

/-- The 68 symbols of a block as they are received: its data and their check symbols, with the errors that stand in them (R253). -/
def State.blockWord (s : State) (a : Nat) : List Nat :=
  let d := (s.near (a / 64 * 64) 64).map (·.toNat)
  withErrors (d ++ rsCheck d) (Store.get [] s.mem.nearErr (a / 64))

/-- A block's data as its decoder leaves them, with no error left. -/
def State.settleBlock (s : State) (a : Nat) (word : List Nat) : State :=
  { s.putNear (a / 64 * 64) ((word.take 64).map (BitVec.ofNat 8)) with mem.nearErr := Store.set [] s.mem.nearErr (a / 64) [] }

/-- What a read finds of a block (R253, R254): nothing, one symbol that it corrects and writes back, or an uncorrectable block. -/
def State.observeBlock (s : State) (a : Nat) : State :=
  if (Store.get [] s.mem.nearErr (a / 64)).isEmpty || s.blockBad a then s
  else
    let w := s.blockWord a
    match rsDecode w with
    | .clean => s.settleBlock a w
    | .corrected p d => (s.settleBlock a (withErrors w [(p, BitVec.ofNat 8 d)])).correctBlock a
    | .bad => s.spoilBlock a

/-- Does [a, a + n) touch an off-line page (R479)? -/
def State.touchesOffline (s : State) (a n : Nat) : Bool :=
  s.wear.offline.any fun p => overlaps a n (p * 0x200000) 0x200000

/-! ### Tile-memory rows (R477) -/

/-- The key of a tile-memory row: core, bank (o >> 6) & 31 and row o >> 11 (R230). -/
def tmRowKey (core off : Nat) : Nat := core * 2 ^ 20 + (off / 64 % 32) * 8192 + off / 2048

/-- A tile-memory row worn; it is substituted at the next entry into READY (R477, R478). -/
def State.wornTile (s : State) (core off : Nat) : State :=
  let w := (core, tmRowKey 0 off)
  if s.wear.tmWorn.contains w then s else { s with wear.tmWorn := s.wear.tmWorn ++ [w] }

/-- What a read finds of the word at a tile-memory key with `n` bits in error (R235, R477): one is corrected and written back; more are
uncorrectable. -/
def State.observeWord (s : State) (k n : Nat) : State :=
  let core := k / 0x1000000
  let off := k % 0x1000000
  let s := { s with mem.tileErr := Store.set 0 s.mem.tileErr k 0 }
  if n = 1 then
    let s := s.bumpSeen (coreOff core 0x7008) (coreOff core 0x7000) 0
    let c := Store.get 0 s.wear.tmCorrected (tmRowKey core off) + 1
    let s := { s with wear.tmCorrected := Store.set 0 s.wear.tmCorrected (tmRowKey core off) c }
    if 16 ≤ c then s.wornTile core off else s
  else ({ s with mem.badTile := Store.set false s.mem.badTile k true }).wornTile core off

/-- What reads of extents of a core's tile memory, each given as offset and length, find of their words (R235). -/
def State.observeTile (s : State) (core : Nat) (l : List (Nat × Nat)) : State :=
  (s.mem.tileErr.filter fun e => l.any fun x => overlaps e.1 8 (tileKey core x.1) x.2).foldl (fun t e => t.observeWord e.1 e.2) s

/-! ### Cores (R49 to R54) -/

/-- The physical ID of a logical core (R49, R50). -/
def State.physOf (s : State) (core : Nat) : Nat := (s.core core).phys.getD (core / 36 * 64 + core % 36)

/-- The compute die of a logical core. -/
def State.dieOf (s : State) (core : Nat) : Nat := s.physOf core / 64

/-- The spare slots in the order in which a failed core of die `d` tries them (R52). -/
def spareOrder (d : Nat) : List Nat :=
  [64 * d + 36, 64 * d + 37] ++ (([0, 1, 2, 3].filter (· ≠ d)).map fun e => [64 * e + 36, 64 * e + 37]).flatten

/-- The spare that a failed core of die `d` takes, where one is free. -/
def State.freeSpare (s : State) (d : Nat) : Option Nat := (spareOrder d).find? fun p => !s.wear.spareCores.contains p

/-- The index of a table slot's bank in the table store: bank 0 is the active one. -/
def tableKey (core slot bank : Nat) : Nat := core * 16 + slot * 2 + bank

/-- Both banks of every table slot of a core hold the built-in set (R159, R174, R175). -/
def State.loadBuiltins (s : State) (core : Nat) : State :=
  let one := fun (t : Store TableBank) (i : Nat) =>
    Store.set {} t (core * 16 + i) { header := 0, builtin := some (i / 2), segs := [] }
  { s with tables := (List.range 16).foldl one s.tables }

/-- What a core holds beside its memories is gone: accumulators, finished tiles, buffers, tables, cache (R125, R175, R266). -/
def State.wipeEngines (s : State) (core : Nat) : State :=
  { s with
    accs := Store.erase {} (fun k => decide (k / 4 = core)) s.accs,
    ftq := Store.erase [] (fun k => decide (k = core)) s.ftq,
    bufs := Store.erase {} (fun k => decide (k / 4 = core)) s.bufs,
    tables := Store.erase {} (fun k => decide (k / 16 = core)) s.tables,
    mem.cache := Store.erase {} (fun k => decide (k / 16384 = core)) s.mem.cache,
    mem.plru := Store.erase 0 (fun k => decide (k / 1024 = core)) s.mem.plru }

/-- A failed core dealt with (R52, R53, R175, R266): a spare takes its number, with zeroed memories and the built-in tables, or
the number is retired. -/
def State.replaceCore (s : State) (core : Nat) : State :=
  let die := s.dieOf core
  let old := s.physOf core
  let s := s.wipeEngines core
  match s.freeSpare die with
  | some p =>
    let s := { s with
      wear.spareCores := s.wear.spareCores ++ [p],
      wear.tmWorn := s.wear.tmWorn.filter fun w => w.1 ≠ core,
      wear.tmCorrected := Store.erase 0 (fun k => decide (k / 2 ^ 20 = core)) s.wear.tmCorrected,
      mem.tile := Store.erase 0 (fun k => decide (k / 0x1000000 = core)) s.mem.tile,
      mem.badTile := Store.erase false (fun k => decide (k / 0x1000000 = core)) s.mem.badTile,
      mem.tileErr := Store.erase 0 (fun k => decide (k / 0x1000000 = core)) s.mem.tileErr }
    let s := (s.setCore core { phys := some p }).loadBuiltins core
    ((s.spareUsed.recordCore core ⟨1, core, p, 0⟩).lifeAdd (0xA9 + 4 * (p / 64)) 1).evalFitness
  | none =>
    let s := s.setCore core { phys := (s.core core).phys, absent := true }
    let s := (s.retired.recordCore core ⟨2, core, old, 0⟩).lifeAdd (0xAA + 4 * die) 1
    (s.countLog .spareExhausted 1 core 0).evalFitness

end Sys2Proof.Machine
end

