-- ==== Sys2Proof/Machine/MemOps.lean ====
section
/-! DEFINITION. Accesses to the memories, with what they meet: tripped stacks, failed channels and exhausted bursts (R250, R251, R261),
open rounds (R260), and corrected and uncorrectable blocks and words (R235, R253, R254). -/

namespace Sys2Proof.Machine

/-! ### Near memory -/

/-- Does the stack of a channel trip every access (R261)? -/
def State.chanTripped (s : State) (ch : Nat) : Bool := s.flag (msOff (stackOf ch) 0) 7

/-- What every access to a block meets first: a tripped stack (R261), a failed channel (R251), or re-sends that its burst exhausts
(R250). -/
def State.blockStatus (s : State) (a : Nat) : Status :=
  if s.chanTripped (chanOf a) then .thermalTrip
  else if (s.chan (chanOf a)).failed || s.mem.burstBad.contains (a / 64) then .crcResendExhausted
  else .ok

/-- An access to a block begun: its status, with a request that ends with CRC_RESEND_EXHAUSTED counted and logged (R250, R263, R632). -/
def State.blockGate (s : State) (a : Nat) : State × Status :=
  match s.blockStatus a with
  | .crcResendExhausted =>
    let ch := chanOf a
    let s := { s with mem.burstBad := s.mem.burstBad.filter (· ≠ a / 64) }
    ((s.bumpSeen (msOff (stackOf ch) 0x10) (msOff (stackOf ch) 0) 3).logEvent .crcResendExhausted 3 ch 0, .crcResendExhausted)
  | st => (s, st)

/-- The status of a read of one block, with what the read leaves counted (R254). -/
def State.readBlock (s : State) (a : Nat) : State × Status :=
  let g := s.blockGate a
  match g.2 with
  | .ok =>
    let s := g.1.observeBlock a
    if s.blockBad a then (s.noteUncorr a, .uncorrectable) else (s, .ok)
  | st => (g.1, st)

/-- A plain read: the first status that is not OK, and the bytes; with another status than OK they are no data (R254, R260). -/
def State.readNear (s : State) (a n : Nat) : State × Status × List Byte :=
  let r := (blocksOf a n).foldl (fun acc b => let r := acc.1.readBlock b; (r.1, acc.2.orElse r.2)) (s, Status.ok)
  (r.1, r.2, r.1.near a n)

/-- Does a block have an open round (R260)? -/
def State.roundOpen (s : State) (a : Nat) : Bool := ((s.chan (chanOf a)).roundOf (a / 64)).isSome

/-- A plain write that lies in one block (R254, R260): refused by a tripped stack, a failed channel, an exhausted burst or an open
round; a write of part of a block reads it first, and an uncorrectable block stays as it is. -/
def State.writeBlock (s : State) (a : Nat) (bytes : List Byte) : State × Status :=
  if s.blockStatus a = .ok ∧ s.roundOpen a = true then (s, .stateConflict)
  else
    let g := s.blockGate a
    match g.2 with
    | .ok =>
      if bytes.length < 64 then
        let s := g.1.observeBlock a
        if s.blockBad a then (s.noteUncorr a, .uncorrectable) else (s.putNear a bytes, .ok)
      else
        ({ g.1.putNear a bytes with
          mem.badNear := Store.set false g.1.mem.badNear (a / 64) false
          mem.nearErr := Store.set [] g.1.mem.nearErr (a / 64) [] }, .ok)
    | st => (g.1, st)

/-- A plain write, each block judged on its own (R260); the status is the first that is not OK. -/
def State.writeNear (s : State) (a : Nat) (bytes : List Byte) : State × Status :=
  (blockPieces bytes.length a bytes).foldl
    (fun acc p =>
      let r := acc.1.writeBlock p.1 p.2
      (r.1, acc.2.orElse r.2))
    (s, .ok)

/-- An extent of near memory left undefined, but for blocks that have an open round (R260). -/
def State.havocNear (s : State) (a n : Nat) : State :=
  let f := s.freeBytes n
  (blockPieces n a f.1).foldl (fun t p => if t.roundOpen p.1 then t else t.putNear p.1 p.2) f.2

/-! ### Tile memory -/

/-- What reads of extents of a core's tile memory meet (R235): corrected words, and the first uncorrectable one. An access that meets several
uncorrectable words counts one in `TM_UNCORR` (DESIGN CHOICE). -/
def State.meetTile (s : State) (core : Nat) (l : List (Nat × Nat)) : State × Status :=
  let s := s.observeTile core l
  match l.findSome? fun e => s.tileBad core e.1 e.2 with
  | some w => (s.noteTileUncorr core w, .uncorrectable)
  | none => (s, .ok)

/-- A read of tile memory through the window, or of a table image (R235). -/
def State.readTile (s : State) (core off n : Nat) : State × Status × List Byte :=
  let r := s.meetTile core [(off, n)]
  (r.1, r.2, r.1.tile core off n)

/-! ### Upsets -/

/-- The way of a core's cache that holds a line, by its key in the cache store. -/
def State.lineKey (s : State) (core line : Nat) : Option Nat :=
  ((List.range 16).map fun w => core * 16384 + line % 1024 * 16 + w).find? fun k =>
    let c := Store.get {} s.mem.cache k
    c.valid && decide (c.line = line)

/-- An upset: the error stands until a read meets it or a write replaces it. -/
def State.upset (s : State) (u : Upset) : State :=
  match u with
  | .near b i d =>
    if d = 0 then s else { s with mem.nearErr := Store.set [] s.mem.nearErr b (Store.get [] s.mem.nearErr b ++ [(i, d)]) }
  | .tile core off =>
    let k := tileKey core off / 8 * 8
    { s with mem.tileErr := Store.set 0 s.mem.tileErr k (Store.get 0 s.mem.tileErr k + 1) }
  | .cache core line w =>
    match s.lineKey core line with
    | some k =>
      let c := Store.get {} s.mem.cache k
      { s with mem.cache := Store.set {} s.mem.cache k { c with err := c.err ++ [w] } }
    | none => s

/-- Does an upset name a place that there is? -/
def upsetOk (u : Upset) : Bool :=
  match u with
  | .near b i _ => isNear (64 * b) && decide (i < 68)
  | .tile core off => isCore core && decide (off < 0x1000000)
  | .cache core _ w => isCore core && decide (w < 9)

end Sys2Proof.Machine
end

