-- ==== Sys2Proof/Machine/SyncOps.lean ====
section
/-! DEFINITION. Semaphores and barriers (R363 to R391): the operations by state, waits and their satisfaction, rounds,
overruns, poisoning, and the layouts of the objects. -/

namespace Sys2Proof.Machine

def State.sem (s : State) (i : Nat) : Sem := Store.get {} s.sync.sems i
def State.setSem (s : State) (i : Nat) (v : Sem) : State := { s with sync.sems := Store.set {} s.sync.sems i v }
def State.bar (s : State) (b : Nat) : Bar := Store.get {} s.sync.bars b
def State.setBar (s : State) (b : Nat) (v : Bar) : State := { s with sync.bars := Store.set {} s.sync.bars b v }

/-- A failed operation of an object recorded: `FAULT_SEEN` set, and `SYNC_LAST_FAULT` written while it was clear (R388). `kind` is 0
for a semaphore and 1 for a barrier; the status is counted apart, by the item, descriptor or request that ends with it. -/
def State.syncRec (s : State) (st : Status) (kind index : Nat) : State :=
  s.faultRec 0x3004 5 [(0x3038, BitVec.ofNat 64 (st.code * 2 ^ 48 + kind * 2 ^ 47 + index * 2 ^ 31))]

/-- A failed operation of an object, counted and recorded (R388). -/
def State.syncFault (s : State) (st : Status) (kind index : Nat) : State := (s.count st).syncRec st kind index

/-! ### Who waits -/

/-- A descriptor by its identity. -/
def State.desc (s : State) (id : Nat) : Option Desc := s.qs.descs.find? (fun d => d.id == id)

/-- The state with a descriptor replaced. -/
def State.setDesc (s : State) (d : Desc) : State :=
  { s with qs.descs := s.qs.descs.map fun e => if e.id = d.id then d else e }

/-- The semaphores a waiter waits on, one for each enabled wait. -/
def State.waiterSems (s : State) (w : Waiter) (default : Nat) : List Nat :=
  match w with
  | .item q =>
    match (s.queue q).held with
    | some h => itemWaits (s.queue q).kind h.item
    | none => []
  | _ => [default]

/-- A value delivered to a control processor by a load, an atomic operation or a result read. -/
def State.deliver (s : State) (core : Nat) (v : W64) : State := s.setCore core { s.core core with cpValue := v }

/-- The end of a core's wait request: its result, which goes to a read of `SW_RESULT` that waits for it (R385). -/
def State.swResult (s : State) (core : Nat) (v : W64) : State :=
  let r := (s.core core).sw
  let s := (s.setCore core { s.core core with sw := none }).setReg (coreOff core 0x3010) v
  match r with
  | some q => if q.stalled then s.deliver core (BitVec.ofNat 64 (v.toNat / 2 ^ (8 * q.part) % 2 ^ (8 * q.size))) else s
  | none => s

/-- The control-processor request of a core. -/
def State.swReq (s : State) (core : Nat) : Option SwReq := (s.core core).sw

/-- The semaphores of a list of waits whose own condition does not hold now (R369). -/
def State.unmet (s : State) (l : List Nat) : List Nat :=
  l.filter fun j =>
    let S := s.sem j
    if S.observe then decide (S.count.toNat < S.thr) else decide (S.count.toNat < S.take * (l.filter (· == j)).length)

/-- Can waiter `w` be satisfied on semaphore `i` now (R369)? A work item with two waits needs both together. -/
def State.canTake (s : State) (i : Nat) (w : Waiter) : Bool :=
  match w with
  | .cp core =>
    match s.swReq core with
    | some r => decide (r.n.toNat ≤ (s.sem i).count.toNat)
    | none => false
  | _ =>
    let l := s.waiterSems w i
    !l.isEmpty && l.all fun j =>
      let S := s.sem j
      decide (S.state = .live) &&
      (if S.observe then decide (S.thr ≤ S.count.toNat) else decide (S.take * (l.filter (· == j)).length ≤ S.count.toNat))

/-- One engine wait's effect on a semaphore: the decrement of CONSUME, and the waiter gone (R369). -/
def Sem.takeBy (S : Sem) (w : Waiter) : Sem :=
  { S with
    count := if S.observe then S.count else S.count - BitVec.ofNat 32 S.take,
    waiters := S.waiters.erase w }

/-- A waiter satisfied on semaphore `i`: the decrements, and what its requester learns (R369, R385). -/
def State.satisfy (s : State) (i : Nat) (w : Waiter) : State :=
  match w with
  | .cp core =>
    match s.swReq core with
    | none => s
    | some r =>
      let S := s.sem i
      let c := if r.consume then S.count - r.n else S.count
      (s.setSem i { S with count := c, waiters := S.waiters.erase w }).swResult core (c.zeroExtend 64)
  | _ =>
    let s' := (s.waiterSems w i).foldl (fun t j => t.setSem j ((t.sem j).takeBy w)) s
    match w with
    | .item q =>
      match (s'.queue q).held with
      | some h => s'.setQueue q { s'.queue q with held := some { h with satisfied := true }, waitSince := none }
      | none => s'
    | .desc id =>
      match s'.desc id with
      | some d => s'.setDesc { d with satisfied := true }
      | none => s'
    | .chain core =>
      match (s'.core core).chain with
      | some r => s'.setCore core { s'.core core with chain := some { r with
        satisfied := true, satisfiedFt := s'.ft.toNat, satisfiedPrev := s'.ftPrev.toNat } }
      | none => s'
    | .chainArr core =>
      match (s'.core core).chain with
      | some r => s'.setCore core { s'.core core with chain := some { r with arrived := true, arrivedFt := (s'.sem i).riseFt } }
      | none => s'
    | .media eng => { s' with media := Store.set {} s'.media eng { Store.get {} s'.media eng with slotReady := true } }
    | .cp _ => s'

/-- The waits of a semaphore evaluated, oldest registration first; one that cannot be satisfied holds back none (R370). -/
def State.evalSem (s : State) (i : Nat) : State :=
  (s.sem i).waiters.foldl
    (fun t w => if (t.sem i).waiters.contains w && t.canTake i w then t.satisfy i w else t) s

/-- What a wait meets at once: STATE_CONFLICT on a FREE object, OWNER_LOST on a poisoned one (R368). -/
def SemState.waitStatus : SemState → Status
  | .free => .stateConflict
  | .live => .ok
  | .poisoned => .ownerLost

/-- The place of a waiter among those that register in one control cycle (R370): by core, then matrix engine, vector engine, attention
sequencer, update unit, fetch engines and control processor. A media engine, which the rule does not list, comes after the cores. -/
def State.waitRank (s : State) (w : Waiter) : Nat :=
  match w with
  | .item q => (s.queue q).core * 8 + ((s.queue q).kind - 1)
  | .desc id => (s.desc id).elim 0 fun d => d.core * 8 + 4 + d.fe
  | .cp core => core * 8 + 6
  | .chain core => core * 8 + 3
  | .chainArr core => core * 8 + 3
  | .media eng => 8 * Config.cores + eng

/-- The waits of semaphore `j` with `w` registered: after the older ones, and among those of this control cycle in their ranking. -/
def State.joined (s : State) (j : Nat) (w : Waiter) : List Waiter :=
  let isFresh := fun (v : Waiter) => s.sync.fresh.contains (j, v)
  let l := (s.sem j).waiters
  let now := l.filter isFresh
  let first := now.takeWhile fun v => decide (s.waitRank v ≤ s.waitRank w)
  l.filter (fun v => !isFresh v) ++ first ++ w :: now.drop first.length

/-- A wait registered on one semaphore. -/
def State.joinSem (s : State) (w : Waiter) (j : Nat) : State :=
  let t := s.setSem j { s.sem j with waiters := s.joined j w }
  { t with sync.fresh := (j, w) :: t.sync.fresh }

/-- A wait registered on every semaphore of `l` and evaluated; the status is what it is given at once (R368, R369). A wait refused is
a failed operation of the first semaphore that refuses it (R388). -/
def State.registerWait (s : State) (w : Waiter) (l : List Nat) : State × Status :=
  match l.find? fun j => decide ((s.sem j).state ≠ .live) with
  | some j => (s.syncRec (s.sem j).state.waitStatus 0 j, (s.sem j).state.waitStatus)
  | none =>
    let s := l.foldl (fun t j => t.joinSem w j) s
    match l with
    | [] => (s, .ok)
    | i :: _ => (s.evalSem i, .ok)

/-! ### Operations (R368) -/

/-- Units added to a semaphore (SIGNAL, or a signal adding `add`). -/
def State.semAdd (s : State) (i n : Nat) : State × Status :=
  let S := s.sem i
  match S.state with
  | .free => (s, .stateConflict)
  | .poisoned => (s, .ownerLost)
  | .live =>
    let sum := S.count.toNat + n
    let s := if sum > 0xFFFFFFFF then s.bumpSeen 0x3010 0x3004 1 else s
    ((s.setSem i { S with
      count := BitVec.ofNat 32 (min sum 0xFFFFFFFF), riseFt := if S.count = 0 then s.ft.toNat else S.riseFt }).evalSem i, .ok)

/-- DECREMENT (R368). -/
def State.semSub (s : State) (i n : Nat) : State × Status :=
  let S := s.sem i
  match S.state with
  | .free => (s, .stateConflict)
  | .poisoned => (s, .ownerLost)
  | .live =>
    if n ≤ S.count.toNat then (s.setSem i { S with count := S.count - BitVec.ofNat 32 n }, .ok)
    else (s.bumpSeen 0x3008 0x3004 0, .semUnderflow)

/-- The checks of INIT on a semaphore's configuration word (R368). -/
def Sem.cfgStatus (S : Sem) (thr : Nat) : Status :=
  if S.version ≠ 1 then .versionUnsupported
  else if S.rsvd ≠ 0 ∨ (144 ≤ S.ownCore ∧ S.ownCore ≤ 254) ∨ S.add = 0 ∨
    (S.observe = true ∧ S.take ≠ 0) ∨ (S.observe = false ∧ (S.take = 0 ∨ thr ≠ 0)) then .reservedNonzero
  else .ok

/-- INIT (R368). -/
def State.semInitOp (s : State) (i n thr : Nat) : State × Status :=
  let S := s.sem i
  match S.state with
  | .free =>
    match S.cfgStatus thr with
    | .ok => (s.setSem i { S with state := .live, count := BitVec.ofNat 32 n, thr := thr, waiters := [] }, .ok)
    | st => (s, st)
  | _ => (s, .stateConflict)

/-- FREE (R368): the configuration word is kept. -/
def State.semFreeOp (s : State) (i : Nat) : State × Status :=
  let S := s.sem i
  match S.state with
  | .free => (s, .ok)
  | _ => if S.waiters.isEmpty then (s.setSem i { S with state := .free, count := 0, thr := 0 }, .ok) else (s, .stateConflict)

/-- One signal by an engine, a descriptor or a barrier, adding the semaphore's `add`; a failure is recorded here and changes no
item's status (R368). -/
def State.signalSem (s : State) (i : Nat) : State :=
  let r := s.semAdd i (s.sem i).add
  if r.2 = .ok then r.1 else r.1.syncFault r.2 0 i

/-- The signal of an item's release field, where it has one. -/
def State.signalOpt (s : State) (o : Option Nat) : State :=
  match o with
  | some i => s.signalSem i
  | none => s

/-! ### Waiters released with a status -/

/-- A descriptor that ends with a fault: counted, recorded, its queue STOPPED, its place in the ring done (R336, R320). -/
def State.failDesc (s : State) (d : Desc) (st : Status) : State :=
  let s := { s with qs.descs := s.qs.descs.filter fun e => e.id ≠ d.id }
  let s := (s.setQueue d.queue ((s.queue d.queue).finishItem d.index)).count st
  let fe := 0x2000 + 0x100 * d.fe
  let s := match st with
    | .admissionRefused => s.bumpCore d.core (fe + 0x30) 1
    | .staleSource => s.bumpSeen (coreOff d.core (fe + 0x38)) (coreOff d.core fe) 2
    | _ => s
  s.recordFault d.queue d.index (d.index.zeroExtend 64) st

/-- A control-processor request that ends: its result, and the counters of an operation that failed (R384, R385). -/
def State.endSw (s : State) (core : Nat) (st : Status) (value : W32) : State :=
  let s := s.swResult core (BitVec.ofNat 64 (st.code * 2 ^ 48 + value.toNat))
  let s := s.setReg (coreOff core 0x3018) (BitVec.ofNat 64
    (setBits (s.reg (coreOff core 0x3018)).toNat 15 0 st.code))
  if st = .ok then s else (s.count st).bumpSeen (coreOff core 0x3020) (coreOff core 0x3018) 16

/-- A waiter gone from every semaphore it is registered on. -/
def State.dropWaiter (s : State) (w : Waiter) : State :=
  { s with sync.sems := s.sync.sems.map fun e => (e.1, { e.2 with waiters := e.2.waiters.filter (· ≠ w) }) }

/-- The CHAIN item of a core ends with a fault (R418): it sends nothing further, and what its requests still bring is nobody's. -/
def State.failChain (s : State) (core : Nat) (st : Status) : State :=
  match (s.core core).chain with
  | some r =>
    let s := ((s.dropWaiter (.chain core)).dropWaiter (.chainArr core)).dropRequests fun w => decide (w.chainCore = some core)
    (s.setCore core { s.core core with chain := none }).endItem r.queue st
  | none => s

/-- A waiter released with a status other than OK: the item or descriptor completes with it, has no effect and stops its
queue; a control-processor wait returns it (R372, R387). -/
def State.releaseWaiter (s : State) (w : Waiter) (st : Status) : State :=
  match w with
  | .item q => s.endItem q st
  | .desc id =>
    match s.desc id with
    | some d => s.failDesc d st
    | none => s
  | .cp core => s.endSw core st 0
  | .chain core => s.failChain core st
  | .chainArr core => s.failChain core st
  | .media eng => { s with media := Store.set {} s.media eng { Store.get {} s.media eng with status := st, slotReady := true } }

/-- The core a waiter belongs to. -/
def State.waiterCore (s : State) (w : Waiter) : Option Nat :=
  match w with
  | .item q => some (s.queue q).core
  | .desc id => (s.desc id).map (·.core)
  | .cp core => some core
  | .chain core => some core
  | .chainArr core => some core
  | .media _ => none

/-- Every waiter of a semaphore released with a status other than OK: its wait is a failed operation (R388). -/
def State.releaseAll (s : State) (i : Nat) (st : Status) : State :=
  (s.sem i).waiters.foldl (fun t w => ((t.syncRec st 0 i).dropWaiter w).releaseWaiter w st) s

/-- A semaphore poisoned (R372): frozen, its waiters released with OWNER_LOST, counted and logged once; the event is counted under its
code where it ends no wait (R630). -/
def State.poisonSem (s : State) (i : Nat) : State :=
  let S := s.sem i
  if S.state ≠ .live then s
  else
    let n := S.waiters.length
    let s := s.setSem i { S with state := .poisoned }
    let s := s.releaseAll i .ownerLost
    let s := (s.bumpSeen 0x3020 0x3004 3).bump 0x3028 n
    if n = 0 then s.countLog .ownerLost 6 i 0 else s.logEvent .ownerLost 6 i 0

/-! ### Barriers (R374 to R382) -/

/-- Participants of a barrier on this chip. -/
def Bar.nPart (B : Bar) : Nat := B.nPartM1 + 1
/-- The arrival bits of slot `c` (false: slot 0). -/
def Bar.slot (B : Bar) (c : Bool) : BitVec 144 := if c then B.slot1 else B.slot0
/-- The barrier with slot `c` replaced. -/
def Bar.setSlot (B : Bar) (c : Bool) (v : BitVec 144) : Bar := if c then { B with slot1 := v } else { B with slot0 := v }
/-- Does slot `c` hold every arrival bit? -/
def Bar.full (B : Bar) (c : Bool) : Bool := decide ((B.slot c).toNat = 2 ^ B.nPart - 1)

/-- Barrier waiters for which `p` holds released with a status; an ARRIVE or WAIT returns its round where the status is OK, and is a
failed operation otherwise (R388). -/
def State.releaseBar (s : State) (b : Nat) (st : Status) (p : W32 → Bool) : State :=
  let l := (s.bar b).waiters.filter fun w => p w.2
  let s := s.setBar b { s.bar b with waiters := (s.bar b).waiters.filter fun w => !p w.2 }
  l.foldl (fun t w => if st = .ok then t.endSw w.1 st w.2 else (t.syncRec st 1 b).endSw w.1 st 0) s

/-- The kinds of SYNC message this model sends between the members of a FABRIC barrier (R381, R382). -/
inductive SyncMsg where
  | arrival | release | overrun | poison
  deriving DecidableEq, Repr

/-- The code of a SYNC message. -/
def SyncMsg.code : SyncMsg → Nat
  | .arrival => 0 | .release => 1 | .overrun => 2 | .poison => 3

/-- The window address of a barrier object (R363). -/
def barAddr (b : Nat) : Nat := 0x200002000000 + 64 * b

/-- The word of a SYNC message about a barrier: its kind, its round and the barrier's `n_chips_m1`. The manual states no message. -/
def syncWord (m : SyncMsg) (round : W32) (nChips : Nat) : List Byte := leBytes 8 (nChips * 2 ^ 40 + m.code * 2 ^ 32 + round.toNat)

/-- A SYNC message about barrier `b` sent to a chip. -/
def State.sendSync (s : State) (chip b : Nat) (m : SyncMsg) (round : W32) : State :=
  s.sendOn { mkPacket .sync chip (barAddr b) (syncWord m round (s.bar b).nChipsM1) with src := s.fab.chipNum }

/-- A release sent on towards the members `dests` (R381, R454): one message to the next hop of each port that their routes from the root take,
naming the members behind it. A member that no route reaches is counted as an unroutable packet. -/
def State.treeSend (s : State) (b root nChips : Nat) (round : W32) (dests : List Nat) : State :=
  let hop := fun (c : Nat) => (s.nextHop { mkPacket .sync c 0 [] with src := root }).map (·.1)
  let t := (dests.filterMap hop).eraseDups.foldl
    (fun (t : State) p =>
      match t.expectedPeer p with
      | some e =>
        t.enqueue p { mkPacket .sync e.1 (barAddr b) (syncWord .release round nChips ++
          ((dests.filter fun c => hop c == some p).map fun c => leBytes 2 c).flatten) with src := root }
      | none => t)
    s
  (dests.filter fun c => (hop c).isNone).foldl (fun (t : State) c => t.sendSync c b .release round) t

/-- The member chips of a FABRIC barrier other than this one: this group's first `n` numbers from the root's group. -/
def State.barPeers (s : State) (B : Bar) : List Nat :=
  ((List.range (B.nChipsM1 + 1)).map fun i => chipGroup B.rootChip * 32 + i).filter fun c => c ≠ s.fab.chipNum

/-- The current round of a barrier completed (R377): the slot cleared, the round counted, its waiters released, `rel_sem`
signalled. -/
def State.completeRound (s : State) (b : Nat) : State :=
  let B := s.bar b
  let r := B.round
  let B := { B.setSlot B.sense 0 with round := r + 1, sense := !B.sense, sent := false }
  let s := (s.setBar b B).releaseBar b .ok (fun w => decide (w = r))
  if B.relEn then s.signalSem B.relSem else s

/-- An overrun of a barrier by participant `p` (0xFF when it was on another chip): FAULTED, every waiter released (R378). -/
def State.overrunBar (s : State) (b p : Nat) : State :=
  let s := s.setBar b { s.bar b with state := .faulted, ovrPart := p }
  let s := s.releaseBar b .barrierOverrun (fun _ => true)
  (s.bumpSeen 0x3018 0x3004 2).logEvent .barrierOverrun 6 b p

/-- A barrier poisoned on this chip (R380). -/
def State.poisonBarHere (s : State) (b : Nat) : State :=
  let B := s.bar b
  if B.state = .live ∨ B.state = .faulted then
    let n := B.waiters.length
    let s := s.setBar b { B with state := .poisoned }
    let s := s.releaseBar b .ownerLost (fun _ => true)
    let s := (s.bumpSeen 0x3020 0x3004 3).bump 0x3028 n
    if n = 0 then s.countLog .ownerLost 6 (0x10000 + b) 0 else s.logEvent .ownerLost 6 (0x10000 + b) 0
  else s

/-- A fault of a FABRIC barrier spread: to the root, or by the root to every member (R382). -/
def State.spreadFault (s : State) (b : Nat) (m : SyncMsg) : State :=
  let B := s.bar b
  if !B.fabric then s
  else if B.rootChip = s.fab.chipNum then (s.barPeers B).foldl (fun t c => t.sendSync c b m B.round) s
  else s.sendSync B.rootChip b m B.round

/-- A barrier poisoned, and the poisoning spread (R380, R382). -/
def State.poisonBar (s : State) (b : Nat) : State :=
  if (s.bar b).state = .live ∨ (s.bar b).state = .faulted then (s.poisonBarHere b).spreadFault b .poison else s

/-- One chip's arrival counted at the root of a FABRIC barrier (R381): the full count is zeroed and the release sent. The flag
says that the round's release has been given. -/
def State.rootArrival (s : State) (b : Nat) (slot : Bool) : State × Bool :=
  let B := s.bar b
  let n := (if slot then B.chipArr1 else B.chipArr0) + 1
  let full := decide (n = B.nChipsM1 + 1)
  let v := if full then 0 else n
  let s := s.setBar b (if slot then { B with chipArr1 := v } else { B with chipArr0 := v })
  if full then (s.treeSend b s.fab.chipNum B.nChipsM1 B.round (s.barPeers B), true) else (s, false)

/-- What a full current slot brings (R377, R381): a LOCAL round completes, and the next as well if its slot is already full; a
member of a FABRIC barrier sends its one arrival, and the root counts it. -/
def State.settleBar : Nat → State → Nat → State
  | 0, s, _ => s
  | fuel + 1, s, b =>
    let B := s.bar b
    if B.state ≠ .live ∨ !B.full B.sense then s
    else if !B.fabric then State.settleBar fuel (s.completeRound b) b
    else if B.sent then s
    else
      let s := s.setBar b { B with sent := true }
      if B.rootChip = s.fab.chipNum then
        let r := s.rootArrival b B.sense
        if r.2 then State.settleBar fuel (r.1.completeRound b) b else r.1
      else s.sendSync B.rootChip b .arrival B.round

/-- ARRIVE by participant `p` (R376, R379): the status and the round of the arrival. -/
def State.barArrive (s : State) (b p : Nat) : State × Status × W32 :=
  let B := s.bar b
  match B.state with
  | .free => (s, .stateConflict, 0)
  | .faulted => (s, .barrierOverrun, 0)
  | .poisoned => (s, .ownerLost, 0)
  | .live =>
    if B.nPart ≤ p then (s, .reservedNonzero, 0)
    else if !(B.slot B.sense).getLsbD p then
      ((s.setBar b (B.setSlot B.sense ((B.slot B.sense) ||| (1#144 <<< p)))).settleBar 2 b, .ok, B.round)
    else if !(B.slot (!B.sense)).getLsbD p then
      (s.setBar b (B.setSlot (!B.sense) ((B.slot (!B.sense)) ||| (1#144 <<< p))), .ok, B.round + 1)
    else ((s.overrunBar b p).spreadFault b .overrun, .barrierOverrun, 0)

/-- The checks of INIT on a barrier's header (R379). -/
def Bar.cfgStatus (B : Bar) : Status :=
  if B.version ≠ 1 then .versionUnsupported
  else if B.rsvd ≠ 0 ∨ (144 ≤ B.ownCore ∧ B.ownCore ≤ 254) ∨ 143 < B.nPartM1 ∨
    (B.fabric = false ∧ (B.rootChip ≠ 0 ∨ B.nChipsM1 ≠ 0)) ∨ 65535 < B.relSem then .reservedNonzero
  else .ok

/-- INIT of a barrier (R379). -/
def State.barInitOp (s : State) (b : Nat) : State × Status :=
  let B := s.bar b
  match B.state with
  | .free =>
    match B.cfgStatus with
    | .ok =>
      (s.setBar b { B with state := .live, round := 0, sense := false, slot0 := 0, slot1 := 0, chipArr0 := 0, chipArr1 := 0, ovrPart := 0, sent := false, waiters := [] }, .ok)
    | st => (s, st)
  | _ => (s, .stateConflict)

/-- FREE of a barrier (R379): its state fields zero, its header kept. -/
def Bar.freed (B : Bar) : Bar :=
  { B with state := .free, round := 0, sense := false, slot0 := 0, slot1 := 0, chipArr0 := 0, chipArr1 := 0, ovrPart := 0, sent := false, waiters := [] }

def State.barFreeOp (s : State) (b : Nat) : State × Status :=
  let B := s.bar b
  match B.state with
  | .free => (s, .ok)
  | .live => if B.waiters.isEmpty then (s.setBar b B.freed, .ok) else (s, .stateConflict)
  | _ => (s.setBar b B.freed, .ok)

/-- Is round `r` over at a barrier (R379)? -/
def Bar.roundOver (B : Bar) (r : W32) : Bool := decide ((B.round - r - 1).toNat < 2 ^ 31)

/-- WAIT for round `r` by a core's control processor: the status given at once, or the wait registered. -/
def State.barWait (s : State) (core b : Nat) (r : W32) : State × Status :=
  let B := s.bar b
  match B.state with
  | .free => (s, .stateConflict)
  | .faulted => (s, .barrierOverrun)
  | .poisoned => (s, .ownerLost)
  | .live => if B.roundOver r then (s, .ok) else (s.setBar b { B with waiters := B.waiters ++ [(core, r)] }, .ok)

/-- Every object of a context or core poisoned (R372, R380, R390): `own` says whether the owner is the one reset. -/
def State.poisonOwned (s : State) (own : Nat → Nat → Bool) : State :=
  let s := s.sync.sems.foldl (fun t e => if own (t.sem e.1).ownCore (t.sem e.1).ownCtx then t.poisonSem e.1 else t) s
  s.sync.bars.foldl (fun t e => if own (t.bar e.1).ownCore (t.bar e.1).ownCtx then t.poisonBar e.1 else t) s

/-! ### The objects as software reads them (R366, R374) -/

/-- The code of a semaphore state. -/
def SemState.code : SemState → Nat
  | .free => 0 | .live => 1 | .poisoned => 2

/-- The code of a barrier state. -/
def BarState.code : BarState → Nat
  | .free => 0 | .live => 1 | .faulted => 2 | .poisoned => 3

/-- The 512 bits of a barrier object (R374). -/
def Bar.obj (B : Bar) : BitVec 512 :=
  BitVec.ofNat 512
    (B.version * 2 ^ 508 + B.state.code * 2 ^ 506 + b2n B.sense * 2 ^ 505 + b2n B.fabric * 2 ^ 504 + B.nPartM1 * 2 ^ 496 +
     B.ownCore * 2 ^ 488 + B.ownCtx * 2 ^ 472 + B.rootChip * 2 ^ 458 + B.nChipsM1 * 2 ^ 434 + b2n B.relEn * 2 ^ 433 +
     B.relSem * 2 ^ 417 + B.round.toNat * 2 ^ 384 + B.chipArr0 * 2 ^ 369 + B.chipArr1 * 2 ^ 354 + B.ovrPart * 2 ^ 346 +
     B.slot1.toNat * 2 ^ 144 + B.slot0.toNat)

/-- A write of the word at offset 8 of a semaphore (R366): only while FREE, and its RO fields ignored. -/
def State.writeSemCfg (s : State) (i : Nat) (v : W64) : State × Status :=
  let S := s.sem i
  let x := v.toNat
  match S.state with
  | .free =>
    (s.setSem i { S with
      version := bits x 63 60, observe := bitAt x 57, take := bits x 53 46, add := bits x 45 38,
      ownCore := bits x 37 30, ownCtx := bits x 29 14, rsvd := bits x 13 0 }, .ok)
  | _ => (s, .stateConflict)

/-- A write of a header word of a barrier (R374), `w` its number from 0x20 in 8-byte steps. -/
def State.writeBarCfg (s : State) (b w : Nat) (v : W64) : State × Status :=
  let B := s.bar b
  let x := v.toNat
  match B.state with
  | .free =>
    match w with
    | 3 =>
      (s.setBar b { B with
        version := bits x 63 60, fabric := bitAt x 56, nPartM1 := bits x 55 48, ownCore := bits x 47 40,
        ownCtx := bits x 39 24, rootChip := bits x 23 10, rsvd := setBits B.rsvd 9 0 (bits x 9 0) }, .ok)
    | 2 =>
      (s.setBar b { B with
        nChipsM1 := bits x 63 50, relEn := bitAt x 49, relSem := bits x 48 33, rsvd := setBits B.rsvd 10 10 (bits x 32 32) }, .ok)
    | 1 => (s.setBar b { B with rsvd := setBits B.rsvd 36 11 (bits x 25 0) }, .ok)
    | _ =>
      if bits x 31 0 ≠ 0 then (s, .reservedNonzero)
      else (s.setBar b { B with rsvd := setBits B.rsvd 68 37 (bits x 63 32) }, .ok)
  | _ => (s, .stateConflict)

end Sys2Proof.Machine
end

