-- ==== Sys2Proof/Machine/Engine.lean ====
section
/-! DEFINITION. How an execute engine runs an item (R27, R106, R108, R137, R532): take, waits, checks, resources, the work
picker, its work, its completion and its release signal. -/

namespace Sys2Proof.Machine

/-- What an engine does with an item, by kind: its checks, its estimate and phase (R531), whether its resources are free, the
queue of the item under way on a core, and its work. The work ends with a status and whether the release semaphore is signalled
(R202), or leaves the item under way. -/
structure EngineOps where
  kind : Nat
  check : State → Nat → BitVec 512 → Status
  est : State → Nat → BitVec 512 → Nat × Nat
  free : State → Nat → BitVec 512 → Bool
  underway : State → Nat → Option Nat
  run : State → Nat → BitVec 512 → State × Option (Status × Bool)

/-- The item a queue's engine would begin next: the one it holds, else the next of the ring. -/
def State.peekItem (s : State) (q : Nat) : Option (BitVec 512) :=
  let Q := s.queue q
  match Q.held with
  | some h => some h.item
  | none => if decide (Q.state = .active) && decide (Q.head ≠ Q.tail) then some (s.ringItem Q Q.head) else none

/-- The next item taken and its waits registered (R320, R369); a wait refused at once, or an item whose memory cannot be read,
ends it. -/
def State.takeItem (s : State) (q : Nat) : State :=
  let Q := s.queue q
  let r := s.readNear (Q.itemAddr Q.head.toNat) 64
  let item : BitVec 512 := BitVec.ofNat 512 (leNat r.2.2)
  let waits := itemWaits Q.kind item
  let h : Held := { index := Q.head, item := item, satisfied := waits.isEmpty, seq := r.1.qs.nextDesc }
  let s := r.1.setQueue q { Q with
    head := Q.head + 1, held := some h,
    waitSince := if waits.isEmpty then none else some r.1.ft.toNat }
  let s := { s with qs.nextDesc := s.qs.nextDesc + 1 }
  if r.2.1 ≠ .ok then s.endItem q r.2.1
  else
    let w := s.registerWait (.item q) waits
    if w.2 ≠ .ok then w.1.endItem q w.2 else w.1

/-- The item that a queue's engine holds with its waits satisfied. -/
def State.readyItem (s : State) (q : Nat) : Option (BitVec 512) :=
  match (s.queue q).held with
  | some h => if h.satisfied then some h.item else none
  | none => none

/-- The estimate of a queue's ready item, for the picker. -/
def EngineOps.estOf (E : EngineOps) (s : State) (q : Nat) : Nat :=
  match s.readyItem q with
  | some x => let e := E.est s (s.queue q).core x; s.energy e.1 e.2
  | none => 0

/-- An item's work and, where it ends, its completion and its release signal. -/
def EngineOps.work (E : EngineOps) (s : State) (q : Nat) (x : BitVec 512) : State :=
  let r := E.run s q x
  match r.2 with
  | none => r.1
  | some e => if e.1 = .ok && e.2 then (r.1.endItem q .ok).signalOpt (itemRel s.fab.chipNum E.kind x) else r.1.endItem q e.1

/-- An item begun: its estimate charged, the picker's record, its work. -/
def EngineOps.begin (E : EngineOps) (s : State) (q : Nat) (x : BitVec 512) : State :=
  let core := (s.queue q).core
  let e := E.est s core x
  E.work ((s.charge core e.2 (s.energy e.1 e.2)).served q) q x

/-- Are the resources of a queue's ready item free? -/
def EngineOps.can (E : EngineOps) (s : State) (q : Nat) : Bool := (s.readyItem q).any (E.free s q)

/-- Does the picker choose a ready item (R532)? -/
def EngineOps.chosen (E : EngineOps) (s : State) (q : Nat) : Bool := s.picks q (E.estOf s q) (E.can s) (E.estOf s)

/-- A ready item whose resources are free: the picker's choice, then its checks (R108); an item that fails them is not charged. -/
def EngineOps.tryBegin (E : EngineOps) (s : State) (q : Nat) (x : BitVec 512) : State :=
  if !E.free s q x then s
  else if E.chosen s q then
    match E.check s q x with
    | .ok => E.begin s q x
    | st => (s.served q).endItem q st
  else (s.passOver q (E.estOf s q)).holdFor (s.queue q).core (E.estOf s q)

/-- The engine of `E` serves queue `q`, whose next item must be one that this command is about. -/
def EngineOps.serve (E : EngineOps) (s : State) (q : Nat) (mine : BitVec 512 → Bool) : State :=
  let Q := s.queue q
  if decide (Q.kind ≠ E.kind) || !s.takesItems Q.core || (s.peekItem q).all (fun x => !mine x) then s
  else
    match E.underway s Q.core with
    | some q' =>
      (match s.readyItem q with
        | some x => if q' = q then E.work s q x else s
        | none => s)
    | none =>
      let s := if Q.held.isSome then s else s.takeItem q
      match s.readyItem q with
      | some x => E.tryBegin s q x
      | none => s

/-- An item's end as a result of its work. -/
def ended (r : State × Status) : State × Option (Status × Bool) := (r.1, some (r.2, true))

/-- A busy counter raised by an amount that nothing constrains: the cycles an item takes are timing. -/
def State.busyFor (s : State) (off : Nat) : State :=
  let r := s.freeWord
  r.2.setReg off (r.2.reg off + r.1)

/-- The first status that is not OK of a list of checks. -/
def firstBad (l : List Status) : Status := l.foldl Status.orElse .ok

/-- A check that gives `st` unless it holds. -/
def need (ok : Bool) (st : Status) : Status := if ok then .ok else st

/-- Does a tile at granule `g` with format `f` lie within the granules 0 to 7,167 (R108, R137)? -/
def footprintOk (g f : Nat) : Bool := decide (g + fmtGranules f ≤ 7168)

/-- The checks of one operand tile: its first granule, its tag under R36, its footprint. -/
def State.operandCheck (s : State) (core g : Nat) : Status :=
  firstBad [tagCheck (s.tag core g), need (footprintOk g (tagFmt (s.tag core g))) .pageFault]

end Sys2Proof.Machine
end

