-- ==== Sys2Proof/Machine/Matrix.lean ====
section
/-! DEFINITION. The matrix engine (R75 to R90, R99 to R125): accumulation in the float and exact classes, the finished-tile
queue, SAVE and RESTORE, and the matrix commands. -/

namespace Sys2Proof.Machine

/-! ### Classes and windows (R75, R83) -/

/-- Accumulation classes. -/
inductive AccClass where
  | float | exact
  deriving DecidableEq, Repr, Inhabited

/-- The class of an operand pair (R75); none for a reserved combination. -/
def pairClass (a b : Nat) : Option AccClass :=
  let mxf := fun f : Nat => decide (5 ≤ f ∧ f ≤ 9)
  if (a = 1 ∨ a = 2) ∧ (b = 1 ∨ b = 2) then some .float
  else if (a = 3 ∨ a = 4) ∧ (b = 3 ∨ b = 4) then some .exact
  else if mxf a && mxf b then some .exact
  else if a = 10 ∧ b = 10 then some .exact
  else if a = 11 ∧ b = 11 then some .exact
  else none

/-- t of R83. -/
def winT (f : Nat) : Int :=
  match f with
  | 3 => 9 | 5 => 9 | 4 => 16 | 6 => 16 | 7 => 5 | 8 => 3 | 9 => 3 | 10 => 2 | 11 => 8 | _ => 0

/-- The window exponent L of a pair (R83). -/
def windowL (a b : Nat) : Int := winT a + winT b - (if fmtIsMx a then 73 else 78)

/-! ### Accumulation keys (R76) -/

def keyVersion (k : W64) : Nat := bits k.toNat 63 60
def keyClass (k : W64) : Nat := bits k.toNat 59 58
def keyFmtA (k : W64) : Nat := bits k.toNat 57 54
def keyFmtB (k : W64) : Nat := bits k.toNat 53 50
def keySref (k : W64) : Int := signed 10 (bits k.toNat 49 40)
def keyTerms (k : W64) : Nat := bits k.toNat 16 0

/-- A key from its fields. -/
def mkKey (cls a b : Nat) (sref lsb : Int) (terms : Nat) : W64 :=
  BitVec.ofNat 64 (2 ^ 60 + cls * 2 ^ 58 + a * 2 ^ 54 + b * 2 ^ 50 + unsigned 10 sref * 2 ^ 40 + unsigned 8 lsb * 2 ^ 32 + terms)

/-- The code of a class in a key. -/
def AccClass.code : AccClass → Nat
  | .float => 1 | .exact => 2

/-- Is the tile empty? -/
def AccTile.empty (t : AccTile) : Bool := decide (keyClass t.key = 0)

/-- A word of a tile. -/
def AccTile.word (t : AccTile) (i : Nat) : BitVec 96 := Store.get t.fill t.words i

/-- A word of a tile replaced. -/
def AccTile.setWord (t : AccTile) (i : Nat) (v : BitVec 96) : AccTile := { t with words := Store.set t.fill t.words i v }

/-! ### Exact-class words (R85, R86) -/

/-- What an exact-class word stands for: a code, or a whole number of units of the window. -/
inductive XWord where
  | nan | inf (neg : Bool) | fin (v : Int)
  deriving DecidableEq, Repr, Inhabited

/-- A word read under R85. -/
def XWord.ofBits (w : BitVec 96) : XWord :=
  if bits w.toNat 95 94 = 2 then
    (if w.toNat = 2 ^ 95 + 1 then .inf false else if w.toNat = 2 ^ 95 + 2 then .inf true else .nan)
  else .fin (signed 96 w.toNat)

/-- A word written under R85. -/
def XWord.toBits : XWord → BitVec 96
  | .nan => BitVec.ofNat 96 (2 ^ 95)
  | .inf false => BitVec.ofNat 96 (2 ^ 95 + 1)
  | .inf true => BitVec.ofNat 96 (2 ^ 95 + 2)
  | .fin v => BitVec.ofNat 96 (unsigned 96 v)

/-- The sum of two words (R86). -/
def XWord.add : XWord → XWord → XWord
  | .nan, _ => .nan
  | _, .nan => .nan
  | .inf a, .inf b => if a = b then .inf a else .nan
  | .inf a, .fin _ => .inf a
  | .fin _, .inf b => .inf b
  | .fin a, .fin b => .fin (a + b)

/-- An exact value as a term in units of 2^(L + …): floor, with the flag that it lost a non-zero bit (R84). `sh` is the exponent
by which the value is scaled. -/
def XWord.ofVal (sh : Int) : FVal → XWord × Bool
  | .nan => (.nan, false)
  | .inf n => (.inf n, false)
  | .fin n m e =>
    let x := e + sh
    if 0 ≤ x then (.fin (if n then -(m * 2 ^ x.toNat : Nat) else (m * 2 ^ x.toNat : Nat)), false)
    else
      let d := 2 ^ (-x).toNat
      let v : Int := if n then -(m : Int) else m
      (.fin (Int.fdiv v (d : Nat)), decide (m % d ≠ 0))

/-- The term of a block sum at scale distance `d` (R84): its word, and whether it was truncated or replaced by an infinity. -/
def blockTerm (l d : Int) (v : FVal) : XWord × Bool × Bool :=
  match v with
  | .fin n m e =>
    if d ≤ 0 then let r := XWord.ofVal (d - l) (.fin n m e); (r.1, r.2, false)
    else if m = 0 then (.fin 0, false, false) else (.inf n, false, true)
  | w => ((XWord.ofVal 0 w).1, false, false)

/-! ### Products (R80, R84, R99 to R101) -/

/-- One operand tile: its format and bytes. -/
structure OpTile where
  fmt : Nat
  bytes : List Byte
  deriving DecidableEq, Repr, Inhabited

/-- The unscaled value of element (r, c). -/
def OpTile.elem (t : OpTile) (r c : Nat) : FVal := elemVal t.fmt (elemAt t.fmt t.bytes r c)

/-- One tile pair of an item: A, B, and the valid reduction indices. -/
structure TilePair where
  a : OpTile
  b : OpTile
  k : Nat
  deriving DecidableEq, Repr, Inhabited

/-- B[j][k] or B[k][j] (R100). -/
def TilePair.bElem (p : TilePair) (layout : Bool) (j k : Nat) : FVal := if layout then p.b.elem k j else p.b.elem j k

/-- The products of one float-class word over a pair, k ascending (R80). -/
def floatPair (layout : Bool) (i j : Nat) (w : W32) (p : TilePair) : W32 :=
  (List.range p.k).foldl (fun w k => toF32 ((f32 w).add ((p.a.elem i k).mul (p.bElem layout j k)))) w

/-- The terms of one exact-class word over a pair: the word, and the terms truncated and replaced (R84). -/
def exactPair (layout : Bool) (l sref : Int) (i j : Nat) (acc : XWord × Nat × Nat) (p : TilePair) : XWord × Nat × Nat :=
  if fmtIsMx p.a.fmt then
    (List.range (ceilDiv p.k 32)).foldl
      (fun acc blk =>
        let ks := (List.range (min 32 (p.k - 32 * blk))).map (32 * blk + ·)
        let sa := scaleAt p.a.fmt p.a.bytes i (32 * blk)
        let sb := scaleAt p.b.fmt p.b.bytes j (32 * blk)
        let sum := if sa = 255 ∨ sb = 255 then .nan
          else ks.foldl (fun v k => v.add ((p.a.elem i k).mul (p.bElem layout j k))) (.fin false 0 0)
        let d : Int := (sa : Int) - 127 + ((sb : Int) - 127) - sref
        let t := blockTerm l d sum
        (acc.1.add t.1, acc.2.1 + b2n t.2.1, acc.2.2 + b2n t.2.2))
      acc
  else
    (List.range p.k).foldl
      (fun acc k => (acc.1.add (XWord.ofVal (-l) ((p.a.elem i k).mul (p.bElem layout j k))).1, acc.2)) acc

/-- The terms that the pairs of an item add to each word (R84). -/
def termsOf (ps : List TilePair) : Nat :=
  ps.foldl (fun n p => n + (if fmtIsMx p.a.fmt then ceilDiv p.k 32 else p.k)) 0

/-- The index of word (r, c). -/
def wordIx (r c : Nat) : Nat := 64 * r + c

/-- The products of an item added to a tile's valid words (R80, R84): the tile, `ACC_TRUNC`'s and `ACC_RANGE`'s increments. -/
def AccTile.products (t : AccTile) (cls : AccClass) (layout : Bool) (l sref : Int) (m n : Nat) (ps : List TilePair) :
    AccTile × Nat × Nat :=
  (List.range m).foldl
    (fun acc i =>
      (List.range n).foldl
        (fun acc j =>
          let ix := wordIx i j
          match cls with
          | .float =>
            let w := ps.foldl (floatPair layout i j) ((acc.1.word ix).truncate 32)
            (acc.1.setWord ix (w.zeroExtend 96), acc.2)
          | .exact =>
            let r := ps.foldl (exactPair layout l sref i j) (XWord.ofBits (acc.1.word ix), acc.2.1, acc.2.2)
            (acc.1.setWord ix r.1.toBits, r.2.1, r.2.2))
        acc)
    (t, 0, 0)

/-! ### Preload and read-out (R81, R88, R89, R111) -/

/-- The exact-class word of a preload value (R88). -/
def preloadWord (l sref : Int) (v : FVal) : XWord :=
  match v with
  | .nan => .nan
  | .inf n => .inf n
  | .fin n m e =>
    if m = 0 then .fin 0
    else if (Nat.log2 m : Int) + e < l + 78 + sref then .fin ((FVal.fin n m (e - (l + sref))).toIntR .rne)
    else .inf n

/-- A started tile before its products: its key, its words without a preload, its owner (R77, R81, R88). -/
def startTile (cls : AccClass) (a b : Nat) (sref : Int) (terms q : Nat) : AccTile :=
  { key := mkKey cls.code a b sref (if cls = .float then 0 else windowL a b) terms
    owner := some q
    fill := if cls = .float then 0x80000000#96 else 0
    words := [] }

/-- The preload values put into the valid words (R81, R88, R111). -/
def AccTile.preload (t : AccTile) (cls : AccClass) (l sref : Int) (m n : Nat) (val : Nat → Nat → FVal) : AccTile :=
  (List.range m).foldl
    (fun t i =>
      (List.range n).foldl
        (fun t j =>
          match cls with
          | .float => t.setWord (wordIx i j) ((toF32 (val i j)).zeroExtend 96)
          | .exact => t.setWord (wordIx i j) (preloadWord l sref (val i j)).toBits)
        t)
    t

/-- The value an exact-class word stands for. -/
def XWord.val (sh : Int) : XWord → FVal
  | .nan => .nan
  | .inf n => .inf n
  | .fin v => .fin (decide (v < 0)) v.natAbs sh

/-- The read-out of one word (R82, R89); `int` asks for INT32. -/
def readWord (cls : AccClass) (sh : Int) (int : Bool) (w : BitVec 96) : W32 :=
  match cls with
  | .float => w.truncate 32
  | .exact =>
    let v := (XWord.ofBits w).val sh
    if int then BitVec.ofNat 32 (unsigned 32 (v.toIntSat .rne 32).1) else toF32 v

/-! ### Work items (R104) -/

def mmOpcode (x : BitVec 512) : Nat := fld x 507 504
def mmAccOp (x : BitVec 512) : Nat := fld x 503 502
def mmTile (x : BitVec 512) : Nat := fld x 501 500
def mmOutFmt (x : BitVec 512) : Nat := fld x 499 496
def mmPreSrc (x : BitVec 512) : Nat := fld x 495 494
def mmPreGran (x : BitVec 512) : Nat := fld x 487 475
def mmLayout (x : BitVec 512) : Bool := fbit x 474
def mmKTiles (x : BitVec 512) : Nat := fld x 473 469
def mmM (x : BitVec 512) : Nat := m1 x 468 463
def mmN (x : BitVec 512) : Nat := m1 x 462 457
def mmKLast (x : BitVec 512) : Nat := m1 x 456 451
def mmAGran (x : BitVec 512) (p : Nat) : Nat := fld x 447 435 + p * fld x 434 422
def mmBGran (x : BitVec 512) (p : Nat) : Nat := fld x 421 409 + p * fld x 408 396
def mmSref (x : BitVec 512) : Int := signed 10 (fld x 395 386)

/-- The tile pairs that an item names; one pair of tags when `k_tiles` is 0 (R101). -/
def mmPairs (x : BitVec 512) : List Nat := List.range (max 1 (mmKTiles x))

/-- The accumulator tile of a core. -/
def State.acc (s : State) (core t : Nat) : AccTile := Store.get {} s.accs (core * 4 + t)
/-- An accumulator tile replaced. -/
def State.setAcc (s : State) (core t : Nat) (v : AccTile) : State := { s with accs := Store.set {} s.accs (core * 4 + t) v }
/-- The finished-tile queue of a core, oldest first. -/
def State.ftqOf (s : State) (core : Nat) : List FtqEntry := Store.get [] s.ftq core
/-- A finished-tile queue replaced. -/
def State.setFtq (s : State) (core : Nat) (v : List FtqEntry) : State := { s with ftq := Store.set [] s.ftq core v }

/-- Formats of an item's operands, from their tags (R35). -/
def State.mmFmts (s : State) (core : Nat) (x : BitVec 512) : Nat × Nat :=
  (tagFmt (s.tag core (mmAGran x 0)), tagFmt (s.tag core (mmBGran x 0)))

/-- The valid reduction indices of pair `p` (R101). -/
def mmK (x : BitVec 512) (p : Nat) : Nat := if p + 1 = mmKTiles x then mmKLast x else 64

/-- The tile pairs an item reads. -/
def State.mmTilePairs (s : State) (core : Nat) (x : BitVec 512) : List TilePair :=
  let f := s.mmFmts core x
  (List.range (mmKTiles x)).map fun p =>
    { a := ⟨f.1, s.tileAt core (mmAGran x p) f.1⟩, b := ⟨f.2, s.tileAt core (mmBGran x p) f.2⟩, k := mmK x p }

/-- Reserved fields and codes of an MMA item (R104, R77, R78). -/
def mmaReservedOk (x : BitVec 512) : Bool :=
  zeros x [(493, 488), (450, 448), (385, 384), (332, 320), (255, 0)] &&
  decide (mmAccOp x ≠ 3 ∧ mmPreSrc x ≠ 3 ∧ mmKTiles x ≤ 16) &&
  (decide (mmOutFmt x = 0) || (decide (mmOutFmt x = 12) && decide (mmAccOp x = 2))) &&
  (decide (mmPreSrc x ≠ 0) || decide (mmPreGran x = 0)) &&
  (decide (mmAccOp x = 1) || (decide (mmPreSrc x = 0) && decide (mmPreGran x = 0))) &&
  (decide (mmKTiles x ≠ 0) || decide (fld x 456 451 = 0)) &&
  decide (-254 ≤ mmSref x ∧ mmSref x ≤ 254)

/-- Reserved fields of a SAVE or RESTORE (R105). -/
def saveReservedOk (x : BitVec 512) : Bool :=
  zeros x [(503, 502), (499, 448), (434, 384), (332, 320), (255, 0)]

/-- Checks 3 to 7 of an MMA item (R108). Where several tiles fail check 4 with different statuses, the first counts: each tile's tag and then its
footprint, all A tiles, then all B tiles, then the preload tile (DESIGN CHOICE). -/
def State.mmaCheck (s : State) (q : Nat) (x : BitVec 512) : Status :=
  let core := (s.queue q).core
  let aG := (mmPairs x).map (mmAGran x)
  let bG := (mmPairs x).map (mmBGran x)
  let pG := if mmPreSrc x = 0 then [] else [mmPreGran x]
  let f := s.mmFmts core x
  let T := s.acc core (mmTile x)
  let preF := tagFmt (s.tag core (mmPreGran x))
  let ps := s.mmTilePairs core x
  firstBad
    [need ((aG ++ bG ++ pG).all fun g => decide (g < 7168)) .pageFault,
     firstBad ((aG ++ bG ++ pG).map (s.operandCheck core)),
     need (aG.all (fun g => decide (tagFmt (s.tag core g) = f.1)) && bG.all (fun g => decide (tagFmt (s.tag core g) = f.2))) .stateConflict,
     need ((pairClass f.1 f.2).isSome &&
       (!mmLayout x || (!fmtIsMx f.1 && !fmtIsMx f.2)) &&
       (fmtIsMx f.1 || decide (mmSref x = 0)) &&
       (decide (mmPreSrc x = 0) || decide (preF ≤ 2) || (decide (preF = 12) && decide (pairClass f.1 f.2 = some .exact))) &&
       (decide (mmOutFmt x = 0) || decide (f.1 = 11))) .reservedNonzero,
     need (if mmAccOp x = 1 then T.empty
       else !T.empty && decide (T.owner = some q) && decide (keyFmtA T.key = f.1) && decide (keyFmtB T.key = f.2) &&
         decide (keySref T.key = mmSref x) && decide (keyTerms T.key + termsOf ps ≤ 65536)) .stateConflict]

/-- The image of a tile that SAVE writes (R117). -/
def AccTile.image (t : AccTile) : List Byte :=
  ((List.range 4096).map fun i => leBytes 12 (t.word i).toNat).flatten ++ leBytes 8 t.key.toNat ++ List.replicate 2040 0

/-- The tile that a save image holds. -/
def imageTile (img : List Byte) (q : Nat) : AccTile :=
  { key := BitVec.ofNat 64 (leNat ((img.drop 49152).take 8))
    owner := some q
    fill := 0
    words := Store.setAll 0 [] ((List.range 4096).map fun i => (i, BitVec.ofNat 96 (leNat ((img.drop (12 * i)).take 12)))) }

/-- What RESTORE refuses of an image (R118). -/
def imageCheck (t : AccTile) : Status :=
  if keyVersion t.key ≠ 1 then .versionUnsupported
  else if keyClass t.key = 3 ∨ bits t.key.toNat 31 17 ≠ 0 ∨ 65536 < keyTerms t.key ∨
    (keyClass t.key = 1 ∧ t.words.any (fun w => decide (2 ^ 32 ≤ w.2.toNat)) = true) ∨
    (keyClass t.key = 0 ∧ t.words.isEmpty = false) then .reservedNonzero
  else .ok

/-- The checks of a matrix work item, in order (R108). -/
def State.matrixCheck (s : State) (q : Nat) (x : BitVec 512) : Status :=
  let core := (s.queue q).core
  let T := s.acc core (mmTile x)
  if fld x 511 508 ≠ 1 then .versionUnsupported
  else
    match mmOpcode x with
    | 0 => if mmaReservedOk x then s.mmaCheck q x else .reservedNonzero
    | 1 => firstBad [need (saveReservedOk x) .reservedNonzero, need (decide (mmAGran x 0 + 25 ≤ 7168)) .pageFault]
    | 2 =>
      firstBad [need (saveReservedOk x) .reservedNonzero, need (decide (mmAGran x 0 + 25 ≤ 7168)) .pageFault,
        need T.empty .stateConflict,
        (if (s.tileBad core (2048 * mmAGran x 0) 51200).isSome then .ok
         else imageCheck (imageTile (s.tile core (2048 * mmAGran x 0) 51200) q))]
    | _ => .reservedNonzero

/-- The reference energy of a format's tile pair (R531). -/
def pairEnergy (f : Nat) : Nat := if f ≤ 2 then 120 else if 7 ≤ f ∧ f ≤ 9 then 30 else 60

/-- The estimate of a matrix item and the phase it is charged to (R531). -/
def State.matrixEst (s : State) (core : Nat) (x : BitVec 512) : Nat × Nat :=
  match mmOpcode x with
  | 0 =>
    let f := s.mmFmts core x
    (10 + mmKTiles x * max (pairEnergy f.1) (pairEnergy f.2) +
      (if mmPreSrc x = 1 then 1 else if mmPreSrc x = 2 then 8 else 0) + (if mmAccOp x = 2 then 16 else 0),
     tagPhase (s.tag core (mmAGran x 0)))
  | 1 => (50, 0)
  | _ => (34, 0)

/-- Is the engine free for the item: no attention item holds it (R201), and a finish finds a finished-tile entry (R114)? -/
def State.matrixFree (s : State) (q : Nat) (x : BitVec 512) : Bool :=
  let core := (s.queue q).core
  (s.core core).walk.isNone &&
  (decide (mmOpcode x ≠ 0) || decide (mmAccOp x ≠ 2) || decide ((s.ftqOf core).length < 4))

/-- The tag of a finished tile (R39, R113). -/
def State.finishTag (s : State) (core q : Nat) (x : BitVec 512) : W128 :=
  outTag (s.tag core (mmAGran x 0)) (mmOutFmt x) q

/-- An accumulator tile whose valid words are undefined (R235). -/
def State.havocAcc (s : State) (core t : Nat) (T : AccTile) (m n : Nat) : State :=
  let free := fun i : Nat => ((Config.freeWord s.free (2 * i)).zeroExtend 96 <<< 32) ||| ((Config.freeWord s.free (2 * i + 1)).zeroExtend 96)
  let T' := (List.range m).foldl (fun T i => (List.range n).foldl (fun T j => T.setWord (wordIx i j) (free (wordIx i j))) T) T
  { s with free := s.free + 1 }.setAcc core t T'

/-- The bytes that reads of tiles take, each given as granule, format, rows and columns: the tag, and the valid elements. -/
def operandExts (l : List (Nat × Nat × Nat × Nat)) : List (Nat × Nat) :=
  (l.map fun g => tileReads g.1 g.2.1 g.2.2.1 g.2.2.2).flatten

/-- The work of an MMA item that has passed its checks (R77, R80 to R89, R111, R113). -/
def State.runMma (s : State) (q : Nat) (x : BitVec 512) : State × Status :=
  let core := (s.queue q).core
  let t := mmTile x
  let f := s.mmFmts core x
  let cls := (pairClass f.1 f.2).getD .float
  let l := windowL f.1 f.2
  let sref := mmSref x
  let m := mmM x
  let n := mmN x
  let ps := s.mmTilePairs core x
  let preF := tagFmt (s.tag core (mmPreGran x))
  let reads := (List.range (mmKTiles x)).map (fun p => (mmAGran x p, f.1, m, mmK x p)) ++
    (List.range (mmKTiles x)).map (fun p => if mmLayout x then (mmBGran x p, f.2, mmK x p, n) else (mmBGran x p, f.2, n, mmK x p)) ++
    (if mmPreSrc x = 0 then [] else [(mmPreGran x, preF, (if mmPreSrc x = 1 then 1 else m), n)])
  let pre := s.tileAt core (mmPreGran x) preF
  let terms := termsOf ps
  let T0 :=
    if mmAccOp x = 1 then
      let T := startTile cls f.1 f.2 sref (terms + b2n (decide (mmPreSrc x ≠ 0))) q
      if mmPreSrc x = 0 then T
      else T.preload cls l sref m n (fun i j => elemVal preF (elemAt preF pre (if mmPreSrc x = 1 then 0 else i) j))
    else
      let T := s.acc core t
      { T with key := T.key + BitVec.ofNat 64 terms }
  let s := s.busyFor (coreOff core 0x4020)
  let b := s.meetTile core (operandExts reads)
  let s := b.1
  if b.2 ≠ .ok then (s.havocAcc core t T0 m n, b.2)
  else
    let r := T0.products cls (mmLayout x) l sref m n ps
    let s := s.bumpSeenN (coreOff core 0x4008) (coreOff core 0x4000) 1 r.2.1
    let s := s.bumpSeenN (coreOff core 0x4010) (coreOff core 0x4000) 2 r.2.2
    if mmAccOp x = 2 then
      let out := Store.setAll 0 [] (((List.range m).map fun i => (List.range n).map fun j =>
        (wordIx i j, readWord cls (l + sref) (decide (mmOutFmt x = 12)) (r.1.word (wordIx i j)))).flatten)
      let e : FtqEntry := { m := m, n := n, tag := s.finishTag core q x, words := out }
      ((s.setAcc core t {}).setFtq core (s.ftqOf core ++ [e]), .ok)
    else (s.setAcc core t r.1, .ok)

/-- The work of a SAVE (R117). -/
def State.runSave (s : State) (q : Nat) (x : BitVec 512) : State × Status :=
  let core := (s.queue q).core
  let g := mmAGran x 0
  let s := s.busyFor (coreOff core 0x4020)
  let s := s.putTile core (2048 * g) (s.acc core (mmTile x)).image
  ((s.putTile core (tagOff g) (List.replicate 400 0)).setAcc core (mmTile x) {}, .ok)

/-- The work of a RESTORE (R118). -/
def State.runRestore (s : State) (q : Nat) (x : BitVec 512) : State × Status :=
  let core := (s.queue q).core
  let s := s.busyFor (coreOff core 0x4020)
  let r := s.readTile core (2048 * mmAGran x 0) 51200
  let T := imageTile r.2.2 q
  match r.2.1 with
  | .ok => (r.1.setAcc core (mmTile x) T, .ok)
  | st => (r.1.havocAcc core (mmTile x) T 64 64, st)

/-- The work of a matrix item. -/
def State.runMatrix (s : State) (q : Nat) (x : BitVec 512) : State × Status :=
  match mmOpcode x with
  | 0 => s.runMma q x
  | 1 => s.runSave q x
  | _ => s.runRestore q x

/-- The matrix engine. -/
def matrixEngine : EngineOps where
  kind := 1
  check := State.matrixCheck
  est := State.matrixEst
  free := State.matrixFree
  underway := fun _ _ => none
  run := fun s q x => ended (s.runMatrix q x)

/-- Is the item one that a command for opcode `op` and `acc_op` `a` is about? An item of another version or a reserved code belongs
to every command of the engine. -/
def mmaMine (a : Nat) (x : BitVec 512) : Bool :=
  decide (fld x 511 508 ≠ 1) || decide (3 ≤ mmOpcode x) ||
  (decide (mmOpcode x = 0) && (decide (mmAccOp x = a) || decide (mmAccOp x = 3)))

/-- As `mmaMine`, for SAVE and RESTORE. -/
def matrixMine (op : Nat) (x : BitVec 512) : Bool :=
  decide (fld x 511 508 ≠ 1) || decide (3 ≤ mmOpcode x) || decide (mmOpcode x = op)

/-- Complete entries discarded; nothing reads or reserves one between two commands (R116). -/
def State.flushFtq (s : State) (core : Nat) : State := s.setFtq core []

/-! ### Commands -/

/-- MMA_START (R77). -/
def execMmaStart (q : Nat) (s : State) : Host.Outcome State Fault Refusal :=
  ifUnit (isQueue q) "queue" (matrixEngine.serve s q (mmaMine 1))

/-- MMA_CONTINUE (R77). -/
def execMmaContinue (q : Nat) (s : State) : Host.Outcome State Fault Refusal :=
  ifUnit (isQueue q) "queue" (matrixEngine.serve s q (mmaMine 0))

/-- MMA_FINISH (R77, R113, R114). -/
def execMmaFinish (q : Nat) (s : State) : Host.Outcome State Fault Refusal :=
  ifUnit (isQueue q) "queue" (matrixEngine.serve s q (mmaMine 2))

/-- MATRIX_SAVE (R117). -/
def execMatrixSave (q : Nat) (s : State) : Host.Outcome State Fault Refusal :=
  ifUnit (isQueue q) "queue" (matrixEngine.serve s q (matrixMine 1))

/-- MATRIX_RESTORE (R118). -/
def execMatrixRestore (q : Nat) (s : State) : Host.Outcome State Fault Refusal :=
  ifUnit (isQueue q) "queue" (matrixEngine.serve s q (matrixMine 2))

/-- FTQ_FLUSH (R116). -/
def execFtqFlush (core : Nat) (s : State) : Host.Outcome State Fault Refusal :=
  ifUnit (isCore core) "core" (s.flushFtq core)

end Sys2Proof.Machine
end

