-- ==== Sys2Proof/Machine/Bounds.lean ====
section
/-! DEFINITION. The exact functions from which the built-in set's results stay within the bounds of R161, in fixed point with 260
fraction bits, and a result held to its bound. -/

namespace Sys2Proof.Machine

/-- 1 in fixed point. -/
def fixOne : Int := 2 ^ 260

/-- A finite value in fixed point; every FP32 value is exact there. -/
def FVal.fix : FVal → Int
  | .fin n m e =>
    let v : Int := if n then -(m : Int) else m
    if 0 ≤ e + 260 then v * 2 ^ (e + 260).toNat else Int.fdiv v (2 ^ (-(e + 260)).toNat)
  | _ => 0

/-- A fixed-point number as a value. -/
def fixVal (r : Int) : FVal := .fin (decide (r < 0)) r.natAbs (-260)

def fixMul (a b : Int) : Int := Int.fdiv (a * b) fixOne
def fixDiv (a b : Int) : Int := Int.fdiv (a * fixOne) b

/-- ln 2, log2 e, 1/√(2π) and √(2/π). -/
def fixLn2 : Int := 1284175362975860941795742467300961128543850681785439145697965880086719311618750
def fixLog2e : Int := 2672842766669574211887770024979960511796426922130096802413542443912580169091324
def fixPhi0 : Int := 739109762124497800800032338811787608008386214104544205508581942926614420116202
def fixGelu : Int := 1478219524248995601600064677623575216016772428209088411017163885853228840232404

/-- 2^x: the whole part shifts, the rest is a power series. Beyond ±400 the result is no FP32 number and its exact size does not matter. -/
def fixExp2 (x : Int) : Int :=
  let n := Int.fdiv x fixOne
  let a := fixMul (x - n * fixOne) fixLn2
  let v := (List.range 40).foldr (fun k acc => fixOne + Int.fdiv (fixMul a acc) ((k : Int) + 1)) fixOne
  let n := max (-400) (min 400 n)
  if 0 ≤ n then v * 2 ^ n.toNat else Int.fdiv v (2 ^ (-n).toNat)

/-- e^x. -/
def fixExp (x : Int) : Int := fixExp2 (fixMul x fixLog2e)

/-- ln of a positive finite value. -/
def FVal.fixLn : FVal → Int
  | .fin _ m e =>
    let k := Nat.log2 m
    let u : Int := Int.fdiv ((m : Int) * fixOne) (2 ^ k)
    let t := fixDiv (u - fixOne) (u + fixOne)
    let t2 := fixMul t t
    2 * fixMul t ((List.range 40).foldr (fun i acc => Int.fdiv fixOne (2 * (i : Int) + 1) + fixMul t2 acc) 0) + (e + k) * fixLn2
  | _ => 0

/-- 1 / (1 + e^(-x)). -/
def fixSigmoid (x : Int) : Int := fixDiv fixOne (fixOne + fixExp (-x))

/-- The distribution function of the normal law; beyond ±8 it is 0 or 1 to within 2^−50. -/
def fixNormal (x : Int) : Int :=
  if 8 * fixOne ≤ x then fixOne
  else if x ≤ -(8 * fixOne) then 0
  else
    let h := Int.fdiv (fixMul x x) 2
    let r := (List.range 180).foldl
      (fun (e : Int × Int) (k : Nat) => (Int.fdiv (-(fixMul e.1 h)) ((k : Int) + 1), e.2 + Int.fdiv e.1 (2 * (k : Int) + 1))) (fixOne, 0)
    Int.fdiv fixOne 2 + fixMul (fixMul x r.2) fixPhi0

/-- The functions of R153's built-in codes 3 to 12 at a finite argument, where they have a finite value. -/
def exactFn (fn : Nat) (x : FVal) : Option Int :=
  let v := x.fix
  let pos := !x.isZero && !x.isNeg
  match fn with
  | 3 => some (fixExp2 v)
  | 4 => some (fixExp v)
  | 5 => if pos then some x.fixLn else none
  | 6 => if x.isZero then none else some (fixDiv fixOne v)
  | 7 => if pos then some ((Nat.sqrt ((fixDiv fixOne v).natAbs * 2 ^ 260) : Nat) : Int) else none
  | 8 => some (fixSigmoid v)
  | 9 => some (2 * fixSigmoid (2 * v) - fixOne)
  | 10 => some (fixMul v (fixSigmoid v))
  | 11 => some (fixMul v (fixNormal v))
  | 12 =>
    let z := fixMul fixGelu (v + Int.fdiv (44715 * fixMul v (fixMul v v)) 1000000)
    some (fixMul v (fixSigmoid (2 * z)))
  | _ => none

/-- One unit in the last place of an FP32 result of size `r`, a subnormal unit at least. -/
def fixUlp (r : Int) : Int := 2 ^ (max ((Nat.log2 r.natAbs : Nat) : Int) 134 - 23).toNat

/-- The bound of R161 on a function's error at a value `v`, where its exact result is `r`. -/
def fnBound (fn : Nat) (v r : Int) : Int :=
  let abs22 : Int := 2 ^ 238
  match fn with
  | 3 => 2 * fixUlp r
  | 4 => 3 * fixUlp r
  | 5 => if Int.fdiv fixOne 2 ≤ v ∧ v < 2 * fixOne then abs22 else 2 * fixUlp r
  | 6 => fixUlp r
  | 7 => fixUlp r
  | 8 => abs22
  | 9 => if v.natAbs < 2 ^ 252 then min abs22 (2 * fixUlp r) else abs22
  | _ => fixMul abs22 (max fixOne v.natAbs)

/-- A built-in function's result `y` at `w` held to its bound (R161): the firmware's coefficients are such that no result lies outside it. One
that would is the exact result rounded. -/
def heldToBound (fn : Nat) (w y : W32) : W32 :=
  match f32 w with
  | .fin n m e =>
    (match exactFn fn (.fin n m e) with
      | none => y
      | some r =>
        let good :=
          match f32 y with
          | .fin n' m' e' => decide (((FVal.fin n' m' e').fix - r).natAbs ≤ (fnBound fn (FVal.fin n m e).fix r).natAbs)
          | _ => false
        if good then y else toF32 (fixVal r))
  | _ => y

end Sys2Proof.Machine
end

