-- ==== Sys2Proof/Machine/Special.lean ====
section
/-! DEFINITION. The special functions of the vector engine: segment tables, their reduction and evaluation, the function codes
and the built-in set (R146 to R161, R636). -/

namespace Sys2Proof.Machine

/-! ### Table images (R146 to R148) -/

def hdMode (h : BitVec 512) : Nat := fld h 507 505
def hdOrder (h : BitVec 512) : Nat := fld h 504 503
def hdElo (h : BitVec 512) : Int := signed 9 (fld h 495 487)
def hdOct (h : BitVec 512) : Nat := fld h 486 481
def hdMbits (h : BitVec 512) : Nat := fld h 480 478
def hdSegLog2 (h : BitVec 512) : Nat := fld h 477 474
def hdSatNeg (h : BitVec 512) : W32 := BitVec.ofNat 32 (fld h 447 416)
def hdSatPos (h : BitVec 512) : W32 := BitVec.ofNat 32 (fld h 415 384)
def hdC (h : BitVec 512) : W32 := BitVec.ofNat 32 (fld h 383 352)
def hdId (h : BitVec 512) : Nat := fld h 351 320

/-- H of R148. -/
def hdH (h : BitVec 512) : Nat := hdOct h * 2 ^ hdMbits h + 1

/-- The segments in use (R148). -/
def hdSegs (h : BitVec 512) : Nat := if hdMode h = 0 then 2 * hdH h else 2 ^ hdSegLog2 h

/-- The bytes of a table image (R156). -/
def tableImageBytes : Nat := 4160

/-- Segment `i` of an image (R147). -/
def imageSeg (img : List Byte) (i : Nat) : W32 × W32 × W32 :=
  let w := fun j : Nat => BitVec.ofNat 32 (leNat ((img.drop (64 + 16 * i + 4 * j)).take 4))
  (w 0, w 1, w 2)

/-- The reserved word of segment `i` of an image. -/
def imageSegRsvd (img : List Byte) (i : Nat) : Nat := leNat ((img.drop (64 + 16 * i + 12)).take 4)

/-- What R158 says of an image. -/
def tableCheck (img : List Byte) : Status :=
  let h : BitVec 512 := BitVec.ofNat 512 (leNat (img.take 64))
  let mode := hdMode h
  let segOk := fun n : Nat => (List.range n).all fun i =>
    decide (imageSegRsvd img i = 0) && (decide (hdOrder h ≠ 1) || decide ((imageSeg img i).2.2 = 0))
  if fld h 511 508 ≠ 1 then .versionUnsupported
  else if 4 < mode ∨ (hdOrder h ≠ 1 ∧ hdOrder h ≠ 2) ∨ zeros h [(502, 496), (473, 448), (319, 0)] = false then .reservedNonzero
  else if mode = 0 then
    if hdElo h < -149 ∨ 127 < hdElo h ∨ hdOct h < 1 ∨ 32 < hdOct h ∨ hdSegLog2 h ≠ 0 ∨ hdC h ≠ 0 ∨ 128 < hdElo h + hdOct h ∨
      256 < 2 * hdH h then .reservedNonzero
    else if segOk (hdSegs h) then .ok else .reservedNonzero
  else if fld h 495 478 ≠ 0 ∨ fld h 447 384 ≠ 0 ∨ (mode ≠ 2 ∧ hdC h ≠ 0) ∨ hdSegLog2 h < (if mode = 4 then 2 else 1) ∨
    8 < hdSegLog2 h then .reservedNonzero
  else if segOk (hdSegs h) then .ok else .reservedNonzero

/-- The bank that a good image makes. -/
def imageBank (img : List Byte) : TableBank :=
  let h : BitVec 512 := BitVec.ofNat 512 (leNat (img.take 64))
  { header := h, builtin := none, segs := (List.range (hdSegs h)).map (imageSeg img) }

/-! ### The built-in set (R159) -/

/-- A header from its fields. -/
def mkHeader (mode : Nat) (elo : Int) (oct mbits segLog2 satNeg satPos c id : Nat) : BitVec 512 :=
  BitVec.ofNat 512 (2 ^ 508 + mode * 2 ^ 505 + 2 * 2 ^ 503 + unsigned 9 elo * 2 ^ 487 + oct * 2 ^ 481 + mbits * 2 ^ 478 +
    segLog2 * 2 ^ 474 + satNeg * 2 ^ 416 + satPos * 2 ^ 384 + c * 2 ^ 352 + id * 2 ^ 320)

/-- The header of the built-in table of a slot (R159). -/
def builtinHeader (slot : Nat) : BitVec 512 :=
  match slot with
  | 0 => mkHeader 1 0 0 0 8 0 0 0 0xB0000000
  | 1 => mkHeader 2 0 0 0 8 0 0 0x3F317218 0xB0000001
  | 2 => mkHeader 3 0 0 0 8 0 0 0 0xB0000002
  | 3 => mkHeader 4 0 0 0 8 0 0 0 0xB0000003
  | 4 => mkHeader 0 (-6) 11 3 0 0 0x3F800000 0 0xB0000004
  | 5 => mkHeader 0 (-8) 12 3 0 0xBF800000 0x3F800000 0 0xB0000005
  | 6 => mkHeader 0 (-6) 9 3 0 0 0x3F800000 0 0xB0000006
  | _ => mkHeader 0 (-6) 9 3 0 0 0x3F800000 0 0xB0000007

/-- The c0 that R159 and R160 state for a segment of a built-in table, where they state one. -/
def builtinC0 (slot i : Nat) : Option W32 :=
  let first := decide (i = 0) || decide (i = hdH (builtinHeader slot))
  match slot with
  | 0 => if i = 0 then some 0x3F800000#32 else none
  | 1 => if i = 0 then some 0 else none
  | 2 => none
  | 3 => none
  | 5 => if i = 0 then some 0 else if first then some 0x80000000#32 else none
  | _ => if first then some 0x3F000000#32 else none

/-- A coefficient that is finite: the firmware's are. -/
def finiteCoef (w : W32) : W32 := if (f32 w).isFinite then w else w &&& 0xBFFFFFFF#32

/-- Segment `i` of the built-in table of a slot (R636): fixed by `COMPUTE_VERSION`, not given by the spec but for what R159 and R160 state:
finite coefficients, and through ±0 a tanh that rises. -/
def builtinSeg (version slot i : Nat) : W32 × W32 × W32 :=
  let c := Config.builtinCoef version slot i
  let c1 := finiteCoef c.2.1
  let rises := decide (slot = 5) && (builtinC0 slot i).isSome
  ((builtinC0 slot i).getD (finiteCoef c.1), if rises then c1 &&& 0x7FFFFFFF#32 else c1, finiteCoef c.2.2)

/-- The header that a bank holds; 0 where it is empty. -/
def TableBank.head (b : TableBank) : BitVec 512 :=
  match b.builtin with
  | some slot => builtinHeader slot
  | none => b.header

/-- Is a bank empty? -/
def TableBank.empty (b : TableBank) : Bool := decide (fld b.head 511 508 = 0)

/-- Segment `i` of a bank. -/
def TableBank.seg (version : Nat) (b : TableBank) (i : Nat) : W32 × W32 × W32 :=
  match b.builtin with
  | some slot => builtinSeg version slot i
  | none => (b.segs[i]?).getD (0, 0, 0)

/-- The 4,160 bytes of a built-in image (R636). -/
def builtinImage (version slot : Nat) : List Byte :=
  leBytes 64 (builtinHeader slot).toNat ++
  ((List.range 256).map fun i =>
    if i < hdSegs (builtinHeader slot) then
      let c := builtinSeg version slot i
      leBytes 4 c.1.toNat ++ leBytes 4 c.2.1.toNat ++ leBytes 4 c.2.2.toNat ++ leBytes 4 0
    else leBytes 16 0).flatten

/-! ### Evaluation (R149 to R152) -/

/-- A table as evaluation needs it: its header, whether it is the slot's built-in one, and its segments. -/
structure Table where
  head : BitVec 512
  builtin : Bool
  seg : Nat → W32 × W32 × W32

/-- The value of a segment at t = a − start (R151): two binary32 operations. -/
def segValue (c : W32 × W32 × W32) (t : FVal) : W32 :=
  let p := toF32 (((f32 c.2.2).mul t).add (f32 c.2.1))
  toF32 (((f32 p).mul t).add (f32 c.1))

/-- The greatest whole number not above a finite value. -/
def FVal.floor : FVal → Int
  | .fin n m e =>
    let v : Int := if n then -(m : Int) else m
    if 0 ≤ e then v * 2 ^ e.toNat else Int.fdiv v ((2 ^ (-e).toNat : Nat) : Int)
  | _ => 0

/-- a / b for b a power of two 2^k, of a whole number. -/
def fracVal (i : Int) (k : Nat) : FVal := (FVal.ofInt i).scale (-(k : Int))

/-- y × 2^n rounded once; an exponent beyond ±400 cannot change the result. -/
def scaleRne (y : W32) (n : Int) : W32 := toF32 ((f32 y).scale (max (-400) (min 400 n)))

/-- The top `k` fraction bits of |x|, of a finite value whose exponent is `e`. -/
def topFraction (x : FVal) (e : Int) (k : Nat) : Nat := ((x.abs.scale (-e)).add (.fin true 1 0)).scale k |>.floor.toNat

/-- The table value at reduced argument `a` of an EXP2 table (R150). -/
def Table.exp2At (T : Table) (a : FVal) : W32 :=
  let k := hdSegLog2 T.head
  let i := (a.scale k).floor.toNat
  segValue (T.seg i) (a.add (fracVal i k).neg)

/-- DIRECT mode at a finite argument (R149). -/
def Table.direct (T : Table) (x : FVal) : W32 :=
  let h := hdH T.head
  let s := b2n x.isNeg
  let e := x.ilog2
  if x.isZero || decide (e < hdElo T.head) then segValue (T.seg (s * h)) (x.add (.fin true 0 0))
  else if e < hdElo T.head + hdOct T.head then
    let mb := hdMbits T.head
    let j := topFraction x e mb
    let start : FVal := .fin x.isNeg (2 ^ mb + j) (e - mb)
    segValue (T.seg (s * h + 1 + (e - hdElo T.head).toNat * 2 ^ mb + j)) (x.add start.neg)
  else if x.isNeg then f32canon (hdSatNeg T.head) else f32canon (hdSatPos T.head)

/-- LOG at a positive finite argument (R150). -/
def Table.log (T : Table) (x : FVal) : W32 :=
  let k := hdSegLog2 T.head
  let e := x.ilog2
  let i := topFraction x e k
  let y := segValue (T.seg i) ((x.scale (-e)).add (fracVal (2 ^ k + i : Nat) k).neg)
  toF32 (((FVal.ofInt e).mul (f32 (hdC T.head))).add (f32 y))

/-- RECIP at a finite argument that is not zero (R150). -/
def Table.recip (T : Table) (x : FVal) : W32 :=
  let k := hdSegLog2 T.head
  let e := x.ilog2
  let i := topFraction x e k
  let y := segValue (T.seg i) ((x.abs.scale (-e)).add (fracVal (2 ^ k + i : Nat) k).neg)
  let r := scaleRne y (-e)
  if x.isNeg then f32canon (r ^^^ 0x80000000#32) else r

/-- RSQRT at a positive finite argument (R150). -/
def Table.rsqrt (T : Table) (x : FVal) : W32 :=
  let k := hdSegLog2 T.head
  let e := x.ilog2
  let p := (e % 2).toNat
  let j := topFraction x e (k - 1)
  let y := segValue (T.seg (p * 2 ^ (k - 1) + j))
    ((x.scale ((p : Int) - e)).add ((fracVal (2 ^ (k - 1) + j : Nat) (k - 1)).scale p).neg)
  scaleRne y (-((e - p) / 2))

/-- A table at an FP32 argument, the bypasses of R152 first. -/
def Table.value (T : Table) (w : W32) : W32 :=
  let inf : W32 := 0x7F800000#32
  let nan : W32 := 0x7FC00000#32
  match hdMode T.head, f32 w with
  | _, .nan => nan
  | 0, .inf neg => f32canon (if neg then hdSatNeg T.head else hdSatPos T.head)
  | 0, x => T.direct x
  | 1, .inf neg => if neg then 0 else inf
  | 1, x =>
    let n := x.floor
    scaleRne (T.exp2At (x.add (FVal.ofInt (-n)))) n
  | 2, .inf neg => if neg then nan else inf
  | 2, x => if x.isZero then 0xFF800000#32 else if x.isNeg then nan else T.log x
  | 3, .inf neg => if neg then 0x80000000#32 else 0
  | 3, x => if x.isZero then (if x.isNeg then 0xFF800000#32 else inf) else T.recip x
  | _, .inf neg => if neg then nan else 0
  | _, x => if x.isZero then (if x.isNeg then 0xFF800000#32 else inf) else if x.isNeg then nan else T.rsqrt x

/-- A result of function `fn` by a table: within its bound where the table is the built-in one (R161). -/
def Table.bound (T : Table) (fn : Nat) (w y : W32) : W32 := if T.builtin then heldToBound fn w y else y

/-- A table at an FP32 argument; the built-in tables of slots 0 to 5 are functions that R161 bounds. -/
def Table.eval (T : Table) (w : W32) : W32 :=
  let y := T.value w
  let k := hdId T.head % 16
  if k < 4 then T.bound (if k = 0 then 3 else k + 4) w y else if k < 6 then T.bound (k + 4) w y else y

/-- log2 e to 64 significant bits (R154). -/
def log2e : FVal := .fin false 0xB8AA3B295C17F0BC (-63)

/-- exp on an EXP2 table (R154). -/
def Table.exp (T : Table) (w : W32) : W32 :=
  match f32 w with
  | .nan => 0x7FC00000#32
  | .inf neg => if neg then 0 else 0x7F800000#32
  | x =>
    let u := x.mul log2e
    let n := u.floor
    let a := toF32 (u.add (FVal.ofInt (-n)))
    T.bound 4 w (if a = 0x3F800000#32 then scaleRne (T.exp2At (.fin false 0 0)) (n + 1) else scaleRne (T.exp2At (f32 a)) n)

/-- x × T(x) (R155). -/
def mulForm (x t : W32) : W32 :=
  match f32 x, f32 t with
  | .inf neg, .fin _ 0 _ => if neg then 0x80000000#32 else 0
  | a, b => toF32 (a.mul b)

/-! ### Function codes (R153) -/

/-- The slot and the mode that a function code needs; the mode 8 stands for any. -/
def fnNeeds (fn tbl : Nat) : Option (Nat × Nat) :=
  match fn with
  | 0 => none | 1 => some (tbl, 8) | 2 => some (tbl, 0) | 3 => some (0, 1) | 4 => some (0, 1) | 5 => some (1, 2)
  | 6 => some (2, 3) | 7 => some (3, 4) | 8 => some (4, 0) | 9 => some (5, 0) | 10 => some (4, 0) | 11 => some (6, 0)
  | _ => some (7, 0)

/-- The function of a code at an argument; `T` gives the table of each slot. -/
def fnApply (T : Nat → Table) (fn tbl : Nat) (x : W32) : W32 :=
  match fn with
  | 0 => x
  | 1 => (T tbl).eval x
  | 2 => mulForm x ((T tbl).eval x)
  | 3 => (T 0).eval x
  | 4 => (T 0).exp x
  | 5 => (T 1).eval x
  | 6 => (T 2).eval x
  | 7 => (T 3).eval x
  | 8 => (T 4).eval x
  | 9 => (T 5).eval x
  | 10 => (T 4).bound 10 x (mulForm x ((T 4).value x))
  | 11 => (T 6).bound 11 x (mulForm x ((T 6).value x))
  | _ => (T 7).bound 12 x (mulForm x ((T 7).value x))

/-! ### Slots of a core -/

/-- The key of a table slot's bank in the table store: bank 0 is the active one. -/
def bankIx (core slot bank : Nat) : Nat := core * 16 + slot * 2 + bank

/-- A bank of a core's table slot. -/
def State.bank (s : State) (core slot bank : Nat) : TableBank := Store.get {} s.tables (bankIx core slot bank)

/-- The active table of a slot. -/
def State.table (s : State) (core slot : Nat) : Table :=
  let b := s.bank core slot 0
  { head := b.head, builtin := b.builtin.isSome, seg := b.seg s.boot.computeVersion }

/-- Does a slot hold a table of the mode that a function needs (R153)? -/
def State.slotMode (s : State) (core slot mode : Nat) : Bool :=
  let b := s.bank core slot 0
  !b.empty && (decide (mode = 8) || decide (hdMode b.head = mode))

/-- A table loaded into a slot: it becomes active and the previous one the shadow (R156, R157). -/
def State.loadTable (s : State) (core slot : Nat) (b : TableBank) : State :=
  let old := s.bank core slot 0
  { s with tables := Store.set {} (Store.set {} s.tables (bankIx core slot 0) b) (bankIx core slot 1) old }

end Sys2Proof.Machine
end

