-- ==== Sys2Proof/Machine/RowStats.lean ====
section
/-! DEFINITION. Row statistics: row-state records, the XF format, the two-pass mean and variance and the soft maximum
(R162 to R168), and the mask rules of tiles (R183 to R185). -/

namespace Sys2Proof.Machine

/-! ### XF (R164) -/

/-- The value of an XF number. -/
def xfVal (x : W64) : FVal :=
  if x.getLsbD 23 then .fin false 0 0
  else .fin (x.getLsbD 63) (2 ^ 23 + bits x.toNat 46 24) (signed 16 (bits x.toNat 62 47) - 23)

/-- A value rounded to XF. For a value that XF cannot hold (a NaN, an infinity, an exponent beyond its 16 bits) the spec states no
result, and it is the free value `fw`. -/
def toXf (fw : W64) (v : FVal) : W64 :=
  match v with
  | .fin neg m e =>
    if m = 0 then BitVec.ofNat 64 (2 ^ 23)
    else
      let r := roundSig .rne 24 (-70000) m e
      let c : Nat × Int := if r.1 = 2 ^ 24 then (2 ^ 23, r.2 + 1) else r
      if c.2 + 23 < -32768 ∨ 32767 < c.2 + 23 then fw
      else BitVec.ofNat 64 (b2n neg * 2 ^ 63 + unsigned 16 (c.2 + 23) * 2 ^ 47 + (c.1 - 2 ^ 23) * 2 ^ 24)
  | _ => fw

/-! ### Records (R162) -/

/-- The data of one row of a record. -/
structure RowRec where
  max : W32
  min : W32
  l : W32
  alpha : W32
  mean : W32
  var : W32
  count : Nat
  flags : Nat
  sum : W64
  sq : W64
  lse : W32
  deriving DecidableEq, Repr, Inhabited

/-- The initial values (R162). -/
def RowRec.initial : RowRec where
  max := 0xFF800000
  min := 0x7F800000
  l := 0
  alpha := 0x3F800000
  mean := 0x7FC00000
  var := 0x7FC00000
  count := 0
  flags := 0
  sum := 0x800000
  sq := 0x800000
  lse := 0xFF800000

/-- A row from its 64 bytes, as a little-endian number. -/
def RowRec.ofBits (x : BitVec 512) : RowRec :=
  let w := fun o : Nat => BitVec.ofNat 32 (fld x (8 * o + 31) (8 * o))
  let d := fun o : Nat => BitVec.ofNat 64 (fld x (8 * o + 63) (8 * o))
  { max := w 0, min := w 4, l := w 8, alpha := w 12, mean := w 16, var := w 20, count := (w 24).toNat, flags := (w 28).toNat,
    sum := d 32, sq := d 40, lse := w 48 }

/-- The 64 bytes of a row, reserved ones zero. -/
def RowRec.toBits (r : RowRec) : BitVec 512 :=
  let w := fun (o v : Nat) => v * 2 ^ (8 * o)
  BitVec.ofNat 512 (w 0 r.max.toNat + w 4 r.min.toNat + w 8 r.l.toNat + w 12 r.alpha.toNat + w 16 r.mean.toNat +
    w 20 r.var.toNat + w 24 (r.count % 2 ^ 32) + w 28 (r.flags % 2 ^ 32) + w 32 r.sum.toNat + w 40 r.sq.toNat + w 48 r.lse.toNat)

/-- Are the reserved bytes, flag bits and XF bits of a row zero? -/
def rowRsvdOk (x : BitVec 512) : Bool := zeros x [(511, 416), (255, 227), (278, 256), (342, 320)]

/-- Row `r` of the record at granule `g`. -/
def State.recRow (s : State) (core g r : Nat) : BitVec 512 := BitVec.ofNat 512 (leNat (s.tile core (2048 * g + 64 * r) 64))

/-- Row `r` of the record at granule `g` written. -/
def State.putRecRow (s : State) (core g r : Nat) (x : BitVec 512) : State := s.putTile core (2048 * g + 64 * r) (leBytes 64 x.toNat)

/-- The tags of a record's two granules written with `tag_version` 0 (R162). -/
def State.recTags (s : State) (core g : Nat) : State := s.putTile core (tagOff g) (List.replicate 32 0)

/-! ### Mean and variance (R165) -/

/-- One element of STAT_P1. -/
def RowRec.p1 (R : RowRec) (x : W32) : RowRec :=
  let v := f32 x
  let flags := match v with
    | .nan => R.flags ||| 1
    | .inf false => R.flags ||| 2
    | .inf true => R.flags ||| 4
    | _ => R.flags
  { R with
    flags := flags, max := f32max R.max x, min := f32min R.min x,
    sum := if v.isFinite then toXf (Config.xfOver 0 R.sum (x.zeroExtend 64)) ((xfVal R.sum).add v) else R.sum,
    count := (R.count + 1) % 2 ^ 32 }

/-- Are the row's maximum and minimum equal numbers? -/
def RowRec.flat (R : RowRec) : Bool :=
  let a := f32 R.max
  let b := f32 R.min
  !a.isNan && !b.isNan && !a.lt b && !b.lt a

/-- The end of STAT_P1. -/
def RowRec.p1End (R : RowRec) : RowRec :=
  let nan := bitAt R.flags 0
  let pinf := bitAt R.flags 1
  let ninf := bitAt R.flags 2
  { R with
    mean :=
      if nan || (pinf && ninf) || decide (R.count = 0) then 0x7FC00000
      else if pinf then 0x7F800000 else if ninf then 0xFF800000
      else if R.flat then R.max
      else toF32 (xfVal (toXf (Config.xfOver 3 R.sum (BitVec.ofNat 64 R.count)) ((xfVal R.sum).div (.fin false R.count 0)))) }

/-- One element of STAT_P2. -/
def RowRec.p2 (R : RowRec) (x : W32) : RowRec :=
  if (f32 x).isFinite then
    let d := toXf (Config.xfOver 1 (x.zeroExtend 64) (R.mean.zeroExtend 64)) ((f32 x).add (f32 R.mean).neg)
    let dd := toXf (Config.xfOver 2 d d) ((xfVal d).mul (xfVal d))
    { R with sq := toXf (Config.xfOver 0 R.sq dd) ((xfVal R.sq).add (xfVal dd)) }
  else R

/-- The end of STAT_P2. -/
def RowRec.p2End (R : RowRec) : RowRec :=
  { R with
    var :=
      if bits R.flags 2 0 ≠ 0 ∨ R.count = 0 then 0x7FC00000
      else if R.flat then 0
      else f32max 0 (toF32 (xfVal (toXf (Config.xfOver 3 R.sq (BitVec.ofNat 64 R.count)) ((xfVal R.sq).div (.fin false R.count 0))))) }

/-! ### Soft maximum (R166, R167) -/

/-- SMAX_ACC on one row of one tile: the row and its unnormalised elements. -/
def RowRec.smaxAcc (T : Nat → Table) (R : RowRec) (xs : List W32) : RowRec × List W32 :=
  let tm := xs.foldl f32max 0xFF800000
  let mNew := f32max R.max tm
  let low := decide (mNew = 0xFF800000)
  let a := if low then 0x3F800000 else (T 0).exp (f32sub R.max mNew)
  let es := xs.map fun x => if low then 0 else (T 0).exp (f32sub x mNew)
  ({ R with max := mNew, alpha := a, l := es.foldl f32add (f32mul R.l a) }, es)

/-- The end of SMAX_ACC. -/
def RowRec.smaxEnd (T : Nat → Table) (R : RowRec) : RowRec :=
  { R with lse := if (f32 R.l).isZero then 0xFF800000 else f32add R.max ((T 1).eval R.l) }

/-- SMAX_NORM of one element. -/
def RowRec.smaxNorm (T : Nat → Table) (R : RowRec) (x : W32) : W32 :=
  if (f32 R.l).isZero then 0 else f32div ((T 0).exp (f32sub x R.max)) R.l

/-! ### Masks (R183 to R185) -/

/-- R183: is query position `i` and key position `k` masked under RULE? -/
def ruleMasks (slot : BitVec 512) (i k : Nat) : Bool :=
  let p := fld slot 448 424
  let w := fld slot 423 399
  (decide (i < k) && decide (p ≤ k)) || (decide (w ≠ 0) && decide (k + w ≤ i))

/-- R185: is element (r, c) of a tile masked, by its tag and the slot that the tag names? -/
def tagMasks (slot : BitVec 512) (t : W128) (r c : Nat) : Bool :=
  match tagMask t with
  | 0 => false
  | 1 => decide (64 * tagQBlock t + r < 64 * tagKvBlock t + c)
  | 2 => true
  | _ => ruleMasks slot (64 * tagQBlock t + r) (64 * tagKvBlock t + c)

/-- A sequence-slot entry. -/
def State.slot (s : State) (n : Nat) : BitVec 512 := Store.get 0 s.tier.slots n

/-- The class of a pair of query block `q` and key/value block `k` with `qv` and `kv` valid positions (R184). -/
def pairMask (slot : BitVec 512) (q k qv kv : Nat) : Nat :=
  match fld slot 505 504 with
  | 0 => 0
  | 1 => if k < q then 0 else if k = q then 1 else 2
  | _ =>
    let l := ((List.range qv).map fun r => (List.range kv).map fun c => ruleMasks slot (64 * q + r) (64 * k + c)).flatten
    if l.all (!·) then 0 else if l.all id then 2 else 3

end Sys2Proof.Machine
end

