-- ==== Sys2Proof/Machine/Cache.lean ====
section
/-! DEFINITION. The core cache (R236 to R239), atomic operations (R240 to R243), LR and SC (R244), and the cache maintenance,
atomic and LR/SC commands. -/

namespace Sys2Proof.Machine

/-! ### Lines, replacement and write-back (R236) -/

/-- The set of a line number (address / 64): address bits [15:6]. -/
def lineSet (line : Nat) : Nat := line % 1024
/-- The key of a way in the cache store. -/
def wayKey (core set way : Nat) : Nat := core * 16384 + set * 16 + way

/-- The 64 bytes of a line. -/
def CLine.bytes (c : CLine) : List Byte := leBytes 64 c.data.toNat

/-- A way's line. -/
def State.cline (s : State) (core set way : Nat) : CLine := Store.get {} s.mem.cache (wayKey core set way)
/-- The state with a way's line replaced. -/
def State.setCline (s : State) (core set way : Nat) (v : CLine) : State :=
  { s with mem.cache := Store.set {} s.mem.cache (wayKey core set way) v }

/-- The way that holds a line, where one does. -/
def State.findWay (s : State) (core line : Nat) : Option Nat :=
  (List.range 16).find? fun w =>
    let c := s.cline core (lineSet line) w
    c.valid && decide (c.line = line)

/-- The tree bits after a use of `way`: every node on its path points away from it. -/
def plruUse (tree way : Nat) : Nat :=
  ([3, 2, 1, 0].foldl
    (fun (acc : Nat × Nat) lvl =>
      let b := way / 2 ^ lvl % 2
      (setBits acc.1 acc.2 acc.2 (1 - b), 2 * acc.2 + 1 + b))
    (tree, 0)).1

/-- The way that the tree bits point to. -/
def plruVictim (tree : Nat) : Nat :=
  ([3, 2, 1, 0].foldl
    (fun (acc : Nat × Nat) _ =>
      let b := b2n (bitAt tree acc.2)
      (2 * acc.1 + b, 2 * acc.2 + 1 + b))
    (0, 0)).1

/-- The state after a use of a way. -/
def State.useWay (s : State) (core set way : Nat) : State :=
  let k := core * 1024 + set
  { s with mem.plru := Store.set 0 s.mem.plru k (plruUse (Store.get 0 s.mem.plru k) way) }

/-- A reservation on a line lost (R244). -/
def State.dropLr (s : State) (core line : Nat) : State :=
  match (s.core core).lr with
  | some r => if r.line = line then s.setCore core { s.core core with lr := none } else s
  | none => s

/-- A core's write-back of a line that waits to be re-sent, where there is one. -/
def State.wbWaiting (s : State) (core line : Nat) : Option WbWait := s.mem.wbWaits.find? fun w => decide (w.core = core ∧ w.line = line)

/-- A line that no longer waits to be re-sent. -/
def State.dropWbWait (s : State) (core line : Nat) : State :=
  { s with mem.wbWaits := s.mem.wbWaits.filter fun w => !decide (w.core = core ∧ w.line = line) }

/-- A line written back; one that meets an open round waits to be re-sent, no sooner than 1 µs later (R260). It takes the place of an
older one of its line that still waits. One that fails has no requester, and its status is counted (R630). -/
def State.writeBack (s : State) (core line : Nat) (bytes : List Byte) : State :=
  let r := ((s.dropWbWait core line).bumpCore core 0x7038 1).writeBlock (64 * line) bytes
  match r.2 with
  | .stateConflict =>
    { r.1 with mem.wbWaits := r.1.mem.wbWaits ++ [{ core := core, line := line, bytes := bytes, notBefore := r.1.ft.toNat + 1000 }] }
  | st => r.1.count st

/-- Are the errors of a line beyond its code: two in one word (R236)? -/
def CLine.bad (c : CLine) : Bool := !decide c.err.Nodup

/-- An uncorrectable line found: counted and logged (R236, R262, R632). The event's unit is the core and its detail the line's address,
which the manual does not say. -/
def State.lineBad (s : State) (core line : Nat) : State :=
  (s.bumpSeen (coreOff core 0x7048) (coreOff core 0x7000) 3).logEvent .uncorrectable 1 core (64 * line)

/-- A way emptied; a dirty line is written back where `wb` says so, its corrected words counted; an uncorrectable one is not, and as the
event ends no operation it is counted under its code (R236, R630). -/
def State.dropWay (s : State) (core set way : Nat) (wb : Bool) : State :=
  let c := s.cline core set way
  let s := s.setCline core set way {}
  let s := if c.valid then s.dropLr core c.line else s
  if c.valid && c.dirty && wb then
    if c.bad then (s.lineBad core c.line).count .uncorrectable
    else (s.bumpCore core 0x7040 c.err.length).writeBack core c.line c.bytes
  else s

/-- The way that a missing line will take: an invalid one first, else the victim of the tree. -/
def State.victim (s : State) (core set : Nat) : Nat :=
  match (List.range 16).find? fun w => !(s.cline core set w).valid with
  | some w => w
  | none => plruVictim (Store.get 0 s.mem.plru (core * 1024 + set))

/-- A line brought into a core's cache if it is not there (R236): the status, and the way. A line that is there shows its errors: they are
corrected and written back, or the line is lost. A write-back of a missing line that still waits is what the cache has of it. -/
def State.cacheLine (s : State) (core line : Nat) : State × Status × Nat :=
  let set := lineSet line
  match s.findWay core line with
  | some w =>
    let s := (s.bumpCore core 0x7028 1).useWay core set w
    let c := s.cline core set w
    if c.bad then ((s.lineBad core line).dropWay core set w false, .uncorrectable, w)
    else if c.err.isEmpty then (s, .ok, w)
    else ((s.bumpCore core 0x7040 c.err.length).setCline core set w { c with err := [] }, .ok, w)
  | none =>
    let r := (s.bumpCore core 0x7030 1).readNear (64 * line) 64
    match r.2.1 with
    | .ok =>
      let w := r.1.victim core set
      let bytes := match r.1.wbWaiting core line with
        | some b => b.bytes
        | none => r.2.2
      let s := r.1.dropWay core set w true
      ((s.setCline core set w { valid := true, line := line, dirty := false, data := BitVec.ofNat 512 (leNat bytes) }).useWay core set w, .ok, w)
    | st => (r.1, st, 0)

/-- `n` bytes read through a core's cache. -/
def State.cacheRead (s : State) (core a n : Nat) : State × Status × List Byte :=
  (blockPieces n a (List.replicate n 0)).foldl
    (fun acc p =>
      let r := acc.1.cacheLine core (p.1 / 64)
      let c := r.1.cline core (lineSet (p.1 / 64)) r.2.2
      (r.1, acc.2.1.orElse r.2.1, acc.2.2 ++ (c.bytes.drop (p.1 % 64)).take p.2.length))
    (s, .ok, [])

/-- Bytes that lie in one line put into the way that holds it, which becomes dirty. A reservation on the line is lost (R244). -/
def State.putLine (s : State) (core way a : Nat) (bytes : List Byte) : State :=
  let line := a / 64
  let c := s.cline core (lineSet line) way
  let o := a % 64
  let b := c.bytes.take o ++ bytes ++ c.bytes.drop (o + bytes.length)
  (s.setCline core (lineSet line) way { c with dirty := true, data := BitVec.ofNat 512 (leNat b) }).dropLr core line

/-- Bytes written through a core's cache (write-allocate, write-back). -/
def State.cacheWrite (s : State) (core a : Nat) (bytes : List Byte) : State × Status :=
  (blockPieces bytes.length a bytes).foldl
    (fun acc p =>
      let r := acc.1.cacheLine core (p.1 / 64)
      match r.2.1 with
      | .ok => (r.1.putLine core r.2.2 p.1 p.2, acc.2)
      | st => (r.1, acc.2.orElse st))
    (s, .ok)

/-! ### Maintenance (R239) -/

/-- One line cleaned, invalidated, or both. A clean keeps the line, unless it is uncorrectable (R236), and loses a reservation on it
(R244). -/
def State.maintLine (s : State) (core line : Nat) (clean inval : Bool) : State :=
  match s.findWay core line with
  | none => s
  | some w =>
    let set := lineSet line
    if inval then s.dropWay core set w clean
    else
      let c := s.cline core set w
      if c.dirty then
        if c.bad then s.dropWay core set w true
        else (((s.bumpCore core 0x7040 c.err.length).setCline core set w { c with dirty := false, err := [] }).dropLr core line).writeBack
          core line c.bytes
      else s.dropLr core line

/-- The lines of a core's cache that meet [a, a + n), by number, ascending. -/
def State.linesIn (s : State) (core a n : Nat) : List Nat :=
  (s.mem.cache.filterMap fun e =>
    if decide (e.1 / 16384 = core) && e.2.valid && overlaps (64 * e.2.line) 64 a n then some e.2.line else none)

/-- A maintenance operation waits for the write-backs in its range that wait to be re-sent: `CC_MAINT_BUSY` reads 1 until they are done. -/
def State.markMaint (s : State) (core a n : Nat) : State :=
  { s with mem.wbWaits := s.mem.wbWaits.map fun w =>
      if decide (w.core = core) && overlaps (64 * w.line) 64 a n then { w with maint := true } else w }

/-- A failed maintenance operation: `MAINT_ERR`, and the count under RESERVED_NONZERO (R239, R264). -/
def State.maintFail (s : State) (core : Nat) : State := (s.count .reservedNonzero).setFlag (coreOff core 0x7000) 4

/-- A write of `OP` to `CC_MAINT_CMD` (R239): line by line; it is under way until the write-backs in its range that wait are done. -/
def State.maint (s : State) (core : Nat) (clean inval : Bool) : State :=
  let a := (s.reg (coreOff core 0x7080)).toNat
  let n := (s.reg (coreOff core 0x7088)).toNat
  if a % 64 ≠ 0 ∨ n % 64 ≠ 0 ∨ n = 0 ∨ Config.nearBytes < a + n then s.maintFail core
  else ((s.linesIn core a n).foldl (fun t l => t.maintLine core l clean inval) s).markMaint core a n

/-! ### Atomic operations (R240 to R243) -/

/-- The size of an operation code; bitwise codes have the size their instruction states. -/
def amoSize (code : Nat) (wide : Bool) : Nat :=
  if code < 0x0E then (if code % 2 = 1 then 8 else 4) else if code ≤ 0x10 then 4 else if wide then 8 else 4

/-- The new value of an atomic operation (R240). -/
def amoNew (code size old op0 op1 : Nat) : Nat :=
  let w := 8 * size
  let o := op0 % 2 ^ w
  let c := op1 % 2 ^ w
  let lt := decide (signed w old < signed w o)
  match code / 2 with
  | 0 => (old + o) % 2 ^ w
  | 1 => if lt then old else o
  | 2 => if lt then o else old
  | 3 => min old o
  | 4 => max old o
  | 5 => o
  | 6 => if old = o then c else old
  | 7 =>
    if code = 0x0E then (f32add (BitVec.ofNat 32 old) (BitVec.ofNat 32 o)).toNat
    else (f32min (BitVec.ofNat 32 old) (BitVec.ofNat 32 o)).toNat
  | 8 =>
    if code = 0x10 then (f32max (BitVec.ofNat 32 old) (BitVec.ofNat 32 o)).toNat
    else old &&& o
  | _ => if code = 0x12 then old ||| o else old ^^^ o

/-- One atomic operation at its home (R240, R242): the status and the old value. A rejected one changes no memory. Where several cases of
R242 apply, the manual does not say which status is given; the model takes an absent home, then a fenced one, then the address, then
its alignment. An operation is one access in `CC_HITS` and `CC_MISSES`, which the manual does not say either. -/
def State.amoAt (s : State) (home a code size op0 op1 : Nat) : State × Status × Nat :=
  if (s.core home).absent then (s, .pageFault, 0)
  else if (s.core home).fenced then (s, .ownerLost, 0)
  else if decide (Config.nearBytes < a + size) || touchesFw a size then (s, .pageFault, 0)
  else if a % size ≠ 0 then (s, .reservedNonzero, 0)
  else
    let r := s.cacheLine home (a / 64)
    match r.2.1 with
    | .ok =>
      let old := leNat (((r.1.cline home (lineSet (a / 64)) r.2.2).bytes.drop (a % 64)).take size)
      ((r.1.putLine home r.2.2 a (leBytes size (amoNew code size old op0 op1))).bumpCore home 0x7050 1, .ok, old)
    | st => (r.1, st, 0)

/-- A write of an operation code to `AMO_CMD` of a core's control block (R243). -/
def State.amoCmd (s : State) (core code : Nat) : State :=
  let a := (s.reg (coreOff core 0x7100)).toNat
  let op0 := (s.reg (coreOff core 0x7108)).toNat
  let op1 := (s.reg (coreOff core 0x7110)).toNat
  if 0x11 ≤ code then
    ((s.count .reservedNonzero).setReg (coreOff core 0x7128) 0x0102).setReg (coreOff core 0x7120) 0
  else
    let r := s.amoAt core a code (amoSize code false) op0 op1
    ((r.1.count r.2.1).setReg (coreOff core 0x7128) (BitVec.ofNat 64 r.2.1.code)).setReg (coreOff core 0x7120)
      (BitVec.ofNat 64 r.2.2)

/-- An exception raised in a control processor, with the address it reports (R58, R234, R242). -/
def State.raise (s : State) (core : Nat) (c : CpCause) (a : W64) : State :=
  s.setCore core { s.core core with cpExc := some (c, a) }

/-- A load or store that memory does not complete: its status counted (R630), and the access fault raised (R235, R254). -/
def State.accessFault (s : State) (core : Nat) (st : Status) (c : CpCause) (a : W64) : State := (s.count st).raise core c a

/-- Does an access of a control processor to near memory raise an access fault: outside it, on an off-line page (R479), or a store to
the firmware region (R585)? -/
def State.cpBarred (s : State) (a n : Nat) (store : Bool) : Bool :=
  decide (Config.nearBytes < a + n) || s.touchesOffline a n || (store && touchesFw a n)

/-- What an RV64A instruction of `size` bytes leaves in its destination register: the value, a word sign-extended. -/
def loaded (size v : Nat) : W64 := BitVec.ofInt 64 (signed (8 * size) v)

/-- RV64A's atomic operations, with the core as home (R241, R242). -/
def State.rvAmo (s : State) (core code : Nat) (wide : Bool) (a v : W64) : State :=
  let size := amoSize code wide
  if s.cpBarred a.toNat size true then s.raise core .storeAccessFault a
  else if a.toNat % size ≠ 0 then s.raise core .storeMisaligned a
  else
    let r := s.amoAt core a.toNat code size v.toNat 0
    if r.2.1 = .ok then r.1.deliver core (loaded size r.2.2) else r.1.accessFault core r.2.1 .loadAccessFault a

/-- LR (R244): the line reserved for 256 control cycles. -/
def State.loadReserved (s : State) (core : Nat) (a : W64) (size : Nat) : State :=
  if s.cpBarred a.toNat size false then s.raise core .loadAccessFault a
  else if a.toNat % size ≠ 0 then s.raise core .loadMisaligned a
  else
    let r := s.cacheRead core a.toNat size
    if r.2.1 = .ok then
      let s := r.1.deliver core (loaded size (leNat r.2.2))
      s.setCore core { s.core core with lr := some { line := a.toNat / 64, expires := s.cycle.toNat + 256 } }
    else r.1.accessFault core r.2.1 .loadAccessFault a

/-- Does a reservation let SC write: same line, not lost, and less than 256 control cycles old (R244)? -/
def State.scHolds (s : State) (core line : Nat) : Bool :=
  match (s.core core).lr with
  | some r => decide (r.line = line) && decide (s.cycle.toNat < r.expires)
  | none => false

/-- SC (R244): 0 delivered on success, 1 on failure; the reservation ends either way. -/
def State.storeConditional (s : State) (core : Nat) (a : W64) (size : Nat) (v : W64) : State :=
  if s.cpBarred a.toNat size true then s.raise core .storeAccessFault a
  else if a.toNat % size ≠ 0 then s.raise core .storeMisaligned a
  else
    let ok := s.scHolds core (a.toNat / 64)
    let s := s.setCore core { s.core core with lr := none }
    if ok then
      let r := s.cacheWrite core a.toNat (leBytes size v.toNat)
      if r.2 = .ok then r.1.deliver core 0 else r.1.accessFault core r.2 .storeAccessFault a
    else s.deliver core 1

/-! ### Commands -/

/-- Does a core's control processor run: the core present, and the device past its start-up sequence (R51, R53, R581)? -/
def State.cpLive (s : State) (core : Nat) : Bool :=
  s.corePresent core && decide (s.dev ≠ .off ∧ s.dev ≠ .reset ∧ s.dev ≠ .boot)

/-- The state after something a core's control processor does: without one that runs it cannot happen. -/
def State.byCp (s : State) (core : Nat) (t : State) : State := if s.cpLive core then t else s

/-- Can registers be reached: the device past its start-up sequence? -/
def State.regsLive (s : State) : Bool := decide (s.dev ≠ .off ∧ s.dev ≠ .reset ∧ s.dev ≠ .boot)

/-- The state after a write of a command register: while registers cannot be reached it cannot happen. The core whose block holds the
register may be absent or fenced (R242). -/
def State.byRegs (s t : State) : State := if s.regsLive then t else s

/-- RV64A_AMO (R241). -/
def execRv64aAmo (core code : Nat) (wide : Bool) (addr val : W64) (s : State) : Host.Outcome State Fault Refusal :=
  ifUnit (isCore core && rvCode code) "core or code" (s.byCp core (s.rvAmo core code wide addr val))

/-- LR (R244). -/
def execLr (core : Nat) (addr : W64) (size : Nat) (s : State) : Host.Outcome State Fault Refusal :=
  ifUnit (isCore core && lrSize size) "core or size" (s.byCp core (s.loadReserved core addr size))

/-- SC (R244). -/
def execSc (core : Nat) (addr : W64) (size : Nat) (val : W64) (s : State) : Host.Outcome State Fault Refusal :=
  ifUnit (isCore core && lrSize size) "core or size" (s.byCp core (s.storeConditional core addr size val))

/-- CC_CLEAN (R239). -/
def execCcClean (core : Nat) (s : State) : Host.Outcome State Fault Refusal :=
  ifUnit (isCore core) "core" (s.byCp core (s.maint core true false))

/-- CC_INVALIDATE (R239). -/
def execCcInvalidate (core : Nat) (s : State) : Host.Outcome State Fault Refusal :=
  ifUnit (isCore core) "core" (s.byCp core (s.maint core false true))

/-- CC_CLEAN_INVALIDATE (R239). -/
def execCcCleanInvalidate (core : Nat) (s : State) : Host.Outcome State Fault Refusal :=
  ifUnit (isCore core) "core" (s.byCp core (s.maint core true true))

/-- AMO_INTEGER_ADD (R240, R243). -/
def execAmoIntegerAdd (core : Nat) (wide : Bool) (s : State) : Host.Outcome State Fault Refusal :=
  ifUnit (isCore core) "core" (s.byRegs (s.amoCmd core (0x00 + b2n wide)))

/-- AMO_SIGNED_MINIMUM (R240, R243). -/
def execAmoSignedMinimum (core : Nat) (wide : Bool) (s : State) : Host.Outcome State Fault Refusal :=
  ifUnit (isCore core) "core" (s.byRegs (s.amoCmd core (0x02 + b2n wide)))

/-- AMO_SIGNED_MAXIMUM (R240, R243). -/
def execAmoSignedMaximum (core : Nat) (wide : Bool) (s : State) : Host.Outcome State Fault Refusal :=
  ifUnit (isCore core) "core" (s.byRegs (s.amoCmd core (0x04 + b2n wide)))

/-- AMO_UNSIGNED_MINIMUM (R240, R243). -/
def execAmoUnsignedMinimum (core : Nat) (wide : Bool) (s : State) : Host.Outcome State Fault Refusal :=
  ifUnit (isCore core) "core" (s.byRegs (s.amoCmd core (0x06 + b2n wide)))

/-- AMO_UNSIGNED_MAXIMUM (R240, R243). -/
def execAmoUnsignedMaximum (core : Nat) (wide : Bool) (s : State) : Host.Outcome State Fault Refusal :=
  ifUnit (isCore core) "core" (s.byRegs (s.amoCmd core (0x08 + b2n wide)))

/-- AMO_SWAP (R240, R243). -/
def execAmoSwap (core : Nat) (wide : Bool) (s : State) : Host.Outcome State Fault Refusal :=
  ifUnit (isCore core) "core" (s.byRegs (s.amoCmd core (0x0A + b2n wide)))

/-- AMO_COMPARE_AND_SWAP (R240, R243). -/
def execAmoCompareAndSwap (core : Nat) (wide : Bool) (s : State) : Host.Outcome State Fault Refusal :=
  ifUnit (isCore core) "core" (s.byRegs (s.amoCmd core (0x0C + b2n wide)))

/-- AMO_FP32_ADD (R240, R243). -/
def execAmoFp32Add (core : Nat) (s : State) : Host.Outcome State Fault Refusal :=
  ifUnit (isCore core) "core" (s.byRegs (s.amoCmd core 0x0E))

/-- AMO_FP32_MINIMUM (R240, R243). -/
def execAmoFp32Minimum (core : Nat) (s : State) : Host.Outcome State Fault Refusal :=
  ifUnit (isCore core) "core" (s.byRegs (s.amoCmd core 0x0F))

/-- AMO_FP32_MAXIMUM (R240, R243). -/
def execAmoFp32Maximum (core : Nat) (s : State) : Host.Outcome State Fault Refusal :=
  ifUnit (isCore core) "core" (s.byRegs (s.amoCmd core 0x10))

/-- AMO_RESULT_READ (R243): the old value, once the operation has completed. -/
def execAmoResultRead (core : Nat) (s : State) : Host.Outcome State Fault Refusal :=
  ifUnit (isCore core) "core" (s.byCp core (s.deliver core (s.reg (coreOff core 0x7120))))

end Sys2Proof.Machine
end

