-- ==== Sys2Proof/Machine/DescOps.lean ====
section
/-! DEFINITION. Copy descriptors (R322 to R330): their fields and extents, and the pieces of an extent. -/

namespace Sys2Proof.Machine

/-! ### Fields (R322) -/

def dVersion (x : BitVec 512) : Nat := fld x 511 508
def dOp (x : BitVec 512) : Nat := fld x 507 504
def dWiden (x : BitVec 512) : Bool := fbit x 503
def dGenEn (x : BitVec 512) : Bool := fbit x 502
def dMaFmt (x : BitVec 512) : Nat := fld x 501 500
def dOrdered (x : BitVec 512) : Bool := fbit x 499
def dOlast (x : BitVec 512) : Bool := fbit x 498
def dOseq (x : BitVec 512) : Nat := fld x 497 492
def dFb (x : BitVec 512) : Nat := fld x 491 480
def dWaitEn (x : BitVec 512) : Bool := fbit x 479
def dWaitSem (x : BitVec 512) : Nat := fld x 478 463
def dSigEn (x : BitVec 512) : Bool := fbit x 462
def dSigSem (x : BitVec 512) : Nat := fld x 461 446
def dSigFar (x : BitVec 512) : Bool := fbit x 445
def dSigChip (x : BitVec 512) : Nat := fld x 444 431
def dRows (x : BitVec 512) : Nat := m1 x 430 419
def dDeadline (x : BitVec 512) : Nat := fld x 418 371
def dLen (x : BitVec 512) : Nat := fld x 367 336
def dSrcGen (x : BitVec 512) : Nat := fld x 335 304
def dSrcPitch (x : BitVec 512) : Nat := fld x 303 280
def dDstPitch (x : BitVec 512) : Nat := fld x 279 256
def dSrc (x : BitVec 512) : Nat := fld x 255 192
def dDst (x : BitVec 512) : Nat := fld x 191 128
def dTag (x : BitVec 512) : W128 := BitVec.ofNat 128 (fld x 127 0)

/-- The code, home and result address of an ATOMIC (R330). -/
def dAtCode (x : BitVec 512) : Nat := bits (dLen x) 4 0
def dAtHome (x : BitVec 512) : Nat := bits (dLen x) 12 5
def dAtRes (x : BitVec 512) : Bool := bitAt (dLen x) 13
def dAtOp1 (x : BitVec 512) : Nat := fld x 63 0
def dAtResAddr (x : BitVec 512) : Nat := fld x 127 64

/-! ### Extents (R324) -/

/-- The address `k` pitches past `a`, in the 48 bits of its local part. -/
def rowAddr (a pitch k : Nat) : Nat := a + k * pitch

/-- The rows of the source: address and length. -/
def dSrcRows (x : BitVec 512) : List (Nat × Nat) :=
  if dOp x ≤ 1 then (List.range (dRows x)).map fun k => (rowAddr (dSrc x) (dSrcPitch x) k, dLen x) else []

/-- The bytes that a row lays down at the destination: a widened row is two or more times as long (R328). -/
def dDstLen (x : BitVec 512) : Nat := if dWiden x then 8192 else dLen x

/-- The rows of the destination: address and length. -/
def dDstRows (x : BitVec 512) : List (Nat × Nat) :=
  if dOp x ≤ 1 then (List.range (dRows x)).map fun k => (rowAddr (dDst x) (dDstPitch x) k, dDstLen x) else []

/-- The rows that a descriptor reads or writes: an ATOMIC has its target alone. -/
def Desc.rows (d : Desc) : List (Nat × Nat) :=
  if dOp d.item = 2 then [(dDst d.item, 8)] else dSrcRows d.item ++ dDstRows d.item

/-- The sides of a descriptor that lie on another chip: chip, address and 0 for the source, 1 for the destination. -/
def State.farSides (s : State) (x : BitVec 512) : List (Nat × Nat × Nat) :=
  (if dOp x ≤ 1 && !s.isOwn (dSrc x) then [(addrChip (dSrc x), addrLocal (dSrc x), 0)] else []) ++
  (if dOp x ≤ 2 && !s.isOwn (dDst x) then [(addrChip (dDst x), addrLocal (dDst x), 1)] else [])

/-- The body of a CHECK packet of a descriptor: the descriptor, its protection domain, and 0 for its source, 1 for its destination, 2
for the comparison of generations at its completion (R339) or 3 when it has ended, which releases its references (R278). The manual does
not state it. -/
def descBody (x : BitVec 512) (pd mode : Nat) : List Byte := leBytes 64 x.toNat ++ leBytes 4 pd ++ leBytes 4 mode

/-- The chips asked about a descriptor told that it has ended (R278), where a route leads to them. -/
def State.endPeers (s : State) (d : Desc) : State :=
  if d.stage = .waiting ∨ d.stage = .ordering then s
  else
    (s.farSides d.item).foldl
      (fun (t : State) e =>
        let p := { mkPacket .check e.1 e.2.1 (descBody d.item 0 3) with src := t.fab.chipNum, tag := t.fab.nextTag }
        if (t.nextHop p).isSome then ({ t with fab.nextTag := (t.fab.nextTag + 1) % 16384 } : State).sendOn p else t)
      s

/-- The 4 KiB blocks that [a, a + n) touches, by address. -/
def pagesOf (a n : Nat) : List Nat :=
  if n = 0 then [] else (List.range ((a + n - 1) / 4096 + 1 - a / 4096)).map fun i => (a / 4096 + i) * 4096

/-- The offsets in the tiered range, by 4 KiB, that rows on this chip touch. -/
def State.tieredPages (s : State) (rows : List (Nat × Nat)) : List Nat :=
  (rows.map fun r =>
    if s.isOwn r.1 then
      (pagesOf (addrLocal r.1) r.2).filterMap fun a =>
        match regionOf a with
        | .tiered o => some o
        | _ => none
    else []).flatten

end Sys2Proof.Machine
end

