-- ==== Sys2Proof/Machine/TierOps.lean ====
section
/-! DEFINITION. The tiered object range (R267 to R310): objects, the page-table walk, allocation and eviction by age, moves between
tiers, accesses by descriptors, and the accounting classes. -/

namespace Sys2Proof.Machine

/-! ### Configuration (R305, R306) -/

def State.tierOn (s : State) : Bool := decide (s.dictNat 0x4300 5 = 1)
def State.tpBase (s : State) : Nat := s.dictNat 0x4300 1 * 2 ^ 30
def State.tpSize (s : State) : Nat := s.dictNat 0x4300 2 * 2 ^ 30
def State.metaSize (s : State) : Nat := s.dictNat 0x4300 3 * 2 ^ 20

/-- Zeros written over an extent of near memory; blocks written whole are no longer uncorrectable (R254). -/
def State.zeroNear (s : State) (a n : Nat) : State :=
  { s with
    mem.near := Store.erase 0 (fun k => decide (a ≤ k ∧ k < a + n)) s.mem.near
    mem.badNear := Store.erase false (fun b => decide (a ≤ 64 * b ∧ 64 * b + 64 ≤ a + n)) s.mem.badNear
    mem.nearErr := Store.erase [] (fun b => decide (a ≤ 64 * b ∧ 64 * b + 64 ≤ a + n)) s.mem.nearErr }

/-! ### Objects (R270) -/

/-- The near-memory address of an object's entry. -/
def State.objAddr (s : State) (n : Nat) : Nat := s.dictNat 0x4300 6 + 64 * n
/-- An object's entry. -/
def State.obj (s : State) (n : Nat) : BitVec 512 := BitVec.ofNat 512 (leNat (s.near (s.objAddr n) 64))
/-- An object's entry written. -/
def State.putObj (s : State) (n : Nat) (x : BitVec 512) : State := s.putNear (s.objAddr n) (leBytes 64 x.toNat)

def obState (x : BitVec 512) : Nat := fld x 507 506
def obLog2 (x : BitVec 512) : Nat := fld x 505 501
def obPlace (x : BitVec 512) : Nat := fld x 500 498
def obPool (x : BitVec 512) : Nat := fld x 497 494
def obRd (x : BitVec 512) : Bool := fbit x 493
def obWr (x : BitVec 512) : Bool := fbit x 492
def obPd (x : BitVec 512) : Nat := fld x 491 480
def obBase (x : BitVec 512) : Nat := fld x 479 446 * 4096
def obCount (x : BitVec 512) : Nat := fld x 445 412
def obAcct (x : BitVec 512) : Nat := fld x 411 408
def obWgen (x : BitVec 512) : Nat := fld x 383 352

/-- A field of an object's entry raised by a signed amount. -/
def State.objAdd (s : State) (n hi lo : Nat) (d : Int) : State :=
  let x := s.obj n
  s.putObj n (setFld x hi lo (unsigned (hi + 1 - lo) ((fld x hi lo : Nat) + d)))

/-- An object's write generation raised by 1 (R281). -/
def State.bumpWgen (s : State) (n : Nat) : State := s.objAdd n 383 352 1

/-- The LIVE objects. -/
def State.liveObj (s : State) (n : Nat) : Bool := decide (n ≠ 0) && decide (obState (s.obj n) = 1)

/-! ### Accounting (R304) -/

/-- One count of a class raised by a signed amount, its high-water mark kept. -/
def State.acctAdd (s : State) (cls : Nat) (far : Bool) (d : Int) : State :=
  let o := 0xB100 + 32 * cls + (if far then 8 else 0)
  let v := s.reg o + BitVec.ofInt 64 d
  let s := s.setReg o v
  if (s.reg (o + 16)).toNat < v.toNat then s.setReg (o + 16) v else s

/-- `HWM_CLEAR` (R304). -/
def State.hwmClear (s : State) : State :=
  (List.range 16).foldl (fun t a =>
    let o := 0xB100 + 32 * a
    (t.setReg (o + 16) (t.reg o)).setReg (o + 24) (t.reg (o + 8))) s

/-! ### The page table (R272 to R274) -/

/-- A 16-byte table entry at a near-memory address. -/
def State.pte (s : State) (a : Nat) : W128 := BitVec.ofNat 128 (leNat (s.near a 16))
def State.putPte (s : State) (a : Nat) (x : W128) : State := s.putNear a (leBytes 16 x.toNat)

def pteVersion (x : W128) : Nat := bits x.toNat 127 124
def pteType (x : W128) : Nat := bits x.toNat 123 122
def pteNext (x : W128) : Nat := bits x.toNat 39 13 * 8192
def lfLog2 (x : W128) : Nat := bits x.toNat 121 117
def lfTier (x : W128) : Nat := bits x.toNat 116 115
def lfTransit (x : W128) : Bool := bitAt x.toNat 114
def lfRd (x : W128) : Bool := bitAt x.toNat 113
def lfWr (x : W128) : Bool := bitAt x.toNat 112
def lfObj (x : W128) : Nat := bits x.toNat 110 95
def lfAge (x : W128) : Nat := bits x.toNat 93 54
def lfLoc (x : W128) : Nat := bits x.toNat 53 12

/-- A 16-byte value with bits [hi:lo] replaced. -/
def set128 (x : W128) (hi lo v : Nat) : W128 := BitVec.ofNat 128 (setBits x.toNat hi lo v)

/-- The index of an offset at a level (R272). -/
def levelIx (o level : Nat) : Nat :=
  match level with
  | 0 => bits o 45 39 | 1 => bits o 38 30 | 2 => bits o 29 21 | _ => bits o 20 12

/-- The level of the leaves of a page size (R272). -/
def leafLevel (log2 : Nat) : Nat := if log2 = 30 then 1 else if 21 ≤ log2 then 2 else 3

/-- The bits of an offset below the span of one entry of a level. -/
def levelShift (level : Nat) : Nat :=
  match level with
  | 0 => 39 | 1 => 30 | 2 => 21 | _ => 12

/-- The walk from the table at `base` (R272, R273): the address of the leaf's entry and the leaf. -/
def State.walkFrom (s : State) (o : Nat) : Nat → Nat → Nat → Option (Nat × W128)
  | 0, _, _ => none
  | fuel + 1, level, base =>
    let a := base + 16 * levelIx o level
    let x := s.pte a
    if pteVersion x ≠ 1 then none
    else if pteType x = 2 then (if level = 0 then none else some (a, x))
    else if pteType x = 1 then State.walkFrom s o fuel (level + 1) (pteNext x)
    else none

/-- The walk of an offset. -/
def State.walk (s : State) (o : Nat) : Option (Nat × W128) := s.walkFrom o 4 0 (s.dictNat 0x4300 8)

/-- The first offset of the page that holds `o`. -/
def pageStart (o log2 : Nat) : Nat := o / 2 ^ log2 * 2 ^ log2

/-- The replicas of a page's leaf (R274). -/
def replicas (log2 : Nat) : Nat := 2 ^ (log2 - levelShift (leafLevel log2))

/-- The entry of the page's first address. -/
def State.firstEntry (s : State) (o log2 : Nat) : Option Nat := (s.walk (pageStart o log2)).map (·.1)

/-- The leaf of the page that holds an offset, with its age (R274). -/
def State.leaf (s : State) (o : Nat) : Option W128 :=
  match s.walk o with
  | none => none
  | some r =>
    match s.walk (pageStart o (lfLog2 r.2)) with
    | some f => some f.2
    | none => some r.2

/-- A page's leaf written to every replica, its age in the first alone. `a` is the first replica's address. -/
def State.putLeafAt (s : State) (a log2 : Nat) (x : W128) : State :=
  (List.range (replicas log2)).foldl (fun t i => t.putPte (a + 16 * i) (if i = 0 then x else set128 x 93 54 0)) s

/-- A page's existing leaf rewritten. -/
def State.putLeaf (s : State) (o : Nat) (x : W128) : State :=
  match s.firstEntry o (lfLog2 x) with
  | some a => s.putLeafAt a (lfLog2 x) x
  | none => s

/-- FT bits [59:20], the unit of ages (R280). -/
def State.ageNow (s : State) : Nat := bits s.ft.toNat 59 20

/-- A page's age raised to the present (R280). -/
def State.touchPage (s : State) (o : Nat) : State :=
  match s.leaf o with
  | some x => s.putLeaf o (set128 x 93 54 (max (lfAge x) s.ageNow))
  | none => s

/-- A new page-table node (R291), where the metadata area has room. -/
def State.newNode (s : State) : Option (State × Nat) :=
  let a := 0x426000 + 8192 * s.tier.nodes
  if 8192 + a ≤ s.metaSize then some ({ s with tier.nodes := s.tier.nodes + 1 }, s.tpBase + a) else none

/-- The table entry that names the node at `a` (R273). -/
def nodeEntry (a : Nat) : W128 := BitVec.ofNat 128 (2 ^ 124 + 2 ^ 122 + a)

/-- The table of level `target` for an offset, nodes added where there are none. -/
def State.tableFor (s : State) (o target : Nat) : Nat → Nat → Nat → Option (State × Nat)
  | 0, _, base => some (s, base)
  | fuel + 1, level, base =>
    if target ≤ level then some (s, base)
    else
      let a := base + 16 * levelIx o level
      let x := s.pte a
      if pteVersion x = 1 ∧ pteType x = 1 then State.tableFor s o target fuel (level + 1) (pteNext x)
      else
        match s.newNode with
        | none => none
        | some r => State.tableFor (r.1.putPte a (nodeEntry r.2)) o target fuel (level + 1) r.2

/-- A leaf entered for the page at offset `o` (R274). -/
def State.enterLeaf (s : State) (o : Nat) (x : W128) : Option State :=
  let level := leafLevel (lfLog2 x)
  match s.tableFor o level 3 0 (s.dictNat 0x4300 8) with
  | none => none
  | some r => some (r.1.putLeafAt (r.2 + 16 * levelIx o level) (lfLog2 x) x)

/-! ### Far pools (R292 to R295) -/

def State.farPool (s : State) (n : Nat) : BitVec 256 := Store.get 0 s.tier.farPools n
def fpEnable (x : BitVec 256) : Bool := x.getLsbD 251
def fpHost (x : BitVec 256) : Bool := x.getLsbD 250
def fpReach (x : BitVec 256) : Bool := x.getLsbD 249
def fpChip (x : BitVec 256) : Nat := bits x.toNat 241 228
def fpBase (x : BitVec 256) : Nat := bits x.toNat 227 192 * 4096
def fpSize (x : BitVec 256) : Nat := bits x.toNat 191 168 * 0x200000

/-- Does a far pool hold a page? -/
def State.poolUsed (s : State) (n : Nat) : Bool := s.tier.frames.any fun f => decide (f.pool = some n)

/-- The key of a byte of a far pool. -/
def farKey (pool a : Nat) : Nat := pool * 2 ^ 48 + a

/-- A byte of a far pool; where nothing has been written since the contents were lost, a free value. -/
def State.farByte (s : State) (pool a : Nat) : Byte :=
  (Store.get none s.tier.farMem (farKey pool a)).getD (Config.farByte pool (Store.get 0 s.tier.farLosses pool) a)

/-- Bytes of a far pool. -/
def State.farBytes (s : State) (pool a n : Nat) : List Byte := (List.range n).map fun i => s.farByte pool (a + i)

/-- Bytes of a far pool written. -/
def State.putFar (s : State) (pool a : Nat) (bytes : List Byte) : State :=
  { s with tier.farMem := Store.setAll none s.tier.farMem ((cells (farKey pool a) bytes).map fun c => (c.1, some c.2)) }

/-- Does this bridge reach the host (R458): its PCIe link up, bus mastering on, and neither PERST_N nor an FLR? -/
def State.hostUp (s : State) : Bool := s.fab.pcieUp && s.fab.busMaster && !s.fab.perst

/-- Is a route to a far pool's chip up, and for a host pool of this chip's bridge its PCIe link? -/
def State.routeUp (s : State) (x : BitVec 256) : Bool :=
  if fpChip x = s.fab.chipNum then !fpHost x || s.hostUp
  else (s.nextHop { mkPacket .read (fpChip x) 0 [] 0 1 with src := s.fab.chipNum }).isSome

/-- A far-pool entry with its `reachable` bit replaced. -/
def fpSetReach (x : BitVec 256) (on : Bool) : BitVec 256 := BitVec.ofNat 256 (setBits x.toNat 249 249 (b2n on))

/-- A far-pool entry replaced. -/
def State.setFarPool (s : State) (n : Nat) (x : BitVec 256) : State := { s with tier.farPools := Store.set 0 s.tier.farPools n x }

/-- A far pool that becomes unreachable (R295): counted, `UNREACH` set; where its chip was reset its contents are lost, and it stays
unreachable until its entry is written again. -/
def State.reachLoss (s : State) (n : Nat) (peerReset : Bool) : State :=
  let x := s.farPool n
  let s := if fpReach x then
      (s.setFarPool n (BitVec.ofNat 256 (setBits (fpSetReach x false).toNat 63 0 (bits x.toNat 63 0 + 1)))).setFlag 0xB000 5
    else s
  if peerReset then
    { s with
      tier.farMem := Store.erase none (fun k => decide (k / 2 ^ 48 = n)) s.tier.farMem
      tier.farLosses := Store.set 0 s.tier.farLosses n (Store.get 0 s.tier.farLosses n + 1)
      tier.lost := n :: s.tier.lost.filter (· ≠ n) }
  else s

/-- A far pool whose route is up again (R295). -/
def State.reachRestore (s : State) (n : Nat) : State :=
  if s.tier.lost.contains n || decide (bits (s.farPool n).toNat 255 252 ≠ 1) || !s.routeUp (s.farPool n) then s
  else s.setFarPool n (fpSetReach (s.farPool n) true)

/-- The far pools' `reachable` after a change of what this chip knows of links and of its bridge (R295): a pool whose chip is known to have
failed (`tier.away`) waits for its restoration. -/
def State.poolRoutes (s : State) : State :=
  (List.range 16).foldl
    (fun (t : State) n =>
      let x := t.farPool n
      if bits x.toNat 255 252 ≠ 1 then t
      else if fpReach x && !t.routeUp x then t.reachLoss n false
      else if !fpReach x && !t.tier.away.contains n then t.reachRestore n
      else t)
    s

/-- A far pool's entry as it reads: with its free space, in units of 2 MiB (R292). -/
def State.farPoolOut (s : State) (n : Nat) : BitVec 256 :=
  let x := s.farPool n
  let used := ((s.tier.frames.filter fun f => decide (f.pool = some n)).map fun f => 2 ^ f.log2).sum
  BitVec.ofNat 256 (setBits x.toNat 127 104 ((fpSize x - used) / 0x200000))

/-! ### Frames (R290, R293) -/

/-- The part of near memory or of a far pool that frames come from: first address and end. -/
def State.frameArea (s : State) (pool : Option Nat) : Nat × Nat :=
  match pool with
  | none => (s.tpBase + s.metaSize, s.tpBase + s.tpSize)
  | some p => (fpBase (s.farPool p), fpBase (s.farPool p) + fpSize (s.farPool p))

/-- The address from which frames of a pool are aligned. -/
def State.frameOrigin (s : State) (pool : Option Nat) : Nat :=
  match pool with
  | none => 0
  | some p => fpBase (s.farPool p)

/-- Is the block [a, a + 2^log2) free of frames and inside its area? -/
def State.blockFree (s : State) (pool : Option Nat) (a log2 : Nat) : Bool :=
  let r := s.frameArea pool
  decide (r.1 ≤ a) && decide (a + 2 ^ log2 ≤ r.2) &&
  s.tier.frames.all fun f => decide (f.pool ≠ pool) || !overlaps a (2 ^ log2) f.addr (2 ^ f.log2)

/-- The least of a list of numbers. -/
def least (l : List Nat) : Option Nat := l.foldl (fun m x => match m with
  | none => some x
  | some y => some (min x y)) none

/-- A free frame of a size, where one exists: which one the manager takes is not stated, so any free one may come. -/
def State.freeBlock (s : State) (pool : Option Nat) (log2 : Nat) : Option Nat :=
  let sz := 2 ^ log2
  let o := s.frameOrigin pool
  let r := s.frameArea pool
  let up := fun a : Nat => o + roundUp (a - o) sz
  let ends := r.1 :: (s.tier.frames.filter fun f => decide (f.pool = pool)).map fun f => f.addr + 2 ^ f.log2
  match least ((ends.map up).filter fun a => s.blockFree pool a log2) with
  | none => none
  | some lo =>
    let n := (r.2 - up r.1) / sz
    let pick := up r.1 + Config.freeFrame s.free n % (max n 1) * sz
    some (if s.blockFree pool pick log2 then pick else lo)

/-- A frame allocated without eviction. -/
def State.takeFrame (s : State) (pool : Option Nat) (log2 obj page : Nat) : Option (State × TFrame) :=
  match s.freeBlock pool log2 with
  | none => none
  | some a =>
    let f : TFrame := { pool := pool, addr := a, log2 := log2, obj := obj, page := page }
    some ({ s with tier.frames := f :: s.tier.frames, free := s.free + 1 }, f)

/-- A frame given back. -/
def State.dropFrame (s : State) (f : TFrame) : State := { s with tier.frames := s.tier.frames.erase f }

/-- The frame that holds a page of an object. -/
def State.frameOf (s : State) (obj page : Nat) : Option TFrame := s.tier.frames.find? fun f => decide (f.obj = obj ∧ f.page = page)

/-- An allocation that failed (R290). -/
def State.exhausted (s : State) : State := s.bumpSeen 0xB038 0xB000 2

/-! ### References (R278) -/

/-- Does a descriptor hold references: between its checks and its completion? -/
def Desc.holds (d : Desc) : Bool :=
  decide (d.stage = .moving ∨ d.stage = .landed ∨ d.stage = .unreachable ∨ d.stage = .transit)

/-- The rows on this chip of another chip's descriptor: an ATOMIC has its target alone. -/
def Plan.rows (p : Plan) : List (Nat × Nat) :=
  if dOp p.item = 2 then [(dDst p.item, 8)] else if p.write then dDstRows p.item else dSrcRows p.item

/-- The 4 KiB offsets on which references are held: by descriptors of this chip and of others, and by the pool manager's copies. -/
def State.tierRefs (s : State) : List Nat :=
  ((s.qs.descs.filter Desc.holds).map fun d => s.tieredPages d.rows).flatten ++
  (s.fab.plans.map fun p => s.tieredPages p.rows).flatten ++
  (s.tier.kvMoves.map fun v =>
    match v with
    | .spill pool _ _ far _ _ _ =>
      let P := Store.get 0 s.tier.pools pool
      pagesOf (fld P 380 346 * 4096 - 0x400000000000 + far * fld P 495 464) (fld P 495 464)
    | .recall pool _ _ far =>
      let P := Store.get 0 s.tier.pools pool
      pagesOf (fld P 380 346 * 4096 - 0x400000000000 + far * fld P 495 464) (fld P 495 464)).flatten

/-- The offset of a page of an object. -/
def pageOff (x : BitVec 512) (page : Nat) : Nat := obBase x + page * 2 ^ obLog2 x

/-- Is a reference held on a page? -/
def State.pageHeld (s : State) (x : BitVec 512) (page : Nat) : Bool :=
  s.tierRefs.any fun o => decide (pageOff x page ≤ o ∧ o < pageOff x page + 2 ^ obLog2 x)

/-! ### Moves (R286, R290) -/

/-- The location field of a frame (R273). -/
def State.locOf (s : State) (f : TFrame) : Nat × Nat :=
  match f.pool with
  | none => (0, f.addr / 4096)
  | some p =>
    let x := s.farPool p
    if fpHost x then (2, f.addr / 4096) else (1, fpChip x * 2 ^ 28 + f.addr / 4096)

/-- The bytes of a page where it lies, with the status of the read. -/
def State.readFrame (s : State) (f : TFrame) : State × Status × List Byte :=
  match f.pool with
  | none => s.readNear f.addr (2 ^ f.log2)
  | some p => if fpReach (s.farPool p) then (s, .ok, s.farBytes p f.addr (2 ^ f.log2)) else (s, .linkRetryExhausted, [])

/-- A page's bytes written into a frame. -/
def State.writeFrame (s : State) (f : TFrame) (bytes : List Byte) : State :=
  match f.pool with
  | none => (s.writeNear f.addr bytes).1
  | some p => s.putFar p f.addr bytes

/-- A page taken out of the translation caches of every die before its leaf changes (R276). -/
def State.xlatDrop (s : State) (page : Nat) : State := { s with tier.xlat := s.tier.xlat.map fun e => (e.1, e.2.erase page) }

/-- A page copied to its new frame and its leaf rewritten (R286, steps 3 to 5); the status of a source that cannot be read leaves
the page where it was. `useBy` is R287's. -/
def State.finishMove (s : State) (old new : TFrame) (useBy : Nat) : State × Status :=
  let x := s.obj old.obj
  let o := pageOff x old.page
  match s.leaf o with
  | none => (s.dropFrame new, .pageFault)
  | some lf =>
    let r := s.readFrame old
    let idle := set128 lf 114 114 0
    match r.2.1 with
    | .ok =>
      let sz : Int := ((2 ^ old.log2 : Nat) : Int)
      let s := r.1.writeFrame new r.2.2
      let loc := s.locOf new
      let age := if new.pool.isNone && decide (useBy ≠ 0) then max (lfAge lf) (bits useBy 59 20) else lfAge lf
      let lf := set128 (set128 (set128 idle 116 115 loc.1) 53 12 loc.2) 93 54 age
      let s := ((s.xlatDrop o).putLeaf o lf).dropFrame old
      let near : Int := if new.pool.isNone then 1 else -1
      let s := s.bump (if new.pool.isNone then 0xB018 else 0xB020) 1
      let s := (s.acctAdd (obAcct x) false (near * sz)).acctAdd (obAcct x) true (-near * sz)
      (((s.objAdd old.obj 319 280 near).objAdd old.obj 279 240 (-near)).objAdd old.obj 127 64 sz, .ok)
    | st => (((r.1.xlatDrop o).putLeaf o idle).dropFrame new, st)

/-- The age that a near page counts with in R290, where its object's policy is NEAR or FAR. -/
def State.frameAge (s : State) (f : TFrame) : Nat :=
  match s.leaf (pageOff (s.obj f.obj) f.page) with
  | some x => lfAge x
  | none => 0

/-- May a page be evicted (R290): not pinned, not in transit, not referenced, and its far pool able to take it? -/
def State.evictable (s : State) (f : TFrame) : Bool :=
  let x := s.obj f.obj
  let p := s.farPool (obPool x)
  match s.leaf (pageOff x f.page) with
  | none => false
  | some lf =>
    !bitAt lf.toNat 111 && !lfTransit lf && !s.pageHeld x f.page && fpEnable p && fpReach p &&
    (s.freeBlock (some (obPool x)) f.log2).isSome

/-- The frames of the tier pool that a block overlaps. -/
def State.framesIn (s : State) (a log2 : Nat) : List TFrame :=
  s.tier.frames.filter fun f => decide (f.pool = none) && overlaps a (2 ^ log2) f.addr (2 ^ f.log2)

/-- The block that an allocation of a size evicts (R290): of those that no rule protects the one of least age, then of least address. -/
def State.victimBlock (s : State) (log2 : Nat) : Option Nat :=
  let sz := 2 ^ log2
  let r := s.frameArea none
  let cand := (s.tier.frames.filter fun f => decide (f.pool = none)).map fun f => f.addr / sz * sz
  let ok := cand.filter fun a => decide (r.1 ≤ a) && decide (a + sz ≤ r.2) && (s.framesIn a log2).all s.evictable
  let age := fun a => ((s.framesIn a log2).map s.frameAge).foldl max 0
  ok.foldl (fun best a => match best with
    | none => some a
    | some b => if age a < age b ∨ (age a = age b ∧ a < b) then some a else some b) none

/-- One page evicted to its object's far pool (R290); false where no frame could be had. -/
def State.evictPage (s : State) (f : TFrame) : State × Bool :=
  match s.takeFrame (some (obPool (s.obj f.obj))) f.log2 f.obj f.page with
  | none => (s, false)
  | some r =>
    let m := r.1.finishMove f r.2 0
    if m.2 = .ok then (m.1.bump 0xB010 1, true) else (m.1, false)

/-- A frame of a size, where one is free. -/
def State.tryFrame (s : State) (pool : Option Nat) (log2 obj page : Nat) : State × Option TFrame :=
  (s.takeFrame pool log2 obj page).elim (s, none) fun r => (r.1, some r.2)

/-- Every page of a block evicted that can be. -/
def State.evictAll (s : State) (a log2 : Nat) : State := (s.framesIn a log2).foldl (fun (t : State) f => (t.evictPage f).1) s

/-- A near frame allocated, by eviction where none is free (R290). Pages that have moved stay moved where another of the block cannot
(R286), and the allocation then fails. -/
def State.nearFrame (s : State) (log2 obj page : Nat) : State × Option TFrame :=
  if (s.tryFrame none log2 obj page).2.isSome then s.tryFrame none log2 obj page
  else (s.victimBlock log2).elim (s, none) fun a => (s.evictAll a log2).tryFrame none log2 obj page

/-- A frame allocated in near memory or in a far pool. -/
def State.allocFrame (s : State) (pool : Option Nat) (log2 obj page : Nat) : State × Option TFrame :=
  match pool with
  | none => s.nearFrame log2 obj page
  | some p => s.tryFrame (some p) log2 obj page

/-! ### Accesses (R277 to R282) -/

/-- Where a byte of the tiered range lies. -/
inductive Place where
  | near (a : Nat)
  | far (pool a : Nat)
  | none
  deriving DecidableEq, Repr

/-- The place of an offset, its page translated. -/
def State.place (s : State) (o : Nat) : Place :=
  match s.walk o with
  | none => .none
  | some r =>
    let lf := r.2
    let off := o - pageStart o (lfLog2 lf)
    if lfTier lf = 0 then .near (bits (lfLoc lf) 27 0 * 4096 + off)
    else if lfTier lf = 1 then .far (obPool (s.obj (lfObj lf))) (bits (lfLoc lf) 27 0 * 4096 + off)
    else .far (obPool (s.obj (lfObj lf))) (lfLoc lf * 4096 + off)

/-- What a descriptor of protection domain `pd` finds at one 4 KiB offset (R277). -/
def State.tierCheck (s : State) (pd : Nat) (write : Bool) (o : Nat) : Bool :=
  s.tierOn &&
  (match s.walk o with
    | none => false
    | some r =>
      let x := s.obj (lfObj r.2)
      s.liveObj (lfObj r.2) && (decide (obPd x = 0) || decide (obPd x = pd)) && (if write then lfWr r.2 else lfRd r.2))

/-- Is the page of an offset in transit (R279)? -/
def State.inTransit (s : State) (o : Nat) : Bool :=
  match s.walk o with
  | some r => lfTransit r.2
  | none => false

/-- The object that holds an offset. -/
def State.objOf (s : State) (o : Nat) : Option Nat := (s.walk o).map fun r => lfObj r.2

/-- The far pool in which an offset's page lies, where it is far. -/
def State.farPoolOf (s : State) (o : Nat) : Option Nat :=
  match s.place o with
  | .far p _ => some p
  | _ => none

/-- Is an offset's page in a pool that is not reachable (R296)? -/
def State.unreachable (s : State) (o : Nat) : Bool :=
  match s.farPoolOf o with
  | some p => !fpReach (s.farPool p)
  | none => false

/-- The pieces of an extent that lie in one 4 KiB block each: offset and length. -/
def spans4k (o n : Nat) : List (Nat × Nat) :=
  (pagesOf o n).map fun b =>
    let lo := max o b
    (lo, min (o + n) (b + 4096) - lo)

/-- Bytes that descriptors have moved to or from the far page at an offset counted (R282); those of a near page are not. -/
def State.countFar (s : State) (write : Bool) (o n : Nat) : State :=
  if (s.farPoolOf o).isNone then s
  else if write then s.bump 0xB030 n
  else
    let s := s.bump 0xB028 n
    match s.objOf o with
    | some ob => s.objAdd ob 191 128 n
    | none => s

/-- The far bytes of an extent counted. -/
def State.countFarAll (s : State) (write : Bool) (o n : Nat) : State := (spans4k o n).foldl (fun t e => t.countFar write e.1 e.2) s

/-- The page that holds an offset of the tiered range, by its first offset, looked up in the object translation cache of a compute die
(R276): a miss walks the table, which `OTC_MISSES` counts, and takes the place of any page where the cache is full. -/
def State.translate (s : State) (die o : Nat) : State :=
  match s.walk o with
  | none => s.bump 0xB068 1
  | some r =>
    let page := pageStart o (lfLog2 r.2)
    let l := Store.get [] s.tier.xlat die
    if l.contains page then s
    else
      let f := s.freeWord
      let kept := if l.length < 4096 then l else l.eraseIdx (f.1.toNat % l.length)
      { f.2.bump 0xB068 1 with tier.xlat := Store.set [] f.2.tier.xlat die (page :: kept) }

/-- The offsets of an extent translated. -/
def State.translateAll (s : State) (die : Nat) (l : List Nat) : State := l.foldl (fun (t : State) o => t.translate die o) s

/-- Offsets translated for an access that no fetch engine of this chip makes: the manual does not state whose cache serves it. -/
def State.someTranslate (s : State) (l : List Nat) : State :=
  if l.isEmpty then s else let f := s.freeWord; f.2.translateAll (f.1.toNat % 4) l

/-- A read of the tiered range (R280): ages raised. The status is that of the near-memory reads. -/
def State.tierRead (s : State) (o n : Nat) : State × Status × List Byte :=
  (spans4k o n).foldl
    (fun acc e =>
      let s := acc.1.touchPage e.1
      match s.place e.1 with
      | .near a => let r := s.readNear a e.2; (r.1, acc.2.1.orElse r.2.1, acc.2.2 ++ r.2.2)
      | .far p a => (s, acc.2.1, acc.2.2 ++ s.farBytes p a e.2)
      | .none => (s, acc.2.1.orElse .pageFault, acc.2.2 ++ List.replicate e.2 0))
    (s, .ok, [])

/-- A write of the tiered range. -/
def State.tierWrite (s : State) (o : Nat) (bytes : List Byte) : State × Status :=
  (spans4k o bytes.length).foldl
    (fun acc e =>
      let s := acc.1.touchPage e.1
      let part := (bytes.drop (e.1 - o)).take e.2
      match s.place e.1 with
      | .near a => let r := s.writeNear a part; (r.1, acc.2.orElse r.2)
      | .far p a => (s.putFar p a part, acc.2)
      | .none => (s, acc.2.orElse .pageFault))
    (s, .ok)

/-- An extent of the tiered range left undefined. -/
def State.havocTiered (s : State) (o n : Nat) : State :=
  (spans4k o n).foldl
    (fun (t : State) e =>
      match t.place e.1 with
      | .near a => t.havocNear a e.2
      | .far p a => let f := t.freeBytes e.2; f.2.putFar p a f.1
      | .none => t)
    s

/-- The objects that a list of offsets touches, each once. -/
def State.objsOf (s : State) (l : List Nat) : List Nat := (l.filterMap s.objOf).eraseDups

/-- A tiered-range fault of a descriptor (R307). -/
def State.tierFault (s : State) (st : Status) (q o : Nat) : State :=
  s.faultRec 0xB000 1 [(0xB070, faultWord st q), (0xB078, BitVec.ofNat 64 o)]

end Sys2Proof.Machine
end

