-- ==== Sys2Proof/Machine/PoolOps.lean ====
section
/-! DEFINITION. Sequence slots and key/value pools (R182, R213 to R225, R289): page tables, frames and pins, allocation by
eviction, spills and recalls, and the pages that attention items read and write. -/

namespace Sys2Proof.Machine

/-! ### Entries (R182, R213) -/

def slState (x : BitVec 512) : Nat := fld x 507 506
def slPool (x : BitVec 512) : Nat := fld x 503 501
def slPagesLog2 (x : BitVec 512) : Nat := fld x 500 496
def slKvh (x : BitVec 512) : Nat := m1 x 495 488
def slLayers (x : BitVec 512) : Nat := m1 x 487 477
def slPtBase (x : BitVec 512) : Nat := fld x 379 352 * 4096

def plEnable (x : BitVec 512) : Bool := fbit x 507
def plPageLog2 (x : BitVec 512) : Nat := fld x 506 502
def plHt (x : BitVec 512) : Nat := m1 x 501 500
def plFmt (x : BitVec 512) : Nat := fld x 499 496
def plFrameBytes (x : BitVec 512) : Nat := fld x 495 464
def plBase (x : BitVec 512) : Nat := fld x 463 436 * 4096
def plFrames (x : BitVec 512) : Nat := fld x 435 412
def plFtBase (x : BitVec 512) : Nat := fld x 411 384 * 4096
/-- The object-range offset of the spill area. -/
def plFarOff (x : BitVec 512) : Nat := fld x 380 346 * 4096 - 0x400000000000
def plFarFrames (x : BitVec 512) : Nat := fld x 345 322

/-- The bytes of one element of an attention input format (R191). -/
def kvElem (fmt : Nat) : Nat := if fmt ≤ 2 then 2 else 1

/-- `frame_bytes` (R214). -/
def frameBytesOf (ht log2 fmt : Nat) : Nat := roundUp (2 * ht * 2 ^ log2 * 64 * kvElem fmt) 4096

def State.pool (s : State) (n : Nat) : BitVec 512 := Store.get 0 s.tier.pools n
def State.setPool (s : State) (n : Nat) (x : BitVec 512) : State := { s with tier.pools := Store.set 0 s.tier.pools n x }
def State.setSlot (s : State) (n : Nat) (x : BitVec 512) : State := { s with tier.slots := Store.set 0 s.tier.slots n x }

/-- A counting field of a slot's entry raised by a signed amount. -/
def State.slotAdd (s : State) (n hi lo : Nat) (d : Int) : State :=
  let x := s.slot n
  s.setSlot n (setFld x hi lo (unsigned (hi + 1 - lo) ((fld x hi lo : Nat) + d)))

/-- A counting field of a pool's entry raised by 1. -/
def State.poolAdd (s : State) (n hi lo : Nat) : State := s.setPool n (setFld (s.pool n) hi lo (fld (s.pool n) hi lo + 1))

/-! ### Page-table entries (R216) -/

/-- The page of a slot that holds entry `x` (R216). -/
def kvNamed (x : BitVec 512) (slot layer kvh page : Nat) : KvPage :=
  { pte := slPtBase x + 8 * ((layer * slKvh x + kvh) * 2 ^ slPagesLog2 x + page), slot := slot, layer := layer, kvh := kvh, page := page }

/-- A page's state: 0 unallocated, 1 near, 2 far, 3 in transit. -/
def State.kvPageState (s : State) (g : KvPage) : Nat :=
  let x := leNat (s.near g.pte 8)
  if bits x 63 60 = 1 then bits x 59 58 else 0

/-- The address in a page's entry. -/
def State.kvPageAddr (s : State) (g : KvPage) : Nat := bits (leNat (s.near g.pte 8)) 46 12 * 4096

/-- A page's entry written. -/
def State.setKvPte (s : State) (g : KvPage) (state addr : Nat) : State :=
  s.putNear g.pte (leBytes 8 (2 ^ 60 + state * 2 ^ 58 + bits addr 46 12 * 4096))

/-! ### Frames (R216 to R218) -/

def kvKey (pool n : Nat) : Nat := pool * 2 ^ 24 + n

def State.kvFrame (s : State) (pool n : Nat) : Option KvFrame := Store.get none s.tier.kvFrames (kvKey pool n)

/-- The near-memory address of a frame. -/
def State.kvAddr (s : State) (pool n : Nat) : Nat := plBase (s.pool pool) + n * plFrameBytes (s.pool pool)

/-- The pages that positions [64 × first, 64 × first + n) of a block range touch. -/
def blockPages (log2 first n : Nat) : List Nat :=
  if n = 0 then [] else (List.range ((64 * first + n - 1) / 2 ^ log2 + 1 - 64 * first / 2 ^ log2)).map fun i => 64 * first / 2 ^ log2 + i

/-- The pages that an APPEND of a slot's entry needs (R219). -/
def State.appendPages (s : State) (slot x : BitVec 512) : List KvPage :=
  (blockPages (plPageLog2 (s.pool (slPool slot))) (fld x 433 414) (m1 x 395 390)).map
    (kvNamed slot (fld x 491 487) (fld x 486 476) (fld x 467 460))

/-- The appends outstanding on a page. -/
def State.kvPins (s : State) (g : KvPage) : Nat :=
  (s.cores.filter fun c =>
    match c.2.walk with
    | some w => decide (fld w.item 507 504 = 4) && (s.appendPages w.slot w.item).contains g
    | none => false).length

/-- A frame's table entry written as the frame stands. -/
def State.kvImage (s : State) (pool n : Nat) : State :=
  let a := plFtBase (s.pool pool) + 16 * n
  let old := leNat (s.near a 16)
  let v :=
    match s.kvFrame pool n with
    | none => setBits (setBits old 19 4 0) 1 0 0
    | some f =>
      f.lastAccess * 2 ^ 64 + f.page.slot * 2 ^ 59 + f.page.layer * 2 ^ 48 + f.page.kvh * 2 ^ 40 + f.page.page * 2 ^ 20 +
        (s.kvPins f.page + b2n f.transit + b2n f.useBy.isSome) * 16 + (if f.transit then 2 else 1)
  s.putNear a (leBytes 16 v)

/-- A frame's state replaced, with its table entry. -/
def State.setKvFrame (s : State) (pool n : Nat) (f : Option KvFrame) : State :=
  { s with tier.kvFrames := Store.set none s.tier.kvFrames (kvKey pool n) f }.kvImage pool n

/-- A frame newly given to a page: its last access stays what its entry holds. -/
def State.newKvFrame (s : State) (pool n : Nat) (g : KvPage) (transit : Bool) (useBy : Option Nat) : State :=
  let la := leNat (s.near (plFtBase (s.pool pool) + 16 * n + 8) 8)
  s.setKvFrame pool n (some { page := g, transit := transit, lastAccess := la, useBy := useBy })

/-- The frames in use of a pool, with their numbers. -/
def State.kvUsed (s : State) (pool : Nat) : List (Nat × KvFrame) :=
  s.tier.kvFrames.filterMap fun e =>
    if e.1 / 2 ^ 24 = pool then e.2.map fun f => (e.1 % 2 ^ 24, f) else none

/-- The frame that holds a page. -/
def State.kvFrameOf (s : State) (pool : Nat) (g : KvPage) : Option Nat :=
  ((s.kvUsed pool).find? fun e => decide (e.2.page = g)).map (·.1)

/-- Is a frame pinned (R218)? -/
def State.kvPinned (s : State) (f : KvFrame) : Bool := f.transit || f.useBy.isSome || decide (s.kvPins f.page ≠ 0)

/-- The spill frames in use of a pool. -/
def State.kvSpillUsed (s : State) (pool : Nat) : List Nat :=
  s.tier.kvSpills.filterMap fun e => if e.1 / 2 ^ 24 = pool then some (e.1 % 2 ^ 24) else none

def State.setKvSpill (s : State) (pool n : Nat) (g : Option KvPage) : State :=
  { s with tier.kvSpills := Store.set none s.tier.kvSpills (kvKey pool n) g }

/-- One number below `n` that is not in `used`: which is not stated, so any may come. -/
def State.pickFree (s : State) (used : List Nat) (n : Nat) : Option Nat :=
  match (List.range (used.length + 1)).find? fun i => decide (i < n) && !used.contains i with
  | none => none
  | some lo =>
    let c := Config.freeFrame s.free n % (max n 1)
    some (if used.contains c then lo else c)

def State.kvFreeFrame (s : State) (pool : Nat) : Option Nat := s.pickFree ((s.kvUsed pool).map (·.1)) (plFrames (s.pool pool))
def State.kvFreeSpill (s : State) (pool : Nat) : Option Nat := s.pickFree (s.kvSpillUsed pool) (plFarFrames (s.pool pool))

/-- The offset of a spill frame in the tiered range. -/
def State.kvFarOff (s : State) (pool far : Nat) : Nat := plFarOff (s.pool pool) + far * plFrameBytes (s.pool pool)

/-- The pages of the tiered range that a spill frame covers. -/
def State.kvFarPages (s : State) (pool far : Nat) : List Nat := pagesOf (s.kvFarOff pool far) (plFrameBytes (s.pool pool))

/-- May the pool manager and the sequencer reach an offset of a spill area: of a LIVE object of policy FAR or HOST that permits the access
to protection domain 0 (R277, R289)? -/
def State.kvFarCheck (s : State) (write : Bool) (o : Nat) : Bool :=
  s.tierCheck 0 write o &&
  (match s.objOf o with
    | some n => decide (obPlace (s.obj n) = 2 ∨ obPlace (s.obj n) = 3)
    | none => false)

/-- Is the far pool of an offset's object reachable (R289)? -/
def State.kvFarUp (s : State) (o : Nat) : Bool :=
  match s.objOf o with
  | some n => fpReach (s.farPool (obPool (s.obj n)))
  | none => false

/-- Can a spill frame be written, or read (R289)? -/
def State.kvFarOk (s : State) (write : Bool) (pool far : Nat) : Bool :=
  (s.kvFarPages pool far).all fun o => s.kvFarCheck write o && s.kvFarUp o

/-- The unpinned frame of a pool with the smallest last access, then the lowest number (R220). -/
def State.kvVictim (s : State) (pool : Nat) : Option (Nat × KvFrame) :=
  ((s.kvUsed pool).filter fun e => !s.kvPinned e.2).foldl
    (fun best e =>
      match best with
      | none => some e
      | some b => if e.2.lastAccess < b.2.lastAccess ∨ (e.2.lastAccess = b.2.lastAccess ∧ e.1 < b.1) then some e else some b)
    none

/-- A free frame given to a page: at once for a new page, by a recall for one in the far tier (R220, R224). -/
def State.kvGive (s : State) (pool frame : Nat) (g : KvPage) (src : Option Nat) (useBy : Option Nat) : State :=
  let s := { s with free := s.free + 1 }
  match src with
  | none => ((s.newKvFrame pool frame g false useBy).setKvPte g 1 (s.kvAddr pool frame)).slotAdd g.slot 255 224 1
  | some far =>
    let s := (s.newKvFrame pool frame g true useBy).setKvPte g 3 (s.kvAddr pool frame)
    { s with tier.kvMoves := s.tier.kvMoves ++ [.recall pool frame g far] }

/-- A frame asked for (R220): given, or promised by a spill; false where none can be had (R221). A page in the far tier is asked for with
its spill frame, which must be readable. -/
def State.kvAsk (s : State) (pool : Nat) (g : KvPage) (src : Option Nat) (useBy : Option Nat) : State × Bool :=
  if src.any (fun far => !s.kvFarOk false pool far) then (s, false)
  else
    match s.kvFreeFrame pool with
    | some n => (s.kvGive pool n g src useBy, true)
    | none =>
      match s.kvVictim pool, s.kvFreeSpill pool with
      | some v, some far =>
        if s.kvFarOk true pool far then
          let s := { s with free := s.free + 1 }
          let s := s.setKvSpill pool far (some v.2.page)
          let s := s.setKvPte v.2.page 3 (s.kvAddr pool v.1)
          let s := s.setKvFrame pool v.1 (some { v.2 with transit := true })
          ({ s with tier.kvMoves := s.tier.kvMoves ++ [.spill pool v.1 v.2.page far (some g) src useBy] }, true)
        else (s, false)
      | _, _ => (s, false)

/-- Is a frame on its way to a page already? -/
def State.kvComing (s : State) (g : KvPage) : Bool :=
  s.tier.kvMoves.any fun v =>
    match v with
    | .spill _ _ _ _ next _ _ => decide (next = some g)
    | .recall _ _ page _ => decide (page = g)

/-- The spill frame that holds a page. -/
def State.kvSpillOf (s : State) (pool : Nat) (g : KvPage) : Option Nat :=
  (s.tier.kvSpills.find? fun e => decide (e.1 / 2 ^ 24 = pool) && decide (e.2 = some g)).map fun e => e.1 % 2 ^ 24

/-- What a copy of the pool manager lays down: the bytes read, or undefined ones where the read failed (R254). -/
def State.copied (r : State × Status × List Byte) : State × List Byte :=
  if r.2.1 = .ok then (r.1, r.2.2) else ((r.1.freeBytes r.2.2.length).2, (r.1.freeBytes r.2.2.length).1)

/-- A spill that ends (R220, R281): the page reads in the far tier, and its frame goes to the page that asked. -/
def State.kvSpillEnd (s : State) (v : KvMove) : State :=
  match v with
  | .spill pool frame victim far next src useBy =>
    let s := { s with tier.kvMoves := s.tier.kvMoves.erase v }
    let o := s.kvFarOff pool far
    let s := (s.objsOf (s.kvFarPages pool far)).foldl State.bumpWgen (s.someTranslate (s.kvFarPages pool far))
    let r := State.copied (s.readNear (s.kvAddr pool frame) (plFrameBytes (s.pool pool)))
    let s := (r.1.tierWrite o r.2).1.countFarAll true o r.2.length
    let s := ((s.setKvPte victim 2 (0x400000000000 + o)).slotAdd victim.slot 255 224 (-1)).slotAdd victim.slot 223 192 1
    let s := (s.poolAdd pool 191 128).setKvFrame pool frame none
    match next with
    | some g => s.kvGive pool frame g src useBy
    | none => s
  | .recall _ _ _ _ => s

/-- A recall that ends (R224). -/
def State.kvRecallEnd (s : State) (v : KvMove) : State :=
  match v with
  | .recall pool frame g far =>
    let s := { s with tier.kvMoves := s.tier.kvMoves.erase v }
    let n := plFrameBytes (s.pool pool)
    let s := (s.someTranslate (s.kvFarPages pool far)).countFarAll false (s.kvFarOff pool far) n
    let r := State.copied (s.tierRead (s.kvFarOff pool far) n)
    let s := (r.1.writeNear (s.kvAddr pool frame) r.2).1
    let s := (s.setKvPte g 1 (s.kvAddr pool frame)).setKvSpill pool far none
    let s := ((s.slotAdd g.slot 255 224 1).slotAdd g.slot 223 192 (-1)).poolAdd pool 127 64
    match s.kvFrame pool frame with
    | some f => s.setKvFrame pool frame (some { f with transit := false })
    | none => s
  | .spill _ _ _ _ _ _ _ => s

/-- The pages of the tiered range that a copy of the pool manager reads or writes. -/
def KvMove.farPages (v : KvMove) (s : State) : List Nat :=
  match v with
  | .spill pool _ _ far _ _ _ => s.kvFarPages pool far
  | .recall pool _ _ far => s.kvFarPages pool far

/-- A page freed in either tier (R225). -/
def State.kvFreePage (s : State) (pool : Nat) (g : KvPage) : State :=
  match s.kvFrameOf pool g with
  | some n => ((s.setKvFrame pool n none).setKvPte g 0 0).slotAdd g.slot 255 224 (-1)
  | none =>
    match s.kvSpillOf pool g with
    | some far => ((s.setKvSpill pool far none).setKvPte g 0 0).slotAdd g.slot 223 192 (-1)
    | none => s

/-- The pages of a slot in a pool, in either tier. -/
def State.kvPages (s : State) (pool slot : Nat) : List KvPage :=
  (((s.kvUsed pool).map fun e => e.2.page) ++
    s.tier.kvSpills.filterMap fun e => if e.1 / 2 ^ 24 = pool then e.2 else none).eraseDups.filter fun g => decide (g.slot = slot)

/-- Operations completed with POOL_EXHAUSTED counted in the pool's entry (R213). -/
def State.poolExhausted (s : State) (pool : Nat) : State := s.poolAdd pool 63 0

/-- A slot paused by the device, with every queue that names it (R221, R316); a RESUME of the same control cycle is refused after all
(R317). -/
def State.pauseSlot (s : State) (n : Nat) : State :=
  let s := s.setSlot n (setFld (s.slot n) 507 506 2)
  let hit := s.qs.queues.filter fun e => e.2.seqEn && decide (e.2.seqSlot = n) && decide (e.2.state = .active)
  let s := hit.foldl (fun (t : State) e => t.setQueue e.1 { e.2 with state := .paused, why := 3 }) s
  (hit.filterMap fun e => e.2.resumedAt).foldl
    (fun (t : State) r => if r.1 = t.cycle then r.2.elim t (t.queueStatus .stateConflict) else t) s

/-! ### Rows of pages (R214) -/

/-- The byte offset within a frame of position `p` of region `u`. -/
def kvRow (P : BitVec 512) (u p : Nat) : Nat := (u * 2 ^ plPageLog2 P + p % 2 ^ plPageLog2 P) * 64 * kvElem (plFmt P)

/-- A frame's access recorded (R217). -/
def State.kvTouch (s : State) (pool : Nat) (g : KvPage) : State :=
  match s.kvFrameOf pool g with
  | some n =>
    (match s.kvFrame pool n with
      | some f => s.setKvFrame pool n (some { f with lastAccess := s.ft.toNat })
      | none => s)
  | none => s

/-- The bytes of one region's row at a position: from near memory, or from the spill frame (R223). -/
def State.kvReadRow (s : State) (pool : Nat) (g : KvPage) (u p : Nat) : State × Status × List Byte :=
  let P := s.pool pool
  let n := 64 * kvElem (plFmt P)
  let a := s.kvPageAddr g + kvRow P u p
  if s.kvPageState g = 2 then (s.countFarAll false (a - 0x400000000000) n).tierRead (a - 0x400000000000) n else s.readNear a n

/-- The rows of a block of a paged source: the region, the row, and the page that holds it, of those of `pages`. -/
def State.kvBlockRows (s : State) (pool : Nat) (pages : List KvPage) (block nv : Nat) : List (Nat × Nat × KvPage) :=
  let P := s.pool pool
  ((List.range (2 * plHt P)).map fun u => ((List.range nv).filterMap fun r =>
    (pages.find? fun g => decide (g.page = (64 * block + r) / 2 ^ plPageLog2 P)).map fun g => (u, r, g))).flatten

/-- The rows of the first `nv` positions of a block of a paged source (R191, R214, R223): the status of the reads, and the bytes of
each row with its region and position. -/
def State.kvReadBlock (s : State) (pool : Nat) (pages : List KvPage) (block nv : Nat) : State × Status × List (Nat × Nat × List Byte) :=
  (s.kvBlockRows pool pages block nv).foldl
    (fun acc e =>
      let r := acc.1.kvReadRow pool e.2.2 e.1 (64 * block + e.2.1)
      (r.1, acc.2.1.orElse r.2.1, acc.2.2 ++ [(e.1, e.2.1, r.2.2)]))
    (s, .ok, [])

/-- The pages of the tiered range that a block's far rows lie in. -/
def State.kvBlockFar (s : State) (pool : Nat) (pages : List KvPage) (block nv : Nat) : List Nat :=
  let P := s.pool pool
  ((s.kvBlockRows pool (pages.filter fun g => decide (s.kvPageState g = 2)) block nv).map fun e =>
    pagesOf (s.kvPageAddr e.2.2 + kvRow P e.1 (64 * block + e.2.1) - 0x400000000000) (64 * kvElem (plFmt P))).flatten.eraseDups

/-- Pages that a failed APPEND had been given are freed where no other append needs them, and frames on their way to it are not given
(R219). -/
def State.kvGiveBack (s : State) (pool : Nat) (l : List KvPage) : State :=
  let l := l.filter fun g => decide (s.kvPins g = 0)
  let s := { s with
    tier.kvMoves := s.tier.kvMoves.map fun v =>
      match v with
      | .spill p f vic far next src useBy => if next.any l.contains then .spill p f vic far none src useBy else v
      | .recall _ _ _ _ => v }
  l.foldl (fun t g => t.kvFreePage pool g) s

/-- Is a copy the recall that a frame waits for? -/
def KvMove.recalls (pool n : Nat) : KvMove → Bool
  | .recall p k _ _ => decide (p = pool ∧ k = n)
  | .spill _ _ _ _ _ _ _ => false

/-- A page pinned by a PREFETCH until `t`, where its frame is on its way (R218, R224). -/
def State.kvPinComing (s : State) (pool : Nat) (g : KvPage) (t : Nat) : State :=
  let later := fun (u : Option Nat) => some (max t (u.getD t))
  let s : State := { s with
    tier.kvMoves := s.tier.kvMoves.map fun v =>
      match v with
      | .spill p f vic far next src useBy => if next = some g then .spill p f vic far next src (later useBy) else v
      | .recall _ _ _ _ => v }
  match s.kvFrameOf pool g with
  | some n =>
    (match s.kvFrame pool n with
      | some f =>
        if f.useBy.isSome || s.tier.kvMoves.any (KvMove.recalls pool n) then s.setKvFrame pool n (some { f with useBy := later f.useBy }) else s
      | none => s)
  | none => s

/-- A pool's entry as it is read: its counts of free frames and free spill frames as they stand (R213). -/
def State.poolEntry (s : State) (n : Nat) : BitVec 512 :=
  let x := s.pool n
  if plEnable x then
    setFld (setFld x 255 232 (plFrames x - (s.kvUsed n).length)) 231 208 (plFarFrames x - (s.kvSpillUsed n).length)
  else x

/-! ### Writes of slot and pool entries (R182, R213, R215, R228) -/

/-- Are the entries writable: from CONFIG onwards? -/
def State.poolsWritable (s : State) : Bool :=
  decide (s.dev = .config ∨ s.dev = .ready ∨ s.dev = .running ∨ s.dev = .draining ∨ s.dev = .faulted)

/-- A write of a sequence-slot entry (R182): read-only fields keep what they hold. -/
def State.slotWrite (s : State) (n : Nat) (v : BitVec 512) : State × Status :=
  if !s.poolsWritable then (s, .stateConflict)
  else if fld v 511 508 ≠ 1 then (s, .versionUnsupported)
  else if 2 ≤ slState v ∨ fld v 505 504 = 3 ∨ 20 < slPagesLog2 v ∨ 2 ^ 24 < fld v 448 424 ∨ 2 ^ 24 < fld v 423 399 ∨
    zeros v [(476, 449), (398, 380), (351, 256), (63, 0)] = false then (s, .reservedNonzero)
  else (s.setSlot n (setFld v 255 64 (fld (s.slot n) 255 64)), .ok)

/-- The geometry of a pool entry (R213). -/
def plGeometry (x : BitVec 512) : Nat := fld x 506 496 + fld x 463 322 * 2 ^ 16

/-- A write of a pool entry (R213, R215). -/
def State.poolWrite (s : State) (n : Nat) (v : BitVec 512) : State × Status :=
  let old := s.pool n
  if !s.poolsWritable then (s, .stateConflict)
  else if fld v 511 508 ≠ 1 then (s, .versionUnsupported)
  else if plPageLog2 v < 4 ∨ 16 < plPageLog2 v ∨ plFmt v < 1 ∨ 4 < plFmt v ∨ plFrames v = 0 ∨
    zeros v [(383, 381), (321, 256), (207, 192)] = false then (s, .reservedNonzero)
  else if plEnable old ∧ plGeometry old ≠ plGeometry v then (s, .stateConflict)
  else if plEnable old ∧ !plEnable v ∧ (s.kvUsed n).isEmpty = false then (s, .stateConflict)
  else
    let x := setFld (setFld v 495 464 (frameBytesOf (plHt v) (plPageLog2 v) (plFmt v))) 255 0 (fld old 255 0)
    let s := s.setPool n x
    (if plEnable v && !plEnable old then s.zeroNear (plFtBase v) (16 * plFrames v) else s, .ok)

end Sys2Proof.Machine
end

