-- ==== Sys2Proof/Machine/AttnOps.lean ====
section
/-! DEFINITION. Attention items (R176 to R194): their fields, the placement of their tiles, their checks, and the steps that the
sequencer commands (R196 to R198). -/

namespace Sys2Proof.Machine

/-! ### Fields (R188) -/

def asOp (x : BitVec 512) : Nat := fld x 507 504
def asH (x : BitVec 512) : Nat := m1 x 503 501
def asT (x : BitVec 512) : Nat := m1 x 500 498
def asHt (x : BitVec 512) : Nat := m1 x 497 496
def asCont (x : BitVec 512) : Bool := fbit x 495
def asFinal (x : BitVec 512) : Bool := fbit x 494
def asDk (x : BitVec 512) : Bool := fbit x 492
def asDv (x : BitVec 512) : Bool := fbit x 493
def asSlot (x : BitVec 512) : Nat := fld x 491 487
def asLayer (x : BitVec 512) : Nat := fld x 486 476
def asHead0 (x : BitVec 512) : Nat := fld x 475 468
def asKvh (x : BitVec 512) : Nat := fld x 467 460
def asResFirst (x : BitVec 512) : Nat := fld x 459 440
def asStrFirst (x : BitVec 512) : Nat := fld x 433 414
def asStrCount (x : BitVec 512) : Nat := m1 x 413 396
def asStrLast (x : BitVec 512) : Nat := m1 x 395 390
def asPaged (x : BitVec 512) : Bool := fbit x 389
def asFmt (x : BitVec 512) : Nat := fld x 388 385
def asDepth (x : BitVec 512) : Nat := m1 x 377 375
def asResGran (x : BitVec 512) : Nat := fld x 374 362
def asAccGran (x : BitVec 512) : Nat := fld x 361 349
def asRsGran (x : BitVec 512) : Nat := fld x 348 336
def asStgGran (x : BitVec 512) : Nat := fld x 335 323
def asScrGran (x : BitVec 512) : Nat := fld x 322 310
def asDoGran (x : BitVec 512) : Nat := fld x 309 297
def asYGran (x : BitVec 512) : Nat := fld x 296 284
def asSrc (x : BitVec 512) : Nat := fld x 283 256 * 4096
/-- `use_by` of a PREFETCH. -/
def asUseBy (x : BitVec 512) : Nat := fld x 255 192

/-- The end of the streamed blocks. -/
def asEnd (x : BitVec 512) : Nat := asStrFirst x + asStrCount x
/-- Outputs selected by `kv_out`. -/
def asW (x : BitVec 512) : Nat := b2n (asDk x) + b2n (asDv x)
/-- The footprint of an input tile in granules. -/
def asG (x : BitVec 512) : Nat := fmtGranules (asFmt x)
/-- The probability format (R178). -/
def asPFmt (x : BitVec 512) : Nat := if asFmt x ≤ 2 then 1 else 3
/-- The phase of an item (R193). -/
def asPhase (x : BitVec 512) : Nat := if asOp x = 0 then 0 else if asOp x = 1 then 4 else 1

/-- Valid positions of resident block `t`. -/
def asResValid (x : BitVec 512) (t : Nat) : Nat := if t + 1 = asT x then m1 x 439 434 else 64
/-- Valid positions of streamed block `j`. -/
def asStrValid (x : BitVec 512) (j : Nat) : Nat := if j + 1 = asEnd x then asStrLast x else 64

/-! ### Placement (R190) -/

/-- Query, output-gradient or stored-output tile (t, h, u) from its first granule. -/
def asQTile (x : BitVec 512) (base t h u : Nat) : Nat := base + ((t * asH x + h) * asHt x + u) * asG x
/-- Key tile (w = 0) or value tile (w = 1) of resident block `t`. -/
def asKvTile (x : BitVec 512) (t w u : Nat) : Nat := asResGran x + ((2 * t + w) * asHt x + u) * asG x
/-- Accumulator `n`. -/
def asAcc (x : BitVec 512) (n : Nat) : Nat := asAccGran x + 8 * n
/-- The number of accumulator (t, h, u), or (t, w, u) in BWD_KV. -/
def asAccIx (x : BitVec 512) (t w u : Nat) : Nat := (t * (if asOp x = 3 then asW x else asH x) + w) * asHt x + u
/-- The number of accumulators. -/
def asAccs (x : BitVec 512) : Nat := asT x * (if asOp x = 3 then asW x else asH x) * asHt x
/-- The record of (t, h). -/
def asRec (x : BitVec 512) (t h : Nat) : Nat := asRsGran x + 2 * (t * asH x + h)
/-- Granules of one staging slot. -/
def asSlotGrans (x : BitVec 512) : Nat := if asOp x = 3 then asH x * (3 * asHt x * asG x + 2) else 2 * asHt x * asG x
/-- Bytes of a streamed block (R191). -/
def asBlockBytes (x : BitVec 512) : Nat := 2048 * asSlotGrans x

/-- The extents of an item, in granules. -/
def asExtents (x : BitVec 512) : List (Nat × Nat) :=
  let q := asT x * asH x * asHt x * asG x
  if asOp x ≤ 3 then
    [(asResGran x, if asOp x = 3 then asT x * 2 * asHt x * asG x else q), (asAccGran x, 8 * asAccs x),
     (asStgGran x, asDepth x * asSlotGrans x), (asScrGran x, 8 * fmtGranules (asPFmt x))] ++
    (if asOp x = 3 then [] else [(asRsGran x, 2 * asT x * asH x)]) ++
    (if asOp x = 2 then [(asDoGran x, q), (asYGran x, q)] else [])
  else if asOp x = 4 then [(asStgGran x, 2 * asHt x * asG x)]
  else []

/-- The triples (t, h, u) of an item. -/
def asTriples (x : BitVec 512) : List (Nat × Nat × Nat) :=
  ((List.range (asT x)).map fun t => ((List.range (asH x)).map fun h => (List.range (asHt x)).map fun u => (t, h, u)).flatten).flatten

/-- The resident input tiles: granule and resident block. -/
def asResident (x : BitVec 512) : List (Nat × Nat) :=
  if asOp x = 3 then
    ((List.range (asT x)).map fun t => (List.range (2 * asHt x)).map fun u => (asKvTile x t 0 u, t)).flatten
  else
    let at1 := fun base => (asTriples x).map fun e => (asQTile x base e.1 e.2.1 e.2.2, e.1)
    at1 (asResGran x) ++ (if asOp x = 2 then at1 (asDoGran x) ++ at1 (asYGran x) else [])

/-! ### Checks (R194) -/

/-- The fields that an opcode does not use (R189). -/
def asUnused (x : BitVec 512) : List (Nat × Nat) :=
  (12, 0) ::
  match asOp x with
  | 2 => (493, 492) :: (if asPaged x then [] else [(467, 460)])
  | 3 => [(309, 284), (348, 336), (389, 389), (467, 460)]
  | 4 => [(503, 498), (495, 492), (475, 468), (459, 434), (413, 396), (389, 389), (384, 336), (322, 128)]
  | 5 => [(503, 492), (475, 468), (459, 434), (395, 256), (191, 128)]
  | 6 => [(503, 492), (486, 434), (413, 128)]
  | _ => [(493, 492), (309, 284)] ++ (if asPaged x then [] else [(467, 460)])

/-- Check 2. -/
def asReservedOk (x : BitVec 512) : Bool :=
  decide (asOp x ≤ 6) && zeros x (asUnused x) && decide (asStrFirst x < 262144) &&
  (decide (4 < asOp x) || decide (1 ≤ asFmt x ∧ asFmt x ≤ 4)) &&
  (decide (asOp x = 4 ∨ asOp x = 6) || decide (asEnd x ≤ 262144)) &&
  (decide (3 < asOp x) ||
    (decide (asH x * asT x ≤ 16) && decide (asResFirst x + asT x ≤ 262144) && decide (fld x 377 375 ≠ 0) &&
     decide (fld x 384 381 ≤ 12) && decide (fld x 380 379 ≤ 1) && (decide (asOp x ≠ 3) || decide (asW x ≠ 0))))

/-- Check 3. -/
def asExtentsOk (x : BitVec 512) : Bool :=
  ((asExtents x).all fun e => decide (e.1 + e.2 ≤ 7168)) &&
  (decide (3 < asOp x) || asPaged x || decide (asSrc x + asStrCount x * asBlockBytes x ≤ Config.nearBytes))

/-- Check 4. -/
def State.asSlotOk (s : State) (core : Nat) (x : BitVec 512) : Bool :=
  let S := s.slot (asSlot x)
  let P := s.pool (slPool S)
  let inSlot := decide (asLayer x < slLayers S ∧ asKvh x < slKvh S)
  decide (slState S = 1) &&
  (match asOp x with
    | 4 => plEnable P && decide (plFmt P = asFmt x ∧ plHt P = asHt x) && inSlot
    | 5 => plEnable P && inSlot
    | 6 => plEnable P
    | _ =>
      (!asPaged x || (plEnable P && decide (plFmt P = asFmt x ∧ plHt P = asHt x) && inSlot)) &&
      s.slotMode core 0 1 && s.slotMode core 1 2)

/-- Check 6. -/
def State.asTagsOk (s : State) (core : Nat) (x : BitVec 512) : Bool :=
  ((asResident x).all fun e =>
    let t := s.tag core e.1
    decide (tagFmt t = asFmt x ∧ tagSlot t = asSlot x ∧ tagLayer t = asLayer x ∧ tagHead t = asHead0 x) &&
    decide ((if asOp x = 3 then tagKvBlock t else tagQBlock t) = asResFirst x + e.2)) &&
  (!asCont x || decide (asOp x = 3) ||
    (List.range (asT x)).all fun t => (List.range (asH x)).all fun h => (List.range (asResValid x t)).all fun r =>
      zeros (s.recRow core (asRec x t h) r) [(511, 416)])

/-- The checks of an attention item, in order (R194); a PREFETCH that names an FT instant needs a valid FT (R47). -/
def State.attnCheck (s : State) (q : Nat) (x : BitVec 512) : Status :=
  let core := (s.queue q).core
  if fld x 511 508 ≠ 1 then .versionUnsupported
  else if asReservedOk x = false then .reservedNonzero
  else
    firstBad
      [need (asExtentsOk x) .pageFault,
       need (s.asSlotOk core x) .stateConflict,
       (if asOp x ≤ 3 then firstBad ((asResident x).map fun e => tagCheck (s.tag core e.1)) else .ok),
       (if asOp x ≤ 3 then need (s.asTagsOk core x) .stateConflict else .ok),
       need (!anyOverlap (asExtents x)) .stateConflict,
       need (decide (asOp x ≠ 5 ∨ asUseBy x = 0) || s.ftValid) .stateConflict]

/-! ### Estimates and resources -/

/-- The phase by which an item's energy is scaled: of its first operand tag (R531). -/
def State.asTagPhase (s : State) (core : Nat) (x : BitVec 512) : Nat :=
  if asOp x ≤ 3 then tagPhase (s.tag core (asResGran x)) else 0

/-- The estimate at an item's start (R531). -/
def State.attnEst (s : State) (core : Nat) (x : BitVec 512) : Nat × Nat := (30, s.asTagPhase core x)

/-- The reference energy of one pair (R531). -/
def asPairEnergy (x : BitVec 512) : Nat :=
  let tp := (if asFmt x ≤ 2 then 120 else 60) * asHt x
  let mix := 12 * asHt x
  match asOp x with
  | 2 => 3 * tp + 18 + 12 + mix
  | 3 => tp + 18 + (if asDv x then tp + 16 + mix else 0) + (if asDk x then 2 * tp + 12 + 16 + mix else 0)
  | _ => 2 * tp + 18 + mix

/-- Is the sequencer free for an item: accumulator tiles 2 and 3 empty, and no item of another engine under way (R201)? -/
def State.attnFree (s : State) (q : Nat) : Bool :=
  let core := (s.queue q).core
  (s.core core).walk.isNone && (s.core core).vec.isNone && (s.acc core 2).empty && (s.acc core 3).empty

/-- The cycle counters that an item's matrix and vector work raises by amounts that the spec does not state. -/
def State.seqCounters (s : State) (core : Nat) : State :=
  [0x4020, 0x5010].foldl (fun t o => t.busyFor (coreOff core o)) s

/-! ### Sequencer steps (R196 to R198) -/

/-- An MMA of the sequencer, `start` and `finish` in one item: its finished words. -/
def seqMma (q : Nat) (layout : Bool) (m n : Nat) (ps : List TilePair) : Store W32 :=
  let f := ((ps.head?).map fun p => (p.a.fmt, p.b.fmt)).getD (1, 1)
  let cls := (pairClass f.1 f.2).getD .float
  let l := windowL f.1 f.2
  let t := ((startTile cls f.1 f.2 0 (termsOf ps) q).products cls layout l 0 m n ps).1
  Store.setAll 0 [] (((List.range m).map fun i => (List.range n).map fun j => (wordIx i j, readWord cls l false (t.word (wordIx i j)))).flatten)

/-- A tile of tile memory as an operand. -/
def State.opTile (s : State) (core g f : Nat) : OpTile := ⟨f, s.tileAt core g f⟩

/-- The value of a word of a finished tile. -/
def wordF (t : Store W32) (r c : Nat) : W32 := Store.get 0 t (wordIx r c)

/-- A conversion of the sequencer: round to nearest even, `sat` 1 (R178). -/
def seqConv (f : Nat) : Conv := { fmt := f, rnd := 0, sat := true, seed := 0, base := 0, step := 0 }

/-- Output elements: the value, and whether an input was NaN (R141). -/
def outTable (m n : Nat) (f : Nat → Nat → W32 × Bool) : List (List (W32 × Bool)) :=
  (List.range m).map fun r => (List.range n).map (f r)

/-- A tile that a sequencer step writes, with its tag, `CVT_SAT` and `FN_NAN`. -/
def State.seqWrite (s : State) (core g : Nat) (v : Conv) (tag : W128) (m n : Nat) (out : List (List (W32 × Bool))) : State :=
  let nans := (out.map fun row => (row.filter fun e => (f32 e.1).isNan && !e.2).length).sum
  let s := s.bumpSeenN (coreOff core 0x5030) (coreOff core 0x5000) 1 nans
  let t := s.putTileVals core g v m n fun r c => f32 (((((out[r]?).getD [])[c]?).getD (0, false)).1)
  (t.1.writeTag core g v.fmt tag).bumpSeenN (coreOff core 0x5028) (coreOff core 0x5000) 2 t.2

/-- MIX (R197): a ← fma(α, a, x) on the accumulator at granule `g`, whose tag becomes `tag`. -/
def State.seqMix (s : State) (core g : Nat) (tag : W128) (m n : Nat) (alpha : Nat → W32) (x : Store W32) : State :=
  let bytes := s.tileAt core g 0
  s.seqWrite core g (seqConv 0) tag m n (outTable m n fun r c =>
    let a := toF32 (tileVal 0 bytes r c)
    (f32fma (alpha r) a (wordF x r c), (f32 a).isNan || (f32 (alpha r)).isNan || (f32 (wordF x r c)).isNan))

/-- 1.0. -/
def one32 : W32 := 0x3F800000#32

/-- The scratch tile that a product takes: which of the eight is not stated. -/
def State.scratch (s : State) (x : BitVec 512) : Nat × State :=
  (asScrGran x + Config.scratchTile s.free % 8 * fmtGranules (asPFmt x), { s with free := s.free + 1 })

/-- A tile of the probability format written to scratch, and read back as an operand. -/
def State.seqProb (s : State) (core q : Nat) (x : BitVec 512) (tag : W128) (m n : Nat) (out : List (List (W32 × Bool))) : State × OpTile :=
  let g := s.scratch x
  let s := g.2.seqWrite core g.1 (seqConv (asPFmt x)) (outTag tag (asPFmt x) q) m n out
  (s, s.opTile core g.1 (asPFmt x))

/-- PEXP (R197): probabilities from scores and a stored `lse`. -/
def State.pexp (s : State) (core : Nat) (slot : BitVec 512) (tag : W128) (m n : Nat) (lse : Nat → W32) (S : Store W32) : List (List (W32 × Bool)) :=
  outTable m n fun r c =>
    if tagMasks slot tag r c ∨ lse r = 0xFF800000#32 then (0, false)
    else ((s.table core 0).exp (f32sub (wordF S r c) (lse r)), (f32 (wordF S r c)).isNan || (f32 (lse r)).isNan)

/-- DS (R197): score gradients. -/
def dsOut (slot : BitVec 512) (tag : W128) (m n : Nat) (p : OpTile) (dp : Store W32) (D : List W32) : List (List (W32 × Bool)) :=
  outTable m n fun r c =>
    if tagMasks slot tag r c then (0, false)
    else
      let pv := toF32 (tileVal p.fmt p.bytes r c)
      let d := (D[r]?).getD 0
      (f32mul pv (f32sub (wordF dp r c) d), (f32 pv).isNan || (f32 (wordF dp r c)).isNan || (f32 d).isNan)

/-- DROW (R197): D_r of the rows of the output-gradient and stored-output tiles given. -/
def drow (m : Nat) (ps : List (OpTile × OpTile)) : List W32 :=
  (List.range m).map fun r =>
    ps.foldl (fun d p => (List.range 64).foldl (fun d c => f32fma (toF32 (p.1.elem r c)) (toF32 (p.2.elem r c)) d) d) 0

/-- TRANS (R197): the transpose of a tile, into scratch. -/
def State.seqTrans (s : State) (core q : Nat) (x : BitVec 512) (tag : W128) (m n : Nat) (p : OpTile) : State × OpTile :=
  s.seqProb core q x tag n m (outTable n m fun r c => let v := toF32 (tileVal p.fmt p.bytes c r); (v, (f32 v).isNan))

/-- The tag of the pair's first query tile rewritten (R193), and the tag its scores carry (R39, R113). -/
def State.pairTag (s : State) (core q g kv cls : Nat) (x : BitVec 512) : State × W128 :=
  let t := setTag (setTag (setTag (s.tag core g) 79 60 kv) 55 54 cls) 51 48 (asPhase x)
  (s.putTag core g t, outTag t 0 q)

/-- The tag of an accumulator (R200). -/
def State.accTag (s : State) (core q t h fmt : Nat) (x : BitVec 512) : W128 :=
  let first := if asOp x = 3 then asKvTile x t 0 0 else asQTile x (asResGran x) t h 0
  outTag (setTag (setTag (setTag (s.tag core first) 79 60 0) 55 54 0) 51 48 (asPhase x)) fmt q

/-- The operand pairs of a product over the tiles u of a head, at granules `a u` and `b u`. -/
def State.headPairs (s : State) (core : Nat) (x : BitVec 512) (a b : Nat → Nat) : List TilePair :=
  (List.range (asHt x)).map fun u => { a := s.opTile core (a u) (asFmt x), b := s.opTile core (b u) (asFmt x), k := 64 }

/-- One pair of a forward walk (R196): `k` and `v` give the staged key and value tiles. -/
def State.fwdPair (s : State) (core q : Nat) (x slot : BitVec 512) (t h j cls : Nat) (k v : Nat → Nat) : State :=
  let m := asResValid x t
  let n := asStrValid x j
  let qt := asQTile x (asResGran x) t h
  let S := seqMma q false m n (s.headPairs core x qt k)
  let r := s.pairTag core q (qt 0) j cls x
  let tag := r.2
  let rows := (List.range m).map fun i =>
    let xs := (List.range n).map fun c => if tagMasks slot tag i c then 0xFF800000#32 else wordF S i c
    let R := (RowRec.ofBits (s.recRow core (asRec x t h) i)).smaxAcc (s.table core) xs
    (R.1, R.2.zip (xs.map fun w => (f32 w).isNan || (f32 R.1.max).isNan))
  let s1 := (rows.zipIdx.foldl (fun u e => u.putRecRow core (asRec x t h) e.2 ((e.1.1.smaxEnd (s.table core)).toBits)) r.1).recTags core (asRec x t h)
  let p := s1.seqProb core q x tag m n (rows.map (·.2))
  (List.range (asHt x)).foldl
    (fun u i =>
      let X := seqMma q true m 64 [{ a := p.2, b := u.opTile core (v i) (asFmt x), k := n }]
      u.seqMix core (asAcc x (asAccIx x t h i)) (u.accTag core q t h 0 x) m 64 (fun r => (((rows[r]?).map fun e => e.1.alpha).getD one32)) X)
    p.1

/-- The stored `lse` of a row of a record. -/
def State.lseAt (s : State) (core g r : Nat) : W32 := (RowRec.ofBits (s.recRow core g r)).lse

/-- One pair of a BWD_Q walk (R198). -/
def State.bwdQPair (s : State) (core q : Nat) (x slot : BitVec 512) (t h j cls : Nat) (k v : Nat → Nat) : State :=
  let m := asResValid x t
  let n := asStrValid x j
  let qt := asQTile x (asResGran x) t h
  let dt := asQTile x (asDoGran x) t h
  let D := drow m ((List.range (asHt x)).map fun u => (s.opTile core (dt u) (asFmt x), s.opTile core (asQTile x (asYGran x) t h u) (asFmt x)))
  let S := seqMma q false m n (s.headPairs core x qt k)
  let dp := seqMma q false m n (s.headPairs core x dt v)
  let r := s.pairTag core q (qt 0) j cls x
  let tag := r.2
  let p := r.1.seqProb core q x tag m n (s.pexp core slot tag m n (s.lseAt core (asRec x t h)) S)
  let ds := p.1.seqProb core q x tag m n (dsOut slot tag m n p.2 dp D)
  (List.range (asHt x)).foldl
    (fun u i =>
      let X := seqMma q true m 64 [{ a := ds.2, b := u.opTile core (k i) (asFmt x), k := n }]
      u.seqMix core (asAcc x (asAccIx x t h i)) (u.accTag core q t h 0 x) m 64 (fun _ => one32) X)
    ds.1

/-- One pair of a BWD_KV walk (R198): `qt`, `dt` and `yt` give the staged tiles of head `h`, `rec` its staged record. -/
def State.bwdKvPair (s : State) (core q : Nat) (x slot : BitVec 512) (t i cls : Nat) (qt dt yt : Nat → Nat) (rec : Nat) : State :=
  let m := asStrValid x i
  let n := asResValid x t
  let kt := asKvTile x t 0
  let vt := asKvTile x t 1
  let D := drow m ((List.range (asHt x)).map fun u => (s.opTile core (dt u) (asFmt x), s.opTile core (yt u) (asFmt x)))
  let S := seqMma q false m n (s.headPairs core x qt kt)
  let r := s.pairTag core q (qt 0) (asResFirst x + t) cls x
  let tag := r.2
  let p := r.1.seqProb core q x tag m n (s.pexp core slot tag m n (s.lseAt core rec) S)
  let mixInto := fun (u : State) (w : Nat) (a : OpTile) (b : Nat → Nat) =>
    (List.range (asHt x)).foldl
      (fun u j =>
        let X := seqMma q true n 64 [{ a := a, b := u.opTile core (b j) (asFmt x), k := m }]
        u.seqMix core (asAcc x (asAccIx x t w j)) (u.accTag core q t 0 0 x) n 64 (fun _ => one32) X)
      u
  let s1 := if asDv x then let pt := p.1.seqTrans core q x tag m n p.2; mixInto pt.1 (b2n (asDk x)) pt.2 dt else p.1
  if asDk x then
    let dp := seqMma q false m n (s.headPairs core x dt vt)
    let ds := s1.seqProb core q x tag m n (dsOut slot tag m n p.2 dp D)
    let dst := ds.1.seqTrans core q x tag m n ds.2
    mixInto dst.1 0 dst.2 qt
  else s1

/-! ### Start and end of a walk -/

/-- Accumulators at +0.0 and records at their initial values (R196). -/
def State.asInit (s : State) (core q : Nat) (x : BitVec 512) : State :=
  let hs := if asOp x = 3 then asW x else asH x
  let s := (List.range (asT x)).foldl (fun s t => (List.range hs).foldl (fun s h => (List.range (asHt x)).foldl (fun s u =>
      let m := asResValid x t
      s.seqWrite core (asAcc x (asAccIx x t h u)) (seqConv 0) (s.accTag core q t (if asOp x = 3 then 0 else h) 0 x) m 64
        (outTable m 64 fun _ _ => (0, false))) s) s) s
  if asOp x ≤ 1 then
    (List.range (asT x)).foldl (fun s t => (List.range (asH x)).foldl (fun s h =>
      ((List.range 64).foldl (fun s r => s.putRecRow core (asRec x t h) r RowRec.initial.toBits) s).recTags core (asRec x t h)) s) s
  else s

/-- FIN over every accumulator (R197, R200). -/
def State.asFin (s : State) (core q : Nat) (x : BitVec 512) : State :=
  let hs := if asOp x = 3 then asW x else asH x
  (List.range (asT x)).foldl (fun s t => (List.range hs).foldl (fun s h => (List.range (asHt x)).foldl (fun s u =>
    let n := asAccIx x t h u
    let m := asResValid x t
    let tag := s.accTag core q t (if asOp x = 3 then 0 else h) (fld x 384 381) x
    let bytes := s.tileAt core (asAcc x n) 0
    let v : Conv := {
      fmt := fld x 384 381, rnd := fld x 380 379, sat := fbit x 378, seed := BitVec.ofNat 64 (fld x 255 192),
      base := BitVec.ofNat 64 (fld x 191 128) + BitVec.ofNat 64 (4096 * n), step := tagStep tag }
    s.seqWrite core (asAcc x n) v tag m 64 (outTable m 64 fun r c =>
      let a := toF32 (tileVal 0 bytes r c)
      if asOp x ≤ 1 then
        let l := (RowRec.ofBits (s.recRow core (asRec x t h) r)).l
        if l = 0 then (0, false) else (f32div a l, (f32 a).isNan || (f32 l).isNan)
      else (a, (f32 a).isNan))) s) s) s

end Sys2Proof.Machine
end

