-- ==== Sys2Proof/Machine/Attention.lean ====
section
/-! DEFINITION. The attention sequencer (R188 to R202): walks by streamed block, APPEND, PREFETCH and RELEASE, and the attention and
pool commands. -/

namespace Sys2Proof.Machine

/-! ### The item under way -/

/-- The item's bookkeeping on a core. -/
def State.asWalk (s : State) (core : Nat) : AsWalk := ((s.core core).walk).getD { queue := 0, index := 0, item := 0, next := 0 }

/-- The bookkeeping replaced. -/
def State.setWalk (s : State) (core : Nat) (w : AsWalk) : State := s.setCore core { s.core core with walk := some w }

/-- The end of the item under way: nothing is left of it, and a yield request is spent (R202). -/
def State.asDone (s : State) (core : Nat) : State :=
  s.setCore core { s.core core with walk := none, yieldPending := false }

/-- `AS_NEXT` names a block (R195, R202). -/
def State.setAsNext (s : State) (core j : Nat) : State := s.setReg (coreOff core 0x6068) (BitVec.ofNat 64 (2 ^ 20 + j))

/-- What working on a streamed block comes to: it must wait, it faulted, or it is done. -/
inductive BlockEnd where
  | wait | fault (st : Status) | done
  deriving DecidableEq, Repr

/-! ### Fetches (R191, R223, R195) -/

/-- The pages that hold the valid positions of a streamed block of a paged source, by the slot's entry as the item began. -/
def State.asBlockPages (s : State) (x slot : BitVec 512) (j : Nat) : List KvPage :=
  (blockPages (plPageLog2 (s.pool (slPool slot))) j (asStrValid x j)).map (kvNamed slot (asSlot x) (asLayer x) (asKvh x))

/-- A page that is not there: its number too great, or unallocated (R216, R223). -/
def State.kvMissing (s : State) (slot : BitVec 512) (g : KvPage) : Bool :=
  decide (2 ^ slPagesLog2 slot ≤ g.page) || decide (s.kvPageState g = 0)

/-- A far fetch counted (R223). -/
def State.countFarRead (s : State) (core slot : Nat) : State :=
  ((s.slotAdd slot 191 128 1).bumpSeen (coreOff core 0x6050) (coreOff core 0x6000) 4).busyFor (coreOff core 0x6038)

/-- A fetch's bytes counted by the core's fetch engines (R181, R358). How the sequencer divides a fetch into descriptors, and between the
two engines, is not stated: the bytes go to one of them, the count of descriptors rises by a free word. -/
def State.countFetch (s : State) (core bytes : Nat) : State :=
  let o := if (Config.freeWord s.free 1).getLsbD 0 then 0x2108 else 0x2008
  (s.busyFor (coreOff core o)).bump (coreOff core (o + 8)) bytes

/-- The fetch of a block of a linear source: its image. -/
def State.fetchLinear (s : State) (core : Nat) (x : BitVec 512) (j : Nat) : State × BlockEnd × List Byte :=
  let r := s.readNear (asSrc x + (j - asStrFirst x) * asBlockBytes x) (asBlockBytes x)
  if r.2.1 = .ok then (r.1.countFetch core (asBlockBytes x), .done, r.2.2) else (r.1, .fault r.2.1, [])

/-- A fetch that waits for an unreachable pool, at most `FAR_TIMEOUT_US` (R289, R296). -/
def State.fetchFarWait (s : State) (core : Nat) : State × BlockEnd :=
  let w := s.asWalk core
  match w.farSince with
  | none => (s.setWalk core { w with farSince := some s.ft.toNat }, .wait)
  | some t => if t + 1000 * s.dictNat 0x4300 4 < s.ft.toNat then (s, .fault .deadlineMissed) else (s, .wait)

/-- The fetch of a block of a paged source: the rows of its valid positions. A page in transit, between the tiers of its pool or within the
tiered range, makes the walk wait until its move has ended: R223 gives only far and unallocated pages, and the wait follows what R219 and
R279 say of other accesses (DEDUCED). -/
def State.fetchPaged (s : State) (core : Nat) (x slot : BitVec 512) (j : Nat) : State × BlockEnd × List (Nat × Nat × List Byte) :=
  let pool := slPool slot
  let pages := s.asBlockPages x slot j
  let far := s.kvBlockFar pool pages j (asStrValid x j)
  if pages.any (s.kvMissing slot) || far.any (fun o => !s.kvFarCheck false o) then (s, .fault .pageFault, [])
  else if pages.any (fun g => decide (s.kvPageState g = 3)) || far.any s.inTransit then (s, .wait, [])
  else if far.any (fun o => !s.kvFarUp o) then let w := s.fetchFarWait core; (w.1, w.2, [])
  else
    let s := (s.setWalk core { s.asWalk core with farSince := none }).translateAll (s.dieOf core) far
    let s := pages.foldl (fun t g => t.kvTouch pool g) s
    let r := s.kvReadBlock pool pages j (asStrValid x j)
    let s := if far.isEmpty then r.1 else r.1.countFarRead core (asSlot x)
    if r.2.1 = .ok then (s.countFetch core (r.2.2.map fun e => e.2.2.length).sum, .done, r.2.2) else (s, .fault r.2.1, [])

/-- The tag of a staged tile (R192). -/
def State.stagedTag (s : State) (core : Nat) (x : BitVec 512) (j : Nat) : W128 :=
  let t := setTag (s.tag core (asResGran x)) 59 56 (asFmt x)
  if asOp x = 3 then setTag t 99 80 j else setTag t 79 60 j

/-- The first granule of the staging slot that a block takes: which slot is not stated. -/
def asStage (x : BitVec 512) (j : Nat) : Nat := asStgGran x + Config.stagingSlot j % asDepth x * asSlotGrans x

/-- The granules of the tiles in a staging slot, and those of its records. -/
def asStagedTiles (x : BitVec 512) (base : Nat) : List Nat × List Nat :=
  if asOp x = 3 then
    let per := 3 * asHt x * asG x + 2
    (((List.range (asH x)).map fun h => (List.range (3 * asHt x)).map fun u => base + h * per + u * asG x).flatten,
     (List.range (asH x)).map fun h => base + h * per + 3 * asHt x * asG x)
  else ((List.range (2 * asHt x)).map fun u => base + u * asG x, [])

/-- A block's tags written in its staging slot. -/
def State.stageTags (s : State) (core : Nat) (x : BitVec 512) (j base : Nat) : State :=
  let tag := s.stagedTag core x j
  let l := asStagedTiles x base
  let s := l.1.foldl (fun t g => t.writeTag core g (asFmt x) tag) s
  l.2.foldl (fun t g => t.recTags core g) s

/-- A block fetched and staged. -/
def State.stageBlock (s : State) (core : Nat) (x slot : BitVec 512) (j : Nat) : State × BlockEnd :=
  let base := asStage x j
  if asPaged x then
    let r := s.fetchPaged core x slot j
    match r.2.1 with
    | .done =>
      let e := kvElem (asFmt x)
      let s := r.2.2.foldl (fun t row => t.putTile core (2048 * (base + row.1 * asG x) + 64 * e * row.2.1) row.2.2) r.1
      (s.stageTags core x j base, .done)
    | b => (r.1, b)
  else
    let r := s.fetchLinear core x j
    match r.2.1 with
    | .done => ((r.1.putTile core (2048 * base) r.2.2).stageTags core x j base, .done)
    | b => (r.1, b)

/-! ### Blocks -/

/-- The class of resident block `t` with streamed block `j` (R184). -/
def asClass (slot x : BitVec 512) (t j : Nat) : Nat :=
  if asOp x = 3 then pairMask slot j (asResFirst x + t) (asStrValid x j) (asResValid x t)
  else pairMask slot (asResFirst x + t) j (asResValid x t) (asStrValid x j)

/-- The valid rows of the first `m` of a tile of an input format, and the tag of its first granule. -/
def asTileExt (x : BitVec 512) (g m : Nat) : List (Nat × Nat) := [(2048 * g, 64 * kvElem (asFmt x) * m)]

/-- The accumulators of resident block `t` and head (or output) `w`, `m` rows valid. -/
def asAccExt (x : BitVec 512) (t w m : Nat) : List (Nat × Nat) :=
  (List.range (asHt x)).map fun u => (2048 * asAcc x (asAccIx x t w u), 256 * m)

/-- The resident bytes that the pair of resident block `t` and head `h` reads (R196, R198): valid rows alone. -/
def asPairReads (x : BitVec 512) (t h : Nat) : List (Nat × Nat) :=
  let m := asResValid x t
  let tiles := fun base => ((List.range (asHt x)).map fun u => asTileExt x (asQTile x base t h u) m).flatten
  match asOp x with
  | 3 =>
    let kv := fun w => ((List.range (asHt x)).map fun u => asTileExt x (asKvTile x t w u) m).flatten
    (tagOff (asKvTile x t 0 0), 16) :: (kv 0 ++ (if asDk x then kv 1 else []) ++
      ((List.range (asW x)).map fun w => asAccExt x t w m).flatten)
  | _ =>
    (tagOff (asQTile x (asResGran x) t h 0), 16) :: (tiles (asResGran x) ++
      (if asOp x = 2 then tiles (asDoGran x) ++ tiles (asYGran x) else []) ++
      (2048 * asRec x t h, 64 * m) :: asAccExt x t h m)

/-- The bytes that a streamed block's pairs read, those that are not skipped. -/
def asBlockReads (slot x : BitVec 512) (j : Nat) : List (Nat × Nat) :=
  (((List.range (asT x)).filter fun t => asClass slot x t j ≠ 2).map fun t =>
    ((List.range (asH x)).map fun h => asPairReads x t h).flatten).flatten

/-- The bytes that FIN reads (R197): valid rows of every accumulator, and the records of a forward walk. -/
def asFinReads (x : BitVec 512) : List (Nat × Nat) :=
  ((List.range (asT x)).map fun t => ((List.range (if asOp x = 3 then asW x else asH x)).map fun h =>
    asAccExt x t h (asResValid x t) ++ (if asOp x ≤ 1 then [(2048 * asRec x t h, 64 * asResValid x t)] else [])).flatten).flatten

/-- The pairs of a staged block computed, t ascending and then h ascending (R199). -/
def State.asPairs (s : State) (core q : Nat) (x slot : BitVec 512) (j : Nat) : State :=
  let base := asStage x j
  (List.range (asT x)).foldl (fun s t => (List.range (asH x)).foldl (fun s h =>
    let c := asClass slot x t j
    if c = 2 then s
    else
      let k := fun u => base + u * asG x
      let v := fun u => base + (asHt x + u) * asG x
      match asOp x with
      | 2 => s.bwdQPair core q x slot t h j c k v
      | 3 =>
        let b := base + h * (3 * asHt x * asG x + 2)
        let tl := fun w u => b + (w * asHt x + u) * asG x
        s.bwdKvPair core q x slot t j c (tl 0) (tl 1) (tl 2) (b + 3 * asHt x * asG x)
      | _ => s.fwdPair core q x slot t h j c k v) s) s

/-- One streamed block: skipped, or fetched, charged and computed (R187, R195, R196, R531). -/
def State.asBlock (s : State) (core q : Nat) (x slot : BitVec 512) (j : Nat) : State × BlockEnd :=
  let live := (List.range (asT x)).filter fun t => asClass slot x t j ≠ 2
  let skipped := (asT x - live.length) * asH x
  if live.isEmpty then
    ((s.bump (coreOff core 0x6020) 1).bump (coreOff core 0x6018) skipped, .done)
  else
    let b := s.meetTile core (asBlockReads slot x j)
    if b.2 ≠ .ok then (b.1, .fault b.2)
    else
      let r := b.1.stageBlock core x slot j
      match r.2 with
      | .done =>
        let pairs := live.length * asH x
        let h := s.asTagPhase core x
        let s := r.1.charge core h (r.1.energy (pairs * asPairEnergy x) h)
        let s := (s.asPairs core q x slot j).seqCounters core
        ((s.bump (coreOff core 0x6010) pairs).bump (coreOff core 0x6018) skipped, .done)
      | e => (r.1, e)

/-- The end of a walk: FIN, and the item complete. -/
def State.asFinish (s : State) (core q : Nat) (x : BitVec 512) : State × Option (Status × Bool) :=
  let s := s.busyFor (coreOff core 0x6028)
  if asFinal x then
    let b := s.meetTile core (asFinReads x)
    if b.2 ≠ .ok then ((b.1.setAsNext core (asEnd x)).asDone core, some (b.2, false))
    else ((b.1.asFin core q x).asDone core, some (.ok, true))
  else (s.asDone core, some (.ok, true))

/-- Streamed blocks from where the walk stands, at most `fuel`. -/
def State.asGo : Nat → State → Nat → Nat → BitVec 512 → State × Option (Status × Bool)
  | 0, s, core, q, x => if asEnd x ≤ (s.asWalk core).next then s.asFinish core q x else (s, none)
  | fuel + 1, s, core, q, x =>
    let w := s.asWalk core
    if asEnd x ≤ w.next then s.asFinish core q x
    else
      let skip := (List.range (asT x)).all fun t => decide (asClass w.slot x t w.next = 2)
      let r := s.asBlock core q x w.slot w.next
      match r.2 with
      | .wait => (r.1, none)
      | .fault st => (((r.1.setAsNext core w.next).asDone core), some (st, false))
      | .done =>
        let s := r.1.setWalk core { r.1.asWalk core with next := w.next + 1 }
        if (s.core core).yieldPending && !skip && decide (w.next + 1 < asEnd x) then
          (((s.bumpSeen (coreOff core 0x6048) (coreOff core 0x6000) 3).setAsNext core (w.next + 1)).asDone core, some (.ok, false))
        else State.asGo fuel s core q x

/-- An item that begins: its slot's entry is read (R186). -/
def State.asStart (s : State) (core q : Nat) (x : BitVec 512) : State :=
  match (s.core core).walk with
  | some _ => s
  | none =>
    let ix := match (s.queue q).held with
      | some h => h.index
      | none => 0
    let s := s.setWalk core { queue := q, index := ix, item := x, next := asStrFirst x, slot := s.slot (asSlot x) }
    if decide (asOp x ≤ 3) && !asCont x then s.asInit core q x else s

/-! ### APPEND, PREFETCH, RELEASE (R219 to R225) -/

/-- A page asked for by an APPEND: false where it cannot be had (R219 to R221). -/
def State.appendAsk (s : State) (core pool : Nat) (g : KvPage) : State × Bool :=
  let st := s.kvPageState g
  if st = 1 ∨ st = 3 ∨ s.kvComing g = true then (s, true)
  else
    let r := s.kvAsk pool g (if st = 2 then s.kvSpillOf pool g else none) none
    if r.2 then
      let w := r.1.asWalk core
      (r.1.setWalk core { w with pages := if st = 0 then g :: w.pages else w.pages }, true)
    else (r.1, false)

/-- The rows of an APPEND written to its pages (R214, R219). -/
def State.appendRows (s : State) (core pool : Nat) (slot x : BitVec 512) : State × Status :=
  let P := s.pool pool
  let e := 64 * kvElem (plFmt P)
  ((List.range (2 * asHt x)).map fun u => (List.range (asStrLast x)).map fun r => (u, r)).flatten.foldl
    (fun acc c =>
      let p := 64 * asStrFirst x + c.2
      let g := kvNamed slot (asSlot x) (asLayer x) (asKvh x) (p / 2 ^ plPageLog2 P)
      let bytes := acc.1.tile core (2048 * (asStgGran x + c.1 * asG x) + e * c.2) e
      let r := acc.1.writeNear (acc.1.kvPageAddr g + kvRow P c.1 p) bytes
      (r.1, acc.2.orElse r.2))
    (s, .ok)

/-- The images of the frames that hold the pages of a list. -/
def State.kvImages (s : State) (pool : Nat) (l : List KvPage) : State :=
  l.foldl (fun t g => match t.kvFrameOf pool g with
    | some n => t.kvImage pool n
    | none => t) s

/-- The bytes of tile memory that an APPEND reads: the valid rows of its tiles. -/
def appendReads (x : BitVec 512) : List (Nat × Nat) :=
  ((List.range (2 * asHt x)).map fun u => asTileExt x (asStgGran x + u * asG x) (asStrLast x)).flatten

/-- The work of an APPEND, begun or continued. Where a page cannot be had, everything asked for in this attempt is as if it had not been
asked for (R219, R221), and pages given in an earlier attempt are freed. -/
def State.runAppend (s : State) (core : Nat) (x : BitVec 512) : State × Option (Status × Bool) :=
  let slot := (s.asWalk core).slot
  let pool := slPool slot
  let pages := s.appendPages slot x
  if pages.any fun g => decide (2 ^ slPagesLog2 slot ≤ g.page) then (s.asDone core, some (.pageFault, false))
  else
    let r := pages.foldl (fun acc g => if acc.2 then acc.1.appendAsk core pool g else acc) (s, true)
    if !r.2 then
      let w := s.asWalk core
      let s := (s.asDone core).kvGiveBack pool w.pages
      (((s.kvImages pool pages).poolExhausted pool).pauseSlot (asSlot x), some (.poolExhausted, false))
    else
      let s := r.1.kvImages pool pages
      if pages.any fun g => decide (s.kvPageState g ≠ 1) then (s, none)
      else
        let b := s.meetTile core (appendReads x)
        if b.2 ≠ .ok then ((b.1.asDone core).kvImages pool pages, some (b.2, false))
        else
          let s := pages.foldl (fun t g => t.kvTouch pool g) b.1
          let r := s.appendRows core pool slot x
          let s := (r.1.asDone core).kvImages pool pages
          if r.2 = .ok then
            ((s.countFetch core (2 * asHt x * asStrLast x * (64 * kvElem (asFmt x)))).slotAdd (asSlot x) 127 64 1, some (.ok, true))
          else (s, some (r.2, false))

/-- The pages that hold the blocks of a PREFETCH. -/
def State.prefetchPages (s : State) (x slot : BitVec 512) : List KvPage :=
  (blockPages (plPageLog2 (s.pool (slPool slot))) (asStrFirst x) (64 * asStrCount x)).map
    (kvNamed slot (asSlot x) (asLayer x) (asKvh x))

/-- The pin of a PREFETCH: until `use_by`, where that has not passed (R218). -/
def State.pinUntil (s : State) (x : BitVec 512) : Option Nat := if s.ft.toNat ≤ asUseBy x then some (asUseBy x) else none

/-- The work of a PREFETCH, begun or continued (R224): the far pages recalled and pinned, and those that are on their way pinned too. -/
def State.runPrefetch (s : State) (core : Nat) (x : BitVec 512) : State × Option (Status × Bool) :=
  let slot := (s.asWalk core).slot
  let pool := slPool slot
  let pages := s.prefetchPages x slot
  if pages.any fun g => decide (2 ^ slPagesLog2 slot ≤ g.page) then (s.asDone core, some (.pageFault, false))
  else
    let r := pages.foldl
      (fun acc g =>
        if acc.2 && decide (acc.1.kvPageState g = 2) && !acc.1.kvComing g then
          acc.1.kvAsk pool g (acc.1.kvSpillOf pool g) (acc.1.pinUntil x)
        else
          match acc.2, acc.1.pinUntil x with
          | true, some t => (acc.1.kvPinComing pool g t, true)
          | _, _ => acc)
      (s, true)
    if !r.2 then ((r.1.asDone core).poolExhausted pool, some (.poolExhausted, false))
    else if pages.any fun g => r.1.kvComing g || decide (r.1.kvPageState g = 3) then (r.1, none)
    else (r.1.asDone core, some (.ok, true))

/-- The work of a RELEASE (R225). A far page that a spill under way has promised a frame counts as pinned, though it has no frame yet
(DESIGN CHOICE: R218 pins frames). -/
def State.runRelease (s : State) (core : Nat) (x : BitVec 512) : State × Option (Status × Bool) :=
  let slot := (s.asWalk core).slot
  let pool := slPool slot
  let pages := (s.kvPages pool (asSlot x)).filter fun g => decide (64 * asStrFirst x ≤ g.page * 2 ^ plPageLog2 (s.pool pool))
  let s := s.asDone core
  let pinned := pages.any fun g =>
    s.kvComing g || decide (s.kvPageState g = 3) ||
    (match s.kvFrameOf pool g with
      | some n => (s.kvFrame pool n).any s.kvPinned
      | none => false)
  if pinned then (s, some (.stateConflict, false))
  else (pages.foldl (fun t g => t.kvFreePage pool g) s, some (.ok, true))

/-! ### The engine and its commands -/

/-- The work of an attention item, begun or continued by at most `n` streamed blocks. -/
def State.runAttn (n : Nat) (s : State) (q : Nat) (x : BitVec 512) : State × Option (Status × Bool) :=
  let core := (s.queue q).core
  let s := s.asStart core q x
  match asOp x with
  | 4 => s.runAppend core x
  | 5 => s.runPrefetch core x
  | 6 => s.runRelease core x
  | _ => State.asGo n s core q x

/-- The attention sequencer, working on at most `n` streamed blocks at a time. -/
def attnEngine (n : Nat) : EngineOps where
  kind := 3
  check := State.attnCheck
  est := State.attnEst
  free := fun s q _ => s.attnFree q
  underway := fun s core => (s.core core).walk.map (·.queue)
  run := State.runAttn n

/-- Is the item one that a command for an opcode is about? An item of another version or a reserved opcode belongs to every command
of the engine. -/
def attnMine (op : Nat) (x : BitVec 512) : Bool := decide (fld x 511 508 ≠ 1) || decide (7 ≤ asOp x) || decide (asOp x = op)

/-- An attention command. -/
def State.attn (s : State) (q op n : Nat) : State := (attnEngine n).serve s q (attnMine op)

/-- A write of 1 to `YIELD` (R202, R226). -/
def State.askYield (s : State) (core : Nat) : State :=
  if (s.core core).walk.isSome then s.setCore core { s.core core with yieldPending := true } else s

/-- The pool manager's copy on a frame that is under way. -/
def State.kvMoveOn (s : State) (pool frame : Nat) (spill : Bool) : Option KvMove :=
  s.tier.kvMoves.find? fun v =>
    match v with
    | .spill p f _ _ _ _ _ => spill && decide (p = pool ∧ f = frame)
    | .recall p f _ _ => !spill && decide (p = pool ∧ f = frame)

/-- May the pool manager's copy touch the far tier now: its spill frame's pages not in transit, their pool reachable? -/
def State.kvFarReady (s : State) (pool far : Nat) : Bool :=
  (s.kvFarPages pool far).all fun o => !s.inTransit o && s.kvFarUp o

/-- A spill that is over (R220). -/
def State.spillComplete (s : State) (pool frame : Nat) : State :=
  match s.kvMoveOn pool frame true with
  | some v =>
    (match v with
      | .spill _ _ _ far _ _ _ => if s.kvFarReady pool far then s.kvSpillEnd v else s
      | .recall _ _ _ _ => s)
  | none => s

/-- A recall that is over (R224). -/
def State.recallComplete (s : State) (pool frame : Nat) : State :=
  match s.kvMoveOn pool frame false with
  | some v =>
    (match v with
      | .recall _ _ _ far => if s.kvFarReady pool far then s.kvRecallEnd v else s
      | .spill _ _ _ _ _ _ _ => s)
  | none => s

/-- A PREFETCH pin whose `use_by` the local FT has passed (R218). -/
def State.useByPassed (s : State) (pool frame : Nat) : State :=
  match s.kvFrame pool frame with
  | some f =>
    (match f.useBy with
      | some t => if t < s.ft.toNat then s.setKvFrame pool frame (some { f with useBy := none }) else s
      | none => s)
  | none => s

/-- FWD (R196). -/
def execFwd (q n : Nat) (s : State) : Host.Outcome State Fault Refusal := ifUnit (isQueue q) "queue" (s.attn q 0 n)
/-- RECOMP (R196). -/
def execRecomp (q n : Nat) (s : State) : Host.Outcome State Fault Refusal := ifUnit (isQueue q) "queue" (s.attn q 1 n)
/-- BWD_Q (R198). -/
def execBwdQ (q n : Nat) (s : State) : Host.Outcome State Fault Refusal := ifUnit (isQueue q) "queue" (s.attn q 2 n)
/-- BWD_KV (R198). -/
def execBwdKv (q n : Nat) (s : State) : Host.Outcome State Fault Refusal := ifUnit (isQueue q) "queue" (s.attn q 3 n)
/-- APPEND (R219). -/
def execAppend (q : Nat) (s : State) : Host.Outcome State Fault Refusal := ifUnit (isQueue q) "queue" (s.attn q 4 0)
/-- PREFETCH (R224). -/
def execPrefetch (q : Nat) (s : State) : Host.Outcome State Fault Refusal := ifUnit (isQueue q) "queue" (s.attn q 5 0)
/-- RELEASE (R225). -/
def execRelease (q : Nat) (s : State) : Host.Outcome State Fault Refusal := ifUnit (isQueue q) "queue" (s.attn q 6 0)
/-- YIELD (R202). -/
def execYield (core : Nat) (s : State) : Host.Outcome State Fault Refusal := ifUnit (isCore core) "core" (s.askYield core)
/-- PAGE_SPILL_COMPLETE (R220). -/
def execPageSpillComplete (pool frame : Nat) (s : State) : Host.Outcome State Fault Refusal :=
  ifUnit (isPool pool) "pool" (s.spillComplete pool frame)
/-- PAGE_RECALL_COMPLETE (R224). -/
def execPageRecallComplete (pool frame : Nat) (s : State) : Host.Outcome State Fault Refusal :=
  ifUnit (isPool pool) "pool" (s.recallComplete pool frame)
/-- USE_BY_EXPIRY (R218). -/
def execUseByExpiry (pool frame : Nat) (s : State) : Host.Outcome State Fault Refusal :=
  ifUnit (isPool pool) "pool" (s.useByPassed pool frame)
/-- SEQ_SLOT_WRITE (R182): a write of a sequence-slot entry, its status counted (R630). -/
def execSeqSlotWrite (slot : Nat) (val : BitVec 512) (s : State) : Host.Outcome State Fault Refusal :=
  ifUnit (isSlot slot) "slot" (let r := s.slotWrite slot val; r.1.count r.2)
/-- POOL_WRITE (R213, R215): a write of a pool entry, its status counted (R630). -/
def execPoolWrite (pool : Nat) (val : BitVec 512) (s : State) : Host.Outcome State Fault Refusal :=
  ifUnit (isPool pool) "pool" (let r := s.poolWrite pool val; r.1.count r.2)

end Sys2Proof.Machine
end

