-- ==== Sys2Proof/Machine/Stacks.lean ====
section
/-! DEFINITION. Memory stacks: burst re-sends and failed channels (R250, R251), on-die and symbol corrections (R252 to R255),
the memory-side adders and their ordered rounds (R256 to R260). -/

namespace Sys2Proof.Machine

/-! ### Completion of a request to its requester -/

/-- A near-memory request that ends with a status (R250, R254, R260): a descriptor gathers it and ends with it, another chip gets
a completion, a control processor an access fault. A request named by its sender alone has no address to report with the exception; the
model reports 0. -/
def State.completeReq (s : State) (who : Requester) (st : Status) : State :=
  match who with
  | .none => s.count st
  | .cp core => if st = .ok then s else s.accessFault core st .loadAccessFault 0
  | .desc id =>
    match s.desc id with
    | some d => s.setDesc { d with status := d.status.orElse st, outstanding := d.outstanding - 1 }
    | none => s
  | .fabric chip tag =>
    (s.count st).answer { ptype := .add, dst := s.fab.chipNum, src := chip, tag := tag, lenM1 := 0, addr := 0, aux := 0, data := [] } st

/-! ### Re-sends (R250, R251) -/

/-- A channel marked failed (R251). -/
def State.failChannel (s : State) (ch : Nat) : State :=
  let st := stackOf ch
  let s := s.setChan ch { s.chan ch with failed := true }
  ((s.setFlag (msOff st 0x58) (ch % 32)).setFlag (msOff st 0) 4).evalFitness

/-- A burst of the block at `a` that failed its CRC (R250): re-sent up to three times; after the third failed re-send the request that the
burst belongs to, which is the block's next access, completes with CRC_RESEND_EXHAUSTED, and the channel retrains; the sixteenth
exhaustion within 1 s marks the channel failed (R251). A re-send lasts at most 40 control cycles (R247); the model takes 40. -/
def State.burstFail (s : State) (a resends : Nat) : State :=
  let ch := chanOf a
  let st := stackOf ch
  if resends < 3 then
    let s := s.setChan ch { s.chan ch with resendUntil := s.cycle.toNat + 40 }
    (s.bump (msOff st 0x08) 1).lifeAdd (0x89 + 4 * st) 1
  else
    let s := { s with mem.burstBad := a / 64 :: s.mem.burstBad.filter (· ≠ a / 64) }
    let s := (s.bump (msOff st 0x50) 1).lifeAdd (0x89 + 4 * st + 3) 1
    let now := s.ft.toNat
    let hist := now :: ((s.chan ch).exhausted.filter fun t => decide (now < t + 1000000000))
    let s := s.setChan ch { s.chan ch with exhausted := hist, retraining := true }
    if 16 ≤ hist.length then s.failChannel ch else s

/-- The end of a channel's retraining (R250, R251). -/
def State.retrainEnd (s : State) (ch : Nat) (ok : Bool) : State :=
  let s := s.setChan ch { s.chan ch with retraining := false }
  if ok then s else s.failChannel ch

/-- A scrub read of one block (R255): corrected blocks are written back; an uncorrectable one is counted and logged, and no
requester receives a status. -/
def State.scrub (s : State) (a : Nat) : State :=
  let r := s.readBlock a
  if r.2 = .ok ∨ r.2 = .thermalTrip then r.1 else r.1.count r.2

/-! ### Memory-side adders (R256 to R260) -/

/-- Bytes of an element of `ma_fmt`. -/
def maSize (f : Nat) : Nat :=
  match f with
  | 1 => 2
  | 3 => 8
  | _ => 4

/-- One memory-side addition (R256). -/
def maAdd (f old v : Nat) : Nat :=
  match f with
  | 0 => (f32add (BitVec.ofNat 32 old) (BitVec.ofNat 32 v)).toNat
  | 1 => (fBf16.encode .rne false ((fBf16.decode old).add (fBf16.decode v))).1
  | 2 => (old + v) % 2 ^ 32
  | _ => (old + v) % 2 ^ 64

/-- The 64 bytes of a block after an add request (R256): disabled elements keep their value. -/
def maBlock (f mask : Nat) (old data : List Byte) : List Byte :=
  let k := maSize f
  ((List.range (64 / k)).map fun i =>
    let o := (old.drop (k * i)).take k
    if bitAt mask i then leBytes k (maAdd f (leNat o) (leNat ((data.drop (k * i)).take k))) else o).flatten

/-- One request applied to its block as a whole (R257); an uncorrectable block stays as it is (R254). -/
def State.applyAdd (s : State) (r : AddReq) : State × Status :=
  let a := 64 * r.block
  let g := s.readBlock a
  match g.2 with
  | .ok => ((g.1.putNear a (maBlock r.fmt r.mask (g.1.near a 64) r.data)).bump (msOff (stackOf (chanOf a)) 0x38) 1, .ok)
  | st => (g.1, st)

/-- The round table of a channel after a request with `olast` has been applied or not (R258). -/
def Chan.advance (c : Chan) (block next : Nat) (olast : Bool) : Chan :=
  let others := c.rounds.filter fun r => r.1 ≠ block
  { c with rounds := if olast then others else others ++ [(block, next)] }

/-- The held request of a block whose turn it is. -/
def Chan.turn (c : Chan) (block : Nat) : Option AddReq :=
  match c.roundOf block with
  | some n => c.window.find? fun r => decide (r.block = block ∧ r.oseq = n)
  | none => none

/-- Held requests of a block applied in ascending `oseq` while their turn comes (R258); `fuel` is at least the window's length. -/
def State.drainRound : Nat → State → Nat → State
  | 0, s, _ => s
  | fuel + 1, s, block =>
    let ch := chanOf (64 * block)
    match (s.chan ch).turn block with
    | none => s
    | some r =>
      let c := { s.chan ch with window := (s.chan ch).window.erase r }
      let t := (s.setChan ch (c.advance block (r.oseq + 1) r.olast)).applyAdd r
      State.drainRound fuel (t.1.completeReq r.sender t.2) block

/-- What becomes of a request when it reaches its channel (R258). -/
inductive AddFate where
  | conflict | apply | hold | refuse
  deriving DecidableEq, Repr

/-- The table of R258, and R260 for arrival-order adds. -/
def Chan.fate (c : Chan) (r : AddReq) : AddFate :=
  match r.ordered, c.roundOf r.block with
  | false, some _ => .conflict
  | false, none => .apply
  | true, some n =>
    if r.oseq < n ∨ c.window.any (fun h => decide (h.block = r.block ∧ h.oseq = r.oseq)) then .conflict
    else if r.oseq = n then .apply
    else if c.window.length < 64 then .hold else .refuse
  | true, none =>
    if c.window.any (fun h => decide (h.block = r.block ∧ h.oseq = r.oseq)) then .conflict
    else if r.oseq = 0 then (if r.olast ∨ c.rounds.length < 64 then .apply else .refuse)
    else if c.window.length < 64 then .hold else .refuse

/-- An add request that waits or is applied at a channel that answers (R257 to R260); a refused one returns to its sender, which
re-sends it no sooner than 1 µs later. -/
def State.addFate (s : State) (r : AddReq) : State :=
  let ch := chanOf (64 * r.block)
  match (s.chan ch).fate r with
  | .conflict => s.completeReq r.sender .stateConflict
  | .hold => s.setChan ch { s.chan ch with window := (s.chan ch).window ++ [r] }
  | .refuse =>
    let s := s.bump (msOff (stackOf ch) 0x40) 1
    { s with mem.addWaits := s.mem.addWaits ++ [{ req := r, notBefore := s.ft.toNat + 1000 }] }
  | .apply =>
    let s := if r.ordered then s.setChan ch ((s.chan ch).advance r.block (r.oseq + 1) r.olast) else s
    let t := s.applyAdd r
    let s := t.1.completeReq r.sender t.2
    s.drainRound ((s.chan ch).window.length) r.block

/-- An add request that reaches its channel: on a tripped stack it completes with THERMAL_TRIP and changes nothing (R261), and on a failed
channel with CRC_RESEND_EXHAUSTED, at its turn of a round where that is its fate and at once otherwise (R251, R258). -/
def State.addArrive (s : State) (r : AddReq) : State :=
  let ch := chanOf (64 * r.block)
  if s.chanTripped ch then s.completeReq r.sender .thermalTrip
  else if (s.chan ch).failed ∧ (s.chan ch).fate r ≠ .apply then
    let g := s.blockGate (64 * r.block)
    g.1.completeReq r.sender g.2
  else s.addFate r

/-- The list without its `i`-th entry. -/
def dropAt {α : Type} (l : List α) (i : Nat) : List α := l.eraseIdx i

/-- A refused request re-sent, once 1 µs has passed (R259). -/
def State.addResend (s : State) (i : Nat) : State :=
  match s.mem.addWaits[i]? with
  | some w =>
    if w.notBefore ≤ s.ft.toNat then { s with mem.addWaits := dropAt s.mem.addWaits i }.addArrive w.req else s
  | none => s

/-- A write-back that met an open round re-sent, once 1 µs has passed (R260). -/
def State.wbResend (s : State) (core i : Nat) : State :=
  match s.mem.wbWaits[i]? with
  | some w =>
    if decide (w.core = core) && decide (w.notBefore ≤ s.ft.toNat) then
      let r := s.writeBlock (64 * w.line) w.bytes
      match r.2 with
      | .stateConflict =>
        { s with mem.wbWaits := s.mem.wbWaits.set i { w with notBefore := s.ft.toNat + 1000 } }
      | st => { r.1.count st with mem.wbWaits := dropAt r.1.mem.wbWaits i }
    else s
  | none => s

/-! ### Commands -/

/-- BURST_CRC_FAIL (R249 to R251): a burst of the block at `addr`, as it is received after it has been re-sent `resends` times. One whose
CRC is that of its bytes and its address has not failed. -/
def execBurstCrcFail (addr resends : Nat) (burst : Burst) (s : State) : Host.Outcome State Fault Refusal :=
  ifUnit (isNear addr && decide (burst.data.length = 64 ∧ burst.crc < 65536 ∧ resends ≤ 3)) "burst"
    (if burstCrc addr burst.data = burst.crc then s else s.burstFail addr resends)

/-- CHANNEL_RETRAIN_END (R250, R251). -/
def execChannelRetrainEnd (ch : Nat) (ok : Bool) (s : State) : Host.Outcome State Fault Refusal :=
  ifUnit (isChannel ch) "channel" (if (s.chan ch).retraining then s.retrainEnd ch ok else s)

/-- ODEC_REPORT (R252): the corrections that a stack's dies have made within their arrays. -/
def execOdecReport (stack corrections : Nat) (s : State) : Host.Outcome State Fault Refusal :=
  ifUnit (isStack stack) "stack" (s.bump (msOff stack 0x20) corrections)

/-- SCRUB_READ (R255): `ups` are the upsets of the memories since the last command that reported any. -/
def execScrubRead (addr : Nat) (ups : List Upset) (s : State) : Host.Outcome State Fault Refusal :=
  ifUnit (isNear addr && ups.all upsetOk) "near-memory address or upset" ((ups.foldl State.upset s).scrub (addr / 64 * 64))

/-- Is an add request well formed: its block in near memory, its format and `oseq` codes of R256, its 64 data bytes there? -/
def addReqOk (r : AddReq) : Bool :=
  isNear (64 * r.block) && decide (r.fmt < 4 ∧ r.oseq < 64 ∧ r.data.length = 64)

/-- ADD_REQUEST (R256 to R260). -/
def execAddRequest (r : AddReq) (s : State) : Host.Outcome State Fault Refusal :=
  ifUnit (addReqOk r) "add request" (s.addArrive r)

/-- ADD_RESEND (R259): the `i`-th request that was refused for retry. -/
def execAddResend (i : Nat) (s : State) : Host.Outcome State Fault Refusal := .next (s.addResend i)

/-- WRITEBACK_RESEND (R260): the `i`-th waiting write-back, of a core's cache. -/
def execWritebackResend (core i : Nat) (s : State) : Host.Outcome State Fault Refusal :=
  ifUnit (isCore core) "core" (s.wbResend core i)

end Sys2Proof.Machine
end

