-- ==== Sys2Proof/Machine/QueueCmds.lean ====
section
/-! DEFINITION. Queue commands (R311 to R321, R344, R345, R352, R638): enabling with its checks and admission, the descriptor cache,
doorbells, and stall counts. -/

namespace Sys2Proof.Machine

/-! ### The queue-descriptor cache (R321) -/

/-- Is an item of a queue between take and completion? -/
def State.itemTaken (s : State) (q : Nat) : Bool := (s.queue q).held.isSome || s.qs.descs.any fun d => decide (d.queue = q)

/-- Is a queue's cache entry pinned? -/
def State.queuePinned (s : State) (q : Nat) : Bool :=
  let Q := s.queue q
  decide (Q.kind = 0 ∧ Q.cls = 1) || s.itemTaken q || decide (Q.tail ≠ Q.head)

/-- The cached queues of a compute die. -/
def State.cachedOn (s : State) (die : Nat) : List (Nat × Queue) :=
  s.qs.queues.filter fun e => e.2.cached && decide (s.dieOf e.2.core = die)

/-- An entry written back to the queue table. -/
def State.storeEntry (s : State) (q : Nat) (x : BitVec 512) : State := (s.writeNear (s.queueAddr q) (leBytes 64 x.toNat)).1

/-- A use of a queue's cache entry recorded. -/
def State.useEntry (s : State) (q : Nat) : State :=
  let s := { s with qs.useClock := s.qs.useClock + 1 }
  s.setQueue q { s.queue q with cached := true, lastUse := s.qs.useClock }

/-- A cache entry for an enabled queue: its own, a free one, or that of the unpinned queue used least recently; false where every
entry of the die is pinned. -/
def State.cacheEntry (s : State) (q : Nat) : State × Bool :=
  let Q := s.queue q
  let l := s.cachedOn (s.dieOf Q.core)
  if Q.cached || decide (l.length < 4096) then (s.useEntry q, true)
  else
    match (l.filter fun e => !s.queuePinned e.1).foldl (fun (b : Option (Nat × Queue)) e => match b with
      | none => some e
      | some x => if e.2.lastUse < x.2.lastUse then some e else some x) none with
    | none => (s, false)
    | some v => (((s.storeEntry v.1 v.2.entry).setQueue v.1 { v.2 with cached := false }).useEntry q, true)

/-! ### Admission of queues (R344, R345) -/

/-- The admitted GUARANTEED queues. -/
def State.guarQueues (s : State) : List (Nat × Queue) := s.qs.queues.filter fun e => e.2.admitted

/-- The sum of the slots of queues. -/
def slotSum (l : List (Nat × Queue)) : Nat := (l.map fun e => e.2.rsvSlots).sum

/-- The present limit of a port (R344): nothing on the halves of port H while they carry the PCIe bridge. -/
def State.portLimit (s : State) (p : Nat) : Nat :=
  let P := s.port p
  if P.link ≠ .active ∨ (12 ≤ p ∧ chipMember s.fab.chipNum = 0) then 0 else P.width * s.dictNat 0x4400 3 / 8

/-- The admitted slots of a port. -/
def State.portSlots (s : State) (p : Nat) : Nat := slotSum (s.guarQueues.filter fun e => decide (e.2.rsvPort = p))

/-- The buffers that neighbours have registered here in a part of the address space. -/
def State.buffersIn (s : State) (p : Region → Bool) : List BufReg := s.qs.buffers.filter fun b => b.chip.isSome && p (regionOf b.base)

/-- Is a region near memory, or a core's tile-memory window? -/
def Region.isNear : Region → Bool
  | .near _ => true
  | _ => false
def Region.isTileOf (core : Nat) : Region → Bool
  | .tile c _ => decide (c = core)
  | _ => false

/-- The slots counted against `GUAR_MEM_SLOTS`: those of the queues here, and of the buffers registered in near memory (R344). -/
def State.memSlots (s : State) : Nat := slotSum s.guarQueues + ((s.buffersIn Region.isNear).map (·.slots)).sum

/-- The slots counted against the window of a core: its queues, and the buffers registered in it (R344). -/
def State.windowSlots (s : State) (core : Nat) : Nat :=
  slotSum (s.guarQueues.filter fun e => decide (e.2.core = core)) + ((s.buffersIn (Region.isTileOf core)).map (·.slots)).sum

/-- Does a buffer lie whole in near memory, or in one core's tile memory, of the chip that holds it (R345)? -/
def bufferPlace (base size : Nat) : Bool :=
  match regionOf base with
  | .near p => decide (p + size ≤ Config.nearBytes)
  | .tile _ o => decide (o + size ≤ 0xE1C000)
  | _ => false

/-- The limits of R344, with `Q` counted. -/
def State.admits (s : State) (Q : Queue) : Bool :=
  let l := s.guarQueues
  let die := s.dieOf Q.core
  decide (s.portSlots Q.rsvPort + Q.rsvSlots ≤ s.portLimit Q.rsvPort) &&
  decide (s.memSlots + Q.rsvSlots ≤ s.dictNat 0x4400 4) && decide (s.windowSlots Q.core + Q.rsvSlots ≤ 36) &&
  decide ((l.filter fun e => decide (s.dieOf e.2.core = die)).length + 1 ≤ 1024)

/-! ### ENABLE (R315, R638) -/

/-- Reserved codes, fields and combinations of a queue entry (R312, R314). -/
def Queue.reservedOk (Q : Queue) : Bool :=
  let x := Q.cfg
  zeros x [(404, 384), (277, 256)] && decide (Q.kind ≤ 4 ∧ Q.cls ≠ 3 ∧ Q.dlPolicy ≠ 3 ∧ Q.ringLog2 ≤ 12 ∧ Q.core < 144 ∧ Q.rsvPort < 14) &&
  decide (Q.ringBase % (64 * Q.ringItems) = 0) &&
  (decide (Q.kind = 0) || zeros x [(502, 499), (486, 486), (383, 320)]) &&
  (if Q.cls = 1 then
    decide (1 ≤ Q.rsvSlots ∧ Q.rsvSlots ≤ 64 ∧ 12 ≤ fld x 283 278 ∧ fld x 283 278 ≤ 40 ∧ Q.bufBase % Q.bufSize = 0)
  else zeros x [(415, 405), (319, 278)]) &&
  (Q.seqEn || decide (Q.seqSlot = 0))

/-- The checks of an ENABLE in the order of R638; `nb` is what the neighbour answers to the registration of a buffer. -/
def State.enableCheck (s : State) (q : Nat) (Q : Queue) (nb : Bool) : Status :=
  if Q.version ≠ 1 then .versionUnsupported
  else if Q.reservedOk = false then .reservedNonzero
  else if (s.queue q).state ≠ .disabled ∨ s.corePresent Q.core = false ∨ (s.dev ≠ .ready ∧ s.dev ≠ .running) then .stateConflict
  else if Config.nearBytes < Q.ringBase + 64 * Q.ringItems then .pageFault
  else if s.wear.unfit && !s.qs.queues.any (fun e => e.2.enabled && decide (e.2.ctx = Q.ctx)) then .unfit
  else if Q.kind = 0 ∧ Q.cls = 1 ∧ (s.admits Q && bufferPlace Q.bufBase Q.bufSize && nb) = false then .admissionRefused
  else .ok

/-- ENABLE. -/
def State.enableQueue (s : State) (q : Nat) (nb : Bool) : State × Status :=
  let r := s.readNear (s.queueAddr q) 64
  if r.2.1 ≠ .ok then (r.1, r.2.1)
  else
    let s := r.1
    let cfg : BitVec 512 := BitVec.ofNat 512 (leNat r.2.2)
    let Q : Queue := { cfg := cfg, state := .active, epoch := BitVec.ofNat 64 (fld cfg 383 320), enableFt := bits s.ft.toNat 47 0 }
    match s.enableCheck q Q nb with
    | .ok =>
      let guar := decide (Q.kind = 0) && decide (Q.cls = 1)
      let s := s.setQueue q { Q with admitted := guar }
      let s := if guar then
          { s with qs.buffers := s.qs.buffers ++ [{ queue := q, base := Q.bufBase, size := Q.bufSize, slots := Q.rsvSlots }] }
        else s
      ((s.cacheEntry q).1, .ok)
    | st => (s, st)

/-! ### The other commands (R315) -/

/-- The buffer that a queue of ours registered withdrawn. -/
def State.withdraw (s : State) (q : Nat) : State := { s with qs.buffers := s.qs.buffers.filter fun b => !(b.chip.isNone && decide (b.queue = q)) }

/-- DISABLE. -/
def State.disableQueue (s : State) (q : Nat) : State × Status :=
  let Q := s.queue q
  if Q.state = .disabled ∨ s.itemTaken q = true then (s, .stateConflict)
  else
    let s := s.storeEntry q { Q with state := .disabled, why := 0 }.entry
    ((s.setQueue q {}).withdraw q, .ok)

/-- PAUSE. -/
def State.pauseQueue (s : State) (q : Nat) : State × Status :=
  let Q := { s.queue q with pausedAt := some s.cycle }
  match Q.state with
  | .disabled => (s, .stateConflict)
  | .active => (s.setQueue q { Q with state := .paused, why := 1 }, .ok)
  | _ => (s.setQueue q Q, .ok)

/-- Is the sequence slot of a queue PAUSED (R221)? -/
def State.slotPaused (s : State) (Q : Queue) : Bool := Q.seqEn && decide (fld (Store.get 0 s.tier.slots Q.seqSlot) 507 506 = 2)

/-- RESUME, given by a core's registers or by a dictionary request. -/
def State.resumeQueue (s : State) (core : Option Nat) (q : Nat) : State × Status :=
  let Q := s.queue q
  if Q.state = .disabled ∨ s.slotPaused Q = true ∨ Q.why = 5 then (s, .stateConflict)
  else (s.setQueue q { Q with state := .active, why := 0, resumedAt := some (s.cycle, core) }, .ok)

/-- SET_EPOCH. -/
def State.setQueueEpoch (s : State) (q : Nat) (v : W64) : State × Status :=
  let Q := s.queue q
  if Q.state = .disabled ∨ Q.kind ≠ 0 then (s, .stateConflict) else (s.setQueue q { Q with epoch := v }, .ok)

/-- PAUSE_CTX. -/
def State.pauseCtx (s : State) (ctx : Nat) : State :=
  { s with
    qs.ctxPaused := ctx :: s.qs.ctxPaused.filter (· ≠ ctx)
    qs.queues := s.qs.queues.map fun e =>
      if e.2.ctx = ctx ∧ e.2.state = .active then (e.1, { e.2 with state := .paused, why := 5 }) else e }

/-- RESUME_CTX. -/
def State.resumeCtx (s : State) (ctx : Nat) : State :=
  { s with
    qs.ctxPaused := s.qs.ctxPaused.filter (· ≠ ctx)
    qs.queues := s.qs.queues.map fun e =>
      if e.2.ctx = ctx ∧ e.2.state = .paused ∧ e.2.why = 5 then (e.1, { e.2 with state := .active, why := 0 }) else e }

/-- A queue that the device resumes (R300): in a paused context it becomes PAUSED with `pause_why` 5 instead. A PAUSE of
the same control cycle is applied after it (R317). -/
def State.deviceResume (s : State) (q : Nat) : State :=
  let Q := s.queue q
  if Q.state ≠ .paused ∨ Q.pausedAt = some s.cycle then s
  else if s.qs.ctxPaused.contains Q.ctx then s.setQueue q { Q with why := 5 }
  else s.setQueue q { Q with state := .active, why := 0 }

/-! ### Stall counts (R352) -/

/-- One gathered count added into the stall table by a memory-side INT64 add. -/
def State.addStall (s : State) (key n : Nat) : State :=
  let a := s.dictNat 0x4400 2 + 64 * (key / 8)
  s.addArrive {
    block := a / 64, fmt := 3, mask := 2 ^ (key % 8), ordered := false, oseq := 0, olast := false, sender := .none
    data := ((List.range 8).map fun i => leBytes 8 (if i = key % 8 then n else 0)).flatten }

/-- The counts gathered for the queues that `p` names added into the table. -/
def State.flushStalls (s : State) (p : Nat → Bool) : State :=
  let mine := s.qs.stalls.filter fun e => p (e.1 / 8)
  let s := { s with qs.stalls := s.qs.stalls.filter fun e => !p (e.1 / 8) }
  mine.foldl (fun t e => t.addStall e.1 e.2) s

/-- A stall count raised by one control cycle (R350, R352). -/
def State.stall (s : State) (q cause : Nat) : State :=
  { s with qs.stalls := Store.set 0 s.qs.stalls (q * 8 + cause) (Store.get 0 s.qs.stalls (q * 8 + cause) + 1) }

/-! ### Registers of the commands (R357) -/

/-- `Q_ARG` of a core. -/
def State.qArg (s : State) (core : Nat) : W64 := s.reg (coreOff core 0x1008)

/-- A queue command with its argument, and the neighbour's answer to an ENABLE (R315). -/
def State.queueOp (s : State) (core : Option Nat) (op q : Nat) (arg : W64) (nb : Bool) : State × Status :=
  let ctx := bits arg.toNat 15 0
  match op with
  | 0 => s.enableQueue q nb
  | 1 => s.disableQueue q
  | 2 => s.pauseQueue q
  | 3 => s.resumeQueue core q
  | 4 => s.setQueueEpoch q arg
  | 5 => if q = 0 then (s.pauseCtx ctx, .ok) else (s, .reservedNonzero)
  | 6 => if q = 0 then (s.resumeCtx ctx, .ok) else (s, .reservedNonzero)
  | 7 => if q = 0 then (s.flushStalls fun _ => true, .ok) else (s, .reservedNonzero)
  | _ => (s, .reservedNonzero)

/-- The command that a write of `Q_CMD` gives. -/
def State.queueCommand (s : State) (core op q : Nat) (nb : Bool) : State :=
  let r := s.queueOp (some core) op q (s.qArg core) nb
  r.1.queueStatus r.2 core

/-! ### Doorbells (R319, R321) -/

/-- Is a doorbell one that R319 takes? -/
def State.doorbellOk (s : State) (core : Nat) (v : W64) : Bool :=
  let Q := s.queue (bits v.toNat 51 32)
  let tail : W32 := BitVec.ofNat 32 v.toNat
  decide (bits v.toNat 63 52 = 0) && Q.enabled && decide (Q.core = core) && decide ((tail - Q.done).toNat ≤ Q.ringItems) &&
  decide ((tail - Q.tail).toNat < 2 ^ 31) && decide (s.dev ≠ .draining)

/-- A doorbell; its tail is held where every cache entry of the die is pinned. -/
def State.doorbell (s : State) (core : Nat) (v : W64) : State :=
  let q := bits v.toNat 51 32
  let tail : W32 := BitVec.ofNat 32 v.toNat
  if s.doorbellOk core v then
    let r := s.cacheEntry q
    if r.2 then r.1.setQueue q { r.1.queue q with tail := tail, heldTail := none }
    else s.setQueue q { s.queue q with heldTail := some tail }
  else
    let s := if bits v.toNat 63 52 = 0 then s else s.refusedWrite
    s.bumpSeen (coreOff core 0x1038) (coreOff core 0x1004) 16

/-- A held doorbell applied where an entry is free now. -/
def State.applyHeld (s : State) (q : Nat) : State :=
  match (s.queue q).heldTail with
  | none => s
  | some t =>
    let r := s.cacheEntry q
    if r.2 then r.1.setQueue q { r.1.queue q with tail := t, heldTail := none } else s

/-! ### Commands -/

/-- ENABLE (R315, R638, R344). -/
def execEnable (core q : Nat) (neighbourAdmits : Bool) (s : State) : Host.Outcome State Fault Refusal :=
  ifUnit (isCore core && isQueue q) "core or queue" (s.byCp core (s.queueCommand core 0 q neighbourAdmits))
/-- DISABLE (R315). -/
def execDisable (core q : Nat) (s : State) : Host.Outcome State Fault Refusal :=
  ifUnit (isCore core && isQueue q) "core or queue" (s.byCp core (s.queueCommand core 1 q true))
/-- PAUSE (R315). -/
def execPause (core q : Nat) (s : State) : Host.Outcome State Fault Refusal :=
  ifUnit (isCore core && isQueue q) "core or queue" (s.byCp core (s.queueCommand core 2 q true))
/-- RESUME (R315). -/
def execResume (core q : Nat) (s : State) : Host.Outcome State Fault Refusal :=
  ifUnit (isCore core && isQueue q) "core or queue" (s.byCp core (s.queueCommand core 3 q true))
/-- SET_EPOCH (R315): to `Q_ARG`. -/
def execSetEpoch (core q : Nat) (s : State) : Host.Outcome State Fault Refusal :=
  ifUnit (isCore core && isQueue q) "core or queue" (s.byCp core (s.queueCommand core 4 q true))
/-- PAUSE_CTX (R315): the context in `Q_ARG`. -/
def execPauseCtx (core : Nat) (s : State) : Host.Outcome State Fault Refusal :=
  ifUnit (isCore core) "core" (s.byCp core (s.queueCommand core 5 0 true))
/-- RESUME_CTX (R315): the context in `Q_ARG`. -/
def execResumeCtx (core : Nat) (s : State) : Host.Outcome State Fault Refusal :=
  ifUnit (isCore core) "core" (s.byCp core (s.queueCommand core 6 0 true))
/-- FLUSH_STATS (R315, R352). -/
def execFlushStats (core : Nat) (s : State) : Host.Outcome State Fault Refusal :=
  ifUnit (isCore core) "core" (s.byCp core (s.queueCommand core 7 0 true))
/-- Q_DOORBELL (R319): a write of the register in a core's control block. -/
def execQDoorbell (core : Nat) (val : W64) (s : State) : Host.Outcome State Fault Refusal :=
  ifUnit (isCore core) "core" (s.byCp core (s.doorbell core val))
/-- DOORBELL_HELD_APPLY (R321). -/
def execDoorbellHeldApply (q : Nat) (s : State) : Host.Outcome State Fault Refusal := ifUnit (isQueue q) "queue" (s.applyHeld q)
/-- STALL_FLUSH (R352): the counts of the queues of one compute die. -/
def execStallFlush (die : Nat) (s : State) : Host.Outcome State Fault Refusal :=
  ifUnit (isDie die) "die" (s.flushStalls fun q => decide (s.dieOf (s.queue q).core = die))

end Sys2Proof.Machine
end

