-- ==== Sys2Proof/Machine/Sync.lean ====
section
/-! DEFINITION. Commands on semaphores and barriers (R365 to R391): operation words, the wait registers, fabric messages, operations by
hand, and POISON_CTX. -/

namespace Sys2Proof.Machine

/-! ### Operation words stored by a control processor (R365) -/

/-- The `STATUS` field of a core's `SW_LAST`. -/
def State.setSwLast (s : State) (core : Nat) (st : Status) : State :=
  s.setReg (coreOff core 0x3018) (BitVec.ofNat 64 (setBits (s.reg (coreOff core 0x3018)).toNat 15 0 st.code))

/-- A store of an operation word: its status in `SW_LAST`, and a failure counted and recorded. -/
def State.wordDone (r : State × Status) (core kind index : Nat) : State :=
  let s := r.1.setSwLast core r.2
  if r.2 = .ok then s else (s.syncFault r.2 kind index).bumpSeen (coreOff core 0x3020) (coreOff core 0x3018) 16

/-- A semaphore operation word (R367). -/
def State.semWord (s : State) (i : Nat) (w : W64) : State × Status :=
  let x := w.toNat
  let arg := bits x 59 44
  let n := bits x 31 0
  if bits x 43 32 ≠ 0 then (s, .reservedNonzero)
  else
    match bits x 63 60 with
    | 1 => if arg ≠ 0 ∨ n = 0 then (s, .reservedNonzero) else s.semAdd i n
    | 2 => if arg ≠ 0 ∨ n = 0 then (s, .reservedNonzero) else s.semSub i n
    | 3 => s.semInitOp i n arg
    | 4 => if arg ≠ 0 ∨ n ≠ 0 then (s, .reservedNonzero) else s.semFreeOp i
    | _ => (s, .reservedNonzero)

/-- A barrier operation word (R375). -/
def State.barWord (s : State) (b : Nat) (w : W64) : State × Status :=
  let x := w.toNat
  let p := bits x 59 52
  if bits x 51 0 ≠ 0 then (s, .reservedNonzero)
  else
    match bits x 63 60 with
    | 1 => let r := s.barArrive b p; (r.1, r.2.1)
    | 2 => if p ≠ 0 then (s, .reservedNonzero) else s.barInitOp b
    | 3 => if p ≠ 0 then (s, .reservedNonzero) else s.barFreeOp b
    | _ => (s, .reservedNonzero)

/-! ### The wait registers (R384, R385) -/

/-- The request of a core begun; one already under way refuses it. -/
def State.swBegin (s : State) (core : Nat) (r : SwReq) (go : State → State) : State :=
  if (s.core core).sw.isSome then
    ((s.setSwLast core .stateConflict).count .stateConflict).bumpSeen (coreOff core 0x3020) (coreOff core 0x3018) 16
  else go ((s.setCore core { s.core core with sw := some { r with start := s.cycle.toNat } }).setSwLast core .ok)

/-- A request that ends at once; a failure is recorded. -/
def State.swEnd (s : State) (core kind index : Nat) (st : Status) (v : W32) : State :=
  let s := s.endSw core st v
  if st = .ok then s else s.syncRec st kind index

/-- A semaphore wait. -/
def State.swSem (s : State) (core i : Nat) (n : W32) (consume : Bool) : State :=
  s.swBegin core { kind := 0, index := i, n := n, consume := consume } fun s =>
    if n = 0 then s.swEnd core 0 i .reservedNonzero 0
    else
      let r := s.registerWait (.cp core) [i]
      if r.2 = .ok then r.1 else r.1.swEnd core 0 i r.2 0

/-- A barrier ARRIVE. -/
def State.swArr (s : State) (core b p : Nat) : State :=
  s.swBegin core { kind := 1, index := b, n := 0, consume := false } fun s =>
    let r := s.barArrive b p
    r.1.swEnd core 1 b r.2.1 r.2.2

/-- A wait for a round by a request that has begun. -/
def State.swRound (s : State) (core b : Nat) (r : W32) : State :=
  if (s.bar b).state = .live ∧ (s.bar b).roundOver r = true then s.swEnd core 1 b .ok r
  else
    let t := s.barWait core b r
    if t.2 = .ok then t.1 else t.1.swEnd core 1 b t.2 0

/-- A barrier WAIT. -/
def State.swBarWait (s : State) (core b : Nat) (r : W32) : State :=
  s.swBegin core { kind := 2, index := b, n := r, consume := false } fun s => s.swRound core b r

/-- A barrier ARRIVE_WAIT. -/
def State.swArrWait (s : State) (core b p : Nat) : State :=
  s.swBegin core { kind := 3, index := b, n := 0, consume := false } fun s =>
    let r := s.barArrive b p
    if r.2.1 = .ok then
      let s := r.1
      let s := s.setCore core { s.core core with sw := ((s.core core).sw).map fun q => { q with n := r.2.2 } }
      s.swRound core b r.2.2
    else r.1.swEnd core 1 b r.2.1 0

/-- A write of `SW_CMD`. -/
def State.swCommand (s : State) (core : Nat) (w : W64) : State :=
  let x := w.toNat
  let i := bits x 47 32
  let n := bits x 31 0
  let kind := bits x 63 62
  if bits x 60 48 ≠ 0 ∨ (kind ≠ 0 ∧ (bitAt x 61 = true ∨ Config.bars ≤ i)) ∨ ((kind = 1 ∨ kind = 3) ∧ 256 ≤ n) then
    s.swBegin core { kind := kind, index := i, n := 0, consume := false } fun s => s.swEnd core (min kind 1) i .reservedNonzero 0
  else
    match kind with
    | 0 => s.swSem core i (BitVec.ofNat 32 n) (bitAt x 61)
    | 1 => s.swArr core i n
    | 2 => s.swBarWait core i (BitVec.ofNat 32 n)
    | _ => s.swArrWait core i n

/-- The request of a core withdrawn once `SW_TIMEOUT` control cycles have passed (R385). -/
def State.swExpire (s : State) (core : Nat) : State :=
  let t := bits (s.reg (coreOff core 0x3008)).toNat 31 0
  match (s.core core).sw with
  | none => s
  | some r =>
    if t = 0 ∨ s.cycle.toNat < r.start + t then s
    else
      let s := s.dropWaiter (.cp core)
      let s := if r.kind = 0 then s
        else s.setBar r.index { s.bar r.index with waiters := (s.bar r.index).waiters.filter fun w => w.1 ≠ core }
      s.swEnd core (min r.kind 1) r.index .deadlineMissed 0

/-- A read of `size` bytes of `SW_RESULT` from byte `part`: with a request under way the control processor stalls (R385). -/
def State.swRead (s : State) (core part size : Nat) : State :=
  match (s.core core).sw with
  | some r => s.setCore core { s.core core with sw := some { r with stalled := true, part := part, size := size } }
  | none => s.deliver core (BitVec.ofNat 64 ((s.reg (coreOff core 0x3010)).toNat / 2 ^ (8 * part) % 2 ^ (8 * size)))

/-! ### Fabric messages (R381, R382) -/

/-- A message that reaches an object which does not match. -/
def State.barMismatch (s : State) : State := s.bump 0x3030 1

/-- A member's arrival at the root; the `n_chips_m1` that its message states must be the barrier's. -/
def State.arrivalAtRoot (s : State) (b : Nat) (round : W32) (count : Option Nat) : State :=
  let B := s.bar b
  if B.state = .live ∧ B.fabric = true ∧ B.rootChip = s.fab.chipNum ∧ count.all (fun n => decide (n = B.nChipsM1)) = true then
    let r := s.rootArrival b (round.getLsbD 0)
    if r.2 then (r.1.completeRound b).settleBar 2 b else r.1
  else s.barMismatch

/-- A root's release at a member. -/
def State.releaseAtMember (s : State) (b root : Nat) (round : W32) (count : Option Nat) : State :=
  let B := s.bar b
  if B.state = .live ∧ B.fabric = true ∧ B.rootChip = root ∧ root ≠ s.fab.chipNum ∧ B.round = round ∧ B.sent = true ∧
    count.all (fun n => decide (n = B.nChipsM1)) = true then (s.completeRound b).settleBar 2 b
  else s.barMismatch

/-- An overrun or a poisoning that comes from another chip; the root sends it on. An overrun that ends no wait here is counted under its
code (R630). An object that does not match, or is FAULTED already, is left as it is. -/
def State.faultMessage (s : State) (b root : Nat) (poison : Bool) : State :=
  let B := s.bar b
  if (B.state = .live ∨ (B.state = .faulted ∧ poison = true)) ∧ B.fabric = true ∧ B.rootChip = root then
    let t := if poison then s.poisonBarHere b
      else (if B.waiters.isEmpty then s.count .barrierOverrun else s).overrunBar b 0xFF
    if root = s.fab.chipNum then t.spreadFault b (if poison then .poison else .overrun) else t
  else s

/-! ### Operations by hand (R386, R387) -/

/-- The object that `SYNC_DBG_OBJ` names: is it a barrier, and its index. -/
def State.dbgObj (s : State) : Bool × Nat :=
  let x := s.dictNat 0x9100 1
  (bitAt x 16, bits x 15 0)

/-- An accepted manual operation logged and counted. -/
def State.dbgLogged (s : State) (op source old oldState : Nat) : State :=
  let r : DbgRec := {
    ft := s.ft.toNat, obj := s.dictNat 0x9100 1, op := op, source := source, arg := s.dictNat 0x9100 2, old := old,
    oldState := oldState }
  (({ s with sync.dbgLog := (r :: s.sync.dbgLog).take 64 }.setDictNat 0x9100 6 (s.dictNat 0x9100 6 + 1)).setFlag 0x3004 4).lifeAdd 14 1

/-- A manual operation on a semaphore. -/
def State.semByHand (s : State) (i op source : Nat) : State × Status :=
  let S := s.sem i
  let l := s.dbgLogged op source S.count.toNat S.state.code
  match op with
  | 1 =>
    if S.state = .live then ((l.setSem i { l.sem i with count := BitVec.ofNat 32 (s.dictNat 0x9100 2) }).evalSem i, .ok)
    else (s, .stateConflict)
  | 2 => (l.releaseAll i .manualRelease, .ok)
  | 3 =>
    let t := l.releaseAll i .manualRelease
    (t.setSem i { t.sem i with state := .free, count := 0, thr := 0 }, .ok)
  | _ => (s, .reservedNonzero)

/-- A manual operation on a barrier. -/
def State.barByHand (s : State) (b op source : Nat) : State × Status :=
  let B := s.bar b
  let l := s.dbgLogged op source B.round.toNat B.state.code
  match op with
  | 1 =>
    if B.state = .live then
      ((l.setBar b (B.setSlot B.sense (BitVec.ofNat 144 (2 ^ B.nPart - 1)))).settleBar 2 b, .ok)
    else (s, .stateConflict)
  | 2 => (l.releaseBar b .manualRelease fun _ => true, .ok)
  | 3 =>
    let t := l.releaseBar b .manualRelease fun _ => true
    (t.setBar b (t.bar b).freed, .ok)
  | _ => (s, .reservedNonzero)

/-- A write of `SYNC_DBG_OP`. -/
def State.byHand (s : State) (op source : Nat) : State × Status :=
  let o := s.dbgObj
  if o.1 then (if Config.bars ≤ o.2 then (s, .reservedNonzero) else s.barByHand o.2 op source) else s.semByHand o.2 op source

/-- A manual operation that is for one kind of object: without that kind selected it is another command. -/
def State.manual (s : State) (op source : Nat) (kind : Option Bool) : State :=
  if kind = none ∨ kind = some s.dbgObj.1 then let r := s.byHand op source; r.1.count r.2 else s

/-! ### Commands -/

/-- SEM_SIGNAL (R368): an operation word stored by a core's control processor. -/
def execSemSignal (core sem : Nat) (n : W32) (s : State) : Host.Outcome State Fault Refusal :=
  ifUnit (isCore core && isSem sem) "core or semaphore"
    (s.byCp core (State.wordDone (if n = 0 then (s, .reservedNonzero) else s.semAdd sem n.toNat) core 0 sem))
/-- DECREMENT (R368). -/
def execDecrement (core sem : Nat) (n : W32) (s : State) : Host.Outcome State Fault Refusal :=
  ifUnit (isCore core && isSem sem) "core or semaphore"
    (s.byCp core (State.wordDone (if n = 0 then (s, .reservedNonzero) else s.semSub sem n.toNat) core 0 sem))
/-- SEM_INIT (R368). -/
def execSemInit (core sem : Nat) (n : W32) (thr : BitVec 16) (s : State) : Host.Outcome State Fault Refusal :=
  ifUnit (isCore core && isSem sem) "core or semaphore" (s.byCp core (State.wordDone (s.semInitOp sem n.toNat thr.toNat) core 0 sem))
/-- SEM_FREE (R368). -/
def execSemFree (core sem : Nat) (s : State) : Host.Outcome State Fault Refusal :=
  ifUnit (isCore core && isSem sem) "core or semaphore" (s.byCp core (State.wordDone (s.semFreeOp sem) core 0 sem))
/-- ARRIVE (R376). -/
def execArrive (core bar part : Nat) (s : State) : Host.Outcome State Fault Refusal :=
  ifUnit (isCore core && isBar bar) "core or barrier"
    (s.byCp core (let r := s.barArrive bar part; State.wordDone (r.1, r.2.1) core 1 bar))
/-- BAR_INIT (R379). -/
def execBarInit (core bar : Nat) (s : State) : Host.Outcome State Fault Refusal :=
  ifUnit (isCore core && isBar bar) "core or barrier" (s.byCp core (State.wordDone (s.barInitOp bar) core 1 bar))
/-- BAR_FREE (R379). -/
def execBarFree (core bar : Nat) (s : State) : Host.Outcome State Fault Refusal :=
  ifUnit (isCore core && isBar bar) "core or barrier" (s.byCp core (State.wordDone (s.barFreeOp bar) core 1 bar))
/-- FABRIC_ARRIVAL (R381): the arrival of a chip for a round. -/
def execFabricArrival (bar chip : Nat) (round : W32) (s : State) : Host.Outcome State Fault Refusal :=
  ifUnit (isBar bar && isChip chip) "barrier or chip" (s.arrivalAtRoot bar round none)
/-- FABRIC_RELEASE (R381). -/
def execFabricRelease (bar rootChip : Nat) (round : W32) (s : State) : Host.Outcome State Fault Refusal :=
  ifUnit (isBar bar && isChip rootChip) "barrier or chip" (s.releaseAtMember bar rootChip round none)
/-- FABRIC_FAULT_MESSAGE (R382). -/
def execFabricFaultMessage (bar rootChip : Nat) (poison : Bool) (s : State) : Host.Outcome State Fault Refusal :=
  ifUnit (isBar bar && isChip rootChip) "barrier or chip" (s.faultMessage bar rootChip poison)
/-- SEMAPHORE_WAIT (R385). -/
def execSemaphoreWait (core sem : Nat) (n : W32) (consume : Bool) (s : State) : Host.Outcome State Fault Refusal :=
  ifUnit (isCore core && isSem sem) "core or semaphore" (s.byCp core (s.swSem core sem n consume))
/-- SW_ARRIVE (R385). -/
def execSwArrive (core bar part : Nat) (s : State) : Host.Outcome State Fault Refusal :=
  ifUnit (isCore core && isBar bar) "core or barrier" (s.byCp core (s.swArr core bar part))
/-- SW_WAIT (R385). -/
def execSwWait (core bar : Nat) (round : W32) (s : State) : Host.Outcome State Fault Refusal :=
  ifUnit (isCore core && isBar bar) "core or barrier" (s.byCp core (s.swBarWait core bar round))
/-- ARRIVE_WAIT (R385). -/
def execArriveWait (core bar part : Nat) (s : State) : Host.Outcome State Fault Refusal :=
  ifUnit (isCore core && isBar bar) "core or barrier" (s.byCp core (s.swArrWait core bar part))
/-- SW_TIMEOUT (R385). -/
def execSwTimeout (core : Nat) (s : State) : Host.Outcome State Fault Refusal := ifUnit (isCore core) "core" (s.swExpire core)
/-- SW_RESULT_READ (R385). -/
def execSwResultRead (core : Nat) (s : State) : Host.Outcome State Fault Refusal :=
  ifUnit (isCore core) "core" (s.byCp core (s.swRead core 0 8))
/-- SET (R387), for the semaphore that `SYNC_DBG_OBJ` names. -/
def execSet (source : Nat) (s : State) : Host.Outcome State Fault Refusal := .next (s.manual 1 source (some false))
/-- COMPLETE (R387), for the barrier that `SYNC_DBG_OBJ` names. -/
def execComplete (source : Nat) (s : State) : Host.Outcome State Fault Refusal := .next (s.manual 1 source (some true))
/-- MANUAL_RELEASE (R387). -/
def execManualRelease (source : Nat) (s : State) : Host.Outcome State Fault Refusal := .next (s.manual 2 source none)
/-- MANUAL_FREE (R387). -/
def execManualFree (source : Nat) (s : State) : Host.Outcome State Fault Refusal := .next (s.manual 3 source none)
/-- POISON_CTX (R390). -/
def execPoisonCtx (ctx : Nat) (s : State) : Host.Outcome State Fault Refusal :=
  ifUnit (isCtx ctx) "context" (s.poisonOwned fun _ c => decide (c = ctx))

end Sys2Proof.Machine
end

