-- ==== Sys2Proof/Machine/LinkOps.lean ====
section
/-! DEFINITION. The state of a port (R428 to R449, R637): who its peer must be, training and retraining, acknowledgements and re-sends,
identity, disabling, the packets that a dead port loses, and fabric time (R42 to R48, R450, R451). -/

namespace Sys2Proof

/-- The lanes that arrive at a position for which `p` holds. -/
def TrainResult.lanesAt (f : TrainResult) (p : Nat → Nat → Bool) : List Nat :=
  (List.range 8).filter fun i => (f.places[i]?).any (p i)

/-- Do most lanes arrive in reversed order (R446)? -/
def TrainResult.reversed (f : TrainResult) : Bool := decide (4 < (f.lanesAt fun i at_ => decide (at_ = 7 - i)).length)

/-- The lanes that are usable: good at both ends, and found at their own or their mirrored position (R446). -/
def TrainResult.goodLanes (f : TrainResult) : Nat :=
  (f.lanesAt fun i at_ => decide (at_ = i ∨ at_ = 7 - i) && f.here.testBit i && f.there.testBit i).foldl (fun m i => m + 2 ^ i) 0

end Sys2Proof

namespace Sys2Proof.Machine

/-! ### Xanler ports -/

/-- Is a port a Xanler port here: H0 and H1 carry PCIe on member 0 (R430)? -/
def State.isXanler (s : State) (p : Nat) : Bool := decide (p < 12) || decide (chipMember s.fab.chipNum ≠ 0)

/-! ### Announcements (R434) -/

/-- The mask of a chip's ACTIVE ports. -/
def State.linkMask (s : State) : Nat :=
  (List.range Config.ports).foldl (fun m p => if (s.port p).usable then m + 2 ^ p else m) 0

/-- The link states announced to every other member of the group. The manual does not state the message; it goes as a SYNC packet to
the port registers' address. -/
def State.announce (s : State) : State :=
  (List.range (shapeMembers s.fab.shape)).foldl
    (fun (t : State) m =>
      if m = chipMember t.fab.chipNum then t
      else t.sendOn { mkPacket .sync (chipGroup t.fab.chipNum * 32 + m) 0x20000000D000 (leBytes 8 t.linkMask) with
        src := t.fab.chipNum })
    s

/-! ### Lost and re-routed packets (R435, R443, R637) -/

/-- The address to which requests for another chip's dictionary service are forwarded, and that of their responses (R555, R560). -/
def dictReqAddr : Nat := 0x200000001000
def dictRespAddr : Nat := 0x200000002000

/-- Does a packet ask for an answer? Of the SYNC packets only a forwarded dictionary request does. -/
def asksAnswer (p : Packet) : Bool :=
  match p.ptype with
  | .readData => false
  | .cmpl => false
  | .rsvd _ => false
  | .sync => decide (p.addr = dictReqAddr)
  | _ => true

/-- The source of a discarded request receives LINK_RETRY_EXHAUSTED. -/
def State.loseRequest (s : State) (p : Packet) : State :=
  if !asksAnswer p then s
  else if p.src = s.fab.chipNum then { s with fab.lost := s.fab.lost ++ [p.tag] }
  else s.answer p .linkRetryExhausted

/-- A packet sent on another route. -/
def State.reroute (s : State) (p : Packet) : State :=
  let r := s.forward p
  if r.2 then r.1 else r.1.loseRequest p

/-- The packets of a port, those in its replay buffer first. -/
def Port.held (P : Port) : List Packet := (P.replay.map (·.pkts)).flatten ++ P.queue

/-- Every packet of a port discarded. -/
def State.loseAll (s : State) (p : Nat) : State :=
  let l := (s.port p).held
  let s := s.setPort p { s.port p with replay := [], queue := [], txSeq := 0, rxSeq := 0, gapNaked := false, fails := 0 }
  let s := s.bumpSeenN (portOff p 0x68) (portOff p 0) 0 l.length
  l.foldl (fun (t : State) q => t.loseRequest q) s

/-! ### Members that are lost (R382) -/

/-- What this chip knows of another member of its group: its place, and its ports as it announced them (R434). -/
def State.asMember (s : State) (m : Nat) : State :=
  let up := Store.get 0 s.fab.linkUp m
  { s with
    fab.chipNum := chipGroup s.fab.chipNum * 32 + m,
    fab.ports := (List.range Config.ports).filterMap fun p => if bitAt up p then some (p, { ({} : Port) with link := .active }) else none }

/-- Is the route of a SYNC packet to a chip up, as far as the announcements of this group tell? A member that has announced nothing is
taken to pass it on; `fuel` is at least the hops in the group. -/
def State.routeAlive : Nat → State → Packet → Bool
  | 0, _, _ => false
  | fuel + 1, s, p =>
    if p.dst = s.fab.chipNum then true
    else
      match s.nextHop p with
      | none => false
      | some r =>
        match s.expectedPeer r.1 with
        | none => false
        | some e =>
          if chipGroup e.1 ≠ chipGroup s.fab.chipNum ∨ e.1 = p.dst ∨ Store.get 0 s.fab.linkUp (chipMember e.1) = 0 then true
          else State.routeAlive fuel (s.asMember (chipMember e.1)) r.2

/-- The FABRIC barriers rooted here of which a member can no longer be reached are poisoned (R382). -/
def State.lostMembers (s : State) : State :=
  s.sync.bars.foldl
    (fun t e =>
      let B := t.bar e.1
      if B.state = .live ∧ B.fabric = true ∧ B.rootChip = t.fab.chipNum ∧
        (t.barPeers B).any (fun c => !State.routeAlive 32 t { mkPacket .sync c 0 [] with src := t.fab.chipNum }) = true then
        t.poisonBar e.1
      else t)
    s

/-! ### Revocation (R349) -/

/-- The admitted queues on a port, youngest first in effect: the one to revoke next. -/
def State.youngestOn (s : State) (p : Nat) : Option (Nat × Queue) :=
  (s.guarQueues.filter fun e => decide (e.2.rsvPort = p)).foldl
    (fun (b : Option (Nat × Queue)) e =>
      match b with
      | none => some e
      | some f => if f.2.enableFt ≤ e.2.enableFt then some e else b)
    none

/-- Queues revoked until the sum fits `limit`; `fuel` is at least the number of queues. -/
def State.revokeTo : Nat → State → Nat → Nat → State
  | 0, s, _, _ => s
  | fuel + 1, s, p, limit =>
    if s.portSlots p ≤ limit then s
    else
      match s.youngestOn p with
      | none => s
      | some e =>
        let s := (s.setQueue e.1 { e.2 with admitted := false }).stopQueue e.1 7
        State.revokeTo fuel (s.bump 0xC018 1) p limit

/-- What a change of a port's lanes or state brings: revoked queues, FABRIC barriers whose members are lost, fitness, announcement. -/
def State.portChanged (s : State) (p limit : Nat) : State :=
  ((s.revokeTo s.qs.queues.length p limit).lostMembers.evalFitness).announce.poolRoutes

/-! ### Training (R443, R445 to R449) -/

/-- A port goes DOWN, or DISABLED where it was being disabled; its packets are lost. -/
def State.portDown (s : State) (p : Nat) (st : Status) : State :=
  let P := s.port p
  let gone := P.disabling || P.disabled
  let s := s.setPort p { P with
    link := if gone then .disabled else .down, disabled := gone, disabling := false, lastStatus := st.code, width := 0, active := 0,
    phase := .idle, fast := false, attempts := 0, nextTry := if gone then none else some (s.ft.toNat + 1000000000) }
  let s := if st = .versionUnsupported then s else s.countLog st 4 p P.peerChip
  (s.loseAll p).portChanged p 0

/-- A port that was ACTIVE no longer is: fitness is evaluated (R485), and the group told (R434). -/
def State.leftActive (s : State) (was : LinkState) : State := if was = .active then s.evalFitness.announce else s

/-- Full training begins. -/
def State.startFull (s : State) (p : Nat) : State :=
  let P := s.port p
  let re := decide (P.link = .active ∨ P.link = .retrain)
  let t := s.setPort p { P with link := if re then .retrain else .training, phase := .detect, fast := false, nextTry := none }
  let s := t.leftActive P.link
  if re then (s.bumpSeen (portOff p 0x30) (portOff p 0) 1).lifeAdd (0x51 + 4 * p) 1 else s

/-- A fast retrain begins (R442, R447). -/
def State.startFast (s : State) (p : Nat) : State :=
  let was := (s.port p).link
  let s := (s.setPort p { s.port p with link := .retrain, phase := .align, fast := true, attempts := 0, fails := 0 }).leftActive was
  (s.bumpSeen (portOff p 0x30) (portOff p 0) 1).lifeAdd (0x51 + 4 * p) 1

/-- A training that failed: a fast retrain is followed by full training, which is attempted up to three times. -/
def State.trainFail (s : State) (p : Nat) : State :=
  let s := s.bump (portOff p 0x38) 1
  let P := s.port p
  if P.fast then (s.setPort p { P with attempts := 0 }).startFull p
  else if 3 ≤ P.attempts + 1 then s.portDown p .linkRetryExhausted
  else s.setPort p { P with attempts := P.attempts + 1, phase := .detect }

/-- The lane sets of R446, in order. -/
def laneSets : List Nat := [0xFF, 0x0F, 0xF0, 0x03, 0x0C, 0x30, 0xC0]

/-- The lanes of a mask. -/
def laneCount (m : Nat) : Nat := ((List.range 8).filter (bitAt m)).length

/-- A port FENCED for a wrong peer (R449). -/
def State.miswire (s : State) (p : Nat) : State :=
  let P := s.port p
  let s := s.setPort p { P with link := .fenced, lastStatus := Status.miswired.code, reident := false }
  ((s.bumpSeen (portOff p 0x48) (portOff p 0) 3).countLog .miswired 4 p P.peerChip).lostMembers.evalFitness.announce.poolRoutes

/-- The flits of the replay buffer sent once more. -/
def State.resendAll (s : State) (p : Nat) : State :=
  let P := s.port p
  ((s.setPort p { P with lastProgress := s.ft.toNat }).bump (portOff p 0x28) P.replay.length).lifeAdd (0x51 + 4 * p + 3) P.replay.length

/-- A port becomes ACTIVE: re-sending resumes, and waiting packets go (R443). -/
def State.portUp (s : State) (p : Nat) : State :=
  let P := s.port p
  let s := (s.setPort p { P with link := .active, lastStatus := 0, fails := 0, attempts := 0, reident := false }).resendAll p
  let P := s.port p
  s.setPort p (P.pump P.queue.length)

/-- The end of a training (R446 to R449). -/
def State.trainEnd (s : State) (p : Nat) (f : TrainResult) : State :=
  match laneSets.find? fun m => decide (m &&& f.goodLanes = m) with
  | none => (s.bump (portOff p 0x38) 1).portDown p .laneRetired
  | some m =>
    let P := s.port p
    let w := laneCount m
    let s := s.setPort p { P with
      phase := .idle, fast := false, width := w, active := m, retired := 255 - m, inverted := f.inverted % 256,
      reversed := f.reversed, prevWidth := w, everWidth := if f.peerVersion = 0 then P.everWidth else w, peerChip := f.peerChip % 16384,
      peerPort := f.peerPort % 256, version := min 1 f.peerVersion, nextTry := none }
    if f.peerVersion = 0 then (s.bump (portOff p 0x38) 1).portDown p .versionUnsupported
    else
      let s := if w < P.prevWidth then (s.bumpSeen (portOff p 0x40) (portOff p 0) 2).lifeAdd (0x51 + 4 * p + 1) 1 else s
      if s.expectedPeer p = some (f.peerChip, f.peerPort) then (s.portUp p).portChanged p (w * s.dictNat 0x4400 3 / 8)
      else s.miswire p

/-! ### Acknowledgements and re-sends (R441, R442) -/

/-- The replay buffer after the peer has received everything up to `ack`; unchanged where it does not hold `ack`. -/
def ackedReplay (l : List Flit) (ack : Nat) : List Flit :=
  if l.any (fun f => f.seq == ack) then (l.dropWhile fun f => f.seq != ack).drop 1 else l

/-- An acknowledgement and returned credits. -/
def State.ackPort (s : State) (p ack crVc credits : Nat) : State :=
  let P := s.port p
  let r := ackedReplay P.replay ack
  let P := { P with
    replay := r,
    credits := P.credits.set crVc (min 128 ((P.credits[crVc]?).getD 0 + credits)),
    fails := if r.length < P.replay.length then 0 else P.fails,
    lastProgress := if r.length < P.replay.length then s.ft.toNat else P.lastProgress }
  s.setPort p (P.pump P.queue.length)

/-- What forward error correction reports of the codewords of a flit (R440). -/
def State.fecReport (s : State) (p corrected uncorrectable : Nat) : State :=
  ((s.bump (portOff p 0x10) corrected).bump (portOff p 0x18) uncorrectable).lifeAdd (0x51 + 4 * p + 2) uncorrectable

/-- A flit discarded for its CRC. -/
def State.badFlit (s : State) (p : Nat) : State := s.bump (portOff p 0x20) 1

/-- Re-sending from the oldest unacknowledged flit; a flit that has failed 16 times starts a fast retrain. -/
def State.goBack (s : State) (p : Nat) : State :=
  let P := s.port p
  if P.replay.isEmpty then s
  else if 16 ≤ P.fails then s.startFast p
  else (s.setPort p { P with fails := P.fails + 1 }).resendAll p

/-! ### Control (R449, R459, R637) -/

/-- `REIDENT`. -/
def State.portReident (s : State) (p : Nat) : State :=
  if s.isXanler p then s.setPort p { s.port p with reident := true } else s

/-- `RETRAIN`. -/
def State.portRetrain (s : State) (p : Nat) : State :=
  if s.isXanler p && !(s.port p).disabled && !(s.port p).disabling then
    (s.setPort p { s.port p with attempts := 0 }).startFull p else s

/-- A port DISABLED; what waits for it takes other routes. -/
def State.portOffNow (s : State) (p : Nat) : State :=
  let l := (s.port p).queue
  let s := s.setPort p { s.port p with
    link := .disabled, disabled := true, disabling := false, width := 0, active := 0, queue := [], nextTry := none, phase := .idle, fast := false }
  (l.foldl (fun (t : State) q => t.reroute q) s).lostMembers.evalFitness.announce.poolRoutes

/-- `DISABLE` written with 1. -/
def State.portDisable (s : State) (p : Nat) : State :=
  let P := s.port p
  if P.disabled || P.disabling || !s.isXanler p then s
  else if P.link = .active ∨ P.link = .retrain then
    (s.setPort p { P with disabling := true }).portChanged p 0
  else ((s.loseAll p).portOffNow p).portChanged p 0

/-- The replay buffer of a port being disabled has emptied. -/
def State.portDisabled (s : State) (p : Nat) : State :=
  let P := s.port p
  if P.disabling && decide (P.link = .active) && P.replay.isEmpty then s.portOffNow p else s

/-- `DISABLE` written with 0. -/
def State.portEnable (s : State) (p : Nat) : State :=
  let P := s.port p
  if P.disabled || P.disabling then (s.setPort p { P with disabled := false, disabling := false, attempts := 0 }).startFull p else s

/-- A write of `PORT_CTRL` (R459). -/
def State.portCtrl (s : State) (p v : Nat) : State :=
  let s := if bitAt v 2 then s.portReident p else s
  let s := if bitAt v 0 then s.portDisable p else s.portEnable p
  if bitAt v 1 then s.portRetrain p else s

/-- An IDENT flit outside training (R448, R449). -/
def State.identIn (s : State) (p version chip peerPort : Nat) : State :=
  let P := s.port p
  if P.link ≠ .active ∧ P.link ≠ .fenced then s
  else
    let asked := P.reident
    let s := s.setPort p { P with peerChip := chip, peerPort := peerPort, version := min 1 version, reident := false }
    if version = 0 then s.portDown p .versionUnsupported
    else if s.expectedPeer p = some (chip, peerPort) then
      (if P.link = .fenced ∧ asked = true then (s.portUp p).portChanged p (P.width * s.dictNat 0x4400 3 / 8) else s)
    else if P.link = .active then s.miswire p
    else s

/-- Every used port begins full training; the ports that the shapes do not use are DISABLED (R429, R462). -/
def State.trainAll (s : State) : State :=
  (List.range Config.ports).foldl
    (fun (t : State) p =>
      if !t.isXanler p then t
      else if !t.portUsed p then t.setPort p { t.port p with link := .disabled }
      else if (t.port p).disabled then t
      else t.startFull p)
    s

/-- Every port repeats its identity exchange (R432). -/
def State.identAll (s : State) : State :=
  (List.range Config.ports).foldl (fun (t : State) p => t.portReident p) s

/-! ### Fabric time (R42 to R48, R450, R451) -/

/-- Distance of two members in hops. -/
def memberDist (shape a b : Nat) : Nat :=
  (List.range 3).foldl
    (fun acc d =>
      let n := shapeSize shape d
      let k := (memberCoord b d + n - memberCoord a d) % n
      acc + min k (n - k)) 0

/-- The port towards a member's time parent (R451). -/
def State.timeParent (s : State) : Option Nat :=
  let me := s.fab.chipNum
  if chipMember me = 0 then none
  else
    match s.hopInGroup 0 true { mkPacket .sync (chipGroup me * 32) 0 [] with src := me } with
    | some r => some r.1
    | none =>
      (List.range 12).find? fun p =>
        (s.port p).usable &&
        decide (memberDist s.fab.shape (memberStep s.fab.shape (chipMember me) (p / 4) (decide (2 ≤ p % 4))) 0
          < memberDist s.fab.shape (chipMember me) 0)

/-- `ERR_BOUND` of `FT_STATUS`. -/
def State.errBound (s : State) : Nat := bits (s.reg 0x108).toNat 31 16
/-- `HOLDOVER` and `ERR_BOUND` written. -/
def State.setHoldover (s : State) (h : Bool) (err : Nat) : State :=
  s.setReg 0x108 (BitVec.ofNat 64 (setBits (setBits (s.reg 0x108).toNat 31 16 (min err 0xFFFF)) 1 1 (b2n h)))

/-- The first valid update: FT loaded in one step (R44). -/
def State.loadFt (s : State) (v : W64) : State := (({ s with ft := v }).setFlag 0x108 0).setFlag 0x108 2

/-- A TIME reply (R451). -/
def State.timeReply (s : State) (p : Nat) (valid holdover : Bool) (err : Nat) (t1 t2 t3 : W64) : State :=
  match s.fab.timeAsked with
  | none => s
  | some asked =>
    if s.timeParent ≠ some p ∨ t1.toNat ≠ asked then s
    else
      let t4 := (s.ft.toNat : Int)
      let out := (t2.toNat : Int) - (t1.toNat : Int)
      let back := (t3.toNat : Int) - t4
      let offset := (out + back) / 2
      let delay := ((t4 - (t1.toNat : Int)) - ((t3.toNat : Int) - (t2.toNat : Int))) / 2
      let s := (s.setReg 0xE008 (BitVec.ofInt 64 offset)).setReg 0xE010 (BitVec.ofInt 64 delay)
      let s := { s with fab.timeAsked := none }
      if !valid then s
      else
        let s := if s.ftValid then { s with fab.slewNs := offset } else s.loadFt (BitVec.ofInt 64 (t4 + offset))
        let s := s.setHoldover holdover (if holdover then err + 20 else 0)
        { s with fab.lastUpdate := s.ft.toNat, fab.errAt := s.ft.toNat }

/-- A TIME_PPS edge (R450). An edge's expected value lies a whole number of seconds, at least one, after that of the edge before. -/
def State.ppsEdge (s : State) : State :=
  if chipMember s.fab.chipNum ≠ 0 then s
  else if !s.ftValid then
    if Store.get [] s.mgmt.values (dictKey 0x3002 1) = [] then s
    else
      let v : W64 := BitVec.ofNat 64 (s.dictNat 0x3002 1)
      let s := ((s.loadFt v).setHoldover false 0).bump 0xE018 1
      { s with fab.expectedEdge := some v.toNat, fab.lastEdge := v.toNat, fab.lastUpdate := v.toNat }
  else
    let now := s.ft.toNat
    let prev := s.fab.expectedEdge.getD now
    let k := max 1 ((now - prev + 500000000) / 1000000000)
    let e : Int := (now : Int) - ((prev + k * 1000000000 : Nat) : Int)
    if 100000 < e.natAbs then s.bumpSeen 0xE020 0xE004 1
    else
      let s := (s.bump 0xE018 1).setHoldover false 0
      { s with fab.slewNs := -e, fab.expectedEdge := some (prev + k * 1000000000), fab.lastEdge := now, fab.lastUpdate := now }

/-- The FT at which HOLDOVER is due without an update (R45, R450). -/
def State.holdoverDue (s : State) : Nat :=
  if chipMember s.fab.chipNum = 0 then s.fab.lastEdge + 1100000000 else s.fab.lastUpdate + 1000000

/-- HOLDOVER entered, with an error bound that is not stated; in HOLDOVER, 50 ns more for each further millisecond (R45). -/
def State.holdover (s : State) : State :=
  let now := s.ft.toNat
  if !s.flag 0x108 1 then
    if now < s.holdoverDue then s
    else
      let f := s.freeWord
      let s := f.2.setHoldover true (f.1.toNat % 65536)
      { s.lifeAdd 12 1 with fab.errAt := now }
  else
    let k := (now - s.fab.errAt) / 1000000
    { s.setHoldover true (s.errBound + 50 * k) with fab.errAt := s.fab.errAt + k * 1000000 }

end Sys2Proof.Machine
end

