-- ==== Sys2Proof/Machine/Training.lean ====
section
/-! DEFINITION. The update unit (R392 to R427): the checks of its items, the optimiser programs over split master weights, and the
members of Twill chains with their decisions, late copies, late fold and chain record. -/

namespace Sys2Proof.Machine

/-! ### Fields of the item and of the chain descriptor (R393, R394, R405) -/

def uVersion (x : BitVec 512) : Nat := fld x 511 508
def uOp (x : BitVec 512) : Nat := fld x 507 504
def uProg (x : BitVec 512) : Nat := fld x 503 500
def uFmt (x : BitVec 512) : Nat := fld x 499 496
/-- Array field `i` as an address. -/
def uArr (x : BitVec 512) (i : Nat) : Nat := fld x (491 - 28 * i) (464 - 28 * i) * 4096
def uBlk (x : BitVec 512) : Nat := fld x 351 318 * 64
def uN (x : BitVec 512) : Nat := fld x 317 286
def uMember (x : BitVec 512) : Nat := fld x 285 274
def uCtb (x : BitVec 512) : Nat := fld x 271 256
def uStep (x : BitVec 512) : Nat := fld x 255 192
def uSuccRank (x : BitVec 512) : Nat := fld x 255 242
def uSuccCore (x : BitVec 512) : Nat := fld x 241 234
/-- The bytes of a gradient or contribution element. -/
def uSize (x : BitVec 512) : Nat := if uFmt x = 1 then 2 else 4

def cdVersion (d : BitVec 512) : Nat := fld d 511 508
def cdRun (d : BitVec 512) : Nat := fld d 507 506
def cdForce (d : BitVec 512) : Bool := fbit d 505
def cdMap (d : BitVec 512) : Nat := fld d 504 503
def cdLast (d : BitVec 512) : Nat := fld d 502 491
def cdChunkLog2 (d : BitVec 512) : Nat := fld d 490 486
def cdLateSlots (d : BitVec 512) : Nat := fld d 485 481
def cdId (d : BitVec 512) : Nat := fld d 480 465
def cdTailRank (d : BitVec 512) : Nat := fld d 464 451
def cdTailCore (d : BitVec 512) : Nat := fld d 450 443
def cdArr (d : BitVec 512) : Nat := fld d 442 427
def cdLate (d : BitVec 512) : Nat := fld d 426 411
def cdStep (d : BitVec 512) : Nat := fld d 383 320
def cdDlBase (d : BitVec 512) : Nat := fld d 319 256
def cdDlStep (d : BitVec 512) : Nat := fld d 255 224
def cdGrace (d : BitVec 512) : Nat := fld d 191 128
def cdLateBase (d : BitVec 512) : Nat := fld d 127 100 * 4096
def cdForceBase (d : BitVec 512) : Nat := fld d 99 66 * 64
def cdRecBase (d : BitVec 512) : Nat := fld d 65 32 * 64
/-- The bytes of an element of the running format. -/
def cdSize (d : BitVec 512) : Nat := if cdRun d = 1 then 2 else 4

/-- The bytes between the slots of a late area (R412). -/
def lateStride (n r : Nat) : Nat := roundUp (n * r) 4096
/-- The bytes of a receive buffer (R407). -/
def recvBytes (n r : Nat) : Nat := 0x1000 + n * r
/-- The bytes of a late area (R412). -/
def lateBytes (slots n r : Nat) : Nat := 0x1000 + slots * lateStride n r

/-! ### Checks (R395) -/

/-- The arrays of an OPT item: address, length, and whether the item writes it. -/
def optExtents (x : BitVec 512) : List (Nat × Nat × Bool) :=
  let n := uN x
  [(uArr x 0, 2 * n, true), (uArr x 1, 2 * n, true), (uArr x 2, uSize x * n, false), (uArr x 3, 4 * n, true)] ++
  (if uProg x = 1 ∨ uProg x = 2 then [(uArr x 4, 4 * n, true)] else []) ++ [(uBlk x, 64, false)]

/-- The arrays and buffers of a CHAIN item that its own member reads and writes, on the issuing chip. -/
def chainExtents (x d : BitVec 512) : List (Nat × Nat × Bool) :=
  let n := uN x
  let r := cdSize d
  [(uArr x 0, uSize x * n, false), (uBlk x, 64, false)] ++
  (if uMember x = 0 then [] else [(uArr x 1, recvBytes n r, false)]) ++
  (if uMember x = cdLast d then
    [(uArr x 4, n * r, true), (cdRecBase d, 0x800, true)] ++
    (if cdLateSlots d = 0 then [] else [(cdLateBase d, lateBytes (cdLateSlots d) n r, false)])
  else []) ++
  (if cdForce d then [(cdForceBase d, 0x400, false)] else [])

/-- Do extents lie in physical near memory, and the written ones outside the firmware region (R395, R585)? -/
def extentsOk (l : List (Nat × Nat × Bool)) : Bool :=
  l.all fun e => decide (e.1 + e.2.1 ≤ Config.nearBytes) && !(e.2.2 && touchesFw e.1 e.2.1)

/-- Do some two of the extents overlap? -/
def extentsClash (l : List (Nat × Nat × Bool)) : Bool := anyOverlap (l.map fun e => (e.1, e.2.1))

/-- Check 2 of an OPT item. -/
def optFields (x : BitVec 512) : Bool :=
  zeros x [(495, 492), (285, 256), (140, 128), (63, 0)] && decide (uProg x ≤ 3 ∧ uFmt x ≤ 1 ∧ uN x ≠ 0) &&
  (decide (uProg x = 1 ∨ uProg x = 2) || zeros x [(379, 352)])

/-- Check 2 of a CHAIN item, as far as it needs no descriptor. -/
def chainFields (x : BitVec 512) : Bool :=
  zeros x [(503, 500), (495, 492), (407, 380), (273, 272), (233, 192), (140, 128), (63, 0)] &&
  decide ((uFmt x ≤ 1 ∨ uFmt x = 12) ∧ uN x ≠ 0 ∧ uSuccCore x < Config.cores) &&
  (decide (uMember x ≠ 0) || zeros x [(463, 436)])

/-- The fields that the item of a tail, and of a member that is none, does not use (R394): part of check 2, judged once the descriptor
says which member is the tail. -/
def tailFields (x d : BitVec 512) : Bool :=
  if uMember x = cdLast d then zeros x [(435, 408), (255, 234)] else zeros x [(379, 352)]

/-- Check 5 of a CHAIN item. -/
def descriptorFields (x d : BitVec 512) : Bool :=
  zeros d [(410, 384), (223, 192), (31, 0)] &&
  decide (cdRun d ≤ 2 ∧ 16 ≤ cdChunkLog2 d ∧ cdChunkLog2 d ≤ 24 ∧ cdLateSlots d ≤ 16 ∧ uMember x ≤ cdLast d ∧
    cdTailCore d < Config.cores) &&
  (decide (uFmt x = 12) == decide (cdRun d = 2))

/-- Is a commit due that swaps the banks of a map (R422) and has not been carried out? -/
def State.dueSwap (s : State) (map : Nat) : Bool :=
  s.mgmt.txns.any fun t => t.armed.any (fun a => decide (a ≤ s.ft.toNat)) && t.writes.any fun w => decide (w.1 = dictKey 0x2100 (map + 1))

/-- The chip that a logical rank names in the active bank of a map; none where the rank is invalid (R421). -/
def State.rankChip (s : State) (map rank : Nat) : Option Nat :=
  let e := leNat (((s.dictBytes 0x2100 (0x11 + map)).drop (2 * rank)).take 2)
  if bitAt e 15 then some (bits e 13 0) else none

/-- The chain descriptor at an address, as its bytes stand. -/
def State.chainDesc (s : State) (x : BitVec 512) : BitVec 512 := BitVec.ofNat 512 (leNat (s.near (uBlk x) 64))

/-- The extents that check 6 compares: the item's own, and the successor's buffer and the tail's late area where they are on this chip. -/
def State.chainSpans (s : State) (x d : BitVec 512) : List (Nat × Nat × Bool) :=
  let here := fun (r : Nat) => decide (s.rankChip (cdMap d) r = some s.fab.chipNum)
  let tail := decide (uMember x = cdLast d)
  let n := uN x
  let r := cdSize d
  chainExtents x d ++ (if !tail && here (uSuccRank x) then [(uArr x 2, recvBytes n r, true)] else []) ++
  (if !tail && decide (cdLateSlots d ≠ 0) && here (cdTailRank d) then [(cdLateBase d, lateBytes (cdLateSlots d) n r, true)] else [])

/-- The checks of a CHAIN item from check 3 on (R395). DEDUCED: the descriptor is read once the extents that need none are judged; what of
checks 2 and 3 needs it comes before its own checks. -/
def State.chainCheck (s : State) (x : BitVec 512) : Status :=
  let d := s.chainDesc x
  if !extentsOk [(uArr x 0, uSize x * uN x, false), (uBlk x, 64, false)] then .pageFault
  else if (s.readBlock (uBlk x)).2 ≠ .ok then (s.readBlock (uBlk x)).2
  else firstBad
    [need (tailFields x d) .reservedNonzero,
     need (extentsOk (chainExtents x d)) .pageFault,
     need (cdVersion d == 1) .versionUnsupported,
     need (descriptorFields x d) .reservedNonzero,
     need (!extentsClash (s.chainSpans x d) &&
       (decide (uMember x = cdLast d) || (s.rankChip (cdMap d) (uSuccRank x)).isSome) &&
       (decide (cdLateSlots d = 0) || (s.rankChip (cdMap d) (cdTailRank d)).isSome) &&
       (cdForce d || s.ftValid)) .stateConflict]

/-- The checks of an update item (R395). -/
def State.updateCheck (s : State) (x : BitVec 512) : Status :=
  if uVersion x ≠ 1 then .versionUnsupported
  else
    match uOp x with
    | 0 =>
      firstBad [need (optFields x) .reservedNonzero, need (extentsOk (optExtents x)) .pageFault,
        need (!extentsClash (optExtents x)) .stateConflict]
    | 1 => if chainFields x then s.chainCheck x else .reservedNonzero
    | _ => .reservedNonzero

/-! ### Optimiser programs (R397 to R404) -/

/-- The scalars of a step (R399). -/
structure OptScalars where
  lr : W32
  clip : W32
  wd : W32
  eps : W32
  b1 : W32
  omb1 : W32
  b2 : W32
  omb2 : W32
  rbc1 : W32
  rbc2 : W32
  nesterov : Bool

/-- The scalars of a block's bits. -/
def optScalars (b : BitVec 512) : OptScalars :=
  let w := fun (o : Nat) => (BitVec.ofNat 32 (fld b (8 * o + 31) (8 * o)) : W32)
  { lr := w 0x08, clip := w 0x0C, wd := w 0x10, eps := w 0x14, b1 := w 0x18, omb1 := w 0x1C, b2 := w 0x20, omb2 := w 0x24,
    rbc1 := w 0x28, rbc2 := w 0x2C, nesterov := fbit b 385 }

/-- `sign(c)` of R402. -/
def optSign (c : W32) : W32 :=
  if (f32 c).isNan then f32canon c else if (f32 c).isZero then c else if (f32 c).isNeg then 0xBF800000 else 0x3F800000

/-- A word with its sign turned. -/
def f32neg (a : W32) : W32 := a ^^^ 0x80000000

/-- One element of a program (R402): its new weight, m (or b) and v. `g` is the gradient after `clip`. -/
def optElem (prog : Nat) (S : OptScalars) (w m v g : W32) : W32 × W32 × W32 :=
  match prog with
  | 0 =>
    let g := f32fma S.wd w g
    let b := f32fma S.b1 m g
    let u := if S.nesterov then f32fma S.b1 b g else b
    (f32fma (f32neg S.lr) u w, b, v)
  | 3 =>
    let u := f32fma S.wd w (optSign (f32fma S.b1 m (f32mul S.omb1 g)))
    (f32fma (f32neg S.lr) u w, f32fma S.b2 m (f32mul S.omb2 g), v)
  | _ =>
    let g := if prog = 1 then f32fma S.wd w g else g
    let m := f32fma S.b1 m (f32mul S.omb1 g)
    let v := f32fma S.b2 v (f32mul (f32mul S.omb2 g) g)
    let u := f32div (f32mul m S.rbc1) (f32add (f32sqrt (f32mul v S.rbc2)) S.eps)
    let u := if prog = 2 then f32fma S.wd w u else u
    (f32fma (f32neg S.lr) u w, m, v)

/-- Element `i` of a byte list of elements of `k` bytes. -/
def wordAt (k : Nat) (l : List Byte) (i : Nat) : Nat := leNat ((l.drop (k * i)).take k)

/-- An FP32 or BF16 element widened to FP32 (R402). -/
def widenWord (fmt x : Nat) : W32 := if fmt = 1 then BitVec.ofNat 32 (x * 0x10000) else BitVec.ofNat 32 x

/-- One element's result: its new words and whether its gradient was not finite (R402, R403). -/
structure OptOut where
  w : W32
  m : W32
  v : W32
  bad : Bool

/-- The results of the `n` elements of an item, from the bytes of its arrays. -/
def optOuts (x : BitVec 512) (S : OptScalars) (hi lo gr ms vs : List Byte) : List OptOut :=
  (List.range (uN x)).map fun i =>
    let g := f32mul (widenWord (uFmt x) (wordAt (uSize x) gr i)) S.clip
    let w : W32 := BitVec.ofNat 32 (wordAt 2 hi i * 0x10000 + wordAt 2 lo i)
    let r := optElem (uProg x) S w (BitVec.ofNat 32 (wordAt 4 ms i)) (BitVec.ofNat 32 (wordAt 4 vs i)) g
    { w := r.1, m := r.2.1, v := r.2.2, bad := !(f32 g).isFinite }

/-- `whash` (R404). -/
def optHash (step : W64) (ws : List W32) : W64 :=
  ws.zipIdx.foldl (fun h e => srMix (h ^^^ (BitVec.ofNat 64 (e.2 * 2 ^ 32)) ^^^ e.1.zeroExtend 64)) (srMix step)

/-- Several extents read: the first status that is not OK, and the bytes of each. -/
def State.readAll (s : State) (l : List (Nat × Nat)) : State × Status × List (List Byte) :=
  l.foldl
    (fun (acc : State × Status × List (List Byte)) e =>
      let r := acc.1.readNear e.1 e.2
      (r.1, acc.2.1.orElse r.2.1, acc.2.2 ++ [r.2.2]))
    (s, .ok, [])

/-- Several extents written: the first status that is not OK. -/
def State.writeAll (s : State) (l : List (Nat × List Byte)) : State × Status :=
  l.foldl
    (fun (acc : State × Status) e =>
      let r := acc.1.writeNear e.1 e.2
      (r.1, acc.2.orElse r.2))
    (s, .ok)

/-- `whash` written into the item's ring slot (R404). -/
def State.putHash (s : State) (q : Nat) (h : W64) : State × Status :=
  let Q := s.queue q
  match Q.held with
  | some it => s.writeNear (Q.itemAddr it.index.toNat) (leBytes 8 h.toNat)
  | none => (s, .ok)

/-- An OPT item against an accepted block (R402 to R404). A read that fails leaves the arrays that it writes undefined. -/
def State.optApply (s : State) (q : Nat) (x b : BitVec 512) : State × Status :=
  let n := uN x
  let core := (s.queue q).core
  let two := decide (uProg x = 1 ∨ uProg x = 2)
  let r := s.readAll ([(uArr x 0, 2 * n), (uArr x 1, 2 * n), (uArr x 2, uSize x * n), (uArr x 3, 4 * n)] ++
    (if two then [(uArr x 4, 4 * n)] else []))
  if r.2.1 ≠ .ok then
    (((optExtents x).filter fun e => e.2.2).foldl (fun t e => t.havocNear e.1 e.2.1) r.1, r.2.1)
  else
    let arr := fun (i : Nat) => (r.2.2[i]?).getD []
    let outs := optOuts x (optScalars b) (arr 0) (arr 1) (arr 2) (arr 3) (arr 4)
    let w := r.1.writeAll ([(uArr x 0, (outs.map fun o => leBytes 2 (o.w.toNat / 0x10000)).flatten),
      (uArr x 1, (outs.map fun o => leBytes 2 (o.w.toNat % 0x10000)).flatten),
      (uArr x 3, (outs.map fun o => leBytes 4 o.m.toNat).flatten)] ++
      (if two then [(uArr x 4, (outs.map fun o => leBytes 4 o.v.toNat).flatten)] else []))
    let s := w.1.bumpSeenN (coreOff core 0x8020) (coreOff core 0x8000) 5 (outs.filter fun o => o.bad).length
    if w.2 ≠ .ok then (s, w.2)
    else (s.bumpCore core 0x8010 n).putHash q (optHash (BitVec.ofNat 64 (uStep x)) (outs.map (·.w)))

/-- An OPT item reads its step-scalar block and acts on it (R400, R401); none while the block is not yet written. -/
def State.optRun (s : State) (q : Nat) (x : BitVec 512) : State × Option Status :=
  let core := (s.queue q).core
  let r := s.readNear (uBlk x) 64
  let b : BitVec 512 := BitVec.ofNat 512 (leNat r.2.2)
  let step := fld b 63 0
  let sealed := fld b 511 448
  if r.2.1 ≠ .ok then (r.1, some r.2.1)
  else if sealed ≠ step ∨ step < uStep x then
    (r.1.setCore core { r.1.core core with optWait := some (q, r.1.cycle.toNat + 512) }, none)
  else if uStep x < step then (r.1, some .stateConflict)
  else if fld b 415 412 ≠ 1 then (r.1, some .versionUnsupported)
  else if !zeros b [(411, 386), (447, 416)] then (r.1, some .reservedNonzero)
  else if fbit b 384 then
    let w := (r.1.bumpCore core 0x8018 1).putHash q 0
    (w.1, some w.2)
  else
    let w := r.1.optApply q x b
    (w.1, some w.2)

/-- An update item's end: its completion, and its release signal where it is OK (R393, R395). -/
def State.endUpdate (s : State) (q : Nat) (x : BitVec 512) (st : Status) : State :=
  if st = .ok then (s.endItem q .ok).signalOpt (itemRel s.fab.chipNum 4 x) else s.endItem q st

/-- An OPT item run, to its end or until its block is to be read again. -/
def State.optGo (s : State) (q : Nat) (x : BitVec 512) : State :=
  let core := (s.queue q).core
  let r := (s.setCore core { s.core core with optWait := none }).optRun q x
  match r.2 with
  | some st => r.1.endUpdate q x st
  | none => r.1

/-! ### Chain arithmetic (R92, R416) -/

/-- The value of an element of format 0 FP32, 1 BF16 or 12 INT32, widened to FP32 for the squared norm. -/
def normWord (fmt x : Nat) : W32 := if fmt = 12 then f32ofInt (signed 32 x) else widenWord fmt x

/-- The squared norm of elements (R416). -/
def sqNorm (fmt : Nat) (l : List Nat) : W32 := l.foldl (fun q x => f32fma (normWord fmt x) (normWord fmt x) q) 0

/-- The format code of a running format. -/
def runFmt (run : Nat) : Nat := if run = 2 then 12 else run

/-- `to_running` (R92): a conversion to the running format, which gives the canonical NaN for a NaN (R68, R70). -/
def toRunning (run fmt x : Nat) : Nat :=
  match run with
  | 2 => x
  | 1 => (fBf16.encode .rne false (f32 (widenWord fmt x))).1
  | _ => (toF32 (f32 (widenWord fmt x))).toNat

/-- One hop (R92): the new running element, and whether an INT32 hop saturated. `fmt` is the format of `x`. -/
def hop (run fmt s x : Nat) : Nat × Bool :=
  match run with
  | 2 =>
    let t := signed 32 s + signed 32 x
    if t < -2147483648 then (0x80000000, true) else if 2147483647 < t then (0x7FFFFFFF, true) else (unsigned 32 t, false)
  | 1 => ((fBf16.encode .rne false ((fBf16.decode s).add (f32 (widenWord fmt x)))).1, false)
  | _ => ((toF32 ((f32 (BitVec.ofNat 32 s)).add (f32 (widenWord fmt x)))).toNat, false)

/-- Elements added to a running sum, which may be empty: the new sum and the hops that saturated. -/
def hopAll (run fmt : Nat) (acc : Option (List Nat)) (xs : List Nat) : List Nat × Nat :=
  match acc with
  | none => (xs.map (toRunning run fmt), 0)
  | some l =>
    let r := (l.zip xs).map fun e => hop run fmt e.1 e.2
    (r.map (·.1), (r.filter (·.2)).length)

/-- The elements of a byte list. -/
def elemsOf (k n : Nat) (l : List Byte) : List Nat := (List.range n).map (wordAt k l)
/-- The bytes of elements. -/
def bytesOfElems (k : Nat) (l : List Nat) : List Byte := (l.map (leBytes k)).flatten

/-! ### Chain transport (R408, R418) -/

/-- A core's CHAIN item replaced. -/
def State.setChain (s : State) (core : Nat) (r : ChainRun) : State := s.setCore core { s.core core with chain := some r }

/-- A member's position index and running size. -/
def ChainRun.member (r : ChainRun) : Nat := uMember r.item
def ChainRun.isTail (r : ChainRun) : Bool := decide (uMember r.item = cdLast r.cd)
def ChainRun.size (r : ChainRun) : Nat := cdSize r.cd
def ChainRun.n (r : ChainRun) : Nat := uN r.item
/-- Elements of a chunk (R405, R407). -/
def ChainRun.perChunk (r : ChainRun) : Nat := 2 ^ cdChunkLog2 r.cd / r.size
def ChainRun.chunks (r : ChainRun) : Nat := ceilDiv r.n r.perChunk
/-- The first element and the number of elements of chunk `j`. -/
def ChainRun.span (r : ChainRun) (j : Nat) : Nat × Nat := (j * r.perChunk, min r.perChunk (r.n - j * r.perChunk))
/-- Is a member in a mask of the forced masks: 0 `incl`, 1 `late` (R415)? -/
def ChainRun.forced (r : ChainRun) (mask member : Nat) : Bool := bitAt r.force (4096 * mask + member)

/-- The window address of a semaphore (R363), which a SIGNAL packet names. -/
def semAddr (i : Nat) : Nat := 0x200001000000 + 16 * i

/-- A signal of another chip's semaphore that was not delivered (R332): recorded and logged, with the chip as detail. -/
def State.signalLost (s : State) (st : Status) (chip sem : Nat) : State := (s.syncFault st 0 sem).logEvent st 6 sem chip

/-- A signal of a semaphore of a chip (R332, R408): here at once, elsewhere by a SIGNAL packet; one that no route reaches is recorded
here. -/
def State.signalAt (s : State) (chip sem : Nat) : State :=
  if chip = s.fab.chipNum then s.signalSem sem
  else
    let r := s.request (.farSignal sem) (mkPacket .signal chip (semAddr sem) [])
    if r.2 then r.1 else r.1.signalLost .linkRetryExhausted chip sem

/-- A transfer of a member and the signal after it, on this chip at once; to another chip once it and every earlier transfer are
acknowledged (R408). An unroutable transfer fails the item. -/
def State.chainSend (s : State) (core chip addr : Nat) (data : List Byte) (sem : Option Nat) : State :=
  if chip = s.fab.chipNum then
    let w := s.writeNear addr data
    if w.2 ≠ .ok then w.1.failChain core w.2
    else
      match sem with
      | some i => w.1.signalSem i
      | none => w.1
  else
    let id := (s.core core).chain.elim 0 (·.nextSend)
    let w := s.remoteWrite (.chain core id) chip addr data
    if !w.2.2 then w.1.failChain core .linkRetryExhausted
    else
      match (w.1.core core).chain with
      | some r => w.1.setChain core { r with
          sends := r.sends ++ [{ id := id, owed := w.2.1, chip := chip, sem := sem }], nextSend := id + 1 }
      | none => w.1

/-- The bytes of a CHECK packet that asks for an extent of physical near memory: the extent's length, then 1 for a write. The manual
does not state the packet's body. -/
def checkBody (len : Nat) : List Byte := leBytes 8 len ++ leBytes 8 1

/-- A holder's check of an extent of physical near memory that chain data are to be written to (R395, R585). -/
def holderCheck (addr len : Nat) : Status := if extentsOk [(addr, len, true)] then .ok else .pageFault

/-- The check of an extent by its holder asked for. -/
def State.chainAsk (s : State) (core chip addr len : Nat) : State :=
  if chip = s.fab.chipNum then
    let st := holderCheck addr len
    if st = .ok then s else s.failChain core st
  else
    let w := s.request (.chainCheck core) (mkPacket .check chip addr (checkBody len))
    if !w.2 then w.1.failChain core .linkRetryExhausted
    else
      match (w.1.core core).chain with
      | some r => w.1.setChain core { r with checks := r.checks + 1 }
      | none => w.1

/-- The item ends with OK once nothing is left to do or to be acknowledged. -/
def State.chainSettle (s : State) (core : Nat) : State :=
  match (s.core core).chain with
  | some r =>
    if r.stage = .ending ∧ r.sends = [] then
      let s := (s.dropWaiter (.chain core)).dropWaiter (.chainArr core)
      (s.setCore core { s.core core with chain := none }).endUpdate r.queue r.item .ok
    else s
  | none => s

/-- A member's stage changed. -/
def State.chainStage (s : State) (core : Nat) (g : ChainStage) : State :=
  match (s.core core).chain with
  | some r => s.setChain core { r with stage := g }
  | none => s

/-- The leading transfers that are wholly acknowledged signalled, in order; `fuel` is at least their number. -/
def State.chainSignals : Nat → State → Nat → State
  | 0, s, _ => s
  | fuel + 1, s, core =>
    match (s.core core).chain with
    | some r =>
      match r.sends with
      | e :: rest =>
        if e.owed ≠ 0 then s
        else
          let s := s.setChain core { r with sends := rest }
          State.chainSignals fuel (match e.sem with
            | some i => s.signalAt e.chip i
            | none => s) core
      | [] => s
    | none => s

/-- One acknowledgement of transfer `id` fewer owed. -/
def ackSend (id : Nat) (l : List ChainSend) : List ChainSend := l.map fun e => if e.id = id then { e with owed := e.owed - 1 } else e

/-- A peer's answer to transfer `id` of a member (R408, R418). -/
def State.chainAck (s : State) (core id : Nat) (st : Status) : State :=
  match (s.core core).chain with
  | some r =>
    if st ≠ .ok then s.failChain core st
    else ((s.setChain core { r with sends := ackSend id r.sends }).chainSignals r.sends.length core).chainSettle core
  | none => s

/-- A wait on `arr_sem` for the next transfer (R408). -/
def State.awaitArrival (s : State) (core : Nat) : State :=
  match (s.core core).chain with
  | some r =>
    let w := (s.setChain core { r with arrived := false }).registerWait (.chainArr core) [cdArr r.cd]
    if w.2 = .ok then w.1 else w.1.failChain core w.2
  | none => s

/-! ### The main pass (R409 to R411, R416) -/

/-- Does a member of a chain wait on its contribution: always in RECORD mode, in FORCE mode where a mask names it? -/
def ChainRun.waitsCtb (r : ChainRun) : Bool := !cdForce r.cd || r.forced 0 r.member || r.forced 1 r.member

/-- The header of a head (R407). -/
def freshHeader (d : BitVec 512) : List Byte :=
  leBytes 4 0x10000000 ++ leBytes 2 (cdId d) ++ [0, 0] ++ leBytes 8 (cdStep d) ++ List.replicate 0x3F0 0

/-- A CHAIN item begins (R406, R410, R415). -/
def State.chainBegin (s : State) (q : Nat) (x : BitVec 512) : State :=
  let core := (s.queue q).core
  let d := s.chainDesc x
  let f := if cdForce d then s.readNear (cdForceBase d) 0x400 else (s, .ok, [])
  if f.2.1 ≠ .ok then f.1.endItem q f.2.1
  else
    let r : ChainRun :=
      { queue := q, item := x, cd := d, succChip := (s.rankChip (cdMap d) (uSuccRank x)).getD 0,
        tailChip := (s.rankChip (cdMap d) (cdTailRank d)).getD 0, force := leNat f.2.2, beganFt := s.ft.toNat,
        stage := if uMember x = 0 then .decision else .header, hdr := freshHeader d }
    let s := f.1.setChain core r
    let w := if r.waitsCtb then s.registerWait (.chain core) [uCtb x] else (s, .ok)
    if w.2 ≠ .ok then w.1.failChain core w.2
    else
      let s := if r.isTail then w.1 else w.1.chainAsk core r.succChip (uArr x 2) (recvBytes (uN x) (cdSize d))
      if uMember x = 0 then s else s.awaitArrival core

/-- The contribution's elements [lo, lo + n). -/
def State.contribution (s : State) (r : ChainRun) (lo n : Nat) : State × Status × List Nat :=
  let k := uSize r.item
  let v := s.readNear (uArr r.item 0 + k * lo) (k * n)
  (v.1, v.2.1, elemsOf k n v.2.2)

/-- The running data of chunk `j` as it arrived: nothing where the header said that no member had been added (R409). -/
def State.arrivedChunk (s : State) (r : ChainRun) (j : Nat) : State × Status × Option (List Nat) :=
  if r.nonempty then
    let e := r.span j
    let v := s.readNear (uArr r.item 1 + 0x1000 + r.size * e.1) (r.size * e.2)
    (v.1, v.2.1, some (elemsOf r.size e.2 v.2.2))
  else (s, .ok, none)

/-- A chunk to which no member has been added, as a skipped member passes it on (R409, R411): as it stands in the receive buffer, with no
read judged; at the head, whose chunk nobody sent, free bytes. -/
def State.emptyChunk (s : State) (r : ChainRun) (j : Nat) : List Byte × State :=
  let e := r.span j
  if r.member = 0 then s.freeBytes (r.size * e.2) else (s.near (uArr r.item 1 + 0x1000 + r.size * e.1) (r.size * e.2), s)

/-- The running sum of a chunk passed on: to the successor, or at the tail into its result array. -/
def State.passChunk (s : State) (core : Nat) (r : ChainRun) (j : Nat) (bytes : List Byte) : State :=
  let o := r.size * (r.span j).1
  if r.isTail then
    let w := s.writeNear (uArr r.item 4 + o) bytes
    if w.2 = .ok then w.1 else w.1.failChain core w.2
  else s.chainSend core r.succChip (uArr r.item 2 + 0x1000 + o) bytes (some (cdArr r.cd))

/-- Chunk `j` formed and passed on (R411). -/
def State.doChunk (s : State) (core : Nat) (r : ChainRun) (j : Nat) : State :=
  let e := r.span j
  let a := s.arrivedChunk r j
  if a.2.1 ≠ .ok then a.1.failChain core a.2.1
  else if r.included then
    let c := a.1.contribution r e.1 e.2
    if c.2.1 ≠ .ok then c.1.failChain core c.2.1
    else
      let h := hopAll (cdRun r.cd) (uFmt r.item) a.2.2 c.2.2
      (c.1.bumpSeenN (coreOff core 0x8058) (coreOff core 0x8000) 4 h.2).passChunk core r j (bytesOfElems r.size h.1)
  else
    match a.2.2 with
    | some l => a.1.passChunk core r j (bytesOfElems r.size l)
    | none =>
      if r.isTail then a.1
      else
        let f := a.1.emptyChunk r j
        f.2.passChunk core r j f.1

/-- The trailer formed from the one that arrived and passed on, and what follows the main pass (R411, R416, R412, R413). -/
def State.doTrailer (s : State) (core : Nat) (r : ChainRun) (tr : List Byte) : State :=
  let c := if r.included then s.contribution r 0 r.n else (s, .ok, [])
  if c.2.1 ≠ .ok then c.1.failChain core c.2.1
  else
    let old : W32 := BitVec.ofNat 32 (leNat (tr.take 4))
    let sum := if r.included then f32add old (sqNorm (uFmt r.item) c.2.2) else old
    let s := c.1
    let next : ChainStage := if r.isTail then .tailWait else if r.included || !r.waitsCtb then .ending else .grace
    let s := match (s.core core).chain with
      | some r' => s.setChain core { r' with sumSq := sum, mainEndFt := s.ft.toNat, stage := next }
      | none => s
    let s := if r.isTail then s
      else s.chainSend core r.succChip (uArr r.item 2 + 0x400) (leBytes 4 sum.toNat ++ tr.drop 4) (some (cdArr r.cd))
    s.chainSettle core

/-- Does a core's CHAIN item still run? -/
def State.chaining (s : State) (core : Nat) : Bool := (s.core core).chain.isSome

/-- The head's whole main pass: every chunk in ascending order, then the trailer. -/
def State.headPass (s : State) (core : Nat) (r : ChainRun) : State :=
  let s := (List.range r.chunks).foldl (fun (t : State) j => if t.chaining core then t.doChunk core r j else t) s
  if s.chaining core then s.doTrailer core r (List.replicate 0x40 0) else s

/-- The instant t_k of a member in RECORD mode (R410). -/
def ChainRun.decisionAt (r : ChainRun) : Nat :=
  max (cdDlBase r.cd + r.member * cdDlStep r.cd) (if r.member = 0 then r.beganFt else r.headerFt)

/-- Was a member's wait satisfied by instant `t`, the control cycle in which FT reached it included (R410, R412)? -/
def ChainRun.satisfiedBy (r : ChainRun) (t : Nat) : Bool := r.satisfied && decide (r.satisfiedFt ≤ t ∨ r.satisfiedPrev < t)

/-- A header with the member included (R411). -/
def includeIn (hdr : List Byte) (k : Nat) : List Byte :=
  let h := putByte hdr (0x100 + k / 8) (leNat ((hdr.drop (0x100 + k / 8)).take 1) ||| 2 ^ (k % 8))
  let n := leNat ((h.drop 0x10).take 4) + 1
  let h := h.take 0x10 ++ leBytes 4 n ++ h.drop 0x14
  putByte h 0 (leNat (h.take 1) ||| 1)

/-- The decision made (R411, R415): the header sent on, and at the head the main pass. -/
def State.chainDecide (s : State) (core : Nat) (r : ChainRun) (incl : Bool) (tk : Nat) : State :=
  let st := coreOff core 0x8000
  let r := { r with included := incl, tk := tk, stage := .chunks, hdr := if incl then includeIn r.hdr r.member else r.hdr }
  let s := s.setChain core r
  let s := if incl then s else s.bumpSeen (coreOff core 0x8038) st 2
  let s := if incl || r.waitsCtb then s else s.bumpSeen (coreOff core 0x8048) st 3
  let s := if r.isTail then s else s.chainSend core r.succChip (uArr r.item 2) r.hdr (some (cdArr r.cd))
  if s.chaining core && decide (r.member = 0) then s.headPass core r else s

/-- CHAIN_DECISION: in RECORD mode at t_k, to skip the member once its control cycle is over; in FORCE mode once an included member's
contribution is there (R410, R415). -/
def State.chainDecision (s : State) (core : Nat) : State :=
  match (s.core core).chain with
  | some r =>
    if r.stage ≠ .decision ∨ r.checks ≠ 0 then s
    else if cdForce r.cd then
      let incl := r.forced 0 r.member
      if incl && !r.satisfied then s else s.chainDecide core r incl s.ft.toNat
    else if r.satisfiedBy r.decisionAt then
      if s.ft.toNat < r.decisionAt then s else s.chainDecide core r true r.decisionAt
    else if r.decisionAt < s.ft.toNat ∧ s.pastBy r.decisionAt then s.chainDecide core r false r.decisionAt
    else s
  | none => s

/-! ### Arrivals -/

/-- A transfer lands with the command: its bytes in the receive buffer, and `arr_sem` signalled. With no bytes it is already in place,
written by packets or by a member on this chip; bytes of another length are no transfer of this chain. -/
def State.land (s : State) (r : ChainRun) (off len : Nat) (bytes : List Byte) : State :=
  if bytes.length = len ∧ bytes ≠ [] then
    let w := s.writeNear (uArr r.item 1 + off) bytes
    if w.2 = .ok then w.1.signalSem (cdArr r.cd) else w.1
  else s

/-- What a member does with a transfer of a stage, once it is in place. -/
def State.arrive (s : State) (core : Nat) (g : ChainStage) (off len : ChainRun → Nat) (bytes : List Byte)
    (go : State → ChainRun → State) : State :=
  match (s.core core).chain with
  | some r =>
    if r.stage ≠ g ∨ r.member = 0 then s
    else
      let s := s.land r (off r) (len r) bytes
      match (s.core core).chain with
      | some r => if r.arrived then go s r else s
      | none => s
  | none => s

/-- Are bytes [lo, hi) of a list zero? -/
def zeroSpan (l : List Byte) (lo hi : Nat) : Bool := ((l.drop lo).take (hi - lo)).all fun b => b == 0

/-- What a member finds in a header (R11, R12, R407, R409): its version, its reserved fields, and the chain and step it is for. -/
def headerStatus (d : BitVec 512) (h : List Byte) : Status :=
  let w := leNat (h.take 4)
  let id := leNat ((h.drop 4).take 2)
  let step := leNat ((h.drop 8).take 8)
  firstBad
    [need (decide (bits w 31 28 = 1)) .versionUnsupported,
     need (decide (bits w 27 1 = 0) && zeroSpan h 0x006 0x008 && zeroSpan h 0x014 0x100 && zeroSpan h 0x300 0x400) .reservedNonzero,
     need (decide (id = cdId d ∧ step = cdStep d)) .stateConflict]

/-- The header is in place (R409, R410). -/
def State.headerIn (s : State) (core : Nat) (r : ChainRun) : State :=
  let v := s.readNear (uArr r.item 1) 0x400
  let st := v.2.1.orElse (headerStatus r.cd v.2.2)
  if st ≠ .ok then v.1.failChain core st
  else
    let r := { r with
      hdr := v.2.2, nonempty := bitAt (leNat (v.2.2.take 1)) 0, headerFt := r.arrivedFt, stage := .decision }
    (v.1.setChain core r).awaitArrival core

/-- A chunk is in place (R411). -/
def State.chunkIn (s : State) (core : Nat) (r : ChainRun) : State :=
  let last := decide (r.chunks ≤ r.chunk + 1)
  let r := { r with chunk := r.chunk + 1, stage := if last then .trailer else .chunks }
  let s := (s.setChain core r).doChunk core r (r.chunk - 1)
  s.awaitArrival core

/-- The trailer is in place, its reserved bytes zero (R407, R416). -/
def State.trailerIn (s : State) (core : Nat) (r : ChainRun) : State :=
  let v := s.readNear (uArr r.item 1 + 0x400) 0x40
  let st := v.2.1.orElse (need (zeroSpan v.2.2 4 0x40) .reservedNonzero)
  if st ≠ .ok then v.1.failChain core st else v.1.doTrailer core r v.2.2

/-! ### Late contributions (R412 to R415) -/

/-- A contribution of this member dropped. -/
def State.chainDrop (s : State) (core : Nat) : State :=
  (((s.dropWaiter (.chain core)).bumpSeen (coreOff core 0x8048) (coreOff core 0x8000) 3).chainStage core .ending).chainSettle core

/-- Has a skipped member's wait been satisfied in time (R412, R415)? -/
def ChainRun.inGrace (r : ChainRun) : Bool := r.satisfied && (cdForce r.cd || r.satisfiedBy (cdGrace r.cd))

/-- `CH_LATE_NS` of a skipped member (R412): no deadline is judged in FORCE mode. -/
def State.countLate (s : State) (core : Nat) (r : ChainRun) : State :=
  if cdForce r.cd then s
  else s.bumpCore core 0x8050 ((if r.inGrace then r.satisfiedFt else cdGrace r.cd) - r.tk)

/-- A late slot claimed: the old value of the claim word is known, and the holder's check has passed (R412, steps 2 to 4). -/
def State.lateGo (s : State) (core : Nat) : State :=
  match (s.core core).chain with
  | some r =>
    if r.stage ≠ .claim ∨ r.checks ≠ 0 then s
    else
      match r.claimed with
      | none => s
      | some slot =>
        if cdLateSlots r.cd ≤ slot then s.chainDrop core
        else
          let c := s.contribution r 0 r.n
          if c.2.1 ≠ .ok then c.1.failChain core c.2.1
          else
            let data := bytesOfElems r.size (c.2.2.map (toRunning (cdRun r.cd) (uFmt r.item)))
            let base := cdLateBase r.cd
            let s := c.1.chainSend core r.tailChip (base + 0x1000 + slot * lateStride r.n r.size) data none
            let s := if s.chaining core then
              s.chainSend core r.tailChip (base + 0x40 + 4 * slot) (leBytes 4 (2 ^ 31 + r.member)) (some (cdLate r.cd)) else s
            (s.chainStage core .ending).chainSettle core
  | none => s

/-- The body of an ATOMIC packet: the operation code, the home, and its operands. The manual does not state it. -/
def atomicBody (code home op0 op1 : Nat) : List Byte := leBytes 4 code ++ leBytes 4 home ++ leBytes 8 op0 ++ leBytes 8 op1

/-- The claim of a late slot (R412, step 1). -/
def State.lateClaim (s : State) (core : Nat) (r : ChainRun) : State :=
  let base := cdLateBase r.cd
  let s := (s.setChain core { r with stage := .claim }).chainAsk core r.tailChip base (lateBytes (cdLateSlots r.cd) r.n r.size)
  if !s.chaining core then s
  else if r.tailChip = s.fab.chipNum then
    let a := s.amoAt (cdTailCore r.cd) base 0 4 1 0
    if a.2.1 ≠ .ok then a.1.failChain core a.2.1
    else
      match (a.1.core core).chain with
      | some r => (a.1.setChain core { r with claimed := some a.2.2 }).lateGo core
      | none => a.1
  else
    let w := s.request (.lateClaim core) (mkPacket .atomic r.tailChip base (atomicBody 0 (cdTailCore r.cd) 1 0))
    if w.2 then w.1 else w.1.failChain core .linkRetryExhausted

/-- A holder's answer to a check (R395, R418). -/
def State.chainCheckAck (s : State) (core : Nat) (st : Status) : State :=
  match (s.core core).chain with
  | some r => if st ≠ .ok then s.failChain core st else (s.setChain core { r with checks := r.checks - 1 }).lateGo core
  | none => s

/-- The tail's answer to a claim. -/
def State.claimAck (s : State) (core : Nat) (st : Status) (old : Nat) : State :=
  match (s.core core).chain with
  | some r => if st ≠ .ok then s.failChain core st else (s.setChain core { r with claimed := some old }).lateGo core
  | none => s

/-- LATE_COPY: a skipped member's contribution is there within the grace window. -/
def State.lateCopy (s : State) (core : Nat) : State :=
  match (s.core core).chain with
  | some r =>
    if r.stage ≠ .grace ∨ r.inGrace = false then s
    else
      let s := s.countLate core r
      if cdLateSlots r.cd = 0 then s.chainDrop core else s.lateClaim core r
  | none => s

/-- GRACE_END: the grace window closes on a skipped member, after the control cycle in which FT reaches `grace_end`. -/
def State.graceEnd (s : State) (core : Nat) : State :=
  match (s.core core).chain with
  | some r =>
    if r.stage ≠ .grace ∨ cdForce r.cd = true ∨ r.inGrace = true ∨ s.pastBy (cdGrace r.cd) = false then s
    else (s.countLate core r).chainDrop core
  | none => s

/-! ### The late fold and the chain record (R413, R414, R416, R417) -/

/-- The members named in a 512-byte mask held as a number. -/
def maskMembers (m last : Nat) : List Nat := (List.range (last + 1)).filter (bitAt m)

/-- The `incl` mask of a header. -/
def hdrIncl (hdr : List Byte) : Nat := leNat ((hdr.drop 0x100).take 512)

/-- The skipped members that the fold waits for: all of them in RECORD mode, in FORCE mode those of the `late` mask. -/
def ChainRun.lateWanted (r : ChainRun) : List Nat :=
  (List.range (cdLast r.cd + 1)).filter fun p => !bitAt (hdrIncl r.hdr) p && (!cdForce r.cd || r.forced 1 p)

/-- Has every late contribution landed (R413)? -/
def State.allLanded (s : State) (r : ChainRun) : Bool :=
  let others := r.lateWanted.filter (· ≠ r.member)
  (others.isEmpty || decide ((s.sem (cdLate r.cd)).count.toNat = others.length)) &&
  (!r.lateWanted.contains r.member || r.satisfied)

/-- Has the fold instant come: FT at `grace_end`, or every late contribution landed (R413, R415)? -/
def State.foldDue (s : State) (r : ChainRun) : Bool := (!cdForce r.cd && decide (cdGrace r.cd ≤ s.ft.toNat)) || s.allLanded r

/-- The entries of a late area that are valid: member and slot. -/
def slotEntries (n : Nat) (bytes : List Byte) : List (Nat × Nat) :=
  (List.range n).filterMap fun j =>
    let e := wordAt 4 bytes j
    if bitAt e 31 then some (bits e 30 0, j) else none

/-- The fold instant as it stands in this control cycle. -/
def State.foldHere (s : State) (r : ChainRun) : FoldPoint :=
  { ft := s.ft.toNat,
    slots := (slotEntries (cdLateSlots r.cd) (s.near (cdLateBase r.cd + 0x40) (4 * cdLateSlots r.cd))).map (·.2), own := r.satisfied }

/-- The fold instant F, once it has come (R413): the one recorded in an earlier control cycle, or this one. -/
def State.foldAt (s : State) (r : ChainRun) : Option FoldPoint :=
  match r.fold with
  | some f => some f
  | none => if s.foldDue r then some (s.foldHere r) else none

/-- At the end of a control cycle, the fold instant of a core's tail recorded where it has come: what becomes valid later is dropped. -/
def State.noteFold (s : State) (core : Nat) : State :=
  match (s.core core).chain with
  | some r => if r.stage = .tailWait ∧ r.fold.isNone then s.setChain core { r with fold := s.foldAt r } else s
  | none => s

/-- Insert a slot by ascending member index. -/
def slotInsert (e : Nat × Nat) : List (Nat × Nat) → List (Nat × Nat)
  | [] => [e]
  | f :: rest => if e.1 < f.1 then e :: f :: rest else f :: slotInsert e rest

/-- The fold's running state: the sum, `sum_sq`, the members folded, the saturated hops, and the first status that is not OK. -/
structure Fold where
  acc : Option (List Nat)
  sumSq : W32
  folded : List Nat := []
  sats : Nat := 0
  status : Status := .ok

/-- One contribution folded: `x` in format `fmt`, converted to the running format, over which its squared norm is taken (R413, R416). -/
def Fold.add (F : Fold) (run fmt member : Nat) (x : List Nat) : Fold :=
  let y := x.map (toRunning run fmt)
  let h := hopAll run (runFmt run) F.acc y
  { F with
    acc := some h.1, sats := F.sats + h.2, folded := F.folded ++ [member],
    sumSq := f32add F.sumSq (sqNorm (runFmt run) y) }

/-- The slots of a late area that were valid at F: member and slot, by ascending member. -/
def State.lateSlots (s : State) (r : ChainRun) (f : FoldPoint) : State × Status × List (Nat × Nat) :=
  if cdLateSlots r.cd = 0 then (s, .ok, [])
  else
    let v := s.readNear (cdLateBase r.cd + 0x40) (4 * cdLateSlots r.cd)
    let es := (slotEntries (cdLateSlots r.cd) v.2.2).filter fun e => f.slots.contains e.2
    (v.1, v.2.1, es.foldl (fun l e => slotInsert e l) [])

/-- One slot folded. -/
def State.foldSlot (r : ChainRun) (a : State × Fold) (e : Nat × Nat) : State × Fold :=
  let v := a.1.readNear (cdLateBase r.cd + 0x1000 + e.2 * lateStride r.n r.size) (r.size * r.n)
  if v.2.1 ≠ .ok then (v.1, { a.2 with status := a.2.status.orElse v.2.1 })
  else (v.1, a.2.add (cdRun r.cd) (runFmt (cdRun r.cd)) e.1 (elemsOf r.size r.n v.2.2))

/-- The chain record (R417). -/
def chainRecord (r : ChainRun) (incl late : Nat) (sumSq sqTotal : W32) (fold : Nat) : List Byte :=
  let last := cdLast r.cd
  let dropped := (List.range (last + 1)).foldl (fun m p => if bitAt incl p || bitAt late p then m else m + 2 ^ p) 0
  let count := fun (m : Nat) => (maskMembers m last).length
  leBytes 4 0x10000000 ++ leBytes 2 (cdId r.cd) ++ leBytes 2 (last + 1) ++ leBytes 8 (cdStep r.cd) ++
  leBytes 2 (count incl) ++ leBytes 2 (count late) ++ leBytes 2 (count dropped) ++ [0, 0] ++
  leBytes 4 sumSq.toNat ++ leBytes 4 sqTotal.toNat ++ leBytes 8 fold ++ List.replicate 0xD8 0 ++
  leBytes 512 incl ++ leBytes 512 late ++ leBytes 512 dropped ++ List.replicate 0x100 0

/-- FT of the fold (R417): F, or the end of the main pass when no member was skipped. -/
def ChainRun.foldFt (r : ChainRun) (f : FoldPoint) : Nat := if r.lateWanted.isEmpty then r.mainEndFt else f.ft

/-- The fold carried out at F (R413, R414). -/
def State.foldNow (s : State) (core : Nat) (r : ChainRun) (p : FoldPoint) : State :=
  let run := cdRun r.cd
  let start := if bitAt (leNat (r.hdr.take 1)) 0 then s.readNear (uArr r.item 4) (r.size * r.n) else (s, .ok, [])
  let acc := if bitAt (leNat (r.hdr.take 1)) 0 then some (elemsOf r.size r.n start.2.2) else none
  let slots := start.1.lateSlots r p
  let st := start.2.1.orElse slots.2.1
  if st ≠ .ok then slots.1.failChain core st
  else
    let f := slots.2.2.foldl (State.foldSlot r) (slots.1, { acc := acc, sumSq := r.sumSq })
    let own := r.lateWanted.contains r.member
    let onTime := own && p.own
    let c := if onTime then f.1.contribution r 0 r.n else (f.1, .ok, [])
    let st := f.2.status.orElse c.2.1
    if st ≠ .ok then c.1.failChain core st
    else
      let F := if onTime then f.2.add run (uFmt r.item) r.member c.2.2 else f.2
      let sum := F.acc.getD (List.replicate r.n 0)
      let late := F.folded.foldl (fun m p => m ||| 2 ^ p) 0
      let s := c.1.bumpSeenN (coreOff core 0x8058) (coreOff core 0x8000) 4 F.sats
      let s := s.bumpCore core 0x8040 F.folded.length
      let s := if own then s.countLate core r else s
      let s := if own && !onTime then s.bumpSeen (coreOff core 0x8048) (coreOff core 0x8000) 3 else s
      let rec_ := chainRecord r (hdrIncl r.hdr) late F.sumSq (sqNorm (runFmt run) sum) (r.foldFt p)
      let w := s.writeAll [(uArr r.item 4, bytesOfElems r.size sum), (cdRecBase r.cd, rec_)]
      if w.2 ≠ .ok then w.1.failChain core w.2
      else (w.1.chainStage core .ending).chainSettle core

/-- LATE_FOLD: the fold instant at the tail. -/
def State.lateFold (s : State) (core : Nat) : State :=
  match (s.core core).chain with
  | some r =>
    if r.stage ≠ .tailWait then s
    else
      match s.foldAt r with
      | some f => s.foldNow core r f
      | none => s
  | none => s

/-! ### The engine -/

/-- The queue of the item under way on a core's update unit. -/
def State.updateUnderway (s : State) (core : Nat) : Bool := (s.core core).chain.isSome || (s.core core).optWait.isSome

/-- The update unit serves queue `q`, whose next item must be one that this command is about (R392, R395, R532). It takes no energy
tokens (R531). A CHAIN item does not begin before a swap of its map that is due in this control cycle: it uses the new bank (R422). -/
def State.update (s : State) (q op : Nat) : State :=
  let Q := s.queue q
  let mine := fun (x : BitVec 512) => decide (uOp x = op ∨ uVersion x ≠ 1 ∨ 2 ≤ uOp x)
  if decide (Q.kind ≠ 4) || !s.engineRuns Q.core || s.updateUnderway Q.core || (s.peekItem q).all (fun x => !mine x) then s
  else
    let s := if Q.held.isSome then s else s.takeItem q
    match s.readyItem q with
    | none => s
    | some x =>
      if (s.rivals q fun _ => true).any (fun r => s.before q r) then s
      else if decide (uOp x = 1) && s.dueSwap (cdMap (s.chainDesc x)) then s
      else
        match s.updateCheck x with
        | .ok => if uOp x = 0 then (s.served q).optGo q x else (s.served q).chainBegin q x
        | st => s.endItem q st

/-- The step-scalar block read again, 512 control cycles after the last read (R400). -/
def State.blockReread (s : State) (q : Nat) : State :=
  match (s.core (s.queue q).core).optWait, s.readyItem q with
  | some (q', t), some x => if decide (q' = q) && decide (t ≤ s.cycle.toNat) then s.optGo q x else s
  | _, _ => s

/-! ### Commands -/

/-- OPT (R402): the next item of an UPDATE queue, where it is an OPT item. -/
def execOpt (q : Nat) (s : State) : Host.Outcome State Fault Refusal := ifUnit (isQueue q) "queue" (s.update q 0)
/-- BLOCK_REREAD (R400). -/
def execBlockReread (q : Nat) (s : State) : Host.Outcome State Fault Refusal := ifUnit (isQueue q) "queue" (s.blockReread q)
/-- CHAIN (R406, R411). -/
def execChain (q : Nat) (s : State) : Host.Outcome State Fault Refusal := ifUnit (isQueue q) "queue" (s.update q 1)
/-- CHAIN_DECISION (R410, R411, R415). -/
def execChainDecision (core : Nat) (s : State) : Host.Outcome State Fault Refusal :=
  ifUnit (isCore core) "core" (s.chainDecision core)
/-- CHAIN_HEADER_ARRIVAL (R407, R409). -/
def execChainHeaderArrival (core : Nat) (bytes : List Byte) (s : State) : Host.Outcome State Fault Refusal :=
  ifUnit (isCore core) "core" (s.arrive core .header (fun _ => 0) (fun _ => 0x400) bytes fun t r => t.headerIn core r)
/-- CHAIN_CHUNK_ARRIVAL (R407, R411). -/
def execChainChunkArrival (core : Nat) (bytes : List Byte) (s : State) : Host.Outcome State Fault Refusal :=
  ifUnit (isCore core) "core"
    (s.arrive core .chunks (fun r => 0x1000 + r.size * (r.span r.chunk).1) (fun r => r.size * (r.span r.chunk).2) bytes
      fun t r => t.chunkIn core r)
/-- CHAIN_TRAILER_ARRIVAL (R407, R416). -/
def execChainTrailerArrival (core : Nat) (bytes : List Byte) (s : State) : Host.Outcome State Fault Refusal :=
  ifUnit (isCore core) "core" (s.arrive core .trailer (fun _ => 0x400) (fun _ => 0x40) bytes fun t r => t.trailerIn core r)
/-- LATE_COPY (R412). -/
def execLateCopy (core : Nat) (s : State) : Host.Outcome State Fault Refusal := ifUnit (isCore core) "core" (s.lateCopy core)
/-- GRACE_END (R412). -/
def execGraceEnd (core : Nat) (s : State) : Host.Outcome State Fault Refusal := ifUnit (isCore core) "core" (s.graceEnd core)
/-- LATE_FOLD (R413 to R417). -/
def execLateFold (core : Nat) (s : State) : Host.Outcome State Fault Refusal := ifUnit (isCore core) "core" (s.lateFold core)

end Sys2Proof.Machine
end

