-- ==== Sys2Proof/Machine/Vector.lean ====
section
/-! DEFINITION. The vector engine (R126 to R175): sources and destinations, the checks of a work item, its tile-by-tile work, and
the vector commands. -/

namespace Sys2Proof.Machine

/-! ### Work items (R133) -/

def veOp (x : BitVec 512) : Nat := fld x 507 504
def veSub (x : BitVec 512) : Nat := fld x 503 500
def veFn (x : BitVec 512) : Nat := fld x 499 496
def veTbl (x : BitVec 512) : Nat := fld x 495 493
def veOutFmt (x : BitVec 512) : Nat := fld x 492 489
def veRnd (x : BitVec 512) : Nat := fld x 488 487
def veBias (x : BitVec 512) : Bool := fbit x 485
def veRes (x : BitVec 512) : Bool := fbit x 484
def veScaleEn (x : BitVec 512) : Bool := fbit x 483
def veMask (x : BitVec 512) : Bool := fbit x 482
def veRsInit (x : BitVec 512) : Bool := fbit x 481
def veKind0 (x : BitVec 512) : Nat := fld x 479 478
def veGran0 (x : BitVec 512) : Nat := fld x 477 465
def veSrc0 (x : BitVec 512) (p : Nat) : Nat := fld x 477 465 + p * fld x 464 452
def veKind1 (x : BitVec 512) : Nat := fld x 451 450
def veSrc1 (x : BitVec 512) (p : Nat) : Nat := fld x 449 437 + p * fld x 436 424
def veKindD (x : BitVec 512) : Nat := fld x 423 422
def veDst (x : BitVec 512) (p : Nat) : Nat := fld x 421 409 + p * fld x 408 396
def veAux (x : BitVec 512) : Nat := fld x 395 383
def veTiles (x : BitVec 512) : Nat := fld x 382 378
def veScale (x : BitVec 512) : W32 := BitVec.ofNat 32 (fld x 363 332)

/-- Does the item read a second source (R134)? -/
def veUses1 (x : BitVec 512) : Bool :=
  match veOp x with
  | 0 => veRes x
  | 1 => true
  | 2 => decide (veSub x = 4) && veBias x
  | 4 => true
  | _ => false

/-- Is the item a ROWSTAT one that writes its record (R165, R166)? -/
def veStat (x : BitVec 512) : Bool := decide (veOp x = 2 ∧ veSub x ≤ 2)

/-- The tile indices of an item. -/
def veRange (x : BitVec 512) : List Nat := List.range (veTiles x)

/-- The bits that an item must leave zero: reserved ones, and the fields its opcode does not use (R134). -/
def veUnused (x : BitVec 512) : List (Nat × Nat) :=
  let src1 := (451, 424)
  let out := [(492, 486), (408, 396), (319, 192)]
  let fixed := [(480, 480), (365, 364), (331, 320), (140, 128), (63, 0)]
  fixed ++
  match veOp x with
  | 0 => (481, 481) :: (if veRes x then [] else [src1])
  | 1 => [(499, 493), (485, 483), (481, 481), (395, 383), (363, 332)]
  | 2 =>
    (match veSub x with
      | 0 => [(499, 493), (485, 482), src1, (363, 332)] ++ out
      | 1 => [(499, 493), (485, 482), src1, (363, 332)] ++ out
      | 2 => [(499, 493), (485, 483), src1, (363, 332)]
      | 3 => [(499, 493), (485, 483), (481, 481), src1, (363, 332)]
      | _ => [(499, 493), (484, 481)] ++ (if veBias x then [] else [src1]))
  | 3 => [(499, 493), (485, 481), src1, (395, 383), (363, 332)]
  | 4 => [(499, 493), (485, 481), (395, 383), (363, 332)]
  | 5 => [(499, 493), (485, 481), src1, (395, 383), (363, 332)]
  | _ => [(499, 496), (485, 481), (479, 452), src1, (377, 366), (363, 332)] ++ out

/-- The number of variants of an opcode (R134). -/
def veSubs (op : Nat) : Nat :=
  match op with
  | 0 => 1 | 1 => 6 | 2 => 5 | 3 => 4 | 4 => 2 | 5 => 2 | 6 => 1 | _ => 0

/-- The destination kinds of an item's operation (R134). -/
def veDstOk (x : BitVec 512) : Bool :=
  let d := veKindD x
  match veOp x with
  | 2 =>
    (match veSub x with
      | 0 => decide (d = 1)
      | 1 => decide (d = 1)
      | 2 => decide (d = 1) || (decide (d = 0 ∨ d = 2) && decide (veTiles x = 1))
      | _ => decide (d = 0 ∨ d = 2))
  | 6 => decide (d = 1)
  | _ => decide (d = 0 ∨ d = 2)

/-- The index rules of one operand kind (R127, R129). -/
def veIndexOk (x : BitVec 512) (kind gran : Nat) : Bool :=
  match kind with
  | 0 => true
  | 1 => decide (gran = 0)
  | _ => decide (kind = 2 ∧ gran ≤ 3 ∧ veTiles x = 1)

/-- Check 2 of R137. -/
def veReservedOk (x : BitVec 512) : Bool :=
  decide (veSub x < veSubs (veOp x)) && zeros x (veUnused x) && decide (1 ≤ veTiles x ∧ veTiles x ≤ 16) &&
  (decide (veOp x ≠ 6) || decide (veTiles x = 1)) && decide (veOutFmt x ≤ 12 ∧ veRnd x ≤ 1 ∧ veFn x ≤ 12) &&
  veIndexOk x (veKind0 x) (veGran0 x) && decide (veKind1 x ≠ 1) && veIndexOk x (veKind1 x) (fld x 449 437) &&
  veDstOk x && veIndexOk x (veKindD x) (fld x 421 409) && (decide (veKindD x ≠ 2) || decide (veOutFmt x = 0)) &&
  (decide (veKind0 x ≠ 1) || decide (fld x 377 366 = 0))

/-! ### Sources (R126 to R130) -/

/-- One source tile: its format, valid part, tag and exact elements. -/
structure VSrc where
  fmt : Nat
  m : Nat
  n : Nat
  tag : W128
  val : Nat → Nat → FVal

/-- An element widened to FP32 (R126, R139). -/
def VSrc.wide (t : VSrc) (r c : Nat) : W32 := toF32 (t.val r c)

/-- A tile buffer. -/
def State.buf (s : State) (core b : Nat) : TileBuf := Store.get {} s.bufs (core * 4 + b)
/-- The state with a tile buffer replaced. -/
def State.setBuf (s : State) (core b : Nat) (v : TileBuf) : State := { s with bufs := Store.set {} s.bufs (core * 4 + b) v }

/-- A word of FP32, or of INT32 by the format code. -/
def wordVal (fmt : Nat) (w : W32) : FVal := if fmt = 12 then .ofInt w.toInt else f32 w

/-- The tile in tile memory at granule `g`, with `m` and `n` valid. -/
def State.memSrc (s : State) (core g m n : Nat) : VSrc :=
  let t := s.tag core g
  let bytes := s.tileAt core g (tagFmt t)
  { fmt := tagFmt t, m := m, n := n, tag := t, val := tileVal (tagFmt t) bytes }

/-- A source tile of kind 0 or 2 by its index. -/
def State.kindSrc (s : State) (core kind g m n : Nat) : VSrc :=
  if kind = 2 then
    let b := s.buf core g
    { fmt := tagFmt b.tag, m := m, n := n, tag := b.tag, val := fun r c => wordVal (tagFmt b.tag) (Store.get 0 b.words (wordIx r c)) }
  else s.memSrc core g m n

/-- A finished-tile entry as a source (R130). -/
def FtqEntry.src (e : FtqEntry) : VSrc :=
  { fmt := tagFmt e.tag, m := e.m, n := e.n, tag := e.tag, val := fun r c => wordVal (tagFmt e.tag) (Store.get 0 e.words (wordIx r c)) }

/-- The valid rows and columns of an item without a finished-tile source. -/
def veM (x : BitVec 512) : Nat := m1 x 377 372
def veN (x : BitVec 512) : Nat := m1 x 371 366

/-- Source 0 of tile `p`; the head of the finished-tile queue for kind 1. -/
def State.veSource0 (s : State) (core : Nat) (x : BitVec 512) (p : Nat) : VSrc :=
  if veKind0 x = 1 then ((s.ftqOf core).headD {}).src else s.kindSrc core (veKind0 x) (veSrc0 x p) (veM x) (veN x)

/-- Source 1 of tile `p`. -/
def State.veSource1 (s : State) (core : Nat) (x : BitVec 512) (p : Nat) : VSrc :=
  s.kindSrc core (veKind1 x) (veSrc1 x p) (veM x) (veN x)

/-! ### Checks (R137) -/

/-- The operand tiles whose tags are checked: kind and index of each, `src0` first, then `src1`, then the bias tile. -/
def veOperands (x : BitVec 512) : List (Nat × Nat) :=
  (if veOp x = 6 ∨ veKind0 x = 1 then [] else (veRange x).map fun p => (veKind0 x, veSrc0 x p)) ++
  (if veUses1 x then (veRange x).map fun p => (veKind1 x, veSrc1 x p) else []) ++
  (if veOp x = 0 ∧ veBias x = true then [(0, veAux x)] else [])

/-- The granules beside operands and destinations that an item uses: its record or its table image. -/
def veAuxExt (x : BitVec 512) : List (Nat × Nat) :=
  if veOp x = 2 then [(veAux x, 2)] else if veOp x = 6 then [(veAux x, 3)] else []

/-- A buffer's place in the numbering of extents, beyond every granule. A buffer is taken as an extent of the item in check 6, so that a
PERMUTE or SHUFFLE from a buffer into the same buffer is refused and an EPI in place on one is not (DESIGN CHOICE). -/
def bufExt (b : Nat) : Nat × Nat := (1000000 + b, 1)

/-- The extent of an operand or destination of a kind. -/
def kindExt (kind g n : Nat) : Nat × Nat := if kind = 2 then bufExt g else (g, n)

/-- The destination extents, one for each tile. -/
def veDstExt (x : BitVec 512) : List (Nat × Nat) :=
  if veKindD x = 1 then [] else (veRange x).map fun p => kindExt (veKindD x) (veDst x p) (fmtGranules (veOutFmt x))

/-- The tag of an operand tile. -/
def State.opTag (s : State) (core : Nat) (o : Nat × Nat) : W128 := if o.1 = 2 then (s.buf core o.2).tag else s.tag core o.2

/-- The extent of an operand tile, by its tag's format. -/
def State.opExt (s : State) (core : Nat) (o : Nat × Nat) : Nat × Nat := kindExt o.1 o.2 (fmtGranules (tagFmt (s.opTag core o)))

/-- The format of source 0 of tile `p` as the checks see it. -/
def State.veFmt0 (s : State) (core : Nat) (x : BitVec 512) (p : Nat) : Nat := (s.veSource0 core x p).fmt

/-- The formats that BF16 and FP16 hold exactly (R142, R70). -/
def exactIn (out src : Nat) : Bool := decide (src = out) || decide (src = 3 ∨ src = 4 ∨ src = 11)

/-- Does CONVERT permit a source format (R142)? -/
def convertOk (sub out src : Nat) : Bool :=
  if sub = 0 then fmtIsMx out || decide (fmtBits out < fmtBits src)
  else decide (out = 0) || (decide (out = 1 ∨ out = 2) && exactIn out src)

/-- Does the item read its record? -/
def veReadsRec (x : BitVec 512) : Bool := decide (veOp x = 2) && (decide (3 ≤ veSub x) || !veRsInit x)

/-- The rows of the record that check 5 looks at: those that the item's first tile makes valid, also where finished-tile entries of one item
have different row counts (DESIGN CHOICE). -/
def State.veRows (s : State) (core : Nat) (x : BitVec 512) : Nat := (s.veSource0 core x 0).m

/-- Check 5: formats of operands, and the record's reserved bits. -/
def State.veFormatsOk (s : State) (core : Nat) (x : BitVec 512) : Bool :=
  let f1 := fun p => tagFmt (s.opTag core (veKind1 x, veSrc1 x p))
  (match veOp x with
    | 0 => (!veBias x || decide (tagFmt (s.tag core (veAux x)) ≤ 2)) &&
        (!veRes x || (veRange x).all fun p => decide (f1 p ≠ 11 ∧ f1 p ≠ 12))
    | 2 => decide (veSub x ≠ 4) || !veBias x || (veRange x).all fun p => decide (f1 p ≤ 2)
    | 4 => (veRange x).all fun p => decide (f1 p = 11 ∨ f1 p = 12)
    | 5 => (veRange x).all fun p => convertOk (veSub x) (veOutFmt x) (s.veFmt0 core x p)
    | _ => true) &&
  (!veReadsRec x || (List.range (s.veRows core x)).all fun r => rowRsvdOk (s.recRow core (veAux x) r))

/-- May outputs lie on the source of the same tile (R137)? -/
def veInPlace (x : BitVec 512) : Bool := decide (veOp x ≤ 2 ∨ veOp x = 5)

/-- Check 6, its overlaps. -/
def State.veOverlapOk (s : State) (core : Nat) (x : BitVec 512) : Bool :=
  let d := veDstExt x
  let ext := (veOperands x).map (s.opExt core)
  let n0 := if veOp x = 6 ∨ veKind0 x = 1 then 0 else veTiles x
  !anyOverlap d &&
  d.zipIdx.all fun a =>
    ((ext.zipIdx).all fun b =>
      !overlaps a.1.1 a.1.2 b.1.1 b.1.2 || (decide (b.2 < n0) && veInPlace x && decide (b.2 = a.2) && decide (a.1 = b.1))) &&
    (veAuxExt x).all fun b => !overlaps a.1.1 a.1.2 b.1 b.2

/-- Check 6, its tables. -/
def State.veTablesOk (s : State) (core : Nat) (x : BitVec 512) : Bool :=
  match veOp x with
  | 0 =>
    (match fnNeeds (veFn x) (veTbl x) with
      | some k => s.slotMode core k.1 k.2
      | none => true)
  | 2 =>
    (match veSub x with
      | 2 => s.slotMode core 0 1 && s.slotMode core 1 2
      | 3 => s.slotMode core 0 1
      | 4 => s.slotMode core 3 4
      | _ => true)
  | _ => true

/-- The table image of a LOAD_TABLE. -/
def State.veImage (s : State) (core : Nat) (x : BitVec 512) : List Byte := s.tile core (2048 * veAux x) tableImageBytes

/-- The bytes of the image that a LOAD_TABLE reads: the header and the segments in use (R156). -/
def State.tableRead (s : State) (core : Nat) (x : BitVec 512) : Nat :=
  64 + 16 * hdSegs (BitVec.ofNat 512 (leNat (s.tile core (2048 * veAux x) 64)))

/-- The checks of a vector work item, in order (R137). -/
def State.vectorCheck (s : State) (q : Nat) (x : BitVec 512) : Status :=
  let core := (s.queue q).core
  let mem := (veOperands x).filter fun o => decide (o.1 = 0)
  if fld x 511 508 ≠ 1 then .versionUnsupported
  else if veReservedOk x = false then .reservedNonzero
  else
    firstBad
      [need (((if veKindD x = 0 then veDstExt x else []) ++ veAuxExt x).all fun e => decide (e.1 + e.2 ≤ 7168)) .pageFault,
       need (mem.all fun o => decide (o.2 < 7168)) .pageFault,
       firstBad ((veOperands x).map fun o => tagCheck (s.opTag core o)),
       need (mem.all fun o => footprintOk o.2 (tagFmt (s.opTag core o))) .pageFault,
       need (s.veFormatsOk core x) .reservedNonzero,
       need (s.veOverlapOk core x && s.veTablesOk core x) .stateConflict,
       (if veOp x = 6 ∧ (s.tileBad core (2048 * veAux x) (s.tableRead core x)).isNone = true then tableCheck (s.veImage core x) else .ok)]

/-! ### Estimates and resources -/

/-- The reference energy of one vector tile (R531). -/
def vectorTileEnergy (double fn mx : Bool) : Nat := (if double then 16 else 12) + (if fn then 6 else 0) + (if mx then 4 else 0)

/-- The estimate of a vector item and its phase (R531). A LOAD_TABLE has no operand tag, and takes phase 0. -/
def State.vectorEst (s : State) (core : Nat) (x : BitVec 512) : Nat × Nat :=
  if veOp x = 6 then (24, 0)
  else
    (4 + veTiles x * vectorTileEnergy (decide (veOp x = 4) || decide (veOp x = 3 ∧ veSub x = 1))
        (decide (veFn x ≠ 0) || decide (veOp x = 2 ∧ (veSub x = 2 ∨ veSub x = 3))) (fmtIsMx (veOutFmt x)),
     tagPhase (s.veSource0 core x 0).tag)

/-- Is the engine free for the item: no attention item holds it (R201), and its first finished-tile entry is there (R130)? -/
def State.vectorFree (s : State) (q : Nat) (x : BitVec 512) : Bool :=
  let core := (s.queue q).core
  (s.core core).walk.isNone && (decide (veOp x = 6) || decide (veKind0 x ≠ 1) || !(s.ftqOf core).isEmpty)

/-! ### The work of one tile -/

/-- One output element: its value before the output conversion, and whether an input of it was NaN (R141). -/
abbrev VOut := FVal × Bool

/-- Source 0 with masked elements as −∞ (R143), by the slots as the item began (R186). -/
def State.masked0 (s : State) (core : Nat) (x : BitVec 512) (t : VSrc) (r c : Nat) : W32 :=
  let slots := (((s.core core).vec).getD { queue := 0 }).slots
  if veMask x && tagMasks (Store.get 0 slots (tagSlot t.tag)) t.tag r c then 0xFF800000 else t.wide r c

/-- EPI (R138, R139). -/
def State.epiAt (s : State) (core p : Nat) (x : BitVec 512) (t : VSrc) (r c : Nat) : VOut :=
  if t.fmt = 12 ∧ veOutFmt x = 12 ∧ veFn x = 0 ∧ fld x 485 482 = 0 then (t.val r c, false)
  else
    let a := s.masked0 core x t r c
    let b := (s.memSrc core (veAux x) 1 64).wide 0 c
    let e := (s.veSource1 core x p).wide r c
    let y := if veBias x then f32add a b else a
    let y := fnApply (s.table core) (veFn x) (veTbl x) y
    let y := if veScaleEn x then f32mul y (veScale x) else y
    let y := if veRes x then f32add y e else y
    (f32 y, (f32 a).isNan || (veBias x && (f32 b).isNan) || (veScaleEn x && (f32 (veScale x)).isNan) || (veRes x && (f32 e).isNan))

/-- BINARY (R140). -/
def binaryOp (sub : Nat) (a b : W32) : W32 :=
  match sub with
  | 0 => f32add a b | 1 => f32sub a b | 2 => f32mul a b | 3 => f32div a b | 4 => f32max a b | _ => f32min a b

/-- A value and whether it was NaN on the way in. -/
def plainOut (w : W32) : VOut := (f32 w, (f32 w).isNan)

/-- An index of SHUFFLE within a limit (R145). -/
def shuffleIx (t : VSrc) (j lim : Nat) : Option Nat :=
  let i := (t.val 0 j).toIntR .rne
  if 0 ≤ i ∧ i < lim then some i.toNat else none

/-- The index that SHUFFLE uses for an output element. -/
def State.shuffleAt (s : State) (core p : Nat) (x : BitVec 512) (t : VSrc) (r c : Nat) : Option Nat :=
  let ix := s.veSource1 core x p
  if veSub x = 0 then shuffleIx ix c t.n else shuffleIx ix r t.m

/-- NORM of one element (R168). -/
def State.normAt (s : State) (core p : Nat) (x : BitVec 512) (R : RowRec) (t : VSrc) (r c : Nat) : VOut :=
  let a := t.wide r c
  let k := (s.table core 3).eval (f32add R.var (veScale x))
  let u := f32mul (f32sub a R.mean) k
  let gb := s.veSource1 core x p
  let g := gb.wide 0 c
  let b := gb.wide 1 c
  let inNan := (f32 a).isNan || (f32 R.mean).isNan || (f32 R.var).isNan || (f32 (veScale x)).isNan
  if veBias x then (f32 (f32fma u g b), inNan || (f32 g).isNan || (f32 b).isNan) else (f32 u, inNan)

/-- One output element of an operation that keeps no row state, and of NORM and SMAX_NORM, whose records `rec` gives. Its inputs, for FN_NAN,
are the source elements with scale and bias, and what is read of its record; for SMAX_ACC the row's new maximum (DESIGN CHOICE: R141 does not
list them). -/
def State.veElem (s : State) (core p : Nat) (x : BitVec 512) (rec : Nat → RowRec) (t : VSrc) (r c : Nat) : VOut :=
  match veOp x with
  | 1 =>
    let a := s.masked0 core x t r c
    let b := (s.veSource1 core x p).wide r c
    (f32 (binaryOp (veSub x) a b), (f32 a).isNan || (f32 b).isNan)
  | 2 =>
    if veSub x = 4 then s.normAt core p x (rec r) t r c
    else
      let a := s.masked0 core x t r c
      (f32 ((rec r).smaxNorm (s.table core) a), (f32 a).isNan || (f32 (rec r).max).isNan || (f32 (rec r).l).isNan)
  | 3 =>
    plainOut (match veSub x with
      | 1 => t.wide c r
      | 2 => t.wide r (t.n - 1 - c)
      | 3 => t.wide (t.m - 1 - r) c
      | _ => t.wide r c)
  | 4 =>
    (match s.shuffleAt core p x t r c with
      | some i => plainOut (if veSub x = 0 then t.wide r i else t.wide i c)
      | none => (.fin false 0 0, false))
  | _ => s.epiAt core p x t r c

/-- Elements outside the source that SHUFFLE met (R145). -/
def State.shuffleOob (s : State) (core p : Nat) (x : BitVec 512) (t : VSrc) : Nat :=
  if veOp x = 4 then
    ((List.range t.m).map fun r => ((List.range t.n).filter fun c => (s.shuffleAt core p x t r c).isNone).length).sum
  else 0

/-- An output tile of `m` rows and `n` columns written, with `CVT_SAT` and `FN_NAN` (R128, R135, R141). -/
def State.veWrite (s : State) (core q p : Nat) (x : BitVec 512) (tag : W128) (m n : Nat) (out : Nat → Nat → VOut) : State :=
  let f := veOutFmt x
  let ot := outTag tag f q
  let nans := ((List.range m).map fun r => ((List.range n).filter fun c => (out r c).1.isNan && !(out r c).2).length).sum
  let s := s.bumpSeenN (coreOff core 0x5030) (coreOff core 0x5000) 1 nans
  match veKindD x with
  | 0 =>
    let v : Conv := {
      fmt := f, rnd := veRnd x, sat := fbit x 486, seed := BitVec.ofNat 64 (fld x 319 256),
      base := BitVec.ofNat 64 (fld x 255 192) + BitVec.ofNat 64 (4096 * p), step := tagStep ot }
    let t := s.putTileVals core (veDst x p) v m n fun r c => (out r c).1
    (t.1.writeTag core (veDst x p) f ot).bumpSeenN (coreOff core 0x5028) (coreOff core 0x5000) 2 t.2
  | 2 =>
    let words := Store.setAll 0 [] (((List.range m).map fun r => (List.range n).map fun c => (wordIx r c, toF32 (out r c).1)).flatten)
    s.setBuf core (veDst x p) { m := m, n := n, tag := ot, words := words }
  | _ => s

/-- Row `r` of the running record: in hand, initial, or from tile memory (R163). -/
def State.veRow (s : State) (core : Nat) (x : BitVec 512) (w : VeWalk) (r : Nat) : RowRec :=
  let d := if veStat x && veRsInit x then RowRec.initial.toBits else s.recRow core (veAux x) r
  RowRec.ofBits (Store.get d w.rows r)

/-- One row of a ROWSTAT tile that updates its record: the row, and its outputs where it has any. -/
def State.statRow (s : State) (core : Nat) (x : BitVec 512) (w : VeWalk) (t : VSrc) (r : Nat) : RowRec × List W32 :=
  let R := s.veRow core x w r
  match veSub x with
  | 0 => ((List.range t.n).foldl (fun R c => R.p1 (t.wide r c)) R, [])
  | 1 => ((List.range t.n).foldl (fun R c => R.p2 (t.wide r c)) R, [])
  | _ => R.smaxAcc (s.table core) ((List.range t.n).map (s.masked0 core x t r))

/-- Tile `p` of an item worked. -/
def State.veTile (s : State) (core q : Nat) (x : BitVec 512) (w : VeWalk) : State :=
  let p := w.next
  let t := s.veSource0 core x p
  let s' := if veKind0 x = 1 then s.setFtq core (s.ftqOf core).tail else s
  if veStat x then
    let rs := (List.range t.m).map fun r => (r, s.statRow core x w t r)
    let rows := rs.foldl (fun acc e => Store.put acc e.1 e.2.1.toBits) w.rows
    let s' := s'.setCore core { s'.core core with vec := some { w with next := p + 1, rows := rows } }
    if veSub x = 2 ∧ veKindD x ≠ 1 then
      let es : Store (List W32) := rs.map fun e => (e.1, e.2.2)
      let mx : Store W32 := rs.map fun e => (e.1, e.2.1.max)
      s'.veWrite core q p x t.tag t.m t.n fun r c =>
        (f32 (((Store.get [] es r)[c]?).getD 0), (f32 (s.masked0 core x t r c)).isNan || (f32 (Store.get 0 mx r)).isNan)
    else s'
  else
    let s' := s'.bump (coreOff core 0x5038) (s.shuffleOob core p x t)
    let s' := s'.setCore core { s'.core core with vec := some { w with next := p + 1 } }
    let dims := if veOp x = 3 ∧ veSub x = 1 then (t.n, t.m) else (t.m, t.n)
    s'.veWrite core q p x t.tag dims.1 dims.2 (s.veElem core p x (fun r => s.veRow core x w r) t)

/-- The bytes of tile memory that tile `p` reads (R235). -/
def State.veTileReads (s : State) (core p : Nat) (x : BitVec 512) : List (Nat × Nat) :=
  let t := s.veSource0 core x p
  let at1 : List (Nat × Nat × Nat) :=
    if veOp x = 4 then [(veSrc1 x p, 1, (if veSub x = 0 then t.n else t.m))]
    else if veOp x = 2 then [(veSrc1 x p, 2, t.n)] else [(veSrc1 x p, t.m, t.n)]
  let l := (if veKind0 x = 0 then [(veSrc0 x p, t.m, t.n)] else []) ++
    (if veUses1 x ∧ veKind1 x = 0 then at1 else []) ++ (if veOp x = 0 ∧ veBias x = true then [(veAux x, 1, t.n)] else [])
  (l.map fun e => tileReads e.1 (tagFmt (s.tag core e.1)) e.2.1 e.2.2).flatten ++
    (if veReadsRec x then (List.range t.m).map fun r => (2048 * veAux x + 64 * r, 64) else [])

/-! ### The work of an item -/

/-- The end of an item: no item under way, and a `BUF_CLEAR` that waited carried out (R172). -/
def State.veDone (s : State) (core : Nat) : State :=
  let s := if (s.core core).bufClear then { s with bufs := Store.erase {} (fun k => decide (k / 4 = core)) s.bufs } else s
  s.setCore core { s.core core with vec := none, bufClear := false }

/-- The records of a ROWSTAT item written at its end (R162, R165, R166). -/
def State.veRecords (s : State) (core : Nat) (x : BitVec 512) (w : VeWalk) : State :=
  if veOp x ≠ 2 then s
  else if veStat x then
    let fin := fun (R : RowRec) => match veSub x with
      | 0 => R.p1End
      | 1 => R.p2End
      | _ => R.smaxEnd (s.table core)
    let s' := w.rows.foldl (fun t e => t.putRecRow core (veAux x) e.1 (fin (RowRec.ofBits e.2)).toBits) s
    s'.recTags core (veAux x)
  else s.recTags core (veAux x)

/-- An item's outputs left undefined after an uncorrectable read (R235). -/
def State.veHavoc (s : State) (core : Nat) (x : BitVec 512) (m n : Nat) : State :=
  let s := (veRange x).foldl
    (fun t p =>
      match veKindD x with
      | 0 => t.havocTileAt core (veDst x p) (veOutFmt x) (if veOp x = 3 ∧ veSub x = 1 then n else m) (if veOp x = 3 ∧ veSub x = 1 then m else n)
      | 2 =>
        let tag := (Config.freeWord t.free 4096).zeroExtend 128 <<< 64 ||| (Config.freeWord t.free 4097).zeroExtend 128
        let words := Store.setAll 0 [] ((List.range 4096).map fun i => (i, (Config.freeWord t.free i).truncate 32))
        { t with free := t.free + 1 }.setBuf core (veDst x p) { m := m, n := n, tag := tag, words := words }
      | _ => t)
    s
  if veOp x = 2 then
    let s := s.recTags core (veAux x)
    if veStat x then s.havocTile core (2048 * veAux x) (64 * m) else s
  else s

/-- Tiles worked from where the item stands, at most `fuel`; the item stays under way while a finished-tile entry is absent
(R130). -/
def State.veGo : Nat → State → Nat → Nat → BitVec 512 → State × Option (Status × Bool)
  | 0, s, core, _, x =>
    let w := ((s.core core).vec).getD { queue := 0 }
    (((s.veRecords core x w).busyFor (coreOff core 0x5010)).veDone core, some (.ok, true))
  | fuel + 1, s, core, q, x =>
    let w := ((s.core core).vec).getD { queue := q }
    if veKind0 x = 1 ∧ (s.ftqOf core).isEmpty = true then (s, none)
    else
      let b := s.meetTile core (s.veTileReads core w.next x)
      if b.2 ≠ .ok then
        let t := s.veSource0 core x w.next
        ((b.1.veHavoc core x t.m t.n).veDone core, some (b.2, false))
      else State.veGo fuel (b.1.veTile core q x w) core q x

/-- The work of a LOAD_TABLE (R156, R157). -/
def State.runLoadTable (s : State) (core : Nat) (x : BitVec 512) : State × Option (Status × Bool) :=
  let r := s.readTile core (2048 * veAux x) (s.tableRead core x)
  match r.2.1 with
  | .ok => ((r.1.loadTable core (veTbl x) (imageBank (s.veImage core x))).busyFor (coreOff core 0x5010), some (.ok, true))
  | st => (r.1, some (st, false))

/-- The work of a vector item, begun or continued. -/
def State.runVector (s : State) (q : Nat) (x : BitVec 512) : State × Option (Status × Bool) :=
  let core := (s.queue q).core
  if veOp x = 6 then s.runLoadTable core x
  else
    let w := ((s.core core).vec).getD { queue := q, slots := s.tier.slots }
    let s := s.setCore core { s.core core with vec := some w }
    State.veGo (veTiles x - w.next) s core q x

/-- The vector engine. -/
def vectorEngine : EngineOps where
  kind := 2
  check := State.vectorCheck
  est := State.vectorEst
  free := State.vectorFree
  underway := fun s core => (s.core core).vec.map (·.queue)
  run := State.runVector

/-- Is the item one that a command for opcode `op` and the variants `subs` is about? An item of another version or with a reserved
code belongs to every command of the engine. -/
def vectorMine (op : Nat) (subs : List Nat) (x : BitVec 512) : Bool :=
  decide (fld x 511 508 ≠ 1) || decide (veSubs (veOp x) ≤ veSub x) || (decide (veOp x = op) && subs.contains (veSub x))

/-- A vector command. -/
def State.vector (s : State) (q op : Nat) (subs : List Nat) : State := vectorEngine.serve s q (vectorMine op subs)

/-- `BUF_CLEAR` written with 1 (R172): at once, or after the item under way. -/
def State.clearBufs (s : State) (core : Nat) : State :=
  if (s.core core).vec.isSome then s.setCore core { s.core core with bufClear := true }
  else { s with bufs := Store.erase {} (fun k => decide (k / 4 = core)) s.bufs }

/-! ### Commands -/

/-- EPI (R138). -/
def execEpi (q : Nat) (s : State) : Host.Outcome State Fault Refusal := ifUnit (isQueue q) "queue" (s.vector q 0 [0])
/-- BINARY (R140). -/
def execBinary (q : Nat) (s : State) : Host.Outcome State Fault Refusal := ifUnit (isQueue q) "queue" (s.vector q 1 [0, 1, 2, 3, 4, 5])
/-- STAT_P1 (R165). -/
def execStatP1 (q : Nat) (s : State) : Host.Outcome State Fault Refusal := ifUnit (isQueue q) "queue" (s.vector q 2 [0])
/-- STAT_P2 (R165). -/
def execStatP2 (q : Nat) (s : State) : Host.Outcome State Fault Refusal := ifUnit (isQueue q) "queue" (s.vector q 2 [1])
/-- SMAX_ACC (R166). -/
def execSmaxAcc (q : Nat) (s : State) : Host.Outcome State Fault Refusal := ifUnit (isQueue q) "queue" (s.vector q 2 [2])
/-- SMAX_NORM (R167). -/
def execSmaxNorm (q : Nat) (s : State) : Host.Outcome State Fault Refusal := ifUnit (isQueue q) "queue" (s.vector q 2 [3])
/-- NORM (R168). -/
def execNorm (q : Nat) (s : State) : Host.Outcome State Fault Refusal := ifUnit (isQueue q) "queue" (s.vector q 2 [4])
/-- PERMUTE (R144). -/
def execPermute (q : Nat) (s : State) : Host.Outcome State Fault Refusal := ifUnit (isQueue q) "queue" (s.vector q 3 [0, 1, 2, 3])
/-- SHUFFLE (R145). -/
def execShuffle (q : Nat) (s : State) : Host.Outcome State Fault Refusal := ifUnit (isQueue q) "queue" (s.vector q 4 [0, 1])
/-- CONVERT (R142). -/
def execConvert (q : Nat) (s : State) : Host.Outcome State Fault Refusal := ifUnit (isQueue q) "queue" (s.vector q 5 [0, 1])
/-- LOAD_TABLE (R156 to R158). -/
def execLoadTable (q : Nat) (s : State) : Host.Outcome State Fault Refusal := ifUnit (isQueue q) "queue" (s.vector q 6 [0])
/-- BUF_CLEAR (R172). -/
def execBufClear (core : Nat) (s : State) : Host.Outcome State Fault Refusal := ifUnit (isCore core) "core" (s.clearBufs core)

end Sys2Proof.Machine
end

