-- ==== Sys2Proof/Machine/DevOps.lean ====
section
/-! DEFINITION. The device as a whole: its state (R569), transactions rolled back (R566), a core fenced (R51), and the stop of every
engine on a trip or a regulator fault (R536, R537). -/

namespace Sys2Proof.Machine

/-- The device moved to another state, with the event of R559. -/
def State.setDev (s : State) (d : DevState) : State := { s with dev := d }.devChanged s.devWord

/-! ### Transactions rolled back (R566) -/

/-- The identity of a requester (R554). -/
def pathWho : Path → Path
  | .forwarded b core chip _ => .forwarded b core chip 0
  | p => p

/-- The code of a requester's path in `TXN_TABLE` (R567). -/
def Path.code : Path → Nat
  | .mailbox _ => 0
  | .bridge => 1
  | .field _ => 2
  | .forwarded b _ _ _ => if b then 1 else 0

/-- The record of a transaction in `TXN_TABLE`, the newest 16 kept. -/
def State.txnRecord (s : State) (r : TxnRec) : State :=
  let l := s.mgmt.txnTable
  { s with
    mgmt.txnTable :=
      if l.any fun e => decide (e.txn = r.txn) then l.map fun e => if e.txn = r.txn then r else e else (r :: l).take 16 }

/-- A transaction ended with a status, its locks released. -/
def State.endTxn (s : State) (t : Txn) (state : Nat) (st : Status) (applied failed : Nat) : State :=
  let s := { s with
    mgmt.txns := s.mgmt.txns.filter fun e => e.num ≠ t.num,
    mgmt.segs := s.mgmt.segs.filter fun g => g.txn ≠ t.num }
  s.txnRecord {
    txn := t.num, path := Path.code t.path, state := state, status := st.code, nWrites := t.writes.length,
    ftAt := t.armed.getD 0, appliedFt := applied, failed := failed }

/-- Every transaction rolled back. -/
def State.rollbackAll (s : State) : State :=
  s.mgmt.txns.foldl (fun (t : State) x => (t.endTxn x 4 .txnAborted 0 0).count .txnAborted) s

/-! ### Work abandoned -/

/-- The extents on this chip that a descriptor may have written in part left undefined. -/
def State.havocDest (s : State) (d : Desc) : State :=
  if d.stage = .moving ∨ d.stage = .landed then
    (dDstRows d.item).foldl
      (fun (t : State) r =>
        if !t.isOwn r.1 then t
        else
          match t.region (addrLocal r.1) with
          | .near a => t.havocNear a r.2
          | .tile c o => t.havocTile c o r.2
          | .tiered o => t.havocTiered o r.2
          | _ => t)
      s
  else s

/-- What the item under way on a core's sequencer had begun to write left undefined: accumulators, records, staging and scratch of a
walk (R229). -/
def State.havocWalk (s : State) (core : Nat) (w : AsWalk) : State :=
  let x := w.item
  if 3 < asOp x then s
  else
    let s := s.havocTile core (2048 * asAccGran x) (2048 * 8 * asAccs x)
    let s := if asOp x ≤ 1 then s.havocTile core (2048 * asRsGran x) (2048 * 2 * asT x * asH x) else s
    let s := s.havocTile core (2048 * asStgGran x) (2048 * asDepth x * asSlotGrans x)
    s.havocTile core (2048 * asScrGran x) (2048 * 8 * fmtGranules (asPFmt x))

/-- The frame-table entries of the pages of an APPEND that is no longer under way (R229). -/
def State.unpinWalk (s : State) (w : Option AsWalk) : State :=
  match w with
  | some w => if asOp w.item = 4 then s.kvImages (slPool w.slot) (s.appendPages w.slot w.item) else s
  | none => s

/-- What a CHAIN item under way had begun to write on this chip left undefined (R427). -/
def State.havocChain (s : State) (r : ChainRun) : State :=
  if r.isTail && decide (r.stage ≠ .header ∧ r.stage ≠ .decision) then s.havocNear (uArr r.item 4) (r.n * r.size) else s

/-- The work under way on the engines of a core abandoned without a completion, its outputs undefined. -/
def State.abandonCore (s : State) (core : Nat) : State :=
  let C := s.core core
  let s := match C.walk with
    | some w => s.havocWalk core w
    | none => s
  let s := match C.chain with
    | some r => s.havocChain r
    | none => s
  let s := match C.vec with
    | some w =>
      match (s.queue w.queue).held with
      | some h => s.veHavoc core h.item 64 64
      | none => s
    | none => s
  let s := (s.qs.descs.filter fun d => decide (d.core = core)).foldl (fun (t : State) d => t.havocDest d) s
  let s := s.dropRequests fun w => decide (w.chainCore = some core)
  (s.setCore core { s.core core with
    walk := none, yieldPending := false, vec := none, bufClear := false, chain := none, optWait := none }).unpinWalk C.walk

/-- The waits of a core's items, descriptors and control processor withdrawn (R362, R372). -/
def State.dropWaits (s : State) (core : Nat) : State :=
  let mine := fun (w : Waiter) => decide (s.waiterCore w = some core)
  { s with
    sync.sems := s.sync.sems.map fun e => (e.1, { e.2 with waiters := e.2.waiters.filter fun w => !mine w }),
    sync.bars := s.sync.bars.map fun e => (e.1, { e.2 with waiters := e.2.waiters.filter fun w => w.1 ≠ core }) }

/-! ### Fencing (R51, R125, R175, R229, R266, R362, R372, R427, R544, R561) -/

/-- A fenced core's queue: STOPPED, its taken item discarded, its admission and buffer withdrawn. -/
def Queue.fence (Q : Queue) : Queue :=
  if Q.state = .disabled then Q
  else
    let Q := match Q.held with
      | some h => Q.finishItem h.index
      | none => Q
    { Q.stop 8 with
      faultStatus := Status.ownerLost.code, held := none, heldTail := none, admitted := false, waitSince := none, readySince := none }

/-- `MB_CLAIM` (R560): the core that holds the claim, or 0xFF. The store keeps 0 for no claim and the core's number plus one. -/
def State.mbClaim (s : State) : Nat := if s.reg 0x200 = 0 then 0xFF else (s.reg 0x200).toNat - 1

/-- The claim of the chip mailbox released (R561); while a request is under way, once its response is written. -/
def State.releaseClaim (s : State) : State :=
  if s.flag 0x208 0 then { s with mgmt.mbRelease := true }
  else { s.setReg 0x200 0 with mgmt.mbRelease := false }

/-- A core fenced. -/
def State.fenceCore (s : State) (core : Nat) : State :=
  let s := (s.dropWaits core).abandonCore core
  let gone := s.qs.descs.filter fun d => decide (d.core = core)
  let s := gone.foldl
    (fun (t : State) (d : Desc) => (t.setQueue d.queue ((t.queue d.queue).finishItem d.index)).endPeers d) s
  let s := { s with
    qs.descs := s.qs.descs.filter fun d => d.core ≠ core,
    qs.buffers := s.qs.buffers.filter fun b => !(b.chip.isNone && decide ((s.queue b.queue).core = core)),
    qs.queues := s.qs.queues.map fun (e : Nat × Queue) => if e.2.core = core then (e.1, e.2.fence) else e,
    mem.wbWaits := s.mem.wbWaits.filter fun w => w.core ≠ core,
    pwr.balance := Store.set 0 s.pwr.balance core 0 }
  let s := (s.wipeEngines core).setReg (coreOff core 0x9008) 0
  let s := s.setCore core { s.core core with fenced := true, sw := none, lr := none }
  let s := s.poisonOwned fun c _ => decide (c = core)
  let s := s.recordCore core ⟨7, core, s.physOf core, 0⟩
  if s.mbClaim = core then s.releaseClaim else s

/-- CORE_FENCE (R51): a core that fails while the device is RUNNING or DRAINING. -/
def execCoreFence (core : Nat) (s : State) : Host.Outcome State Fault Refusal :=
  ifUnit (isCore core) "core" (if s.engineRuns core then s.fenceCore core else s)

/-! ### Trips (R536) -/

/-- Every engine of every core stops, and the device enters FAULTED with VDD_CORE at 0.70 V and every arithmetic clock stopped. -/
def State.stopAll (s : State) : State :=
  let s := (List.range Config.cores).foldl (fun (t : State) c => t.abandonCore c) s
  let s := { s with
    qs.descs := [],
    qs.queues := s.qs.queues.map fun (e : Nat × Queue) => (e.1, { e.2 with held := none }),
    sc := [], media := [],
    pwr.stopped := true, pwr.clk := [], pwr.nextClk := [], pwr.vcoreMv10 := 7000, pwr.wantMv10 := 7000, pwr.thermOut := true }
  s.rollbackAll.setDev .faulted

/-- Can the device trip: it has left reset and has not tripped yet? -/
def State.canTrip (s : State) : Bool := decide (s.dev ≠ .off ∧ s.dev ≠ .reset ∧ s.dev ≠ .faulted)

/-- A trip of a die or of a memory stack. -/
def State.trip (s : State) (source unit : Nat) : State :=
  if !s.canTrip then s
  else
    let s := { s with pwr.tripped := true }
    let s := (s.bumpSeen 0x4068 0x4000 2).lifeAdd 11 1
    (s.countLog .thermalTrip source unit 0).stopAll

/-- A regulator fault (R537): as a trip, with `REG_FAULT`. -/
def State.regulatorFault (s : State) : State :=
  if !s.canTrip then s
  else
    let s := { s with pwr.regFault := true }
    ((s.bumpSeen 0x4070 0x4000 4).lifeAdd 0x4B 1).stopAll

end Sys2Proof.Machine
end

