-- ==== Sys2Proof/Machine/Snapshots.lean ====
section
/-! DEFINITION. Shard groups and the shard code engines (R463 to R475, R489), entry into READY (R478), the ends of background bank
copies (R477), the lifetime saves and histograms (R486 to R488). -/

namespace Sys2Proof.Machine

/-! ### Fields of a command (R466) and the group (R463, R464) -/

def scVersion (x : BitVec 512) : Nat := fld x 511 508
def scOp (x : BitVec 512) : Nat := fld x 507 504
def scGen (x : BitVec 512) : Nat := fld x 503 503
def scStart (x : BitVec 512) : Nat := fld x 495 432
def scStep (x : BitVec 512) : Nat := fld x 431 368
def scList (x : BitVec 512) : Nat := fld x 367 340 * 4096
def scRegions (x : BitVec 512) : Nat := fld x 339 331 + 1
def scSrc (x : BitVec 512) : Nat := fld x 330 317
def scCookie (x : BitVec 512) : Nat := fld x 255 192

/-- K, M, the slot size in bytes and the base of the snapshot area. -/
def State.shardK (s : State) : Nat := s.dictNat 0x2200 2
def State.shardM (s : State) : Nat := s.dictNat 0x2200 3
def State.snapSlot (s : State) : Nat := s.dictNat 0x2200 5 * 2 ^ 20
def State.snapBase (s : State) : Nat := s.dictNat 0x2200 4

/-- The chips at positions 0 to K + M − 1 of `SNAP_GROUP`. -/
def State.snapGroup (s : State) : List Nat :=
  (List.range (s.shardK + s.shardM)).map fun q => leNat (((s.dictBytes 0x2200 6).drop (2 * q)).take 2)

/-- The position of a chip in the group. -/
def State.snapPos (s : State) (chip : Nat) : Option Nat := s.snapGroup.findIdx? (· == chip)

/-- The slot, on every holder, of the source at position `q` in generation `g` (R464). -/
def State.slotAddr (s : State) (g q : Nat) : Nat := s.snapBase + (g * (s.shardK + s.shardM) + q) * s.snapSlot

/-! ### Shards and pieces (R465, R467) -/

/-- The region list: address and length of each entry. -/
def State.scRegionList (s : State) (x : BitVec 512) : List (Nat × Nat) :=
  (List.range (scRegions x)).map fun i =>
    let e := leNat (s.near (scList x + 16 * i) 16)
    (bits e 63 0, bits e 127 64)

/-- The list hash (R467). -/
def scHash (l : List (Nat × Nat)) : W64 :=
  l.foldl (fun h e => srMix (srMix (h ^^^ BitVec.ofNat 64 e.1) ^^^ BitVec.ofNat 64 e.2)) (srMix (BitVec.ofNat 64 l.length))

/-- S of a region list. -/
def State.shardBytes (s : State) (l : List (Nat × Nat)) : Nat := roundUp (l.map (·.2)).sum (s.shardK * 65536)

/-- Data piece `i` of a shard of `rows` rows. -/
def dataPiece (k rows : Nat) (shard : List Byte) (i : Nat) : List Byte :=
  ((List.range rows).map fun r => (shard.drop (r * (k * 65536) + i * 65536)).take 65536).flatten

/-- Byte-wise XOR of `n`-byte lists, each multiplied by its factor. -/
def gfSum (n : Nat) (l : List (Nat × List Byte)) : List Byte :=
  l.foldl
    (fun acc e => List.zipWith (fun (a b : Byte) => a ^^^ BitVec.ofNat 8 (gfMul e.1 b.toNat)) acc e.2)
    (List.replicate n 0)

/-- Parity piece `j` of data pieces. -/
def parityPiece (j n : Nat) (ds : List (List Byte)) : List Byte :=
  gfSum n (ds.zipIdx.map fun d => (gfAlpha (j * d.2), d.1))

/-- The K + M pieces of a shard. -/
def shardPieces (k m : Nat) (shard : List Byte) : List (List Byte) :=
  let rows := shard.length / (k * 65536)
  let ds := (List.range k).map (dataPiece k rows shard)
  ds ++ (List.range m).map fun j => parityPiece j (rows * 65536) ds

/-- The data pieces from K good pieces (R473): `good i` is the piece at position `i`, where it is good. -/
def decodePieces (k n : Nat) (good : Nat → Option (List Byte)) : List (List Byte) :=
  let have_ := (List.range k).filter fun i => (good i).isSome
  let miss := (List.range k).filter fun i => (good i).isNone
  let zero := List.replicate n (0 : Byte)
  let d := fun i => (good i).getD zero
  let s0 := gfSum n ((1, d k) :: have_.map fun i => (1, d i))
  let s1 := gfSum n ((1, d (k + 1)) :: have_.map fun i => (gfAlpha i, d i))
  match miss with
  | [a] =>
    let da := if (good k).isSome then s0 else gfSum n [(gfInv (gfAlpha a), s1)]
    (List.range k).map fun i => if i = a then da else d i
  | [a, b] =>
    let da := gfSum n [(gfMul (gfInv (gfAlpha a ^^^ gfAlpha b)) (gfAlpha b), s0), (gfInv (gfAlpha a ^^^ gfAlpha b), s1)]
    let db := gfSum n [(1, s0), (1, da)]
    (List.range k).map fun i => if i = a then da else if i = b then db else d i
  | _ => (List.range k).map d

/-- The shard that data pieces stand for. -/
def joinPieces (rows : Nat) (ds : List (List Byte)) : List Byte :=
  ((List.range rows).map fun r => (ds.map fun d => (d.drop (r * 65536)).take 65536).flatten).flatten

/-- A piece header (R469). -/
def pieceHeader (piece k m : Nat) (x : BitVec 512) (src shard : Nat) (hash : W64) (crc sealed : Nat) : List Byte :=
  leBytes 4 0x10000000 ++ leBytes 1 piece ++ leBytes 1 k ++ leBytes 1 m ++ leBytes 1 (scGen x) ++ leBytes 8 (scStep x) ++
  leBytes 2 src ++ leBytes 6 0 ++ leBytes 8 shard ++ leBytes 8 hash.toNat ++ leBytes 4 crc ++ leBytes 4 0 ++
  leBytes 8 (scStart x) ++ leBytes 8 sealed ++ List.replicate 4032 0

/-! ### The engines -/

/-- The offset of an engine's register (R489). -/
def scOff (e off : Nat) : Nat := 0x30000000 + 0x800000 * e + off

/-- An engine. -/
def State.scEng (s : State) (e : Nat) : ScEng := Store.get {} s.sc e
/-- The state with an engine replaced. -/
def State.setScEng (s : State) (e : Nat) (v : ScEng) : State := { s with sc := Store.set {} s.sc e v }

/-- `BUSY` of `SC_STATUS`. -/
def State.scBusy (s : State) (e : Nat) : Bool := decide ((s.scEng e).stage ≠ .idle)

/-- Is a purpose one of engine `e`? -/
def scPurpose (e : Nat) : Purpose → Bool
  | .scHeader x => decide (x = e)
  | .scData x => decide (x = e)
  | .scCrc x => decide (x = e)
  | .scSeal x => decide (x = e)
  | _ => false

/-- A command ends (R466, R489): the result fields, `done` last, then the signal. -/
def State.scEnd (s : State) (e : Nat) (st : Status) (erased : Nat) : State :=
  let E := s.scEng e
  let x := E.cmd
  let s := { s with fab.outReqs := s.fab.outReqs.filter fun r => !scPurpose e r.why }
  let s := s.setScEng e {}
  let s := (s.writeNear (E.cmdAddr + 12) (leBytes 2 erased ++ leBytes 2 st.code)).1
  let s := (s.writeNear E.cmdAddr [1]).1
  let s := (s.setReg (scOff e 0x10) (BitVec.ofNat 64 st.code)).count st
  let n := ((List.range 16).filter fun q => bitAt erased q).length
  let s := s.bumpSeenN (scOff e 0x30) (scOff e 0) 3 n
  let s :=
    if st = .ok then s.bump (scOff e 0x18) 1
    else s.faultRec (scOff e 0) 2
      [(scOff e 0x38, BitVec.ofNat 64 (st.code <<< 48)), (scOff e 0x40, BitVec.ofNat 64 (scCookie x))]
  let s :=
    if scOp x = 0 ∧ st = .ok then s.lifeAdd 6 1
    else if scOp x = 1 ∧ st = .ok then s.lifeAdd 7 1
    else if scOp x = 1 ∧ st = .uncorrectable then s.lifeAdd 8 1
    else s
  if fbit x 316 then s.signalSem (fld x 315 300) else s

/-- Check 2 of a command, but for the region list. -/
def scFields (x : BitVec 512) : Bool :=
  zeros x [(502, 496), (299, 256), (191, 128), (95, 1)] && decide (scOp x ≤ 2) &&
  (if scOp x = 0 then decide (scSrc x = 0) else decide (scStart x = 0)) &&
  (fbit x 316 || decide (fld x 315 300 = 0))

/-- The checks of R468. Where the list itself does not lie in near memory its entries cannot be read, and check 3 fails. -/
def State.scCheck (s : State) (x : BitVec 512) : Status :=
  let n := 16 * scRegions x
  let l := s.scRegionList x
  let inNear := fun (a n : Nat) => decide (a + n ≤ Config.nearBytes) && !s.touchesOffline a n
  let listOk := inNear (scList x) n
  if scVersion x ≠ 1 then .versionUnsupported
  else if !scFields x then .reservedNonzero
  else if listOk && l.any (fun r => decide (r.1 % 4096 ≠ 0 ∨ r.2 % 4096 ≠ 0 ∨ r.2 = 0)) then .reservedNonzero
  else if !listOk || !(l.all fun r => inNear r.1 r.2) then .pageFault
  else if decide (scOp x = 1) && l.any (fun r => touchesFw r.1 r.2) then .pageFault
  else if !s.ftValid then .stateConflict
  else if scOp x = 0 then
    let area := (s.snapBase, 2 * (s.shardK + s.shardM) * s.snapSlot)
    if (s.snapPos s.fab.chipNum).isNone ∨ anyOverlap l ∨ l.any (fun r => overlaps r.1 r.2 area.1 area.2) ∨
        (s.snapSlot - 4096) / 65536 < s.shardBytes l / (s.shardK * 65536) then .stateConflict
    else if scStart x < s.ft.toNat then .deadlineMissed
    else .ok
  else if (s.snapPos (scSrc x)).isNone then .stateConflict
  else .ok

/-- A command refused by the register itself (R489): its status in `SC_LAST`. -/
def State.scRefuse (s : State) (e : Nat) (st : Status) : State :=
  (s.setReg (scOff e 0x10) (BitVec.ofNat 64 st.code)).count st

/-- The command at an address, as its bytes stand. -/
def State.scFetch (s : State) (a : Nat) : BitVec 512 := BitVec.ofNat 512 (leNat (s.near a 64))

/-- A write of `SC_CMD` (R466, R468, R489, R492): the command is read and checked; a SNAP then waits for its instant. A command that
cannot be read ends with the status of the read. -/
def State.scCmd (s : State) (e : Nat) (v : W64) : State :=
  let a := bits v.toNat 39 6 * 64
  if v.toNat ≠ a then s.refusedWrite
  else if s.scBusy e then s.scRefuse e .stateConflict
  else if s.dev ≠ .ready ∧ s.dev ≠ .running ∧ s.dev ≠ .draining then s.scRefuse e .stateConflict
  else if Config.nearBytes < a + 64 ∨ s.touchesOffline a 64 then s.scRefuse e .pageFault
  else
    let r := s.readNear a 64
    if r.2.1 ≠ .ok then r.1.scRefuse e r.2.1
    else
      let x := s.scFetch a
      let s := r.1.setScEng e { stage := if scOp x = 0 then .waiting else .data, cmdAddr := a, cmd := x }
      match s.scCheck x with
      | .ok =>
        let l := s.readNear (scList x) (16 * scRegions x)
        if l.2.1 ≠ .ok then l.1.scEnd e l.2.1 0
        else l.1
      | st => s.scEnd e st 0

/-- Bytes written to a holder's near memory by a SNAP: here at once, elsewhere by WRITE packets. -/
def State.scPut (s : State) (e : Nat) (why : Purpose) (chip addr : Nat) (bytes : List Byte) : State × Status :=
  if chip = s.fab.chipNum then
    match holderCheck addr bytes.length with
    | .ok => if s.touchesOffline addr bytes.length then (s, .pageFault) else s.writeNear addr bytes
    | st => (s, st)
  else
    let r := s.remoteWrite why chip addr bytes
    let E := r.1.scEng e
    (r.1.setScEng e { E with owed := E.owed + r.2.1 }, if r.2.2 then .ok else .linkRetryExhausted)

/-- One round of writes of a SNAP, one extent for each holder. -/
def State.scPutAll (s : State) (e : Nat) (why : Purpose) (l : List (Nat × Nat × List Byte)) : State × Status :=
  l.foldl
    (fun acc w =>
      let r := acc.1.scPut e why w.1 w.2.1 w.2.2
      (r.1, acc.2.orElse r.2))
    (s, .ok)

/-- What a SNAP writes in a stage: for each position, the holder, the address and the bytes; and the status of its reads. `crcs` are those of
the pieces sent. -/
def State.snapWrites (s : State) (x : BitVec 512) (crcs : List Nat) (g : ScStage) : State × Status × List (Nat × Nat × List Byte) :=
  let l := s.scRegionList x
  let size := s.shardBytes l
  let k := s.shardK
  let m := s.shardM
  let p := (s.snapPos s.fab.chipNum).getD 0
  let at_ := s.slotAddr (scGen x) p
  let head := fun (q : Nat × Nat) => (q.1, at_, pieceHeader q.2 k m x s.fab.chipNum size (scHash l) 0 0)
  match g with
  | .header => (s, .ok, s.snapGroup.zipIdx.map head)
  | .seal => (s, .ok, s.snapGroup.map fun c => (c, at_ + 0x38, leBytes 8 (scStep x)))
  | .crc => (s, .ok, (s.snapGroup.zip crcs).map fun q => (q.1, at_ + 0x28, leBytes 4 q.2))
  | _ =>
    let r := s.readAll l
    let raw := r.2.2.flatten
    let ps := shardPieces k m (raw ++ List.replicate (size - raw.length) 0)
    let bad := l.any fun e => s.touchesOffline e.1 e.2
    (r.1, if bad then .pageFault else r.2.1, (s.snapGroup.zip ps).map fun q => (q.1, at_ + 4096, q.2))

/-- The stage after one of a SNAP; none after the last. -/
def ScStage.after : ScStage → Option ScStage
  | .header => some .data
  | .data => some .crc
  | .crc => some .seal
  | _ => none

/-- The purpose of a SNAP's packets in a stage. -/
def scWhy (e : Nat) : ScStage → Purpose
  | .header => .scHeader e
  | .data => .scData e
  | .crc => .scCrc e
  | _ => .scSeal e

/-- A SNAP under way enters a stage, and passes on while every answer is in (R469, R471); `fuel` is at least the number of stages. -/
def State.snapStage : Nat → State → Nat → ScStage → State
  | 0, s, _, _ => s
  | fuel + 1, s, e, g =>
    let E := s.scEng e
    let w := s.snapWrites E.cmd E.crcs g
    if w.2.1 ≠ .ok then w.1.scEnd e w.2.1 0
    else
      let s := w.1.setScEng e { E with stage := g, owed := 0, crcs := if g = .data then w.2.2.map fun x => crc32 x.2.2 else E.crcs }
      let r := s.scPutAll e (scWhy e g) w.2.2
      let s := if g = .data then r.1.bump (scOff e 0x20) (w.2.2.map fun x => x.2.2.length).sum else r.1
      if r.2 ≠ .ok then s.scEnd e r.2 0
      else if (s.scEng e).owed ≠ 0 then s
      else
        match g.after with
        | some h => State.snapStage fuel s e h
        | none => s.scEnd e .ok 0

/-- A holder's answer to a SNAP's packet of a stage. -/
def State.scAck (s : State) (e : Nat) (g : ScStage) (st : Status) : State :=
  let E := s.scEng e
  if E.stage ≠ g then s
  else if st ≠ .ok then s.scEnd e st 0
  else
    let s := s.setScEng e { E with owed := E.owed - 1 }
    if 1 < E.owed then s
    else
      match g.after with
      | some h => s.snapStage 3 e h
      | none => s.scEnd e .ok 0

/-! ### RESTORE and CHECK (R473, R474) -/

/-- The bytes of a slot at a position: this chip's own, where its read succeeds, or what a reachable holder returned. -/
def State.slotBytes (s : State) (x : BitVec 512) (n : Nat) (remote : List (Nat × List Byte)) (q : Nat) : State × Option (List Byte) :=
  let a := s.slotAddr (scGen x) ((s.snapPos (scSrc x)).getD 0)
  if s.snapGroup[q]? = some s.fab.chipNum then
    if s.touchesOffline a (4096 + n) then (s, none)
    else
      let r := s.readNear a (4096 + n)
      (r.1, if r.2.1 = .ok then some r.2.2 else none)
  else (s, (remote.find? fun r => decide (r.1 = q)).map (·.2))

/-- Is a slot's header that of a piece of the command's shard (R473)? -/
def pieceMatches (k m : Nat) (x : BitVec 512) (hash : W64) (b : List Byte) : Bool :=
  let f := fun (o n : Nat) => leNat ((b.drop o).take n)
  decide (f 0 4 / 2 ^ 28 = 1) && decide (f 8 8 = scStep x) && decide (f 0x38 8 = scStep x) && decide (f 7 1 = scGen x) &&
  decide (f 0x10 2 = scSrc x) && decide (f 5 1 = k) && decide (f 6 1 = m) && decide (f 0x20 8 = hash.toNat)

/-- What pass 1 has found (R473): the positions read and found good with their data, those found unusable, and the piece bytes read. -/
structure ScFound where
  good : List (Nat × List Byte) := []
  erased : List Nat := []
  bytes : Nat := 0

/-- A piece judged: `b` holds its slot where it could be read. -/
def ScFound.add (F : ScFound) (fits : List Byte → Bool) (n q : Nat) (b : Option (List Byte)) : ScFound :=
  match b with
  | none => { F with erased := F.erased ++ [q] }
  | some b =>
    let d := (b.drop 4096).take n
    if !fits b then { F with erased := F.erased ++ [q] }
    else if d.length = n ∧ crc32 d = leNat ((b.drop 0x28).take 4) then { F with good := F.good ++ [(q, d)], bytes := F.bytes + n }
    else { F with erased := F.erased ++ [q], bytes := F.bytes + n }

/-- Pass 1 (R473); `all` reads every candidate. -/
def State.pass1 (s : State) (x : BitVec 512) (all : Bool) (n : Nat) (remote : List (Nat × List Byte)) : State × ScFound :=
  let k := s.shardK
  let m := s.shardM
  let fits := pieceMatches k m x (scHash (s.scRegionList x))
  (List.range (k + m)).foldl
    (fun (acc : State × ScFound) q =>
      if !all && decide (k ≤ acc.2.good.length) then acc
      else
        let b := acc.1.slotBytes x n remote q
        (b.1, acc.2.add fits n q b.2))
    (s, {})

/-- A shard written back into its regions. -/
def regionWrites : List (Nat × Nat) → List Byte → List (Nat × List Byte)
  | [], _ => []
  | r :: rest, b => (r.1, b.take r.2) :: regionWrites rest (b.drop r.2)

/-- A RESTORE or CHECK under way, with what the reachable holders returned. -/
def State.scRead (s : State) (e : Nat) (remote : List (Nat × List Byte)) : State :=
  let x := (s.scEng e).cmd
  let l := s.scRegionList x
  let size := s.shardBytes l
  let k := s.shardK
  let n := size / k
  let p := s.pass1 x (decide (scOp x = 2)) n remote
  let erased := (p.2.erased.map fun q => 2 ^ q).sum
  let s := p.1.bump (scOff e 0x28) p.2.bytes
  if scOp x = 2 then s.scEnd e .ok erased
  else if p.2.good.length < k then s.scEnd e .uncorrectable erased
  else
    let ds := decodePieces k n fun i => (p.2.good.find? fun g => decide (g.1 = i)).map (·.2)
    let w := (s.bump (scOff e 0x28) (k * n)).writeAll (regionWrites l (joinPieces (n / 65536) ds))
    w.1.scEnd e w.2 erased

/-- A RESTORE or CHECK commanded, or one already under way: the pieces arrive with the row. -/
def State.scRow (s : State) (e op : Nat) (cmd : W64) (remote : List (Nat × List Byte)) : State :=
  let mine := fun (t : State) => t.scBusy e && decide ((t.scEng e).stage = .data ∧ scOp (t.scEng e).cmd = op)
  if mine s && decide ((s.scEng e).cmdAddr = cmd.toNat) then s.scRead e remote
  else if s.scBusy e then s.scCmd e cmd
  else
    let f := scOp (s.scFetch (bits cmd.toNat 39 6 * 64))
    if f ≠ op ∧ f ≤ 2 then s
    else
      let s := s.scCmd e cmd
      if mine s then s.scRead e remote else s

/-- SNAP (R468, R469). -/
def execSnap (eng : Nat) (cmd : W64) (s : State) : Host.Outcome State Fault Refusal :=
  ifUnit (isEngine eng) "shard code engine"
    (let f := scOp (s.scFetch (bits cmd.toNat 39 6 * 64))
     if !s.scBusy eng && decide (f = 1 ∨ f = 2) then s else s.scCmd eng cmd)

/-- SNAP_START (R469): at `start_ft`. -/
def execSnapStart (eng : Nat) (s : State) : Host.Outcome State Fault Refusal :=
  ifUnit (isEngine eng) "shard code engine"
    (if (s.scEng eng).stage = .waiting ∧ scStart (s.scEng eng).cmd ≤ s.ft.toNat then
       s.snapStage 4 eng .header
     else s)

/-- SC_RESTORE (R473). -/
def execScRestore (eng : Nat) (cmd : W64) (remote : List (Nat × List Byte)) (s : State) : Host.Outcome State Fault Refusal :=
  ifUnit (isEngine eng) "shard code engine" (s.scRow eng 1 cmd remote)

/-- SC_CHECK (R474). -/
def execScCheck (eng : Nat) (cmd : W64) (remote : List (Nat × List Byte)) (s : State) : Host.Outcome State Fault Refusal :=
  ifUnit (isEngine eng) "shard code engine" (s.scRow eng 2 cmd remote)

/-! ### Entry into READY (R478) -/

/-- One worn tile-memory row substituted, where its bank has a spare left. -/
def State.replaceRow (s : State) (core row : Nat) : State :=
  let phys := s.physOf core
  let bank := row / 8192
  let key := phys * 32 + bank
  let used := Store.get 0 s.wear.tmRowsUsed key
  if 8 ≤ used then s.lifeAdd (0xA9 + 4 * (phys / 64) + 3) 1
  else
    let s := { s with
      wear.tmRowsUsed := Store.set 0 s.wear.tmRowsUsed key (used + 1),
      wear.tmCorrected := Store.set 0 s.wear.tmCorrected (core * 2 ^ 20 + row) 0,
      wear.tmWorn := s.wear.tmWorn.filter fun w => w ≠ (core, row) }
    ((s.spareUsed.record ⟨3, phys, bank * 65536 + row % 8192, used⟩).lifeAdd (0xA9 + 4 * (phys / 64) + 2) 1).evalFitness

/-- The worn rows of a core, ascending. -/
def State.wornRowsOf (s : State) (core : Nat) : List Nat :=
  ((s.wear.tmWorn.filter fun w => w.1 = core).map (·.2)).mergeSort

/-- Spares put in place: tile-memory rows core by core, then spare cores for the failed cores in ascending order. -/
def State.substitute (s : State) : State :=
  let s := (List.range Config.cores).foldl
    (fun (t : State) c => if (t.core c).absent then t else (t.wornRowsOf c).foldl (fun t r => t.replaceRow c r) t) s
  (List.range Config.cores).foldl
    (fun (t : State) c =>
      if (t.core c).absent then t
      else if (t.core c).fenced || t.wear.tmWorn.any (fun w => decide (w.1 = c)) then t.replaceCore c
      else t) s

/-! ### Bank copies, lifetime saves and histograms -/

/-- DRAM_BANK_COPY_END (R477). -/
def execDramBankCopyEnd (ch die bank : Nat) (s : State) : Host.Outcome State Fault Refusal :=
  ifUnit (isChannel ch) "channel" { s with wear.bankCopies := s.wear.bankCopies.filter fun b => b ≠ (ch, die, bank) }

/-- The control cycles of an hour. -/
def hourCycles : Nat := 3600 * 1800000000

/-- `LIFE_SAVE_NOW` (R488): refused in an hour whose save has been made. -/
def State.lifeSaveNow (s : State) : State × Status :=
  if s.wear.hourSaved then (s, .stateConflict)
  else ({ s with wear.hourSaved := true, boot.jobs := s.boot.jobs ++ [.lifetime] }, .ok)

/-- LIFE_SAVE_NOW (R488): a write of 1 by a requester of a role; ADMIN may write it (R640). -/
def execLifeSaveNow (role : Nat) (s : State) : Host.Outcome State Fault Refusal :=
  ifUnit (isRole role) "role"
    (if !s.dictServed then s
     else if role < 2 then s.count .accessDenied
     else if s.dev = .boot ∨ s.dev = .faulted then s.count .stateConflict
     else
       let r := s.lifeSaveNow
       r.1.count r.2)

/-- LIFETIME_SAVE (R488): the end of a powered hour. -/
def execLifetimeSave (s : State) : Host.Outcome State Fault Refusal :=
  .next
    (if s.dev = .off ∨ s.dev = .reset ∨ s.cycle.toNat < s.wear.hourStart + hourCycles then s
     else
       let s := s.lifeAdd 1 1
       let s := if s.wear.hourSaved then s else { s with boot.jobs := s.boot.jobs ++ [.lifetime] }
       { s with wear.hourStart := s.wear.hourStart + hourCycles, wear.hourSaved := false })

/-- HISTOGRAM_SAMPLE (R487): a sample falls into a bin. -/
def execHistogramSample (entry bin : Nat) (s : State) : Host.Outcome State Fault Refusal :=
  ifUnit (decide (1 ≤ entry ∧ entry ≤ 0x20 ∧ bin < 32)) "histogram"
    (if s.dev = .off ∨ s.dev = .reset then s
     else
       let n := Store.get 0 s.wear.hist (entry * 64 + 32)
       let b := (Store.get 0 s.wear.hist (entry * 64 + bin)).toNat
       let h := Store.set 0 s.wear.hist (entry * 64 + 32) (n + 1)
       { s with wear.hist := Store.set 0 h (entry * 64 + bin) (BitVec.ofNat 64 (min (b + 1) (2 ^ 32 - 1))) })

end Sys2Proof.Machine
end

