-- ==== Sys2Proof/Machine/Tier.lean ====
section
/-! DEFINITION. The tier manager (R283 to R306): its command ring, CREATE, FREE, MIGRATE, PLACE and BUMP, far-pool entries and their
reachability, and the start of the tiered range. -/

namespace Sys2Proof.Machine

/-! ### The command ring (R283) -/

def tcOp (x : BitVec 512) : Nat := fld x 507 504
def tcObj (x : BitVec 512) : Nat := fld x 503 488
def tcLog2 (x : BitVec 512) : Nat := fld x 487 483
def tcPlace (x : BitVec 512) : Nat := fld x 482 480
def tcPool (x : BitVec 512) : Nat := fld x 479 476
def tcZero (x : BitVec 512) : Bool := fbit x 475
def tcNear (x : BitVec 512) : Bool := fbit x 472
def tcAcct (x : BitVec 512) : Nat := fld x 459 456
def tcBase (x : BitVec 512) : Nat := fld x 447 414 * 4096
def tcCount (x : BitVec 512) : Nat := fld x 413 380
def tcFirst (x : BitVec 512) : Nat := fld x 379 346
def tcUseBy (x : BitVec 512) : Nat := fld x 319 256

/-- The slot that the tier manager executes next. -/
def State.tcHead (s : State) : Nat := bits (s.reg 0xB00C).toNat 7 0
/-- The near-memory address of a slot. -/
def State.tcAddr (s : State) (i : Nat) : Nat := s.dictNat 0x4300 9 + 64 * i
/-- The command at the head, where there is one. -/
def State.tcItem (s : State) : Option (BitVec 512) :=
  if s.tcHead = bits (s.reg 0xB008).toNat 7 0 then none
  else some (BitVec.ofNat 512 (leNat (s.near (s.tcAddr s.tcHead) 64)))

/-- The end of the command at the head (R283): its result, its signal, and the head moved on. -/
def State.tcEnd (s : State) (x : BitVec 512) (st : Status) (done : Nat) : State :=
  let y := setFld (setFld (setFld x 63 48 st.code) 47 14 done) 0 0 1
  let s := { (s.count st).putNear (s.tcAddr s.tcHead) (leBytes 64 y.toNat) with tier.run := none }
  let s := if fbit x 255 then s.signalSem (fld x 254 239) else s
  s.setReg 0xB00C (BitVec.ofNat 64 ((s.tcHead + 1) % 256))

/-- The fields that an operation leaves unused, and the reserved ones. -/
def tcUnused (x : BitVec 512) : List (Nat × Nat) :=
  [(455, 448), (345, 320), (238, 192), (127, 64), (13, 1)] ++
  match tcOp x with
  | 0 => [(472, 472), (379, 346), (319, 256)]
  | 2 => [(487, 473), (471, 414)] ++ (if tcNear x then [] else [(319, 256)])
  | 3 => [(487, 483), (479, 346), (319, 256)]
  | _ => [(487, 346), (319, 256)]

/-- The checks of R11 and R12. The manual gives no status for an object number of 0 and a page size outside its range. DESIGN CHOICE: both
are RESERVED_NONZERO. -/
def tcCheck (x : BitVec 512) : Status :=
  if fld x 511 508 ≠ 1 then .versionUnsupported
  else if 5 ≤ tcOp x ∨ tcObj x = 0 ∨ zeros x (tcUnused x) = false ∨
    (tcOp x = 0 ∧ (tcLog2 x < 12 ∨ 30 < tcLog2 x)) ∨ ((tcOp x = 0 ∨ tcOp x = 3) ∧ 4 ≤ tcPlace x) then .reservedNonzero
  else .ok

/-! ### CREATE and FREE (R284, R285) -/

/-- The leaf of a page newly placed (R273). -/
def State.newLeaf (s : State) (n : Nat) (f : TFrame) : W128 :=
  let x := s.obj n
  let loc := s.locOf f
  BitVec.ofNat 128 (2 ^ 124 + 2 * 2 ^ 122 + obLog2 x * 2 ^ 117 + loc.1 * 2 ^ 115 + b2n (obRd x) * 2 ^ 113 + b2n (obWr x) * 2 ^ 112 +
    b2n (decide (obPlace x = 1)) * 2 ^ 111 + n * 2 ^ 95 + s.ageNow * 2 ^ 54 + loc.2 * 2 ^ 12)

/-- Does a range of offsets overlap a page of a LIVE object? -/
def State.objOverlap (s : State) (base n : Nat) : Bool :=
  s.tier.frames.any fun f => overlaps base n (pageOff (s.obj f.obj) f.page) (2 ^ f.log2)

/-- What CREATE is refused for. -/
def State.createOk (s : State) (x : BitVec 512) : Bool :=
  let size := tcCount x * 2 ^ tcLog2 x
  decide (obState (s.obj (tcObj x)) = 0) && decide (tcBase x % 2 ^ tcLog2 x = 0) && decide (tcBase x + size ≤ 2 ^ 46) &&
  !s.objOverlap (tcBase x) size && fpEnable (s.farPool (tcPool x)) && (decide (tcPlace x ≠ 3) || fpHost (s.farPool (tcPool x))) &&
  s.tierOn

/-- A new page's bytes set to zero where the command asks for it (R284). -/
def State.fillFrame (s : State) (x : BitVec 512) (f : TFrame) : State :=
  if tcZero x then
    match f.pool with
    | none => s.zeroNear f.addr (2 ^ f.log2)
    | some p => s.putFar p f.addr (List.replicate (2 ^ f.log2) 0)
  else s

/-- A frame entered as a new page, with its accounting (R284, R304); false where no page-table node is left. -/
def State.enterPage (s : State) (x : BitVec 512) (page : Nat) (far : Bool) (f : TFrame) : State × Bool :=
  (s.enterLeaf (pageOff (s.obj (tcObj x)) page) (s.newLeaf (tcObj x) f)).elim (s.dropFrame f, false) fun t =>
    (((t.acctAdd (tcAcct x) far ((2 ^ tcLog2 x : Nat) : Int)).objAdd (tcObj x) (if far then 279 else 319)
        (if far then 240 else 280) 1).fillFrame x f, true)

/-- One page given its frame and its leaf; false where a frame or a table node could not be had. -/
def State.createPage (s : State) (x : BitVec 512) (page : Nat) : State × Bool :=
  let pool := if 2 ≤ tcPlace x then some (tcPool x) else none
  let r := s.allocFrame pool (tcLog2 x) (tcObj x) page
  match r.2 with
  | none => (r.1, false)
  | some f => r.1.enterPage x page pool.isSome f

/-- Pages from `page` on, at most `fuel`, while they can be had; and the first page that could not be. -/
def State.createPages : Nat → State → BitVec 512 → Nat → State × Option Nat
  | 0, s, _, _ => (s, none)
  | fuel + 1, s, x, page =>
    let r := s.createPage x page
    if r.2 then State.createPages fuel r.1 x (page + 1) else (r.1, some page)

/-- One page of an object given up: its leaf cleared, its frame free, its bytes out of the accounts. -/
def State.freePage (s : State) (f : TFrame) : State :=
  let x := s.obj f.obj
  let s := (match s.firstEntry (pageOff x f.page) f.log2 with
    | some a => (List.range (replicas f.log2)).foldl (fun (t : State) i => t.putPte (a + 16 * i) 0) (s.xlatDrop (pageOff x f.page))
    | none => s)
  let far := f.pool.isSome
  let s := (s.acctAdd (obAcct x) far (-((2 ^ f.log2 : Nat) : Int))).objAdd f.obj (if far then 279 else 319) (if far then 240 else 280) (-1)
  s.dropFrame f

/-- Every page of an object given up, and its entry FREE. -/
def State.freeObj (s : State) (n : Nat) : State :=
  let s := (s.tier.frames.filter fun f => decide (f.obj = n)).foldl State.freePage s
  s.putObj n (setFld (s.obj n) 507 506 0)

/-- The entry of an object as CREATE writes it. The manual does not say what the write generation and the byte counts of an entry used
before hold after CREATE. DESIGN CHOICE: the generation stays, the counts are 0. -/
def createEntry (old x : BitVec 512) : BitVec 512 :=
  BitVec.ofNat 512 (2 ^ 508 + 2 ^ 506 + tcLog2 x * 2 ^ 501 + tcPlace x * 2 ^ 498 + tcPool x * 2 ^ 494 + fld x 474 474 * 2 ^ 493 +
    fld x 473 473 * 2 ^ 492 + fld x 471 460 * 2 ^ 480 + fld x 447 414 * 2 ^ 446 + tcCount x * 2 ^ 412 + tcAcct x * 2 ^ 408 +
    fld old 383 352 * 2 ^ 352)

/-- The table entries on the walk of an offset that name a node from `bound` on cleared, the deepest first. -/
def State.clearNodes (s : State) (o bound : Nat) : Nat → Nat → Nat → State
  | 0, _, _ => s
  | fuel + 1, level, base =>
    let a := base + 16 * levelIx o level
    let x := s.pte a
    if pteVersion x = 1 ∧ pteType x = 1 then
      let t := s.clearNodes o bound fuel (level + 1) (pteNext x)
      if bound ≤ pteNext x then t.putPte a 0 else t
    else s

/-- What a CREATE obtained for its pages up to page `k` given back (R285): frames, table nodes and the object's entry are as in `old`. -/
def State.createBack (s old : State) (x : BitVec 512) (k : Nat) : State :=
  let base := pageOff (s.obj (tcObj x))
  let bound := s.tpBase + 0x426000 + 8192 * old.tier.nodes
  let t := s.freeObj (tcObj x)
  let t := (List.range (k + 1)).foldl (fun (t : State) i => t.clearNodes (base i) bound 3 0 (t.dictNat 0x4300 8)) t
  { t with tier.nodes := old.tier.nodes }.putObj (tcObj x) (old.obj (tcObj x))

/-- CREATE. A CREATE that cannot obtain everything gives back what it obtained. -/
def State.tcCreate (s : State) (x : BitVec 512) : State :=
  if s.createOk x = false then s.tcEnd x .stateConflict 0
  else
    let r := State.createPages (tcCount x) (s.putObj (tcObj x) (createEntry (s.obj (tcObj x)) x)) x 0
    match r.2 with
    | none => r.1.tcEnd x .ok (tcCount x)
    | some k => ((r.1.createBack s x k).exhausted).tcEnd x .poolExhausted 0

/-- FREE. -/
def State.tcFree (s : State) (x : BitVec 512) : State :=
  let n := tcObj x
  let fs := s.tier.frames.filter fun f => decide (f.obj = n)
  if !s.liveObj n || fs.any (fun f => s.pageHeld (s.obj n) f.page) then s.tcEnd x .stateConflict 0
  else (s.freeObj n).tcEnd x .ok fs.length

/-! ### MIGRATE, PLACE, BUMP (R284, R286, R287) -/

/-- Is a move accepted by a placement policy (R271)? -/
def moveOk (place : Nat) (near : Bool) : Bool :=
  match place with
  | 0 => true
  | 1 => near
  | 2 => true
  | _ => false

/-- What MIGRATE is refused for. -/
def State.migrateOk (s : State) (x : BitVec 512) : Bool :=
  let o := s.obj (tcObj x)
  s.liveObj (tcObj x) && decide (tcFirst x + tcCount x ≤ obCount o) && moveOk (obPlace o) (tcNear x)

/-- The transit bit of a page's leaf. -/
def State.setTransit (s : State) (o : Nat) (on : Bool) : State :=
  match s.leaf o with
  | some lf => (s.xlatDrop o).putLeaf o (set128 lf 114 114 (b2n on))
  | none => s

/-- Can a page be written to its new frame now: a far pool is reachable? -/
def State.movePoolUp (s : State) (new : TFrame) : Bool := new.pool.all fun p => fpReach (s.farPool p)

/-- The MIGRATE under way taken on by one page (R286); pages already in the target tier count at once. -/
def State.migrateGo : Nat → State → BitVec 512 → State
  | 0, s, _ => s
  | fuel + 1, s, x =>
    let run := (s.tier.run).getD {}
    let n := tcObj x
    let page := tcFirst x + run.done
    let o := pageOff (s.obj n) page
    if tcCount x ≤ run.done then s.tcEnd x .ok run.done
    else
      match run.target with
      | some new =>
        (match s.tier.frames.find? fun f => decide (f.obj = n ∧ f.page = page ∧ f ≠ new) with
          | none => s.tcEnd x .pageFault run.done
          | some old =>
            if !s.movePoolUp new then s
            else
              let r := s.finishMove old new (tcUseBy x)
              if r.2 = .ok then
                let s := { r.1 with tier.run := some { done := run.done + 1, target := none } }
                if tcCount x ≤ run.done + 1 then s.tcEnd x .ok (run.done + 1) else s
              else r.1.tcEnd x r.2 run.done)
      | none =>
        match s.frameOf n page with
        | none => s.tcEnd x .pageFault run.done
        | some f =>
          if f.pool.isNone = tcNear x then State.migrateGo fuel { s with tier.run := some { run with done := run.done + 1 } } x
          else if s.pageHeld (s.obj n) page then s
          else
            let s := s.setTransit o true
            let pool := if tcNear x then none else some (obPool (s.obj n))
            let got := if tcNear x || fpEnable (s.farPool (obPool (s.obj n))) then s.allocFrame pool f.log2 n page else (s, none)
            match got.2 with
            | none => ((got.1.setTransit o false).exhausted).tcEnd x .poolExhausted run.done
            | some r => { got.1 with tier.run := some { run with target := some r } }

/-- MIGRATE, begun or taken on. -/
def State.tcMigrate (s : State) (x : BitVec 512) : State :=
  match s.tier.run with
  | some _ => State.migrateGo (tcCount x + 1) s x
  | none =>
    if s.migrateOk x && (s.ftValid || decide (tcUseBy x = 0)) then State.migrateGo (tcCount x + 1) { s with tier.run := some {} } x
    else s.tcEnd x .stateConflict 0

/-- PLACE: between NEAR and FAR only. -/
def State.tcPlaceCmd (s : State) (x : BitVec 512) : State :=
  let o := s.obj (tcObj x)
  if s.liveObj (tcObj x) && decide (obPlace o = 0 ∨ obPlace o = 2) && decide (tcPlace x = 0 ∨ tcPlace x = 2) then
    (s.putObj (tcObj x) (setFld o 500 498 (tcPlace x))).tcEnd x .ok 0
  else s.tcEnd x .stateConflict 0

/-- BUMP. -/
def State.tcBump (s : State) (x : BitVec 512) : State :=
  if s.liveObj (tcObj x) then (s.bumpWgen (tcObj x)).tcEnd x .ok 0 else s.tcEnd x .stateConflict 0

/-- The command at the head executed, where it is one for `op`. A command of another version or with a reserved operation belongs to
every row. -/
def State.tierCommand (s : State) (op : Nat) : State :=
  match s.tcItem with
  | none => s
  | some x =>
    if tcOp x ≠ op ∧ tcOp x < 5 ∧ fld x 511 508 = 1 then s
    else
      match tcCheck x with
      | .ok =>
        (match op with
          | 0 => s.tcCreate x
          | 1 => s.tcFree x
          | 2 => s.tcMigrate x
          | 3 => s.tcPlaceCmd x
          | _ => s.tcBump x)
      | st => s.tcEnd x st 0

/-! ### Far-pool entries (R292, R295) -/

/-- The fields that a write may not change while the pool holds a page. -/
def fpGeometry (x : BitVec 256) : Nat := bits x.toNat 250 250 + 2 * bits x.toNat 241 168

/-- A write of a far-pool entry (R292, R295). -/
def State.farPoolWrite (s : State) (n : Nat) (v : BitVec 256) : State × Status :=
  let old := s.farPool n
  if !s.poolsWritable then (s, .stateConflict)
  else if bits v.toNat 255 252 ≠ 1 then (s, .versionUnsupported)
  else if bits v.toNat 248 242 ≠ 0 ∨ bits v.toNat 167 128 ≠ 0 ∨ bits v.toNat 103 64 ≠ 0 ∨ bits v.toNat 191 168 = 0 ∨
    (fpHost v = false ∧ (Config.nearBytes ≤ fpBase v ∨ chipGroup (fpChip v) ≠ chipGroup s.fab.chipNum)) then (s, .reservedNonzero)
  else if s.poolUsed n ∧ (fpGeometry old ≠ fpGeometry v ∨ fpEnable v = false) then (s, .stateConflict)
  else
    let x : BitVec 256 := BitVec.ofNat 256 (setBits (setBits v.toNat 127 104 0) 63 0 (bits old.toNat 63 0))
    let s := { s with tier.lost := s.tier.lost.filter (· ≠ n), tier.away := s.tier.away.filter (· ≠ n) }
    (s.setFarPool n (fpSetReach x (s.routeUp v)), .ok)

/-! ### Enabling the range (R305, R306) -/

/-- Is any object LIVE? One that is has a byte of its entry listed. -/
def State.anyLive (s : State) : Bool :=
  s.tierOn && s.mem.near.any fun c => decide (s.objAddr 0 ≤ c.1 ∧ c.1 < s.objAddr 65536) && s.liveObj ((c.1 - s.objAddr 0) / 64)

/-- May the CONFIG entries of the tiered range be written now? -/
def State.tierWritable (s : State) : Bool := decide (s.dev = .config) || (decide (s.dev = .ready) && !s.anyLive)

/-- A write of 1 to `TIER_ENABLE`: the metadata area zeroed, the addresses set. -/
def State.tierStart (s : State) : State :=
  let b := s.tpBase
  let s := { s.zeroNear b s.metaSize with tier.nodes := 0, tier.frames := [], tier.run := none, tier.xlat := [] }
  let s := (List.range 16).foldl (fun (t : State) a => (t.setReg (0xB100 + 32 * a) 0).setReg (0xB108 + 32 * a) 0) s
  ((((s.setDictNat 0x4300 6 (b + 0x26000)).setDictNat 0x4300 7 (b + 0x6000)).setDictNat 0x4300 8 b).setDictNat 0x4300 9 (b + 0x2000)).setDictNat
    0x4300 5 1

/-- `TIER_ENABLE` written with 1. -/
def State.tierEnable (s : State) : State × Status := if s.tierWritable then (s.tierStart, .ok) else (s, .stateConflict)

/-! ### Commands -/

/-- CREATE (R284, R285). -/
def execCreate (s : State) : Host.Outcome State Fault Refusal := .next (s.tierCommand 0)
/-- FREE (R284). -/
def execFree (s : State) : Host.Outcome State Fault Refusal := .next (s.tierCommand 1)
/-- MIGRATE (R284, R286). -/
def execMigrate (s : State) : Host.Outcome State Fault Refusal := .next (s.tierCommand 2)
/-- PLACE (R284). -/
def execPlace (s : State) : Host.Outcome State Fault Refusal := .next (s.tierCommand 3)
/-- BUMP (R284). -/
def execBump (s : State) : Host.Outcome State Fault Refusal := .next (s.tierCommand 4)
/-- FAR_POOL_WRITE (R292): its status counted (R630). -/
def execFarPoolWrite (pool : Nat) (val : BitVec 256) (s : State) : Host.Outcome State Fault Refusal :=
  ifUnit (isFarPool pool) "far pool" (let r := s.farPoolWrite pool val; r.1.count r.2)
/-- REACHABLE_LOSS (R295). -/
def execReachableLoss (pool : Nat) (peerReset : Bool) (s : State) : Host.Outcome State Fault Refusal :=
  ifUnit (isFarPool pool) "far pool"
    (let t := s.reachLoss pool peerReset
     { t with tier.away := pool :: t.tier.away.filter (· ≠ pool) })
/-- REACHABLE_RESTORE (R295). -/
def execReachableRestore (pool : Nat) (s : State) : Host.Outcome State Fault Refusal :=
  ifUnit (isFarPool pool) "far pool" ({ s with tier.away := s.tier.away.filter (· ≠ pool) }.reachRestore pool)
/-- HWM_CLEAR (R304, R307). -/
def execHwmClear (s : State) : Host.Outcome State Fault Refusal := .next s.hwmClear
/-- TIER_ENABLE (R305, R306): a write of 1, its status counted. -/
def execTierEnable (s : State) : Host.Outcome State Fault Refusal := .next (let r := s.tierEnable; r.1.count r.2)

end Sys2Proof.Machine
end

