-- ==== Sys2Proof/Machine/Causes.lean ====
section
/-! DEFINITION. Stall causes (R350, R351): what a descriptor meets in a control cycle, and the cause that a semaphore holds. -/

namespace Sys2Proof.Machine

/-- The extents of this chip's near memory that rows lie in, pages of the tiered range translated. -/
def State.nearPieces (s : State) (rows : List (Nat × Nat)) : List (Nat × Nat) :=
  (rows.map fun r =>
    if !s.isOwn r.1 then []
    else
      match regionOf (addrLocal r.1) with
      | .near a => [(a, r.2)]
      | .tiered o => (spans4k o r.2).filterMap fun e =>
          match s.place e.1 with
          | .near a => some (a, e.2)
          | _ => none
      | _ => []).flatten

/-- Does a descriptor reach a near-memory channel for which `p` holds? -/
def State.descMeets (s : State) (d : Desc) (p : Nat → Bool) : Bool :=
  (s.nearPieces d.rows).any fun r => (blocksOf r.1 r.2).any fun b => p (chanOf b)

/-- Is a channel re-sending a burst or retraining (R250)? -/
def State.chanBusy (s : State) (ch : Nat) : Bool :=
  (s.chan ch).retraining || decide (s.cycle.toNat < (s.chan ch).resendUntil)

/-- Is the stack of a channel throttled (R261)? -/
def State.chanThrottled (s : State) (ch : Nat) : Bool := s.flag (msOff (stackOf ch) 0) 6

/-- Does a descriptor read or write a far page (R282)? -/
def State.descFar (s : State) (d : Desc) : Bool :=
  d.farRead || (s.tieredPages d.rows).any fun o => (s.farPoolOf o).isSome

/-- Does a packet of a descriptor's requests stand at a port that re-sends, trains or cannot send (R350)? -/
def State.descFabric (s : State) (d : Desc) : Bool :=
  let tags := (s.fab.outReqs.filter fun r => decide (r.why.descId = some d.id)).map (·.tag)
  let mine := fun (k : Packet) => decide (k.src = s.fab.chipNum) && tags.contains k.tag
  !tags.isEmpty && s.fab.ports.any fun e =>
    e.2.queue.any mine || ((decide (e.2.link ≠ .active) || decide (e.2.fails ≠ 0)) && e.2.replay.any fun f => f.pkts.any mine)

/-- The stall cause of a descriptor in a cycle: the highest code of those that apply (R350). A descriptor that waits for its own
semaphore or for another chip's check, and meets nothing else, takes code 0. -/
def State.descCause (s : State) (d : Desc) : Nat :=
  let moves := decide (d.stage = .moving ∨ d.stage = .landed)
  if s.descFabric d then 6
  else if d.stage = .transit then 5
  else if d.stage = .unreachable ∨ (d.stage = .moving ∧ s.descFar d = true) then 4
  else if moves && (List.range 8).any (fun m => s.flag (msOff m 0) 6) && s.descMeets d s.chanThrottled then 3
  else if moves && s.mem.chans.any (fun e => s.chanBusy e.1) && s.descMeets d s.chanBusy then 2
  else b2n moves

/-- The cause a semaphore holds: that of the taken descriptor or item that will signal it and was taken earliest (R351). -/
def State.semCause (s : State) (i : Nat) : Nat :=
  let rel := fun k x => itemRel s.fab.chipNum k x == some i
  let ds := (s.qs.descs.filter fun d => rel 0 d.item).map fun d => (d.id, s.descCause d)
  let hs := s.qs.queues.filterMap fun e =>
    match e.2.held with
    | some h => if rel e.2.kind h.item then some (h.seq, if s.lacksTokens e then 7 else 0) else none
    | none => none
  match (ds ++ hs).foldl (fun (m : Option (Nat × Nat)) e =>
      match m with
      | none => some e
      | some b => if e.1 < b.1 then some e else some b) none with
  | some m => m.2
  | none => 0

/-- The 128 bits of a semaphore object (R366); its reserved bits read zero. -/
def State.semObj (s : State) (i : Nat) : W128 :=
  let S := s.sem i
  BitVec.ofNat 128
    (S.version * 2 ^ 124 + S.state.code * 2 ^ 122 + b2n S.observe * 2 ^ 121 + s.semCause i * 2 ^ 118 + S.take * 2 ^ 110 +
     S.add * 2 ^ 102 + S.ownCore * 2 ^ 94 + S.ownCtx * 2 ^ 78 + S.thr * 2 ^ 48 +
     S.waiters.length % 65536 * 2 ^ 32 + S.count.toNat)

end Sys2Proof.Machine
end

