-- ==== Sys2Proof/Machine/Media.lean ====
section
/-! DEFINITION. The media engines (R493 to R522). What a stream's bytes decode to, and what a picture is coded as, is the business of
coding standards that the manual names and does not hold: it comes from free values (Config.mediaUnit, Config.mediaEncode). Everything
the manual itself says of sessions, marks, buffers, patch tiles, results and registers is here. -/

namespace Sys2Proof.Machine

/-! ### Session descriptors (R496, R497) -/

def msCodec (x : BitVec 512) : Nat := fld x 507 506
def msEncode (x : BitVec 512) : Bool := fbit x 505
def msE (x : BitVec 512) : Nat := if fbit x 504 then 2 else 1
def msW (x : BitVec 512) : Nat := m1 x 503 490
def msH (x : BitVec 512) : Nat := m1 x 489 476
def msFbs (x : BitVec 512) : Nat := m1 x 475 470
def msDisp (x : BitVec 512) : Bool := fbit x 469
def msPatch (x : BitVec 512) : Bool := fbit x 468
def msRot (x : BitVec 512) : Nat := fld x 467 466
def msMirror (x : BitVec 512) : Bool := fbit x 465
def msSw (x : BitVec 512) : Nat := m1 x 464 451
def msSh (x : BitVec 512) : Nat := m1 x 450 437
def msFbBase (x : BitVec 512) : Nat := fld x 436 409 * 4096
def msBsBase (x : BitVec 512) : Nat := fld x 408 381 * 4096
def msBsBytes (x : BitVec 512) : Nat := fld x 380 357 * 4096
def msObBase (x : BitVec 512) : Nat := fld x 356 329 * 4096
def msRc (x : BitVec 512) : Nat := fld x 328 327
def msSub (x : BitVec 512) : Bool := fbit x 326

/-- The size of output pictures after rotation. -/
def msOut (x : BitVec 512) : Nat × Nat := if msRot x % 2 = 1 then (msSh x, msSw x) else (msSw x, msSh x)

/-- The pitch and the luma rows of a buffer for pictures up to a size (R497). -/
def mxPitch (w e : Nat) : Nat := ceilDiv w 256 * 256 * e
def mxRows (h : Nat) : Nat := ceilDiv h 64 * 64
/-- The bytes of motion data of a frame buffer. -/
def mxMotion (w h : Nat) : Nat := ceilDiv w 16 * ceilDiv h 16 * 16

/-- `fb_bytes` (R497). -/
def msFbBytes (x : BitVec 512) : Nat :=
  roundUp (4096 + mxPitch (msW x) (msE x) * mxRows (msH x) * 3 / 2 + mxMotion (msW x) (msH x)) 4096

/-- `ob_bytes` (R497). -/
def msObBytes (x : BitVec 512) : Nat :=
  roundUp (4096 + mxPitch (msOut x).1 (msE x) * mxRows (msOut x).2 * 3 / 2) 4096

/-! ### Patch descriptors (R507) -/

def pdSide (p : BitVec 512) : Nat := 2 ^ fld p 507 505
def pdCs (p : BitVec 512) : Nat := fld p 504 503
def pdFmt (p : BitVec 512) : Nat := fld p 502 499
def pdCore (p : BitVec 512) : Nat := fld p 498 491
def pdSlots (p : BitVec 512) : Nat := m1 p 477 472
def pdEvery (p : BitVec 512) : Nat := m1 p 471 464
def pdFree (p : BitVec 512) : Nat := fld p 463 448
def pdFull (p : BitVec 512) : Nat := fld p 447 432
/-- Scale and offset of channel `ch`. -/
def pdScale (p : BitVec 512) (ch : Nat) : W32 := BitVec.ofNat 32 (fld p (351 - 64 * ch) (320 - 64 * ch))
def pdOffset (p : BitVec 512) (ch : Nat) : W32 := BitVec.ofNat 32 (fld p (319 - 64 * ch) (288 - 64 * ch))
/-- Elements of a token, tiles of a block, granules of a slot (R508, R510). -/
def pdElems (p : BitVec 512) : Nat := if pdCs p = 0 then 3 * pdSide p * pdSide p / 2 else 3 * pdSide p * pdSide p
def pdTiles (p : BitVec 512) : Nat := ceilDiv (pdElems p) 64
def pdSlotGran (p : BitVec 512) (slot : Nat) : Nat := fld p 490 478 + slot * pdTiles p * fmtGranules (pdFmt p)

/-! ### Sessions and engines -/

/-- The offset of an engine's register (R519). -/
def mxOff (e off : Nat) : Nat := 0x20000000 + 0x1000000 * e + off
/-- A session. -/
def State.session (s : State) (e n : Nat) : Session := Store.get {} s.sessions (e * 64 + n)
/-- The state with a session replaced. -/
def State.setSession (s : State) (e n : Nat) (v : Session) : State := { s with sessions := Store.set {} s.sessions (e * 64 + n) v }
/-- An engine. -/
def State.mx (s : State) (e : Nat) : MxEng := Store.get {} s.media e
/-- The state with an engine replaced. -/
def State.setMx (s : State) (e : Nat) (v : MxEng) : State := { s with media := Store.set {} s.media e v }

/-- The address of a frame buffer. -/
def fbAddr (x : BitVec 512) (k : Nat) : Nat := msFbBase x + k * msFbBytes x

/-- A buffer's mark. -/
def Session.mark (S : Session) (k : Nat) : Nat := (S.marks[k]?).getD 0

/-- A buffer's mark set, and written to its metadata (R499, R500). -/
def State.setMark (s : State) (e n k v : Nat) : State :=
  let S := s.session e n
  let s := s.setSession e n { S with marks := S.marks.set k v }
  (s.writeNear (fbAddr S.desc k + 4) (leBytes 1 v)).1

/-! ### Media commands (R503) -/

def mcOp (x : BitVec 512) : Nat := fld x 507 504
def mcSess (x : BitVec 512) : Nat := fld x 503 498
def mcAddr (x : BitVec 512) : Nat := fld x 479 446 * 64
def mcOff (x : BitVec 512) : Nat := fld x 445 414
def mcLen (x : BitVec 512) : Nat := fld x 413 382

/-- The ring slot that the engine executes next, and its address. -/
def State.mxHead (s : State) (e : Nat) : Nat := (s.reg (mxOff e 0x0C)).toNat % 256
def State.mxSlot (s : State) (e : Nat) : Nat := s.dictNat 0x7000 (1 + e) + 64 * s.mxHead e

/-- The command under way ends (R503, R519): the result fields, `done` last, the head, the counters, then the signal. -/
def State.mxEnd (s : State) (e : Nat) (st : Status) : State :=
  let M := s.mx e
  let x := M.cmd
  let a := s.mxSlot e
  let head := s.mxHead e
  let s := s.setMx e {}
  let s := (s.writeNear (a + 4)
    (leBytes 4 M.conceal ++ leBytes 1 M.fb ++ leBytes 1 M.reason ++ leBytes 2 st.code ++ leBytes 4 M.outLen ++
      leBytes 8 M.outMask)).1
  let s := (s.writeNear a [1]).1
  let s := (s.setReg (mxOff e 0x0C) (BitVec.ofNat 64 ((head + 1) % 256))).count st
  let s :=
    if st = .ok then s.bump (mxOff e 0x18) 1
    else s.faultRec (mxOff e 0) 2
      [(mxOff e 0x60, BitVec.ofNat 64 (st.code * 2 ^ 48 + M.reason * 2 ^ 40 + mcSess x * 2 ^ 32 + head)),
       (mxOff e 0x68, BitVec.ofNat 64 (fld x 255 192))]
  if fbit x 497 then s.signalSem (fld x 496 481) else s

/-! ### OPEN (R498) -/

/-- R493's limits on a picture of `w` × `h`. -/
def mxSizeOk (codec : Nat) (enc : Bool) (w h : Nat) : Bool :=
  let most := fun (n a b : Nat) => decide (w * h ≤ n ∧ w ≤ a ∧ h ≤ b)
  match codec, enc with
  | 0, _ => most 9437184 8688 8688
  | 1, false => most 35651584 16384 16384
  | 1, true => most 8912896 8192 8192
  | _, false => most 35651584 16384 8704
  | _, true => most 8912896 8192 4352

/-- Check 2 of a session descriptor, but for the patch descriptor. -/
def msFields (x : BitVec 512) : Bool :=
  let c := msCodec x
  zeros x [(320, 320), (209, 0)] && decide (c ≠ 3) && decide (fld x 380 357 ≠ 0) && mxSizeOk c (msEncode x) (msW x) (msH x) &&
  (if msEncode x then
    decide (c ≠ 0) && zeros x [(469, 468), (464, 437), (356, 329), (325, 321)] && decide (msRc x ≠ 3) &&
    decide (fld x 255 240 ≠ 0) && decide (c ≠ 1 ∨ fld x 217 210 ≤ 51) && (decide (msRc x ≠ 0) || zeros x [(319, 256)])
  else
    zeros x [(328, 326), (319, 210)] && decide (fld x 324 321 ≠ 0) && (decide (c = 2) || !fbit x 325) &&
    (msDisp x || decide (msObBase x = 0)) && mxSizeOk c false (msSw x) (msSh x))

/-- Check 2 of a patch descriptor. -/
def pdFields (p : BitVec 512) : Bool :=
  zeros p [(159, 0)] && decide (3 ≤ fld p 507 505 ∧ fld p 507 505 ≤ 5) && decide (pdCs p ≠ 3) &&
  decide (1 ≤ pdFmt p ∧ pdFmt p ≤ 3) && isCore (pdCore p) && decide (pdSlotGran p (pdSlots p) ≤ 7168)

/-- The extents of a session: address, length, and whether the engine writes it. -/
def msExtents (x : BitVec 512) (a : Nat) : List (Nat × Nat × Bool) :=
  [(a, if msPatch x then 128 else 64, false), (msFbBase x, msFbs x * msFbBytes x, true),
   (msBsBase x, msBsBytes x, msEncode x)] ++ (if msDisp x then [(msObBase x, msFbs x * msObBytes x, true)] else [])

/-- Check 4 of a session descriptor, but for the session's state. -/
def msLimits (x : BitVec 512) (a : Nat) : Bool :=
  let bits_ := fld x 287 256 * 1000
  !anyOverlap ((msExtents x a).map fun e => (e.1, e.2.1)) &&
  decide ((if msEncode x then 6 else if msCodec x = 2 then 10 else 3) ≤ msFbs x) &&
  (!msEncode x || decide (msRc x = 0) ||
    decide (msW x * msH x ≤ 4 * bits_ ∧ 2 * fld x 319 288 * 1000 * fld x 255 240 ≤ bits_ * 90000))

/-- The checks at OPEN, in order. -/
def State.mxOpenCheck (s : State) (e n a : Nat) (x p : BitVec 512) : Status :=
  if fld x 511 508 ≠ 1 ∨ (msPatch x ∧ !msEncode x ∧ fld p 511 508 ≠ 1) then .versionUnsupported
  else if !msFields x || (msPatch x && !pdFields p) then .reservedNonzero
  else if !((msExtents x a).all fun r => decide (r.1 + r.2.1 ≤ Config.nearBytes) && !(r.2.2 && touchesFw r.1 r.2.1)) then .pageFault
  else if msPatch x && !s.corePresent (pdCore p) then .pageFault
  else if (s.session e n).state ≠ 0 ∨ !msLimits x a then .stateConflict
  else .ok

/-- OPEN (R498, R504). -/
def State.mxOpen (s : State) (e : Nat) (c : BitVec 512) : State :=
  let n := mcSess c
  let a := mcAddr c
  if Config.nearBytes < a + 64 then s.mxEnd e .pageFault
  else
    let two := fbit (BitVec.ofNat 512 (leNat (s.near a 64))) 468 && decide (a + 128 ≤ Config.nearBytes)
    let r := s.readNear a (if two then 128 else 64)
    if r.2.1 ≠ .ok then r.1.mxEnd e r.2.1
    else
      let x : BitVec 512 := BitVec.ofNat 512 (leNat (r.2.2.take 64))
      let p : BitVec 512 := BitVec.ofNat 512 (leNat (r.2.2.drop 64))
      match s.mxOpenCheck e n a x p with
      | .ok =>
        (s.setSession e n {
          state := if msEncode x then 1 else 2, desc := x, patch := if msPatch x then p else 0,
          marks := List.replicate (msFbs x) 0 }).mxEnd e .ok
      | st => s.mxEnd e st

/-! ### Rotation (R506) -/

/-- A plane of width `w` and height `h` turned clockwise by `rot` quarters and mirrored. -/
def rotPlane (rot : Nat) (mirror : Bool) (w h : Nat) (l : List Nat) : List Nat :=
  let W := if rot % 2 = 1 then h else w
  let H := if rot % 2 = 1 then w else h
  let src := fun (r c : Nat) =>
    match rot with
    | 0 => r * w + c
    | 1 => (h - 1 - c) * w + r
    | 2 => (h - 1 - r) * w + (w - 1 - c)
    | _ => c * w + (w - 1 - r)
  ((List.range H).map fun r => (List.range W).map fun c => (l[src r (if mirror then W - 1 - c else c)]?).getD 0).flatten

/-- A picture rotated and mirrored. -/
def rotPic (rot : Nat) (mirror : Bool) (p : Pic) : Pic :=
  let cw := ceilDiv p.w 2
  let ch := ceilDiv p.h 2
  { w := if rot % 2 = 1 then p.h else p.w, h := if rot % 2 = 1 then p.w else p.h,
    y := rotPlane rot mirror p.w p.h p.y, cb := rotPlane rot mirror cw ch p.cb, cr := rotPlane rot mirror cw ch p.cr }

/-- An output picture: scaled where its size differs, rotated and mirrored. -/
def outPic (version : Nat) (x : BitVec 512) (p : Pic) : Pic :=
  let q := if p.w = msSw x ∧ p.h = msSh x then p
    else { Config.mediaScale version (msSw x) (msSh x) p with w := msSw x, h := msSh x }
  rotPic (msRot x) (msMirror x) q

/-! ### Planes in memory (R497) -/

/-- One row of samples as bytes. -/
def sampleBytes (e : Nat) (l : List Nat) : List Byte := (l.map fun v => leBytes e (v % (if e = 2 then 1024 else 256))).flatten

/-- A row of a plane. -/
def planeRow (w r : Nat) (l : List Nat) : List Nat := (List.range w).map fun c => (l[r * w + c]?).getD 0

/-- The writes of a picture whose luma plane begins at `a`, with a pitch and luma rows. -/
def picWrites (e pitch rows a : Nat) (p : Pic) : List (Nat × List Byte) :=
  let cw := ceilDiv p.w 2
  let weave := fun (r : Nat) => (List.zipWith (fun u v => [u, v]) (planeRow cw r p.cb) (planeRow cw r p.cr)).flatten
  (List.range p.h).map (fun r => (a + r * pitch, sampleBytes e (planeRow p.w r p.y))) ++
  (List.range (ceilDiv p.h 2)).map (fun r => (a + rows * pitch + r * pitch, sampleBytes e (weave r)))

/-- A list of writes made; the first status that is not OK. -/
def State.putAll (s : State) (l : List (Nat × List Byte)) : State × Status :=
  l.foldl
    (fun acc w =>
      let r := acc.1.writeNear w.1 w.2
      (r.1, acc.2.orElse r.2))
    (s, .ok)

/-! ### Patches (R508, R509) -/

/-- A sample of a plane, the nearest edge sample beyond it. -/
def sampleAt (w h : Nat) (l : List Nat) (r c : Nat) : Nat := (l[min r (h - 1) * w + min c (w - 1)]?).getD 0

/-- One RGB channel of R509 from luma and chroma samples; `s` is 2^(bit depth − 8). -/
def rgbOf (cs s ch y cb cr : Nat) : W32 :=
  let yv := f32div (f32ofInt ((y : Int) - 16 * s)) (f32ofNat (219 * s))
  let u := f32div (f32ofInt ((cb : Int) - 128 * s)) (f32ofNat (224 * s))
  let v := f32div (f32ofInt ((cr : Int) - 128 * s)) (f32ofNat (224 * s))
  let k := if cs = 1 then ((0x3FC9930C#32, 0x3E3FCB92#32, 0x3EEFAACE#32, 0x3FED844D#32) : W32 × W32 × W32 × W32)
    else (0x3FB374BC#32, 0x3EB03298#32, 0x3F36D19E#32, 0x3FE2D0E5#32)
  match ch with
  | 0 => f32add yv (f32mul k.1 v)
  | 1 => f32sub (f32sub yv (f32mul k.2.1 u)) (f32mul k.2.2.1 v)
  | _ => f32add yv (f32mul k.2.2.2 u)

/-- The elements of the token at patch row `r` and column `c` of a picture, before conversion to `pfmt`. -/
def tokenOf (x p : BitVec 512) (d : Pic) (r c : Nat) : List W32 :=
  let P := pdSide p
  let cw := ceilDiv d.w 2
  let ch := ceilDiv d.h 2
  let elem := fun (k : Nat) (v : W32) => f32fma v (pdScale p k) (pdOffset p k)
  let square := fun (n : Nat) (f : Nat → Nat → W32) => ((List.range n).map fun i => (List.range n).map (f i)).flatten
  if pdCs p = 0 then
    square P (fun i j => elem 0 (f32ofNat (sampleAt d.w d.h d.y (r * P + i) (c * P + j)))) ++
    square (P / 2) (fun i j => elem 1 (f32ofNat (sampleAt cw ch d.cb (r * (P / 2) + i) (c * (P / 2) + j)))) ++
    square (P / 2) (fun i j => elem 2 (f32ofNat (sampleAt cw ch d.cr (r * (P / 2) + i) (c * (P / 2) + j))))
  else
    let s := if msE x = 2 then 4 else 1
    let at_ := fun (k i j : Nat) =>
      let py := min (r * P + i) (d.h - 1)
      let px := min (c * P + j) (d.w - 1)
      elem k (rgbOf (pdCs p) s k (sampleAt d.w d.h d.y py px) (sampleAt cw ch d.cb (py / 2) (px / 2))
        (sampleAt cw ch d.cr (py / 2) (px / 2)))
    square P (at_ 0) ++ square P (at_ 1) ++ square P (at_ 2)

/-- The tokens of a picture, in order. -/
def tokensOf (x p : BitVec 512) (d : Pic) : List (List W32) :=
  ((List.range (ceilDiv d.h (pdSide p))).map fun r => (List.range (ceilDiv d.w (pdSide p))).map (tokenOf x p d r)).flatten

/-- Rows cut into whole blocks of 64, numbered from `j`, and what is left over; `fuel` is at least the number of rows. -/
def cutBlocks : Nat → Nat → List (List W32) → List (Nat × Nat × List (List W32)) × Nat × List (List W32)
  | 0, j, rows => ([], j, rows)
  | fuel + 1, j, rows =>
    if rows.length < 64 then ([], j, rows)
    else
      let r := cutBlocks fuel (j + 1) (rows.drop 64)
      ((j, 64, rows.take 64) :: r.1, r.2)

/-! ### Concealment (R499, R517) -/

/-- The 16 × 16 luma block that holds a sample, of a plane whose blocks have side `side`. -/
def blockAt (w side r c : Nat) : Nat := r / side * ceilDiv w 16 + c / side

/-- Bit map of the 128 × 128 luma regions that hold a concealed block. -/
def damageMap (p : PicOut) : Nat :=
  let per := ceilDiv p.pic.w 16
  p.blocks.foldl (fun m b => m ||| 2 ^ (b / per / 8 * ceilDiv p.pic.w 128 + b % per / 8)) 0

/-- The reference picture whose `out_seq` is nearest, the lower on a tie. -/
def nearestRef (p : PicOut) (refs : List PicOut) : Option PicOut :=
  refs.foldl
    (fun (best : Option PicOut) q =>
      match best with
      | none => some q
      | some b =>
        let dq := (q.rank - p.rank).natAbs
        let db := (b.rank - p.rank).natAbs
        if dq < db ∨ (dq = db ∧ q.rank < b.rank) then some q else some b)
    none

/-- A plane of w × h samples whose concealed blocks take the samples of `src`; blocks have side `side` in it. -/
def concealPlane (p : PicOut) (w h side : Nat) (own src : List Nat) : List Nat :=
  ((List.range h).map fun r => (List.range w).map fun c =>
    if p.blocks.contains (blockAt p.pic.w side r c) then (src[r * w + c]?).getD 0 else (own[r * w + c]?).getD 0).flatten

/-- A decoded picture with its concealed blocks filled: from the nearest reference where the picture is an inter picture and one is held,
else with 2^(depth − 1) (R517). -/
def filledPic (p : PicOut) (depth : Nat) (refs : List PicOut) : PicOut :=
  if p.blocks.isEmpty then p
  else
    let w := p.pic.w
    let h := p.pic.h
    let cw := ceilDiv w 2
    let ch := ceilDiv h 2
    let plane := fun (n m : Nat) (f : Pic → List Nat) =>
      match if p.inter then nearestRef p refs else none with
      | some q =>
        ((List.range m).map fun r => (List.range n).map fun c =>
          sampleAt (if n = w then q.pic.w else ceilDiv q.pic.w 2) (if m = h then q.pic.h else ceilDiv q.pic.h 2) (f q.pic) r c).flatten
      | none => List.replicate (n * m) (2 ^ (depth - 1))
    { p with
      pic := {
        w := w, h := h, y := concealPlane p w h 16 p.pic.y (plane w h Pic.y),
        cb := concealPlane p cw ch 8 p.pic.cb (plane cw ch Pic.cb), cr := concealPlane p cw ch 8 p.pic.cr (plane cw ch Pic.cr) } }

/-- A picture whose entropy decoding stops after `budget_x` × 4 × (luma samples) bins or symbols: the blocks not reached are concealed, with
reason BUDGET where it is the first (R514). -/
def overBudget (x : BitVec 512) (p : PicOut) : PicOut :=
  let most := fld x 324 321 * 4 * (p.pic.w * p.pic.h)
  let late := (List.range p.bins.length).filter fun i => decide (most < (p.bins[i]?).getD 0)
  if late.isEmpty then p
  else
    { p with
      blocks := (List.range (ceilDiv p.pic.w 16 * ceilDiv p.pic.h 16)).filter fun i => p.blocks.contains i || late.contains i
      reason := if p.reason = 0 then 5 else p.reason }

/-- The part of a picture to be output. -/
def croppedPic (p : PicOut) : Pic :=
  let x := p.crop.1
  let y := p.crop.2.1
  let w := p.crop.2.2.1
  let h := p.crop.2.2.2
  let part := fun (pw ph cx cy n m : Nat) (l : List Nat) =>
    ((List.range m).map fun r => (List.range n).map fun c => sampleAt pw ph l (cy + r) (cx + c)).flatten
  let half := part (ceilDiv p.pic.w 2) (ceilDiv p.pic.h 2) (x / 2) (y / 2) (ceilDiv w 2) (ceilDiv h 2)
  { w := w, h := h, y := part p.pic.w p.pic.h x y w h p.pic.y, cb := half p.pic.cb, cr := half p.pic.cr }

/-- The picture that a session outputs: cropped, with film grain where an AV1 session asks for it. -/
def Session.shown (S : Session) (p : PicOut) : Pic :=
  if fld S.desc 507 506 = 2 ∧ fbit S.desc 325 = true then Config.filmGrain S.desc S.units p.rank (croppedPic p) else croppedPic p

/-! ### Output (R499, R500, R506) -/

/-- The metadata of a buffer (R499). -/
def metaBytes (p : PicOut) (mark outSeq : Nat) : List Byte :=
  leBytes 4 0x10000000 ++ leBytes 1 mark ++ leBytes 1 (b2n p.inter) ++ leBytes 2 p.pic.w ++ leBytes 2 p.pic.h ++
  leBytes 6 0 ++ leBytes 8 outSeq ++ leBytes 8 p.doneFt ++ leBytes 4 p.conceal ++ leBytes 1 p.reason ++ leBytes 27 0 ++
  leBytes 2048 (damageMap p)

/-- A result or a write status gathered in the engine. -/
def State.mxNote (s : State) (e : Nat) (st : Status) : State := s.setMx e { s.mx e with result := (s.mx e).result.orElse st }

/-- Buffer `k` of a session output: its metadata, its display copy, its patches, its mark. -/
def State.mxShow (s : State) (e n k : Nat) : State :=
  let S := s.session e n
  let x := S.desc
  if S.mark k ≠ 2 then s
  else
    let P := Store.get {} S.bufs k
    let mark := if P.ref then 4 else 3
    let d := outPic (s.boot.computeVersion) x (S.shown P)
    let w := s.putAll ((fbAddr x k, metaBytes P mark S.outSeq) ::
      (if msDisp x then
        picWrites (msE x) (mxPitch (msOut x).1 (msE x)) (mxRows (msOut x).2) (msObBase x + k * msObBytes x + 0x1000) d
      else []))
    let patched := msPatch x && decide (S.outSeq % pdEvery S.patch = 0)
    let rows := if patched then S.rows ++ tokensOf x S.patch d else S.rows
    let b := cutBlocks rows.length S.blocks rows
    let s := w.1.setSession e n { S with
      marks := S.marks.set k mark, heldPics := S.heldPics.filter (· ≠ k), outSeq := S.outSeq + 1, rows := b.2.2, blocks := b.2.1 }
    let M := s.mx e
    (s.setMx e { M with blocks := M.blocks ++ b.1, outMask := M.outMask ||| 2 ^ k }).mxNote e w.2

/-! ### DECODE (R502, R504, R514 to R517) -/

/-- A buffer loses its reference; one still held for output keeps its mark. -/
def State.mxDrop (s : State) (e n k : Nat) : State :=
  let S := s.session e n
  let s := s.setSession e n { S with bufs := Store.set {} S.bufs k { Store.get {} S.bufs k with ref := false } }
  if S.heldPics.contains k then s
  else if S.mark k = 2 then s.setMark e n k 0
  else if S.mark k = 4 then s.setMark e n k 3
  else s

/-- The FREE buffer with the lowest index. -/
def Session.freeBuf (S : Session) : Option Nat := S.marks.findIdx? (· == 0)

/-- A picture decoded into buffer `k`: its planes, the engine's motion data, its concealment, its mark. -/
def State.mxPicture (s : State) (e n k : Nat) (p : PicOut) : State :=
  let S := s.session e n
  let x := S.desc
  let p := filledPic (overBudget x p) (if msE x = 2 then 10 else 8) ((S.bufs.map (·.2)).filter (·.ref))
  let pitch := mxPitch (msW x) (msE x)
  let rows := mxRows (msH x)
  let w := s.putAll (picWrites (msE x) pitch rows (fbAddr x k + 0x1000) p.pic)
  let s := w.1.havocNear (fbAddr x k + 0x1000 + pitch * rows * 3 / 2) (mxMotion (msW x) (msH x))
  let s := s.setSession e n { S with
    bufs := Store.set {} S.bufs k { p with doneFt := s.ft.toNat },
    heldPics := if p.due then S.heldPics ++ [k] else S.heldPics }
  let s := (s.setMark e n k (if p.due || p.ref then 2 else 0)).bump (mxOff e 0x20) (p.pic.w * p.pic.h)
  let s := (s.bumpSeenN (mxOff e 0x30) (mxOff e 0) 3 p.conceal).mxNote e w.2
  let M := s.mx e
  s.setMx e { M with
    fb := k, conceal := M.conceal + p.conceal, reason := if M.reason = 0 then p.reason else M.reason,
    result := if p.conceal = 0 then M.result else M.result.orElse .concealed }

/-- The end of a DECODE or FLUSH whose pictures and blocks are all written. -/
def State.mxFinish (s : State) (e : Nat) : State :=
  let M := s.mx e
  let n := mcSess M.cmd
  let S := s.session e n
  if mcOp M.cmd = 4 then
    let s := s.setSession e n { S with state := 2 }
    (s.setMx e { M with outLen := S.tokens % 2 ^ 32 }).mxEnd e M.result
  else s.mxEnd e M.result

/-- The command under way goes on, until it waits or ends; `fuel` is at least the number of its pictures plus one. -/
def State.mxRun : Nat → State → Nat → State
  | 0, s, _ => s
  | fuel + 1, s, e =>
    let M := s.mx e
    let n := mcSess M.cmd
    let S := s.session e n
    if !M.blocks.isEmpty then
      let s := s.setMx e { M with wait := .slot, slotReady := false, status := .ok }
      let r := s.registerWait (.media e) [pdFree S.patch]
      if r.2 = .ok then r.1 else r.1.mxEnd e r.2
    else
      match M.pics with
      | [] => s.mxFinish e
      | p :: rest =>
        let s := p.drops.foldl (fun (t : State) k => t.mxDrop e n k) s
        let k := if p.decodes then (s.session e n).freeBuf else some 255
        match k with
        | none => s.setMx e { M with wait := .frame }
        | some k =>
          let s := s.setMx e { M with wait := .none, pics := rest }
          let s := if p.decodes then s.mxPicture e n k p else s
          let s := p.shows.foldl (fun (t : State) o => t.mxShow e n (o.getD k)) s
          State.mxRun fuel s e

/-- The session awaits a random access point. -/
def State.awaitRap (s : State) (e n : Nat) : State := s.setSession e n { s.session e n with state := 2 }

/-- A unit that produces no picture (R516). -/
def State.mxCorrupt (s : State) (e reason : Nat) : State :=
  let M := s.mx e
  let s := (s.awaitRap e (mcSess M.cmd)).bumpSeen (mxOff e 0x38) (mxOff e 0) 4
  (s.setMx e { M with reason := reason }).mxEnd e .streamCorrupt

/-- A write suppressed (R515). -/
def State.mxBounds (s : State) (e : Nat) : State :=
  let M := s.mx e
  let s := (s.awaitRap e (mcSess M.cmd)).bumpSeen (mxOff e 0x40) (mxOff e 0) 5
  (s.setMx e { M with reason := 7 }).mxEnd e .bufferBounds

/-- Do a unit's headers ask for more than the session has (R516): a picture beyond W × H, or for H.264 and HEVC a decoded picture buffer above
`n_fb_m1` − 1? -/
def mxLimit (x : BitVec 512) (u : UnitOut) : Bool :=
  (u.pics.any fun p => p.decodes && decide (msW x < p.pic.w ∨ msH x < p.pic.h)) || decide (msCodec x ≠ 2 ∧ msFbs x < u.dpb + 2)

/-- DECODE: one unit. -/
def State.mxDecode (s : State) (e : Nat) (c : BitVec 512) : State :=
  let n := mcSess c
  let S := s.session e n
  let x := S.desc
  let r := s.readNear (msBsBase x + mcOff c) (mcLen c)
  if r.2.1 ≠ .ok then (r.1.awaitRap e n).mxEnd e r.2.1
  else
    let us := S.units ++ [r.2.2]
    let s := r.1.setSession e n { S with units := us }
    let u := Config.mediaUnit x us
    if u.bounds then s.mxBounds e
    else if S.state = 2 ∧ u.rap = false then s.mxCorrupt e 6
    else if u.corrupt then s.mxCorrupt e u.reason
    else if mxLimit x u then s.mxCorrupt e 3
    else
      let s := s.setSession e n { s.session e n with state := 1 }
      (s.setMx e { s.mx e with pics := u.pics, reason := u.reason }).mxRun (u.pics.length + 1) e

/-! ### FLUSH (R504, R510) -/

/-- FLUSH: pictures held for reordering output in their order, a partial block completed with zeros. -/
def State.mxFlush (s : State) (e : Nat) (c : BitVec 512) : State :=
  let n := mcSess c
  if msEncode (s.session e n).desc then s.mxEnd e .ok
  else
    let S := s.session e n
    let order := S.heldPics.mergeSort fun a b => decide ((Store.get {} S.bufs a).rank ≤ (Store.get {} S.bufs b).rank)
    let s := order.foldl (fun (t : State) k => t.mxShow e n k) s
    let S := s.session e n
    let M := s.mx e
    let pad := S.rows ++ List.replicate (64 - S.rows.length) (List.replicate (pdElems S.patch) 0)
    let s :=
      if S.rows.isEmpty then s
      else
        (s.setSession e n { S with rows := [], blocks := S.blocks + 1 }).setMx e
          { M with blocks := M.blocks ++ [(S.blocks, S.rows.length, pad)] }
    s.mxRun 1 e

/-! ### Patch blocks (R510) -/

/-- The tag of tile `u` of block `j`. -/
def patchTag (p : BitVec 512) (j u : Nat) : W128 :=
  let q := (fld p 415 396 + j) % 2 ^ 20
  [(127, 124, 1), (123, 119, fld p 431 427), (118, 108, fld p 426 416), (107, 100, u), (99, 80, q), (59, 56, pdFmt p),
   (51, 48, 5), (47, 24, fld p 395 372), (23, 4, fld p 371 352)].foldl (fun (t : W128) f => setTag t f.1 f.2.1 f.2.2) 0

/-- One tile of a block written, then its tag; columns beyond the token's elements are left undefined. -/
def State.putPatchTile (s : State) (p : BitVec 512) (j u : Nat) (rows : List (List W32)) : State :=
  let g := pdSlotGran p (j % pdSlots p) + u * fmtGranules (pdFmt p)
  let v : Conv := { fmt := pdFmt p, rnd := 0, sat := true, seed := 0, base := 0, step := 0 }
  let s := s.havocTile (pdCore p) (2048 * g) (tileBytes (pdFmt p))
  let s := rows.zipIdx.foldl
    (fun (t : State) r => (t.putRow (pdCore p) g v r.2 (((r.1.drop (64 * u)).take 64).map f32)).1) s
  s.writeTag (pdCore p) g (pdFmt p) (patchTag p j u)

/-- PATCH_BLOCK_WRITE: the wait on `free_sem` has ended, and the block is written. -/
def State.mxBlock (s : State) (e : Nat) : State :=
  let M := s.mx e
  let n := mcSess M.cmd
  let S := s.session e n
  let p := S.patch
  match M.blocks with
  | [] => s
  | b :: rest =>
    if M.wait ≠ .slot ∨ M.slotReady = false then s
    else if M.status ≠ .ok then s.mxEnd e M.status
    else if !s.corePresent (pdCore p) then s.mxEnd e .pageFault
    else
      let s := (List.range (pdTiles p)).foldl (fun (t : State) u => t.putPatchTile p b.1 u b.2.2) s
      let s := s.signalSem (pdFull p)
      let s := s.setSession e n { s.session e n with tokens := S.tokens + b.2.1 }
      (s.setMx e { s.mx e with wait := .none, slotReady := false, blocks := rest }).mxRun (M.pics.length + 1) e

/-! ### ENCODE (R504, R506, R511 to R513) -/

/-- The source extent of an ENCODE: address and length. -/
def mcSource (c : BitVec 512) : Nat × Nat :=
  let h := m1 c 367 354
  (mcAddr c, fld c 353 336 * (ceilDiv h 2 * 3))

/-- A plane of `w` × `h` samples, `step` samples apart, from bytes: its first sample at `o`, its rows `pitch` bytes apart. -/
def planeOf (e pitch o step w h : Nat) (l : List Byte) : List Nat :=
  ((List.range h).map fun r => (List.range w).map fun c =>
    leNat ((l.drop (o + r * pitch + c * step * e)).take e) % (if e = 2 then 1024 else 256)).flatten

/-- The source picture of an ENCODE (R506): R497's planes, the chroma plane an even number of rows after the luma plane. -/
def sourcePic (e : Nat) (c : BitVec 512) (l : List Byte) : Pic :=
  let w := m1 c 381 368
  let h := m1 c 367 354
  let pitch := fld c 353 336
  let o := ceilDiv h 2 * 2 * pitch
  { w := w, h := h, y := planeOf e pitch 0 1 w h l, cb := planeOf e pitch o 2 (ceilDiv w 2) (ceilDiv h 2) l,
    cr := planeOf e pitch (o + e) 2 (ceilDiv w 2) (ceilDiv h 2) l }

/-- The picture that an ENCODE codes (R506): the source scaled to the coded size as it is before rotation, then rotated and mirrored. -/
def codedPic (version : Nat) (x : BitVec 512) (p : Pic) : Pic :=
  let w := if msRot x % 2 = 1 then msH x else msW x
  let h := if msRot x % 2 = 1 then msW x else msH x
  let q := if p.w = w ∧ p.h = h then p else { Config.mediaScale version w h p with w := w, h := h }
  rotPic (msRot x) (msMirror x) q

/-- A coded picture's samples as bytes: its planes one after another. -/
def picBytes (e : Nat) (p : Pic) : List Byte := sampleBytes e p.y ++ sampleBytes e p.cb ++ sampleBytes e p.cr

/-! #### The decoder model (R511), in bits × 90,000 -/

/-- The size of the model's buffer, and what flows into it in a frame interval. -/
def hrdSize (x : BitVec 512) : Nat := fld x 287 256 * 90000000
def hrdGain (x : BitVec 512) : Nat := fld x 319 288 * 1000 * fld x 255 240
/-- What a coded picture takes out of it. -/
def hrdCost (l : List (List Byte)) : Nat := (l.map List.length).sum * 720000

/-- The buffer's fullness when the next picture is removed: at first 90 % of its size. -/
def Session.hrdFull (S : Session) : Nat := S.hrd.getD (hrdSize S.desc * 9 / 10)

/-- Is the next picture a key frame: forced, the first, or due by `idr_period`? -/
def Session.keyNow (S : Session) (forced : Bool) : Bool :=
  forced || decide (S.outSeq = 0) || decide (fld S.desc 239 224 ≠ 0 ∧ fld S.desc 239 224 ≤ S.sinceKey)

/-- The coded picture that the rate controller keeps: coded once more at the highest quantiser where it would empty the buffer, and where a
P picture still would, one of skipped blocks; and whether it is that one. -/
def Session.kept (S : Session) (key : Bool) (o : EncOut) : List (List Byte) × Bool :=
  if msRc S.desc = 0 ∨ hrdCost o.parts ≤ S.hrdFull then (o.parts, false)
  else if key = true ∨ hrdCost o.again ≤ S.hrdFull then (o.again, false)
  else (o.skip, true)

/-- The bytes of filler that CBR appends where the buffer would overflow. -/
def Session.filler (S : Session) (l : List (List Byte)) : List Byte :=
  let n := if msRc S.desc = 1 then ceilDiv (S.hrdFull - hrdCost l + hrdGain S.desc - hrdSize S.desc) 720000 else 0
  (List.range n).map (Config.mediaFiller S.desc n)

/-- The parts that an ENCODE writes: the last with the filler after it. -/
def Session.codedParts (S : Session) (key : Bool) (o : EncOut) : List (List Byte) :=
  let l := (S.kept key o).1
  if (S.filler l).isEmpty then l else l.dropLast ++ [l.getLast?.getD [] ++ S.filler l]

/-- The fullness after a coded picture. -/
def Session.hrdNext (S : Session) (l : List (List Byte)) : Nat := min (hrdSize S.desc) (S.hrdFull - hrdCost l + hrdGain S.desc)

/-- The coded parts of a picture written: those that fit in the extent, with the progress word and a signal for each under
`subframe`; the bytes written, and whether all fitted. -/
def State.mxParts (s : State) (e : Nat) (c : BitVec 512) (sub : Bool) (at_ : Nat) : List (List Byte) → Nat → State × Nat × Bool
  | [], n => (s, n, true)
  | p :: rest, n =>
    if mcLen c < n + p.length then (s, n, false)
    else
      let w := s.writeNear (at_ + n) p
      let t := w.1.mxNote e w.2
      let t :=
        if sub then ((t.writeNear (fld c 319 286 * 64) (leBytes 4 (n + p.length))).1).signalSem (fld c 335 320) else t
      State.mxParts t e c sub at_ rest (n + p.length)

/-- ENCODE: one picture. An encoder keeps its four newest reconstructed pictures, from the last key frame on, as references. -/
def State.mxEncode (s : State) (e : Nat) (c : BitVec 512) : State :=
  let n := mcSess c
  let S := s.session e n
  let x := S.desc
  let src := mcSource c
  let prog := fld c 319 286 * 64
  if Config.nearBytes < src.1 + src.2 ∨ (msSub x ∧ (Config.nearBytes < prog + 4 ∨ touchesFw prog 4)) then s.mxEnd e .pageFault
  else
    let r := s.readNear src.1 src.2
    if r.2.1 ≠ .ok then r.1.mxEnd e r.2.1
    else
      let coded := codedPic s.boot.computeVersion x (sourcePic (msE x) c r.2.2)
      let us := S.units ++ [leBytes 1 (b2n (fbit c 480)) ++ picBytes (msE x) coded]
      let o := Config.mediaEncode x us
      let k := S.freeBuf.getD 0
      let s := r.1.setSession e n { S with units := us }
      let key := S.keyNow (fbit c 480)
      let parts := S.codedParts key o
      let total := (parts.map List.length).sum
      let at_ := msBsBase x + mcOff c
      let s := if (S.kept key o).2 then s.bump (mxOff e 0x48) 1 else s
      if mcLen c < total then
        let w := if msSub x then s.mxParts e c true at_ parts 0 else (s.havocNear at_ (mcLen c), 0, false)
        w.1.mxEnd e .bufferBounds
      else
        let w := s.mxParts e c (msSub x) at_ parts 0
        let refs := if key then [k] else (k :: S.refs).take 4
        let s := w.1.havocNear (fbAddr x k) (msFbBytes x)
        let s := s.setSession e n { s.session e n with
          refs := refs, outSeq := S.outSeq + 1, hrd := some (S.hrdNext parts), sinceKey := if key then 1 else S.sinceKey + 1,
          marks := (List.range (msFbs x)).map fun i => if refs.contains i then 2 else 0 }
        let s := s.bump (mxOff e 0x28) (msW x * msH x)
        let M := s.mx e
        (s.setMx e { M with fb := k, outLen := w.2.1 }).mxEnd e M.result

/-! ### Commands -/

/-- The ways of a command's refusal before it acts (R504, R11, R12). -/
def State.mcCheck (s : State) (e : Nat) (c : BitVec 512) : Status :=
  let S := s.session e (mcSess c)
  let inBs := decide (mcOff c + mcLen c ≤ msBsBytes S.desc)
  if fld c 511 508 ≠ 1 then .versionUnsupported
  else if !zeros c [(285, 256), (31, 1)] || decide (4 < mcOp c) then .reservedNonzero
  else
    match mcOp c with
    | 0 => .ok
    | 2 => if S.state = 0 ∨ msEncode S.desc then .stateConflict else need inBs .reservedNonzero
    | 3 => if S.state = 0 ∨ !msEncode S.desc then .stateConflict else need inBs .reservedNonzero
    | _ => need (S.state ≠ 0) .stateConflict

/-- The next command of an engine's ring executed, where it is one for `op`; another version or a reserved operation belongs to every
row. Commands are accepted from READY onwards (R522). -/
def State.mxCommand (s : State) (e op : Nat) : State :=
  let tail := (s.reg (mxOff e 8)).toNat % 256
  if (s.mx e).wait ≠ .none ∨ s.mxHead e = tail ∨ (s.dev ≠ .ready ∧ s.dev ≠ .running ∧ s.dev ≠ .draining) then s
  else
    let r := s.readNear (s.mxSlot e) 64
    let c : BitVec 512 := BitVec.ofNat 512 (leNat r.2.2)
    if mcOp c ≠ op ∧ mcOp c < 5 ∧ fld c 511 508 = 1 then s
    else
      let s := r.1.setMx e { cmd := c }
      if r.2.1 ≠ .ok then s.mxEnd e r.2.1
      else
        match s.mcCheck e c with
        | .ok =>
          (match op with
            | 0 => s.mxOpen e c
            | 1 => (s.setSession e (mcSess c) {}).mxEnd e .ok
            | 2 => s.mxDecode e c
            | 3 => s.mxEncode e c
            | _ => s.mxFlush e c)
        | st => s.mxEnd e st

/-- A write of `MX_RELEASE` (R501). -/
def State.mxRelease (s : State) (e : Nat) (v : W32) : State :=
  let n := bits v.toNat 13 8
  let k := bits v.toNat 5 0
  if bits v.toNat 31 14 ≠ 0 ∨ bits v.toNat 7 6 ≠ 0 then s.refusedWrite.bumpSeen (mxOff e 0x70) (mxOff e 0) 6
  else
    match (s.session e n).mark k with
    | 3 => s.setMark e n k 0
    | 4 => s.setMark e n k 2
    | _ => s.bumpSeen (mxOff e 0x70) (mxOff e 0) 6

/-- A write of 1 to `ABORT` (R505): the command under way ends, a wait withdrawn, what it has not written dropped. -/
def State.mxAbort (s : State) (e : Nat) : State :=
  let M := s.mx e
  if M.wait = .none then s
  else ((s.dropWaiter (.media e)).awaitRap e (mcSess M.cmd)).mxEnd e .stateConflict

/-- OPEN (R498, R504). -/
def execOpenSession (eng : Nat) (s : State) : Host.Outcome State Fault Refusal :=
  ifUnit (isEngine eng) "media engine" (s.mxCommand eng 0)
/-- CLOSE (R504). -/
def execCloseSession (eng : Nat) (s : State) : Host.Outcome State Fault Refusal :=
  ifUnit (isEngine eng) "media engine" (s.mxCommand eng 1)
/-- DECODE (R504, R514 to R517). -/
def execDecode (eng : Nat) (s : State) : Host.Outcome State Fault Refusal :=
  ifUnit (isEngine eng) "media engine" (s.mxCommand eng 2)
/-- ENCODE (R504, R511 to R513). -/
def execEncode (eng : Nat) (s : State) : Host.Outcome State Fault Refusal :=
  ifUnit (isEngine eng) "media engine" (s.mxCommand eng 3)
/-- FLUSH (R504, R510). -/
def execFlush (eng : Nat) (s : State) : Host.Outcome State Fault Refusal :=
  ifUnit (isEngine eng) "media engine" (s.mxCommand eng 4)
/-- FRAME_BUFFER_WAIT_END (R502): a buffer has become FREE. -/
def execFrameBufferWaitEnd (eng : Nat) (s : State) : Host.Outcome State Fault Refusal :=
  ifUnit (isEngine eng) "media engine"
    (let M := s.mx eng
     if M.wait = .frame ∧ (s.session eng (mcSess M.cmd)).freeBuf.isSome then s.mxRun (M.pics.length + 1) eng else s)
/-- PATCH_BLOCK_WRITE (R510). -/
def execPatchBlockWrite (eng : Nat) (s : State) : Host.Outcome State Fault Refusal :=
  ifUnit (isEngine eng) "media engine" (s.mxBlock eng)
/-- MX_RELEASE (R501). -/
def execMxRelease (eng : Nat) (val : W32) (s : State) : Host.Outcome State Fault Refusal :=
  ifUnit (isEngine eng) "media engine" (s.mxRelease eng val)
/-- ABORT (R505). -/
def execAbort (eng : Nat) (s : State) : Host.Outcome State Fault Refusal :=
  ifUnit (isEngine eng) "media engine" (s.mxAbort eng)

end Sys2Proof.Machine
end

