-- ==== Sys2Proof/Machine/Values.lean ====
section
/-! DEFINITION. What the dictionary's entries read (R54, R482, R487, R545, R567, R572, R573, R597, R633, R643), the roles of paths
(R547, R548), the range of every entry that has one, and messages as bytes (R549). -/

namespace Sys2Proof.Machine

/-! ### Roles -/

/-- The PLCA node whose MAC address a field-network sender has (R548, R556). -/
def State.nodeOf (s : State) (mac : Nat) : Option Nat :=
  let t := s.dictBytes 0x2010 2
  (List.range 8).find? fun n => decide (leNat ((t.drop (6 * n)).take 6).reverse = mac)

/-- The role of a path (R547, R548, R555). -/
def State.roleOf (s : State) : Path → Nat
  | .mailbox _ => s.dictNat 0x2010 5
  | .bridge => s.dictNat 0x2010 4
  | .field mac =>
    match s.nodeOf mac with
    | some n => leNat (((s.dictBytes 0x2010 3).drop n).take 1)
    | none => 0
  | .forwarded _ _ _ role => role

/-! ### Live values -/

/-- `BOOT_STATUS` (R597). -/
def State.bootStatus (s : State) : Nat :=
  let b := s.boot
  b.stage * 2 ^ 28 + b2n b.pendingApplied * 2 ^ 21 + b2n b.warm * 2 ^ 20 + b2n b.pdcDefaults * 2 ^ 19 + b2n b.lifeReset * 2 ^ 18 +
  b2n b.recovery * 2 ^ 17 + b2n b.oneBit * 2 ^ 16 + b.status.code

/-- `IMAGE_DIGEST`. -/
def State.imageDigest (s : State) : List Byte :=
  if s.boot.fwLoads = 0 then List.replicate 64 0 else (Config.shake s.boot.running ++ List.replicate 64 0).take 64

/-- The MAC address as a number, first byte in transmission order highest (R556). -/
def State.macAddr (s : State) : Nat := 2 * 2 ^ 40 + bits s.boot.serial.toNat 39 0

/-- The largest value of a store over its listed keys that `p` names. -/
def storeMax (p : Nat → Bool) (m : Store Nat) : Nat := ((m.filter fun e => p e.1).map (·.2)).foldl max 0

/-- An entry of the capacity index (R482). -/
def State.capacity (s : State) (sub : Nat) : Nat :=
  match sub with
  | 1 => Config.cores - s.absentCores
  | 2 => 786432 - 2 * s.wear.offline.length
  | 3 => ((List.range Config.ports).map fun p => (s.port p).everWidth % 16 * 2 ^ (4 * p)).sum
  | 4 => 8 - s.wear.spareCores.length
  | 5 =>
    let present := (List.range Config.cores).filter fun c => !(s.core c).absent
    8 - storeMax (fun k => present.any fun c => decide (s.physOf c = k / 32)) s.wear.tmRowsUsed
  | 6 => 16 - storeMax (fun _ => true) s.wear.dramRowsUsed
  | 7 => 2 - storeMax (fun _ => true) s.wear.dramBanksUsed
  | _ => s.wear.offline.length

/-- The unit of a histogram (R487). -/
def histUnit (e : Nat) : Nat :=
  if e ≤ 0x0E then 0 else if e ≤ 0x1C then 4 else if e = 0x1D then 1 else if e = 0x1E then 2 else if e = 0x1F then 3 else 5

/-- A histogram's 160 bytes. -/
def State.histBytes (s : State) (e : Nat) : List Byte :=
  leBytes 4 0x10000000 ++ leBytes 4 (histUnit e) ++ leBytes 4 (Config.histLo e).toNat ++ leBytes 4 (Config.histWidth e).toNat ++
  leBytes 8 (Store.get 0 s.wear.hist (e * 64 + 32)).toNat ++ leBytes 4 (Config.histPeriod e).toNat ++ leBytes 4 0 ++
  ((List.range 32).map fun k => leBytes 4 (Store.get 0 s.wear.hist (e * 64 + k)).toNat).flatten

/-- A record of `TXN_TABLE` (R567). -/
def TxnRec.bytes (r : TxnRec) : List Byte :=
  leBytes 2 r.txn ++ leBytes 1 r.path ++ leBytes 1 r.state ++ leBytes 2 r.status ++ leBytes 2 r.nWrites ++ leBytes 8 r.ftAt ++
  leBytes 8 r.appliedFt ++ leBytes 4 r.failed ++ leBytes 4 0

/-- An entry of the event log (R633). -/
def LogEntry.bytes (e : LogEntry) : List Byte :=
  leBytes 8 e.seq ++ leBytes 8 e.ft ++ leBytes 2 e.status ++ leBytes 2 e.source ++ leBytes 4 e.unit ++ leBytes 8 e.detail

/-- A record of `SYNC_DBG_LOG` (R386). -/
def DbgRec.bytes (r : DbgRec) : List Byte :=
  leBytes 8 r.ft ++ leBytes 4 r.obj ++ leBytes 1 r.op ++ leBytes 3 r.source ++ leBytes 4 r.arg ++ leBytes 4 r.old ++
  leBytes 1 r.oldState ++ leBytes 7 0

/-- A media session's entry (R521). -/
def State.mxSessBytes (s : State) (e n : Nat) : List Byte :=
  let S := s.session e n
  if S.state = 0 then List.replicate 16 0
  else
    leBytes 1 S.state ++ leBytes 1 (msCodec S.desc + 4 * b2n (msEncode S.desc)) ++ leBytes 2 0 ++
    leBytes 4 (msFbBytes S.desc) ++ leBytes 4 (if msDisp S.desc then msObBytes S.desc else 0) ++ leBytes 4 S.outSeq

/-- The bytes of an entry that the device computes; none for one that simply holds its value. -/
def State.liveValue (s : State) (idx sub : Nat) : Option (List Byte) :=
  match idx, sub with
  | 0x1000, 1 => some (leBytes 4 1)
  | 0x1000, 2 => some (leBytes 4 0x000107FF)
  | 0x1000, 3 => some (leBytes 4 0x07681D2F)
  | 0x1000, 4 => some (leBytes 8 s.boot.serial.toNat)
  | 0x1000, 5 => some (leBytes 6 s.macAddr).reverse
  | 0x1010, n => some (leBytes 2 (if (s.core (n - 1)).absent then 0x8000 else s.physOf (n - 1)))
  | 0x1020, 3 => some (leBytes 8 (s.capacity 3))
  | 0x1020, n => some (leBytes 4 (s.capacity n))
  | 0x2000, 2 => some (leBytes 4 s.devWord)
  | 0x2020, 2 => some ((s.mgmt.txnTable.map TxnRec.bytes).flatten)
  | 0x3001, 5 => some (leBytes 4 (s.dictNat 0x3001 1 * 32 + s.dictNat 0x3001 2))
  | 0x4100, n => some (leBytes 64 (Store.get 0 s.tier.slots (n - 1)).toNat)
  | 0x4200, n => some (leBytes 64 (s.poolEntry (n - 1)).toNat)
  | 0x4310, n => some (leBytes 32 (s.farPoolOut (n - 1)).toNat)
  | 0x5000, 1 => some (leBytes 4 (min Config.floorW 1400))
  | 0x6000, n => some (leBytes 8 (s.life n).toNat)
  | 0x6100, n => some (s.histBytes n)
  | 0x6200, 2 => some s.recordBytes
  | 0x6200, 3 => some (leBytes 8 s.wear.retireSeq.toNat)
  | 0x7100, n => some (s.mxSessBytes 0 (n - 1))
  | 0x7200, n => some (s.mxSessBytes 1 (n - 1))
  | 0x8000, 1 => some (leBytes 4 s.bootStatus)
  | 0x8001, 1 => some (leBytes 4 s.boot.fwVersion)
  | 0x8001, 2 => some (leBytes 4 s.boot.computeVersion)
  | 0x8001, 3 => some s.imageDigest
  | 0x8001, 5 => some ((List.range 8).map (builtinImage s.boot.computeVersion)).flatten
  | 0x8002, n => some (Config.identity n s.boot.serial)
  | 0x8003, 2 => some s.boot.quote
  | 0x8003, 3 => some (leBytes 4 (b2n s.boot.quoteBusy + s.boot.quoteStatus.code * 2 ^ 16))
  | 0x8010, 3 => some (leBytes 8 (s.boot.updState + s.boot.updStatus.code * 2 ^ 16 + s.boot.updBytes * 2 ^ 32))
  | 0x8020, 2 => some (leBytes 8 (s.boot.pdcStatus.code + leNat ((s.boot.contents.drop 16).take 4) * 2 ^ 32))
  | 0x9100, 4 =>
    let o := s.dictNat 0x9100 1
    some (if bitAt o 16 then leBytes 64 ((s.bar (o % 65536)).obj).toNat else leBytes 64 (s.semObj (o % 65536)).toNat)
  | 0x9100, 5 => some ((s.sync.dbgLog.map DbgRec.bytes).flatten)
  | 0x9200, 1 => some ((List.range 80).map fun i => leBytes 8 (s.reg (0x600 + 8 * i)).toNat).flatten
  | 0x9200, 2 => some ((s.log.map LogEntry.bytes).flatten)
  | 0x9200, 3 => some (leBytes 8 s.eventSeq.toNat)
  | _, _ => none

/-- The bytes that an entry reads, padded to its size. -/
def State.dictValue (s : State) (idx sub : Nat) : List Byte :=
  let n := ((dictAttr idx sub).map (·.size)).getD 0
  let v := if sub = 0 then leBytes 1 (dictTop idx) else (s.liveValue idx sub).getD (s.dictBytes idx sub)
  (v ++ List.replicate (n - v.length) 0).take n

/-! ### Ranges (check 6 of R551) -/

/-- Does a number lie in the range that an entry's chapter gives it? Entries without a range take every number. -/
def rangeOk (idx sub v : Nat) : Bool :=
  let within := fun (a b : Nat) => decide (a ≤ v ∧ v ≤ b)
  match idx, sub with
  | 0x2010, 1 => within 1 7
  | 0x2010, 3 => (List.range 8).all fun i => decide (bits v (8 * i + 7) (8 * i) ≤ 3)
  | 0x2010, 4 => within 0 3
  | 0x2010, 5 => within 0 3
  | 0x2010, 6 => within 0 7 || decide (v = 0xFF)
  | 0x2010, 7 => decide (v = 1)
  | 0x2020, 1 => within 100 600000
  | 0x2200, 1 => within 1 65535
  | 0x2200, 2 => within 2 14
  | 0x2200, 3 => within 1 2
  | 0x2200, 4 => decide (v % 4096 = 0)
  | 0x2200, 5 => within 64 16384
  | 0x2210, 1 => within 1 144
  | 0x2210, 2 => decide (v % 2 = 0 ∧ v ≤ 786432)
  | 0x2210, 3 => decide (v = 2 ∨ v = 4 ∨ v = 8)
  | 0x3001, 1 => within 0 511
  | 0x3001, 2 => within 0 31
  | 0x3001, 3 => within 0 2
  | 0x3001, 4 => within 0 63
  | 0x4010, 1 => within 1 168
  | 0x4300, 1 => within 0 767
  | 0x4300, 3 => within 8 65536
  | 0x4300, 4 => within 10 1000000
  | 0x4300, 5 => within 0 1
  | 0x4400, 1 => decide (v % 0x4000000 = 0 ∧ v + 0x4000000 ≤ Config.nearBytes)
  | 0x4400, 2 => decide (v % 0x4000000 = 0 ∧ v + 0x4000000 ≤ Config.nearBytes)
  | 0x4400, 3 => within 0 60
  | 0x4400, 4 => within 0 2048
  | 0x5010, 1 => within 600 2000
  | 0x5010, 2 => within 600 2400
  | 0x5010, 3 => within 0 400
  | 0x5010, 4 => decide (v = 0) || within 600 2400
  | 0x5010, 5 => within 1000 2800
  | 0x5010, 6 => within 2400 3600 && decide (v % 100 = 0)
  | 0x5020, 1 => within 80 100
  | 0x5020, 3 => within 600 2000
  | 0x5030, _ => within 1 15
  | 0x6300, 2 => decide (v = 1)
  | 0x7000, _ => decide (v % 16384 = 0 ∧ v + 16384 ≤ Config.nearBytes)
  | 0x8000, 2 => within 0 60000
  | 0x8010, 4 => within 0 1
  | 0x9100, 1 => decide (v < 2 ^ 17 ∧ (v < 65536 ∨ v < 65536 + Config.bars))
  | 0x3110, _ => decide (bits v 41 3 = 0)
  | 0x3111, _ => decide (bits v 62 62 = 0 ∧ bits v 29 0 = 0)
  | _, _ => true

/-- Two bytes of a list as a number. -/
def u16At (l : List Byte) (i : Nat) : Nat := leNat ((l.drop (2 * i)).take 2)

/-- The range check of an entry of more than 8 bytes (R421, R463, R548). -/
def bytesOk (idx sub : Nat) (v : List Byte) : Bool :=
  match idx, sub with
  | 0x2100, _ => (List.range 16384).all fun i => !bitAt (u16At v i) 14
  | _, _ => true

/-- The ranges that tie entries together, on the values a state holds (R641, and the group of R463 and R464). -/
def State.pairsOk (s : State) (idx sub : Nat) : Bool :=
  let d := s.dictNat
  match idx with
  | 0x4300 =>
    decide (sub = 4 ∨ sub = 5) ||
    decide (1 ≤ d 0x4300 2 ∧ d 0x4300 2 ≤ 768 - d 0x4300 1 ∧ d 0x4300 3 < d 0x4300 2 * 1024)
  | 0x5010 => decide (sub = 3 ∨ 3 < sub) || decide (d 0x5010 1 ≤ d 0x5010 2)
  | 0x3001 =>
    decide (d 0x3001 2 < shapeMembers (d 0x3001 3)) &&
    ([0, 1, 2].all fun k => decide (groupCoord (d 0x3001 1) k < 2 ^ bits (d 0x3001 4) (2 * k + 1) (2 * k)))
  | 0x2200 =>
    let n := d 0x2200 2 + d 0x2200 3
    let g := (List.range 16).map (u16At (s.dictBytes 0x2200 6))
    let used := (g.take n).filter (· ≠ 0xFFFF)
    decide (sub = 1) ||
    (decide (n ≤ 16) && decide (d 0x2200 4 + 2 * n * d 0x2200 5 * 2 ^ 20 ≤ Config.nearBytes) && decide (used.Nodup) &&
      used.all (fun c => decide (c < 16384)) && ((g.drop n).all fun c => decide (c = 0xFFFF)))
  | _ => true

/-! ### Messages as bytes (R549) -/

/-- A message's bytes. -/
def msgBytes (m : Msg) : List Byte :=
  let h := m.ftAt * 2 ^ 32 + m.offset * 2 ^ 96 + m.len * 2 ^ 128 + m.status * 2 ^ 144 + m.txn * 2 ^ 160 + m.chip * 2 ^ 185 +
    b2n m.last * 2 ^ 199 + m.sub * 2 ^ 200 + m.index * 2 ^ 208 + m.seq * 2 ^ 224 + m.cmd * 2 ^ 240 + m.mtype * 2 ^ 248 +
    m.mver * 2 ^ 252
  leBytes 32 h ++ m.data

/-- The message that a buffer holds. -/
def msgOf (l : List Byte) : Msg :=
  let h := leNat (l.take 32)
  { mver := bits h 255 252, mtype := bits h 251 248, cmd := bits h 247 240, seq := bits h 239 224, index := bits h 223 208,
    sub := bits h 207 200, last := bitAt h 199, chip := bits h 198 185, rsvd := bits h 184 176 * 2 ^ 32 + bits h 31 0,
    txn := bits h 175 160, status := bits h 159 144, len := bits h 143 128, offset := bits h 127 96, ftAt := bits h 95 32,
    data := (l.drop 32).take (bits h 143 128) }

end Sys2Proof.Machine
end

