-- ==== Sys2Proof/Machine/Boot.lean ====
section
/-! DEFINITION. Reset and start-up (R576 to R593, R612 to R616), the retirement record at start-up (R481), signed contents (R594, R595),
attestation (R596), firmware update and activation (R597 to R600), and the test access port (R621 to R625). -/

namespace Sys2Proof.Machine

/-! ### Images (R589 to R592) -/

/-- A field of an image header. -/
def hdr (b : List Byte) (o n : Nat) : Nat := leNat ((b.drop o).take n)

/-- The bytes of a package: header, ciphertext and signature block. -/
def packageBytes (b : List Byte) : Nat := 4096 + hdr b 0x10 8 + 32768

/-- The checks of R590 on a header, for a device of a serial number; `kinds` says which kinds are permitted. -/
def headerOk (serial : W64) (kinds : Nat → Bool) (b : List Byte) : Bool :=
  let n := hdr b 0x10 8
  decide (hdr b 0 4 = 0x53424654) && decide (hdr b 4 4 = 0x10000000) && decide (hdr b 8 4 = 0x768) &&
  decide (hdr b 0x20 8 = serial.toNat) && kinds (hdr b 0xC 2) && decide (hdr b 0xE 2 < 4) &&
  decide (n % 4096 = 0 ∧ 4096 ≤ n ∧ n ≤ 0x3000000) && decide (hdr b 0x28 8 = 0) && decide (hdr b 0x65C 4 = 0) &&
  decide (hdr b 0x6B0 (0x1000 - 0x6B0) = 0) && (decide (hdr b 0xC 2 = 1) || decide (hdr b 0x670 64 = 0))

/-- The image that a package's bytes stand for. -/
def imageOf (serial : W64) (kinds : Nat → Bool) (b : List Byte) : FwImage :=
  { bytes := b.take (packageBytes b - 32768), fw := hdr b 0x18 4, compute := hdr b 0x1C 4,
    headOk := headerOk serial kinds b, sigOk := Config.imageSigned (b.take (packageBytes b)), tagOk := Config.imageOpens serial b }

/-- Does the source of a copy lie below the start of the 64 KiB block that it writes (R600)? A copy into several blocks is judged for each
of them. -/
def copyBack (src dst n : Nat) : Bool :=
  decide (n ≠ 0) && decide (src < (if (dst + n - 1) / 65536 = dst / 65536 then dst / 65536 * 65536 else dst))

/-- The plaintext that a difference package's operations build from an old plaintext (R600); none where a copy is refused. `fuel` is at
least the number of operations' words. -/
def applyOps (old : List Byte) : Nat → List Byte → List Byte → Option (List Byte)
  | 0, out, _ => some out
  | fuel + 1, out, l =>
    if l.length < 4 then some out
    else
      let w := leNat (l.take 4)
      let n := bits w 30 0
      if bitAt w 31 then applyOps old fuel (out ++ (l.drop 4).take n) (l.drop (4 + roundUp n 4))
      else
        let src := leNat ((l.drop 4).take 4)
        if copyBack src out.length n then none
        else applyOps old fuel (out ++ (old.drop src).take n) (l.drop 8)

/-- The image that a difference package gives on a device whose running image's signed bytes are `old`. -/
def rebuild (serial : W64) (old pkg : List Byte) : Option FwImage :=
  let plain := Config.imagePlain serial pkg
  let head := plain.take 4096
  let ops := plain.drop (4096 + 32768)
  match applyOps (Config.imagePlain serial old) ops.length [] ops with
  | some p =>
    some (imageOf serial (fun k => decide (k = 0))
      (head ++ Config.imageSeal serial head p ++ (plain.drop 4096).take 32768))
  | none => none

/-! ### Reset (R14, R576, R613 to R615) -/

/-- Every block reset: only what R576 names, the key register (R586), the pins and the test access port outlast it. Far memory of other
chips holds whatever its owners do with it. -/
def State.deviceReset (s : State) : State :=
  { State.reset with
    boot := {
      flashMiB := s.boot.flashMiB, lineTestOk := s.boot.lineTestOk, marker := s.boot.marker, image := s.boot.image,
      staging := s.boot.staging, journal := s.boot.journal, enrolled := s.boot.enrolled, pdcA := s.boot.pdcA,
      pdcB := s.boot.pdcB, lifeA := s.boot.lifeA, lifeB := s.boot.lifeB, helperOk := s.boot.helperOk,
      stacksOk := s.boot.stacksOk,
      secretHeld := s.boot.secretHeld, sramDrained := s.boot.sramDrained, serial := s.boot.serial,
      failedCores := s.boot.failedCores },
    pins := s.pins,
    wear.pendingUv := s.wear.pendingUv,
    tier.farLosses := (List.range 16).map fun p => (p, Store.get 0 s.tier.farLosses p + 1),
    pwr.thermIn := s.pwr.thermIn,
    free := s.free,
    pending := s.pending }

/-! ### The retirement record at start-up (R481, R54, R486) -/

/-- The entries of a record's bytes. -/
def recordEntries (b : List Byte) : List RetEntry :=
  (List.range (hdr b 4 2)).map fun e =>
    let o := 0x20 + 16 * e
    { kind := hdr b o 1, a := hdr b (o + 2) 2, b := hdr b (o + 4) 4, c := hdr b (o + 8) 8 }

/-- Is a stored record accepted (R481)? -/
def State.recordGood (s : State) (b : List Byte) : Bool :=
  decide (b.length = 4096) && decide (hdr b 0 4 / 2 ^ 28 = 1) && decide (hdr b 4 2 ≤ 254) &&
  decide (hdr b 8 8 = s.boot.serial.toNat) && decide (hdr b 0x18 4 = crc32 (b.take 0x18 ++ b.drop 0x20))

/-- One entry of the record applied to a device that starts. -/
def State.applyEntry (s : State) (e : RetEntry) : State :=
  match e.kind with
  | 1 => ({ s with wear.spareCores := s.wear.spareCores ++ [e.b] }.setCore e.a { s.core e.a with phys := some e.b }).lifeAdd
      (0xA9 + 4 * (e.b / 64)) 1
  | 2 => (s.setCore e.a { s.core e.a with absent := true }).lifeAdd (0xAA + 4 * (e.b / 64)) 1
  | 3 =>
    let k := e.a * 32 + e.b / 65536
    { s with wear.tmRowsUsed := Store.set 0 s.wear.tmRowsUsed k (Store.get 0 s.wear.tmRowsUsed k + 1) }.lifeAdd
      (0xA9 + 4 * (e.a / 64) + 2) 1
  | 4 =>
    let k := bankKey e.a (e.b / 256) (e.b % 256)
    { s with wear.dramRowsUsed := Store.set 0 s.wear.dramRowsUsed k (Store.get 0 s.wear.dramRowsUsed k + 1) }.lifeAdd
      (0xB9 + 2 * stackOf e.a) 1
  | 5 =>
    let k := bankKey e.a (e.b / 256) (e.b % 256)
    let d := stackOf e.a * 16 + e.b / 256
    { s with
      wear.dramBanksUsed := Store.set 0 s.wear.dramBanksUsed d (Store.get 0 s.wear.dramBanksUsed d + 1),
      wear.dramRowsUsed := Store.set 0 s.wear.dramRowsUsed k 0 }.lifeAdd (0xBA + 2 * stackOf e.a) 1
  | 6 => { s with wear.offline := s.wear.offline ++ [e.c / 0x200000] }
  | 7 => s.setCore e.a { s.core e.a with fenced := true }
  | _ => s

/-! ### Start-up (R581) -/

/-- The refusals of images and contents that are logged (R632). -/
def State.logRefusal (s : State) (st : Status) : State := if 0x800 ≤ st.code ∧ st.code < 0x900 then s.logEvent st 0 0 0 else s

/-- A refusal of an image (R582): the device stays in BOOT. -/
def State.bootRefuse (s : State) (stage : Nat) (st : Status) : State :=
  { (s.lifeAdd 4 1).countLog st 0 0 0 with boot.stage := stage, boot.status := st }

/-- The chip number and shapes in force taken from the entries (R432). -/
def State.takeNumbers (s : State) : State :=
  { s with
    fab.chipNum := s.dictNat 0x3001 1 * 32 + s.dictNat 0x3001 2, fab.shape := s.dictNat 0x3001 3,
    fab.fabricShape := s.dictNat 0x3001 4 }

/-- The records of a contents blob: index, subindex, reserved byte, and value (R594); `fuel` is at least the number of records. -/
def blobRecords : Nat → List Byte → List (Nat × Nat × Nat × List Byte)
  | 0, _ => []
  | fuel + 1, l =>
    if l.length < 8 then []
    else
      let n := hdr l 4 4
      (hdr l 0 2, hdr l 2 1, hdr l 3 1, (l.drop 8).take n) :: blobRecords fuel (l.drop (8 + roundUp n 8))

/-- The records of a blob. -/
def recordsOf (blob : List Byte) : List (Nat × Nat × Nat × List Byte) :=
  blobRecords (hdr blob 0x18 8) ((blob.drop 4096).take (hdr blob 0x18 8))

/-- Is the flash treated as absent (R577)? -/
def State.noFlash (s : State) : Bool := decide (s.boot.flashMiB < 64 ∨ 2048 < s.boot.flashMiB)

/-- A contents copy as step 9 reads it (R595, R577): empty where there is no flash or the copy does not verify. -/
def State.bootCopy (s : State) (blob : List Byte) : List Byte :=
  let n := hdr blob 0x18 8
  if blob.isEmpty || s.noFlash then []
  else if (decide (hdr blob 8 8 = 0) || decide (hdr blob 8 8 = s.boot.serial.toNat)) && Config.blobSigned (blob.take (4096 + n + 32768)) then
    blob
  else []

/-- Step 9: the persistent entries from the valid copy with the higher `seq` (R595). -/
def State.bootContents (s : State) : State :=
  let a := s.bootCopy s.boot.pdcA
  let b := s.bootCopy s.boot.pdcB
  let blob := if b.isEmpty then a else if a.isEmpty then b else if hdr a 0x10 8 < hdr b 0x10 8 then b else a
  let s := (recordsOf blob).foldl (fun (t : State) r => t.setDict r.1 r.2.1 r.2.2.2) s
  { s with boot.contents := blob, boot.pdcDefaults := blob.isEmpty, boot.stage := 9 }

/-- Step 10: firmware, built-in tables, and the cores that failed their self-test (R174, R477). -/
def State.bootFirmware (s : State) (img : FwImage) : State :=
  let s := { s with
    boot.running := img.bytes, boot.fwVersion := img.fw, boot.computeVersion := img.compute, boot.fwLoads := s.boot.fwLoads + 1,
    boot.stage := 10 }
  (List.range Config.cores).foldl (fun (t : State) c => t.loadBuiltins c) s

/-- The cores that failed their self-test are treated as failed. -/
def State.failCores (s : State) : State :=
  s.boot.failedCores.foldl
    (fun (t : State) c => if (t.core c).absent then t else t.setCore c { t.core c with fenced := true }) s

/-- Step 12, once the temperature gate has passed: the record applied, substitutions made, entry into CONFIG (R462, R478, R524). -/
def State.enterConfig (s : State) : State :=
  let s := s.wear.record.foldl (fun (t : State) e => t.applyEntry e) s
  let s := (s.failCores.substitute).takeNumbers
  let s := { s with boot.jobs := if s.boot.recovery then s.boot.jobs ++ [FlashJob.image] else s.boot.jobs }
  ((s.lifeAdd 3 1).setDev .config).evalFitness.trainAll

/-- Step 11: the retirement record awaited, unless it was already written. -/
def State.awaitRecord (s : State) : State :=
  { s with
    boot.stage := if s.boot.rrLoaded then 12 else 11,
    boot.rrDeadline := s.ft.toNat + s.dictNat 0x8000 2 * 1000000 }

/-- Steps 9 to 11 with an accepted image. -/
def State.bootOn (s : State) (img : FwImage) : State := ((s.bootContents).bootFirmware img).awaitRecord

/-- Step 5: the voltage, the stacks (R263, R265, R544). -/
def State.bootStacks (s : State) : State :=
  (List.range 8).foldl (fun (t : State) st => t.setFlag (msOff st 0) 0)
    { s with boot.stage := 5, pwr.vcoreMv10 := 7000, pwr.wantMv10 := 7000 }

/-- Step 5 on its own: stacks that do not train leave the device in BOOT. -/
def State.bootMemory (s : State) : State :=
  if s.boot.stacksOk then s.bootStacks
  else { s.countLog .uncorrectable 0 0 0 with boot.stage := 5, boot.status := .uncorrectable }

/-- Steps 5 to 8 with the image of the flash. -/
def State.bootImage (s : State) (img : FwImage) : State :=
  let s := s.bootStacks
  if !img.readOk then s.bootRefuse 6 .uncorrectable
  else if !img.sigOk then s.bootRefuse 7 .authFailed
  else if !img.tagOk then s.bootRefuse 8 .decryptFailed
  else s.bootOn img

/-- The newer of the two lifetime saves. -/
def State.bestSave (s : State) : Option (Nat × Store W64 × Store W64) :=
  match s.boot.lifeA, s.boot.lifeB with
  | some a, some b => if a.1 < b.1 then some b else some a
  | some a, none => some a
  | none, b => b

/-- Step 4: the lifetime saves, the events of R613, a journal or a pending image applied (R583, R584). -/
def State.bootFlash (s : State) : State :=
  let saved := if s.noFlash then none else s.bestSave
  let s := { s with
    wear.life := match saved with
      | some v => Store.erase 0 (fun k => decide (0xA9 ≤ k)) v.2.1
      | none => [],
    wear.hist := match saved with
      | some v => v.2.2
      | none => [],
    boot.lifeReset := saved.isNone, boot.stage := 4 }
  let s := (s.lifeAdd 2 1).lifeAdd 0x4C s.wear.pendingUv
  let s := { s with wear.pendingUv := 0 }
  if s.noFlash then s
  else if s.boot.journal ∨ s.boot.marker = 1 then
    { s with
      boot.image := match s.boot.staging with
        | some i => some i
        | none => s.boot.image,
      boot.staging := none, boot.journal := false, boot.marker := 0, boot.pendingApplied := decide (s.boot.marker = 1) }
  else
    match s.boot.marker, s.boot.staging with
    | 2, some i => { s with boot.pending := some i, boot.updState := 5 }
    | _, _ => s

/-- Steps 2 to 11 (R580 to R586). -/
def State.startSteps (s : State) : State :=
  let s := { s with
    boot.stage := 2, boot.mode := s.pins.bootMode, boot.oneBit := !s.boot.lineTestOk }
  let s := { s with
    boot.stage := 3, boot.warm := s.boot.secretHeld,
    boot.secretHeld := s.boot.secretHeld || (s.boot.helperOk && s.boot.sramDrained) }
  if !s.boot.secretHeld then { s with boot.status := .authFailed }
  else
    let s := s.bootFlash
    if s.boot.mode = 2 then s
    else if s.boot.mode = 3 then { s with boot.status := .reservedNonzero }.count .reservedNonzero
    else if s.boot.mode = 1 ∨ s.noFlash then s.bootMemory
    else
      match s.boot.image with
      | some i =>
        if !i.headOk then s.bootRefuse 4 .headerRejected
        else if s.boot.stacksOk then s.bootImage i
        else s.bootMemory
      | none => s.bootRefuse 4 .headerRejected

/-- The start of R581 begins; a pin-control instruction in effect holds step 1 (R622). -/
def State.startUp (s : State) : State :=
  let s := { s.setDev .boot with boot.stage := 1, wear.hourStart := s.cycle.toNat }
  if s.pins.driven then { s with boot.holdTap := true } else s.startSteps

/-- A start where nothing holds the device in RESET. -/
def State.tryStart (s : State) : State :=
  if s.dev = .reset ∧ s.pins.resetN ∧ s.pins.supplyOk then s.startUp else s

/-- RESET_N_ASSERT (R615). -/
def execResetNAssert (s : State) : Host.Outcome State Fault Refusal :=
  .next { s.deviceReset with pins.resetN := false }

/-- RESET_N_RELEASE (R581, R612): `mode` is the level of BOOT_MODE, `warm` says that the supplies were held since the last start, and
`failedCores` are the cores that will fail their self-test. -/
def execResetNRelease (mode : Nat) (warm : Bool) (failedCores : List Nat) (s : State) : Host.Outcome State Fault Refusal :=
  ifUnit (decide (mode < 4) && failedCores.all isCore) "boot mode or core"
    (if s.pins.resetN then s
     else
       let p := { s.pins with resetN := true, bootMode := mode }
       let b := { s.boot with failedCores := failedCores }
       if warm then { s with pins := p, boot := b }.tryStart
       else
         { s with
           pins := { p with clkReset := false, railReset := false, railLast := 15 },
           boot := { b with secretHeld := false, sramDrained := true } }.tryStart)

/-- RAIL_EVENT (R613, R614): a rail below its range for 2 µs, or REFCLK absent for 1 µs. -/
def execRailEvent (rail : Nat) (clockLost : Bool) (s : State) : Host.Outcome State Fault Refusal :=
  ifUnit (decide (rail < 9)) "rail"
    (let t := s.deviceReset
     let t := { t with wear.pendingUv := t.wear.pendingUv + 1, pins.supplyOk := false }
     if clockLost then { t with pins.clkReset := true }
     else
       let t := { t with pins.railReset := true, pins.railLast := rail }
       if rail = 1 then { t with boot.secretHeld := false, boot.sramDrained := false } else t)

/-- SUPPLY_IN_RANGE (R613): the monitors release the device. -/
def execSupplyInRange (s : State) : Host.Outcome State Fault Refusal :=
  .next { s with pins.supplyOk := true }.tryStart

/-- BOOT_RR_TIMEOUT (R581, R481): no record within `BOOT_RR_WAIT_MS`. -/
def execBootRrTimeout (s : State) : Host.Outcome State Fault Refusal :=
  .next
    (if s.dev = .boot ∧ s.boot.stage = 11 ∧ s.boot.rrDeadline ≤ s.ft.toNat then
       { s with boot.stage := 12, boot.rrLoaded := true, wear.record := [], wear.recordLost := true }
     else s)

/-- TEMPERATURE_GATE (R536, R581): every die and stack is cool enough. -/
def execTemperatureGate (s : State) : Host.Outcome State Fault Refusal :=
  .next (if s.dev = .boot ∧ s.boot.stage = 12 then s.enterConfig else s)

/-- A write of `RETIRE_LOAD` (R481): during BOOT. -/
def State.retireLoad (s : State) (bytes : List Byte) : State × Status :=
  if s.dev ≠ .boot ∨ s.boot.rrLoaded then (s, .stateConflict)
  else
    let s := { s with boot.rrLoaded := true, boot.stage := if s.boot.stage = 11 then 12 else s.boot.stage }
    if s.recordGood bytes then
      ({ s with wear.record := recordEntries bytes, wear.retireSeq := BitVec.ofNat 64 (hdr bytes 0x10 8) }, .ok)
    else
      ({ s with wear.record := [], wear.recordLost := true }.lifeAdd 16 1,
       if hdr bytes 0 4 / 2 ^ 28 = 1 then .reservedNonzero else .versionUnsupported)

/-- RETIRE_LOAD (R481): by a requester of a role. -/
def execRetireLoad (role : Nat) (bytes : List Byte) (s : State) : Host.Outcome State Fault Refusal :=
  ifUnit (isRole role) "role"
    (if !s.dictServed then s
     else if role < 2 then s.count .accessDenied
     else
       let r := s.retireLoad bytes
       r.1.count r.2)

/-! ### Flash writes (R579) -/

/-- The rank of a flash job. -/
def FlashJob.rank : FlashJob → Nat
  | .activation => 0
  | .image => 0
  | .package => 0
  | .contents _ _ _ => 1
  | .lifetime => 2

/-- A job put behind the one under way and every one of its rank or a higher one. -/
def insertJob (j : FlashJob) : List FlashJob → List FlashJob
  | [] => [j]
  | f :: rest => if j.rank < f.rank then j :: f :: rest else f :: insertJob j rest

/-- The jobs with one more; the write under way is not interrupted. -/
def addJob (l : List FlashJob) (j : FlashJob) : List FlashJob :=
  match l with
  | [] => [j]
  | f :: rest => f :: insertJob j rest

/-- An update returned to IDLE with a status. -/
def State.updIdle (s : State) (st : Status) : State :=
  { s with boot.updState := 0, boot.updStatus := st, boot.pending := none, boot.updOwner := none, boot.updBytes := 0 }

/-- A job that has been written and compared. -/
def State.jobDone (s : State) (j : FlashJob) : State :=
  match j with
  | .activation =>
    { (s.updIdle .ok) with
      boot.image := match s.boot.staging with
        | some i => some i
        | none => s.boot.image,
      boot.staging := none, boot.journal := false, boot.marker := 0 }
  | .image => { s with boot.image := s.boot.pending, boot.pending := none, boot.updState := 0 }
  | .package =>
    let later := decide (s.dictNat 0x8010 4 = 1)
    { s with
      boot.staging := s.boot.pending, boot.marker := if later then 2 else 1, boot.updState := if later then 5 else 4,
      boot.updStatus := .ok }
  | .contents copyB blob owner =>
    if copyB then { s with boot.pdcB := blob, boot.enrolled := owner, boot.pdcStatus := .ok }
    else { s with boot.pdcA := blob, boot.enrolled := owner, boot.pdcStatus := .ok }
  | .lifetime =>
    let s := s.lifeAdd 15 1
    let n := (s.bestSave.map (·.1)).getD 0 + 1
    let v := some (n, s.wear.life, s.wear.hist)
    match s.boot.lifeA, s.boot.lifeB with
    | some a, some b => if a.1 < b.1 then { s with boot.lifeA := v } else { s with boot.lifeB := v }
    | some _, none => { s with boot.lifeB := v }
    | none, _ => { s with boot.lifeA := v }

/-- A job that ended with UNCORRECTABLE: what the area held before stays valid. -/
def State.jobFailed (s : State) (j : FlashJob) : State :=
  let s := if s.noFlash then s else s.countLog .uncorrectable 0 0 0
  match j with
  | .package => s.updIdle .uncorrectable
  | .activation => { s with boot.updStatus := .uncorrectable, boot.updState := 0 }
  | .image => { s with boot.updStatus := .uncorrectable, boot.updState := 0 }
  | .contents _ _ _ => { s with boot.pdcStatus := .uncorrectable }
  | .lifetime => s

/-- FLASH_WRITE_END (R579, R600; on an absent flash nothing is written, R577): an erase unit's comparison ends the write under way, or is its first, second or third mismatch. -/
def execFlashWriteEnd (verified : Bool) (s : State) : Host.Outcome State Fault Refusal :=
  .next
    (match s.boot.jobs with
     | [] => s
     | j :: rest =>
       if s.dev = .off ∨ s.dev = .reset then s
       else if s.noFlash then { s with boot.jobs := rest, boot.retries := 0 }.jobFailed j
       else if verified then { s with boot.jobs := rest, boot.retries := 0 }.jobDone j
       else if s.boot.retries < 2 then { s with boot.retries := s.boot.retries + 1 }
       else { s with boot.jobs := rest, boot.retries := 0 }.jobFailed j)

/-! ### Signed contents (R594, R595) -/

/-- Do a blob's records name persistent entries with values in range, tied ranges included (R595, R641)? -/
def State.blobRecordsOk (s : State) (blob : List Byte) : Bool :=
  let l := recordsOf blob
  let t := l.foldl (fun (t : State) r => t.setDict r.1 r.2.1 r.2.2.2) { s with mgmt.values := [] }
  l.all (fun r =>
    match dictAttr r.1 r.2.1 with
    | some a =>
      a.persistent && decide (r.2.2.1 = 0) && decide (r.2.2.2.length = a.size) && decide (r.2.1 ≠ 0) &&
      (decide (8 < a.size) || rangeOk r.1 r.2.1 (leNat r.2.2.2)) && bytesOk r.1 r.2.1 r.2.2.2
    | none => false) &&
  ([(0x4300, 1), (0x5010, 1), (0x3001, 1), (0x2200, 2)].all fun e => t.pairsOk e.1 e.2)

/-- The check of a blob (R595). -/
def State.blobCheck (s : State) (blob : List Byte) : Status :=
  let n := hdr blob 0x18 8
  if hdr blob 0 4 ≠ 0x43444654 ∨ 220 * 1024 < n ∨ blob.length < 4096 + n + 32768 then .headerRejected
  else if hdr blob 4 4 ≠ 1 then .versionUnsupported
  else if hdr blob 0xA0 (0x1000 - 0xA0) ≠ 0 then .reservedNonzero
  else if hdr blob 8 8 ≠ 0 ∧ hdr blob 8 8 ≠ s.boot.serial.toNat then .headerRejected
  else if s.boot.enrolled ≠ [] ∧ Config.shake ((blob.drop 0x20).take 64) ≠ s.boot.enrolled then .authFailed
  else if !Config.blobSigned (blob.take (4096 + n + 32768)) then .authFailed
  else if !s.blobRecordsOk blob then .reservedNonzero
  else .ok

/-- A write of `PDC_BLOB` (R595): to the flash copy not in use. -/
def State.pdcBlob (s : State) (blob : List Byte) : State × Status :=
  match s.blobCheck blob with
  | .ok =>
    let key := (blob.drop 0x60).take 64
    let owner := if hdr blob 0x60 64 ≠ 0 then Config.shake key
      else if s.boot.enrolled = [] then Config.shake ((blob.drop 0x20).take 64) else s.boot.enrolled
    let copyB := decide (s.boot.pdcA ≠ [] ∧ s.boot.contents = s.boot.pdcA)
    ({ s with boot.jobs := addJob s.boot.jobs (.contents copyB blob owner) }, .ok)
  | st => ({ s with boot.pdcStatus := st }.logRefusal st, st)

/-! ### Attestation (R596) -/

/-- A write of `QUOTE_NONCE`. -/
def State.quoteNonce (s : State) (nonce : List Byte) : State × Status :=
  if s.boot.quoteBusy then (s, .stateConflict)
  else if nonce.length ≠ 32 then (s, .reservedNonzero)
  else ({ s with boot.quoteBusy := true, boot.nonce := nonce }, .ok)

/-- The first 256 bytes of a quote. -/
def State.quoteHead (s : State) : List Byte :=
  let p := match s.boot.pending with
    | some i => leBytes 4 i.fw ++ leBytes 4 i.compute
    | none => leBytes 8 0
  leBytes 4 0x10000000 ++ leBytes 4 0x768 ++ leBytes 8 s.boot.serial.toNat ++ s.boot.nonce ++
  leBytes 8 (if s.ftValid then s.ft.toNat else 0) ++ leBytes 4 s.boot.fwVersion ++ leBytes 4 s.boot.computeVersion ++
  s.imageDigest ++
  (if s.boot.pdcDefaults then List.replicate 64 0 else (Config.shake s.boot.contents ++ List.replicate 64 0).take 64) ++
  leBytes 4 s.devWord ++ leBytes 4 s.bootStatus ++ p ++ List.replicate 48 0

/-- QUOTE_COMPLETE (R596). -/
def execQuoteComplete (s : State) : Host.Outcome State Fault Refusal :=
  .next
    (if !s.boot.quoteBusy then s
     else
       let h := s.quoteHead
       { s with
         boot.quote := h ++ (Config.quoteSig s.boot.serial h ++ List.replicate 49856 0).take 49856,
         boot.quoteBusy := false, boot.quoteStatus := .ok })

/-! ### Update (R598 to R600) -/

/-- Does the device wait in BOOT for an image (R582)? -/
def State.bootWaits (s : State) : Bool :=
  s.boot.stacksOk && decide (s.dev = .boot ∧ 4 ≤ s.boot.stage ∧ s.boot.stage < 9 ∧ s.boot.mode ≠ 2 ∧ s.boot.mode ≠ 3)

/-- BEGIN. -/
def State.fwBegin (s : State) (p : Path) : State × Status :=
  if s.boot.updState = 0 ∨ s.boot.updState = 4 ∨ s.boot.updState = 5 then
    ({ s with
      boot.updState := 1, boot.updStatus := .ok, boot.updBytes := 0, boot.updOwner := some (pathWho p), boot.pending := none,
      boot.staging := none, boot.marker := 0 }, .ok)
  else (s, .stateConflict)

/-- A segment of the package (R585, R598): it lands in the pending slot. -/
def State.fwData (s : State) (p : Path) (off : Nat) (bytes : List Byte) : State × Status :=
  if s.boot.updState ≠ 1 ∨ s.boot.updOwner ≠ some (pathWho p) then (s, .stateConflict)
  else if 0x3100000 < off + bytes.length then (s, .reservedNonzero)
  else ({ s.putNear (0xBF04000000 + off) bytes with boot.updBytes := s.boot.updBytes + bytes.length }, .ok)

/-- The kinds of image that an update may bring here (R598). -/
def State.kindOk (s : State) (k : Nat) : Bool :=
  if s.dev = .boot ∨ 128 ≤ s.boot.flashMiB then decide (k = 0) else decide (k = 1)

/-- The image that a received package gives, or why it is refused (R590 to R592, R598, R600). -/
def State.fwCheck (s : State) (b : List Byte) : FwImage × Status :=
  let i := imageOf s.boot.serial s.kindOk b
  if !i.headOk then (i, .headerRejected)
  else if hdr b 0xC 2 = 1 ∧ (8351744 < hdr b 0x10 8 ∨ (b.drop 0x670).take 64 ≠ Config.shake s.boot.running) then (i, .headerRejected)
  else if !i.sigOk then (i, .authFailed)
  else if !i.tagOk then (i, .decryptFailed)
  else if hdr b 0xC 2 = 1 then
    match rebuild s.boot.serial s.boot.running b with
    | none => (i, .reservedNonzero)
    | some r => (r, if !r.headOk then .headerRejected else if !r.sigOk then .authFailed else if !r.tagOk then .decryptFailed else .ok)
  else (i, .ok)

/-- FINISH: in BOOT the start goes on with the image; in service the package is written to flash. The write of the command is answered
OK, and what the checks find is read in `FW_UPD_STATUS`. -/
def State.fwFinish (s : State) : State × Status :=
  if s.boot.updState ≠ 1 ∨ (s.dev = .boot ∧ !s.bootWaits) then (s, .stateConflict)
  else
    let n := min (packageBytes (s.near 0xBF04000000 4096)) 0x3100000
    let r := s.fwCheck (s.near 0xBF04000000 n)
    if r.2 ≠ .ok then
      let t := s.updIdle r.2
      (if s.dev = .boot then t.bootRefuse (if r.2 = .headerRejected then 4 else if r.2 = .authFailed then 7 else 8) r.2
       else (t.count r.2).logRefusal r.2, .ok)
    else if s.dev = .boot then
      let t := { s with boot.pending := some r.1, boot.recovery := true, boot.status := .ok, boot.updState := 3 }
      (t.bootStacks.bootOn r.1, .ok)
    else ({ s with boot.pending := some r.1, boot.updState := 3, boot.jobs := addJob s.boot.jobs .package }, .ok)

/-- CANCEL: the update discarded, the pending marker cleared. -/
def State.fwCancel (s : State) : State × Status :=
  if s.boot.updState = 0 ∨ s.boot.updState = 6 then (s, .stateConflict)
  else
    ({ s.updIdle .ok with
      boot.staging := none, boot.marker := 0, boot.jobs := s.boot.jobs.filter fun j => decide (j ≠ .package) }, .ok)

/-- May ACTIVATE be accepted (R599)? -/
def State.activateOk (s : State) (maxPause : Nat) : Bool :=
  decide (s.dev = .config ∨ s.dev = .ready) && !(s.qs.queues.any fun (e : Nat × Queue) => e.2.enabled) && s.tcItem.isNone && s.tier.run.isNone &&
  ([0, 1].all fun e => decide ((s.mx e).wait = .none) && !s.scBusy e) && decide (s.boot.updState = 5) &&
  decide (s.dictNat 0x8010 5 ≤ maxPause)

/-- A core as it is after an activation: its place in the device stays. -/
def Core.renewed (c : Core) : Core := { phys := c.phys, absent := c.absent, fenced := c.fenced }

/-- ACTIVATE: the pending image moved into the running slot, every block reset but for what R599 excepts, steps 9 and 10, and the
state from which it was issued. -/
def State.fwActivate (s : State) (maxPause : Nat) : State × Status :=
  match s.activateOk maxPause, s.boot.pending with
  | true, some img =>
    let back := s.dev
    let r := s.deviceReset
    let t := { r with
      dev := .boot,
      mem.near := Store.erase 0 (fun a => decide (0xBF00000000 ≤ a ∧ a < 0xBF10000000)) s.mem.near,
      mem.badNear := s.mem.badNear,
      mem.nearErr := s.mem.nearErr,
      mem.chans := s.mem.chans.filterMap fun (e : Nat × Chan) => if e.2.failed then some (e.1, { failed := true }) else none,
      cores := s.cores.map fun (e : Nat × Core) => (e.1, e.2.renewed),
      fab := { s.fab with outReqs := [], lost := [], plans := [], parked := [], hostOut := [] },
      wear := s.wear,
      ft := s.ft, ninths := s.ninths, ftPrev := s.ftPrev,
      boot := { r.boot with
        mode := s.boot.mode, warm := s.boot.warm, oneBit := s.boot.oneBit, fwLoads := s.boot.fwLoads, lifeReset := s.boot.lifeReset,
        updState := 6, marker := 1, journal := decide (s.boot.flashMiB < 128), jobs := addJob s.boot.jobs .activation,
        rrLoaded := true } }
    let t := t.setReg 0x108 (s.reg 0x108)
    let t := ((t.bootStacks.bootContents).bootFirmware img).lifeAdd 5 1
    (t.setDev back, .ok)
  | _, _ => (s, .stateConflict)

/-- What a firmware command of a requester gives: its role must suffice (R597, R640), the dictionary be served, and the
device not be FAULTED (R571). -/
def State.asAdmin (s : State) (p : Path) (f : State → State × Status) : State :=
  if !s.dictServed then s
  else if s.roleOf p < 2 then s.count .accessDenied
  else if s.dev = .faulted then s.count .stateConflict
  else
    let r := f s
    r.1.count r.2

/-- BEGIN (R598). -/
def execFwBegin (path : Path) (s : State) : Host.Outcome State Fault Refusal := .next (s.asAdmin path fun t => t.fwBegin path)
/-- FW_UPD_DATA (R598). -/
def execFwUpdData (path : Path) (offset : Nat) (bytes : List Byte) (s : State) : Host.Outcome State Fault Refusal :=
  .next (s.asAdmin path fun t => t.fwData path offset bytes)
/-- FINISH (R598, R582). -/
def execFinish (path : Path) (s : State) : Host.Outcome State Fault Refusal := .next (s.asAdmin path fun t => t.fwFinish)
/-- CANCEL (R598). -/
def execCancel (path : Path) (s : State) : Host.Outcome State Fault Refusal := .next (s.asAdmin path fun t => t.fwCancel)
/-- ACTIVATE (R599). -/
def execActivate (path : Path) (maxPause : Nat) (s : State) : Host.Outcome State Fault Refusal :=
  .next (s.asAdmin path fun t => t.fwActivate maxPause)
/-- PDC_BLOB (R595). -/
def execPdcBlob (path : Path) (bytes : List Byte) (s : State) : Host.Outcome State Fault Refusal :=
  .next (s.asAdmin path fun t => t.pdcBlob bytes)
/-- QUOTE_NONCE (R596). -/
def execQuoteNonce (path : Path) (nonce : List Byte) (s : State) : Host.Outcome State Fault Refusal :=
  .next (s.asAdmin path fun t => t.quoteNonce nonce)

/-! ### Test access port (R621 to R625) -/

/-- The pins let go; a start that waited for it goes on (R622). -/
def State.tapLetGo (s : State) : State :=
  let s := { s with pins.driven := false, pins.floating := false }
  if s.boot.holdTap then { s with boot.holdTap := false }.startSteps else s

/-- May an instruction with pin control take effect (R622)? -/
def State.tapAllowed (s : State) : Bool := !s.pins.resetN || decide (s.dev = .boot ∧ 2 ≤ s.boot.stage ∧ 2 ≤ s.boot.mode)

/-- An instruction that leaves the pins alone: its register is selected with what it captures. -/
def State.tapQuiet (s : State) (ir effective dr : Nat) : State :=
  { s with pins.ir := ir, pins.effective := effective, pins.dr := dr }.tapLetGo

/-- An instruction with pin control; one that is refused acts as BYPASS. -/
def State.tapPins (s : State) (ir : Nat) (f : PinSt → PinSt) : State :=
  if s.tapAllowed then { s with pins := { f { s.pins with ir := ir, effective := ir } with driven := true } }
  else (s.tapQuiet ir 0xFF 0).bumpSeen 0x410 0x400 1

/-- EXTEST (R621): the boundary register drives the pins. -/
def execExtest (cells : BitVec 272) (s : State) : Host.Outcome State Fault Refusal :=
  .next (s.tapPins 0x00 fun p => { p with boundary := cells, floating := false })
/-- SAMPLE/PRELOAD (R621). -/
def execSamplePreload (cells : BitVec 272) (s : State) : Host.Outcome State Fault Refusal :=
  .next { s.tapQuiet 0x01 0x01 0 with pins.boundary := cells }
/-- IDCODE (R623). -/
def execIdcode (s : State) : Host.Outcome State Fault Refusal := .next (s.tapQuiet 0x02 0x02 0x10768C57)
/-- CLAMP (R621): the pins hold what the boundary register gives, and bypass is selected. -/
def execClamp (s : State) : Host.Outcome State Fault Refusal :=
  .next (s.tapPins 0x03 fun p => { p with dr := 0, floating := false })
/-- HIGHZ (R621): the outputs float, and bypass is selected. -/
def execHighz (s : State) : Host.Outcome State Fault Refusal := .next (s.tapPins 0x04 fun p => { p with dr := 0, floating := true })
/-- ECIDCODE (R621): the serial number. -/
def execEcidcode (s : State) : Host.Outcome State Fault Refusal := .next (s.tapQuiet 0x05 0x05 s.boot.serial.toNat)
/-- EXTEST_PULSE (R625). -/
def execExtestPulse (cells : BitVec 272) (s : State) : Host.Outcome State Fault Refusal :=
  .next (s.tapPins 0x06 fun p => { p with boundary := cells, floating := false })
/-- EXTEST_TRAIN (R625). -/
def execExtestTrain (cells : BitVec 272) (s : State) : Host.Outcome State Fault Refusal :=
  .next (s.tapPins 0x07 fun p => { p with boundary := cells, floating := false })
/-- BYPASS (R621). -/
def execBypass (s : State) : Host.Outcome State Fault Refusal := .next (s.tapQuiet 0xFF 0xFF 0)
/-- TRST_N (R621): Test-Logic-Reset, after which the instruction is IDCODE. -/
def execTrstN (s : State) : Host.Outcome State Fault Refusal := .next (s.tapQuiet 0x02 0x02 0x10768C57)

end Sys2Proof.Machine
end

