-- ==== Sys2Proof/Machine/Power.lean ====
section
/-! DEFINITION. Power, heat and scheduling (R523 to R544): the package budget, grants, clocks and voltage, thermal steps and Gauze,
THERM_N, trips and regulator events, and the temperatures of the memory stacks (R261). -/

namespace Sys2Proof.Machine

/-! ### Limits (R523) -/

/-- Does the power manager run: from CONFIG on (R544)? -/
def State.powered (s : State) : Bool := decide (s.dev = .config ∨ s.dev = .ready ∨ s.dev = .running ∨ s.dev = .draining)

/-- A non-zero `HOST_CAP_W`. -/
def State.hostCap (s : State) : Option Nat := if s.dictNat 0x5010 4 = 0 then none else some (s.dictNat 0x5010 4)

/-- The lower of a limit and another one, where it applies. -/
def lowest (n : Nat) : Option Nat → Nat
  | some m => min n m
  | none => n

/-- `THERM_LIMIT_W` while the board asserts THERM_N. -/
def State.thermLimit (s : State) : Option Nat := if s.pwr.thermIn then some (s.dictNat 0x5020 3) else none

/-- P_sus in nJ per window. -/
def State.susNj (s : State) : Nat := 10000 * lowest (lowest (s.dictNat 0x5010 1) s.hostCap) s.thermLimit

/-- P_max in nJ per window; the current limit is ICC_MAX_A × the present VDD_CORE set point. -/
def State.maxNj (s : State) : Nat :=
  min (10000 * lowest (lowest (s.dictNat 0x5010 2) s.hostCap) s.thermLimit) (s.dictNat 0x5010 5 * s.pwr.vcoreMv10)

/-- Does `HOST_CAP_W` set P_sus or P_max (R542)? -/
def State.hostCapped (s : State) : Bool :=
  match s.hostCap with
  | some c => decide (10000 * c = s.susNj ∨ 10000 * c = s.maxNj)
  | none => false

/-! ### Clock steps (R529) -/

/-- The voltage of a step, in 0.1 mV. -/
def stepVolt (k : Nat) : Nat := 7000 + 125 * k

/-- The maximum-activity energy of a step in a window at a voltage, to the nearest nJ. -/
def stepEnergy (k v : Nat) : Nat := (2 * 25 * (24000 + 1000 * k) * v * v + 10 * 8500 * 8500) / (2 * 10 * 8500 * 8500)

/-- The highest step under `CLK_MAX_MHZ`. -/
def State.maxStep (s : State) : Nat := (s.dictNat 0x5010 6 - 2400) / 100

/-- The clock cap of a die's cores, in steps: thermal steps, and the caps of regulator warnings (R534, R537). -/
def State.capOf (s : State) (die : Nat) : Nat :=
  if s.pwr.ocUntil.isSome || s.pwr.uvCap then 0 else min (Store.get 0 s.pwr.capStep die) s.maxStep

/-- The highest step up to `cap` that `ok` allows; 0 where none is. -/
def bestStep (cap : Nat) (ok : Nat → Bool) : Nat := (((List.range (cap + 1)).filter ok).getLast?).getD 0

/-! ### Grants (R527, R535) -/

/-- The present cores. -/
def State.presentCores (s : State) : List Nat := (List.range Config.cores).filter s.corePresent

/-- Was a core demanding in the window that ends? -/
def State.demanding (s : State) (core : Nat) : Bool :=
  s.pwr.heldWin.contains core || decide (s.grant core ≤ 2 * Store.get 0 s.pwr.charged core)

/-- Water filling (R527, steps 2 and 3): `l` holds core, weight and cap; cores whose share exceeds their cap get the cap, and the rest
is divided again. `fuel` is at least the number of cores. -/
def fillGrants : Nat → Nat → List (Nat × Nat × Nat) → List (Nat × Nat)
  | 0, _, _ => []
  | fuel + 1, b, l =>
    let w := l.foldl (fun n e => n + e.2.1) 0
    let capped := l.filter fun e => decide (e.2.2 * w < b * e.2.1)
    if capped.isEmpty then l.map fun e => (e.1, b * e.2.1 / w)
    else
      capped.map (fun e => (e.1, e.2.2)) ++
      fillGrants fuel (b - capped.foldl (fun n e => n + e.2.2) 0) (l.filter fun e => !decide (e.2.2 * w < b * e.2.1))

/-- The grants of the coming window, before Gauze. -/
def State.newGrants (s : State) (b : Nat) : List (Nat × Nat) :=
  let idle := s.presentCores.filter fun c => !s.demanding c
  let busy := s.presentCores.filter s.demanding
  let l := busy.map fun c =>
    let cap := s.capOf (s.dieOf c)
    (c, s.dictNat 0x5030 (c + 1), stepEnergy cap (stepVolt cap))
  idle.map (fun c => (c, 4096)) ++ fillGrants (l.length + 1) (b - 4096 * idle.length) l

/-- A grant after the cuts of Gauze. -/
def cutGrant (g cuts : Nat) : Nat := max (min g 10173) (g - 5086 * cuts)

/-- One core's new grant and balance (R527, R528). -/
def State.giveGrant (s : State) (core g : Nat) : State :=
  let s := s.setReg (coreOff core 0x9008) (BitVec.ofNat 64 g)
  { s with pwr.balance := Store.set 0 s.pwr.balance core (min (s.balance core + g) (4 * g)) }

/-- The voltage that the present clocks need. -/
def State.clockVolt (s : State) : Nat := s.presentCores.foldl (fun v c => max v (stepVolt (Store.get 0 s.pwr.clk c))) 7000

/-- The clocks and the set point of the coming window (R529, R530): VDD_CORE rises at once and falls once every core has left the
higher steps. -/
def State.chooseClocks (s : State) : State :=
  let top := s.presentCores.foldl
    (fun n c => max n (bestStep (s.capOf (s.dieOf c)) fun k => decide (stepEnergy k (stepVolt k) ≤ s.grant c))) 0
  let v := stepVolt top
  let next := s.presentCores.foldl
    (fun (m : Store Nat) c =>
      Store.set 0 m c (bestStep (s.capOf (s.dieOf c)) fun k => decide (stepEnergy k v ≤ s.grant c)))
    []
  { s with pwr.nextClk := next, pwr.wantMv10 := v, pwr.vcoreMv10 := max v s.clockVolt }

/-- The thermal state of a window's start: a release of THERM_N takes effect (R537). -/
def State.thermAtBoundary (s : State) : State :=
  match s.pwr.thermInPending with
  | some v => { s with pwr.thermIn := v, pwr.thermInPending := none }
  | none => s

/-- Energy of a window added to the lifetime counters (R486). -/
def State.countEnergy (s : State) (nj : Nat) : State :=
  let e := s.pwr.energyNj + nj
  ({ s with pwr.energyNj := e % 3600000000000 }.lifeAdd 0x4E (e / 3600000000000)).lifeMax 0x4F (nj / 10000 : Nat)

/-- WINDOW_BOUNDARY: a new window begins; `measured` nJ were used in the one that ends, `uncore` of them counted as not charged by
the execute engines (R524 to R529). -/
def State.windowBoundary (s : State) (measured uncore : Nat) : State :=
  let k := s.ft.toNat / 10000
  if !s.powered ∨ k = s.pwr.lastWindow then s
  else
    let s := s.thermAtBoundary
    let u := uncore * s.pwr.uMeasured / s.pwr.uCounted
    let r := min (s.pwr.reserve + s.susNj - measured) (s.dictNat 0x5010 3 * 1000000)
    let b := min s.maxNj (s.susNj + r) - u
    let grants := s.newGrants b
    let s := { s with pwr.reserve := r, pwr.lastWindow := k }
    let s := (s.setReg 0x4008 (BitVec.ofNat 64 (measured / 10000 % 65536))).setReg 0x4038 (BitVec.ofNat 64 b)
    let s := grants.foldl (fun (t : State) e => t.giveGrant e.1 (cutGrant e.2 (Store.get 0 t.pwr.cuts (t.dieOf e.1)))) s
    let s := { s with pwr.charged := [], pwr.heldWin := [] }
    s.chooseClocks.countEnergy measured

/-- CLOCK_SWITCH: a core takes its new clock when no item is under way and VDD_CORE stands at its voltage (R530, R24). -/
def State.clockSwitch (s : State) (core : Nat) : State :=
  let n := Store.get 0 s.pwr.nextClk core
  let C := s.core core
  if n = Store.get 0 s.pwr.clk core ∨ C.walk.isSome = true ∨ C.vec.isSome = true ∨ s.pwr.vcoreMv10 < stepVolt n ∨ s.powered = false
  then s
  else
    let s := { s with pwr.clk := Store.set 0 s.pwr.clk core n }
    let s := { s with pwr.vcoreMv10 := max s.pwr.wantMv10 s.clockVolt }
    s.bumpCore core 0x9028 1

/-! ### Heat (R534, R535) -/

/-- Is a compute die in the Gauze condition? It ends once the cuts are undone too. -/
def State.gauze (s : State) (die : Nat) : Bool :=
  s.pwr.thermIn || s.pwr.gauzeHeat.contains die || decide (0 < Store.get 0 s.pwr.cuts die)

/-- Entries into Gauze counted, for the dies that were not in it before. -/
def State.countGauze (s : State) (before : State) : State :=
  let n := ([0, 1, 2, 3].filter fun d => s.gauze d && !before.gauze d).length
  s.bumpSeenN 0x4080 0x4000 1 n

/-- Does the device drive THERM_N low (R537)? -/
def State.drivesTherm (s : State) : Bool := !s.pwr.gauzeHeat.isEmpty || s.pwr.tripped || s.pwr.regFault

/-- A compute die at or above the throttle point: its cap falls, and in Gauze its grants are cut, for whichever cause it is there. -/
def State.dieHot (s : State) (d : Nat) : State :=
  let cap := min (Store.get 0 s.pwr.capStep d) s.maxStep
  let inGauze := s.gauze d
  let s := if cap = s.maxStep ∧ 0 < cap then (s.bumpSeen 0x4040 0x4000 0).lifeAdd (0x1F + d) 1 else s
  { s with
    pwr.cuts := if inGauze then Store.set 0 s.pwr.cuts d (min 7 (Store.get 0 s.pwr.cuts d + 1)) else s.pwr.cuts,
    pwr.capStep := Store.set 0 s.pwr.capStep d (cap - 1),
    pwr.gauzeHeat := if cap ≤ 1 ∧ s.pwr.gauzeHeat.contains d = false then s.pwr.gauzeHeat ++ [d] else s.pwr.gauzeHeat }

/-- A compute die more than 3 °C below the throttle point. -/
def State.dieCool (s : State) (d : Nat) : State :=
  let cap := min (Store.get 0 s.pwr.capStep d) s.maxStep
  let cuts := Store.get 0 s.pwr.cuts d
  if 0 < cuts then { s with pwr.cuts := Store.set 0 s.pwr.cuts d (cuts - 1) }
  else
    { s with
      pwr.capStep := Store.set 0 s.pwr.capStep d (min (cap + 1) s.maxStep),
      pwr.gauzeHeat := s.pwr.gauzeHeat.filter fun e => e ≠ d }

/-- The millisecond's adjustment of one die. -/
def State.adjustDie (s : State) (d : Nat) (t : Int) : State :=
  let hot := (16 * s.dictNat 0x5020 1 : Nat)
  let s := (s.setReg (0x4010 + 4 * d) (BitVec.ofNat 64 (unsigned 16 t))).lifeMax (0x11 + d) t
  if (hot : Int) ≤ t then
    (if d < 4 then s.dieHot d
     else if s.pwr.halfRate.contains d then s else { s with pwr.halfRate := s.pwr.halfRate ++ [d] }.lifeAdd (0x1F + d) 1)
  else if t < (hot : Int) - 48 then
    (if d < 4 then s.dieCool d else { s with pwr.halfRate := s.pwr.halfRate.filter fun e => e ≠ d })
  else s

/-- THERMAL_ADJUST: the temperatures of C0 to C3, E0 and E1 in 1/16 °C at the end of a millisecond; a die at `T_TRIP_C` trips (R536). -/
def State.thermalAdjust (s : State) (temps : List Int) : State :=
  if !s.powered then { s with pwr.temps := temps }
  else
    let t := temps.zipIdx.foldl (fun (t : State) e => t.adjustDie e.2 e.1) { s with pwr.temps := temps }
    let t := t.countGauze s
    let t := { t with pwr.thermOut := t.drivesTherm }
    match temps.findIdx? fun v => decide (((16 * t.dictNat 0x5020 2 : Nat) : Int) ≤ v) with
    | some d => t.trip 8 d
    | none => t

/-! ### THERM_N and regulators (R537, R626) -/

/-- The board asserts THERM_N for 1 µs, sampled while the device does not drive it. An assertion that finds a release not yet in effect
is a new one. -/
def State.thermAssert (s : State) : State :=
  let s := { s with pins.thermN := false }
  if (s.pwr.thermIn ∧ s.pwr.thermInPending = none) ∨ s.drivesTherm = true ∨ s.powered = false then s
  else
    let t := { s with pwr.thermIn := true, pwr.thermInPending := none }
    let t := if t.susNj < s.susNj then { t with pwr.reserve := 0 } else t
    ((t.bumpSeen 0x4078 0x4000 3).lifeAdd 0x50 1).countGauze s

/-- THERM_N has been high for 1 µs: the release takes effect at the next window boundary. -/
def State.thermRelease (s : State) : State :=
  let s := { s with pins.thermN := true }
  if s.pwr.thermIn then { s with pwr.thermInPending := some false } else s

/-- THERM_N driven low but sampled high for 10 µs (R626). -/
def State.thermStuck (s : State) : State :=
  let s := { s with pins.thermN := true }
  if s.drivesTherm then s.bumpSeen 0x408 0x400 0 else s

/-- An output overcurrent warning: every clock cap at 2.4 GHz for 1 ms. -/
def State.overcurrent (s : State) : State :=
  if !s.powered then s
  else (({ s with pwr.ocUntil := some (s.ft.toNat + 1000000) }.bumpSeen 0x4070 0x4000 4).lifeAdd 0x4D 1)

/-- The end of that millisecond. -/
def State.overcurrentEnd (s : State) : State :=
  match s.pwr.ocUntil with
  | some t => if t ≤ s.ft.toNat then { s with pwr.ocUntil := none } else s
  | none => s

/-- An output undervoltage warning: every clock cap at 2.4 GHz until VDD_CORE is within 10 mV of its set point. -/
def State.undervoltage (s : State) : State :=
  if !s.powered then s else (({ s with pwr.uvCap := true }.bumpSeen 0x4070 0x4000 4).lifeAdd 0x4C 1)

/-- A lifetime counter that keeps the lowest value seen; 0 stands for none yet. -/
def State.lifeMin (s : State) (sub v : Nat) : State :=
  if s.life sub = 0 ∨ v < (s.life sub).toNat then s.setLife sub (BitVec.ofNat 64 v) else s

/-- The distance of two numbers. -/
def distNat (a b : Nat) : Nat := (a - b) + (b - a)

/-- The telemetry of a millisecond (R525): the uncore counting corrected, each `PWR_PHASE_PCT` set, and VDD_CORE read. -/
def State.telemetry (s : State) (um uc : Nat) (pct : List Nat) (mv : Nat) : State :=
  if !s.powered then s
  else
    let s := if uc = 0 then s else { s with pwr.uMeasured := um, pwr.uCounted := uc }
    let s := ((pct.take 6).zipIdx).foldl (fun (t : State) e => t.setDictNat 0x5040 (e.2 + 1) (max 50 (min 150 e.1))) s
    let s := (s.lifeMin 0x39 mv).lifeMax 0x3A mv
    if distNat (10 * mv) s.pwr.vcoreMv10 ≤ 100 then { s with pwr.uvCap := false } else s

/-! ### Stack temperatures (R261) -/

/-- A stack at 105 °C: `TRIPPED`, and the device trips where it has not yet. -/
def State.stackTrip (s : State) (stack : Nat) : State :=
  let st := msOff stack 0
  (if s.flag st 7 then s else (s.setFlag st 7).lifeAdd (0x2D + stack) 1).trip 3 (32 * stack)

/-- A stack reports the temperature of its hottest die, in 1/16 °C. -/
def State.stackTemp (s : State) (stack : Nat) (t : Int) : State :=
  let st := msOff stack 0
  let s := (s.setReg (msOff stack 4) (BitVec.ofNat 64 (unsigned 16 t))).lifeMax (0x17 + stack) t
  let s := if 1360 < t then s.setFlag st 5 else s.clearFlag st 5
  let s := if 1440 < t then (if s.flag st 6 then s else (s.setFlag st 6).lifeAdd (0x25 + stack) 1)
    else if t < 1392 then s.clearFlag st 6 else s
  if 1680 ≤ t then s.stackTrip stack else s

/-! ### Commands -/

/-- WINDOW_BOUNDARY (R524 to R529). -/
def execWindowBoundary (measured uncore : Nat) (s : State) : Host.Outcome State Fault Refusal := .next (s.windowBoundary measured uncore)
/-- CLOCK_SWITCH (R530). -/
def execClockSwitch (core : Nat) (s : State) : Host.Outcome State Fault Refusal := ifUnit (isCore core) "core" (s.clockSwitch core)
/-- THERMAL_ADJUST (R534, R535). -/
def execThermalAdjust (temps : List Int) (s : State) : Host.Outcome State Fault Refusal :=
  ifUnit (decide (temps.length = 6)) "temperatures" (s.thermalAdjust temps)
/-- THERMAL_TRIP (R536): of a die, or of a memory stack. -/
def execThermalTrip (stack : Bool) (unit : Nat) (s : State) : Host.Outcome State Fault Refusal :=
  ifUnit (if stack then isStack unit else decide (unit < 6)) "unit"
    (if !stack then s.trip 8 unit else if s.dev = .off ∨ s.dev = .reset then s else s.stackTrip unit)
/-- THERM_N_ASSERT (R537). -/
def execThermNAssert (s : State) : Host.Outcome State Fault Refusal := .next s.thermAssert
/-- THERM_N_RELEASE (R537). -/
def execThermNRelease (s : State) : Host.Outcome State Fault Refusal := .next s.thermRelease
/-- THERM_N_STUCK (R626). -/
def execThermNStuck (s : State) : Host.Outcome State Fault Refusal := .next s.thermStuck
/-- OVERCURRENT_WARNING (R537). -/
def execOvercurrentWarning (s : State) : Host.Outcome State Fault Refusal := .next s.overcurrent
/-- OVERCURRENT_CAP_END (R537). -/
def execOvercurrentCapEnd (s : State) : Host.Outcome State Fault Refusal := .next s.overcurrentEnd
/-- UNDERVOLTAGE_WARNING (R537). -/
def execUndervoltageWarning (s : State) : Host.Outcome State Fault Refusal := .next s.undervoltage
/-- REGULATOR_FAULT (R537). -/
def execRegulatorFault (s : State) : Host.Outcome State Fault Refusal := .next s.regulatorFault
/-- PMBUS_TELEMETRY (R525). -/
def execPmbusTelemetry (uncoreMeasured uncoreCounted : Nat) (phasePct : List Nat) (vcoreMv : Nat) (s : State) :
    Host.Outcome State Fault Refusal := .next (s.telemetry uncoreMeasured uncoreCounted phasePct vcoreMv)
/-- STACK_TEMP_SAMPLE (R261). -/
def execStackTempSample (stack : Nat) (temp : Int) (s : State) : Host.Outcome State Fault Refusal :=
  ifUnit (isStack stack) "stack" (if s.dev = .off ∨ s.dev = .reset then s else s.stackTemp stack temp)

end Sys2Proof.Machine
end

