-- ==== Sys2Proof/Machine/Entries.lean ====
section
/-! DEFINITION. What a write of each dictionary entry does (R386, R421, R422, R432, R463, R545 to R551, R558, R561, R568, R570), and the
device commands (R569 to R571). -/

namespace Sys2Proof.Machine

/-! ### Device commands (R570, R571) -/

/-- The role that a device command asks for. -/
def devRole (code : Nat) : Nat := if code = 4 ∨ code = 5 then 2 else 1

/-- Is a device command legal in the present state? -/
def State.devLegal (s : State) (code : Nat) : Bool :=
  match code with
  | 1 => decide (s.dev = .config)
  | 2 => decide (s.dev = .ready)
  | 3 => decide (s.dev = .running)
  | 4 => decide (s.dev = .ready) && !(s.qs.queues.any fun (e : Nat × Queue) => e.2.enabled)
  | 5 => true
  | _ => decide (s.dev ≠ .boot ∧ s.dev ≠ .faulted)

/-- Ports brought into line with a shape that has changed (R429, R432): those it does not use are DISABLED, those it newly uses train. -/
def State.reshape (s : State) : State :=
  (List.range Config.ports).foldl
    (fun (t : State) p =>
      let P := t.port p
      if (t.expectedPeer p).isNone then t.setPort p { P with link := .disabled, width := 0, active := 0 }
      else if P.link = .disabled ∧ !P.disabled then t.startFull p
      else t)
    s

/-- Entry into READY from CONFIG: substitutions, the numbers and shapes now in force, and the identity exchange of every port. -/
def State.goReady (s : State) : State :=
  ((((s.substitute).takeNumbers).reshape).identAll.setDev .ready).evalFitness

/-- START: the control processor of every core that serves starts its schedule program. -/
def State.startPrograms (s : State) : State :=
  ((List.range Config.cores).filter s.corePresent).foldl (fun t c => t.setCore c { t.core c with scheduled := true }) s

/-- A device command that passes its checks. -/
def State.devGo (s : State) (code : Nat) : State :=
  match code with
  | 1 => s.goReady
  | 2 => s.startPrograms.setDev .running
  | 3 => { s.setDev .draining with devBusy := true }
  | 4 => s.setDev .config
  | _ => { s with resetAt := some (s.ft.toNat + 100000) }

/-- A write of `DEV_CMD`; its status is left in `DEV_STATE` (R572). -/
def State.devCommand (s : State) (code : Nat) : State × Status :=
  let st : Status :=
    if code = 0 ∨ 5 < code then .reservedNonzero
    else if (s.devBusy && decide (code ≠ 5)) || !s.devLegal code then .stateConflict
    else .ok
  let t := if st = .ok then s.devGo code else s
  ({ t with devCmdStatus := st.code }.devChanged t.devWord, st)

/-- Is nothing left to drain (R571)? -/
def State.drained (s : State) : Bool :=
  s.qs.queues.all (fun (e : Nat × Queue) =>
    (decide (e.2.state ≠ .active) || decide (e.2.done = e.2.tail)) && e.2.held.isNone) &&
  s.qs.descs.isEmpty && s.tcItem.isNone && s.tier.run.isNone &&
  ([0, 1].all fun e => decide ((s.mx e).wait = .none ∧ s.reg (mxOff e 0x08) = s.reg (mxOff e 0x0C)) && !s.scBusy e)

/-- Entry into READY from DRAINING. -/
def State.drainEnd (s : State) : State :=
  if s.dev = .draining ∧ s.drained then ({ s.substitute with devBusy := false }.setDev .ready).evalFitness else s

/-- The reset that RESET asked for, 100 µs later. -/
def State.resetExpiry (s : State) : State :=
  match s.resetAt with
  | some t => if t ≤ s.ft.toNat then s.deviceReset.tryStart else s
  | none => s

/-! ### Rules of entries (check 4 of R551) -/

/-- Does the CONFIG rule of an entry permit a write now? -/
def State.configRule (s : State) (idx sub : Nat) : Bool :=
  let c := decide (s.dev = .config)
  let r := decide (s.dev = .ready)
  match idx with
  | 0x2200 => decide (sub = 1) || c || (r && [0, 1].all fun e => !s.scBusy e)
  | 0x3001 => c
  | 0x4300 => decide (sub = 4) || s.tierWritable
  | 0x4400 => c || (r && !(s.qs.queues.any fun (e : Nat × Queue) => e.2.enabled))
  | 0x7000 => c || (r && s.sessions.all fun (e : Nat × Session) => decide (e.2.state = 0))
  | _ => true

/-- Does the device state permit a command on an entry (R571)? A write of RESET is permitted in every state. -/
def State.stateServes (s : State) (idx sub : Nat) (writes reset : Bool) : Bool :=
  match s.dev with
  | .boot =>
    if writes then reset || decide (idx = 0x6200 ∧ sub = 4) || decide (idx / 4096 = 8)
    else decide (idx = 0x1000 ∨ idx = 0x6200 ∨ idx / 4096 = 8)
  | .faulted => !writes || reset
  | _ => true

/-- Is an entry that only a bridge has out of reach here (R432)? -/
def State.bridgeBarred (s : State) (a : DAttr) : Bool := a.bridge && decide (chipMember s.fab.chipNum ≠ 0)

/-! ### Effects of writes -/

/-- The banks of rank map `n`, with their identities, exchanged (R422); `n` counts from 1 as the subindices do. -/
def State.swapMap (s : State) (n : Nat) : State :=
  let b := s.dictBytes 0x2100 n
  let i := s.dictBytes 0x2101 n
  (((s.setDict 0x2100 n (s.dictBytes 0x2100 (0x10 + n))).setDict 0x2100 (0x10 + n) b).setDict 0x2101 n
    (s.dictBytes 0x2101 (0x10 + n))).setDict 0x2101 (0x10 + n) i

/-- An entry's value replaced, with the default as the empty list. -/
def State.setEntry (s : State) (idx sub : Nat) (v : List Byte) : State :=
  s.setDict idx sub (if v = dictDefault idx sub then [] else v)

/-- A power limit written: the burst reserve is lost where P_sus falls (R526). -/
def State.setLimit (s : State) (sub : Nat) (v : List Byte) : State :=
  let t := s.setEntry 0x5010 sub v
  if t.susNj < s.susNj then { t with pwr.reserve := 0 } else t

/-- A write of `Q_CMD_STAGE` (R568). What the neighbour answers to an ENABLE's registration is not this device's: a free value. -/
def State.queueStaged (s : State) (v : List Byte) : State × Status :=
  let w := leNat (v.take 4)
  if bits w 27 20 ≠ 0 ∨ leNat ((v.drop 4).take 4) ≠ 0 then (s, .reservedNonzero)
  else
    let f := s.freeWord
    let r := f.2.queueOp none (bits w 31 28) (bits w 19 0) (BitVec.ofNat 64 (leNat ((v.drop 8).take 8))) (f.1.toNat % 2 = 0)
    if r.2 = .ok then (r.1.setEntry 0x2300 1 v, .ok) else r

/-- A write of `FW_UPD_CMD` (R597, R598). -/
def State.fwCommand (s : State) (p : Path) (w : Nat) : State × Status :=
  if bits w 27 16 ≠ 0 then (s, .reservedNonzero)
  else
    match bits w 31 28 with
    | 1 => if bits w 15 0 = 0 then s.fwBegin p else (s, .reservedNonzero)
    | 2 => if bits w 15 0 = 0 then s.fwFinish else (s, .reservedNonzero)
    | 3 => if bits w 15 0 = 0 then s.fwCancel else (s, .reservedNonzero)
    | 4 => s.fwActivate (bits w 15 0)
    | _ => (s, .reservedNonzero)

/-- `MB_RELEASE` (R561): through the bridge or the field network only. -/
def State.mailRelease (s : State) (p : Path) : State × Status :=
  match p with
  | .mailbox _ => (s, .accessDenied)
  | .forwarded false _ _ _ => (s, .accessDenied)
  | _ => (if s.mbClaim = 0xFF then s else s.releaseClaim, .ok)

/-- The write of a value to an entry, its range checked already: the state and the chapter's status. -/
def State.applyWrite (s : State) (p : Path) (idx sub : Nat) (v : List Byte) : State × Status :=
  let n := leNat v
  match idx, sub with
  | 0x2000, 1 => s.devCommand n
  | 0x2010, 1 => ({ s.setEntry idx sub v with mgmt.link := if s.mgmt.link = 3 then 0 else s.mgmt.link }, .ok)
  | 0x2010, 7 => s.mailRelease p
  | 0x2210, _ => ((s.setEntry idx sub v).evalFitness, .ok)
  | 0x2300, 1 => s.queueStaged v
  | 0x3002, 1 => if s.ftValid then (s, .stateConflict) else (s.setEntry idx sub v, .ok)
  | 0x4100, k => s.slotWrite (k - 1) (BitVec.ofNat 512 n)
  | 0x4200, k => s.poolWrite (k - 1) (BitVec.ofNat 512 n)
  | 0x4310, k => s.farPoolWrite (k - 1) (BitVec.ofNat 256 n)
  | 0x4300, 5 => if n = 1 then s.tierEnable else (s.setEntry idx sub v, .ok)
  | 0x5010, k => (s.setLimit k v, .ok)
  | 0x6200, 4 => s.retireLoad v
  | 0x6300, 2 => s.lifeSaveNow
  | 0x8003, 1 => s.quoteNonce v
  | 0x8010, 1 => s.fwCommand p n
  | 0x8020, 1 => s.pdcBlob v
  | 0x9100, 3 => s.byHand n (Path.code p)
  | _, _ => (s.setEntry idx sub v, .ok)

/-- Does a value lie in the range of its entry (check 6 of R551)? -/
def entryRange (idx sub : Nat) (v : List Byte) : Bool :=
  (decide (8 < v.length) || rangeOk idx sub (leNat v)) && bytesOk idx sub v

/-- A value with segments laid over it, in order (R550). -/
def overlay (v : List Byte) (parts : List (Nat × List Byte)) : List Byte :=
  parts.foldl (fun w (e : Nat × List Byte) =>
    (w ++ List.replicate (e.1 - w.length) 0).take e.1 ++ e.2 ++ w.drop (e.1 + e.2.length)) v

/-- The value that segments give an entry: the bytes that none covers keep what a read would show; a write-only entry has none. -/
def State.newValue (s : State) (idx sub : Nat) (parts : List (Nat × List Byte)) : List Byte :=
  match dictAttr idx sub with
  | some a => overlay (if a.access = 2 then [] else s.dictValue idx sub) parts
  | none => []

end Sys2Proof.Machine
end

