-- ==== Sys2Proof/Machine/Dictionary.lean ====
section
/-! DEFINITION. The dictionary service (R545 to R568, R641, R642): the checks on a request, held segments, transactions, stored
responses, forwarding, the mailboxes (R560 to R562), the field network (R556 to R559), and the device commands as requests (R570). -/

namespace Sys2Proof.Machine

/-! ### Requests and requesters (R549 to R551, R554) -/

/-- Is a command one that names an entry? -/
def cmdEntry (cmd : Nat) : Bool := decide (cmd = 1 ∨ cmd = 2 ∨ cmd = 3 ∨ cmd = 0x11)
/-- Is a command one on a transaction? -/
def cmdTxn (cmd : Nat) : Bool := decide (0x10 ≤ cmd ∧ cmd ≤ 0x13)

/-- Check 2 on the entry that a message names. -/
def msgEntryOk (m : Msg) (a : DAttr) : Bool :=
  if m.cmd = 3 then true
  else
    decide (m.offset + m.len ≤ a.size) &&
    (decide (m.cmd = 1) || decide (8 < a.size) || (decide (m.offset = 0 ∧ m.len = a.size) && m.last))

/-- Check 2. -/
def msgOk (m : Msg) : Bool :=
  (cmdEntry m.cmd || cmdTxn m.cmd || decide (m.cmd = 0x20)) && decide (m.mtype = 0 ∧ m.rsvd = 0 ∧ m.len ≤ 1024) &&
  (decide (m.txn = 0) || decide (0x11 ≤ m.cmd ∧ m.cmd ≤ 0x13)) &&
  (!cmdEntry m.cmd ||
    (match dictAttr m.index m.sub with
     | some a => msgEntryOk m a
     | none => false))

/-- The data of a message, `len` bytes of it. -/
def msgBody (m : Msg) : List Byte := (m.data ++ List.replicate (m.len - m.data.length) 0).take m.len

/-- Does a message write `DEV_CMD`? -/
def msgDevCmd (m : Msg) : Bool := decide (m.cmd = 2 ∧ m.index = 0x2000 ∧ m.sub = 1)

/-- The attributes of the entry that a message names. -/
def msgAttr (m : Msg) : DAttr := (dictAttr m.index m.sub).getD {ty := 0, access := 0, size := 0}

/-- Check 3. -/
def State.roleOk (s : State) (p : Path) (m : Msg) : Bool :=
  let r := s.roleOf p
  let a := (msgAttr m)
  match m.cmd with
  | 1 => decide (a.access ≠ 2)
  | 2 => decide (a.access ≠ 0) && decide (a.role ≤ r) && (!msgDevCmd m || decide (devRole (leNat (msgBody m)) ≤ r))
  | 0x11 => decide (a.access ≠ 0) && decide (max 1 a.role ≤ r)
  | c => !cmdTxn c || decide (1 ≤ r)

/-- The transaction that a message names, where its sender holds it. -/
def State.txnOf (s : State) (p : Path) (n : Nat) : Option Txn :=
  s.mgmt.txns.find? fun t => decide (t.num = n ∧ (pathWho t.path) = (pathWho p))

/-- Check 4 on a command's transaction: held by its sender, and not armed unless it is to be aborted; a new one needs room. -/
def State.txnOk (s : State) (p : Path) (m : Msg) : Bool :=
  if m.cmd = 0x10 then decide (s.mgmt.txns.length < 4)
  else
    match s.txnOf p m.txn with
    | some t => t.armed.isNone || decide (m.cmd = 0x13)
    | none => false

/-- May an entry be staged with these data (R564, R642)? -/
def stageable (m : Msg) : Bool :=
  (msgAttr m).staged m.index m.sub && (decide (m.index ≠ 0x8010 ∨ m.sub ≠ 1) || decide (bits (leNat (msgBody m)) 31 28 = 4))

/-- Check 4. -/
def State.stateOk (s : State) (p : Path) (m : Msg) : Bool :=
  let reset := msgDevCmd m && decide (leNat (msgBody m) = 5)
  let entry := fun (writes : Bool) => s.stateServes m.index m.sub writes reset
  match m.cmd with
  | 1 => entry false
  | 3 => entry false
  | 2 => entry true && s.configRule m.index m.sub && !s.bridgeBarred (msgAttr m)
  | 0x11 => entry true && !s.bridgeBarred (msgAttr m) && s.txnOk p m && stageable m
  | c => !cmdTxn c || (decide (s.dev ≠ .faulted) && s.txnOk p m)

/-- Check 5: has an open transaction of another requester staged the entry? -/
def State.lockedBy (s : State) (p : Path) (key : Nat) : Bool :=
  s.mgmt.txns.any fun t =>
    decide ((pathWho t.path) ≠ (pathWho p)) &&
    (t.writes.any (fun w => decide (w.1 = key)) || s.mgmt.segs.any fun g => decide (g.txn = t.num ∧ g.key = key))

/-- Checks 1 to 5 on a request. -/
def State.reqCheck (s : State) (p : Path) (m : Msg) : Status :=
  if m.mver ≠ 1 then .versionUnsupported
  else if !msgOk m then .reservedNonzero
  else if !s.roleOk p m then .accessDenied
  else if !s.stateOk p m then .stateConflict
  else if (m.cmd = 2 ∨ m.cmd = 0x11) ∧ s.lockedBy p (dictKey m.index m.sub) then .txnConflict
  else .ok

/-! ### Writes (R550, R551, R641) -/

/-- The segments that other requests hold for an entry made stale by a write applied to it. -/
def State.staleSegs (s : State) (key : Nat) : State :=
  { s with mgmt.segs := s.mgmt.segs.map fun g => if g.key = key then { g with stale := true } else g }

/-- A value written to an entry outside a transaction: its range, its effect, and the ranges tied to it. -/
def State.writeValue (s : State) (p : Path) (idx sub : Nat) (parts : List (Nat × List Byte)) : State × Status :=
  let v := s.newValue idx sub parts
  if !entryRange idx sub v then (s, .reservedNonzero)
  else
    let r := s.applyWrite p idx sub v
    if r.2 ≠ .ok then r
    else if !r.1.pairsOk idx sub then (s, .reservedNonzero)
    else ((if idx = 0x2100 then r.1.swapMap sub else r.1).staleSegs (dictKey idx sub), .ok)

/-- Is a held segment list that of a requester, transaction and entry? -/
def Seg.isOf (g : Seg) (p : Path) (txn key : Nat) : Bool := decide (g.path = (pathWho p) ∧ g.txn = txn ∧ g.key = key)

/-- The segments held for a requester, transaction and entry. -/
def State.segOf (s : State) (p : Path) (txn key : Nat) : Seg :=
  (s.mgmt.segs.find? fun g => g.isOf p txn key).getD {path := (pathWho p), txn := txn, key := key, parts := []}

/-- Those segments replaced; none where `g` is none. -/
def State.setSeg (s : State) (p : Path) (txn key : Nat) (g : Option Seg) : State :=
  { s with mgmt.segs := (s.mgmt.segs.filter fun x => !x.isOf p txn key) ++ g.toList }

/-- A WRITE that has passed checks 1 to 5. -/
def State.doWrite (s : State) (p : Path) (m : Msg) : State × Status :=
  let key := dictKey m.index m.sub
  if m.index = 0x8010 ∧ m.sub = 2 then s.fwData p m.offset (msgBody m)
  else if (msgAttr m).size ≤ 8 then s.writeValue p m.index m.sub [(0, (msgBody m))]
  else
    let g := s.segOf p 0 key
    let g := { g with parts := g.parts ++ [(m.offset, (msgBody m))] }
    if !m.last then (s.setSeg p 0 key (some g), .ok)
    else
      let s := s.setSeg p 0 key none
      if g.stale then (s, .txnConflict) else s.writeValue p m.index m.sub g.parts

/-! ### Transactions (R564 to R567) -/

/-- A transaction's record while it is open or armed. -/
def Txn.present (t : Txn) : TxnRec :=
  { txn := t.num, path := Path.code t.path, state := if t.armed.isSome then 2 else 1, status := 0, nWrites := t.writes.length,
    ftAt := t.armed.getD 0, appliedFt := 0, failed := 0 }

/-- A held transaction replaced, its record with it. -/
def State.putTxn (s : State) (t : Txn) : State :=
  { s with mgmt.txns := s.mgmt.txns.map fun (e : Txn) => if e.num = t.num then t else e }.txnRecord t.present

/-- TXN_BEGIN: the transaction's number. -/
def State.txnBegin (s : State) (p : Path) : State × Nat :=
  let n := s.mgmt.nextTxn
  let t : Txn := { num := n, path := p, lastFt := s.ft.toNat }
  ({ s with mgmt.txns := s.mgmt.txns ++ [t], mgmt.nextTxn := if n = 0xFFFF then 1 else n + 1 }.txnRecord t.present, n)

/-- The entries and the bytes that a transaction has staged, those of unfinished segments included. -/
def State.txnLoad (s : State) (t : Txn) : List Nat × Nat :=
  let l := t.writes ++ (s.mgmt.segs.filter fun g => decide (g.txn = t.num)).map fun g => (g.key, g.parts)
  (l.map (·.1), ((l.map fun w => (w.2.map fun e => e.2.length).sum)).sum)

/-- The chapter's checks that a value meets when it is staged; those on the device that the commit changes wait for the commit. -/
def State.stageCheck (s : State) (p : Path) (idx sub : Nat) (parts : List (Nat × List Byte)) : Status :=
  let v := s.newValue idx sub parts
  if !entryRange idx sub v then .reservedNonzero
  else if idx = 0x3002 ∨ idx = 0x4100 ∨ idx = 0x4200 ∨ idx = 0x4310 then (s.applyWrite p idx sub v).2
  else .ok

/-- TXN_STAGE. -/
def State.doStage (s : State) (p : Path) (m : Msg) (t : Txn) : State × Status :=
  let key := dictKey m.index m.sub
  let load := s.txnLoad t
  let t := { t with lastFt := s.ft.toNat }
  if 64 < ((key :: load.1).eraseDups).length ∨ 262144 < load.2 + m.len then (s.putTxn t, .txnConflict)
  else
    let g := s.segOf p t.num key
    let g := { g with parts := g.parts ++ [(m.offset, (msgBody m))] }
    if 8 < (msgAttr m).size ∧ !m.last then ((s.setSeg p t.num key (some g)).putTxn t, .ok)
    else
      let st := s.stageCheck p m.index m.sub g.parts
      let s := s.setSeg p t.num key none
      if st ≠ .ok then (s.putTxn t, st) else (s.putTxn { t with writes := t.writes ++ [(key, g.parts)] }, .ok)

/-- One staged write applied at commit: every check of R551 on the device as it then stands, with the earlier writes applied. -/
def State.commitWrite (s : State) (t : Txn) (w : Nat × List (Nat × List Byte)) : State × Status :=
  let idx := w.1 / 256
  let sub := w.1 % 256
  match dictAttr idx sub with
  | none => (s, .reservedNonzero)
  | some a =>
    let v := s.newValue idx sub w.2
    if s.roleOf t.path < max 1 a.role then (s, .accessDenied)
    else if !(s.stateServes idx sub true false && s.configRule idx sub) || s.bridgeBarred a then (s, .stateConflict)
    else if s.lockedBy t.path w.1 then (s, .txnConflict)
    else if !entryRange idx sub v then (s, .reservedNonzero)
    else s.applyWrite t.path idx sub v

/-- The staged writes applied in order to a trial state; the second part is the first entry that failed. -/
def State.commitTrial (s : State) (t : Txn) : State × Option Nat :=
  let r := t.writes.foldl
    (fun (acc : State × Option Nat) w =>
      match acc.2 with
      | some k => (acc.1, some k)
      | none =>
        let r := acc.1.commitWrite t w
        if r.2 = .ok then (r.1, none) else (acc.1, some w.1))
    (s, none)
  match r.2 with
  | some k => (r.1, some k)
  | none => (r.1, (t.writes.find? fun w => !r.1.pairsOk (w.1 / 256) (w.1 % 256)).map (·.1))

/-- A transaction committed: everything at once or nothing (R565, R422). -/
def State.commit (s : State) (t : Txn) : State × Status :=
  let r := s.commitTrial t
  match r.2 with
  | some k => (s.endTxn t 4 .txnAborted 0 k, .txnAborted)
  | none =>
    let keys := (t.writes.map (·.1)).eraseDups
    let u := (keys.filter fun k => decide (k / 256 = 0x2100)).foldl (fun (u : State) k => u.swapMap (k % 256)) r.1
    let u := keys.foldl (fun (u : State) k => u.staleSegs k) u
    (u.endTxn t 3 .ok s.ft.toNat 0, .ok)

/-- An armed transaction committed at its instant (R46, R565). -/
def State.commitDue (s : State) (t : Txn) : State :=
  match t.armed with
  | some a =>
    if a ≤ s.ft.toNat then
      let r := s.commit t
      r.1.count r.2
    else s
  | none => s

/-- The commits whose instant has come applied, before a request of that control cycle (R552, R565). -/
def State.commitsDue (s : State) : State := s.mgmt.txns.foldl (fun (u : State) t => u.commitDue t) s

/-- TXN_COMMIT. -/
def State.doCommit (s : State) (m : Msg) (t : Txn) : State × Status :=
  if m.ftAt = 0 then s.commit t
  else
    let t := { t with lastFt := s.ft.toNat }
    if !s.ftValid then (s.putTxn t, .stateConflict)
    else if m.ftAt < s.ft.toNat then (s.putTxn t, .deadlineMissed)
    else (s.putTxn { t with armed := some m.ftAt }, .ok)

/-! ### What a request gives -/

/-- DESCRIBE's 16 bytes (R545). -/
def describeBytes (m : Msg) : List Byte :=
  let a := (msgAttr m)
  leBytes 1 a.ty ++
  leBytes 1 (b2n a.persistent + 2 * b2n a.config + 4 * b2n (a.staged m.index m.sub) + 8 * b2n a.bridge) ++
  leBytes 1 a.access ++ leBytes 1 a.role ++ leBytes 4 a.size ++ leBytes 8 (if 8 < a.size then 0 else a.dflt)

/-- DISCOVER's 40 bytes (R557). -/
def State.discoverBytes (s : State) : List Byte :=
  ((List.range 5).map fun i =>
    let v := s.dictValue 0x1000 (i + 1)
    v ++ List.replicate (8 - v.length) 0).flatten

/-- A request executed: the state, the status, the response's data and its transaction number. -/
def State.execute (s : State) (p : Path) (m : Msg) : State × Status × List Byte × Nat :=
  match s.reqCheck p m with
  | .ok =>
    let bare := fun (r : State × Status) => (r.1, r.2, [], m.txn)
    match m.cmd, s.txnOf p m.txn with
    | 1, _ => (s, .ok, ((s.dictValue m.index m.sub).drop m.offset).take m.len, m.txn)
    | 2, _ => bare (s.doWrite p m)
    | 3, _ => (s, .ok, describeBytes m, m.txn)
    | 0x10, _ =>
      let r := s.txnBegin p
      (r.1, .ok, [], r.2)
    | 0x11, some t => bare (s.doStage p m t)
    | 0x12, some t => bare (s.doCommit m t)
    | 0x13, some t => bare (s.endTxn t 4 .txnAborted 0 0, .ok)
    | 0x20, _ => (s, .ok, s.discoverBytes, m.txn)
    | _, _ => (s, .stateConflict, [], m.txn)
  | st => (s, st, [], m.txn)

/-- The response to a message. -/
def msgReply (m : Msg) (st : Status) (data : List Byte) (txn : Nat) : Msg :=
  { m with mver := 1, mtype := 1, rsvd := 0, txn := txn, status := st.code, len := data.length, data := data }

/-! ### Where responses go (R555, R560 to R562) -/

/-- The key of a register or buffer byte of the bridge device's BAR0, beyond the control and status window. -/
def barOff (o : Nat) : Nat := 0x100000000 + o

/-- The MB_STATUS register of a path's mailbox, and its buffers' base. -/
def mailBase : Path → Nat
  | .bridge => barOff 0x2000000
  | _ => 0

/-- A response written into a mailbox: `DONE`, `MB_REQS`, `BUSY` 0, and a release that waited for it. -/
def State.mailReply (s : State) (p : Path) (r : Msg) : State :=
  let o := mailBase p
  let s := { s with mgmt.mail := storeBytes s.mgmt.mail (o + 0x2000) (msgBytes r) }
  let s := ((s.setFlag (o + 0x208) 1).clearFlag (o + 0x208) 0).bump (o + 0x210) 1
  match p with
  | .bridge => { s with fab.msix := s.fab.msix ++ [0] }
  | _ => if s.mgmt.mbRelease then s.releaseClaim else s

/-- Can a response leave on its path? On the field network not while the transmitter is stopped (R558). -/
def State.pathOpen (s : State) (p : Path) : Bool :=
  match p with
  | .field _ => decide (s.mgmt.link ≤ 1)
  | _ => true

/-- A response given on its path, a frame sent where the path is open; one to another chip goes back as a SYNC packet with the request's tag. -/
def State.deliverTo (s : State) (p : Path) (tag : Nat) (r : Msg) : State :=
  let s := { s with mgmt.responses := (p, r) :: s.mgmt.responses }
  match p with
  | .field _ => if s.pathOpen p then s.bump 0x250 1 else s
  | .forwarded _ _ chip _ =>
    s.sendOn { mkPacket .sync chip dictRespAddr (msgBytes r) with src := s.fab.chipNum, tag := tag }
  | _ => s.mailReply p r

/-- A response kept for its requester (R553) and sent. -/
def State.finish (s : State) (p : Path) (tag : Nat) (m r : Msg) : State :=
  { s with
    mgmt.stored := (pathWho p, m.seq, r) :: s.mgmt.stored.filter fun e => e.1 ≠ pathWho p }.deliverTo p tag r

/-- The identity that goes before a forwarded request's message. -/
def pathIdent (role : Nat) : Path → Nat
  | .mailbox c => c + role * 2 ^ 16
  | .bridge => 0x100 + role * 2 ^ 16
  | _ => role * 2 ^ 16

/-- A request served here. -/
def State.serveHere (s : State) (p : Path) (tag : Nat) (m : Msg) : State :=
  let r := s.commitsDue.execute p m
  let t := if msgDevCmd m then { r.1 with devCmdStatus := r.2.1.code } else r.1
  (t.count r.2.1).finish p tag m (msgReply m r.2.1 r.2.2.1 r.2.2.2)

/-- A request for another chip of the group forwarded; without a route it ends at once. -/
def State.serveThere (s : State) (p : Path) (m : Msg) : State :=
  let fail := (s.count .linkRetryExhausted).finish p 0 m (msgReply m .linkRetryExhausted [] m.txn)
  if chipGroup m.chip ≠ chipGroup s.fab.chipNum then fail
  else
    let r := s.request (.dict p m) (mkPacket .sync m.chip dictReqAddr (leBytes 8 (pathIdent (s.roleOf p) p) ++ msgBytes m))
    if r.2 then r.1 else (r.1.count .linkRetryExhausted).finish p 0 m (msgReply m .linkRetryExhausted [] m.txn)

/-- A message that reaches the service (R551, R553, R555, R575): responses and events are discarded, a repeated request is answered from
what is stored. -/
def State.handle (s : State) (p : Path) (tag : Nat) (m : Msg) : State :=
  if !s.dictServed then s
  else
    let s := match p with
      | .field _ => s.bump 0x248 1
      | _ => s
    if m.mtype = 1 ∨ m.mtype = 2 then s.clearFlag (mailBase p + 0x208) 0
    else
      match s.mgmt.stored.find? fun e => decide (e.1 = pathWho p ∧ e.2.1 = m.seq) with
      | some e => s.deliverTo p tag e.2.2
      | none =>
        if m.chip = 0x3FFF ∨ m.chip = s.fab.chipNum then s.serveHere p tag m
        else
          match p with
          | .field _ => (s.count .accessDenied).finish p tag m (msgReply m .accessDenied [] m.txn)
          | .forwarded _ _ _ _ => s.serveHere p tag m
          | _ => s.serveThere p m

/-- A forwarded request that ends without an answer from the other chip. -/
def State.dictLost (s : State) (p : Path) (m : Msg) (st : Status) : State :=
  (s.count st).finish p 0 m (msgReply m st [] m.txn)

/-- A message of a row: one whose command is another row's belongs to that row. A message with a reserved command belongs to any. -/
def State.request1 (s : State) (cmd : Nat) (p : Path) (m : Msg) : State :=
  if m.cmd = cmd ∨ (cmdEntry m.cmd || cmdTxn m.cmd || decide (m.cmd = 0x20)) = false then s.handle p 0 m else s

/-- Does a path name a requester there can be? -/
def pathOk (p : Path) : Bool :=
  match p with
  | .mailbox c => isCore c
  | .bridge => true
  | .field mac => decide (mac < 2 ^ 48)
  | .forwarded _ c chip r => decide (c < 256) && isChip chip && isRole r

/-- WRITE (R550, R551). -/
def execWrite (path : Path) (m : Msg) (s : State) : Host.Outcome State Fault Refusal :=
  ifUnit (pathOk path) "path" (s.request1 2 path m)
/-- READ (R550). -/
def execDictRead (path : Path) (m : Msg) (s : State) : Host.Outcome State Fault Refusal :=
  ifUnit (pathOk path) "path" (s.request1 1 path m)
/-- DESCRIBE (R545). -/
def execDescribe (path : Path) (m : Msg) (s : State) : Host.Outcome State Fault Refusal :=
  ifUnit (pathOk path) "path" (s.request1 3 path m)
/-- DISCOVER (R557). -/
def execDiscover (path : Path) (m : Msg) (s : State) : Host.Outcome State Fault Refusal :=
  ifUnit (pathOk path) "path" (s.request1 0x20 path m)
/-- TXN_BEGIN (R564). -/
def execTxnBegin (path : Path) (m : Msg) (s : State) : Host.Outcome State Fault Refusal :=
  ifUnit (pathOk path) "path" (s.request1 0x10 path m)
/-- TXN_STAGE (R564, R642). -/
def execTxnStage (path : Path) (m : Msg) (s : State) : Host.Outcome State Fault Refusal :=
  ifUnit (pathOk path) "path" (s.request1 0x11 path m)
/-- TXN_COMMIT (R564, R565). -/
def execTxnCommit (path : Path) (m : Msg) (s : State) : Host.Outcome State Fault Refusal :=
  ifUnit (pathOk path) "path" (s.request1 0x12 path m)
/-- TXN_ABORT (R564). -/
def execTxnAbort (path : Path) (m : Msg) (s : State) : Host.Outcome State Fault Refusal :=
  ifUnit (pathOk path) "path" (s.request1 0x13 path m)

/-- SCHEDULED_COMMIT (R565, R46): an armed transaction whose instant has come. -/
def execScheduledCommit (txn : Nat) (s : State) : Host.Outcome State Fault Refusal :=
  .next
    (match s.mgmt.txns.find? fun t => decide (t.num = txn) with
     | some t => s.commitDue t
     | none => s)

/-- TXN_IDLE_TIMEOUT (R566). -/
def execTxnIdleTimeout (txn : Nat) (s : State) : Host.Outcome State Fault Refusal :=
  .next
    (match s.mgmt.txns.find? fun t => decide (t.num = txn) with
     | some t =>
       if t.armed.isNone ∧ t.lastFt + s.dictNat 0x2020 1 * 1000000 ≤ s.ft.toNat then
         (s.endTxn t 4 .txnAborted 0 0).count .txnAborted
       else s
     | none => s)

/-! ### Device commands (R570) -/

/-- A device command of a requester on a path: as a WRITE of `DEV_CMD`. -/
def State.devRequest (s : State) (p : Path) (code : Nat) : State :=
  if !s.dictServed then s
  else
    let s := s.commitsDue
    let st : Status :=
      if s.roleOf p < devRole code then .accessDenied
      else if !s.stateServes 0x2000 1 true (decide (code = 5)) then .stateConflict
      else if s.lockedBy p (dictKey 0x2000 1) then .txnConflict
      else .ok
    if st = .ok then
      let r := s.devCommand code
      r.1.count r.2
    else ({ s with devCmdStatus := st.code }.devChanged s.devWord).count st

/-- GO_READY. -/
def execGoReady (path : Path) (s : State) : Host.Outcome State Fault Refusal := ifUnit (pathOk path) "path" (s.devRequest path 1)
/-- START. -/
def execStart (path : Path) (s : State) : Host.Outcome State Fault Refusal := ifUnit (pathOk path) "path" (s.devRequest path 2)
/-- DRAIN. -/
def execDrain (path : Path) (s : State) : Host.Outcome State Fault Refusal := ifUnit (pathOk path) "path" (s.devRequest path 3)
/-- DRAIN_COMPLETE (R571). -/
def execDrainComplete (s : State) : Host.Outcome State Fault Refusal := .next s.drainEnd
/-- RECONFIG. -/
def execReconfig (path : Path) (s : State) : Host.Outcome State Fault Refusal := ifUnit (pathOk path) "path" (s.devRequest path 4)
/-- RESET. -/
def execResetCmd (path : Path) (s : State) : Host.Outcome State Fault Refusal := ifUnit (pathOk path) "path" (s.devRequest path 5)
/-- RESET_DELAY_EXPIRY (R570). -/
def execResetDelayExpiry (s : State) : Host.Outcome State Fault Refusal := .next s.resetExpiry

/-! ### Mailbox (R560, R561) -/

/-- A write of `MB_CLAIM` by a core's control processor. -/
def State.mailClaim (s : State) (core v : Nat) : State :=
  if v = 0xFF then (if s.mbClaim = core then s.releaseClaim else s)
  else if Config.cores ≤ v then s.refusedWrite
  else if s.mbClaim = 0xFF then (s.setReg 0x200 (BitVec.ofNat 64 (v + 1))).clearFlag 0x208 1
  else s

/-- A write of 1 to `GO` by a core: the request in the buffer. -/
def State.mailGo (s : State) (core : Nat) : State :=
  if s.mbClaim ≠ core ∨ s.flag 0x208 0 then s
  else (s.setFlag 0x208 0).handle (.mailbox core) 0 (msgOf (loadBytes s.mgmt.mail 0x1000 4096))

/-- MB_CLAIM (R560). -/
def execMbClaim (core : Nat) (s : State) : Host.Outcome State Fault Refusal :=
  ifUnit (isCore core) "core" (s.byCp core (s.mailClaim core core))
/-- MB_CLAIM_RELEASE (R561). -/
def execMbClaimRelease (core : Nat) (s : State) : Host.Outcome State Fault Refusal :=
  ifUnit (isCore core) "core" (s.byCp core (s.mailClaim core 0xFF))
/-- GO (R560). -/
def execGo (core : Nat) (s : State) : Host.Outcome State Fault Refusal :=
  ifUnit (isCore core) "core" (s.byCp core (s.mailGo core))
/-- MB_RELEASE (R561): by an ADMIN, through the bridge or the field network. -/
def execMbRelease (path : Path) (s : State) : Host.Outcome State Fault Refusal :=
  ifUnit (pathOk path) "path" (s.asAdmin path fun t => if t.stateServes 0x2010 7 true false then t.mailRelease path else (t, .stateConflict))

/-! ### Field network (R557 to R559) -/

/-- PAIR_SHORT (R558): three successive transmissions not seen. -/
def execPairShort (s : State) : Host.Outcome State Fault Refusal :=
  .next (if s.dictServed then
    { s.bumpSeen 0x268 0x240 4 with mgmt.link := 2, mgmt.shortNext := some (s.ft.toNat + 1000000000) } else s)

/-- SHORT_RETRY (R558): every second; `seen` says whether the transmission was seen on the receiver. -/
def execShortRetry (seen : Bool) (s : State) : Host.Outcome State Fault Refusal :=
  .next
    (match s.mgmt.shortNext with
     | some t =>
       if s.mgmt.link = 2 ∧ t ≤ s.ft.toNat then
         if seen then { s with mgmt.link := 0, mgmt.shortNext := none }
         else { s with mgmt.shortNext := some (s.ft.toNat + 1000000000) }
       else s
     | none => s)

/-- NO_BEACON (R558): no PLCA beacon for 4 ms. -/
def execNoBeacon (s : State) : Host.Outcome State Fault Refusal :=
  .next (if s.dictServed && decide (s.mgmt.link = 0) then { s.bumpSeen 0x270 0x240 3 with mgmt.link := 1 } else s)

/-- BEACON_RESUME (R558). -/
def execBeaconResume (s : State) : Host.Outcome State Fault Refusal :=
  .next (if s.mgmt.link = 1 then { s with mgmt.link := 0 } else s)

/-- ID_CONFLICT (R558): 16 successive collisions in the device's own transmit opportunity. -/
def execIdConflict (s : State) : Host.Outcome State Fault Refusal :=
  .next (if s.dictServed && decide (s.mgmt.link ≠ 2) then { s with mgmt.link := 3 } else s)

/-- STATE_EVENT (R559): the event whose millisecond has passed. -/
def execStateEvent (s : State) : Host.Outcome State Fault Refusal :=
  .next
    (match s.mgmt.eventDue with
     | some t => if t ≤ s.ft.toNat ∧ s.mgmt.link ≤ 1 then s.sendEvent else s
     | none => s)

/-- BAD_FRAME (R557): a frame with a bad FCS, another EtherType, or a `len` that disagrees with it. -/
def execBadFrame (s : State) : Host.Outcome State Fault Refusal :=
  .next (if s.dictServed then s.bumpSeen 0x258 0x240 2 else s)

end Sys2Proof.Machine
end

