-- ==== Sys2Proof/Machine/Registers.lean ====
section
/-! DEFINITION. The control and status window (R57): every register's size and bits (the register tables of the chapters), what a read
returns, and what a write does (R13, R365, R366, R374, R639). -/

namespace Sys2Proof.Machine

/-! ### The register tables -/

/-- A register: its size in bytes, the masks of its RW and W1C bits and of its reserved bits; a WO or RO bit is in none of them. -/
structure RegSpec where
  size : Nat
  rw : Nat := 0
  w1c : Nat := 0
  rsvd : Nat := 0
  deriving DecidableEq, Repr, Inhabited

/-- A 64-bit register that only reads. -/
def r64 (rsvd : Nat := 0) : RegSpec := { size := 8, rsvd := rsvd }
/-- A 64-bit RW register. -/
def rw64 : RegSpec := { size := 8, rw := 2 ^ 64 - 1 }
/-- A 32-bit register, its reserved bits given as the complement of the bits it has. -/
def r32 (used : Nat) (rw : Nat := 0) (w1c : Nat := 0) : RegSpec := { size := 4, rw := rw, w1c := w1c, rsvd := 2 ^ 32 - 1 - used }
/-- `n` registers from an offset, a step apart. -/
def regRun (o n step : Nat) (r : RegSpec) : List (Nat × RegSpec) := (List.range n).map fun i => (o + i * step, r)

/-- The chip's registers below offset 0x1_0000 (R48, R542, R562, R627, R629, R388). -/
def chipRegs : List (Nat × RegSpec) :=
  [(0x100, r64), (0x108, r32 0xFFFF0007 0 4), (0x180, r32 0xFFFF070F), (0x200, r32 0xFF), (0x204, r32 1), (0x208, r32 3 0 2),
    (0x210, r64), (0x240, r32 0xF003E 0 0x1E), (0x400, r32 0x3FF83 0 3), (0x408, r64), (0x410, r64)] ++
  regRun 0x248 7 8 r64 ++ regRun 0x600 80 8 r64

/-- The synchronisation, power, admission, fabric and wear registers of the chip (R388, R542, R307, R359, R460, R490). -/
def chipRegs2 : List (Nat × RegSpec) :=
  [(0x3000, r32 0xF000FFFF), (0x3004, r32 0x8000003F 0 0x3F), (0x3038, r64 0x7FFFFFFF)] ++ regRun 0x3008 6 8 r64 ++
  [(0x4000, r32 0xFF9F 0 0x1F), (0x4004, r32 0xFFFF), (0x4008, r32 0xFFFF)] ++ regRun 0x4010 6 4 (r32 0xFFFF) ++
  regRun 0x4030 11 8 r64 ++ regRun 0x4100 6 8 r64 ++
  [(0xB000, r32 0x7F 0 0x3E), (0xB004, r32 1), (0xB008, r32 0xFF 0xFF), (0xB00C, r32 0xFF), (0xB070, r64 0xFFFFFFF),
    (0xB078, r64 0xFFFFC00000000000), (0xB080, r64)] ++ regRun 0xB010 12 8 r64 ++ regRun 0xB100 64 8 r64 ++
  [(0xC000, r32 1 0 1), (0xC008, r64), (0xC010, r64 0xFFFFFF), (0xC018, r64), (0xC020, r32 0xFFF), (0xC028, r64)] ++
  regRun 0xC040 14 4 (r32 0x3FFF) ++
  [(0xE000, r32 0xF0FF7), (0xE004, r32 7 0 7), (0xE040, r32 0xFFFF), (0xE048, r64), (0xE050, r64)] ++ regRun 0xE008 7 8 r64 ++
  [(0xF000, r32 0x7E 0 0xE), (0xF008, r64), (0xF010, r64)]

/-- A stack's registers (R263). -/
def stackRegs : List (Nat × RegSpec) :=
  [(0x00, r32 0xFF 0 0xE), (0x04, r32 0xFFFF), (0x30, r64 0xFFFFFF0000000000), (0x58, { size := 4 })] ++
  regRun 0x08 5 8 r64 ++ regRun 0x38 4 8 r64

/-- A port's registers (R459). -/
def portRegs : List (Nat × RegSpec) :=
  [(0x00, r32 0xFFFFFFFF 0 0xF), (0x04, r32 7), (0x08, r32 0x3FFF00FF), (0x0C, r32 0xFFFFFF)] ++ regRun 0x10 12 8 r64

/-- The registers of a core's control block (R357, R358, R384, R122, R172, R226, R262, R425, R541). -/
def coreRegs : List (Nat × RegSpec) :=
  [(0x1000, r32 0xF00FFFFF), (0x1004, r32 0x8001FFFF 0 0x10000), (0x1008, rw64), (0x1010, r64 0xFFF0000000000000),
    (0x1018, r32 0xFFFFF 0xFFFFF), (0x1020, { size := 4 }), (0x1024, { size := 4 }), (0x1028, { size := 4 }), (0x102C, r32 0x3F),
    (0x1030, r64 0xFFFF), (0x1038, r64), (0x1040, r64)] ++
  [(0x2000, r32 0xF 0 0xE), (0x2020, r32 0x3F), (0x2040, r64 0xFFFFFFF), (0x2048, r64 0xFFFFFFFF00000000)] ++
  regRun 0x2008 3 8 r64 ++ regRun 0x2028 3 8 r64 ++
  [(0x2100, r32 0xF 0 0xE), (0x2120, r32 0x3F), (0x2140, r64 0xFFFFFFF), (0x2148, r64 0xFFFFFFFF00000000)] ++
  regRun 0x2108 3 8 r64 ++ regRun 0x2128 3 8 r64 ++
  [(0x3000, r64 0x1FFF000000000000), (0x3008, { size := 4, rw := 2 ^ 32 - 1 }), (0x3010, r64 0xFFFF00000000),
    (0x3018, r32 0x1FFFF 0 0x10000), (0x3020, r64), (0x3028, r64)] ++
  [(0x4000, r32 0xFFF 0 0xE), (0x4004, r32 1), (0x4038, r64 0xFFFFFFF), (0x4040, r64)] ++ regRun 0x4008 6 8 r64 ++
  regRun 0x4080 4 8 r64 ++ regRun 0x40A0 4 4 (r32 0x800FFFFF) ++
  [(0x5000, r32 0xFFFF 0 0xE), (0x5004, r32 1), (0x5040, r64 0xFFFFFFF), (0x5048, r64)] ++ regRun 0x5008 7 8 r64 ++
  regRun 0x5080 8 4 { size := 4 } ++
  [(0x6000, r32 0x1F 0 0x1C), (0x6004, r32 1), (0x6058, r64 0xFFFFFFF), (0x6060, r64), (0x6068, r64 0xFFFFFFFFFFE00000)] ++
  regRun 0x6008 10 8 r64 ++
  [(0x7000, r32 0x1F 0 0x1B), (0x7018, r64 0xFFFFFFFFFF000000), (0x7080, rw64), (0x7088, rw64), (0x7090, r32 3), (0x7100, rw64),
    (0x7108, rw64), (0x7110, rw64), (0x7118, r32 0x1F), (0x7120, r64), (0x7128, r32 0xFFFF)] ++
  regRun 0x7008 2 8 r64 ++ regRun 0x7020 7 8 r64 ++
  [(0x8000, r32 0x7F 0 0x3E), (0x8060, r64 0xFFFFFFF), (0x8068, r64)] ++ regRun 0x8008 11 8 r64 ++
  [(0x9000, r32 0x3FF)] ++ regRun 0x9008 5 8 r64

/-- A media engine's registers (R519). -/
def mediaRegs : List (Nat × RegSpec) :=
  [(0x00, r32 0x7F 0 0x7C), (0x04, r32 1), (0x08, r32 0xFF 0xFF), (0x0C, r32 0xFF), (0x10, r32 0x3F3F), (0x60, r64 0xC0FFFFFF00), (0x68, r64), (0x70, r64)] ++ regRun 0x18 9 8 r64

/-- A shard code engine's registers (R489). -/
def shardRegs : List (Nat × RegSpec) :=
  [(0x00, r32 0xF 0 0xC), (0x08, r64 0xFFFFFF000000003F), (0x10, r32 0xFFFF), (0x38, r64 0xFFFFFFFFFFFF), (0x40, r64)] ++
  regRun 0x18 4 8 r64

/-- The register at a window offset. -/
def regSpec (o : Nat) : Option RegSpec :=
  if o < 0x10000 then
    if 0xA000 ≤ o ∧ o < 0xA800 then stackRegs.lookup (o % 0x100)
    else if 0xD000 ≤ o ∧ o < 0xDE00 then portRegs.lookup (o % 0x100)
    else if o < 0x1000 then chipRegs.lookup o else chipRegs2.lookup o
  else if 0x10000000 ≤ o ∧ o < 0x10900000 then coreRegs.lookup (o % 0x10000)
  else if 0x20000000 ≤ o ∧ o < 0x22000000 then mediaRegs.lookup (o % 0x1000000)
  else if 0x30000000 ≤ o ∧ o < 0x31000000 then shardRegs.lookup (o % 0x800000)
  else none

/-! ### Reads -/

/-- The code of a link state (R459). -/
def linkCode : LinkState → Nat
  | .down => 0 | .training => 1 | .active => 2 | .retrain => 3 | .fenced => 4 | .disabled => 5

/-- A number placed from bit `lo` up. -/
def at_ (lo n : Nat) : Nat := n * 2 ^ lo

/-- `PIN_STATUS` (R627) but for its W1C bits. -/
def State.pinWord (s : State) : Nat :=
  at_ 17 (b2n s.pins.clkReset) + at_ 16 (b2n s.pins.railReset) + at_ 12 s.pins.railLast + at_ 10 s.boot.mode +
  at_ 9 (b2n !s.fab.perst) + at_ 8 (b2n (s.pins.thermN && !s.drivesTherm)) + at_ 7 (b2n s.pins.alertN)

/-- `PM_STATUS` (R542) but for its W1C bits. -/
def State.powerWord (s : State) : Nat :=
  at_ 12 (([0, 1, 2, 3].map fun d => if s.gauze d then 2 ^ d else 0).sum) + at_ 11 (b2n s.pwr.thermIn) +
  at_ 10 (b2n s.pwr.thermOut) + at_ 9 (b2n s.pwr.tripped) + at_ 8 (b2n s.pwr.regFault) + at_ 7 (b2n s.hostCapped)

/-- `FAB_STATUS` (R460). -/
def State.fabWord (s : State) : Nat :=
  b2n (chipMember s.fab.chipNum = 0) + at_ 1 (b2n s.fab.pcieUp) + at_ 2 (b2n s.fab.busMaster) + at_ 4 s.fab.pcieWidth +
  at_ 8 s.fab.pcieRate + at_ 16 (s.timeParent.getD 0)

/-- `TP_FREE` (R307): what of the tier pool beyond the metadata area no frame holds. -/
def State.tierFree (s : State) : Nat :=
  if s.tierOn then
    s.tpSize - s.metaSize - ((s.tier.frames.filter fun f => decide (f.pool = none)).map fun f => 2 ^ f.log2).sum
  else 0

/-- A chip register that the device computes, or the part of one beside its W1C bits. -/
def State.chipLive (s : State) (o : Nat) : Option Nat :=
  match o with
  | 0x100 => some s.ft.toNat
  | 0x180 => some s.devWord
  | 0x200 => some s.mbClaim
  | 0x240 => some (at_ 16 s.mgmt.link + at_ 5 (b2n Config.pairReversed))
  | 0x400 => some s.pinWord
  | 0x4000 => some s.powerWord
  | 0x4004 => some (s.pwr.vcoreMv10 / 10)
  | 0x4030 => some s.pwr.reserve
  | 0xB000 => some (b2n s.tierOn + at_ 6 (b2n s.tier.run.isSome))
  | 0xB080 => some s.tierFree
  | 0xC020 => some s.memSlots
  | 0xC028 => some (([0, 1, 2, 3].map fun d => at_ (16 * d) (s.guarQueues.filter fun e => decide (s.dieOf e.2.core = d)).length).sum)
  | 0xE000 => some s.fabWord
  | 0xF000 => some (at_ 4 (b2n s.wear.degraded) + at_ 5 (b2n s.wear.unfit) + at_ 6 (b2n s.wear.recordLost))
  | _ => if 0xC040 ≤ o ∧ o < 0xC078 then some (s.portSlots ((o - 0xC040) / 4) + at_ 7 (s.portLimit ((o - 0xC040) / 4))) else none

/-- As `chipLive`, for a port (R459). -/
def State.portLive (s : State) (p o : Nat) : Option Nat :=
  let P := s.port p
  match o with
  | 0x00 => some (at_ 16 P.lastStatus + at_ 12 (linkCode P.link) + at_ 8 P.width + at_ 5 P.version + at_ 4 (b2n P.reversed))
  | 0x04 => some (b2n (P.disabled || P.disabling))
  | 0x08 => some (at_ 16 P.peerChip + P.peerPort)
  | 0x0C => some (at_ 16 P.retired + at_ 8 P.inverted + P.active)
  | _ => none

/-- The entry of the queue that `Q_SEL` names: from the cache, or from the table (R357). -/
def State.selEntry (s : State) (core : Nat) : BitVec 512 :=
  let q := bits (s.reg (coreOff core 0x1018)).toNat 19 0
  if (s.queue q).enabled then (s.queue q).entry else BitVec.ofNat 512 (leNat (s.near (s.queueAddr q) 64))

/-- The descriptors in flight on a fetch engine. -/
def State.inFlight (s : State) (core fe : Nat) : Nat := (s.qs.descs.filter fun d => decide (d.core = core ∧ d.fe = fe)).length

/-- The status registers of a core's engines beside their W1C bits (R122, R172, R226, R262, R358, R425, R541). -/
def State.coreStatus (s : State) (core o : Nat) : Option Nat :=
  let C := s.core core
  match o with
  | 0x2000 => some (b2n (decide (s.inFlight core 0 ≠ 0)))
  | 0x2020 => some (s.inFlight core 0)
  | 0x2100 => some (b2n (decide (s.inFlight core 1 ≠ 0)))
  | 0x2120 => some (s.inFlight core 1)
  | 0x4000 =>
    some (at_ 8 (([0, 1, 2, 3].map fun t => if (s.acc core t).empty then 0 else 2 ^ t).sum) +
      at_ 7 (b2n (decide (4 ≤ (s.ftqOf core).length))) + at_ 4 (s.ftqOf core).length)
  | 0x5000 =>
    some (at_ 12 (([0, 1, 2, 3].map fun b => if tagVersion (s.buf core b).tag = 1 then 2 ^ b else 0).sum) + b2n C.vec.isSome)
  | 0x6000 => some (at_ 1 (b2n C.yieldPending) + b2n C.walk.isSome)
  | 0x7000 => some (at_ 2 (b2n (s.mem.wbWaits.any fun w => decide (w.core = core) && w.maint)))
  | 0x8000 => some (at_ 6 (b2n C.optWait.isSome) + b2n (C.chain.isSome || C.optWait.isSome))
  | 0x9000 =>
    some (at_ 9 (b2n (s.gauze (s.dieOf core))) +
      at_ 8 (b2n (s.qs.queues.any fun e => decide (e.2.core = core) && s.lacksTokens e)) +
      at_ 4 (min (Store.get 0 s.pwr.capStep (s.dieOf core)) s.maxStep) + Store.get 0 s.pwr.clk core)
  | 0x9010 => some (unsigned 64 (s.balance core))
  | _ => none

/-- As `chipLive`, for a core's control block. -/
def State.coreLive (s : State) (core o : Nat) : Option Nat :=
  let x := s.selEntry core
  match o with
  | 0x1020 => some (fld x 255 224)
  | 0x1024 => some (fld x 223 192)
  | 0x1028 => some (fld x 191 160)
  | 0x102C => some (fld x 507 506 + at_ 2 (fld x 449 446))
  | 0x1030 => some (at_ 48 (fld x 159 144) + at_ 16 (fld x 143 112))
  | _ =>
    if 0x4080 ≤ o ∧ o < 0x40A0 then some (s.acc core ((o - 0x4080) / 8)).key.toNat
    else if 0x40A0 ≤ o ∧ o < 0x40B0 then
      some (match (s.acc core ((o - 0x40A0) / 4)).owner with
        | some q => at_ 31 1 + q
        | none => 0)
    else if 0x5080 ≤ o ∧ o < 0x50A0 then
      let b := s.bank core ((o - 0x5080) / 4) 0
      some (if b.empty then 0 else hdId b.head)
    else s.coreStatus core o

/-- What the device computes of a register. -/
def State.regLive (s : State) (o : Nat) : Option Nat :=
  if o < 0x10000 then
    if 0xD000 ≤ o ∧ o < 0xDE00 then s.portLive ((o - 0xD000) / 0x100) (o % 0x100) else s.chipLive o
  else if 0x10000000 ≤ o ∧ o < 0x10900000 then s.coreLive ((o - 0x10000000) / 0x10000) (o % 0x10000)
  else if 0x20000000 ≤ o ∧ o < 0x22000000 then
    if o % 0x1000000 = 0 then
      let M := s.mx ((o - 0x20000000) / 0x1000000)
      some (b2n (decide (M.wait ≠ .none)) + at_ 1 (b2n (decide (M.wait ≠ .none))))
    else none
  else if 0x30000000 ≤ o ∧ o < 0x31000000 then
    if o % 0x800000 = 0 then
      let e := (o - 0x30000000) / 0x800000
      some (b2n (s.scBusy e) + at_ 1 (b2n (decide ((s.scEng e).stage = .waiting ∧ scOp (s.scEng e).cmd = 0))))
    else none
  else none

/-- A register as it reads; one that the device computes keeps its W1C bits in the store. -/
def State.regRead (s : State) (o : Nat) : Nat :=
  match regSpec o, s.regLive o with
  | none, _ => 0
  | some r, some v => v ||| ((s.reg o).toNat &&& r.w1c)
  | some _, none => (s.reg o).toNat

/-- The register that holds a byte of the window: its offset and what it is. -/
def regAt (o : Nat) : Option (Nat × RegSpec) :=
  match regSpec (o / 4 * 4), regSpec (o / 8 * 8) with
  | some r, _ => some (o / 4 * 4, r)
  | none, some r => if r.size = 8 then some (o / 8 * 8, r) else none
  | none, none => none

/-- A byte of a register; elsewhere zero, as reserved bits read. -/
def State.regByte (s : State) (o : Nat) : Byte :=
  match regAt o with
  | some r => BitVec.ofNat 8 (s.regRead r.1 / 2 ^ (8 * (o - r.1)))
  | none => 0

/-- `n` bytes of the window. -/
def State.winRead (s : State) (o n : Nat) : List Byte :=
  if 0x1000 ≤ o ∧ o < 0x3000 then loadBytes s.mgmt.mail o n
  else if 0x8000 ≤ o ∧ o < 0x8800 then ((leBytes 64 (Store.get 0 s.tier.slots ((o - 0x8000) / 64)).toNat).drop (o % 64)).take n
  else if 0x9000 ≤ o ∧ o < 0x9200 then ((leBytes 64 (s.poolEntry ((o - 0x9000) / 64)).toNat).drop (o % 64)).take n
  else if 0xB400 ≤ o ∧ o < 0xB600 then ((leBytes 32 (s.farPoolOut ((o - 0xB400) / 32)).toNat).drop (o % 32)).take n
  else if 0x1000000 ≤ o ∧ o < 0x1100000 then ((leBytes 16 (s.semObj ((o - 0x1000000) / 16)).toNat).drop (o % 16)).take n
  else if 0x2000000 ≤ o ∧ o < 0x2040000 then ((leBytes 64 ((s.bar ((o - 0x2000000) / 64)).obj).toNat).drop (o % 64)).take n
  else (List.range n).map fun i => s.regByte (o + i)

/-- The 4-byte words of the window that [o, o + n) touches, by offset. -/
def winWords (o n : Nat) : List Nat :=
  if n = 0 then [] else (List.range ((o + n - 1) / 4 + 1 - o / 4)).map fun i => (o / 4 + i) * 4

/-- Is every byte of [o, o + n) of the window mapped? -/
def State.winMapped (s : State) (o n : Nat) : Bool :=
  (winWords o n).all fun w =>
    match s.region (0x200000000000 + w) with
    | .window _ => true
    | _ => false

/-- Any bytes of the window, by its words. -/
def State.winBytes (s : State) (o n : Nat) : List Byte := (((winWords o n).map fun w => s.winRead w 4).flatten.drop (o % 4)).take n

/-! ### Writes -/

/-- The indication of a refused write to a core's register, beside the status counter (R639). -/
def State.coreRefused (s : State) (core o : Nat) : State :=
  match o with
  | 0x1000 => s.setReg (coreOff core 0x1004) (BitVec.ofNat 64 (setBits (s.reg (coreOff core 0x1004)).toNat 15 0 0x0102))
  | 0x1010 => s.bumpSeen (coreOff core 0x1038) (coreOff core 0x1004) 16
  | 0x3000 => (s.setSwLast core .reservedNonzero).bumpSeen (coreOff core 0x3020) (coreOff core 0x3018) 16
  | 0x7090 => s.setFlag (coreOff core 0x7000) 4
  | 0x7118 => (s.setReg (coreOff core 0x7128) 0x0102).setReg (coreOff core 0x7120) 0
  | _ => s

/-- A register write that R639 refuses: counted, with the register's own indication. -/
def State.regRefused (s : State) (o : Nat) : State :=
  let s := s.refusedWrite
  if o = 0x3000 then s.faultRec 0x3004 5 [(0x3038, BitVec.ofNat 64 (0x0102 * 2 ^ 48))]
  else if 0x10000000 ≤ o ∧ o < 0x10900000 then s.coreRefused ((o - 0x10000000) / 0x10000) (o % 0x10000)
  else if 0x20000000 ≤ o ∧ o < 0x22000000 ∧ o % 0x1000000 = 0x10 then s.bumpSeen (o + 0x60) (o - 0x10) 6
  else if 0x30000000 ≤ o ∧ o < 0x31000000 ∧ o % 0x800000 = 8 then s.setReg (o + 8) 0x0102
  else s

/-- A write of `SYNC_CMD` (R388, R390). -/
def State.syncCommand (s : State) (v : Nat) : State :=
  if bits v 31 28 = 1 then s.poisonOwned fun _ c => decide (c = bits v 15 0) else s.regRefused 0x3000

/-- A write of a core's command register, its reserved bits clear; none where the register commands nothing. -/
def State.coreCommand (s : State) (core o v : Nat) : Option State :=
  match o with
  | 0x1000 =>
    if bits v 31 28 < 8 then
      let f := s.freeWord
      some (f.2.queueCommand core (bits v 31 28) (bits v 19 0) (decide (f.1.toNat % 2 = 0)))
    else some (s.regRefused (coreOff core o))
  | 0x1010 => some (s.doorbell core (BitVec.ofNat 64 v))
  | 0x3000 => some (s.swCommand core (BitVec.ofNat 64 v))
  | 0x4004 => some (if v = 1 then s.flushFtq core else s)
  | 0x5004 => some (if v = 1 then s.clearBufs core else s)
  | 0x6004 => some (if v = 1 then s.askYield core else s)
  | 0x7090 => some (if v = 0 then s.regRefused (coreOff core o) else s.maint core (bitAt v 0) (bitAt v 1))
  | 0x7118 => some (if v ≤ 0x10 then s.amoCmd core v else s.regRefused (coreOff core o))
  | _ => none

/-- A write of a register of the chip, a port, a media engine or a shard code engine that commands something. -/
def State.chipCommand (s : State) (who : Option Nat) (o v : Nat) : Option State :=
  if o = 0x200 then some (s.mailClaim (who.getD 0x100) v)
  else if o = 0x204 then some (if v = 1 then s.mailGo (who.getD 0x100) else s)
  else if o = 0x3000 then some (s.syncCommand v)
  else if o = 0xB004 then some (if v = 1 then s.hwmClear else s)
  else if 0xD000 ≤ o ∧ o < 0xDE00 ∧ o % 0x100 = 4 then some (s.portCtrl ((o - 0xD000) / 0x100) v)
  else if 0x20000000 ≤ o ∧ o < 0x22000000 ∧ o % 0x1000000 = 4 then
    some (if v = 1 then s.mxAbort ((o - 0x20000000) / 0x1000000) else s)
  else if 0x20000000 ≤ o ∧ o < 0x22000000 ∧ o % 0x1000000 = 0x10 then
    some (s.mxRelease ((o - 0x20000000) / 0x1000000) (BitVec.ofNat 32 v))
  else if 0x30000000 ≤ o ∧ o < 0x31000000 ∧ o % 0x800000 = 8 then some (s.scCmd ((o - 0x30000000) / 0x800000) (BitVec.ofNat 64 v))
  else none

/-- A write of a whole register: refused as a whole, a command, or its RW bits replaced and its W1C bits cleared (R639). -/
def State.regWrite (s : State) (who : Option Nat) (o v : Nat) : State :=
  match regSpec o with
  | none => s
  | some r =>
    if v &&& r.rsvd ≠ 0 then s.regRefused o
    else
      let cmd := if 0x10000000 ≤ o ∧ o < 0x10900000 then s.coreCommand ((o - 0x10000000) / 0x10000) (o % 0x10000) v
        else s.chipCommand who o v
      match cmd with
      | some t => t
      | none =>
        let old := (s.reg o).toNat
        let keep := old - (old &&& r.rw) - (old &&& r.w1c &&& v)
        s.setReg o (BitVec.ofNat 64 (keep ||| (v &&& r.rw)))

/-- A write of one half of the 64-bit register `h` at `b`, from bit `lo` up (R639): refused where it sets a reserved bit; a register with
RW bits takes it, and a command register needs a write of 8 bytes (the model's reading). -/
def State.regHalf (s : State) (h : RegSpec) (b lo v : Nat) : State :=
  if (v * 2 ^ lo) &&& h.rsvd ≠ 0 then s.regRefused b
  else if h.rw = 0 then s
  else s.setReg b (BitVec.ofNat 64 (setBits (s.reg b).toNat (lo + 31) lo v))

/-- A write of 4 bytes: a 32-bit register, or one half of a 64-bit register. -/
def State.regWrite4 (s : State) (who : Option Nat) (o v : Nat) : State :=
  match regSpec o, regSpec (o / 8 * 8) with
  | some r, some h => if r.size = 4 then s.regWrite who o v else s.regHalf h (o / 8 * 8) (o % 8 * 8) v
  | some _, none => s.regWrite who o v
  | none, some h => if h.size = 4 then s else s.regHalf h (o / 8 * 8) 32 v
  | none, none => s

/-- A write to a semaphore or barrier object: only words of 8 bytes (R365, R366, R374). -/
def State.objWrite (s : State) (o : Nat) (bytes : List Byte) : State × Status :=
  let v : W64 := BitVec.ofNat 64 (leNat bytes)
  if bytes.length ≠ 8 then (s, .reservedNonzero)
  else if o < 0x2000000 then
    let i := (o - 0x1000000) / 16
    if o % 16 = 0 then s.semWord i v else s.writeSemCfg i v
  else
    let b := (o - 0x2000000) / 64
    if o % 64 = 0 then s.barWord b v
    else if 0x20 ≤ o % 64 then s.writeBarCfg b ((o % 64 - 0x20) / 8) v
    else (s, .ok)

/-- The kind and the index of the object at a window offset. -/
def objIx (o : Nat) : Nat × Nat := if o < 0x2000000 then (0, (o - 0x1000000) / 16) else (1, (o - 0x2000000) / 64)

/-- Is a window offset one of a synchronisation object? -/
def isObj (o : Nat) : Bool := decide (0x1000000 ≤ o ∧ o < 0x1100000) || decide (0x2000000 ≤ o ∧ o < 0x2040000)

/-- A write of 4 or 8 aligned bytes to the window, by a core's control processor or by another writer; the status is that of an
operation word. A read-only copy of an entry ignores it. -/
def State.winWrite (s : State) (who : Option Nat) (o : Nat) (bytes : List Byte) : State × Status :=
  let v := leNat bytes
  if isObj o then
    let r := s.objWrite o bytes
    match who with
    | some c => (State.wordDone r c (objIx o).1 (objIx o).2, r.2)
    | none => (if r.2 = .ok then r.1 else r.1.syncRec r.2 (objIx o).1 (objIx o).2, r.2)
  else if 0x1000 ≤ o ∧ o < 0x2000 then ({ s with mgmt.mail := storeBytes s.mgmt.mail o bytes }, .ok)
  else if 0x2000 ≤ o ∧ o < 0x3000 then (s, .ok)
  else if bytes.length = 8 then
    match regSpec o with
    | some r =>
      if r.size = 8 then (s.regWrite who o v, .ok)
      else ((s.regWrite4 who o (v % 2 ^ 32)).regWrite4 who (o + 4) (v / 2 ^ 32), .ok)
    | none => (s.regWrite4 who (o + 4) (v / 2 ^ 32), .ok)
  else (s.regWrite4 who o v, .ok)

/-- Is an access to the window one that it serves: 4 or 8 bytes, aligned (R326, R455)? -/
def winOk (o n : Nat) : Bool := decide ((n = 4 ∨ n = 8) ∧ o % n = 0)

/-! ### W1C bits set and cleared in one cycle (R13) -/

/-- The counter that goes with a W1C bit of a register at offset `o`, by bit, in the chip's blocks. -/
def seenChip (o bit : Nat) : Option Nat :=
  match o, bit with
  | 0x208, 1 => some 0x210
  | 0x240, 4 => some 0x268 | 0x240, 3 => some 0x270 | 0x240, 2 => some 0x258 | 0x240, 1 => some 0x260
  | 0x400, 1 => some 0x410 | 0x400, 0 => some 0x408
  | 0x3004, 3 => some 0x3020 | 0x3004, 2 => some 0x3018 | 0x3004, 1 => some 0x3010 | 0x3004, 0 => some 0x3008
  | 0x4000, 4 => some 0x4070 | 0x4000, 3 => some 0x4078 | 0x4000, 2 => some 0x4068 | 0x4000, 1 => some 0x4080
  | 0x4000, 0 => some 0x4040
  | 0xB000, 4 => some 0xB058 | 0xB000, 3 => some 0xB048 | 0xB000, 2 => some 0xB038
  | 0xC000, 0 => some 0xC008
  | 0xE004, 0 => some 0xE028 | 0xE004, 1 => some 0xE020 | 0xE004, 2 => some 0xE030
  | 0xF000, 2 => some 0xF010 | 0xF000, 1 => some 0xF008
  | _, _ => none

/-- As `seenChip`, within a core's control block. -/
def seenCore (o bit : Nat) : Option Nat :=
  match o, bit with
  | 0x1004, 16 => some 0x1038
  | 0x2000, 3 => some 0x2028 | 0x2000, 2 => some 0x2038 | 0x2100, 3 => some 0x2128 | 0x2100, 2 => some 0x2138
  | 0x3018, 16 => some 0x3020
  | 0x4000, 2 => some 0x4010 | 0x4000, 1 => some 0x4008
  | 0x5000, 2 => some 0x5028 | 0x5000, 1 => some 0x5030
  | 0x6000, 4 => some 0x6050 | 0x6000, 3 => some 0x6048
  | 0x7000, 3 => some 0x7048 | 0x7000, 1 => some 0x7010 | 0x7000, 0 => some 0x7008
  | 0x8000, 5 => some 0x8020 | 0x8000, 4 => some 0x8058 | 0x8000, 3 => some 0x8048 | 0x8000, 2 => some 0x8038
  | _, _ => none

/-- As `seenChip`, within a stack's, a port's, a media engine's and a shard code engine's block. -/
def seenUnit (kind bit : Nat) : Option Nat :=
  match kind, bit with
  | 0, 3 => some 0x10 | 0, 2 => some 0x28 | 0, 1 => some 0x18
  | 1, 3 => some 0x48 | 1, 2 => some 0x40 | 1, 1 => some 0x30 | 1, 0 => some 0x68
  | 2, 6 => some 0x70 | 2, 5 => some 0x40 | 2, 4 => some 0x38 | 2, 3 => some 0x30
  | 3, 3 => some 0x30
  | _, _ => none

/-- The counter that goes with a W1C bit, where it is a register of its own. -/
def seenCounter (o bit : Nat) : Option Nat :=
  if o < 0x10000 then
    if 0xA000 ≤ o ∧ o < 0xA800 then (seenUnit 0 bit).map (o + ·)
    else if 0xD000 ≤ o ∧ o < 0xDE00 then (seenUnit 1 bit).map (o + ·)
    else seenChip o bit
  else if 0x20000000 ≤ o ∧ o < 0x22000000 then (seenUnit 2 bit).map (o + ·)
  else if 0x30000000 ≤ o then (seenUnit 3 bit).map (o + ·)
  else (seenCore (o % 0x10000) bit).map fun c => o - o % 0x10000 + c

/-- Is bit `bit` of a register the `FAULT` or `FAULT_SEEN` bit whose counter is the status counter of the code that sets it (R123, R173, R227,
R308, R360, R389, R426, R491, R520)? -/
def seenFault (o bit : Nat) : Bool :=
  if o < 0x10000 then decide ((o = 0x3004 ∧ bit = 5) ∨ (o = 0xB000 ∧ bit = 1))
  else if 0x20000000 ≤ o then decide (bit = 2)
  else
    match o % 0x10000, bit with
    | 0x2000, 1 | 0x2100, 1 | 0x4000, 3 | 0x5000, 3 | 0x6000, 2 | 0x8000, 1 => true
    | _, _ => false

/-- A far pool's `unreach` counter incremented (R292, R295). -/
def State.bumpUnreach (s : State) (n : Nat) : State :=
  let x := s.farPool n
  s.setFarPool n (BitVec.ofNat 256 (setBits x.toNat 63 0 (bits x.toNat 63 0 + 1)))

/-- The counter that goes with a W1C bit incremented (R13): a register's own, the status counter of the code `st` for a `FAULT` bit, the
count under RESERVED_NONZERO for `MAINT_ERR` (R264), `SYNC_MANUAL` (R389), `RETIRE_SEQ` (R491), or the far pool's `unreach` (R308). -/
def State.seenBump (s : State) (o bit : Nat) (st : Status) (pool : Nat) : State :=
  match seenCounter o bit with
  | some c => s.bump c 1
  | none =>
    if seenFault o bit then s.count st
    else if o = 0x3004 ∧ bit = 4 then s.setDictNat 0x9100 6 (s.dictNat 0x9100 6 + 1)
    else if o = 0xB000 ∧ bit = 5 then s.bumpUnreach pool
    else if o = 0xF000 ∧ bit = 3 then { s with wear.retireSeq := s.wear.retireSeq + 1 }
    else if 0x10000000 ≤ o ∧ o < 0x10900000 ∧ o % 0x10000 = 0x7000 ∧ bit = 4 then s.count .reservedNonzero
    else s

/-- What the hardware sets of a register's W1C bits in the cycle of a clear: the set wins and the counter increments. -/
def State.hwSet (s : State) (o w1c : Nat) (h : HwSets) : State :=
  (List.range 32).foldl
    (fun (t : State) i => if bitAt (w1c &&& h.bits.toNat) i then (t.setFlag o i).seenBump o i h.st h.pool else t)
    s

end Sys2Proof.Machine
end

