-- ==== Sys2Proof/Machine/Access.lean ====
section
/-! DEFINITION. Loads and stores of control processors (R58, R234, R235, R237, R254, R365), register writes (R639) and W1C bits
(R13). -/

namespace Sys2Proof.Machine

/-- A load by a core's control processor. -/
def State.cpLoad (s : State) (core : Nat) (a : W64) (n : Nat) : State :=
  match if a.toNat < 2 ^ 48 then s.region a.toNat else .unmapped with
  | .near p =>
    if s.cpBarred p n false then s.raise core .loadAccessFault a
    else
      let r := s.cacheRead core p n
      if r.2.1 = .ok then r.1.deliver core (BitVec.ofNat 64 (leNat r.2.2)) else r.1.accessFault core r.2.1 .loadAccessFault a
  | .tile c o =>
    if a.toNat % n ≠ 0 then s.raise core .loadMisaligned a
    else
      let r := s.readTile c o n
      if r.2.1 = .ok then r.1.deliver core (BitVec.ofNat 64 (leNat r.2.2)) else r.1.accessFault core r.2.1 .loadAccessFault a
  | .window o =>
    if a.toNat % n ≠ 0 then s.raise core .loadMisaligned a
    else if n < 4 then s.raise core .loadAccessFault a
    else if coreOff core 0x3010 ≤ o ∧ o + n ≤ coreOff core 0x3018 then s.swRead core (o - coreOff core 0x3010) n
    else s.deliver core (BitVec.ofNat 64 (leNat (s.winRead o n)))
  | _ => s.raise core .loadAccessFault a

/-- A store by a core's control processor. -/
def State.cpStore (s : State) (core : Nat) (a : W64) (n : Nat) (v : W64) : State :=
  let bytes := leBytes n v.toNat
  match if a.toNat < 2 ^ 48 then s.region a.toNat else .unmapped with
  | .near p =>
    if s.cpBarred p n true then s.raise core .storeAccessFault a
    else
      let r := s.cacheWrite core p bytes
      if r.2 = .ok then r.1 else r.1.accessFault core r.2 .storeAccessFault a
  | .tile c o => if a.toNat % n ≠ 0 then s.raise core .storeMisaligned a else s.putTile c o bytes
  | .window o =>
    if a.toNat % n ≠ 0 then s.raise core .storeMisaligned a
    else if n < 4 then s.raise core .storeAccessFault a
    else (s.winWrite (some core) o bytes).1
  | _ => s.raise core .storeAccessFault a

/-- The sizes of loads and stores. -/
def cpSize (n : Nat) : Bool := decide (n = 1 ∨ n = 2 ∨ n = 4 ∨ n = 8)

/-- CP_ACCESS (R43, R58): `ups` are the upsets of the memories since the last command that reported any. -/
def execCpAccess (core : Nat) (op : CpOp) (addr : W64) (size : Nat) (val : W64) (ups : List Upset) (s : State) :
    Host.Outcome State Fault Refusal :=
  ifUnit (isCore core && cpSize size && ups.all upsetOk) "core, size or upset"
    (let s := ups.foldl State.upset s
     s.byCp core
      (match op with
       | .load => s.cpLoad core addr size
       | .store => s.cpStore core addr size val
       | .time => s.deliver core s.ft
       | .cycle => s.deliver core s.cycle))

/-- Is `off` the offset of a register of `size` bytes? -/
def isReg (off size : Nat) : Bool := winOk off size && (regAt off).isSome

/-- REGISTER_WRITE (R639): a write of 4 or 8 bytes to a register of the control and status window. -/
def execRegisterWrite (off size : Nat) (val : W64) (s : State) : Host.Outcome State Fault Refusal :=
  ifUnit (isReg off size) "register"
    (if s.regsLive then (s.winWrite none off (leBytes size val.toNat)).1 else s)

/-- W1C_CLEAR (R13): `val` written to a status register in the control cycle in which the hardware sets some of its bits. -/
def execW1cClear (off : Nat) (val : W64) (hwSets : HwSets) (s : State) : Host.Outcome State Fault Refusal :=
  match regSpec off with
  | some r =>
    if r.w1c = 0 ∨ 16 ≤ hwSets.pool then .fault (.noSuchUnit "status register")
    else .next (if s.regsLive then (s.regWrite none off (val.toNat % 2 ^ (8 * r.size))).hwSet off r.w1c hwSets else s)
  | none => .fault (.noSuchUnit "status register")

end Sys2Proof.Machine
end

