-- ==== Sys2Proof/Machine/Transfers.lean ====
section
/-! DEFINITION. Transfers (R322 to R354, R277 to R282, R296 to R303): how a fetch engine takes, checks, admits, moves and completes
descriptors, their fallbacks, and the deadlock watchdog. -/

namespace Sys2Proof.Machine

/-! ### Where a descriptor's addresses lie -/

/-- Is an address in the 14 MiB of tile memory of some core, on whatever chip (R56)? -/
def inTile (a : Nat) : Bool :=
  match regionOf (addrLocal a) with
  | .tile _ o => decide (o < 0xE00000)
  | _ => false

/-- Is an address in the control and status window of some chip? -/
def inWindow (a : Nat) : Bool :=
  match regionOf (addrLocal a) with
  | .window _ => true
  | _ => false

/-- Does a COPY go from tile memory to tile memory, tags with it (R327)? -/
def dTileToTile (x : BitVec 512) : Bool := decide (dOp x = 0) && inTile (dSrc x) && inTile (dDst x)

/-- The format of the source tiles of a widening COPY (R328). -/
def dNarrowFmt (x : BitVec 512) : Nat := 3 + dMaFmt x

/-- Bytes of an element of an ADD (R256). -/
def dElem (x : BitVec 512) : Nat := maSize (dMaFmt x)

/-- The bytes a descriptor moves, as admission and `FE_BYTES` count them (R347). -/
def dBytes (x : BitVec 512) : Nat := if dOp x ≤ 1 then dRows x * dLen x else 0

/-! ### Check 2: fields and combinations (R322 to R330, R334) -/

/-- The fields that an operation does not use, and the reserved ones (R323, R330): the wait and signal fields, and those that an enable bit
goes with, are used whatever the bit. -/
def dUnused (x : BitVec 512) : List (Nat × Nat) :=
  (370, 368) ::
  match dOp x with
  | 0 => (499, 492) :: (if dWiden x then [] else [(501, 500)])
  | 1 => [(503, 503), (127, 0)]
  | 2 => [(503, 492), (430, 419), (367, 350), (335, 256)]
  | _ => [(503, 492), (430, 419), (367, 0)]

/-- The tag rules of a COPY whose tag is not zero (R327, R328). -/
def dTagOk (x : BitVec 512) : Bool :=
  let f := tagFmt (dTag x)
  let narrow := if dWiden x then dNarrowFmt x else f
  inTile (dDst x) && !inTile (dSrc x) &&
  decide ((addrLocal (dDst x) - 0x100000000000) % 2048 = 0) &&
  (decide (13 ≤ f) || decide (dLen x = tileBytes narrow)) &&
  (decide (dRows x = 1) || (decide (dDstPitch x % 2048 = 0) && decide (2048 * fmtGranules f ≤ dDstPitch x))) &&
  (!dWiden x || decide (f = 1))

/-- A window access of a COPY (R326). -/
def dWindowOk (x : BitVec 512) (a : Nat) : Bool :=
  !inWindow a || decide (dRows x = 1 ∧ (dLen x = 4 ∨ dLen x = 8) ∧ addrLocal a % dLen x = 0)

/-- A COPY from tile memory to tile memory moves whole granules (R327). -/
def dGranulesOk (x : BitVec 512) : Bool :=
  !dTileToTile x ||
  decide (addrLocal (dSrc x) % 2048 = 0 ∧ addrLocal (dDst x) % 2048 = 0 ∧ dLen x % 2048 = 0 ∧
    dSrcPitch x % 2048 = 0 ∧ dDstPitch x % 2048 = 0)

/-- The combinations of COPY and ADD (R324 to R329). -/
def State.moveFields (s : State) (x : BitVec 512) : Bool :=
  addrOk (dSrc x) && addrOk (dDst x) && decide (dLen x ≠ 0) && (s.isOwn (dSrc x) || s.isOwn (dDst x)) &&
  (decide (1 < dRows x) || decide (dSrcPitch x = 0 ∧ dDstPitch x = 0)) &&
  !(s.isOwn (dSrc x) && s.isOwn (dDst x) &&
    (dSrcRows x).any fun a => (dDstRows x).any fun b => overlaps (addrLocal a.1) a.2 (addrLocal b.1) b.2)

/-- Check 2 for each operation. -/
def State.descFields (s : State) (cls : Nat) (x : BitVec 512) : Bool :=
  decide (dOp x ≤ 3) && zeros x (dUnused x) && (decide (cls ≠ 0) || decide (dDeadline x = 0 ∧ dFb x = 0)) &&
  match dOp x with
  | 0 => s.moveFields x && dWindowOk x (dSrc x) && dWindowOk x (dDst x) && dGranulesOk x &&
      (if dTag x = 0 then !dWiden x else dTagOk x)
  | 1 => s.moveFields x && decide (dLen x % dElem x = 0 ∧ dDst x % dElem x = 0 ∧ dDstPitch x % dElem x = 0)
  | 2 => addrOk (dDst x) && decide (dAtCode x ≤ 0x10 ∧ dAtHome x < 144 ∧ dDst x % amoSize (dAtCode x) false = 0) &&
      (!dAtRes x ||
        (addrOk (dAtResAddr x) && s.isOwn (dAtResAddr x) && decide (dAtResAddr x % 8 = 0) &&
        (match regionOf (addrLocal (dAtResAddr x)) with
          | .near _ => true
          | .tile _ _ => true
          | _ => false)))
  | _ => dSigEn x

/-! ### Check 3: extents (R58, R277, R325, R334, R585) -/

/-- Is the entry valid through which this bridge reaches a far page in host memory (R457)? -/
def State.hostEntryOk (s : State) (o : Nat) : Bool :=
  match s.place o with
  | .far p a =>
    !fpHost (s.farPool p) || decide (chipMember s.fab.chipNum ≠ 0) || bitAt (s.dictNat 0x3110 (a / 2 ^ 42 + 1)) 2
  | _ => true

/-- May a descriptor of protection domain `pd`, on a fetch engine of `core`, touch one row at a local address? -/
def State.rowOk (s : State) (pd core op : Nat) (write : Bool) (a n : Nat) : Bool :=
  match s.region a with
  | .near p =>
    decide (pd = 0 ∧ p + n ≤ Config.nearBytes) && !s.touchesOffline p n && !(write && touchesFw p n)
  | .tile c o => (decide (pd = 0) || decide (c = core)) && decide (o + n ≤ 0xE1C000) && !(write && decide (op = 1))
  | .window o => decide (pd = 0) && (if op = 0 then winOk o n else !write && s.winMapped o n)
  | .tiered o =>
    decide (o + n ≤ 0x400000000000) &&
    (pagesOf o n).all fun b => s.tierCheck pd write b && s.hostEntryOk b && !(write && decide (op = 1) && (s.farPoolOf b).isSome)
  | .unmapped => false

/-- The target of an ATOMIC: a near-memory address here, physical or in a near page of the tiered range. -/
def State.atomicTarget (s : State) (a : Nat) : Option Nat :=
  match s.region (addrLocal a) with
  | .near p => some p
  | .tiered o =>
    match s.place o with
    | .near p => some p
    | _ => none
  | _ => none

/-- Check 3 of an ATOMIC on the target's chip (R242, R266, R334). -/
def State.atomicCheck (s : State) (pd core : Nat) (x : BitVec 512) : Status :=
  let home := dAtHome x
  let size := amoSize (dAtCode x) false
  if (s.core home).absent then .pageFault
  else if (s.core home).fenced then .ownerLost
  else
    need (s.rowOk pd core 2 true (addrLocal (dDst x)) size &&
      (match s.atomicTarget (dDst x) with
        | some p => decide (p + size ≤ Config.nearBytes) && !touchesFw p size
        | none => false)) .pageFault

/-- Check 3 of one side of a descriptor on the chip that holds it: the source, or (`write`) the destination. -/
def State.sideCheck (s : State) (pd core : Nat) (x : BitVec 512) (write : Bool) : Status :=
  if dOp x = 2 then (if write then s.atomicCheck pd core x else .ok)
  else
    need ((if write then dDstRows x else dSrcRows x).all fun r => s.rowOk pd core (dOp x) write (addrLocal r.1) r.2) .pageFault

/-- Does the source lie in one object of the tiered range whose write generation is the one stated (R339)? -/
def State.genOk (s : State) (x : BitVec 512) : Bool :=
  match ((dSrcRows x).map fun r => match regionOf (addrLocal r.1) with
      | .tiered o => (pagesOf o r.2).map s.objOf
      | _ => [none]).flatten.eraseDups with
  | [some n] => decide (obWgen (s.obj n) = dSrcGen x)
  | _ => false

/-- The check that another chip makes of a descriptor's side (R335): check 3, then for a source the generation. -/
def State.peerCheck (s : State) (pd : Nat) (x : BitVec 512) (write : Bool) : Status :=
  (s.sideCheck pd 255 x write).orElse (need (write || !dGenEn x || s.genOk x) .staleSource)

/-- Check 3 of the sides on this chip, an ATOMIC's result address among them. -/
def State.ownCheck (s : State) (pd core : Nat) (x : BitVec 512) : Status :=
  firstBad
    [if dOp x ≤ 1 && s.isOwn (dSrc x) then s.sideCheck pd core x false else .ok,
     if dOp x ≤ 2 && s.isOwn (dDst x) then s.sideCheck pd core x true else .ok,
     if decide (dOp x = 2) && dAtRes x then need (s.rowOk pd core 2 true (addrLocal (dAtResAddr x)) 8) .pageFault else .ok]

/-! ### Deadlines and fallbacks (R298 to R303, R342) -/

/-- The deadline that a field gives at take (R342). -/
def deadlineOf (policy take epoch f : Nat) : Option Nat :=
  if f = 0 then none
  else
    match policy with
    | 1 => some (take + f)
    | 2 => some (epoch + f)
    | _ =>
      let b := take / 2 ^ 48 * 2 ^ 48 + f
      some (if take + 2 ^ 47 < b ∧ 2 ^ 48 ≤ b then b - 2 ^ 48 else if b + 2 ^ 47 < take then b + 2 ^ 48 else b)


/-- The near-memory address of a fallback entry, and the entry. -/
def State.fbAddr (s : State) (f : Nat) : Nat := s.dictNat 0x4300 7 + 32 * f
def State.fbEntry (s : State) (f : Nat) : Nat := leNat (s.near (s.fbAddr f) 32)

/-- A fallback entry's state written (2 FIRED, 3 DISARMED), and FT where it fired. -/
def State.putFb (s : State) (f st : Nat) : State :=
  let e := setBits (s.fbEntry f) 251 250 st
  s.putNear (s.fbAddr f) (leBytes 32 (if st = 2 then setBits e 191 128 s.ft.toNat else e))

/-- The conditions of R299. -/
def State.fbCheck (s : State) (cls q f : Nat) : Status :=
  let e := s.fbEntry f
  if f = 0 then .ok
  else if cls ≠ 2 then .stateConflict
  else if bits e 255 252 ≠ 1 then .versionUnsupported
  else if bits e 249 248 ≠ 0 ∨ bits e 207 192 ≠ 0 ∨ bits e 42 0 ≠ 0 ∨ (bitAt e 43 = false ∧ bits e 63 44 ≠ 0) then .reservedNonzero
  else need (decide (bits e 251 250 = 1) && decide (bits e 227 208 = q)) .stateConflict

/-- The descriptor taken from the list of those in flight, its place in the ring done (R320). -/
def State.dropDesc (s : State) (d : Desc) : State :=
  let s := { s.endPeers d with qs.descs := s.qs.descs.filter fun e => e.id ≠ d.id }
  s.setQueue d.queue ((s.queue d.queue).finishItem d.index)

/-- The beats of a descriptor that have not been applied discarded (R301): packets that have not left this chip, answers to those that have,
and add requests refused or held. A round whose request is dropped stays where it is. -/
def State.dropBeats (s : State) (id : Nat) : State :=
  let s := s.dropRequests fun w => decide (w.descId = some id)
  { s with
    mem.addWaits := s.mem.addWaits.filter fun w => decide (w.req.sender ≠ .desc id),
    mem.chans := s.mem.chans.map fun e => (e.1, { e.2 with window := e.2.window.filter fun r => decide (r.sender ≠ .desc id) }) }

/-- The bytes that a descriptor has moved counted: all of them at its completion, an amount that nothing constrains where it ends earlier
(R282, R358). -/
def State.countMoved (s : State) (d : Desc) (whole : Bool) : State :=
  let fe := 0x2000 + 0x100 * d.fe
  let s := { s with free := s.free + 1 }
  let part := fun (i n : Nat) => if whole then n else (Config.freeWord s.free i).toNat % (n + 1)
  let s' := s.bumpCore d.core (fe + 0x10) (part 0 (dBytes d.item))
  let far := fun (rows : List (Nat × Nat)) => (rows.map fun r =>
    if s.isOwn r.1 then
      match regionOf (addrLocal r.1) with
      | .tiered o => spans4k o r.2
      | _ => []
    else []).flatten
  let s' := (far (dSrcRows d.item)).foldl (fun (t : State) e => t.countFar false e.1 (part (e.1 + 1) e.2)) s'
  (far (dDstRows d.item)).foldl (fun (t : State) e => t.countFar true e.1 (part (e.1 + 1) e.2)) s'

/-- A descriptor that ends after its first beat with something else than OK: its beats discarded, its destination undefined (R300, R336). -/
def State.cutShort (s : State) (d : Desc) : State :=
  if d.beats then ((s.countMoved d false).dropBeats d.id).havocDest d else s

/-- A fallback fires (R300): the descriptor ends with FALLBACK_TAKEN, and its queues resume. -/
def State.fireFallback (s : State) (d : Desc) : State :=
  let f := dFb d.item
  let e := s.fbEntry f
  let s := s.cutShort d
  let s := ((s.dropDesc d).count .fallbackTaken).putFb f 2
  let s := (s.bumpSeen 0xB058 0xB000 4).deviceResume (bits e 247 228)
  if bitAt e 43 then s.deviceResume (bits e 63 44) else s

/-! ### Admission (R345, R347) -/

/-- Does an extent lie in the buffer of a GUARANTEED queue: on the neighbour at its port, the buffer in near memory or in tile memory there
(R345)? -/
def State.inBuffer (s : State) (Q : Queue) (a n : Nat) : Bool :=
  bufferPlace Q.bufBase Q.bufSize &&
  (match s.expectedPeer Q.rsvPort with
    | some p => addrFab a && decide (addrChip a = p.1) && decide (Q.bufBase ≤ addrLocal a ∧ addrLocal a + n ≤ Q.bufBase + Q.bufSize)
    | none => false)

/-- The conditions of R345 on a descriptor of a GUARANTEED queue. -/
def State.guarOk (s : State) (Q : Queue) (x : BitVec 512) : Bool :=
  match dOp x with
  | 2 => !dAtRes x && s.inBuffer Q (dDst x) (amoSize (dAtCode x) false)
  | 3 => true
  | _ =>
    ((dSrcRows x).all fun r => s.isOwn r.1 &&
      (match regionOf (addrLocal r.1) with
        | .near _ => true
        | .tile _ _ => true
        | _ => false)) &&
    (dDstRows x).all fun r => s.inBuffer Q r.1 r.2

/-- The finish time that R347 computes for a descriptor of a GUARANTEED queue. -/
def admitEnd (take fin slots : Nat) (x : BitVec 512) : Nat :=
  let bytes := if dOp x ≤ 1 then dBytes x else 64
  max take fin + (ceilDiv (8 * max bytes 65536) (25 * slots) + 600)

/-! ### Moving data -/

/-- A descriptor in flight changed. -/
def State.updDesc (s : State) (id : Nat) (f : Desc → Desc) : State :=
  match s.desc id with
  | some d => s.setDesc (f d)
  | none => s

/-- A status that a descriptor has met. -/
def State.descMet (s : State) (id : Nat) (st : Status) : State :=
  s.updDesc id fun d => { d with status := d.status.orElse st }

/-- A source tile converted to BF16 (R328). -/
def widenTile (f : Nat) (bytes : List Byte) : List Byte :=
  ((List.range 4096).map fun i => leBytes 2 (fBf16.encode .rne false (tileVal f bytes (i / 64) (i % 64))).1).flatten

/-- A row read at a local address. -/
def State.readRow (s : State) (a n : Nat) : State × Status × List Byte :=
  match s.region a with
  | .near p => s.readNear p n
  | .tile c o => s.readTile c o n
  | .window o => (s, .ok, if winOk o n then s.winRead o n else s.winBytes o n)
  | .tiered o => s.tierRead o n
  | .unmapped => (s, .pageFault, List.replicate n 0)

/-- Bytes written at a local address. -/
def State.writeRow (s : State) (a : Nat) (bytes : List Byte) : State × Status :=
  match s.region a with
  | .near p => s.writeNear p bytes
  | .tile c o => (s.putTile c o bytes, .ok)
  | .window o => s.winWrite none o bytes
  | .tiered o => s.tierWrite o bytes
  | .unmapped => (s, .pageFault)

/-- The tag of a row that has landed written, where the COPY states one (R327). -/
def State.landTag (s : State) (x : BitVec 512) (a : Nat) : State :=
  match s.region a with
  | .tile c o => if dTag x = 0 then s else s.writeTag c (o / 2048) (tagFmt (dTag x)) (dTag x)
  | _ => s

/-- A row of a COPY landed here: its bytes, widened where the descriptor says so, then its tag. -/
def State.landRow (s : State) (x : BitVec 512) (k : Nat) (bytes : List Byte) : State × Status :=
  let a := addrLocal (rowAddr (dDst x) (dDstPitch x) k)
  let w := s.writeRow a (if dWiden x then widenTile (dNarrowFmt x) bytes else bytes)
  (w.1.landTag x a, w.2)

/-- What a row of a COPY leaves in tile memory, as core, offset and bytes: its elements, and the tag-store entries that it writes. -/
def State.landed (s : State) (x : BitVec 512) (k : Nat) (bytes tags : List Byte) : List (Nat × Nat × List Byte) :=
  let a := addrLocal (rowAddr (dDst x) (dDstPitch x) k)
  match s.region a with
  | .tile c o =>
    let b := if dWiden x then widenTile (dNarrowFmt x) bytes else bytes
    (c, o, b) ::
      (if dTileToTile x then [(c, tagOff (o / 2048), tags)]
      else if dTag x = 0 then []
      else [(c, tagOff (o / 2048), leBytes 16 (dTag x).toNat ++ List.replicate (16 * (fmtGranules (tagFmt (dTag x)) - 1)) 0)])
  | _ => []

/-- What an extent of tile memory holds once a transfer has ended during which something else wrote there (R41): of each byte, and of each
tag, one of the two values. -/
def State.mixTile (s : State) (c o : Nat) (bytes : List Byte) : State :=
  let now := s.tile c o bytes.length
  if now = bytes then s
  else
    let f := s.freeBytes bytes.length
    let pick := fun (i : Nat) => ((f.1[if o < 0xE00000 then i else i / 16 * 16]?).getD 0).getLsbD 0
    f.2.putTile c o ((List.range bytes.length).map fun i => if pick i then (bytes[i]?).getD 0 else (now[i]?).getD 0)

/-- The pieces of the rows of an ADD, one for each block that a row touches: the block's address, the enable mask and the 64 bytes. -/
def addPieces (elem a : Nat) (bytes : List Byte) : List (Nat × Nat × List Byte) :=
  (blockPieces bytes.length a bytes).map fun p =>
    let o := p.1 % 64
    (p.1 - o, (2 ^ (p.2.length / elem) - 1) * 2 ^ (o / elem),
      List.replicate o 0 ++ p.2 ++ List.replicate (64 - o - p.2.length) 0)

/-- A piece joined to the requests before it: one request for each block (R329). What an element adds that lies in two rows is not stated:
it is a free value. -/
def joinPiece (elem : Nat) (free : Nat → Byte) (l : List (Nat × Nat × List Byte)) (p : Nat × Nat × List Byte) : List (Nat × Nat × List Byte) :=
  if l.any fun e => decide (e.1 = p.1) then
    l.map fun e =>
      if e.1 ≠ p.1 then e
      else
        (e.1, e.2.1 ||| p.2.1, (List.range 64).map fun i =>
          match bitAt e.2.1 (i / elem), bitAt p.2.1 (i / elem) with
          | true, true => free (p.1 + i)
          | true, false => (e.2.2[i]?).getD 0
          | false, _ => (p.2.2[i]?).getD 0)
  else l ++ [p]

/-- The requests of an ADD: for each block that its rows touch, the address, the enable mask and the 64 bytes (R329). -/
def addBlocks (elem : Nat) (free : Nat → Byte) (rows : List (Nat × List Byte)) : List (Nat × Nat × List Byte) :=
  ((rows.map fun r => addPieces elem r.1 r.2).flatten).foldl (joinPiece elem free) []

/-- One add request of a descriptor at a local address of this chip. -/
def State.addHere (s : State) (x : BitVec 512) (who : Requester) (a mask : Nat) (data : List Byte) : State :=
  match s.atomicTarget a with
  | some p =>
    let s := match regionOf (addrLocal a) with
      | .tiered o => s.touchPage o
      | _ => s
    s.addArrive {
      block := p / 64, fmt := dMaFmt x, data := data, mask := mask, ordered := dOrdered x, oseq := dOseq x,
      olast := dOlast x, sender := who }
  | none => s.completeReq who .pageFault

/-- The 14 low bits of `aux` of an ADD packet (R439). -/
def addAux (x : BitVec 512) : Nat := dMaFmt x + 4 * b2n (dOrdered x) + 8 * b2n (dOlast x) + 16 * dOseq x

/-- The rows of an ADD sent to their channels here or on another chip. -/
def State.sendAdds (s : State) (d : Desc) (rows : List (Nat × List Byte)) : State :=
  let x := d.item
  let l := addBlocks (dElem x) (Config.freeByte s.free) (rows.map fun r => (rowAddr (dDst x) (dDstPitch x) r.1, r.2))
  let s := { s with free := s.free + 1 }
  if s.isOwn (dDst x) then
    let s := s.updDesc d.id fun e => { e with outstanding := e.outstanding + l.length }
    l.foldl (fun (t : State) b => t.addHere x (.desc d.id) b.1 b.2.1 b.2.2) s
  else
    l.foldl
      (fun (t : State) b =>
        let r := t.request (.descAdd d.id)
          (mkPacket .add (addrChip (dDst x)) (addrLocal b.1) (leBytes 4 b.2.1 ++ b.2.2) (addAux x))
        if r.2 then r.1.updDesc d.id fun e => { e with outstanding := e.outstanding + 1 }
        else r.1.descMet d.id .linkRetryExhausted)
      s

/-- Bytes of a COPY sent to another chip. -/
def State.sendBytes (s : State) (id chip a : Nat) (bytes : List Byte) : State :=
  let w := s.remoteWrite (.descWrite id) chip a bytes
  let s := w.1.updDesc id fun e => { e with outstanding := e.outstanding + w.2.1 }
  if w.2.2 then s else s.descMet id .linkRetryExhausted

/-- The tag-store address of the granule at a tile-memory address (R56). -/
def tagStoreOf (a : Nat) : Nat :=
  match regionOf a with
  | .tile c o => 0x100000000000 + c * 0x1000000 + 0xE00000 + o / 2048 * 16
  | _ => a

/-- The rows that have been read, each with its number and, for a COPY between tile memories, its granules' tag-store entries, land. -/
def State.landAll (s : State) (d : Desc) (rows : List (Nat × List Byte × List Byte)) : State :=
  let x := d.item
  if dOp x = 1 then s.sendAdds d (rows.map fun r => (r.1, r.2.1))
  else
    rows.foldl
      (fun (t : State) r =>
        let a := addrLocal (rowAddr (dDst x) (dDstPitch x) r.1)
        if s.isOwn (dDst x) then
          let w := t.landRow x r.1 r.2.1
          let t := w.1.descMet d.id w.2
          let t := t.updDesc d.id fun e => { e with landed := e.landed ++ t.landed x r.1 r.2.1 r.2.2 }
          if dTileToTile x then (t.writeRow (tagStoreOf a) r.2.2).1 else t
        else
          let t := t.sendBytes d.id (addrChip (dDst x)) a r.2.1
          if dTileToTile x then t.sendBytes d.id (addrChip (dDst x)) (tagStoreOf a) r.2.2 else t)
      s

/-- The source rows, and their tag-store entries, read on this chip: the rows that a read has delivered (R235, R254). -/
def State.readSides (s : State) (x : BitVec 512) : State × Status × List (Nat × List Byte × List Byte) :=
  (List.range (dSrcRows x).length).foldl
    (fun acc k =>
      let a := addrLocal (rowAddr (dSrc x) (dSrcPitch x) k)
      let v := acc.1.readRow a (dLen x)
      let g := if dTileToTile x then v.1.readRow (tagStoreOf a) (dLen x / 2048 * 16) else (v.1, .ok, [])
      let st := v.2.1.orElse g.2.1
      (g.1, acc.2.1.orElse st, if st = .ok then acc.2.2 ++ [(k, v.2.2, g.2.2)] else acc.2.2))
    (s, .ok, [])

/-- The reads of the source rows, and of their tag-store entries, sent to another chip. Reads of entries carry the row's number plus
the number of rows. -/
def State.sendReads (s : State) (d : Desc) : State :=
  let x := d.item
  let rows := dSrcRows x
  let one := fun (t : State) (k a n : Nat) =>
    let w := t.remoteRead (.descRead d.id k) (addrChip (dSrc x)) a n
    let t := w.1.updDesc d.id fun e => { e with outstanding := e.outstanding + w.2.1 }
    if w.2.2 then t else t.descMet d.id .linkRetryExhausted
  (List.range rows.length).foldl
    (fun (t : State) k =>
      let a := addrLocal (rowAddr (dSrc x) (dSrcPitch x) k)
      let t := one t k a (dLen x)
      if dTileToTile x then one t (k + rows.length) (tagStoreOf a) (dLen x / 2048 * 16) else t)
    s

/-- The old value of an ATOMIC written to its result address (R330). -/
def State.atomicResult (s : State) (d : Desc) (st : Status) (old : Nat) : State :=
  if st ≠ .ok then s.descMet d.id st
  else if dAtRes d.item then
    let w := s.writeRow (addrLocal (dAtResAddr d.item)) (leBytes 8 old)
    w.1.descMet d.id w.2
  else s

/-- An ATOMIC performed on this chip: the status and the old value. One that its home turns away has no first beat. -/
def State.atomicHere (s : State) (a code home op0 op1 : Nat) : State × Status × Nat :=
  match s.atomicTarget a with
  | none => (s, .pageFault, 0)
  | some p =>
    let r := s.amoAt home p code (amoSize code false) op0 op1
    match regionOf (addrLocal a), r.2.1 with
    | .tiered o, .ok => ((s.objOf o).elim r.1 fun n => (r.1.touchPage o).bumpWgen n, r.2)
    | _, _ => r

/-- The generations of the objects here that a descriptor writes, raised at its first beat (R281). -/
def State.bumpWritten (s : State) (x : BitVec 512) : State :=
  (s.objsOf (s.tieredPages (dDstRows x))).foldl (fun (t : State) n => t.bumpWgen n) s

/-- A descriptor's beats. What is read at another chip lands when it has all come. -/
def State.descMove (s : State) (d : Desc) : State :=
  let x := d.item
  let d := { d with stage := .moving, beats := true, farRead := (s.tieredPages d.rows).any fun o => (s.farPoolOf o).isSome }
  let s := ((s.setDesc d).translateAll (s.dieOf d.core) (s.tieredPages d.rows)).bumpWritten x
  match dOp x with
  | 2 =>
    if s.isOwn (dDst x) then
      let r := s.atomicHere (dDst x) (dAtCode x) (dAtHome x) (dSrc x) (dAtOp1 x)
      r.1.atomicResult d r.2.1 r.2.2
    else
      let r := s.request (.descAtomic d.id)
        (mkPacket .atomic (addrChip (dDst x)) (addrLocal (dDst x)) (atomicBody (dAtCode x) (dAtHome x) (dSrc x) (dAtOp1 x)))
      if r.2 then r.1.updDesc d.id fun e => { e with outstanding := 1 } else r.1.descMet d.id .linkRetryExhausted
  | 3 => s
  | _ =>
    if s.isOwn (dSrc x) then
      let r := s.readSides x
      (r.1.descMet d.id r.2.1).landAll d r.2.2
    else s.sendReads d

/-- A descriptor that meets an unreachable pool (R296): its fallback fires at once, or it waits. -/
def State.descStuck (s : State) (d : Desc) : State :=
  if d.fallback then s.fireFallback d
  else s.setDesc { d with stage := .unreachable, since := if d.stage = .unreachable then d.since else s.ft.toNat }

/-- A checked descriptor begins, unless it meets a page in transit (R279) or an unreachable pool (R296). -/
def State.descBegin (s : State) (d : Desc) : State :=
  let l := s.tieredPages d.rows
  if l.any s.inTransit then s.setDesc { d with stage := .transit }
  else if l.any s.unreachable then s.descStuck d
  else if d.beats then s.setDesc { d with stage := .moving }
  else s.descMove d

/-! ### The checks of R334 -/

/-- The first offset of the tiered range at which a descriptor fails R277, for `TR_FAULT_ADDR`: an ATOMIC writes its target. -/
def State.tierBadAt (s : State) (pd : Nat) (x : BitVec 512) : Option Nat :=
  match (s.tieredPages (dSrcRows x)).find? fun o => !s.tierCheck pd false o with
  | some o => some o
  | none => (s.tieredPages (if dOp x = 2 then [(dDst x, 8)] else dDstRows x)).find? fun o => !s.tierCheck pd true o

/-- The first offset in the tiered range of a side of a descriptor that another chip holds. -/
def State.farTierAt (s : State) (x : BitVec 512) : Option Nat :=
  (s.farSides x).findSome? fun e =>
    match regionOf e.2.1 with
    | .tiered o => some o
    | _ => none

/-- A descriptor that fails a check moves nothing and signals nothing; a failure under R277 or R299 is recorded among the tiered-range
registers as well (R307). -/
def State.failCheck (s : State) (d : Desc) (st : Status) (fallback : Bool) : State :=
  let s := match s.tierBadAt (s.queue d.queue).pd d.item with
    | some o => if st = Status.pageFault then s.tierFault st d.queue o else s
    | none => s
  (if fallback then s.tierFault st d.queue 0 else s).failDesc d st

/-- A descriptor that has passed its checks: its fallback fires where its deadline is already past (R301), else it begins. -/
def State.descAdmitted (s : State) (d : Desc) : State :=
  match d.deadline with
  | some t =>
    if d.fallback && decide (t < s.ft.toNat) then (s.setDesc d).fireFallback d else (s.setDesc d).descBegin d
  | none => (s.setDesc d).descBegin d

/-- Checks 4 to 8, once every chip has answered check 3, and the beginning. -/
def State.descAfter (s : State) (d : Desc) : State :=
  let Q := s.queue d.queue
  let x := d.item
  let t4 := if dOp x = 2 ∨ dTag x = 0 then Status.ok else tagCheck (dTag x)
  let fb := s.fbCheck Q.cls d.queue (dFb x)
  let t5 := firstBad
    [need (decide (Q.cls ≠ 1) || s.guarOk Q x) .stateConflict,
     need (s.ftValid || decide (dDeadline x = 0 ∧ dFb x = 0)) .stateConflict]
  let t6 := if dGenEn x && s.isOwn (dSrc x) then need (s.genOk x) .staleSource else d.status
  if t4 ≠ .ok then s.failCheck d t4 false
  else if fb ≠ .ok then s.failCheck d fb true
  else if t5 ≠ .ok then s.failCheck d t5 false
  else if t6 ≠ .ok then s.failCheck d t6 false
  else
    let e := admitEnd d.takeFt Q.fin Q.rsvSlots x
    if decide (Q.cls = 1) && Q.admitted && (match d.deadline with
        | some t => decide (t < e)
        | none => false) then s.failCheck d Status.admissionRefused false
    else
      let guar := decide (Q.cls = 1) && Q.admitted
      (if guar then s.setQueue d.queue { Q with fin := e } else s).descAdmitted
        { d with guarEnd := if guar then some e else none, fallback := decide (dFb x ≠ 0) }

/-- The checks of other chips asked for: how many were sent, and whether all were routed. -/
def State.askPeers (s : State) (d : Desc) (l : List (Nat × Nat × Nat)) : State × Bool :=
  l.foldl
    (fun acc e =>
      let r := acc.1.request (.descCheck d.id) (mkPacket .check e.1 e.2.1 (descBody d.item (s.queue d.queue).pd e.2.2))
      (if r.2 then r.1.updDesc d.id fun v => { v with outstanding := v.outstanding + 1 } else r.1, acc.2 && r.2))
    (s, true)

/-- Checks 1 to 3, and another chip's check asked for (R334, R335). -/
def State.descCheck (s : State) (d : Desc) : State :=
  let Q := s.queue d.queue
  let x := d.item
  if dVersion x ≠ 1 then s.failCheck d .versionUnsupported false
  else if !s.descFields Q.cls x then s.failCheck d .reservedNonzero false
  else if s.ownCheck Q.pd Q.core x ≠ .ok then s.failCheck d (s.ownCheck Q.pd Q.core x) false
  else
    match s.farSides x with
    | [] => s.descAfter d
    | l =>
      let d := { d with stage := .checking }
      let r := (s.setDesc d).askPeers d l
      if r.2 then r.1 else (r.1.dropBeats d.id).failDesc d .linkRetryExhausted

/-! ### The fetch engine (R331, R333, R337) -/

/-- The descriptors of a queue that were taken before one. -/
def State.earlier (s : State) (d : Desc) : List Desc :=
  s.qs.descs.filter fun e => decide (e.queue = d.queue) && decide (e.id < d.id)

/-- A descriptor whose wait has ended: a SIGNAL waits for every earlier descriptor of its queue. -/
def State.descReady (s : State) (d : Desc) : State :=
  if dOp d.item = 3 ∧ s.earlier d ≠ [] then s.setDesc { d with stage := .ordering } else s.descCheck d

/-- The next descriptor of a queue taken, and its wait registered. -/
def State.takeDesc (s : State) (q : Nat) : State :=
  let Q := s.queue q
  let r := s.readNear (Q.itemAddr Q.head.toNat) 64
  let x : BitVec 512 := BitVec.ofNat 512 (leNat r.2.2)
  let s := r.1
  let now := s.ft.toNat
  let d : Desc := {
    id := s.qs.nextDesc, core := Q.core, fe := Q.fe, queue := q, index := Q.head, item := x, stage := .waiting,
    satisfied := !dWaitEn x, takeFt := now, since := now, deadline := deadlineOf Q.dlPolicy now Q.epoch.toNat (dDeadline x) }
  let s := s.setQueue q { Q with head := Q.head + 1 }
  let s := { s with qs.nextDesc := s.qs.nextDesc + 1, qs.descs := s.qs.descs ++ [d] }
  if r.2.1 ≠ .ok then s.failDesc d r.2.1
  else
    let w := s.registerWait (.desc d.id) (itemWaits 0 x)
    if w.2 ≠ .ok then w.1.failDesc d w.2 else w.1

/-- Can a descriptor in flight go on without any other command: its wait satisfied, its predecessors done, its pool reachable? -/
def State.descCanGo (s : State) (d : Desc) : Bool :=
  match d.stage with
  | .waiting => d.satisfied
  | .ordering => (s.earlier d).isEmpty
  | .unreachable => !((s.tieredPages d.rows).any s.unreachable)
  | _ => false

/-- A descriptor in flight goes on. -/
def State.descGoOn (s : State) (d : Desc) : State :=
  match d.stage with
  | .waiting => s.descReady d
  | .ordering => s.descCheck d
  | .unreachable => s.descBegin d
  | _ => s

/-- Does a descriptor belong to the row of operation `op`? One whose version or operation the device does not know may be met by any. -/
def dRowOf (op : Nat) (x : BitVec 512) : Bool := decide (dOp x = op) || decide (dVersion x ≠ 1) || decide (4 ≤ dOp x)

/-- May a fetch engine take another descriptor of a queue: fewer than 32 in flight, and every earlier one of the queue begun? -/
def State.mayTake (s : State) (q : Nat) : Bool :=
  let Q := s.queue q
  decide (Q.state = .active) && decide (Q.head ≠ Q.tail) && decide (s.inFlight Q.core Q.fe < 32) &&
  (s.qs.descs.filter fun d => decide (d.queue = q)).all (·.beats)

/-- Does a descriptor that can go on too come before this one on its fetch engine (R343)? -/
def State.outranked (s : State) (d : Desc) : Bool :=
  s.qs.descs.any fun e => decide (e.core = d.core ∧ e.fe = d.fe ∧ e.id ≠ d.id) && s.descCanGo e && decide (s.descRank e < s.descRank d)

/-- The fetch engine serves a COPY queue: a descriptor in flight goes on, where it is its turn (R343), or else the next is taken. -/
def State.serveCopy (s : State) (q op : Nat) : State :=
  let Q := s.queue q
  if Q.kind ≠ 0 ∨ Q.enabled = false ∨ s.engineRuns Q.core = false then s
  else
    match s.qs.descs.find? fun d => decide (d.queue = q) && dRowOf op d.item && s.descCanGo d with
    | some d => if s.outranked d then s else s.descGoOn d
    | none =>
      if s.mayTake q && dRowOf op (s.ringItem Q Q.head) then
        let id := s.qs.nextDesc
        let t := s.takeDesc q
        match t.desc id with
        | some d => if d.satisfied && !t.outranked d then t.descGoOn d else t
        | none => t
      else s

/-! ### Completion (R300, R332, R336, R339, R348) -/

/-- A descriptor's fault after its first beat: its destination undefined (R336). -/
def State.failMoved (s : State) (d : Desc) (st : Status) : State := (s.cutShort d).failDesc d st

/-- What a late landing leaves (R297, R348). -/
def State.countLateDesc (s : State) (d : Desc) : State :=
  let Q := s.queue d.queue
  let now := s.ft.toNat
  let fe := 0x2000 + 0x100 * d.fe
  if Q.cls = 1 then
    match d.guarEnd with
    | none => s
    | some e =>
      if decide (d.deadline.getD e < now) && Q.admitted then
        s.bumpSeen (coreOff d.core (fe + 0x28)) (coreOff d.core fe) 3 else s
  else
    match d.deadline with
    | none => s
    | some t => if t < now then (s.bumpSeen 0xB048 0xB000 3).bump 0xB050 (now - t) else s

/-- A descriptor completes with OK: counted, its fallback disarmed, its semaphore signalled. -/
def State.finishDesc (s : State) (d : Desc) : State :=
  let x := d.item
  let fe := 0x2000 + 0x100 * d.fe
  let s := d.landed.foldl (fun (t : State) e => t.mixTile e.1 e.2.1 e.2.2) s
  let s := ((s.countMoved d true).dropDesc d).bumpCore d.core (fe + 0x08) 1
  let s := if d.fallback then (s.putFb (dFb x) 3).bump 0xB060 1 else s.countLateDesc d
  if !dSigEn x then s
  else if dSigFar x then s.signalAt (dSigChip x) (dSigSem x)
  else s.signalSem (dSigSem x)

/-- DESCRIPTOR_COMPLETE: the last byte of a descriptor is acknowledged. -/
def State.descComplete (s : State) (d : Desc) : State :=
  let x := d.item
  if (d.stage ≠ .moving ∧ d.stage ≠ .landed) ∨ d.outstanding ≠ 0 then s
  else if d.status ≠ .ok then s.failMoved d d.status
  else if (s.tieredPages d.rows).any s.unreachable then s.descStuck d
  else if d.fallback && (match d.deadline with
      | some t => s.pastBy t
      | none => false) then s.fireFallback d
  else if dGenEn x && s.isOwn (dSrc x) && !s.genOk x then s.failMoved d .staleSource
  else if dGenEn x && !s.isOwn (dSrc x) && decide (d.stage = .moving) then
    let r := s.askPeers d [(addrChip (dSrc x), addrLocal (dSrc x), 2)]
    if r.2 then r.1 else r.1.failMoved d .linkRetryExhausted
  else s.finishDesc d

/-- FALLBACK_FIRE: FT reaches the deadline before the last beat. -/
def State.deadlineReached (s : State) (d : Desc) : State :=
  match d.deadline with
  | some t =>
    if d.fallback && decide (t ≤ s.ft.toNat) && d.holds then s.fireFallback d else s
  | none => s

/-- FAR_TIMEOUT: a wait for an unreachable pool has lasted `FAR_TIMEOUT_US`, or the pool is there again. -/
def State.farTimeout (s : State) (d : Desc) : State :=
  if d.stage ≠ .unreachable then s
  else if s.descCanGo d then s.descBegin d
  else if d.since + 1000 * s.dictNat 0x4300 4 ≤ s.ft.toNat then s.failMoved d .deadlineMissed
  else s

/-- TRANSIT_WAIT_END: the pages that a descriptor covers have stopped moving, and it translates again. -/
def State.transitEnd (s : State) (d : Desc) : State :=
  if d.stage ≠ .transit ∨ (s.tieredPages d.rows).any s.inTransit then s
  else
    let Q := s.queue d.queue
    let st := s.ownCheck Q.pd Q.core d.item
    if st = .ok then s.descBegin d else s.failCheck d st false

/-! ### Answers from other chips -/

/-- An answer to a write, an add or an atomic operation of a descriptor. -/
def State.descAck (s : State) (id : Nat) (st : Status) : State :=
  (s.descMet id st).updDesc id fun d => { d with outstanding := d.outstanding - 1 }

/-- An answer to a check: a stale source is kept for check 6; after the beats it is the comparison at completion (R339). -/
def State.descCheckAck (s : State) (id : Nat) (st : Status) : State :=
  match s.desc id with
  | none => s
  | some d =>
    let d := { d with outstanding := d.outstanding - 1 }
    if d.beats then
      if st = .ok then s.setDesc { d with stage := .landed } else (s.setDesc d).failMoved d st
    else if st = .staleSource then
      let d := { d with status := d.status.orElse st }
      if d.outstanding = 0 then (s.setDesc d).descAfter d else s.setDesc d
    else if st ≠ .ok then
      let s := match s.farTierAt d.item with
        | some o => if st = Status.pageFault then s.tierFault st d.queue o else s
        | none => s
      ((s.setDesc d).dropBeats id).failDesc d st
    else if d.outstanding = 0 then (s.setDesc d).descAfter d
    else s.setDesc d

/-- The old value that an ATOMIC gave on another chip. -/
def State.descOld (s : State) (id : Nat) (st : Status) (old : Nat) : State :=
  match s.desc id with
  | some d => (s.setDesc { d with outstanding := d.outstanding - 1 }).atomicResult d st old
  | none => s

/-- Bytes that a read of a descriptor has brought, for row `k` at `off`. -/
def State.descData (s : State) (id k off : Nat) (bytes : List Byte) : State :=
  s.updDesc id fun d => { d with data := storeBytes d.data (k * 2 ^ 33 + off) bytes }

/-- One of a descriptor's reads has ended; after the last, what was read lands. -/
def State.descReadEnd (s : State) (id : Nat) (st : Status) : State :=
  let s := s.descAck id st
  match s.desc id with
  | none => s
  | some d =>
    if d.outstanding ≠ 0 ∨ d.status ≠ .ok then s
    else
      let n := dRows d.item
      s.landAll d ((List.range n).map fun k =>
        (k, loadBytes d.data (k * 2 ^ 33) (dLen d.item), loadBytes d.data ((k + n) * 2 ^ 33) (dLen d.item / 2048 * 16)))

/-! ### The deadlock watchdog (R353, R354) -/

/-- The semaphores on which a queue is held without a break since 1 ms ago or earlier: those of its held item, or of its taken
descriptors, that cannot be satisfied. -/
def State.heldOn (s : State) (q : Nat) : List Nat :=
  let Q := s.queue q
  let old := fun (t : Nat) => decide (t + 1000000 ≤ s.ft.toNat)
  let own := match Q.held, Q.waitSince with
    | some h, some t => if !h.satisfied && old t then (itemWaits Q.kind h.item) else []
    | _, _ => []
  let mine := (s.qs.descs.filter fun d =>
    decide (d.queue = q) && decide (d.stage = .waiting) && !d.satisfied && old d.since).map fun d => itemWaits 0 d.item
  s.unmet own ++ mine.flatten

/-- Does the ring of a queue hold, between `done` and `tail`, an item that signals a semaphore (R353)? -/
def State.signals (s : State) (q i : Nat) : Bool :=
  let Q := s.queue q
  (List.range (Q.tail - Q.done).toNat).any fun k =>
    itemRel s.fab.chipNum Q.kind (s.ringItem Q (Q.done + BitVec.ofNat 32 k)) == some i

/-- The queues that a queue waits for. -/
def State.waitsFor (s : State) (q : Nat) : List Nat :=
  let l := s.heldOn q
  if l.isEmpty then [] else (s.qs.queues.filter fun e => e.2.enabled && l.any fun i => s.signals e.1 i).map (·.1)

/-- The queues reached from a list through waits; `fuel` is at least the number of queues. -/
def State.reached : Nat → State → List Nat → List Nat
  | 0, _, l => l
  | fuel + 1, s, l => State.reached fuel s (l ++ (l.map s.waitsFor).flatten).eraseDups

/-- The queues that stand in a cycle. -/
def State.cyclic (s : State) : List (Nat × Queue) :=
  s.qs.queues.filter fun e => (State.reached s.qs.queues.length s (s.waitsFor e.1)).contains e.1

/-- The youngest of a list of queues, by `enable_ft` and then by number. -/
def youngestOf (l : List (Nat × Queue)) : Option (Nat × Queue) :=
  l.foldl
    (fun (b : Option (Nat × Queue)) e =>
      match b with
      | none => some e
      | some f => if f.2.enableFt ≤ e.2.enableFt then some e else b)
    none

/-- The youngest member of a cycle failed: its held item ends with DEADLOCK_DETECTED, its other taken items are discarded. -/
def State.failQueue (s : State) (q other : Nat) : State :=
  let held := s.qs.descs.find? fun d => decide (d.queue = q) && decide (d.stage = .waiting) && !d.satisfied
  let rest := s.qs.descs.filter fun d => decide (d.queue = q) && decide (some d.id ≠ held.map (·.id))
  let s := match held with
    | some d => (s.dropWaiter (.desc d.id)).failDesc d .deadlockDetected
    | none => (s.dropWaiter (.item q)).endItem q .deadlockDetected
  let s := rest.foldl (fun (t : State) d => (((t.dropWaiter (.desc d.id)).dropBeats d.id).havocDest d).dropDesc d) s
  let s := s.stopQueue q 6
  let s := (s.bumpSeen 0xC008 0xC000 0).lifeAdd 13 1
  (s.setReg 0xC010 (BitVec.ofNat 64 (q * 2 ^ 44 + other * 2 ^ 24))).logEvent .deadlockDetected 5 q other

/-- One evaluation: every cycle that stands is broken; `fuel` is at least the number of queues. -/
def State.watchdog : Nat → State → State
  | 0, s => s
  | fuel + 1, s =>
    match youngestOf s.cyclic with
    | none => s
    | some e =>
      let other := ((s.waitsFor e.1).find? fun o => o == e.1 || (State.reached s.qs.queues.length s (s.waitsFor o)).contains e.1).getD e.1
      State.watchdog fuel (s.failQueue e.1 other)

/-! ### Commands -/

/-- Something that happens to a descriptor in flight; nothing where there is none of that identity. -/
def State.toDesc (s : State) (id : Nat) (f : State → Desc → State) : State :=
  match s.desc id with
  | some d => f s d
  | none => s

/-- COPY (R324 to R328, R333 to R337). -/
def execCopy (q : Nat) (s : State) : Host.Outcome State Fault Refusal := ifUnit (isQueue q) "queue" (s.serveCopy q 0)

/-- ADD (R329). -/
def execAdd (q : Nat) (s : State) : Host.Outcome State Fault Refusal := ifUnit (isQueue q) "queue" (s.serveCopy q 1)

/-- ATOMIC (R330). -/
def execAtomic (q : Nat) (s : State) : Host.Outcome State Fault Refusal := ifUnit (isQueue q) "queue" (s.serveCopy q 2)

/-- SIGNAL (R331). -/
def execSignal (q : Nat) (s : State) : Host.Outcome State Fault Refusal := ifUnit (isQueue q) "queue" (s.serveCopy q 3)

/-- DESCRIPTOR_COMPLETE (R332, R336, R339, R348). -/
def execDescriptorComplete (id : Nat) (s : State) : Host.Outcome State Fault Refusal := .next (s.toDesc id State.descComplete)

/-- TRANSIT_WAIT_END (R279). -/
def execTransitWaitEnd (id : Nat) (s : State) : Host.Outcome State Fault Refusal := .next (s.toDesc id State.transitEnd)

/-- FAR_TIMEOUT (R296). -/
def execFarTimeout (id : Nat) (s : State) : Host.Outcome State Fault Refusal := .next (s.toDesc id State.farTimeout)

/-- FALLBACK_FIRE (R300). -/
def execFallbackFire (id : Nat) (s : State) : Host.Outcome State Fault Refusal := .next (s.toDesc id State.deadlineReached)

/-- WATCHDOG_EVAL (R354). -/
def execWatchdogEval (s : State) : Host.Outcome State Fault Refusal := .next (State.watchdog s.qs.queues.length s)

end Sys2Proof.Machine
end

