-- ==== Sys2Proof/Machine/Packets.lean ====
section
/-! DEFINITION. Packets that reach this chip (R335, R439): requests of other chips served and answered, answers to this chip's requests,
synchronisation messages; and the host bridge (R454 to R458, R616). -/

namespace Sys2Proof.Machine

/-! ### What another chip's descriptor needs here -/

/-- Does a descriptor's side on this chip need more than its packets say: the tiered range, tags or widening? -/
def needsPlan (x : BitVec 512) (write : Bool) : Bool :=
  let rows := if dOp x = 2 then [(dDst x, 8)] else if write then dDstRows x else dSrcRows x
  (rows.any fun r => match regionOf (addrLocal r.1) with
    | .tiered _ => true
    | _ => false) || (write && decide (dOp x = 0) && (dWiden x || decide (dTag x ≠ 0)))

/-- What is still to come for each row: bytes on the wire, or for an ADD or an ATOMIC its requests. -/
def planLeft (x : BitVec 512) (write : Bool) : List (Nat × Nat) :=
  if dOp x = 2 then [(0, 1)]
  else
    (List.range (dRows x)).map fun k =>
      (k, if write && decide (dOp x = 1) then (blocksOf (rowAddr (dDst x) (dDstPitch x) k) (dLen x)).length else dLen x)

/-- A descriptor of another chip that has passed its check here. -/
def State.addPlan (s : State) (src : Nat) (x : BitVec 512) (write : Bool) : State :=
  if dOp x ≤ 2 ∧ needsPlan x write = true then
    let others := s.fab.plans.filter fun p => !(decide (p.src = src ∧ p.item = x) && (p.write == write))
    let p : Plan := { src := src, item := x, write := write, left := planLeft x write }
    { s with fab.plans := others ++ [p] }.someTranslate (s.tieredPages p.rows)
  else s

/-- A descriptor of another chip that has ended: its references go (R278). -/
def State.endPlan (s : State) (src : Nat) (x : BitVec 512) : State :=
  { s with fab.plans := s.fab.plans.filter fun p => !decide (p.src = src ∧ p.item = x) }

/-- The row of a plan that holds [a, a + n), on the wire, and still misses bytes or requests. -/
def Plan.rowOf (p : Plan) (a n : Nat) : Option Nat :=
  let x := p.item
  if dOp x = 2 then if a = addrLocal (dDst x) ∧ p.left.any (fun e => decide (0 < e.2)) then some 0 else none
  else
    (List.range (dRows x)).find? fun k =>
      let b := addrLocal (if p.write then rowAddr (dDst x) (dDstPitch x) k else rowAddr (dSrc x) (dSrcPitch x) k)
      p.left.any (fun e => decide (e.1 = k ∧ 0 < e.2)) &&
      (if p.write && decide (dOp x = 1) then decide (b / 64 * 64 ≤ a ∧ a < b + dLen x) else decide (b ≤ a ∧ a + n ≤ b + dLen x))

/-- The plan that an access of a chip belongs to, with its row. -/
def State.planOf (s : State) (src : Nat) (write : Bool) (a n : Nat) : Option (Plan × Nat) :=
  s.fab.plans.findSome? fun p =>
    if decide (p.src = src) && (p.write == write) then (p.rowOf a n).map fun k => (p, k) else none

/-- A plan with `n` fewer missing in row `k`. -/
def Plan.less (p : Plan) (k n : Nat) : Plan := { p with left := p.left.map fun e => if e.1 = k then (k, e.2 - n) else e }
/-- Has a row come whole? -/
def Plan.rowDone (p : Plan) (k : Nat) : Bool := p.left.all fun e => decide (e.1 ≠ k ∨ e.2 = 0)

/-- A plan replaced by its next state; it holds its references until its sender says that the descriptor has ended. -/
def State.setPlan (s : State) (old new : Plan) : State :=
  { s with fab.plans := s.fab.plans.map fun p => if p = old then new else p }

/-- The first beat of a descriptor of another chip raises the generations of the objects it writes (R281). -/
def State.planBegin (s : State) (p : Plan) : State := if p.begun || !p.write then s else s.bumpWritten p.item

/-- Bytes that a descriptor of another chip moves to or from far pages here counted (R282). -/
def State.countPlan (s : State) (write : Bool) (a n : Nat) : State :=
  match regionOf a with
  | .tiered o => s.countFarAll write o n
  | _ => s

/-- Must an access of another chip's descriptor wait: for a page in transit (R279), or for an unreachable pool (R296)? -/
def State.mustPark (s : State) (p : Packet) : Bool :=
  let w := decide (p.ptype ≠ .read)
  let n := if p.ptype = .read then p.lenM1 + 1 else if p.ptype = .atomic then 8 else if p.ptype = .add then 64 else p.data.length
  (s.planOf p.src w p.addr n).isSome &&
  (match regionOf p.addr with
    | .tiered o => (pagesOf o n).any fun b => s.inTransit b || s.unreachable b
    | _ => false)

/-! ### Buffers of neighbours' queues (R344, R345) -/

/-- A neighbour's registration of a buffer: refused where it overlaps another, where a limit of this chip would be exceeded, or where no
ACTIVE port's identity exchange names that neighbour. -/
def State.registerBuffer (s : State) (b : BufReg) (chip : Nat) : State × Status :=
  let others := s.qs.buffers.filter fun e => e.chip.isSome && !(decide (e.chip = some chip) && decide (e.queue = b.queue))
  let t := { s with qs.buffers := s.qs.buffers.filter (fun e => e.chip.isNone) ++ others ++ [b] }
  let named := (List.range Config.ports).any fun p => decide ((s.port p).link = .active) && (s.expectedPeer p).any fun e => decide (e.1 = chip)
  let fits :=
    match regionOf b.base with
    | .near _ => decide (t.memSlots ≤ s.dictNat 0x4400 4)
    | .tile c _ => decide (t.windowSlots c ≤ 36)
    | _ => false
  if named && fits && bufferPlace b.base b.size && !others.any (fun e => overlaps b.base b.size e.base e.size) then (t, .ok)
  else (s, .admissionRefused)

/-! ### Requests (R439) -/

/-- May bytes be written, or read, at a local address from outside the chip: mapped, off no page taken off line, outside the firmware
region for a write, and a window access of 4 or 8 aligned bytes? The tiered range is reached only by descriptors. -/
def State.outerOk (s : State) (write : Bool) (a n : Nat) : Bool :=
  match s.region a with
  | .near p => decide (p + n ≤ Config.nearBytes) && !s.touchesOffline p n && !(write && touchesFw p n)
  | .tile _ o => decide (o + n ≤ 0xE1C000)
  | .window o => winOk o n
  | _ => false

/-- Bytes written here for another chip. -/
def State.serveWrite (s : State) (src a : Nat) (bytes : List Byte) : State × Status :=
  match s.planOf src true a bytes.length with
  | none => if s.outerOk true a bytes.length then s.writeRow a bytes else (s, .pageFault)
  | some (p, k) =>
    let x := p.item
    let s := s.planBegin p
    let b := addrLocal (rowAddr (dDst x) (dDstPitch x) k)
    let q := { p.less k bytes.length with begun := true }
    if dWiden x then
      let q := { q with data := storeBytes p.data (k * 2 ^ 33 + (a - b)) bytes }
      let s := s.setPlan p q
      if q.rowDone k then s.landRow x k (loadBytes q.data (k * 2 ^ 33) (dLen x)) else (s, .ok)
    else
      let w := s.writeRow a bytes
      let s := (w.1.countPlan true a bytes.length).setPlan p q
      (if q.rowDone k then s.landTag x b else s, w.2)

/-- Bytes read here for another chip. What is refused or cannot be read delivers bytes that nothing constrains. -/
def State.serveRead (s : State) (src a n : Nat) : State × Status × List Byte :=
  let refused := fun (t : State) (st : Status) => let f := t.freeBytes n; (f.2, st, f.1)
  match s.planOf src false a n with
  | none =>
    if s.outerOk false a n then
      let r := s.readRow a n
      if r.2.1 = .ok then r else refused r.1 r.2.1
    else refused s .pageFault
  | some (p, k) =>
    let r := s.readRow a n
    let t := (r.1.countPlan false a n).setPlan p { p.less k n with begun := true }
    if r.2.1 = .ok then (t, r.2) else refused t r.2.1

/-- An add request of another chip. -/
def State.serveAdd (s : State) (p : Packet) : State :=
  let who := Requester.fabric p.src p.tag
  let mask := leNat (p.data.take 4)
  let x := p.aux
  let tiered := match regionOf p.addr with
    | .tiered _ => true
    | _ => false
  let plan := s.planOf p.src true p.addr 64
  let s := match plan with
    | some (q, k) => (s.planBegin q).setPlan q { q.less k 1 with begun := true }
    | none => s
  match s.atomicTarget p.addr with
  | some a =>
    if (tiered && plan.isNone) || s.touchesOffline a 64 || touchesFw a 64 then s.completeReq who .pageFault
    else
      let s := match regionOf p.addr with
        | .tiered o => s.touchPage o
        | _ => s
      s.addArrive {
        block := a / 64, fmt := bits x 1 0, data := p.data.drop 4, mask := mask, ordered := bitAt x 2, oseq := bits x 9 4,
        olast := bitAt x 3, sender := who }
  | none => s.completeReq who .pageFault

/-- An atomic operation of another chip: the status, and the old value that its answer carries. -/
def State.serveAtomic (s : State) (p : Packet) : State × Status × Nat :=
  let f := fun (o n : Nat) => leNat ((p.data.drop o).take n)
  let tiered := match regionOf p.addr with
    | .tiered _ => true
    | _ => false
  let plan := s.planOf p.src true p.addr 8
  let s := match plan with
    | some (q, k) => s.setPlan q { q.less k 1 with begun := true }
    | none => s
  if 0x11 ≤ f 0 4 ∨ 144 ≤ f 4 4 then (s, .reservedNonzero, 0)
  else if tiered && plan.isNone then (s, .pageFault, 0)
  else s.atomicHere p.addr (f 0 4) (f 4 4) (f 8 8) (f 16 8)

/-- A check asked for by another chip: of an extent of chain data, of one side of a descriptor, or of a buffer that a queue registers
(64-bit queue, size and slots; 0 slots withdraw it). The manual states no body of a CHECK packet. -/
def State.serveCheck (s : State) (p : Packet) : State × Status :=
  let f := fun (o n : Nat) => leNat ((p.data.drop o).take n)
  if p.data.length = 24 then
    let b : BufReg := { chip := some p.src, queue := f 0 8, base := p.addr, size := f 8 8, slots := f 16 8 }
    if b.slots = 0 then
      ({ s with qs.buffers := s.qs.buffers.filter fun e => !(decide (e.chip = b.chip) && decide (e.queue = b.queue)) }, .ok)
    else s.registerBuffer b p.src
  else if p.data.length = 16 then
    (s, if s.touchesOffline p.addr (f 0 8) then .pageFault else holderCheck p.addr (f 0 8))
  else if p.data.length = 72 then
    let x : BitVec 512 := BitVec.ofNat 512 (f 0 64)
    let mode := f 68 4
    if mode = 2 then (s, need (s.genOk x) .staleSource)
    else if mode = 3 then (s.endPlan p.src x, .ok)
    else
      let st := s.peerCheck (f 64 4) x (decide (mode = 1))
      (if st = .ok ∨ st = .staleSource then s.addPlan p.src x (decide (mode = 1)) else s, st)
  else (s, .reservedNonzero)

/-- An answer that carries an old value. -/
def State.answerOld (s : State) (p : Packet) (st : Status) (old : Nat) : State :=
  s.sendOn { mkPacket .cmpl p.src p.addr (leBytes 8 old) st.code with src := s.fab.chipNum, tag := p.tag }

/-! ### Host answers (R455) -/

/-- An answer to the host. -/
def State.hostAnswer (s : State) (off : Nat) (a : HostAns) : State := { s with fab.hostOut := (off, a) :: s.fab.hostOut }

/-- A host write refused: discarded, counted and recorded. -/
def State.hostError (s : State) (off : Nat) (st : Status) : State :=
  ((s.bump 0xE030 1).count st).faultRec 0xE004 2 [(0xE038, BitVec.ofNat 64 off), (0xE040, BitVec.ofNat 64 st.code)]

/-- A host read that has ended. -/
def State.hostReadEnd (s : State) (off : Nat) (st : Status) (bytes : List Byte) : State :=
  if st = .ok then (s.bump 0xE048 bytes.length).hostAnswer off (.data bytes) else (s.count st).hostAnswer off .abort

/-! ### Answers (R439) -/

/-- What the answer to a request of this chip to `chip` brings: its status, and the old value of an atomic operation. -/
def State.settle (s : State) (why : Purpose) (chip : Nat) (st : Status) (old : Nat) : State :=
  match why with
  | .descCheck id => s.descCheckAck id st
  | .descWrite id => s.descAck id st
  | .descAdd id => s.descAck id st
  | .descRead id _ => s.descReadEnd id st
  | .descAtomic id => s.descOld id st old
  | .farSignal sem => if st = .ok then s else s.signalLost st chip sem
  | .chain core id => s.chainAck core id st
  | .chainCheck core => s.chainCheckAck core st
  | .lateClaim core => s.claimAck core st old
  | .scHeader e => s.scAck e .header st
  | .scData e => s.scAck e .data st
  | .scCrc e => s.scAck e .crc st
  | .scSeal e => s.scAck e .seal st
  | .sync => s
  | .hostRead off => s.hostReadEnd off st []
  | .hostWrite off => if st = .ok then s else s.hostError off st
  | .dict p m => if st = .ok then s else s.dictLost p m st

/-- The request of this chip that an answer names, taken off the list. -/
def State.takeReq (s : State) (tag from_ : Nat) : State × Option OutReq :=
  match s.fab.outReqs.find? fun r => decide (r.tag = tag) && decide (r.dst = from_) with
  | some r => ({ s with fab.outReqs := s.fab.outReqs.erase r }, some r)
  | none => (s, none)

/-- A CMPL. -/
def State.cmplIn (s : State) (p : Packet) : State :=
  let r := s.takeReq p.tag p.src
  match r.2 with
  | some o => r.1.settle o.why o.dst (Status.ofCode (p.aux % 2 ^ 15)) (leNat p.data)
  | none => s

/-- Where a read for row `k` of a descriptor starts, and how long the row is. -/
def readRowOf (x : BitVec 512) (k : Nat) : Nat × Nat :=
  let n := dRows x
  let a := fun (i : Nat) => addrLocal (rowAddr (dSrc x) (dSrcPitch x) i)
  if k < n then (a k, dLen x) else (tagStoreOf (a (k - n)), dLen x / 2048 * 16)

/-- READ_DATA: the bytes kept; with the last of a read its status. -/
def State.readDataIn (s : State) (p : Packet) : State :=
  match s.fab.outReqs.find? fun r => decide (r.tag = p.tag) && decide (r.dst = p.src) with
  | none => s
  | some o =>
    let st := Status.ofCode (p.aux % 2 ^ 15)
    match o.why with
    | .descRead id k =>
      (match s.desc id with
        | none => (s.takeReq p.tag p.src).1
        | some d =>
          let r := readRowOf d.item k
          let s := s.descData id k (p.addr - r.1) p.data
          if p.addr + p.data.length = min (r.1 + r.2) ((o.addr / 4096 + 1) * 4096) then
            (s.takeReq p.tag p.src).1.descReadEnd id st
          else s)
    | .hostRead off => (s.takeReq p.tag p.src).1.hostReadEnd off st p.data
    | _ => s

/-- The requests of this chip whose packets were discarded end with LINK_RETRY_EXHAUSTED (R443). -/
def State.settleLost (s : State) : State :=
  let l := s.fab.lost
  l.foldl
    (fun (t : State) tag =>
      match t.fab.outReqs.find? fun r => decide (r.tag = tag) with
      | some r => { t with fab.outReqs := t.fab.outReqs.erase r }.settle r.why r.dst .linkRetryExhausted 0
      | none => t)
    { s with fab.lost := [] }

/-! ### Synchronisation and dictionary messages -/

/-- Numbers of two bytes each. -/
def chipList (l : List Byte) : List Nat := (List.range (l.length / 2)).map fun i => leNat ((l.drop (2 * i)).take 2)

/-- The message between members of a FABRIC barrier that a SYNC packet carries. A release is forwarded to the members that it names. -/
def State.barrierIn (s : State) (p : Packet) : State :=
  let b := (p.addr - barAddr 0) / 64
  let v := leNat (p.data.take 8)
  let me := s.fab.chipNum
  let root := if (s.bar b).rootChip = me then me else p.src
  let round : W32 := BitVec.ofNat 32 v
  let count := bits v 53 40
  let dests := chipList (p.data.drop 8)
  match bits v 39 32 with
  | 0 => s.arrivalAtRoot b round (some count)
  | 1 =>
    let t := if dests.isEmpty || dests.contains me then s.releaseAtMember b p.src round (some count) else s
    t.treeSend b p.src count round (dests.filter (· ≠ me))
  | 2 => s.faultMessage b root false
  | _ => s.faultMessage b root true

/-- A member's announcement of its link states (R434). -/
def State.linkAnnounce (s : State) (chip up : Nat) : State :=
  if chipGroup chip = chipGroup s.fab.chipNum then
    { s with fab.linkUp := Store.set 0 s.fab.linkUp (chipMember chip) up }.lostMembers.poolRoutes
  else s

/-- A dictionary request that another chip of the group forwards: the requester's identity and role, then the message (R555). -/
def State.dictIn (s : State) (p : Packet) : State :=
  let id := leNat (p.data.take 8)
  s.handle (.forwarded (bitAt id 8) (id % 256) p.src (bits id 18 16)) p.tag (msgOf (p.data.drop 8))

/-- The response to a request that this chip forwarded. -/
def State.dictReply (s : State) (p : Packet) : State :=
  let r := s.takeReq p.tag p.src
  match r.2 with
  | some o =>
    (match o.why with
      | .dict path m => r.1.finish path 0 m (msgOf p.data)
      | _ => s)
  | none => s

/-- A SYNC packet, by its address. -/
def State.syncIn (s : State) (p : Packet) : State :=
  if barAddr 0 ≤ p.addr ∧ p.addr < barAddr Config.bars then s.barrierIn p
  else if p.addr = 0x20000000D000 then s.linkAnnounce p.src (leNat p.data)
  else if p.addr = dictReqAddr then s.dictIn p
  else if p.addr = dictRespAddr then s.dictReply p
  else s

/-- A SIGNAL packet: the semaphore at its address is signalled here; a failure is recorded here (R368). -/
def State.signalIn (s : State) (p : Packet) : State :=
  if semAddr 0 ≤ p.addr ∧ p.addr < semAddr Config.sems ∧ p.addr % 16 = 0 then
    (s.signalSem ((p.addr - semAddr 0) / 16)).answer p .ok
  else s.answer p .pageFault

/-- The status that a packet's header is given (R11, R12, R439): its version, its type, and what its type leaves 0 in `len_m1` and `aux`. -/
def packetStatus (p : Packet) : Status :=
  firstBad
    [need (p.version == 1) .versionUnsupported,
     need (match p.ptype with
       | .rsvd _ => false
       | .add => decide (bits p.aux 14 10 = 0)
       | .cmpl | .readData => true
       | _ => decide (bits p.aux 14 0 = 0)) .reservedNonzero,
     need (decide (p.ptype = .read) || !p.data.isEmpty || decide (p.lenM1 = 0)) .reservedNonzero]

/-- An answer that carries no data of a request refused. -/
def State.refuse (s : State) (p : Packet) (st : Status) : State :=
  if p.ptype = .read then
    let f := s.freeBytes (p.lenM1 + 1)
    f.2.sendOn { mkPacket .readData p.src p.addr f.1 st.code with src := s.fab.chipNum, tag := p.tag }
  else if asksAnswer p then s.answer p st
  else s

/-- A packet that has reached its destination: one whose header is rejected has no effect, and is counted (R11, R12). -/
def State.packetServe (s : State) (p : Packet) : State :=
  if packetStatus p ≠ .ok then (s.count (packetStatus p)).refuse p (packetStatus p)
  else
  match p.ptype with
  | .write =>
    let r := s.serveWrite p.src p.addr p.data
    r.1.answer p r.2
  | .read =>
    let r := s.serveRead p.src p.addr (p.lenM1 + 1)
    r.1.sendOn { mkPacket .readData p.src p.addr r.2.2 r.2.1.code with src := r.1.fab.chipNum, tag := p.tag }
  | .readData => s.readDataIn p
  | .add => s.serveAdd p
  | .atomic =>
    let r := s.serveAtomic p
    r.1.answerOld p r.2.1 r.2.2
  | .signal => s.signalIn p
  | .check =>
    let r := s.serveCheck p
    r.1.answer p r.2
  | .cmpl => s.cmplIn p
  | .sync => s.syncIn p
  | .rsvd _ => s

/-- A packet that has reached its destination served, or kept while it must wait. -/
def State.packetIn (s : State) (p : Packet) : State :=
  match p.ptype with
  | .write | .read | .add | .atomic =>
    if s.mustPark p && decide (packetStatus p = .ok) then { s with fab.parked := s.fab.parked ++ [(s.ft.toNat, p)] } else s.packetServe p
  | _ => s.packetServe p

/-- A packet that waits here: served once its pages are there, refused with DEADLINE_MISSED once it has waited `FAR_TIMEOUT_US` for an
unreachable pool (R279, R296). -/
def State.unpark (s : State) (e : Nat × Packet) : State :=
  let out : State := { s with fab.parked := s.fab.parked.erase e }
  let moving :=
    match regionOf e.2.addr with
    | .tiered o => s.inTransit o
    | _ => false
  if !s.mustPark e.2 then out.packetServe e.2
  else if moving then s.bump 0xB040 1
  else if e.1 + 1000 * s.dictNat 0x4300 4 ≤ s.ft.toNat then
    out.refuse e.2 .deadlineMissed
  else s

/-- The packets that wait here, each control cycle. -/
def State.unparkAll (s : State) : State := s.fab.parked.foldl State.unpark s

/-- A packet that comes in by a port: served here, or sent on; the source of one that no route serves is told (R435). -/
def State.packetArrives (s : State) (port : Nat) (p : Packet) : State :=
  let s := s.bump (portOff port 0x58) (packetBytes p)
  if p.dst = s.fab.chipNum then s.packetIn p
  else
    let r := s.transit port p
    if r.2 || !asksAnswer p then r.1 else r.1.answer p .linkRetryExhausted

/-! ### Packet rows -/

/-- Is a packet one of a row's type, with data of the length that its type has? -/
def packetOk (t : PType) (p : Packet) : Bool :=
  decide (p.ptype = t) && isChip p.src && isChip p.dst && decide (p.addr < 2 ^ 48 ∧ p.data.length ≤ 4096 ∧ p.lenM1 < 4096 ∧ p.tag < 16384) &&
  (match t with
    | .add => decide (p.data.length = 68 ∧ p.addr % 64 = 0)
    | .atomic => decide (p.data.length = 24)
    | .write => decide (p.data ≠ [])
    | .readData => decide (p.data ≠ [])
    | _ => true)

/-- A packet of a row that has reached this chip. -/
def packetRow (t : PType) (p : Packet) (s : State) : Host.Outcome State Fault Refusal :=
  ifUnit (packetOk t p) "packet" (if p.dst = s.fab.chipNum ∧ s.regsLive = true then (s.packetIn p).settleLost else s)

/-- WRITE (R439). -/
def execWritePacket (p : Packet) (s : State) : Host.Outcome State Fault Refusal := packetRow .write p s
/-- READ (R439). -/
def execRead (p : Packet) (s : State) : Host.Outcome State Fault Refusal := packetRow .read p s
/-- READ_DATA (R439). -/
def execReadData (p : Packet) (s : State) : Host.Outcome State Fault Refusal := packetRow .readData p s
/-- ADD (R439, R256). -/
def execAddPacket (p : Packet) (s : State) : Host.Outcome State Fault Refusal := packetRow .add p s
/-- ATOMIC (R439, R242). -/
def execAtomicPacket (p : Packet) (s : State) : Host.Outcome State Fault Refusal := packetRow .atomic p s
/-- SIGNAL (R439, R332). -/
def execSignalPacket (p : Packet) (s : State) : Host.Outcome State Fault Refusal := packetRow .signal p s
/-- CHECK (R335). -/
def execCheck (p : Packet) (s : State) : Host.Outcome State Fault Refusal := packetRow .check p s
/-- CMPL (R439). -/
def execCmpl (p : Packet) (s : State) : Host.Outcome State Fault Refusal := packetRow .cmpl p s

/-! ### The host bridge (R454 to R458, R616) -/

/-- Is this device the bridge of its group (R430)? -/
def State.isBridge (s : State) : Bool := decide (chipMember s.fab.chipNum = 0)

/-- A host request to BAR2: through its aperture to a fabric address. -/
def State.hostRequest (s : State) (isWrite : Bool) (off len : Nat) (bytes : List Byte) : State :=
  let h := s.dictNat 0x3111 (off / 2 ^ 30 + 1)
  let chip := bits h 61 48
  let a := bits h 47 30 * 2 ^ 30 + off % 2 ^ 30
  if !bitAt h 63 then s.hostAnswer off .unsupported
  else if isWrite then
    let s := s.bump 0xE050 len
    if chip = s.fab.chipNum then
      let w := if s.outerOk true a len then s.writeRow a bytes else (s, .pageFault)
      if w.2 = .ok then w.1 else w.1.hostError off w.2
    else
      let r := s.request (.hostWrite off) (mkPacket .write chip a bytes)
      if r.2 then r.1 else r.1.hostError off .linkRetryExhausted
  else if chip = s.fab.chipNum then
    let r := if s.outerOk false a len then s.readRow a len else (s, .pageFault, [])
    r.1.hostReadEnd off r.2.1 r.2.2
  else
    let r := s.request (.hostRead off) (mkPacket .read chip a [] 0 len)
    if r.2 then r.1 else r.1.hostReadEnd off .linkRetryExhausted []

/-- Does the bridge take requests of the host: its link up and PERST_N released? -/
def State.hostLinked (s : State) : Bool := s.isBridge && s.fab.pcieUp && !s.fab.perst

/-- A host request to BAR2 is at most 512 bytes written or 4,096 read, within 4 KiB (R454). -/
def hostReqOk (isWrite : Bool) (off len : Nat) (bytes : List Byte) : Bool :=
  decide (off + len ≤ 2 ^ 36 ∧ 0 < len ∧ off % 4096 + len ≤ 4096) && (if isWrite then decide (len ≤ 512 ∧ bytes.length = len) else bytes.isEmpty)

/-- HOST_APERTURE_REQUEST (R455). -/
def execHostApertureRequest (isWrite : Bool) (off len : Nat) (data : List Byte) (s : State) : Host.Outcome State Fault Refusal :=
  ifUnit (hostReqOk isWrite off len data) "host request"
    (if s.hostLinked && s.regsLive then (s.hostRequest isWrite off len data).settleLost else s)

/-- The value of a dword of configuration space. PRESUMED: the places are those of the PCI base specification, which the manual names
without stating them; a dword that the manual says nothing of is a free value. -/
def State.cfgRead (s : State) (o : Nat) : State × W32 :=
  let kept := Store.get 0 s.fab.cfgRegs o
  match o with
  | 0x00 => (s, BitVec.ofNat 32 (s.dictNat 0x1000 3))
  | 0x04 => (s, BitVec.ofNat 32 (0x100000 + 4 * b2n s.fab.busMaster + (kept &&& 0x2).toNat))
  | 0x10 => (s, (kept &&& 0xFC000000) ||| 0x4)
  | 0x14 => (s, kept)
  | 0x18 => (s, 0xC)
  | 0x1C => (s, kept &&& 0xFFFFFFF0)
  | 0x20 => (s, 0)
  | 0x24 => (s, 0)
  | _ =>
    let f := s.freeWord
    (f.2, if o = 0x08 then BitVec.ofNat 32 (0x12000000 + f.1.toNat % 256) else BitVec.ofNat 32 f.1.toNat)

/-- A write of a dword of configuration space: the command register's Memory Space and Bus Master Enable, and the base addresses. -/
def State.cfgWrite (s : State) (o : Nat) (v : W32) : State :=
  if o = 0x04 then
    { s with fab.busMaster := v.getLsbD 2, fab.cfgRegs := Store.set 0 s.fab.cfgRegs o v }.poolRoutes
  else if o = 0x10 ∨ o = 0x14 ∨ o = 0x1C then { s with fab.cfgRegs := Store.set 0 s.fab.cfgRegs o v }
  else s

/-- A configuration request: Request Retry Status until the device has entered CONFIG (R458). -/
def State.cfgRequest (s : State) (isWrite : Bool) (o : Nat) (v : W32) : State :=
  if !s.regsLive then s.hostAnswer o .retry
  else if isWrite then (s.cfgWrite o v).hostAnswer o .done
  else
    let r := s.cfgRead o
    r.1.hostAnswer o (.data (leBytes 4 r.2.toNat))

/-- PCIE_CONFIG_REQUEST (R458). -/
def execPcieConfigRequest (isWrite : Bool) (off : Nat) (val : W32) (s : State) : Host.Outcome State Fault Refusal :=
  ifUnit (decide (off < 4096 ∧ off % 4 = 0)) "configuration register"
    (if s.hostLinked then s.cfgRequest isWrite off val else s)

/-- The state of the bridge's PCIe function cleared: apertures, outbound table and MSI-X (R454). -/
def State.clearFunction (s : State) : State :=
  let s := (List.range 64).foldl (fun (t : State) i => (t.setDictNat 0x3110 (i + 1) 0).setDictNat 0x3111 (i + 1) 0) s
  { s with fab.msix := [], fab.busMaster := false, fab.cfgRegs := [] }.poolRoutes

/-- FLR (R454, R458): host far pools are unreachable while it is under way, and after it until bus mastering is on again. -/
def execFlr (s : State) : Host.Outcome State Fault Refusal :=
  .next (if s.hostLinked then s.clearFunction else s)

/-- PERST_N asserted (R458, R616): only the bridge's PCIe controller is reset. -/
def execPerstN (s : State) : Host.Outcome State Fault Refusal :=
  let t := { s with fab.perst := true }
  .next
    (if s.isBridge then
      { t with
        fab.pcieUp := false, fab.busMaster := false, fab.pcieWidth := 0, fab.pcieRate := 0, fab.cfgRegs := [],
        fab.msix := [] }.poolRoutes
    else t)

/-- PERST_N released (R458): the link trains, at a width and rate that the host and the board decide. -/
def execPerstNRelease (s : State) : Host.Outcome State Fault Refusal :=
  let t := { s with fab.perst := false }
  .next
    (if s.isBridge && s.fab.perst then
      let f := t.freeWord
      { f.2 with fab.pcieUp := true, fab.pcieWidth := f.1.toNat % 5, fab.pcieRate := f.1.toNat / 8 % 6 + 1 }
    else t)

end Sys2Proof.Machine
end

