-- ==== Sys2Proof/Machine/Links.lean ====
section
/-! DEFINITION. Commands of the fabric ports (R437 to R449, R637), of the time exchange (R45, R450, R451) and of the announcements of
link states (R434). -/

namespace Sys2Proof.Machine

/-! ### Flits (R438 to R442) -/

/-- Does a port take flits other than IDENT: ACTIVE, a port that is being disabled among them? -/
def State.portOpen (s : State) (p : Nat) : Bool := decide ((s.port p).link = .active)

/-- A field of a flit's link header (R438). -/
def wireHdr (w : FlitWire) (hi lo : Nat) : Nat := bits (leNat (w.bytes.take 8)) hi lo

/-- The link header of a flit, little-endian (R438). -/
def linkHeader (ftype seq ack crVc credits vc first : Nat) : List Byte :=
  leBytes 8 (ftype * 2 ^ 60 + seq * 2 ^ 48 + ack * 2 ^ 36 + crVc * 2 ^ 34 + credits * 2 ^ 28 + vc * 2 ^ 26 + first * 2 ^ 20)

/-- The flit that a sender forms of a header and a body of 244 bytes: its CRC-32 covers both (R438). -/
def flitWire (header body : List Byte) : FlitWire := { bytes := header ++ body, crc := crc32 (header ++ body) }

/-- Does a flit carry 252 bytes before its CRC, and the acknowledgement and credits that a command says? -/
def wireSays (w : FlitWire) (ack crVc credits : Nat) : Bool :=
  decide (w.bytes.length = 252 ∧ wireHdr w 47 36 = ack ∧ wireHdr w 35 34 = crVc ∧ wireHdr w 33 28 = credits)

/-- Is a flit received well: its CRC good, no codeword under it uncorrectable, and its type not reserved (R440, R441)? -/
def flitGood (w : FlitWire) (uncorrectable : Nat) : Bool :=
  decide (w.crc = crc32 w.bytes) && decide (uncorrectable = 0) && decide (wireHdr w 63 60 < 5)

/-- A DATA flit that is not accepted: a NAK for the sequence number expected is sent once for each gap. -/
def State.nakGap (s : State) (p : Nat) : State := s.setPort p { s.port p with gapNaked := true }

/-- A DATA flit. -/
def State.dataFlit (s : State) (p : Nat) (good : Bool) (seq ack crVc credits : Nat) (pkts : List Packet) : State :=
  if !good then (s.badFlit p).nakGap p
  else if seq ≠ (s.port p).rxSeq then s.nakGap p
  else
    let s := s.setPort p { s.port p with rxSeq := (seq + 1) % 4096, gapNaked := false }
    (pkts.foldl (fun (t : State) k => t.packetArrives p k) (s.ackPort p ack crVc credits)).settleLost

/-- The acknowledgement and the credits of a flit that carries no packets. -/
def State.plainFlit (s : State) (p : Nat) (good : Bool) (ack crVc credits : Nat) : State :=
  if good then s.ackPort p ack crVc credits else s.badFlit p

/-- A NAK: what comes before the number expected has arrived, and everything from there is sent again. -/
def State.nakFlit (s : State) (p : Nat) (good : Bool) (expected ack crVc credits : Nat) : State :=
  if good then ((s.ackPort p ack crVc credits).ackPort p ((expected + 4095) % 4096) crVc 0).goBack p else s.badFlit p

/-- Are the fields of a link header in range (R438)? -/
def linkFields (seq ack crVc credits : Nat) : Bool := decide (seq < 4096 ∧ ack < 4096 ∧ crVc < 4 ∧ credits < 64)

/-- Is a packet in a flit well formed (R439)? -/
def flitPacket (p : Packet) : Bool := packetOk p.ptype p

/-- DATA_FLIT (R441): received and accepted, or discarded with a NAK. A DATA flit carries packets of one virtual channel only. -/
def execDataFlit (port : Nat) (wire : FlitWire) (corrected uncorrectable seq ack vc crVc credits : Nat) (pkts : List Packet)
    (s : State) : Host.Outcome State Fault Refusal :=
  ifUnit (isPort port && linkFields seq ack crVc credits && wireSays wire ack crVc credits &&
      decide (wireHdr wire 63 60 = 1 ∧ wireHdr wire 59 48 = seq ∧ wireHdr wire 27 26 = vc) && pkts.all flitPacket && pkts.all fun p => packetVc p == vc)
    "port or flit"
    (if s.portOpen port then
      (s.fecReport port corrected uncorrectable).dataFlit port (flitGood wire uncorrectable) seq ack crVc credits pkts
    else s)

/-- IDLE_FLIT (R441), and a flit of a reserved type, which is discarded. The link header of a TIME or IDENT flit, with its acknowledgement
and credits, comes by this row too. -/
def execIdleFlit (port : Nat) (wire : FlitWire) (corrected uncorrectable ack crVc credits : Nat) (s : State) :
    Host.Outcome State Fault Refusal :=
  ifUnit (isPort port && linkFields 0 ack crVc credits && wireSays wire ack crVc credits && decide (wireHdr wire 63 60 = 0 ∨ 3 ≤ wireHdr wire 63 60))
    "port or flit"
    (if s.portOpen port then
      (s.fecReport port corrected uncorrectable).plainFlit port (flitGood wire uncorrectable) ack crVc credits
    else s)

/-- NAK (R442). -/
def execNak (port : Nat) (wire : FlitWire) (corrected uncorrectable expected ack crVc credits : Nat) (s : State) :
    Host.Outcome State Fault Refusal :=
  ifUnit (isPort port && linkFields expected ack crVc credits && wireSays wire ack crVc credits && decide (wireHdr wire 63 60 = 2)) "port or flit"
    (if s.portOpen port then
      (s.fecReport port corrected uncorrectable).nakFlit port (flitGood wire uncorrectable) expected ack crVc credits
    else s)

/-- REPLAY_TIMEOUT (R442): 2 µs without progress of `ack` while flits are outstanding. -/
def execReplayTimeout (port : Nat) (s : State) : Host.Outcome State Fault Refusal :=
  ifUnit (isPort port) "port"
    (if s.portOpen port && decide ((s.port port).lastProgress + 2000 ≤ s.ft.toNat) then s.goBack port else s)

/-! ### Training (R443 to R449) -/

/-- TRAINING_PHASE_TIMEOUT (R445). -/
def execTrainingPhaseTimeout (port : Nat) (s : State) : Host.Outcome State Fault Refusal :=
  ifUnit (isPort port) "port" (if (s.port port).phase = .idle then s else (s.trainFail port).settleLost)

/-- What a training finds is in range: lane masks and positions, and a chip and port of the identity exchange (R446, R448). -/
def trainOk (f : TrainResult) : Bool :=
  decide (f.here < 256 ∧ f.there < 256 ∧ f.inverted < 256 ∧ f.peerPort < 256 ∧ f.places.length = 8) && f.places.all (decide <| · ≤ 8) &&
  isChip f.peerChip

/-- TRAINING_END (R446 to R449). -/
def execTrainingEnd (port : Nat) (found : TrainResult) (s : State) : Host.Outcome State Fault Refusal :=
  ifUnit (isPort port && trainOk found) "port or training"
    (if (s.port port).phase = .idle then s else (s.trainEnd port found).settleLost)

/-- LANE_SER_EXCEED (R447). -/
def execLaneSerExceed (port lane : Nat) (s : State) : Host.Outcome State Fault Refusal :=
  ifUnit (isPort port && decide (lane < 8)) "port or lane"
    (if s.portOpen port && bitAt (s.port port).active lane then s.startFast port else s)

/-- DOWN_RETRY (R444): once a second. -/
def execDownRetry (port : Nat) (s : State) : Host.Outcome State Fault Refusal :=
  ifUnit (isPort port) "port"
    (match (s.port port).nextTry with
     | some t =>
       if (s.port port).link = .down ∧ t ≤ s.ft.toNat then (s.setPort port { s.port port with attempts := 0 }).startFull port else s
     | none => s)

/-- IDENT (R448, R449). -/
def execIdent (port version chip peerPort : Nat) (s : State) : Host.Outcome State Fault Refusal :=
  ifUnit (isPort port && isChip chip && decide (peerPort < 256)) "port or identity" (s.identIn port version chip peerPort).settleLost

/-! ### Time (R45, R450, R451) -/

/-- HOLDOVER_ENTRY (R45, R450), and the growth of the error bound in HOLDOVER. -/
def execHoldoverEntry (s : State) : Host.Outcome State Fault Refusal := .next (if s.regsLive then s.holdover else s)

/-- A member's TIME request: every 64 µs of FT. -/
def State.timeAsk (s : State) : State :=
  let now := s.ft.toNat
  match s.timeParent with
  | some _ =>
    if s.fab.lastAsk + 64000 ≤ now ∨ s.fab.lastAsk = 0 then { s with fab.timeAsked := some now, fab.lastAsk := now } else s
  | none => s

/-- TIME_EXCHANGE (R451). -/
def execTimeExchange (s : State) : Host.Outcome State Fault Refusal := .next (if s.regsLive then s.timeAsk else s)

/-- TIME_FLIT (R451): a request is answered, a reply yields an update. -/
def execTimeFlit (port : Nat) (reply valid holdover : Bool) (errBound : Nat) (t1 t2 t3 : W64) (s : State) :
    Host.Outcome State Fault Refusal :=
  ifUnit (isPort port && decide (errBound < 65536)) "port or time"
    (if !s.portOpen port then s
     else if reply then s.timeReply port valid holdover errBound t1 t2 t3
     else { s with fab.timeSent := (port, s.ft.toNat) :: s.fab.timeSent.filter fun e => e.1 ≠ port })

/-- PPS_EDGE (R450). -/
def execPpsEdge (s : State) : Host.Outcome State Fault Refusal := .next (if s.regsLive then s.ppsEdge else s)

/-- LINK_STATE_ANNOUNCE (R434): a member's announcement; `up` has a bit for each of its ACTIVE ports. -/
def execLinkStateAnnounce (chip up : Nat) (s : State) : Host.Outcome State Fault Refusal :=
  ifUnit (isChip chip && decide (up < 2 ^ Config.ports)) "chip or mask" (s.linkAnnounce chip up)

/-! ### Port control (R449, R459, R637) -/

/-- A write of `PORT_CTRL`, possible once the registers are. -/
def portRow (port : Nat) (s t : State) : Host.Outcome State Fault Refusal :=
  ifUnit (isPort port) "port" (if s.regsLive then t.settleLost else s)

/-- REIDENT (R449). -/
def execReident (port : Nat) (s : State) : Host.Outcome State Fault Refusal := portRow port s (s.portReident port)
/-- PORT_RETRAIN (R459). -/
def execPortRetrain (port : Nat) (s : State) : Host.Outcome State Fault Refusal := portRow port s (s.portRetrain port)
/-- PORT_DISABLE (R637). -/
def execPortDisable (port : Nat) (s : State) : Host.Outcome State Fault Refusal := portRow port s (s.portDisable port)
/-- PORT_DISABLE_COMPLETE (R637): the replay buffer has emptied. -/
def execPortDisableComplete (port : Nat) (s : State) : Host.Outcome State Fault Refusal := portRow port s (s.portDisabled port)
/-- PORT_ENABLE (R459). -/
def execPortEnable (port : Nat) (s : State) : Host.Outcome State Fault Refusal := portRow port s (s.portEnable port)

end Sys2Proof.Machine
end

