-- ==== Sys2Proof/Machine/Dispatch.lean ====
section
/-! DEFINITION. Which meaning each command has: one arm per constructor. -/

namespace Sys2Proof.Machine

def exec (i : Instr) (s : State) : Host.Outcome State Fault Refusal :=
  match i with
  | .registerWrite off size val => Sys2Proof.Machine.execRegisterWrite off size val s
  | .w1cClear off val hwSets => Sys2Proof.Machine.execW1cClear off val hwSets s
  | .cpAccess core op addr size val ups => Sys2Proof.Machine.execCpAccess core op addr size val ups s
  | .rv64aAmo core code wide addr val => Sys2Proof.Machine.execRv64aAmo core code wide addr val s
  | .lr core addr size => Sys2Proof.Machine.execLr core addr size s
  | .sc core addr size val => Sys2Proof.Machine.execSc core addr size val s
  | .holdoverEntry => Sys2Proof.Machine.execHoldoverEntry s
  | .coreFence core => Sys2Proof.Machine.execCoreFence core s
  | .mmaStart q => Sys2Proof.Machine.execMmaStart q s
  | .mmaContinue q => Sys2Proof.Machine.execMmaContinue q s
  | .mmaFinish q => Sys2Proof.Machine.execMmaFinish q s
  | .matrixSave q => Sys2Proof.Machine.execMatrixSave q s
  | .matrixRestore q => Sys2Proof.Machine.execMatrixRestore q s
  | .ftqFlush core => Sys2Proof.Machine.execFtqFlush core s
  | .epi q => Sys2Proof.Machine.execEpi q s
  | .binary q => Sys2Proof.Machine.execBinary q s
  | .statP1 q => Sys2Proof.Machine.execStatP1 q s
  | .statP2 q => Sys2Proof.Machine.execStatP2 q s
  | .smaxAcc q => Sys2Proof.Machine.execSmaxAcc q s
  | .smaxNorm q => Sys2Proof.Machine.execSmaxNorm q s
  | .norm q => Sys2Proof.Machine.execNorm q s
  | .permute q => Sys2Proof.Machine.execPermute q s
  | .shuffle q => Sys2Proof.Machine.execShuffle q s
  | .convert q => Sys2Proof.Machine.execConvert q s
  | .loadTable q => Sys2Proof.Machine.execLoadTable q s
  | .bufClear core => Sys2Proof.Machine.execBufClear core s
  | .fwd q n => Sys2Proof.Machine.execFwd q n s
  | .recomp q n => Sys2Proof.Machine.execRecomp q n s
  | .bwdQ q n => Sys2Proof.Machine.execBwdQ q n s
  | .bwdKv q n => Sys2Proof.Machine.execBwdKv q n s
  | .append q => Sys2Proof.Machine.execAppend q s
  | .prefetch q => Sys2Proof.Machine.execPrefetch q s
  | .release q => Sys2Proof.Machine.execRelease q s
  | .yield core => Sys2Proof.Machine.execYield core s
  | .pageSpillComplete pool frame => Sys2Proof.Machine.execPageSpillComplete pool frame s
  | .useByExpiry pool frame => Sys2Proof.Machine.execUseByExpiry pool frame s
  | .seqSlotWrite slot val => Sys2Proof.Machine.execSeqSlotWrite slot val s
  | .poolWrite pool val => Sys2Proof.Machine.execPoolWrite pool val s
  | .ccClean core => Sys2Proof.Machine.execCcClean core s
  | .ccInvalidate core => Sys2Proof.Machine.execCcInvalidate core s
  | .ccCleanInvalidate core => Sys2Proof.Machine.execCcCleanInvalidate core s
  | .amoIntegerAdd core wide => Sys2Proof.Machine.execAmoIntegerAdd core wide s
  | .amoSignedMinimum core wide => Sys2Proof.Machine.execAmoSignedMinimum core wide s
  | .amoSignedMaximum core wide => Sys2Proof.Machine.execAmoSignedMaximum core wide s
  | .amoUnsignedMinimum core wide => Sys2Proof.Machine.execAmoUnsignedMinimum core wide s
  | .amoUnsignedMaximum core wide => Sys2Proof.Machine.execAmoUnsignedMaximum core wide s
  | .amoSwap core wide => Sys2Proof.Machine.execAmoSwap core wide s
  | .amoCompareAndSwap core wide => Sys2Proof.Machine.execAmoCompareAndSwap core wide s
  | .amoFp32Add core => Sys2Proof.Machine.execAmoFp32Add core s
  | .amoFp32Minimum core => Sys2Proof.Machine.execAmoFp32Minimum core s
  | .amoFp32Maximum core => Sys2Proof.Machine.execAmoFp32Maximum core s
  | .amoResultRead core => Sys2Proof.Machine.execAmoResultRead core s
  | .burstCrcFail addr resends burst => Sys2Proof.Machine.execBurstCrcFail addr resends burst s
  | .odecReport stack corrections => Sys2Proof.Machine.execOdecReport stack corrections s
  | .scrubRead addr ups => Sys2Proof.Machine.execScrubRead addr ups s
  | .addRequest r => Sys2Proof.Machine.execAddRequest r s
  | .addResend ix => Sys2Proof.Machine.execAddResend ix s
  | .writebackResend core ix => Sys2Proof.Machine.execWritebackResend core ix s
  | .stackTempSample stack temp => Sys2Proof.Machine.execStackTempSample stack temp s
  | .create => Sys2Proof.Machine.execCreate s
  | .free => Sys2Proof.Machine.execFree s
  | .migrate => Sys2Proof.Machine.execMigrate s
  | .place => Sys2Proof.Machine.execPlace s
  | .bump => Sys2Proof.Machine.execBump s
  | .transitWaitEnd desc => Sys2Proof.Machine.execTransitWaitEnd desc s
  | .farPoolWrite pool val => Sys2Proof.Machine.execFarPoolWrite pool val s
  | .reachableLoss pool peerReset => Sys2Proof.Machine.execReachableLoss pool peerReset s
  | .reachableRestore pool => Sys2Proof.Machine.execReachableRestore pool s
  | .farTimeout desc => Sys2Proof.Machine.execFarTimeout desc s
  | .fallbackFire desc => Sys2Proof.Machine.execFallbackFire desc s
  | .hwmClear => Sys2Proof.Machine.execHwmClear s
  | .tierEnable => Sys2Proof.Machine.execTierEnable s
  | .enable core q neighbourAdmits => Sys2Proof.Machine.execEnable core q neighbourAdmits s
  | .disable core q => Sys2Proof.Machine.execDisable core q s
  | .pause core q => Sys2Proof.Machine.execPause core q s
  | .resume core q => Sys2Proof.Machine.execResume core q s
  | .setEpoch core q => Sys2Proof.Machine.execSetEpoch core q s
  | .pauseCtx core => Sys2Proof.Machine.execPauseCtx core s
  | .resumeCtx core => Sys2Proof.Machine.execResumeCtx core s
  | .flushStats core => Sys2Proof.Machine.execFlushStats core s
  | .qDoorbell core val => Sys2Proof.Machine.execQDoorbell core val s
  | .doorbellHeldApply q => Sys2Proof.Machine.execDoorbellHeldApply q s
  | .copy q => Sys2Proof.Machine.execCopy q s
  | .add q => Sys2Proof.Machine.execAdd q s
  | .atomic q => Sys2Proof.Machine.execAtomic q s
  | .signal q => Sys2Proof.Machine.execSignal q s
  | .descriptorComplete desc => Sys2Proof.Machine.execDescriptorComplete desc s
  | .stallFlush die => Sys2Proof.Machine.execStallFlush die s
  | .watchdogEval => Sys2Proof.Machine.execWatchdogEval s
  | .semSignal core sem n => Sys2Proof.Machine.execSemSignal core sem n s
  | .decrement core sem n => Sys2Proof.Machine.execDecrement core sem n s
  | .semInit core sem n thr => Sys2Proof.Machine.execSemInit core sem n thr s
  | .semFree core sem => Sys2Proof.Machine.execSemFree core sem s
  | .arrive core bar part => Sys2Proof.Machine.execArrive core bar part s
  | .barInit core bar => Sys2Proof.Machine.execBarInit core bar s
  | .barFree core bar => Sys2Proof.Machine.execBarFree core bar s
  | .fabricArrival bar chip round => Sys2Proof.Machine.execFabricArrival bar chip round s
  | .fabricRelease bar rootChip round => Sys2Proof.Machine.execFabricRelease bar rootChip round s
  | .fabricFaultMessage bar rootChip poison => Sys2Proof.Machine.execFabricFaultMessage bar rootChip poison s
  | .semaphoreWait core sem n consume => Sys2Proof.Machine.execSemaphoreWait core sem n consume s
  | .swArrive core bar part => Sys2Proof.Machine.execSwArrive core bar part s
  | .swWait core bar round => Sys2Proof.Machine.execSwWait core bar round s
  | .arriveWait core bar part => Sys2Proof.Machine.execArriveWait core bar part s
  | .swTimeout core => Sys2Proof.Machine.execSwTimeout core s
  | .swResultRead core => Sys2Proof.Machine.execSwResultRead core s
  | .set source => Sys2Proof.Machine.execSet source s
  | .complete source => Sys2Proof.Machine.execComplete source s
  | .manualRelease source => Sys2Proof.Machine.execManualRelease source s
  | .manualFree source => Sys2Proof.Machine.execManualFree source s
  | .poisonCtx ctx => Sys2Proof.Machine.execPoisonCtx ctx s
  | .opt q => Sys2Proof.Machine.execOpt q s
  | .blockReread q => Sys2Proof.Machine.execBlockReread q s
  | .chain q => Sys2Proof.Machine.execChain q s
  | .chainDecision core => Sys2Proof.Machine.execChainDecision core s
  | .chainHeaderArrival core bytes => Sys2Proof.Machine.execChainHeaderArrival core bytes s
  | .chainChunkArrival core bytes => Sys2Proof.Machine.execChainChunkArrival core bytes s
  | .chainTrailerArrival core bytes => Sys2Proof.Machine.execChainTrailerArrival core bytes s
  | .lateCopy core => Sys2Proof.Machine.execLateCopy core s
  | .graceEnd core => Sys2Proof.Machine.execGraceEnd core s
  | .lateFold core => Sys2Proof.Machine.execLateFold core s
  | .dataFlit port wire corrected uncorrectable seq ack vc crVc credits pkts => Sys2Proof.Machine.execDataFlit port wire corrected uncorrectable seq ack vc crVc credits pkts s
  | .idleFlit port wire corrected uncorrectable ack crVc credits => Sys2Proof.Machine.execIdleFlit port wire corrected uncorrectable ack crVc credits s
  | .nak port wire corrected uncorrectable expected ack crVc credits => Sys2Proof.Machine.execNak port wire corrected uncorrectable expected ack crVc credits s
  | .replayTimeout port => Sys2Proof.Machine.execReplayTimeout port s
  | .trainingPhaseTimeout port => Sys2Proof.Machine.execTrainingPhaseTimeout port s
  | .trainingEnd port found => Sys2Proof.Machine.execTrainingEnd port found s
  | .laneSerExceed port lane => Sys2Proof.Machine.execLaneSerExceed port lane s
  | .downRetry port => Sys2Proof.Machine.execDownRetry port s
  | .ident port version chip peerPort => Sys2Proof.Machine.execIdent port version chip peerPort s
  | .timeExchange => Sys2Proof.Machine.execTimeExchange s
  | .timeFlit port reply valid holdover errBound t1 t2 t3 => Sys2Proof.Machine.execTimeFlit port reply valid holdover errBound t1 t2 t3 s
  | .ppsEdge => Sys2Proof.Machine.execPpsEdge s
  | .linkStateAnnounce chip up => Sys2Proof.Machine.execLinkStateAnnounce chip up s
  | .writePacket p => Sys2Proof.Machine.execWritePacket p s
  | .read p => Sys2Proof.Machine.execRead p s
  | .readData p => Sys2Proof.Machine.execReadData p s
  | .addPacket p => Sys2Proof.Machine.execAddPacket p s
  | .atomicPacket p => Sys2Proof.Machine.execAtomicPacket p s
  | .signalPacket p => Sys2Proof.Machine.execSignalPacket p s
  | .check p => Sys2Proof.Machine.execCheck p s
  | .cmpl p => Sys2Proof.Machine.execCmpl p s
  | .hostApertureRequest isWrite off len data => Sys2Proof.Machine.execHostApertureRequest isWrite off len data s
  | .pcieConfigRequest isWrite off val => Sys2Proof.Machine.execPcieConfigRequest isWrite off val s
  | .perstN => Sys2Proof.Machine.execPerstN s
  | .flr => Sys2Proof.Machine.execFlr s
  | .reident port => Sys2Proof.Machine.execReident port s
  | .portRetrain port => Sys2Proof.Machine.execPortRetrain port s
  | .portDisable port => Sys2Proof.Machine.execPortDisable port s
  | .portDisableComplete port => Sys2Proof.Machine.execPortDisableComplete port s
  | .portEnable port => Sys2Proof.Machine.execPortEnable port s
  | .snap eng cmd => Sys2Proof.Machine.execSnap eng cmd s
  | .snapStart eng => Sys2Proof.Machine.execSnapStart eng s
  | .scRestore eng cmd remote => Sys2Proof.Machine.execScRestore eng cmd remote s
  | .scCheck eng cmd remote => Sys2Proof.Machine.execScCheck eng cmd remote s
  | .dramBankCopyEnd ch die bank => Sys2Proof.Machine.execDramBankCopyEnd ch die bank s
  | .retireLoad role bytes => Sys2Proof.Machine.execRetireLoad role bytes s
  | .lifeSaveNow role => Sys2Proof.Machine.execLifeSaveNow role s
  | .lifetimeSave => Sys2Proof.Machine.execLifetimeSave s
  | .openSession eng => Sys2Proof.Machine.execOpenSession eng s
  | .closeSession eng => Sys2Proof.Machine.execCloseSession eng s
  | .decode eng => Sys2Proof.Machine.execDecode eng s
  | .encode eng => Sys2Proof.Machine.execEncode eng s
  | .flush eng => Sys2Proof.Machine.execFlush eng s
  | .frameBufferWaitEnd eng => Sys2Proof.Machine.execFrameBufferWaitEnd eng s
  | .patchBlockWrite eng => Sys2Proof.Machine.execPatchBlockWrite eng s
  | .mxRelease eng val => Sys2Proof.Machine.execMxRelease eng val s
  | .abort eng => Sys2Proof.Machine.execAbort eng s
  | .windowBoundary measured uncore => Sys2Proof.Machine.execWindowBoundary measured uncore s
  | .pmbusTelemetry uncoreMeasured uncoreCounted phasePct vcoreMv => Sys2Proof.Machine.execPmbusTelemetry uncoreMeasured uncoreCounted phasePct vcoreMv s
  | .thermalAdjust temps => Sys2Proof.Machine.execThermalAdjust temps s
  | .clockSwitch core => Sys2Proof.Machine.execClockSwitch core s
  | .thermalTrip stack unit => Sys2Proof.Machine.execThermalTrip stack unit s
  | .thermNAssert => Sys2Proof.Machine.execThermNAssert s
  | .thermNRelease => Sys2Proof.Machine.execThermNRelease s
  | .thermNStuck => Sys2Proof.Machine.execThermNStuck s
  | .overcurrentWarning => Sys2Proof.Machine.execOvercurrentWarning s
  | .undervoltageWarning => Sys2Proof.Machine.execUndervoltageWarning s
  | .regulatorFault => Sys2Proof.Machine.execRegulatorFault s
  | .write path m => Sys2Proof.Machine.execWrite path m s
  | .dictRead path m => Sys2Proof.Machine.execDictRead path m s
  | .describe path m => Sys2Proof.Machine.execDescribe path m s
  | .discover path m => Sys2Proof.Machine.execDiscover path m s
  | .txnBegin path m => Sys2Proof.Machine.execTxnBegin path m s
  | .txnStage path m => Sys2Proof.Machine.execTxnStage path m s
  | .txnCommit path m => Sys2Proof.Machine.execTxnCommit path m s
  | .txnAbort path m => Sys2Proof.Machine.execTxnAbort path m s
  | .scheduledCommit txn => Sys2Proof.Machine.execScheduledCommit txn s
  | .txnIdleTimeout txn => Sys2Proof.Machine.execTxnIdleTimeout txn s
  | .goReady path => Sys2Proof.Machine.execGoReady path s
  | .start path => Sys2Proof.Machine.execStart path s
  | .drain path => Sys2Proof.Machine.execDrain path s
  | .drainComplete => Sys2Proof.Machine.execDrainComplete s
  | .reconfig path => Sys2Proof.Machine.execReconfig path s
  | .resetCmd path => Sys2Proof.Machine.execResetCmd path s
  | .resetDelayExpiry => Sys2Proof.Machine.execResetDelayExpiry s
  | .mbClaim core => Sys2Proof.Machine.execMbClaim core s
  | .mbClaimRelease core => Sys2Proof.Machine.execMbClaimRelease core s
  | .go core => Sys2Proof.Machine.execGo core s
  | .mbRelease path => Sys2Proof.Machine.execMbRelease path s
  | .pairShort => Sys2Proof.Machine.execPairShort s
  | .shortRetry seen => Sys2Proof.Machine.execShortRetry seen s
  | .noBeacon => Sys2Proof.Machine.execNoBeacon s
  | .beaconResume => Sys2Proof.Machine.execBeaconResume s
  | .idConflict => Sys2Proof.Machine.execIdConflict s
  | .stateEvent => Sys2Proof.Machine.execStateEvent s
  | .resetNAssert => Sys2Proof.Machine.execResetNAssert s
  | .resetNRelease mode warm failedCores => Sys2Proof.Machine.execResetNRelease mode warm failedCores s
  | .railEvent rail clockLost => Sys2Proof.Machine.execRailEvent rail clockLost s
  | .bootRrTimeout => Sys2Proof.Machine.execBootRrTimeout s
  | .temperatureGate => Sys2Proof.Machine.execTemperatureGate s
  | .fwBegin path => Sys2Proof.Machine.execFwBegin path s
  | .fwUpdData path offset bytes => Sys2Proof.Machine.execFwUpdData path offset bytes s
  | .finish path => Sys2Proof.Machine.execFinish path s
  | .cancel path => Sys2Proof.Machine.execCancel path s
  | .activate path maxPause => Sys2Proof.Machine.execActivate path maxPause s
  | .flashWriteEnd verified => Sys2Proof.Machine.execFlashWriteEnd verified s
  | .pdcBlob path bytes => Sys2Proof.Machine.execPdcBlob path bytes s
  | .quoteNonce path nonce => Sys2Proof.Machine.execQuoteNonce path nonce s
  | .quoteComplete => Sys2Proof.Machine.execQuoteComplete s
  | .extest cells => Sys2Proof.Machine.execExtest cells s
  | .samplePreload cells => Sys2Proof.Machine.execSamplePreload cells s
  | .idcode => Sys2Proof.Machine.execIdcode s
  | .clamp => Sys2Proof.Machine.execClamp s
  | .highz => Sys2Proof.Machine.execHighz s
  | .ecidcode => Sys2Proof.Machine.execEcidcode s
  | .extestPulse cells => Sys2Proof.Machine.execExtestPulse cells s
  | .extestTrain cells => Sys2Proof.Machine.execExtestTrain cells s
  | .bypass => Sys2Proof.Machine.execBypass s
  | .trstN => Sys2Proof.Machine.execTrstN s
  | .supplyInRange => Sys2Proof.Machine.execSupplyInRange s
  | .channelRetrainEnd ch ok => Sys2Proof.Machine.execChannelRetrainEnd ch ok s
  | .pageRecallComplete pool frame => Sys2Proof.Machine.execPageRecallComplete pool frame s
  | .perstNRelease => Sys2Proof.Machine.execPerstNRelease s
  | .badFrame => Sys2Proof.Machine.execBadFrame s
  | .histogramSample entry bin => Sys2Proof.Machine.execHistogramSample entry bin s
  | .overcurrentCapEnd => Sys2Proof.Machine.execOvercurrentCapEnd s

end Sys2Proof.Machine
end

