-- ==== Sys2Proof/Machine/Tick.lean ====
section
/-! DEFINITION. One control cycle passing with no command (R42, R43): fabric time and its slewing (R44), and what counts control
cycles by itself: the engines' stalls (R114, R130, R201, R219, R350, R351, R400, R533), the queues' stall causes, and the waits of
queues, ports, control processors, media engines and the tiered range. -/

namespace Sys2Proof.Machine

/-! ### Time (R7, R42 to R44) -/

/-- Fabric time and the cycle counter after one control cycle of 5/9 ns. -/
def State.tickTime (s : State) : State :=
  let n := s.ninths + 5
  { s with cycle := s.cycle + 1, ninths := n % 9, ft := s.ft + BitVec.ofNat 64 (n / 9), ftPrev := s.ft, sync.fresh := [] }

/-- A correction of 1 ns at most every 5,000 ns, which is 200 ppm; FT never runs backwards. `before` is FT one cycle ago. -/
def State.tickSlew (s : State) (before : W64) : State :=
  if s.cycle.toNat % 9000 ≠ 0 ∨ s.fab.slewNs = 0 then s
  else if 0 < s.fab.slewNs then { s with ft := s.ft + 1, fab.slewNs := s.fab.slewNs - 1 }
  else if s.ft = before then s
  else { s with ft := s.ft - 1, fab.slewNs := s.fab.slewNs + 1 }

/-! ### Engines -/

/-- A counter of a core raised where a condition holds. -/
def State.tickIf (s : State) (core off : Nat) (p : Bool) : State := if p then s.bumpCore core off 1 else s

/-- The queues of a core's engine of one kind. -/
def State.queuesOf (s : State) (core kind : Nat) : List (Nat × Queue) :=
  s.qs.queues.filter fun e => decide (e.2.core = core ∧ e.2.kind = kind)

/-- Does an engine have no item ready because of unsatisfied waits? -/
def State.waitsOnly (s : State) (core kind : Nat) : Bool :=
  let l := (s.queuesOf core kind).filterMap fun e => e.2.held
  !l.isEmpty && l.all fun h => !h.satisfied

/-- Is a finish the head of a queue while no finished-tile entry is free (R114)? -/
def State.finishBlocked (s : State) (core : Nat) : Bool :=
  decide (4 ≤ (s.ftqOf core).length) && (s.queuesOf core 1).any fun e =>
    (s.peekItem e.1).any fun x => decide (mmOpcode x = 0 ∧ mmAccOp x = 2)

/-- Does the walk under way wait for a streamed block after its first, whose pages are in transit (R204)? -/
def State.asWaitsBlock (s : State) (core : Nat) : Bool :=
  match (s.core core).walk with
  | some w =>
    decide (asOp w.item ≤ 3 ∧ asStrFirst w.item < w.next ∧ w.next < asEnd w.item) && asPaged w.item &&
    (let pool := slPool w.slot
     let pages := s.asBlockPages w.item w.slot w.next
     pages.any (fun g => decide (s.kvPageState g = 3)) ||
     (s.kvBlockFar pool pages w.next (asStrValid w.item w.next)).any s.inTransit)
  | none => false

/-- Does a fetch wait for an unreachable pool, or an APPEND for a page in transit (R219, R223)? -/
def State.asWaitsFar (s : State) (core : Nat) : Bool :=
  match (s.core core).walk with
  | some w => w.farSince.isSome ||
    (decide (asOp w.item = 4) && (s.appendPages w.slot w.item).any fun g => decide (s.kvPageState g = 3))
  | none => false

/-- Has an engine of one kind a ready item for which `p` holds? -/
def State.readyWith (s : State) (core kind : Nat) (p : Nat → BitVec 512 → Bool) : Bool :=
  (s.queuesOf core kind).any fun e =>
    match e.2.held with
    | some h => h.satisfied && p e.1 h.item
    | none => false

/-- Does the vector item under way wait for a later finished-tile entry (R130)? -/
def State.veWaitsFtq (s : State) (core : Nat) : Bool :=
  match (s.core core).vec with
  | some w =>
    (match (s.queue w.queue).held with
      | some h => decide (veKind0 h.item = 1)
      | none => false) && (s.ftqOf core).isEmpty
  | none => false

/-- The counters of one core: those of its engines while they run. -/
def State.tickCore (s : State) (core : Nat) : State :=
  let C := s.core core
  let runs := s.engineRuns core
  let busyDescs := fun (fe : Nat) => s.qs.descs.any fun d => decide (d.core = core ∧ d.fe = fe ∧ d.stage = .waiting) && !d.satisfied
  let stalled := match C.sw with
    | some r => r.stalled
    | none => false
  let l : List (Nat × Bool) :=
    [(0x2018, runs && busyDescs 0), (0x2118, runs && busyDescs 1),
     (0x4028, runs && s.waitsOnly core 1), (0x4030, runs && s.finishBlocked core),
     (0x5018, runs && s.waitsOnly core 2), (0x5020, runs && s.veWaitsFtq core),
     (0x6030, runs && s.asWaitsBlock core), (0x6038, runs && s.asWaitsFar core),
     (0x6040, runs && C.walk.isNone && !((s.acc core 2).empty && (s.acc core 3).empty) && s.readyWith core 3 fun _ _ => true),
     (0x8028, runs && C.optWait.isSome), (0x8030, runs && s.waitsOnly core 4),
     (0x9020, runs && s.qs.queues.any fun e => decide (e.2.core = core) && s.lacksTokens e),
     (0x3028, stalled),
     (0x1040, s.qs.queues.any fun e => decide (e.2.core = core) && e.2.heldTail.isSome)]
  l.foldl (fun t e => t.tickIf core e.1 e.2) s

/-! ### Queues (R321, R350, R351) -/

/-- The semaphores on which a queue's item, one of its taken descriptors, or its CHAIN item under way waits. -/
def State.waitSems (s : State) (e : Nat × Queue) : List Nat :=
  let chain :=
    match (s.core e.2.core).chain with
    | some r =>
      if r.queue = e.1 then (s.sync.sems.filter fun S =>
        S.2.waiters.contains (.chain e.2.core) || S.2.waiters.contains (.chainArr e.2.core)).map (·.1)
      else []
    | none => []
  match e.2.held with
  | some h => if h.satisfied then chain else itemWaits e.2.kind h.item
  | none =>
    match s.qs.descs.find? fun d => decide (d.queue = e.1 ∧ d.stage = .waiting) && !d.satisfied with
    | some d => itemWaits 0 d.item
    | none => []

/-- The queue that an item's stalls are counted against: the one its first operand's tag names (R29); an item without a tile operand takes
its own. -/
def State.stallQueue (s : State) (e : Nat × Queue) : Nat :=
  match e.2.held with
  | some h =>
    let x := h.item
    let c := e.2.core
    if e.2.kind = 1 ∧ mmOpcode x = 0 then tagQueue (s.tag c (mmAGran x 0))
    else if e.2.kind = 2 ∧ veOp x ≠ 6 ∧ (veKind0 x ≠ 1 ∨ (s.ftqOf c).isEmpty = false) then tagQueue (s.veSource0 c x 0).tag
    else if e.2.kind = 3 ∧ asOp x ≤ 3 then tagQueue (s.tag c (asResGran x))
    else if e.2.kind = 3 ∧ asOp x = 4 then tagQueue (s.tag c (asStgGran x))
    else e.1
  | none => e.1

/-- The stall count of a queue that waits: under the highest cause that its unsatisfied semaphores hold (R29), and TRANSFER while a
doorbell is held. -/
def State.tickQueue (s : State) (e : Nat × Queue) : State :=
  let l := s.unmet (s.waitSems e)
  let t := if l.isEmpty then s else s.stall (s.stallQueue e) ((l.map s.semCause).foldl max 0)
  if e.2.heldTail.isSome then t.stall e.1 1 else t

/-! ### The rest of the chip -/

/-- A port with a packet that waits for credits. -/
def State.tickPort (s : State) (p : Nat) : State :=
  let P := s.port p
  match P.queue with
  | k :: _ => if P.usable && decide ((P.credits[packetVc k]?).getD 0 < packetFlits k) then s.bump (portOff p 0x60) 1 else s
  | [] => s

/-- A compute die in Gauze: its cycles, and each full second of them (R485, R534). -/
def State.tickGauze (s : State) (die : Nat) : State :=
  if !s.gauze die then s
  else
    let t := s.bump (0x4048 + 8 * die) 1
    if (t.reg (0x4048 + 8 * die)).toNat % 1800000000 = 0 then t.lifeAdd (0x35 + die) 1 else t

/-- A stack whose bandwidth cap applies. -/
def State.tickStack (s : State) (stack : Nat) : State := if s.flag (msOff stack 0) 6 then s.bump (msOff stack 0x48) 1 else s

/-- A media engine that waits for a frame buffer or for a slot. -/
def State.tickMedia (s : State) (e : Nat) : State :=
  match (Store.get {} s.media e).wait with
  | .none => s
  | .frame => s.bump (mxOff e 0x50) 1
  | .slot => s.bump (mxOff e 0x58) 1

/-- What counts control cycles, for a device past its start-up sequence. -/
def State.tickCounts (s : State) : State :=
  let t := (List.range Config.cores).foldl (fun (t : State) c => t.tickCore c) s
  let t := t.qs.queues.foldl (fun (t : State) e => t.tickQueue e) t
  let t := (List.range Config.ports).foldl (fun (t : State) p => t.tickPort p) t
  let t := (List.range 4).foldl (fun (t : State) d => t.tickGauze d) t
  let t := (List.range 8).foldl (fun (t : State) m => t.tickStack m) t
  let t := (List.range 2).foldl (fun (t : State) e => t.tickMedia e) t
  let kv := t.cores.filter fun e => e.2.walk.any fun w => decide (asOp w.item ≤ 3) && asPaged w.item &&
    (t.kvBlockFar (slPool w.slot) (t.asBlockPages w.item w.slot w.next) w.next (asStrValid w.item w.next)).any t.inTransit
  let mv := t.tier.kvMoves.filter fun v => (v.farPages t).any t.inTransit
  t.bump 0xB040 ((t.qs.descs.filter fun d => decide (d.stage = .transit)).length + kv.length + mv.length)

/-- What happens in a control cycle in which no command waits. -/
def State.tick (s : State) : State :=
  let t := ((List.range Config.cores).foldl (fun (t : State) c => t.noteFold c) s).tickTime.tickSlew s.ft
  if t.regsLive then t.settleLost.unparkAll.tickCounts else t

end Sys2Proof.Machine
end

