-- ==== Sys2Proof/WellFormed.lean ====
section
/-! DEFINITION. Well-formed commands: those whose operands name units, indices and extents that the device has. Each check is the one
that the command's meaning makes before anything else. -/

namespace Sys2Proof

open Machine

/-- Is `off` the offset of a status register with bits that software clears by writing 1 (R13)? -/
def isStatusReg (off : Nat) : Bool :=
  match regSpec off with
  | some r => decide (r.w1c ≠ 0)
  | none => false

/-- Are a command's operands in range? -/
def Instr.wf : Instr → Bool
  | .registerWrite off size _ => isReg off size
  | .w1cClear off _ h => isStatusReg off && decide (h.pool < 16)
  | .cpAccess core _ _ size _ ups => isCore core && cpSize size && ups.all upsetOk
  | .rv64aAmo core code _ _ _ => isCore core && rvCode code
  | .lr core _ size => isCore core && lrSize size
  | .sc core _ size _ => isCore core && lrSize size
  | .holdoverEntry => true
  | .coreFence core => isCore core
  | .mmaStart q => isQueue q
  | .mmaContinue q => isQueue q
  | .mmaFinish q => isQueue q
  | .matrixSave q => isQueue q
  | .matrixRestore q => isQueue q
  | .ftqFlush core => isCore core
  | .epi q => isQueue q
  | .binary q => isQueue q
  | .statP1 q => isQueue q
  | .statP2 q => isQueue q
  | .smaxAcc q => isQueue q
  | .smaxNorm q => isQueue q
  | .norm q => isQueue q
  | .permute q => isQueue q
  | .shuffle q => isQueue q
  | .convert q => isQueue q
  | .loadTable q => isQueue q
  | .bufClear core => isCore core
  | .fwd q _ => isQueue q
  | .recomp q _ => isQueue q
  | .bwdQ q _ => isQueue q
  | .bwdKv q _ => isQueue q
  | .append q => isQueue q
  | .prefetch q => isQueue q
  | .release q => isQueue q
  | .yield core => isCore core
  | .pageSpillComplete pool _ => isPool pool
  | .useByExpiry pool _ => isPool pool
  | .seqSlotWrite slot _ => isSlot slot
  | .poolWrite pool _ => isPool pool
  | .ccClean core => isCore core
  | .ccInvalidate core => isCore core
  | .ccCleanInvalidate core => isCore core
  | .amoIntegerAdd core _ => isCore core
  | .amoSignedMinimum core _ => isCore core
  | .amoSignedMaximum core _ => isCore core
  | .amoUnsignedMinimum core _ => isCore core
  | .amoUnsignedMaximum core _ => isCore core
  | .amoSwap core _ => isCore core
  | .amoCompareAndSwap core _ => isCore core
  | .amoFp32Add core => isCore core
  | .amoFp32Minimum core => isCore core
  | .amoFp32Maximum core => isCore core
  | .amoResultRead core => isCore core
  | .burstCrcFail addr resends burst =>
    isNear addr && decide (burst.data.length = 64 ∧ burst.crc < 65536 ∧ resends ≤ 3)
  | .odecReport stack _ => isStack stack
  | .scrubRead addr ups => isNear addr && ups.all upsetOk
  | .addRequest r => addReqOk r
  | .addResend _ => true
  | .writebackResend core _ => isCore core
  | .stackTempSample stack _ => isStack stack
  | .create => true
  | .free => true
  | .migrate => true
  | .place => true
  | .bump => true
  | .transitWaitEnd _ => true
  | .farPoolWrite pool _ => isFarPool pool
  | .reachableLoss pool _ => isFarPool pool
  | .reachableRestore pool => isFarPool pool
  | .farTimeout _ => true
  | .fallbackFire _ => true
  | .hwmClear => true
  | .tierEnable => true
  | .enable core q _ => isCore core && isQueue q
  | .disable core q => isCore core && isQueue q
  | .pause core q => isCore core && isQueue q
  | .resume core q => isCore core && isQueue q
  | .setEpoch core q => isCore core && isQueue q
  | .pauseCtx core => isCore core
  | .resumeCtx core => isCore core
  | .flushStats core => isCore core
  | .qDoorbell core _ => isCore core
  | .doorbellHeldApply q => isQueue q
  | .copy q => isQueue q
  | .add q => isQueue q
  | .atomic q => isQueue q
  | .signal q => isQueue q
  | .descriptorComplete _ => true
  | .stallFlush die => isDie die
  | .watchdogEval => true
  | .semSignal core sem _ => isCore core && isSem sem
  | .decrement core sem _ => isCore core && isSem sem
  | .semInit core sem _ _ => isCore core && isSem sem
  | .semFree core sem => isCore core && isSem sem
  | .arrive core bar _ => isCore core && isBar bar
  | .barInit core bar => isCore core && isBar bar
  | .barFree core bar => isCore core && isBar bar
  | .fabricArrival bar chip _ => isBar bar && isChip chip
  | .fabricRelease bar rootChip _ => isBar bar && isChip rootChip
  | .fabricFaultMessage bar rootChip _ => isBar bar && isChip rootChip
  | .semaphoreWait core sem _ _ => isCore core && isSem sem
  | .swArrive core bar _ => isCore core && isBar bar
  | .swWait core bar _ => isCore core && isBar bar
  | .arriveWait core bar _ => isCore core && isBar bar
  | .swTimeout core => isCore core
  | .swResultRead core => isCore core
  | .set _ => true
  | .complete _ => true
  | .manualRelease _ => true
  | .manualFree _ => true
  | .poisonCtx ctx => isCtx ctx
  | .opt q => isQueue q
  | .blockReread q => isQueue q
  | .chain q => isQueue q
  | .chainDecision core => isCore core
  | .chainHeaderArrival core _ => isCore core
  | .chainChunkArrival core _ => isCore core
  | .chainTrailerArrival core _ => isCore core
  | .lateCopy core => isCore core
  | .graceEnd core => isCore core
  | .lateFold core => isCore core
  | .dataFlit port _ _ _ seq ack vc crVc credits pkts => isPort port && linkFields seq ack crVc credits && decide (vc < 4) && pkts.all flitPacket && pkts.all fun p => packetVc p == vc
  | .idleFlit port _ _ _ ack crVc credits => isPort port && linkFields 0 ack crVc credits
  | .nak port _ _ _ expected ack crVc credits => isPort port && linkFields expected ack crVc credits
  | .replayTimeout port => isPort port
  | .trainingPhaseTimeout port => isPort port
  | .trainingEnd port found => isPort port && trainOk found
  | .laneSerExceed port lane => isPort port && decide (lane < 8)
  | .downRetry port => isPort port
  | .ident port _ chip peerPort => isPort port && isChip chip && decide (peerPort < 256)
  | .timeExchange => true
  | .timeFlit port _ _ _ errBound _ _ _ => isPort port && decide (errBound < 65536)
  | .ppsEdge => true
  | .linkStateAnnounce chip up => isChip chip && decide (up < 2 ^ Config.ports)
  | .writePacket p => packetOk .write p
  | .read p => packetOk .read p
  | .readData p => packetOk .readData p
  | .addPacket p => packetOk .add p
  | .atomicPacket p => packetOk .atomic p
  | .signalPacket p => packetOk .signal p
  | .check p => packetOk .check p
  | .cmpl p => packetOk .cmpl p
  | .hostApertureRequest isWrite off len data => hostReqOk isWrite off len data
  | .pcieConfigRequest _ off _ => decide (off < 4096 ∧ off % 4 = 0)
  | .perstN => true
  | .flr => true
  | .reident port => isPort port
  | .portRetrain port => isPort port
  | .portDisable port => isPort port
  | .portDisableComplete port => isPort port
  | .portEnable port => isPort port
  | .snap eng _ => isEngine eng
  | .snapStart eng => isEngine eng
  | .scRestore eng _ _ => isEngine eng
  | .scCheck eng _ _ => isEngine eng
  | .dramBankCopyEnd ch _ _ => isChannel ch
  | .retireLoad role _ => isRole role
  | .lifeSaveNow role => isRole role
  | .lifetimeSave => true
  | .openSession eng => isEngine eng
  | .closeSession eng => isEngine eng
  | .decode eng => isEngine eng
  | .encode eng => isEngine eng
  | .flush eng => isEngine eng
  | .frameBufferWaitEnd eng => isEngine eng
  | .patchBlockWrite eng => isEngine eng
  | .mxRelease eng _ => isEngine eng
  | .abort eng => isEngine eng
  | .windowBoundary _ _ => true
  | .pmbusTelemetry _ _ _ _ => true
  | .thermalAdjust temps => decide (temps.length = 6)
  | .clockSwitch core => isCore core
  | .thermalTrip stack unit => if stack then isStack unit else decide (unit < 6)
  | .thermNAssert => true
  | .thermNRelease => true
  | .thermNStuck => true
  | .overcurrentWarning => true
  | .undervoltageWarning => true
  | .regulatorFault => true
  | .write path _ => pathOk path
  | .dictRead path _ => pathOk path
  | .describe path _ => pathOk path
  | .discover path _ => pathOk path
  | .txnBegin path _ => pathOk path
  | .txnStage path _ => pathOk path
  | .txnCommit path _ => pathOk path
  | .txnAbort path _ => pathOk path
  | .scheduledCommit _ => true
  | .txnIdleTimeout _ => true
  | .goReady path => pathOk path
  | .start path => pathOk path
  | .drain path => pathOk path
  | .drainComplete => true
  | .reconfig path => pathOk path
  | .resetCmd path => pathOk path
  | .resetDelayExpiry => true
  | .mbClaim core => isCore core
  | .mbClaimRelease core => isCore core
  | .go core => isCore core
  | .mbRelease path => pathOk path
  | .pairShort => true
  | .shortRetry _ => true
  | .noBeacon => true
  | .beaconResume => true
  | .idConflict => true
  | .stateEvent => true
  | .resetNAssert => true
  | .resetNRelease mode _ failedCores => decide (mode < 4) && failedCores.all isCore
  | .railEvent rail _ => decide (rail < 9)
  | .bootRrTimeout => true
  | .temperatureGate => true
  | .fwBegin _ => true
  | .fwUpdData _ _ _ => true
  | .finish _ => true
  | .cancel _ => true
  | .activate _ _ => true
  | .flashWriteEnd _ => true
  | .pdcBlob _ _ => true
  | .quoteNonce _ _ => true
  | .quoteComplete => true
  | .extest _ => true
  | .samplePreload _ => true
  | .idcode => true
  | .clamp => true
  | .highz => true
  | .ecidcode => true
  | .extestPulse _ => true
  | .extestTrain _ => true
  | .bypass => true
  | .trstN => true
  | .supplyInRange => true
  | .channelRetrainEnd ch _ => isChannel ch
  | .pageRecallComplete pool _ => isPool pool
  | .perstNRelease => true
  | .badFrame => true
  | .histogramSample entry bin => decide (1 ≤ entry ∧ entry ≤ 0x20 ∧ bin < 32)
  | .overcurrentCapEnd => true

end Sys2Proof
end

