-- ==== Sys2Proof/Safety.lean ====
section
/-! DEFINITION. What counts as a safe state and a safe run: the invariants that every step keeps, and a queue of commands that name
only units of the device. -/

namespace Sys2Proof.Machine

/-- What holds of the device in every state: both memories in their canonical form, the part of a nanosecond below one (R42, R43),
and the logs no longer than the manual makes them (R386, R567, R633). -/
structure State.Inv (s : State) : Prop where
  near : Memory.wf s.mem.near = true
  tile : Memory.wf s.mem.tile = true
  ninths : s.ninths < 9
  log : s.log.length ≤ 256
  dbgLog : s.sync.dbgLog.length ≤ 64
  txnTable : s.mgmt.txnTable.length ≤ 16

/-- Do all waiting commands name units of the device? -/
def State.queueOk (s : State) : Bool := s.pending.all Instr.wf

/-- A run of `k` steps that meets no fault and no refusal. -/
def State.safeFor (s : State) (k : Nat) : Prop := ∃ t, Sys2Proof.core.run k s = .next t

/-! ### What statements speak of -/

/-- The registers whose write commands something, beside or instead of holding what is written (R116, R172, R202, R239, R243, R304,
R315, R319, R384, R388, R466, R501, R505, R560, R637). -/
def commandReg (o : Nat) : Bool :=
  if 0x10000000 ≤ o ∧ o < 0x10900000 then
    [0x1000, 0x1010, 0x3000, 0x4004, 0x5004, 0x6004, 0x7090, 0x7118].contains (o % 0x10000)
  else
    [0x200, 0x204, 0x3000, 0xB004].contains o || decide (0xD000 ≤ o ∧ o < 0xDE00 ∧ o % 0x100 = 4) ||
    decide (0x20000000 ≤ o ∧ o < 0x22000000 ∧ (o % 0x1000000 = 4 ∨ o % 0x1000000 = 0x10)) ||
    decide (0x30000000 ≤ o ∧ o < 0x31000000 ∧ o % 0x800000 = 8)

/-- The new value of an atomic operation as the rows of R240 give it, on words of `w` bits. -/
def amoRow (w code : Nat) (old op0 op1 : BitVec w) : BitVec w :=
  match code with
  | 0x00 => old + op0 | 0x01 => old + op0
  | 0x02 => if old.slt op0 then old else op0
  | 0x03 => if old.slt op0 then old else op0
  | 0x04 => if old.slt op0 then op0 else old
  | 0x05 => if old.slt op0 then op0 else old
  | 0x06 => if old.ult op0 then old else op0
  | 0x07 => if old.ult op0 then old else op0
  | 0x08 => if old.ult op0 then op0 else old
  | 0x09 => if old.ult op0 then op0 else old
  | 0x0A => op0 | 0x0B => op0
  | 0x0C => if old = op0 then op1 else old
  | 0x0D => if old = op0 then op1 else old
  | 0x0E => (f32add (old.setWidth 32) (op0.setWidth 32)).setWidth w
  | 0x0F => (f32min (old.setWidth 32) (op0.setWidth 32)).setWidth w
  | 0x10 => (f32max (old.setWidth 32) (op0.setWidth 32)).setWidth w
  | 0x11 => old &&& op0 | 0x12 => old ||| op0
  | _ => old ^^^ op0

/-- The core and the code of the commands that write `AMO_CMD`. -/
def amoOf : Instr → Option (Nat × Nat)
  | .amoIntegerAdd core wide => some (core, 0x00 + b2n wide)
  | .amoSignedMinimum core wide => some (core, 0x02 + b2n wide)
  | .amoSignedMaximum core wide => some (core, 0x04 + b2n wide)
  | .amoUnsignedMinimum core wide => some (core, 0x06 + b2n wide)
  | .amoUnsignedMaximum core wide => some (core, 0x08 + b2n wide)
  | .amoSwap core wide => some (core, 0x0A + b2n wide)
  | .amoCompareAndSwap core wide => some (core, 0x0C + b2n wide)
  | .amoFp32Add core => some (core, 0x0E)
  | .amoFp32Minimum core => some (core, 0x0F)
  | .amoFp32Maximum core => some (core, 0x10)
  | _ => none

/-- Does an atomic operation of `size` bytes at near-memory address `a` pass its checks at home `core` (R242, R585)? -/
def State.amoOk (s : State) (core a size : Nat) : Prop :=
  (s.core core).absent = false ∧ (s.core core).fenced = false ∧ a + size ≤ Config.nearBytes ∧ touchesFw a size = false ∧ a % size = 0

/-- Everything but the registers is the same in two states. -/
def State.onlyRegs (s t : State) : Prop := { t with regs := s.regs } = s

/-- Every register but those of the list is the same in two states. -/
def State.regsBut (s t : State) (l : List Nat) : Prop := ∀ o, o ∉ l → t.reg o = s.reg o

/-- Of all semaphores only `i` may differ, and it is `S`; beside the semaphores only registers may differ. -/
def State.semNow (s t : State) (i : Nat) (S : Sem) : Prop :=
  t.sem i = S ∧ (∀ j, j ≠ i → t.sem j = s.sem j) ∧ { t with regs := s.regs, sync.sems := s.sync.sems } = s

/-- Of all barriers only `b` may differ, and it is `B`; beside the barriers only registers may differ. -/
def State.barNow (s t : State) (b : Nat) (B : Bar) : Prop :=
  t.bar b = B ∧ (∀ j, j ≠ b → t.bar j = s.bar j) ∧ { t with regs := s.regs, sync.bars := s.sync.bars } = s

/-- The status of a core's last operation word or wait request, in `SW_LAST` (R384). -/
def State.swStatus (s : State) (core : Nat) : Nat := bits (s.reg (coreOff core 0x3018)).toNat 15 0

/-- The status that the table of R368 gives an operation on a semaphore, by the semaphore's state. -/
def semTable (S : Sem) : Instr → Status
  | .semSignal _ _ n =>
    if n = 0 then .reservedNonzero else match S.state with | .free => .stateConflict | .live => .ok | .poisoned => .ownerLost
  | .decrement _ _ n =>
    if n = 0 then .reservedNonzero
    else match S.state with
      | .free => .stateConflict
      | .live => if n ≤ S.count then .ok else .semUnderflow
      | .poisoned => .ownerLost
  | .semInit _ _ _ thr => match S.state with | .free => S.cfgStatus thr.toNat | _ => .stateConflict
  | .semFree _ _ => match S.state with | .free => .ok | _ => if S.waiters = [] then .ok else .stateConflict
  | _ => .ok

/-- The status that the table of R379 gives an operation on a barrier, by the barrier's state. -/
def barTable (B : Bar) : Instr → Status
  | .barInit _ _ => match B.state with | .free => B.cfgStatus | _ => .stateConflict
  | .barFree _ _ => match B.state with | .live => if B.waiters = [] then .ok else .stateConflict | _ => .ok
  | .arrive _ _ p =>
    match B.state with
    | .free => .stateConflict
    | .faulted => .barrierOverrun
    | .poisoned => .ownerLost
    | .live =>
      if B.nPartM1 < p then .reservedNonzero
      else if B.slot0.getLsbD p && B.slot1.getLsbD p then .barrierOverrun
      else .ok
  | _ => .ok

/-! ### Items of the execute engines -/

/-- The engine, the queue and the items that a command of an execute engine is about. -/
def engineOf : Instr → Option (EngineOps × Nat × (BitVec 512 → Bool))
  | .mmaStart q => some (matrixEngine, q, mmaMine 1)
  | .mmaContinue q => some (matrixEngine, q, mmaMine 0)
  | .mmaFinish q => some (matrixEngine, q, mmaMine 2)
  | .matrixSave q => some (matrixEngine, q, matrixMine 1)
  | .matrixRestore q => some (matrixEngine, q, matrixMine 2)
  | .epi q => some (vectorEngine, q, vectorMine 0 [0])
  | .binary q => some (vectorEngine, q, vectorMine 1 [0, 1, 2, 3, 4, 5])
  | .statP1 q => some (vectorEngine, q, vectorMine 2 [0])
  | .statP2 q => some (vectorEngine, q, vectorMine 2 [1])
  | .smaxAcc q => some (vectorEngine, q, vectorMine 2 [2])
  | .smaxNorm q => some (vectorEngine, q, vectorMine 2 [3])
  | .norm q => some (vectorEngine, q, vectorMine 2 [4])
  | .permute q => some (vectorEngine, q, vectorMine 3 [0, 1, 2, 3])
  | .shuffle q => some (vectorEngine, q, vectorMine 4 [0, 1])
  | .convert q => some (vectorEngine, q, vectorMine 5 [0, 1])
  | .loadTable q => some (vectorEngine, q, vectorMine 6 [0])
  | .fwd q n => some (attnEngine n, q, attnMine 0)
  | .recomp q n => some (attnEngine n, q, attnMine 1)
  | .bwdQ q n => some (attnEngine n, q, attnMine 2)
  | .bwdKv q n => some (attnEngine n, q, attnMine 3)
  | .append q => some (attnEngine 0, q, attnMine 4)
  | .prefetch q => some (attnEngine 0, q, attnMine 5)
  | .release q => some (attnEngine 0, q, attnMine 6)
  | _ => none

/-- No access to a memory meets an obstacle: no word or block in error, no exhausted burst, no failed channel, no open round and no tripped
stack. -/
def State.memSound (s : State) : Prop :=
  s.mem.badNear = [] ∧ s.mem.badTile = [] ∧ s.mem.nearErr = [] ∧ s.mem.tileErr = [] ∧ s.mem.burstBad = [] ∧ s.mem.chans = [] ∧
  ∀ k, k < 8 → s.flag (msOff k 0) 7 = false

/-- Queue `q`'s engine holds item `x` with its waits satisfied; its resources are free, the picker takes it, and it passes its checks. -/
def State.mayBegin (s : State) (E : EngineOps) (q : Nat) (x : BitVec 512) : Prop :=
  (s.queue q).kind = E.kind ∧ s.takesItems (s.queue q).core = true ∧ E.underway s (s.queue q).core = none ∧
  s.readyItem q = some x ∧ E.free s q x = true ∧ E.chosen s q = true ∧ E.check s q x = .ok

/-- The address at which an APPEND of item `x` under the slot's entry puts row `r` of region `u` (R214, R219). -/
def State.appendAddr (s : State) (slot x : BitVec 512) (u r : Nat) : Nat :=
  let P := s.pool (slPool slot)
  let p := 64 * asStrFirst x + r
  s.kvPageAddr (kvNamed slot (asSlot x) (asLayer x) (asKvh x) (p / 2 ^ plPageLog2 P)) + kvRow P u p

/-- The rows of an APPEND lie apart from each other, from the page-table entries of its pages and from its pages' frame-table entries,
and so do those entries of each other; nothing of it lies in the firmware region. -/
def State.appendApart (s : State) (slot x : BitVec 512) : Prop :=
  let pool := slPool slot
  let e := 64 * kvElem (plFmt (s.pool pool))
  let pages := s.appendPages slot x
  let ft := fun n => plFtBase (s.pool pool) + 16 * n
  (∀ u r v w, u < 2 * asHt x → v < 2 * asHt x → r < asStrLast x → w < asStrLast x → (u, r) ≠ (v, w) →
    overlaps (s.appendAddr slot x u r) e (s.appendAddr slot x v w) e = false) ∧
  (∀ u r, u < 2 * asHt x → r < asStrLast x → s.appendAddr slot x u r + e ≤ 0xBF00000000 ∧
    (∀ g, g ∈ pages → overlaps (s.appendAddr slot x u r) e g.pte 8 = false) ∧
    (∀ g n, g ∈ pages → s.kvFrameOf pool g = some n → overlaps (s.appendAddr slot x u r) e (ft n) 16 = false)) ∧
  (∀ g g' n, g ∈ pages → g' ∈ pages → s.kvFrameOf pool g' = some n → overlaps g.pte 8 (ft n) 16 = false)

/-! ### Memory stacks and the tier manager -/

/-- The bytes of near memory outside [a, a + n) are the same in two states. -/
def State.nearOutside (s t : State) (a n : Nat) : Prop :=
  ∀ b, b < a ∨ a + n ≤ b → Store.get 0 t.mem.near b = Store.get 0 s.mem.near b

/-- [a, a + n) lies below the firmware region and apart from the tier manager's slot at the head of its ring, and so does that slot. -/
def State.apartFromSlot (s : State) (a n : Nat) : Prop :=
  overlaps a n (s.tcAddr s.tcHead) 64 = false ∧ a + n ≤ 0xBF00000000 ∧ s.tcAddr s.tcHead + 64 ≤ 0xBF00000000

/-- What the tier manager has left in the slot that was at the head in `s`: done, its status and its page count, and the head moved on. -/
def State.tierDone (s t : State) (st : Status) (pages : Nat) : Prop :=
  let y := BitVec.ofNat 512 (leNat (t.near (s.tcAddr s.tcHead) 64))
  fbit y 0 = true ∧ fld y 63 48 = st.code ∧ fld y 47 14 = pages % 2 ^ 34 ∧ t.tcHead = (s.tcHead + 1) % 256 ∧ t.tier.run = none

/-- The addition of R256 on one element of an `ma_fmt`. -/
def addRule (fmt old v : Nat) : Nat :=
  match fmt with
  | 0 => (toF32 ((f32 (BitVec.ofNat 32 old)).add (f32 (BitVec.ofNat 32 v)))).toNat
  | 1 => (fBf16.encode .rne false ((fBf16.decode old).add (fBf16.decode v))).1
  | 2 => (old + v) % 2 ^ 32
  | _ => (old + v) % 2 ^ 64

/-- The bytes of an element of an `ma_fmt`: FP32, BF16, INT32, INT64. -/
def addBytes (fmt : Nat) : Nat := if fmt = 1 then 2 else if fmt = 3 then 8 else 4

/-! ### Queues and descriptors -/

/-- The status that a core's last queue command left in `Q_CMD_STATUS` (R315). -/
def State.qStatus (s : State) (core : Nat) : Nat := bits (s.reg (coreOff core 0x1004)).toNat 15 0

/-- The fetch engine takes descriptor `x` of queue `q` next and nothing keeps it from running at once: the queue is ACTIVE and of a class
without admission, none of its descriptors is in flight, no access to the memories meets an obstacle, the descriptor waits for nothing,
states no deadline and no fallback, passes its checks, and its sides are on this chip; and no descriptor in flight can go on before it. -/
def State.runsDesc (s : State) (q : Nat) (x : BitVec 512) : Prop :=
  let Q := s.queue q
  Q.kind = 0 ∧ Q.state = .active ∧ Q.cls ≠ 1 ∧ s.engineRuns Q.core = true ∧ (s.qs.descs.filter fun d => decide (d.queue = q)) = [] ∧
  (∀ d, d ∈ s.qs.descs → d.id < s.qs.nextDesc ∧ s.descCanGo d = false) ∧
  Q.head ≠ Q.tail ∧ s.inFlight Q.core Q.fe < 32 ∧ s.memSound ∧ x = s.ringItem Q Q.head ∧ dVersion x = 1 ∧ dWaitEn x = false ∧
  dDeadline x = 0 ∧ dFb x = 0 ∧ s.descFields Q.cls x = true ∧ s.ownCheck Q.pd Q.core x = .ok ∧ s.farSides x = []

/-! ### Chains -/

/-- A semaphore that is LIVE and on which nobody waits. -/
def State.quietSem (s : State) (i : Nat) : Prop := (s.sem i).state = .live ∧ (s.sem i).waiters = []

/-! ### Packets -/

/-- The answer of type `ty` with a status and data to packet `p` is on its way in `t`, where the routes of `s` lead to its sender. -/
def State.answered (s t : State) (p : Packet) (ty : PType) (st : Status) (data : List Byte) : Prop :=
  ∀ port q, s.nextHop { mkPacket ty p.src p.addr data st.code with src := s.fab.chipNum, tag := p.tag } = some (port, q) →
    q ∈ (t.port port).held

/-- The add request of the memory stacks that an ADD packet for near-memory address `a` brings (R256, R439). -/
def State.addOf (_ : State) (p : Packet) (a : Nat) : AddReq :=
  { block := a / 64, fmt := bits p.aux 1 0, mask := leNat (p.data.take 4), data := p.data.drop 4, ordered := bitAt p.aux 2,
    oseq := bits p.aux 9 4, olast := bitAt p.aux 3, sender := .fabric p.src p.tag }

/-! ### Dictionary requests -/

/-- Is a command of a message one that a row has? -/
def reqCmd (cmd : Nat) : Bool := decide (cmd = 1 ∨ cmd = 2 ∨ cmd = 3 ∨ cmd = 0x10 ∨ cmd = 0x11 ∨ cmd = 0x12 ∨ cmd = 0x13 ∨ cmd = 0x20)

/-- The row that a request's message belongs to (R549). -/
def reqRow (p : Path) (m : Msg) : Instr :=
  match m.cmd with
  | 1 => .dictRead p m
  | 2 => .write p m
  | 3 => .describe p m
  | 0x10 => .txnBegin p m
  | 0x11 => .txnStage p m
  | 0x12 => .txnCommit p m
  | 0x13 => .txnAbort p m
  | _ => .discover p m

/-! ### What a command may touch -/

/-- The parts of the state, near and tile memory apart from what else belongs to the memories; all but the queue of commands. -/
inductive Part where
  | regs | cores | accs | ftq | bufs | tables | qs | sync | tier | fab | sc | wear | sessions | media | pwr | mgmt | boot | pins |
  dev | devBusy | devCmdStatus | resetAt | ft | cycle | ninths | ftPrev | log | eventSeq | free | memNear | memTile | memBadNear |
  memBadTile | memNearErr | memTileErr | memBurstBad | memCache | memPlru | memChans | memWbWaits | memAddWaits
  deriving DecidableEq, Repr

/-- A part is the same in two states. -/
def Part.same (s t : State) : Part → Prop
  | .regs => t.regs = s.regs
  | .cores => t.cores = s.cores
  | .accs => t.accs = s.accs
  | .ftq => t.ftq = s.ftq
  | .bufs => t.bufs = s.bufs
  | .tables => t.tables = s.tables
  | .qs => t.qs = s.qs
  | .sync => t.sync = s.sync
  | .tier => t.tier = s.tier
  | .fab => t.fab = s.fab
  | .sc => t.sc = s.sc
  | .wear => t.wear = s.wear
  | .sessions => t.sessions = s.sessions
  | .media => t.media = s.media
  | .pwr => t.pwr = s.pwr
  | .mgmt => t.mgmt = s.mgmt
  | .boot => t.boot = s.boot
  | .pins => t.pins = s.pins
  | .dev => t.dev = s.dev
  | .devBusy => t.devBusy = s.devBusy
  | .devCmdStatus => t.devCmdStatus = s.devCmdStatus
  | .resetAt => t.resetAt = s.resetAt
  | .ft => t.ft = s.ft
  | .cycle => t.cycle = s.cycle
  | .ninths => t.ninths = s.ninths
  | .ftPrev => t.ftPrev = s.ftPrev
  | .log => t.log = s.log
  | .eventSeq => t.eventSeq = s.eventSeq
  | .free => t.free = s.free
  | .memNear => t.mem.near = s.mem.near
  | .memTile => t.mem.tile = s.mem.tile
  | .memBadNear => t.mem.badNear = s.mem.badNear
  | .memBadTile => t.mem.badTile = s.mem.badTile
  | .memNearErr => t.mem.nearErr = s.mem.nearErr
  | .memTileErr => t.mem.tileErr = s.mem.tileErr
  | .memBurstBad => t.mem.burstBad = s.mem.burstBad
  | .memCache => t.mem.cache = s.mem.cache
  | .memPlru => t.mem.plru = s.mem.plru
  | .memChans => t.mem.chans = s.mem.chans
  | .memWbWaits => t.mem.wbWaits = s.mem.wbWaits
  | .memAddWaits => t.mem.addWaits = s.mem.addWaits

/-- The parts that a command may touch; none stands for every part: what reset, a register of the control and status window or a packet
for this chip stands behind. -/
def touched : Instr → Option (List Part)
  | .registerWrite .. | .w1cClear .. | .cpAccess .. | .transitWaitEnd .. | .farTimeout .. | .copy .. | .add .. | .atomic .. |
  .signal .. | .dataFlit .. | .trainingPhaseTimeout .. | .trainingEnd .. | .ident .. | .writePacket .. | .read .. | .readData .. |
  .addPacket .. | .atomicPacket .. | .signalPacket .. | .check .. | .cmpl .. | .hostApertureRequest .. | .reident .. |
  .portRetrain .. | .portDisable .. | .portDisableComplete .. | .portEnable .. | .write .. | .dictRead .. | .describe .. |
  .discover .. | .txnBegin .. | .txnStage .. | .txnCommit .. | .txnAbort .. | .scheduledCommit .. | .goReady .. | .start .. |
  .drain .. | .reconfig .. | .resetCmd .. | .resetDelayExpiry | .go .. | .resetNAssert | .railEvent .. | .activate .. => none
  | .rv64aAmo .. | .lr .. | .sc .. | .amoIntegerAdd .. | .amoSignedMinimum .. | .amoSignedMaximum .. | .amoUnsignedMinimum .. |
  .amoUnsignedMaximum .. | .amoSwap .. | .amoCompareAndSwap .. | .amoFp32Add .. | .amoFp32Minimum .. | .amoFp32Maximum .. =>
    some [.regs, .cores, .wear, .mgmt, .log, .eventSeq, .memNear, .memBadNear, .memNearErr, .memBurstBad, .memCache, .memPlru,
    .memWbWaits]
  | .holdoverEntry =>
    some [.regs, .fab, .wear, .free]
  | .coreFence .. =>
    some [.regs, .cores, .accs, .ftq, .bufs, .tables, .qs, .sync, .tier, .fab, .wear, .media, .pwr, .mgmt, .log, .eventSeq,
    .free, .memNear, .memTile, .memBadTile, .memTileErr, .memCache, .memPlru, .memWbWaits]
  | .mmaStart .. | .mmaContinue .. | .mmaFinish .. | .matrixSave .. | .matrixRestore .. =>
    some [.regs, .cores, .accs, .ftq, .qs, .sync, .wear, .media, .pwr, .mgmt, .log, .eventSeq, .free, .memNear, .memTile,
    .memBadNear, .memBadTile, .memNearErr, .memTileErr, .memBurstBad]
  | .ftqFlush .. =>
    some [.ftq]
  | .epi .. | .binary .. | .statP1 .. | .statP2 .. | .smaxAcc .. | .smaxNorm .. | .norm .. | .permute .. | .shuffle .. |
  .convert .. | .loadTable .. =>
    some [.regs, .cores, .ftq, .bufs, .tables, .qs, .sync, .wear, .media, .pwr, .mgmt, .log, .eventSeq, .free, .memNear,
    .memTile, .memBadNear, .memBadTile, .memNearErr, .memTileErr, .memBurstBad]
  | .bufClear .. =>
    some [.cores, .bufs]
  | .fwd .. | .recomp .. | .bwdQ .. | .bwdKv .. | .append .. | .prefetch .. | .release .. =>
    some [.regs, .cores, .qs, .sync, .tier, .wear, .media, .pwr, .mgmt, .log, .eventSeq, .free, .memNear, .memTile, .memBadNear,
    .memBadTile, .memNearErr, .memTileErr, .memBurstBad]
  | .yield .. | .amoResultRead .. | .swResultRead .. =>
    some [.cores]
  | .pageSpillComplete .. | .pageRecallComplete .. =>
    some [.regs, .tier, .wear, .mgmt, .log, .eventSeq, .free, .memNear, .memBadNear, .memNearErr, .memBurstBad]
  | .useByExpiry .. =>
    some [.tier, .memNear]
  | .seqSlotWrite .. | .farPoolWrite .. | .reachableLoss .. =>
    some [.regs, .tier]
  | .poolWrite .. =>
    some [.regs, .tier, .memNear, .memBadNear, .memNearErr]
  | .ccClean .. | .ccInvalidate .. | .ccCleanInvalidate .. =>
    some [.regs, .cores, .wear, .mgmt, .log, .eventSeq, .memNear, .memBadNear, .memNearErr, .memBurstBad, .memCache,
    .memWbWaits]
  | .burstCrcFail .. =>
    some [.regs, .wear, .mgmt, .log, .eventSeq, .memBurstBad, .memChans]
  | .odecReport .. | .hwmClear | .badFrame =>
    some [.regs]
  | .scrubRead .. =>
    some [.regs, .wear, .mgmt, .log, .eventSeq, .memNear, .memBadNear, .memNearErr, .memTileErr, .memBurstBad, .memCache]
  | .addRequest .. | .addResend .. | .enable .. | .disable .. | .pause .. | .resume .. | .setEpoch .. | .pauseCtx .. |
  .resumeCtx .. | .flushStats .. | .stallFlush .. =>
    some [.regs, .cores, .qs, .fab, .wear, .mgmt, .log, .eventSeq, .memNear, .memBadNear, .memNearErr, .memBurstBad, .memChans,
    .memAddWaits]
  | .writebackResend .. =>
    some [.regs, .wear, .mgmt, .log, .eventSeq, .memNear, .memBadNear, .memNearErr, .memBurstBad, .memWbWaits]
  | .stackTempSample .. | .thermalAdjust .. | .thermalTrip .. =>
    some [.regs, .cores, .bufs, .qs, .tier, .fab, .sc, .wear, .media, .pwr, .mgmt, .dev, .log, .eventSeq, .free, .memNear,
    .memTile, .memBadTile, .memTileErr]
  | .create | .free | .migrate | .place | .bump =>
    some [.regs, .cores, .qs, .sync, .tier, .wear, .media, .mgmt, .log, .eventSeq, .free, .memNear, .memBadNear, .memNearErr,
    .memBurstBad]
  | .reachableRestore .. =>
    some [.tier]
  | .fallbackFire .. =>
    some [.regs, .qs, .tier, .fab, .log, .eventSeq, .free, .memNear, .memTile, .memBadTile, .memTileErr, .memChans,
    .memAddWaits]
  | .tierEnable =>
    some [.regs, .tier, .mgmt, .memNear, .memBadNear, .memNearErr]
  | .qDoorbell .. | .doorbellHeldApply .. =>
    some [.regs, .qs, .wear, .mgmt, .log, .eventSeq, .memNear, .memBadNear, .memNearErr, .memBurstBad]
  | .descriptorComplete .. =>
    some [.regs, .cores, .qs, .sync, .tier, .fab, .media, .log, .eventSeq, .free, .memNear, .memTile, .memBadTile, .memTileErr,
    .memChans, .memAddWaits]
  | .watchdogEval =>
    some [.regs, .qs, .sync, .tier, .fab, .wear, .log, .eventSeq, .free, .memNear, .memTile, .memBadTile, .memTileErr,
    .memChans, .memAddWaits]
  | .semSignal .. | .semaphoreWait .. | .graceEnd .. =>
    some [.regs, .cores, .qs, .sync, .media]
  | .decrement .. | .semInit .. | .semFree .. | .barInit .. | .barFree .. =>
    some [.regs, .sync]
  | .arrive .. | .fabricArrival .. | .fabricRelease .. | .swArrive .. | .arriveWait .. | .poisonCtx .. =>
    some [.regs, .cores, .qs, .sync, .fab, .media, .log, .eventSeq]
  | .fabricFaultMessage .. =>
    some [.regs, .cores, .sync, .fab, .log, .eventSeq]
  | .swWait .. | .swTimeout .. =>
    some [.regs, .cores, .sync]
  | .set .. | .complete .. | .manualRelease .. | .manualFree .. =>
    some [.regs, .cores, .qs, .sync, .fab, .wear, .media, .mgmt, .log, .eventSeq]
  | .opt .. | .chain .. | .chainDecision .. | .chainChunkArrival .. =>
    some [.regs, .cores, .qs, .sync, .fab, .wear, .media, .mgmt, .log, .eventSeq, .free, .memNear, .memBadNear, .memNearErr,
    .memBurstBad]
  | .blockReread .. =>
    some [.regs, .cores, .qs, .sync, .wear, .media, .mgmt, .log, .eventSeq, .free, .memNear, .memBadNear, .memNearErr,
    .memBurstBad]
  | .chainHeaderArrival .. | .chainTrailerArrival .. | .lateFold .. =>
    some [.regs, .cores, .qs, .sync, .fab, .wear, .media, .mgmt, .log, .eventSeq, .memNear, .memBadNear, .memNearErr,
    .memBurstBad]
  | .lateCopy .. =>
    some [.regs, .cores, .qs, .sync, .fab, .wear, .media, .mgmt, .log, .eventSeq, .memNear, .memBadNear, .memNearErr,
    .memBurstBad, .memCache, .memPlru, .memWbWaits]
  | .idleFlit .. =>
    some [.regs, .fab, .wear]
  | .nak .. | .replayTimeout .. | .laneSerExceed .. | .downRetry .. =>
    some [.regs, .fab, .wear, .mgmt, .log, .eventSeq]
  | .timeExchange =>
    some [.fab]
  | .timeFlit .. | .ppsEdge =>
    some [.regs, .fab, .ft]
  | .linkStateAnnounce .. =>
    some [.regs, .cores, .sync, .tier, .fab, .log, .eventSeq]
  | .pcieConfigRequest .. =>
    some [.regs, .tier, .fab, .free]
  | .perstN =>
    some [.regs, .tier, .fab]
  | .flr =>
    some [.regs, .tier, .fab, .mgmt]
  | .snap .. | .snapStart .. | .scRestore .. | .scCheck .. =>
    some [.regs, .cores, .qs, .sync, .fab, .sc, .wear, .media, .mgmt, .log, .eventSeq, .memNear, .memBadNear, .memNearErr,
    .memBurstBad]
  | .dramBankCopyEnd .. | .histogramSample .. =>
    some [.wear]
  | .retireLoad .. | .lifeSaveNow .. =>
    some [.regs, .wear, .boot]
  | .lifetimeSave | .bootRrTimeout =>
    some [.wear, .boot]
  | .openSession .. | .closeSession .. | .decode .. | .encode .. | .flush .. | .frameBufferWaitEnd .. =>
    some [.regs, .cores, .qs, .sync, .wear, .sessions, .media, .mgmt, .log, .eventSeq, .free, .memNear, .memBadNear,
    .memNearErr, .memBurstBad]
  | .patchBlockWrite .. =>
    some [.regs, .cores, .qs, .sync, .wear, .sessions, .media, .mgmt, .log, .eventSeq, .free, .memNear, .memTile, .memBadNear,
    .memBadTile, .memNearErr, .memTileErr, .memBurstBad]
  | .mxRelease .. =>
    some [.regs, .wear, .sessions, .mgmt, .log, .eventSeq, .memNear, .memBadNear, .memNearErr, .memBurstBad]
  | .abort .. =>
    some [.regs, .cores, .qs, .sync, .wear, .sessions, .media, .mgmt, .log, .eventSeq, .memNear, .memBadNear, .memNearErr,
    .memBurstBad]
  | .windowBoundary .. | .overcurrentWarning | .undervoltageWarning =>
    some [.regs, .wear, .pwr]
  | .pmbusTelemetry .. =>
    some [.wear, .pwr, .mgmt]
  | .clockSwitch .. =>
    some [.regs, .pwr]
  | .thermNAssert =>
    some [.regs, .wear, .pwr, .pins]
  | .thermNRelease =>
    some [.pwr, .pins]
  | .thermNStuck =>
    some [.regs, .pins]
  | .regulatorFault =>
    some [.regs, .cores, .bufs, .qs, .tier, .fab, .sc, .wear, .media, .pwr, .mgmt, .dev, .free, .memNear, .memTile, .memBadTile,
    .memTileErr]
  | .txnIdleTimeout .. | .mbClaim .. | .mbClaimRelease .. | .mbRelease .. | .pairShort | .noBeacon | .stateEvent =>
    some [.regs, .mgmt]
  | .drainComplete =>
    some [.regs, .cores, .accs, .ftq, .bufs, .tables, .wear, .mgmt, .dev, .devBusy, .log, .eventSeq, .memTile, .memBadTile,
    .memTileErr, .memCache, .memPlru]
  | .shortRetry .. | .beaconResume | .idConflict =>
    some [.mgmt]
  | .resetNRelease .. | .supplyInRange =>
    some [.regs, .tables, .wear, .pwr, .mgmt, .boot, .pins, .dev, .log, .eventSeq]
  | .temperatureGate =>
    some [.regs, .cores, .accs, .ftq, .bufs, .tables, .fab, .wear, .mgmt, .boot, .dev, .log, .eventSeq, .memTile, .memBadTile,
    .memTileErr, .memCache, .memPlru]
  | .fwBegin .. | .cancel .. | .quoteNonce .. =>
    some [.regs, .boot]
  | .fwUpdData .. =>
    some [.regs, .boot, .memNear]
  | .finish .. =>
    some [.regs, .tables, .wear, .pwr, .mgmt, .boot, .log, .eventSeq]
  | .flashWriteEnd .. =>
    some [.regs, .wear, .boot, .log, .eventSeq]
  | .pdcBlob .. =>
    some [.regs, .mgmt, .boot, .log, .eventSeq]
  | .quoteComplete =>
    some [.boot]
  | .extest .. | .samplePreload .. | .idcode | .clamp | .highz | .ecidcode | .extestPulse .. | .extestTrain .. | .bypass | .trstN =>
    some [.regs, .tables, .wear, .pwr, .mgmt, .boot, .pins, .log, .eventSeq]
  | .channelRetrainEnd .. =>
    some [.regs, .wear, .mgmt, .log, .eventSeq, .memChans]
  | .perstNRelease =>
    some [.fab, .free]
  | .overcurrentCapEnd =>
    some [.pwr]

/-- May a command touch a part? -/
def mayTouch (c : Instr) (p : Part) : Bool :=
  match touched c with
  | some l => l.contains p
  | none => true

end Sys2Proof.Machine
end

