-- ==== Sys2Proof/Certificates/Slice0/Obligations.lean ====
section
/-! DEFINITION. The statements for the provers: what the machine as a whole does, then what the commands of each family do, what
they leave unchanged, and where they end without their effect. A clause that rests on a choice of the model names its log entry. -/

open Sys2Proof Sys2Proof.Machine

/-! ### The machine as a whole -/

/-- A step executes the command at the front of the queue on the state with the rest of the queue. -/
def Obligations.StepRunsTheFrontCommand : Prop :=
  ∀ (s : State) (c : Instr) (rest : List Instr),
    step { s with pending := c :: rest } = exec c { s with pending := rest }

/-- With no command waiting a step is one control cycle: the cycle counter rises by 1 and, while no slew is asked for, fabric time by 5/9
ns (R7, R42, R43); with no request lost and no packet set aside the memories are as they were. The choice of the empty queue is the
model's (log entry 1). -/
def Obligations.IdleStepIsOneControlCycle : Prop :=
  ∀ s : State, s.pending = [] → s.fab.slewNs = 0 → s.fab.lost = [] → s.fab.parked = [] →
    ∃ t, step s = .next t ∧ t.cycle = s.cycle + 1 ∧ t.ftPrev = s.ft ∧ t.ft = s.ft + BitVec.ofNat 64 ((s.ninths + 5) / 9) ∧
      t.ninths = (s.ninths + 5) % 9 ∧ t.mem = s.mem ∧ t.pending = []

/-- Every step keeps the invariants, from every state that has them. -/
def Obligations.EveryStepKeepsTheInvariants : Prop :=
  ∀ s t : State, s.Inv → step s = .next t → t.Inv

/-- A command answers a next state exactly where its operands name units of the device, and leaves the queue of commands that wait as it
was; else it ends in the fault noSuchUnit. No command is refused. -/
def Obligations.EveryWellFormedCommandRuns : Prop :=
  (∀ (c : Instr) (s : State),
     (c.wf = true → ∃ t, exec c s = .next t) ∧ (c.wf = false → ∃ what, exec c s = .fault (.noSuchUnit what))) ∧
  (∀ (c : Instr) (s t : State), s.Inv → exec c s = .next t → t.pending = s.pending)

/-- What each command leaves as it was: of the registers, engines, memories, queues, objects and units of the device, everything that its
row does not name. No item of an execute engine, say, moves fabric time or the state of the device, and no command of a media engine
or of the tier manager touches an accumulator, a table or the pins. -/
def Obligations.CommandsKeepTheRest : Prop :=
  ∀ (c : Instr) (s t : State) (p : Part), exec c s = .next t → mayTouch c p = false → p.same s t

/-- A device whose waiting commands all name its units runs for any number of steps with no fault and no refusal. -/
def Obligations.WellFormedQueuesRunForever : Prop :=
  ∀ (s : State) (k : Nat), s.Inv → s.queueOk = true → s.safeFor k

/-- What reset leaves (R124, R174, R361, R391, R544, R575, R629, R635). -/
def Obligations.ResetState : Prop :=
  (∀ o, State.reset.reg o = 0) ∧
  (∀ core t, (State.reset.acc core t).empty = true ∧ (State.reset.acc core t).owner = none ∧ State.reset.ftqOf core = []) ∧
  (∀ core b, (State.reset.buf core b).tag = 0 ∧ (State.reset.buf core b).words = []) ∧
  (∀ core slot bank, (State.reset.bank core slot bank).empty = true) ∧
  (∀ q, (State.reset.queue q).state = .disabled ∧ (State.reset.queue q).cached = false) ∧
  (∀ i, State.reset.semObj i = 0) ∧ (∀ b, (State.reset.bar b).obj = 0) ∧
  State.reset.qs.buffers = [] ∧ State.reset.qs.stalls = [] ∧ State.reset.mgmt.txns = [] ∧ State.reset.mgmt.segs = [] ∧
  State.reset.log = [] ∧ State.reset.eventSeq = 0 ∧ State.reset.dev = .reset ∧ State.reset.pending = []

/-- The invariants hold right after reset. -/
def Obligations.ResetMeetsTheInvariants : Prop := State.reset.Inv

/-! ### Registers and control processors -/

/-- A write of a register that commands nothing, with no reserved bit set: its RW bits take the bits written, its W1C bits clear where a 1
is written, every other bit and every other register stay, and so does everything that is no register (R13, R639). A register write
that sets a reserved bit is ignored as a whole: the register and everything that is no register stay, and the status counter of
RESERVED_NONZERO increments (R639); the command registers of a core show it in their own indications. A W1C bit that software clears
in the cycle in which the hardware sets it reads 1 afterwards, and the counter register that goes with it, where it has one,
increments, or for a fault bit the status counter of the fault's code; a W1C bit that the hardware does not set clears where a 1 is
written (R13). -/
def Obligations.RegisterWrites : Prop :=
  ((∀ (s : State) (off v : Nat) (r : RegSpec), regSpec off = some r → (r.size = 4 ∨ r.size = 8) → off % r.size = 0 →
      commandReg off = false → v < 2 ^ (8 * r.size) → v &&& r.rsvd = 0 → s.regsLive = true →
      ∃ t, exec (.registerWrite off r.size (BitVec.ofNat 64 v)) s = .next t ∧
        (∀ i, i < 64 → (t.reg off).getLsbD i =
          if r.rw.testBit i then v.testBit i else (s.reg off).getLsbD i && !(r.w1c.testBit i && v.testBit i)) ∧
        (∀ o, o ≠ off → t.reg o = s.reg o) ∧ { t with regs := s.regs } = s) ∧
   (∀ (s : State) (off v : Nat) (r : RegSpec), regSpec off = some r → (r.size = 4 ∨ r.size = 8) → off % r.size = 0 →
      v < 2 ^ (8 * r.size) → v &&& r.rsvd ≠ 0 → s.regsLive = true →
      ∃ t, exec (.registerWrite off r.size (BitVec.ofNat 64 v)) s = .next t ∧
        t.reg off = s.reg off ∧ t.reg 0x650 = s.reg 0x650 + 1 ∧ { t with regs := s.regs } = s ∧
        (∀ core, isCore core = true → off = coreOff core 0x1010 →
          t.flag (coreOff core 0x1004) 16 = true ∧ t.reg (coreOff core 0x1038) = s.reg (coreOff core 0x1038) + 1) ∧
        (∀ core, isCore core = true → off = coreOff core 0x1000 → bits (t.reg (coreOff core 0x1004)).toNat 15 0 = 0x0102) ∧
        (∀ core, isCore core = true → off = coreOff core 0x7118 →
          t.reg (coreOff core 0x7128) = 0x0102 ∧ t.reg (coreOff core 0x7120) = 0) ∧
        (∀ core, isCore core = true → off = coreOff core 0x7090 → t.flag (coreOff core 0x7000) 4 = true) ∧
        (∀ core, isCore core = true → off = coreOff core 0x3000 →
          bits (t.reg (coreOff core 0x3018)).toNat 15 0 = 0x0102 ∧ t.flag (coreOff core 0x3018) 16 = true))) ∧
  (∀ (s : State) (off : Nat) (val : W64) (hw : HwSets) (r : RegSpec) (i : Nat), regSpec off = some r → r.w1c.testBit i = true →
     hw.pool < 16 → s.regsLive = true →
     ∃ t, exec (.w1cClear off val hw) s = .next t ∧
       (hw.bits.getLsbD i = true → t.flag off i = true ∧ (∀ c, seenCounter off i = some c → t.reg c = s.reg c + 1) ∧
         (seenFault off i = true → seenCounter off i = none → hw.st ≠ .ok → val.toNat % 2 ^ (8 * r.size) &&& r.rsvd = 0 →
           t.reg hw.st.counterOff = s.reg hw.st.counterOff + 1)) ∧
       (hw.bits.getLsbD i = false → val.getLsbD i = true → val.toNat % 2 ^ (8 * r.size) &&& r.rsvd = 0 → t.flag off i = false))

/-- A control processor's load or store to a tile-memory window, the tag store among them: misaligned, it raises the misaligned exception
and does nothing else; aligned, a load delivers the bytes and a store writes them (R234). -/
def Obligations.ControlProcessorTileAccess : Prop :=
  ∀ (s : State) (core c o n : Nat) (a v : W64) (ups : List Upset), isCore core = true → cpSize n = true → s.cpLive core = true →
    a.toNat < 2 ^ 48 → s.region a.toNat = .tile c o → ups.all upsetOk = true →
    let u := ups.foldl State.upset s
    (a.toNat % n ≠ 0 →
      exec (.cpAccess core .load a n v ups) s =
        .next (u.setCore core { u.core core with cpExc := some (.loadMisaligned, a) }) ∧
      exec (.cpAccess core .store a n v ups) s =
        .next (u.setCore core { u.core core with cpExc := some (.storeMisaligned, a) })) ∧
    (a.toNat % n = 0 →
      exec (.cpAccess core .store a n v ups) s = .next (u.putTile c o (leBytes n v.toNat)) ∧
      (u.tileBad c o n = none → u.mem.tileErr = [] →
        exec (.cpAccess core .load a n v ups) s =
          .next (u.setCore core { u.core core with cpValue := BitVec.ofNat 64 (leNat (u.tile c o n)) })))

/-- A control processor's load or store to an unmapped address, to the tiered object range or to an address above 48 bits raises an access
fault with that address and does nothing else (R58). What a control processor stores it loads back: an aligned store to near memory
through its cache, or to tile memory, and then a load of the same bytes (R58, R234, R237). It reads fabric time and the cycle counter
(R43). -/
def Obligations.LoadsAndStores : Prop :=
  (∀ (s : State) (core n : Nat) (a v : W64), isCore core = true → cpSize n = true → s.cpLive core = true →
     ((2 ^ 48 ≤ a.toNat ∨ s.region a.toNat = .unmapped ∨ ∃ o, s.region a.toNat = .tiered o) →
       exec (.cpAccess core .load a n v []) s =
         .next (s.setCore core { s.core core with cpExc := some (.loadAccessFault, a) }) ∧
       exec (.cpAccess core .store a n v []) s =
         .next (s.setCore core { s.core core with cpExc := some (.storeAccessFault, a) })) ∧
     exec (.cpAccess core .time a n v []) s = .next (s.setCore core { s.core core with cpValue := s.ft }) ∧
     exec (.cpAccess core .cycle a n v []) s = .next (s.setCore core { s.core core with cpValue := s.cycle })) ∧
  (∀ (s t : State) (core n : Nat) (a v w : W64), isCore core = true → cpSize n = true → s.cpLive core = true →
     a.toNat < 2 ^ 48 → a.toNat % n = 0 →
     ((∃ c o, s.region a.toNat = .tile c o) ∨
       (∃ p, s.region a.toNat = .near p ∧ s.cpBarred p n true = false ∧ (s.cacheLine core (p / 64)).2.1 = .ok)) →
     exec (.cpAccess core .store a n v []) s = .next t →
     (∀ c o, s.region a.toNat = .tile c o → t.tileBad c o n = none ∧ t.mem.tileErr = []) →
     ∃ u, exec (.cpAccess core .load a n w []) t = .next u ∧ (u.core core).cpValue.toNat = v.toNat % 2 ^ (8 * n))

/-- An atomic operation at its home reads the aligned location through the home's cache, returns the old value and leaves there what its
row of R240 says; it is counted in `CC_AMO` of the home. Each command that writes `AMO_CMD` performs its operation on `AMO_ADDR`,
`AMO_OP0` and `AMO_OP1` with its core as home: `AMO_STATUS` then reads OK and `AMO_RESULT` the old value, and a read of `AMO_RESULT`
delivers it. A misaligned address leaves RESERVED_NONZERO and 0, an absent home PAGE_FAULT and a fenced one OWNER_LOST, and the caches
and memories as they were (R242, R243). -/
def Obligations.AtomicOperations : Prop :=
  (∀ (s : State) (home a code op0 op1 : Nat) (wide : Bool), code ≤ 0x13 → s.amoOk home a (amoSize code wide) →
     (s.cacheLine home (a / 64)).2.1 = .ok →
     let size := amoSize code wide
     let old := leNat (s.cacheRead home a size).2.2
     let r := s.amoAt home a code size op0 op1
     r.2 = (.ok, old) ∧
     leNat (r.1.cacheRead home a size).2.2 =
       (amoRow (8 * size) code (BitVec.ofNat _ old) (BitVec.ofNat _ op0) (BitVec.ofNat _ op1)).toNat ∧
     r.1.reg (coreOff home 0x7050) = s.reg (coreOff home 0x7050) + 1) ∧
  (∀ (s : State) (core code : Nat) (wide : Bool) (c : Instr),
     (c, code) ∈ [(.amoIntegerAdd core wide, b2n wide), (.amoSignedMinimum core wide, 2 + b2n wide),
       (.amoSignedMaximum core wide, 4 + b2n wide), (.amoUnsignedMinimum core wide, 6 + b2n wide),
       (.amoUnsignedMaximum core wide, 8 + b2n wide), (.amoSwap core wide, 10 + b2n wide),
       (.amoCompareAndSwap core wide, 12 + b2n wide), (.amoFp32Add core, 14), (.amoFp32Minimum core, 15), (.amoFp32Maximum core, 16)] →
     isCore core = true → s.regsLive = true →
     let a := (s.reg (coreOff core 0x7100)).toNat
     let size := amoSize code false
     let refused := fun (st : Nat) =>
       ∃ t, exec c s = .next t ∧ t.reg (coreOff core 0x7128) = BitVec.ofNat 64 st ∧ t.reg (coreOff core 0x7120) = 0 ∧ t.mem = s.mem
     (s.amoOk core a size → (s.cacheRead core a size).2.1 = .ok →
       ∃ t u, exec c s = .next t ∧ t.reg (coreOff core 0x7128) = 0 ∧
         t.reg (coreOff core 0x7120) = BitVec.ofNat 64 (leNat (s.cacheRead core a size).2.2) ∧
         t.mem = (s.amoAt core a code size (s.reg (coreOff core 0x7108)).toNat (s.reg (coreOff core 0x7110)).toNat).1.mem ∧
         exec (.amoResultRead core) t = .next u ∧
         (u.core core).cpValue = BitVec.ofNat 64 (leNat (s.cacheRead core a size).2.2)) ∧
     ((s.core core).absent = true → refused 0x0201) ∧
     ((s.core core).absent = false → (s.core core).fenced = true → refused 0x0403) ∧
     ((s.core core).absent = false → (s.core core).fenced = false → a + size ≤ Config.nearBytes → touchesFw a size = false →
       a % size ≠ 0 → refused 0x0102))

/-- RV64A instructions deliver the old value, a word sign-extended (the model's reading of RV64A, log entry 47); one that is not
aligned raises an exception and changes nothing (R242). An LR reserves its line for 256 control cycles and delivers the value; an SC
without a reservation delivers 1 and changes nothing but the reservation; with one it writes and delivers 0 (R244). A store or atomic
operation that writes a line through a core's cache ends that core's reservation on it, and so does a clean or an invalidation of the
line (R244). -/
def Obligations.ReservationsAndRvAtomics : Prop :=
  (∀ (s : State) (core size : Nat) (a v : W64), isCore core = true → s.cpLive core = true → lrSize size = true →
     s.cpBarred a.toNat size true = false → a.toNat % size = 0 →
     (∀ code wide, rvCode code = true → amoSize code wide = size →
       (s.amoAt core a.toNat code size v.toNat 0).2.1 = .ok →
       ∃ t, exec (.rv64aAmo core code wide a v) s = .next t ∧
         (t.core core).cpValue =
           BitVec.ofInt 64 (signed (8 * size) (s.amoAt core a.toNat code size v.toNat 0).2.2) ∧
         t.mem = (s.amoAt core a.toNat code size v.toNat 0).1.mem) ∧
     (∀ code wide b, rvCode code = true → amoSize code wide = size → s.cpBarred (BitVec.toNat b) size true = false → b.toNat % size ≠ 0 →
       exec (.rv64aAmo core code wide b v) s =
         .next (s.setCore core { s.core core with cpExc := some (.storeMisaligned, b) })) ∧
     ((s.cacheRead core a.toNat size).2.1 = .ok →
       ∃ t, exec (.lr core a size) s = .next t ∧
         (t.core core).lr = some { line := a.toNat / 64, expires := s.cycle.toNat + 256 } ∧
         (t.core core).cpValue = BitVec.ofInt 64 (signed (8 * size) (leNat (s.cacheRead core a.toNat size).2.2))) ∧
     (s.scHolds core (a.toNat / 64) = false →
       exec (.sc core a size v) s = .next (s.setCore core { s.core core with lr := none, cpValue := 1 })) ∧
     (s.scHolds core (a.toNat / 64) = true →
       let s' := s.setCore core { s.core core with lr := none }
       let w := s'.cacheWrite core a.toNat (leBytes size v.toNat)
       w.2 = .ok →
       ∃ t, exec (.sc core a size v) s = .next t ∧ (t.core core).cpValue = 0 ∧ (t.core core).lr = none ∧ t.mem = w.1.mem)) ∧
  (∀ (s : State) (core line : Nat) (r : Reservation), (s.core core).lr = some r → r.line = line →
     (∀ a bytes, bytes ≠ [] → a / 64 = line → a % 64 + bytes.length ≤ 64 → (s.cacheLine core line).2.1 = .ok →
       ((s.cacheWrite core a bytes).1.core core).lr = none) ∧
     (∀ clean inval, (s.findWay core line).isSome = true → ((s.maintLine core line clean inval).core core).lr = none))

/-- A maintenance operation with a range in order cleans, invalidates, or cleans and invalidates every line of the core's cache that meets
it, one after the other, and with one that is not in order sets `MAINT_ERR` and changes nothing but registers; `CC_MAINT_BUSY` reads 1
while a write-back that a maintenance operation asked for waits to be re-sent (R239, R260). -/
def Obligations.CacheMaintenance : Prop :=
  ∀ (s : State) (core : Nat), isCore core = true → s.cpLive core = true →
    let a := (s.reg (coreOff core 0x7080)).toNat
    let n := (s.reg (coreOff core 0x7088)).toNat
    (a % 64 = 0 → n % 64 = 0 → n ≠ 0 → a + n ≤ Config.nearBytes →
      exec (.ccClean core) s = .next (((s.linesIn core a n).foldl (fun t l => t.maintLine core l true false) s).markMaint core a n) ∧
      exec (.ccInvalidate core) s = .next (((s.linesIn core a n).foldl (fun t l => t.maintLine core l false true) s).markMaint core a n) ∧
      exec (.ccCleanInvalidate core) s = .next (((s.linesIn core a n).foldl (fun t l => t.maintLine core l true true) s).markMaint core a n)) ∧
    (a % 64 ≠ 0 ∨ n % 64 ≠ 0 ∨ n = 0 ∨ Config.nearBytes < a + n →
      ∀ c, c = .ccClean core ∨ c = .ccInvalidate core ∨ c = .ccCleanInvalidate core →
        ∃ t, exec c s = .next t ∧ t.flag (coreOff core 0x7000) 4 = true ∧ { t with regs := s.regs } = s) ∧
    (∀ line w, s.findWay core line = some w →
      ((s.maintLine core line false true).cline core (lineSet line) w).valid = false ∧
      ((s.maintLine core line true true).cline core (lineSet line) w).valid = false ∧
      (s.maintLine core line false true).mem.near = s.mem.near ∧
      ((s.maintLine core line true false).cline core (lineSet line) w).dirty = false) ∧
    (bitAt (s.regRead (coreOff core 0x7000)) 2 = s.mem.wbWaits.any fun w => decide (w.core = core) && w.maint)

/-! ### Semaphores and barriers -/

/-- The operations on a semaphore by its state: the status of each is that of the table of R368, an operation with a status other than OK
changes nothing but registers, and the others do what the table says, an INIT, FREE, SIGNAL or DECREMENT. The operations on a barrier
by its state: the status of each is that of the table of R379, and an operation refused by its state or its checks changes nothing but
registers. INIT makes it LIVE in round 0 with empty slots, FREE sets it FREE and keeps the header. -/
def Obligations.OperationsByState : Prop :=
  (∀ (s : State) (core i : Nat) (n : W32) (thr : BitVec 16), isCore core = true → isSem i = true → s.cpLive core = true →
     let S := s.sem i
     (∀ c, c = .semSignal core i n ∨ c = .decrement core i n ∨ c = .semInit core i n thr ∨ c = .semFree core i →
       ∃ t, exec c s = .next t ∧ t.swStatus core = (semTable S c).code ∧
         (semTable S c ≠ .ok → s.onlyRegs t ∧ t.reg (coreOff core 0x3020) = s.reg (coreOff core 0x3020) + 1 ∧
           t.flag (coreOff core 0x3018) 16 = true ∧ t.flag 0x3004 5 = true ∧
           t.reg (semTable S c).counterOff = s.reg (semTable S c).counterOff + 1)) ∧
     (S.state = .live → S.waiters = [] → n ≠ 0 →
       ∃ t, exec (.semSignal core i n) s = .next t ∧
         s.semNow t i { S with
           count := if 2 ^ 32 ≤ S.count.toNat + n.toNat then 0xFFFFFFFF else S.count + n
           riseFt := if S.count = 0 then s.ft.toNat else S.riseFt } ∧
         t.reg 0x3010 = s.reg 0x3010 + (if 2 ^ 32 ≤ S.count.toNat + n.toNat then 1 else 0) ∧
         s.regsBut t [coreOff core 0x3018, 0x3010, 0x3004]) ∧
     (S.state = .live → n ≠ 0 → n ≤ S.count →
       ∃ t, exec (.decrement core i n) s = .next t ∧ s.semNow t i { S with count := S.count - n } ∧
         s.regsBut t [coreOff core 0x3018]) ∧
     (S.state = .live → S.count < n →
       ∃ t, exec (.decrement core i n) s = .next t ∧ s.onlyRegs t ∧ t.reg 0x3008 = s.reg 0x3008 + 1 ∧ t.flag 0x3004 0 = true) ∧
     (S.state = .free → S.cfgStatus thr.toNat = .ok →
       ∃ t, exec (.semInit core i n thr) s = .next t ∧
         s.semNow t i { S with state := .live, count := n, thr := thr.toNat, waiters := [] } ∧ s.regsBut t [coreOff core 0x3018]) ∧
     (S.state ≠ .free → S.waiters = [] →
       ∃ t, exec (.semFree core i) s = .next t ∧ s.semNow t i { S with state := .free, count := 0, thr := 0 } ∧
         s.regsBut t [coreOff core 0x3018])) ∧
  (∀ (s : State) (core b p : Nat), isCore core = true → isBar b = true → s.cpLive core = true →
     let B := s.bar b
     (∀ c, c = .barInit core b ∨ c = .barFree core b ∨ c = .arrive core b p →
       ∃ t, exec c s = .next t ∧
         t.swStatus core = (barTable B c).code ∧
         (barTable B c ≠ .ok → (B.state = .live → barTable B c ≠ .barrierOverrun) → s.onlyRegs t ∧
           t.reg (coreOff core 0x3020) = s.reg (coreOff core 0x3020) + 1 ∧ t.flag (coreOff core 0x3018) 16 = true)) ∧
     (B.state = .free → B.cfgStatus = .ok →
       ∃ t, exec (.barInit core b) s = .next t ∧ s.regsBut t [coreOff core 0x3018] ∧
         s.barNow t b { B with state := .live, round := 0, sense := false, slot0 := 0, slot1 := 0, chipArr0 := 0, chipArr1 := 0, ovrPart := 0, sent := false, waiters := [] }) ∧
     (B.state ≠ .free → (B.state = .live → B.waiters = []) →
       ∃ t, exec (.barFree core b) s = .next t ∧ s.regsBut t [coreOff core 0x3018] ∧
         s.barNow t b { B with state := .free, round := 0, sense := false, slot0 := 0, slot1 := 0, chipArr0 := 0, chipArr1 := 0, ovrPart := 0, sent := false, waiters := [] }))

/-- A control processor's wait on a semaphore: satisfied at once it takes `n` where its `consume` bit says so and `SW_RESULT` holds the
count that is left; else it is registered, and a later signal that allows it ends it in the same way; on an object that is not LIVE it
ends with its status (R368, R369, R385). A request begun while one is under way is refused with STATE_CONFLICT. A read of `SW_RESULT`
with no request under way returns the last result; with one it stalls the control processor, and the end of the request delivers the
result to it. A request that `SW_TIMEOUT` ends is
withdrawn with DEADLINE_MISSED, its object as it was but for the waiter (R385). -/
def Obligations.SemaphoreWaits : Prop :=
  (∀ (s : State) (core i : Nat) (n : W32) (consume : Bool), isCore core = true → isSem i = true → s.cpLive core = true → n ≠ 0 →
     let S := s.sem i
     ((s.core core).sw = none → S.state = .live → S.waiters = [] → n ≤ S.count →
       ∃ t, exec (.semaphoreWait core i n consume) s = .next t ∧ t.sem i = { S with count := if consume then S.count - n else S.count } ∧
         t.reg (coreOff core 0x3010) = (if consume then S.count - n else S.count).zeroExtend 64 ∧ (t.core core).sw = none ∧
         (∀ j, j ≠ i → t.sem j = s.sem j) ∧ t.sync.bars = s.sync.bars ∧ t.mem = s.mem ∧ t.qs = s.qs) ∧
     ((s.core core).sw = none → S.state = .live → S.waiters = [] → S.count < n →
       ∃ t, exec (.semaphoreWait core i n consume) s = .next t ∧ t.sem i = { S with waiters := [.cp core] } ∧
         (t.core core).sw = some { kind := 0, index := i, n := n, consume := consume, start := s.cycle.toNat } ∧
         (∀ j, j ≠ i → t.sem j = s.sem j) ∧ t.sync.bars = s.sync.bars ∧ t.mem = s.mem ∧ t.qs = s.qs) ∧
     ((s.core core).sw = none → S.state ≠ .live →
       ∃ t, exec (.semaphoreWait core i n consume) s = .next t ∧ t.sync = s.sync ∧ (t.core core).sw = none ∧
         t.reg (coreOff core 0x3010) =
           BitVec.ofNat 64 ((if S.state = .free then Status.stateConflict else Status.ownerLost).code * 2 ^ 48)) ∧
     (∀ w r, isCore w = true → S.state = .live → S.waiters = [.cp w] → (s.core w).sw = some r → S.count.toNat + n.toNat < 2 ^ 32 →
       (r.n ≤ S.count + n →
         ∃ t, exec (.semSignal core i n) s = .next t ∧ (t.core w).sw = none ∧
           t.sem i = { S with
             count := if r.consume then S.count + n - r.n else S.count + n
             waiters := []
             riseFt := if S.count = 0 then s.ft.toNat else S.riseFt } ∧
           t.reg (coreOff w 0x3010) = (if r.consume then S.count + n - r.n else S.count + n).zeroExtend 64 ∧
           (r.stalled = true → (t.core w).cpValue = BitVec.ofNat 64
             ((if r.consume then S.count + n - r.n else S.count + n).toNat / 2 ^ (8 * r.part) % 2 ^ (8 * r.size)))) ∧
       (S.count + n < r.n →
         ∃ t, exec (.semSignal core i n) s = .next t ∧ (t.core w).sw = some r ∧
           t.sem i = { S with count := S.count + n, riseFt := if S.count = 0 then s.ft.toNat else S.riseFt })) ∧
     (∀ r c, (s.core core).sw = some r →
       (c = .semaphoreWait core i n consume ∨
         ∃ b p q, isBar b = true ∧ (c = .swArrive core b p ∨ c = .swWait core b q ∨ c = .arriveWait core b p)) →
       ∃ t, exec c s = .next t ∧ s.onlyRegs t ∧ t.swStatus core = 0x0101 ∧
         t.reg (coreOff core 0x3020) = s.reg (coreOff core 0x3020) + 1)) ∧
  (∀ (s : State) (core : Nat), isCore core = true →
     (s.cpLive core = true → (s.core core).sw = none →
       exec (.swResultRead core) s = .next (s.setCore core { s.core core with cpValue := s.reg (coreOff core 0x3010) })) ∧
     (∀ r, (s.core core).sw = some r →
       (s.cpLive core = true →
         exec (.swResultRead core) s = .next (s.setCore core { s.core core with sw := some { r with stalled := true, part := 0, size := 8 } })) ∧
       (let limit := bits (s.reg (coreOff core 0x3008)).toNat 31 0
        (limit = 0 ∨ s.cycle.toNat < r.start + limit → exec (.swTimeout core) s = .next s) ∧
        (limit ≠ 0 → r.start + limit ≤ s.cycle.toNat →
         ∃ t, exec (.swTimeout core) s = .next t ∧ (t.core core).sw = none ∧
           t.reg (coreOff core 0x3010) = BitVec.ofNat 64 (0x0301 * 2 ^ 48) ∧
           (∀ j, t.sem j = { s.sem j with waiters := (s.sem j).waiters.filter (· ≠ .cp core) }) ∧
           (∀ b, t.bar b = if r.kind ≠ 0 ∧ b = r.index then
               { s.bar b with waiters := (s.bar b).waiters.filter (fun w => w.1 ≠ core) } else s.bar b) ∧
           t.mem = s.mem ∧ t.qs = s.qs))))

/-- Arrivals at a LIVE barrier: the participant's bit is set in the current slot, where it is clear there; else, an early arrival, in the
other slot, where it is clear there; else the barrier overruns (R376). A full current slot ends its round (R377): the slot is cleared,
`round` and `sense` step, and the waiters for the round go. An overrun faults the barrier, records the participant, freezes slots and
round, releases every waiter with BARRIER_OVERRUN and counts it; every later ARRIVE or wait gets BARRIER_OVERRUN and changes nothing
but registers and its own request (R378). -/
def Obligations.BarrierArrivals : Prop :=
  (∀ (s : State) (core b p : Nat), isCore core = true → isBar b = true → s.cpLive core = true →
     let B := s.bar b
     B.state = .live → p ≤ B.nPartM1 → B.nPartM1 < 144 →
     let cur := if B.sense then B.slot1 else B.slot0
     let oth := if B.sense then B.slot0 else B.slot1
     let put := fun (B : Bar) (odd : Bool) (v : BitVec 144) => if odd then { B with slot1 := v } else { B with slot0 := v }
     (cur.getLsbD p = false → (cur ||| 1#144 <<< p).toNat ≠ 2 ^ (B.nPartM1 + 1) - 1 →
       ∃ t, exec (.arrive core b p) s = .next t ∧ s.barNow t b (put B B.sense (cur ||| 1#144 <<< p)) ∧
         s.regsBut t [coreOff core 0x3018]) ∧
     (cur.getLsbD p = true → oth.getLsbD p = false →
       ∃ t, exec (.arrive core b p) s = .next t ∧ s.barNow t b (put B (!B.sense) (oth ||| 1#144 <<< p)) ∧
         s.regsBut t [coreOff core 0x3018]) ∧
     (cur.getLsbD p = false → (cur ||| 1#144 <<< p).toNat = 2 ^ (B.nPartM1 + 1) - 1 → oth.toNat ≠ 2 ^ (B.nPartM1 + 1) - 1 →
       B.fabric = false → B.relEn = false →
       ∃ t, exec (.arrive core b p) s = .next t ∧
         t.bar b = { put B B.sense 0 with round := B.round + 1, sense := !B.sense, sent := false, waiters := B.waiters.filter fun w => w.2 ≠ B.round } ∧
         (∀ w, w ∈ B.waiters → w.2 = B.round → (t.core w.1).sw = none) ∧
         (∀ w, B.waiters = [(w, B.round)] → isCore w = true → t.reg (coreOff w 0x3010) = B.round.zeroExtend 64) ∧
         t.mem = s.mem ∧ t.qs = s.qs ∧ t.sync.sems = s.sync.sems) ∧
     (cur.getLsbD p = false → (cur ||| 1#144 <<< p).toNat = 2 ^ (B.nPartM1 + 1) - 1 → oth.toNat ≠ 2 ^ (B.nPartM1 + 1) - 1 →
       B.fabric = false → B.relEn = true → B.waiters = [] → (s.sem B.relSem).state = .live → (s.sem B.relSem).waiters = [] →
       (s.sem B.relSem).count.toNat + (s.sem B.relSem).add < 2 ^ 32 →
       ∃ t, exec (.arrive core b p) s = .next t ∧
         t.sem B.relSem = { s.sem B.relSem with
           count := (s.sem B.relSem).count + BitVec.ofNat 32 (s.sem B.relSem).add
           riseFt := if (s.sem B.relSem).count = 0 then s.ft.toNat else (s.sem B.relSem).riseFt } ∧
         t.bar b = { put B B.sense 0 with round := B.round + 1, sense := !B.sense, sent := false })) ∧
  (∀ (s : State) (core b p : Nat), isCore core = true → isBar b = true → s.cpLive core = true →
     let B := s.bar b
     (B.state = .live → p ≤ B.nPartM1 → B.slot0.getLsbD p = true → B.slot1.getLsbD p = true → B.fabric = false →
       ∃ t, exec (.arrive core b p) s = .next t ∧ t.bar b = { B with state := .faulted, ovrPart := p, waiters := [] } ∧
         t.reg 0x3018 = s.reg 0x3018 + 1 ∧ t.flag 0x3004 2 = true ∧ t.swStatus core = 0x0402 ∧ t.sync.sems = s.sync.sems ∧
         (∀ w, w ∈ B.waiters → (t.core w.1).sw = none) ∧
         (∀ w r, B.waiters = [(w, r)] → isCore w = true → t.reg (coreOff w 0x3010) = BitVec.ofNat 64 (0x0402 * 2 ^ 48))) ∧
     (B.state = .faulted →
       (∃ t, exec (.arrive core b p) s = .next t ∧ s.onlyRegs t ∧ t.swStatus core = 0x0402) ∧
       ((s.core core).sw = none → ∀ q c, c = .swArrive core b p ∨ c = .swWait core b q ∨ c = .arriveWait core b p →
         ∃ t, exec c s = .next t ∧ t.sync = s.sync ∧ (t.core core).sw = none ∧
           t.reg (coreOff core 0x3010) = BitVec.ofNat 64 (0x0402 * 2 ^ 48))))

/-- The wait registers on a barrier: an ARRIVE returns the round of the arrival, a WAIT for a round that is over returns that round at
once, and one for a round that is not over registers its waiter; ARRIVE_WAIT does the one and then the other (R376, R379, R385). -/
def Obligations.BarrierWaits : Prop :=
  ∀ (s : State) (core b p : Nat) (r : W32), isCore core = true → isBar b = true → s.cpLive core = true → (s.core core).sw = none →
    let B := s.bar b
    B.state = .live → p ≤ B.nPartM1 → B.nPartM1 < 144 →
    let cur := if B.sense then B.slot1 else B.slot0
    let oth := if B.sense then B.slot0 else B.slot1
    (cur.getLsbD p = false → (cur ||| 1#144 <<< p).toNat ≠ 2 ^ (B.nPartM1 + 1) - 1 →
      (∃ t, exec (.swArrive core b p) s = .next t ∧ (t.core core).sw = none ∧ t.reg (coreOff core 0x3010) = B.round.zeroExtend 64 ∧
        (if B.sense then (t.bar b).slot1 else (t.bar b).slot0) = cur ||| 1#144 <<< p ∧ (t.bar b).round = B.round) ∧
      (∃ t, exec (.arriveWait core b p) s = .next t ∧ (t.bar b).waiters = B.waiters ++ [(core, B.round)] ∧
        (if B.sense then (t.bar b).slot1 else (t.bar b).slot0) = cur ||| 1#144 <<< p ∧
        (t.core core).sw = some { kind := 3, index := b, n := B.round, consume := false, start := s.cycle.toNat })) ∧
    (cur.getLsbD p = true → oth.getLsbD p = false →
      ∃ t, exec (.swArrive core b p) s = .next t ∧ (t.core core).sw = none ∧ t.reg (coreOff core 0x3010) = (B.round + 1).zeroExtend 64 ∧
        (if B.sense then (t.bar b).slot0 else (t.bar b).slot1) = oth ||| 1#144 <<< p) ∧
    ((B.round - r - 1).toNat < 2 ^ 31 →
      ∃ t, exec (.swWait core b r) s = .next t ∧ t.sync = s.sync ∧ (t.core core).sw = none ∧
        t.reg (coreOff core 0x3010) = r.zeroExtend 64) ∧
    (2 ^ 31 ≤ (B.round - r - 1).toNat →
      ∃ t, exec (.swWait core b r) s = .next t ∧ t.bar b = { B with waiters := B.waiters ++ [(core, r)] } ∧
        (t.core core).sw = some { kind := 2, index := b, n := r, consume := false, start := s.cycle.toNat }) ∧
    (cur.getLsbD p = false → (cur ||| 1#144 <<< p).toNat = 2 ^ (B.nPartM1 + 1) - 1 → oth.toNat ≠ 2 ^ (B.nPartM1 + 1) - 1 →
      B.fabric = false → B.relEn = false → B.waiters = [] →
      ∃ t, exec (.arriveWait core b p) s = .next t ∧ (t.core core).sw = none ∧
        t.reg (coreOff core 0x3010) = B.round.zeroExtend 64 ∧ (t.bar b).round = B.round + 1)

/-- The messages of a FABRIC barrier: the root counts an arrival in the slot of its round and completes the round at the last one; a
member completes the round that a release of its root names; an overrun or a poisoning of another chip faults or poisons the object.
An arrival or release that does not match is counted in `BAR_MISMATCH` and changes nothing else, and a fault message that does not
match changes nothing (R381, R382). -/
def Obligations.FabricBarrierMessages : Prop :=
  ∀ (s : State) (b chip root : Nat) (round : W32), isBar b = true → isChip chip = true → isChip root = true →
    let B := s.bar b
    (B.state = .live → B.fabric = true → B.rootChip = s.fab.chipNum →
      let n := if round.getLsbD 0 then B.chipArr1 else B.chipArr0
      (n < B.nChipsM1 →
        exec (.fabricArrival b chip round) s =
          .next (s.setBar b (if round.getLsbD 0 then { B with chipArr1 := n + 1 } else { B with chipArr0 := n + 1 }))) ∧
      (n = B.nChipsM1 → s.barPeers B = [] → B.relEn = false → B.waiters = [] → B.nPartM1 < 144 →
        (if B.sense then B.slot0 else B.slot1).toNat ≠ 2 ^ (B.nPartM1 + 1) - 1 →
        ∃ t, exec (.fabricArrival b chip round) s = .next t ∧ (t.bar b).round = B.round + 1 ∧ (t.bar b).sense = !B.sense ∧
          (if B.sense then (t.bar b).slot1 else (t.bar b).slot0) = 0 ∧
          (if round.getLsbD 0 then (t.bar b).chipArr1 else (t.bar b).chipArr0) = 0)) ∧
    (B.state = .live → B.fabric = true → B.rootChip = root → root ≠ s.fab.chipNum → B.round = round → B.sent = true →
      B.relEn = false → B.waiters = [] → (if B.sense then B.slot0 else B.slot1).toNat ≠ 2 ^ (B.nPartM1 + 1) - 1 →
      ∃ t, exec (.fabricRelease b root round) s = .next t ∧
        s.barNow t b { (if B.sense then { B with slot1 := 0 } else { B with slot0 := 0 }) with round := B.round + 1, sense := !B.sense, sent := false }) ∧
    (B.state = .live → B.fabric = true → B.rootChip = root → root ≠ s.fab.chipNum →
      (∃ t, exec (.fabricFaultMessage b root false) s = .next t ∧
        t.bar b = { B with state := .faulted, ovrPart := 0xFF, waiters := [] } ∧ (∀ w, w ∈ B.waiters → (t.core w.1).sw = none)) ∧
      (∃ t, exec (.fabricFaultMessage b root true) s = .next t ∧
        t.bar b = { B with state := .poisoned, waiters := [] } ∧ (∀ w, w ∈ B.waiters → (t.core w.1).sw = none))) ∧
    (B.state = .free ∨ B.fabric = false →
      (∀ poison, exec (.fabricFaultMessage b root poison) s = .next s) ∧
      ∀ c, c = .fabricArrival b chip round ∨ c = .fabricRelease b root round →
        ∃ t, exec c s = .next t ∧ s.onlyRegs t ∧ s.regsBut t [0x3030] ∧ t.reg 0x3030 = s.reg 0x3030 + 1)

/-- The operations by hand on the object that `SYNC_DBG_OBJ` names: SET gives a LIVE semaphore its count, COMPLETE ends a LOCAL round,
RELEASE lets every waiter go and leaves the object else as it was, FREE does so and sets it FREE; each accepted one is logged and
counted, and SET and COMPLETE of an object that is not LIVE are refused (R386, R387). POISON_CTX poisons every LIVE semaphore and
every LIVE or FAULTED barrier whose `own_ctx` is the context, and leaves every other one in its state; no wait stays registered on a
semaphore that it poisons (R372, R380, R390). -/
def Obligations.OperationsByHand : Prop :=
  (∀ (s : State) (source : Nat),
     let i := s.dbgObj.2
     (s.dbgObj.1 = false →
       let S := s.sem i
       (S.state = .live → S.waiters = [] →
         ∃ t, exec (.set source) s = .next t ∧ t.sem i = { S with count := BitVec.ofNat 32 (s.dictNat 0x9100 2) } ∧
           (∀ j, j ≠ i → t.sem j = s.sem j) ∧ t.sync.dbgLog.length = min 64 (s.sync.dbgLog.length + 1) ∧ t.flag 0x3004 4 = true) ∧
       (S.state ≠ .live → ∃ t, exec (.set source) s = .next t ∧ s.onlyRegs t ∧
         t.reg (Status.counterOff .stateConflict) = s.reg (Status.counterOff .stateConflict) + 1) ∧
       (∀ w r, S.waiters = [.cp w] → isCore w = true → (s.core w).sw = some r →
         (∃ t, exec (.manualRelease source) s = .next t ∧ t.sem i = { S with waiters := [] } ∧ (t.core w).sw = none ∧
           t.reg (coreOff w 0x3010) = BitVec.ofNat 64 (0x0404 * 2 ^ 48) ∧ t.flag 0x3004 4 = true) ∧
         (∃ t, exec (.manualFree source) s = .next t ∧ (t.core w).sw = none ∧
           t.sem i = { S with state := .free, count := 0, thr := 0, waiters := [] } ∧ t.flag 0x3004 4 = true))) ∧
     (s.dbgObj.1 = true → i < Config.bars →
       let B := s.bar i
       (B.state = .live → B.fabric = false → B.relEn = false → B.waiters = [] → B.nPartM1 < 144 →
         (if B.sense then B.slot0 else B.slot1).toNat ≠ 2 ^ (B.nPartM1 + 1) - 1 →
         ∃ t, exec (.complete source) s = .next t ∧ (t.bar i).round = B.round + 1 ∧ (t.bar i).sense = !B.sense ∧
           (if B.sense then (t.bar i).slot1 else (t.bar i).slot0) = 0 ∧ t.flag 0x3004 4 = true) ∧
       (B.state ≠ .live → ∃ t, exec (.complete source) s = .next t ∧ s.onlyRegs t) ∧
       (∃ t, exec (.manualRelease source) s = .next t ∧ t.bar i = { B with waiters := [] } ∧
         (∀ w, w ∈ B.waiters → (t.core w.1).sw = none) ∧ t.flag 0x3004 4 = true) ∧
       (∃ t, exec (.manualFree source) s = .next t ∧ (t.bar i).state = .free ∧ (t.bar i).waiters = [] ∧
         (∀ w, w ∈ B.waiters → (t.core w.1).sw = none)))) ∧
  (∀ (s : State) (ctx : Nat), isCtx ctx = true →
     ∃ t, exec (.poisonCtx ctx) s = .next t ∧
       (∀ i, (s.sem i).state = .live → (s.sem i).ownCtx = ctx →
         (t.sem i).state = .poisoned ∧ (t.sem i).count = (s.sem i).count ∧ (t.sem i).waiters = []) ∧
       (∀ b, (s.bar b).state = .live ∨ (s.bar b).state = .faulted → (s.bar b).ownCtx = ctx →
         (t.bar b).state = .poisoned ∧ (t.bar b).waiters = []) ∧
       (∀ i, (s.sem i).ownCtx ≠ ctx → (t.sem i).state = (s.sem i).state) ∧
       (∀ b, (s.bar b).ownCtx ≠ ctx → (t.bar b).state = (s.bar b).state))
/-! ### The execute engines -/

/-- An engine's item that the picker begins and that fails its checks has no effect on the memories and the engine's stores: it completes with the status of the
first check that fails, its queue is STOPPED with that status and its index, and the status is counted (R108, R109, R137, R194, R316); a
RESUME given in that very cycle is applied after the stop (R317, log entry 75).
An engine that holds no item takes the next of an ACTIVE queue's ring: `head` steps, and the item's wait is registered on its
semaphore; where it cannot be satisfied yet the item waits and has no other effect (R318, R320, R369). -/
def Obligations.EnginesTakeItems : Prop :=
  (∀ (s : State) (c : Instr) (E : EngineOps) (q : Nat) (mine : BitVec 512 → Bool) (h : Held),
     engineOf c = some (E, q, mine) → isQueue q = true → (s.queue q).kind = E.kind → s.takesItems (s.queue q).core = true →
     E.underway s (s.queue q).core = none → (s.queue q).held = some h → h.satisfied = true → mine h.item = true →
     E.free s q h.item = true → E.chosen s q = true → E.check s q h.item ≠ .ok →
     ∃ t, exec c s = .next t ∧ (t.queue q).held = none ∧
       ((s.queue q).state ≠ .disabled → (∀ r, (s.queue q).resumedAt = some r → r.1 ≠ s.cycle) →
         (t.queue q).state = .stopped ∧ (t.queue q).why = 2) ∧
       (t.queue q).faultStatus = (E.check s q h.item).code ∧ (t.queue q).faultIndex = h.index ∧
       t.reg (E.check s q h.item).counterOff = s.reg (E.check s q h.item).counterOff + 1 ∧
       t.mem = s.mem ∧ t.accs = s.accs ∧ t.ftq = s.ftq ∧ t.bufs = s.bufs ∧ t.tables = s.tables ∧ t.sync = s.sync ∧ t.tier = s.tier) ∧
  (∀ (s : State) (c : Instr) (E : EngineOps) (q i : Nat) (mine : BitVec 512 → Bool),
     engineOf c = some (E, q, mine) → isQueue q = true → (s.queue q).kind = E.kind → s.takesItems (s.queue q).core = true →
     E.underway s (s.queue q).core = none → (s.queue q).held = none → (s.queue q).state = .active →
     (s.queue q).head ≠ (s.queue q).tail → s.memSound →
     let x := s.ringItem (s.queue q) (s.queue q).head
     mine x = true → itemWaits (s.queue q).kind x = [i] → (s.sem i).state = .live → (s.sem i).waiters = [] →
     (s.sem i).observe = false → (s.sem i).count.toNat < (s.sem i).take →
     ∃ t, exec c s = .next t ∧ (t.queue q).head = (s.queue q).head + 1 ∧ (t.queue q).done = (s.queue q).done ∧
       (t.queue q).held = some { index := (s.queue q).head, item := x, satisfied := false, seq := s.qs.nextDesc } ∧
       t.sem i = { s.sem i with waiters := [.item q] } ∧ (∀ j, j ≠ i → t.sem j = s.sem j) ∧
       { t with qs := s.qs, sync := s.sync } = s)

/-! ### Matrix engine -/

/-- The products of the matrix engine. A start sets the key, the owner and the start values, and the items add their products to the valid
words in ascending order of the reduction index, in the float class with one rounding each, in the exact class without (R77, R80, R81,
R84 to R86, R110); a finish reads the tile out into a new last entry of the finished-tile queue and empties it (R77, R82, R89, R113). -/
def Obligations.MatrixProducts : Prop :=
  ∀ (s : State) (q : Nat) (x : BitVec 512), isQueue q = true → s.mayBegin matrixEngine q x → mmOpcode x = 0 → s.memSound →
    let core := (s.queue q).core
    let T := s.acc core (mmTile x)
    let f := s.mmFmts core x
    let ps := s.mmTilePairs core x
    let cls := (pairClass f.1 f.2).getD .float
    let l := windowL f.1 f.2
    let sum := fun (w : BitVec 96) i j =>
      match cls with
      | .float => (ps.foldl (floatPair (mmLayout x) i j) (w.truncate 32)).zeroExtend 96
      | .exact => (ps.foldl (exactPair (mmLayout x) l (mmSref x) i j) (XWord.ofBits w, 0, 0)).1.toBits
    let first : BitVec 96 := if cls = .float then 0x80000000 else 0
    (mmAccOp x = 1 → mmPreSrc x = 0 →
      ∃ t, exec (.mmaStart q) s = .next t ∧ (t.queue q).held = none ∧ t.mem = s.mem ∧
        (let U := t.acc core (mmTile x)
         U.owner = some q ∧ keyVersion U.key = 1 ∧ keyClass U.key = cls.code ∧ keyFmtA U.key = f.1 ∧ keyFmtB U.key = f.2 ∧
         keySref U.key = mmSref x ∧ keyTerms U.key = termsOf ps ∧
         ∀ i j, i < 64 → j < 64 → U.word (wordIx i j) = if i < mmM x ∧ j < mmN x then sum first i j else first)) ∧
    (mmAccOp x = 0 →
      ∃ t, exec (.mmaContinue q) s = .next t ∧ (t.queue q).held = none ∧ t.mem = s.mem ∧
        (let U := t.acc core (mmTile x)
         U.owner = T.owner ∧ keyTerms U.key = keyTerms T.key + termsOf ps ∧ keyClass U.key = keyClass T.key ∧
         ∀ i j, i < 64 → j < 64 →
          U.word (wordIx i j) = if i < mmM x ∧ j < mmN x then sum (T.word (wordIx i j)) i j else T.word (wordIx i j))) ∧
    (mmAccOp x = 2 →
      ∃ t e, exec (.mmaFinish q) s = .next t ∧ (t.queue q).held = none ∧ t.mem = s.mem ∧ t.acc core (mmTile x) = {} ∧
        t.ftqOf core = s.ftqOf core ++ [e] ∧ e.m = mmM x ∧ e.n = mmN x ∧ e.tag = outTag (s.tag core (mmAGran x 0)) (mmOutFmt x) q ∧
        ∀ i j, i < mmM x → j < mmN x →
          Store.get 0 e.words (wordIx i j) = readWord cls (l + mmSref x) (decide (mmOutFmt x = 12)) (sum (T.word (wordIx i j)) i j)) ∧
    (∀ k, k ≠ mmTile x → k < 4 → ∀ c, (c = .mmaStart q ∧ mmAccOp x = 1) ∨ (c = .mmaContinue q ∧ mmAccOp x = 0) ∨
        (c = .mmaFinish q ∧ mmAccOp x = 2) →
      ∃ t, exec c s = .next t ∧ t.acc core k = s.acc core k)

/-- SAVE writes the tile's image and 25 tags of version 0 and empties the tile; RESTORE loads an image with its queue as the owner; an
image holds every word and the key of its tile (R117, R118). LOAD_TABLE makes the image's table the active one of its slot and the
table that was active the shadow, and leaves every other slot, the memories and the buffers as they were (R156, R157). `FTQ_FLUSH`
discards every complete entry of its core's finished-tile queue and `BUF_CLEAR` sets the tile buffers of its core to zero words and
zero tags, at once with no item under way and else after it; each leaves everything else as it was (R116, R172). -/
def Obligations.EngineStores : Prop :=
  (((∀ (s : State) (q : Nat) (x : BitVec 512), isQueue q = true → s.mayBegin matrixEngine q x →
      let core := (s.queue q).core
      let g := mmAGran x 0
      (mmOpcode x = 1 →
        ∃ t, exec (.matrixSave q) s = .next t ∧ t.tile core (2048 * g) 51200 = (s.acc core (mmTile x)).image ∧
          (∀ k, k < 25 → t.tag core (g + k) = 0) ∧ t.acc core (mmTile x) = {} ∧ (t.queue q).held = none ∧ t.mem.near = s.mem.near) ∧
      (mmOpcode x = 2 → s.memSound →
        ∃ t, exec (.matrixRestore q) s = .next t ∧ (t.acc core (mmTile x)).owner = some q ∧ (t.queue q).held = none ∧ t.mem = s.mem ∧
          (t.acc core (mmTile x)).key = BitVec.ofNat 64 (leNat (s.tile core (2048 * g + 49152) 8)) ∧
          ∀ i, i < 4096 → (t.acc core (mmTile x)).word i = BitVec.ofNat 96 (leNat (s.tile core (2048 * g + 12 * i) 12)))) ∧
    (∀ (T : AccTile) (q : Nat), (imageTile T.image q).key = T.key ∧ ∀ i, i < 4096 → (imageTile T.image q).word i = T.word i)) ∧
   (∀ (s : State) (q : Nat) (x : BitVec 512), isQueue q = true → s.mayBegin vectorEngine q x → s.memSound → veOp x = 6 →
      let core := (s.queue q).core
      let img := s.tile core (2048 * veAux x) 4160
      ∃ t, exec (.loadTable q) s = .next t ∧ (t.queue q).held = none ∧ t.mem = s.mem ∧ t.bufs = s.bufs ∧
        (t.bank core (veTbl x) 0).header = BitVec.ofNat 512 (leNat (img.take 64)) ∧ (t.bank core (veTbl x) 0).builtin = none ∧
        (∀ i, i < hdSegs (BitVec.ofNat 512 (leNat (img.take 64))) →
          (t.bank core (veTbl x) 0).segs[i]? = some (
            BitVec.ofNat 32 (leNat ((img.drop (64 + 16 * i)).take 4)), BitVec.ofNat 32 (leNat ((img.drop (68 + 16 * i)).take 4)),
            BitVec.ofNat 32 (leNat ((img.drop (72 + 16 * i)).take 4)))) ∧
        t.bank core (veTbl x) 1 = s.bank core (veTbl x) 0 ∧
        ∀ k b, k < 8 → b < 2 → k ≠ veTbl x → t.bank core k b = s.bank core k b)) ∧
  (∀ (s : State) (core : Nat), isCore core = true →
     (∃ t, exec (.ftqFlush core) s = .next t ∧ t.ftqOf core = [] ∧ (∀ k, k ≠ core → t.ftqOf k = s.ftqOf k) ∧ { t with ftq := s.ftq } = s) ∧
     ((s.core core).vec = none →
       ∃ t, exec (.bufClear core) s = .next t ∧ (∀ b, b < 4 → t.buf core b = {}) ∧
         (∀ k b, b < 4 → k ≠ core → t.buf k b = s.buf k b) ∧ { t with bufs := s.bufs } = s) ∧
     (∀ w, (s.core core).vec = some w →
       exec (.bufClear core) s = .next (s.setCore core { s.core core with bufClear := true })))

/-! ### Vector engine -/

/-- The element-by-element operations of the vector engine, from tile memory or a tile buffer into a tile buffer: each output element in
the valid part is what the operation's rule says of the source elements widened to FP32 (R138 to R140, R142 to R145, R167, R168). -/
def Obligations.VectorElements : Prop :=
  ∀ (s : State) (q : Nat) (x : BitVec 512), isQueue q = true → s.mayBegin vectorEngine q x → s.memSound →
    veTiles x = 1 → veKind0 x ≠ 1 → veKindD x = 2 → (s.core (s.queue q).core).bufClear = false →
    let core := (s.queue q).core
    let A := s.veSource0 core x 0
    let B := s.veSource1 core x 0
    let a := fun r c => if veMask x && tagMasks (s.slot (tagSlot A.tag)) A.tag r c then 0xFF800000#32 else A.wide r c
    let rec1 := fun r => RowRec.ofBits (s.recRow core (veAux x) r)
    let canon := fun w : W32 => toF32 (f32 w)
    let gives := fun (c : Instr) (m n : Nat) (y : Nat → Nat → W32) =>
      ∃ t, exec c s = .next t ∧ (t.queue q).held = none ∧ t.mem.near = s.mem.near ∧ t.accs = s.accs ∧
        (t.buf core (veDst x 0)).m = m ∧ (t.buf core (veDst x 0)).n = n ∧ (t.buf core (veDst x 0)).tag = outTag A.tag 0 q ∧
        ∀ r k, r < m → k < n → Store.get 0 (t.buf core (veDst x 0)).words (wordIx r k) = y r k
    (veOp x = 0 → gives (.epi q) A.m A.n fun r c =>
      let y := if veBias x then f32add (a r c) ((s.memSrc core (veAux x) 1 64).wide 0 c) else a r c
      let y := fnApply (s.table core) (veFn x) (veTbl x) y
      let y := if veScaleEn x then f32mul y (veScale x) else y
      canon (if veRes x then f32add y (B.wide r c) else y)) ∧
    (veOp x = 1 → gives (.binary q) A.m A.n fun r c =>
      canon (match veSub x with
        | 0 => f32add (a r c) (B.wide r c)
        | 1 => f32sub (a r c) (B.wide r c)
        | 2 => f32mul (a r c) (B.wide r c)
        | 3 => f32div (a r c) (B.wide r c)
        | 4 => f32max (a r c) (B.wide r c)
        | _ => f32min (a r c) (B.wide r c))) ∧
    (veOp x = 2 → veSub x = 3 → gives (.smaxNorm q) A.m A.n fun r c =>
      canon (if (f32 (rec1 r).l).isZero then 0 else f32div ((s.table core 0).exp (f32sub (a r c) (rec1 r).max)) (rec1 r).l)) ∧
    (veOp x = 2 → veSub x = 4 → gives (.norm q) A.m A.n fun r c =>
      let u := f32mul (f32sub (A.wide r c) (rec1 r).mean) ((s.table core 3).eval (f32add (rec1 r).var (veScale x)))
      canon (if veBias x then f32fma u (B.wide 0 c) (B.wide 1 c) else u)) ∧
    (veOp x = 3 → veSub x = 0 → gives (.permute q) A.m A.n fun r c => canon (A.wide r c)) ∧
    (veOp x = 3 → veSub x = 1 → gives (.permute q) A.n A.m fun r c => canon (A.wide c r)) ∧
    (veOp x = 3 → veSub x = 2 → gives (.permute q) A.m A.n fun r c => canon (A.wide r (A.n - 1 - c))) ∧
    (veOp x = 3 → veSub x = 3 → gives (.permute q) A.m A.n fun r c => canon (A.wide (A.m - 1 - r) c)) ∧
    (veOp x = 4 → gives (.shuffle q) A.m A.n fun r c =>
      let i := (B.val 0 (if veSub x = 0 then c else r)).toIntR .rne
      let lim := if veSub x = 0 then A.n else A.m
      if 0 ≤ i ∧ i < lim then canon (if veSub x = 0 then A.wide r i.toNat else A.wide i.toNat c) else 0) ∧
    (veOp x = 5 → gives (.convert q) A.m A.n fun r c => canon (A.wide r c))

/-- The row statistics of one tile: each valid row's record in tile memory is the one before, or the initial one, with the row's elements
taken in ascending order of the column, and the end of the pass (R162, R163, R165, R166). -/
def Obligations.RowStatistics : Prop :=
  ∀ (s : State) (q : Nat) (x : BitVec 512), isQueue q = true → s.mayBegin vectorEngine q x → s.memSound →
    veOp x = 2 → veTiles x = 1 → veKind0 x ≠ 1 → veKindD x = 1 →
    let core := (s.queue q).core
    let A := s.veSource0 core x 0
    let a := fun r c => if veMask x && tagMasks (s.slot (tagSlot A.tag)) A.tag r c then 0xFF800000#32 else A.wide r c
    let R0 := fun r => if veRsInit x then RowRec.initial else RowRec.ofBits (s.recRow core (veAux x) r)
    let gives := fun (c : Instr) (R : Nat → RowRec) =>
      ∃ t, exec c s = .next t ∧ (t.queue q).held = none ∧ t.mem.near = s.mem.near ∧ t.accs = s.accs ∧ t.bufs = s.bufs ∧
        t.tag core (veAux x) = 0 ∧ ∀ r, r < A.m → RowRec.ofBits (t.recRow core (veAux x) r) = R r
    (s.core core).bufClear = false →
    (veSub x = 0 → gives (.statP1 q) fun r => ((List.range A.n).foldl (fun R c => R.p1 (A.wide r c)) (R0 r)).p1End) ∧
    (veSub x = 1 → gives (.statP2 q) fun r => ((List.range A.n).foldl (fun R c => R.p2 (A.wide r c)) (R0 r)).p2End) ∧
    (veSub x = 2 → gives (.smaxAcc q) fun r =>
      let xs := (List.range A.n).map (a r)
      let m := f32max (R0 r).max (xs.foldl f32max 0xFF800000)
      let low := decide (m = 0xFF800000)
      let al := if low then 0x3F800000 else (s.table core 0).exp (f32sub (R0 r).max m)
      let l := (xs.map fun e => if low then 0 else (s.table core 0).exp (f32sub e m)).foldl f32add (f32mul (R0 r).l al)
      { R0 r with max := m, alpha := al, l := l, lse := if (f32 l).isZero then 0xFF800000 else f32add m ((s.table core 1).eval l) })

/-! ### Attention sequencer and key/value pools -/

/-- A walk over streamed blocks of a linear source that no yield stops runs to its end: it computes every pair of a block whose class is
not SKIP, counts the pairs computed and skipped, writes nothing to near memory and completes with OK (R187, R191, R195, R196, R198).
`YIELD` asks the item under way to end at its next streamed block, and does nothing with none under way (R202). The items that work on
pages of a pool. An APPEND to pages that are near copies each row of each region to its place in its page and counts (R214, R219); a
PREFETCH asks for its page in the far tier to be recalled, and completes with no effect where its pages are near and unpinned (R218,
R224); a RELEASE of a page frees its frame and its entry (R225). -/
def Obligations.AttentionItems : Prop :=
  ((∀ (s : State) (c : Instr) (q n : Nat) (x : BitVec 512), isQueue q = true → s.mayBegin (attnEngine n) q x → s.memSound →
      asPaged x = false → (s.core (s.queue q).core).yieldPending = false → asStrCount x ≤ n →
      (c = .fwd q n ∧ asOp x = 0) ∨ (c = .recomp q n ∧ asOp x = 1) ∨ (c = .bwdQ q n ∧ asOp x = 2) ∨ (c = .bwdKv q n ∧ asOp x = 3) →
      let core := (s.queue q).core
      let live := fun j => ((List.range (asT x)).filter fun t => asClass (s.slot (asSlot x)) x t (asStrFirst x + j) ≠ 2).length
      ∃ t, exec c s = .next t ∧ (t.queue q).held = none ∧ (t.core core).walk = none ∧ t.mem.near = s.mem.near ∧
        t.accs = s.accs ∧ t.bufs = s.bufs ∧ t.tier = s.tier ∧
        t.reg (coreOff core 0x6008) = s.reg (coreOff core 0x6008) + 1 ∧
        t.reg (coreOff core 0x6010) =
          s.reg (coreOff core 0x6010) + BitVec.ofNat 64 ((List.range (asStrCount x)).map fun j => live j * asH x).sum ∧
        t.reg (coreOff core 0x6018) =
          s.reg (coreOff core 0x6018) + BitVec.ofNat 64 ((List.range (asStrCount x)).map fun j => (asT x - live j) * asH x).sum) ∧
   (∀ (s : State) (core : Nat), isCore core = true →
      ((s.core core).walk = none → exec (.yield core) s = .next s) ∧
      (∀ w, (s.core core).walk = some w →
        ∃ t, exec (.yield core) s = .next t ∧ (t.core core).yieldPending = true ∧ (t.core core).walk = some w ∧
          (∀ k, k ≠ core → t.core k = s.core k) ∧ { t with cores := s.cores } = s))) ∧
  (∀ (s : State) (q : Nat) (x : BitVec 512), isQueue q = true → s.mayBegin (attnEngine 0) q x → s.memSound →
     let core := (s.queue q).core
     let S := s.slot (asSlot x)
     let pool := slPool S
     let e := 64 * kvElem (plFmt (s.pool pool))
     (asOp x = 4 → s.appendApart S x →
       (∀ g, g ∈ s.appendPages S x → s.kvPageState g = 1 ∧ s.kvComing g = false ∧ g.page < 2 ^ slPagesLog2 S) →
       ∃ t, exec (.append q) s = .next t ∧ (t.queue q).held = none ∧ (t.core core).walk = none ∧
         fld (t.slot (asSlot x)) 127 64 = (fld S 127 64 + 1) % 2 ^ 64 ∧
         ∀ u r, u < 2 * asHt x → r < asStrLast x →
           t.near (s.appendAddr S x u r) e = s.tile core (2048 * (asStgGran x + u * asG x) + e * r) e) ∧
     (asOp x = 5 →
       (∀ g, g ∈ s.prefetchPages x S → s.kvPageState g = 1 ∧ s.kvComing g = false ∧ g.page < 2 ^ slPagesLog2 S ∧
         ∀ n f, s.kvFrameOf pool g = some n → s.kvFrame pool n = some f → f.useBy = none ∧ s.tier.kvMoves.any (KvMove.recalls pool n) = false) →
       ∃ t, exec (.prefetch q) s = .next t ∧ (t.queue q).held = none ∧ (t.core core).walk = none ∧ t.tier = s.tier ∧ t.mem = s.mem) ∧
     (∀ g n far, asOp x = 5 → s.prefetchPages x S = [g] → g.page < 2 ^ slPagesLog2 S → s.kvPageState g = 2 → s.kvComing g = false →
       s.kvFreeFrame pool = some n → s.kvSpillOf pool g = some far → s.kvFarOk false pool far = true →
       ∃ t f, exec (.prefetch q) s = .next t ∧ (t.queue q).held = (s.queue q).held ∧ (t.core core).walk.isSome = true ∧
         t.tier.kvMoves = s.tier.kvMoves ++ [.recall pool n g far] ∧ t.kvFrame pool n = some f ∧ f.page = g ∧ f.transit = true ∧
         f.useBy = if s.ft.toNat ≤ asUseBy x then some (asUseBy x) else none) ∧
     (∀ g n f, asOp x = 6 →
       (s.kvPages pool (asSlot x)).filter (fun g => decide (64 * asStrFirst x ≤ g.page * 2 ^ plPageLog2 (s.pool pool))) = [g] →
       s.kvComing g = false → s.kvPageState g = 1 → s.kvFrameOf pool g = some n → s.kvFrame pool n = some f → s.kvPinned f = false →
       g.pte + 8 ≤ 0xBF00000000 →
       ∃ t, exec (.release q) s = .next t ∧ (t.queue q).held = none ∧ t.kvFrame pool n = none ∧ t.kvPageState g = 0))

/-- What ends a spill, a recall and a pin of the pool manager: a spilled page reads far and its frame is free, a recalled page reads near
and its spill frame is free, and the slot's counts of near and far pages follow; a pin whose `use_by` local FT has passed ends (R218,
R220, R224). Writes of a sequence-slot entry and of a pool entry: the fields that software may write take what is written, the counts
keep what they hold, a pool's `frame_bytes` is computed, and enabling a pool clears its frame table (R182, R213 to R215). -/
def Obligations.PoolsAndSlots : Prop :=
  (∀ (s : State) (pool frame far : Nat) (g : KvPage), isPool pool = true → s.kvFarReady pool far = true →
     g.pte + 8 ≤ 0xBF00000000 → overlaps (g.pte) 8 (plFtBase (s.pool pool) + 16 * frame) 16 = false →
     (s.kvMoveOn pool frame true = some (.spill pool frame g far none none none) →
       ∃ t, exec (.pageSpillComplete pool frame) s = .next t ∧ t.kvPageState g = 2 ∧ t.kvFrame pool frame = none ∧
         t.tier.kvMoves = s.tier.kvMoves.erase (.spill pool frame g far none none none) ∧
         fld (t.slot g.slot) 223 192 = (fld (s.slot g.slot) 223 192 + 1) % 2 ^ 32 ∧
         fld (t.slot g.slot) 255 224 = (fld (s.slot g.slot) 255 224 + 2 ^ 32 - 1) % 2 ^ 32) ∧
     (∀ f, s.kvMoveOn pool frame false = some (.recall pool frame g far) → s.kvFrame pool frame = some f →
       ∃ t, exec (.pageRecallComplete pool frame) s = .next t ∧ t.kvPageState g = 1 ∧
         t.kvFrame pool frame = some { f with transit := false } ∧
         t.tier.kvMoves = s.tier.kvMoves.erase (.recall pool frame g far) ∧
         fld (t.slot g.slot) 255 224 = (fld (s.slot g.slot) 255 224 + 1) % 2 ^ 32 ∧
         fld (t.slot g.slot) 223 192 = (fld (s.slot g.slot) 223 192 + 2 ^ 32 - 1) % 2 ^ 32) ∧
     (∀ f u, s.kvFrame pool frame = some f → f.useBy = some u →
       (s.ft.toNat ≤ u → exec (.useByExpiry pool frame) s = .next s) ∧
       (u < s.ft.toNat →
         ∃ t, exec (.useByExpiry pool frame) s = .next t ∧ t.kvFrame pool frame = some { f with useBy := none } ∧
           t.mem.tile = s.mem.tile ∧ { t with mem := s.mem, tier := s.tier } = s))) ∧
  (∀ (s : State) (n : Nat) (v : BitVec 512), s.poolsWritable = true → fld v 511 508 = 1 →
     (isSlot n = true → slState v < 2 → fld v 505 504 ≠ 3 → slPagesLog2 v ≤ 20 → fld v 448 424 ≤ 2 ^ 24 → fld v 423 399 ≤ 2 ^ 24 →
       zeros v [(476, 449), (398, 380), (351, 256), (63, 0)] = true →
       ∃ t, exec (.seqSlotWrite n v) s = .next t ∧
         (∀ i, i < 512 → (t.slot n).getLsbD i = if 64 ≤ i ∧ i ≤ 255 then (s.slot n).getLsbD i else v.getLsbD i) ∧
         (∀ k, k ≠ n → t.slot k = s.slot k) ∧ { t with tier.slots := s.tier.slots } = s) ∧
     (isPool n = true → 4 ≤ plPageLog2 v → plPageLog2 v ≤ 16 → 1 ≤ plFmt v → plFmt v ≤ 4 → plFrames v ≠ 0 →
       zeros v [(383, 381), (321, 256), (207, 192)] = true → plEnable (s.pool n) = false → plEnable v = true →
       ∃ t, exec (.poolWrite n v) s = .next t ∧ fld (t.pool n) 511 496 = fld v 511 496 ∧ fld (t.pool n) 463 256 = fld v 463 256 ∧
         fld (t.pool n) 255 0 = fld (s.pool n) 255 0 ∧ plFrameBytes (t.pool n) = frameBytesOf (plHt v) (plPageLog2 v) (plFmt v) ∧
         (∀ a, Store.get 0 t.mem.near a =
           if plFtBase v ≤ a ∧ a < plFtBase v + 16 * plFrames v then 0 else Store.get 0 s.mem.near a) ∧
         { t with mem := s.mem, tier.pools := s.tier.pools } = s) ∧
     (isPool n = true → 4 ≤ plPageLog2 v → plPageLog2 v ≤ 16 → 1 ≤ plFmt v → plFmt v ≤ 4 → plFrames v ≠ 0 →
       zeros v [(383, 381), (321, 256), (207, 192)] = true → plEnable (s.pool n) = true → plGeometry (s.pool n) ≠ plGeometry v →
       ∃ t, exec (.poolWrite n v) s = .next t ∧ s.onlyRegs t ∧
         t.reg (Status.counterOff .stateConflict) = s.reg (Status.counterOff .stateConflict) + 1))
/-! ### Memory stacks -/

/-- Bursts, channels and blocks of the memory stacks. A burst whose CRC is not that of its bytes and its address is counted and re-sent three
times; then the channel retrains, the block's next access completes with CRC_RESEND_EXHAUSTED, and the sixteenth exhaustion within 1 s
fails the channel, whose every access completes so (R249 to R251). What the dies report is added up (R252). A scrub read corrects and
counts one symbol in error, and marks, counts and logs a block that the code cannot correct (R253 to R255). The 256 channels: for each
fixed value of a[39:16] the 256 values of a[15:8] go to different channels, each below 256, and the channel with the offset in it
names one address (R248). -/
def Obligations.MemoryStackEvents : Prop :=
  (∀ (s : State) (a r : Nat) (b : Burst), isNear a = true → b.data.length = 64 → b.crc < 65536 → r ≤ 3 →
     let ch := chanOf a
     let st := stackOf ch
     (burstCrc a b.data = b.crc → exec (.burstCrcFail a r b) s = .next s) ∧
     (burstCrc a b.data ≠ b.crc → r < 3 →
       ∃ t, exec (.burstCrcFail a r b) s = .next t ∧ t.reg (msOff st 0x08) = s.reg (msOff st 0x08) + 1 ∧
         s.regsBut t [msOff st 0x08] ∧
         { t with regs := s.regs, wear.life := s.wear.life, mem.chans := s.mem.chans } = s) ∧
     (burstCrc a b.data ≠ b.crc → r = 3 →
       ∃ t, exec (.burstCrcFail a r b) s = .next t ∧ a / 64 ∈ t.mem.burstBad ∧ (t.chan ch).retraining = true ∧
         t.reg (msOff st 0x50) = s.reg (msOff st 0x50) + 1 ∧ t.mem.near = s.mem.near ∧
         ((t.chan ch).failed = ((s.chan ch).failed ||
           decide (15 ≤ ((s.chan ch).exhausted.filter fun x => decide (s.ft.toNat < x + 1000000000)).length))))) ∧
  (∀ (s : State) (ch : Nat), isChannel ch = true →
     let st := stackOf ch
     (∀ ok, (s.chan ch).retraining = false → exec (.channelRetrainEnd ch ok) s = .next s) ∧
     ((s.chan ch).retraining = true →
       exec (.channelRetrainEnd ch true) s = .next (s.setChan ch { s.chan ch with retraining := false }) ∧
       ∃ t, exec (.channelRetrainEnd ch false) s = .next t ∧ (t.chan ch).failed = true ∧ (t.chan ch).retraining = false ∧
         t.flag (msOff st 0x58) (ch % 32) = true ∧ t.flag (msOff st 0) 4 = true ∧ t.mem.near = s.mem.near) ∧
     (∀ a, chanOf a = ch → ((s.chan ch).failed = true ∨ a / 64 ∈ s.mem.burstBad) → s.flag (msOff st 0) 7 = false →
       let gone := fun (r : State × Status) => r.2 = .crcResendExhausted ∧ r.1.reg (msOff st 0x10) = s.reg (msOff st 0x10) + 1 ∧
         r.1.flag (msOff st 0) 3 = true ∧ r.1.mem.near = s.mem.near
       gone (s.readBlock a) ∧ ∀ bytes, gone (s.writeBlock a bytes)) ∧
     (∀ n, exec (.odecReport st n) s = .next (s.setReg (msOff st 0x20) (s.reg (msOff st 0x20) + BitVec.ofNat 64 n))) ∧
     (∀ a ups, isNear a = true → chanOf a = ch → ups.all upsetOk = true →
       let u := ups.foldl State.upset s
       let b := a / 64 * 64
       let errs := Store.get [] u.mem.nearErr (a / 64)
       s.blockStatus b = .ok → s.blockBad b = false →
       (errs = [] → exec (.scrubRead a ups) s = .next u) ∧
       (∀ p d, errs ≠ [] → rsDecode (u.blockWord b) = .corrected p d →
         ∃ t, exec (.scrubRead a ups) s = .next t ∧ t.reg (msOff st 0x18) = s.reg (msOff st 0x18) + 1 ∧
           t.flag (msOff st 0) 1 = true ∧ t.blockBad b = false ∧ Store.get [] t.mem.nearErr (a / 64) = [] ∧
           (b + 64 ≤ 0xBF00000000 →
             t.near b 64 = ((withErrors (u.blockWord b) [(p, BitVec.ofNat 8 d)]).take 64).map (BitVec.ofNat 8))) ∧
       (errs ≠ [] → rsDecode (u.blockWord b) = .bad →
         ∃ t, exec (.scrubRead a ups) s = .next t ∧ t.reg (msOff st 0x28) = s.reg (msOff st 0x28) + 1 ∧
           t.flag (msOff st 0) 2 = true ∧ t.blockBad b = true ∧ t.mem.near = s.mem.near))) ∧
  (∀ h i j l m : Nat, i < 256 → j < 256 → l < 256 → m < 256 → h < 2 ^ 24 →
     chanOf (h * 65536 + i * 256 + l) < 256 ∧ (chanOf (h * 65536 + i * 256 + l) = chanOf (h * 65536 + j * 256 + m) → i = j)) ∧
  (∀ a b : Nat, a < 2 ^ 40 → b < 2 ^ 40 → chanOf a = chanOf b → chanOffset a = chanOffset b → a = b)

/-- Memory-side adds. A request that is applied adds each enabled element of its block and leaves every other byte of near memory (R256,
R257); an ordered one is applied, held, refused for retry or in conflict as the table of R258 says, and held ones are applied when
their turn comes; an arrival-order add to a block with an open round gets STATE_CONFLICT (R258 to R260). What waits for its re-send is
sent again once its 1 µs has passed: an add request is the same request again, and a write-back is written unless its block still has
an open round (R259, R260). -/
def Obligations.MemorySideAdds : Prop :=
  (∀ (s : State) (r : AddReq), addReqOk r = true → s.blockStatus (64 * r.block) = .ok → s.blockBad (64 * r.block) = false →
     Store.get [] s.mem.nearErr r.block = [] → 64 * r.block + 64 ≤ 0xBF00000000 →
     let ch := chanOf (64 * r.block)
     let k := addBytes r.fmt
     let at1 := fun (u : State) i => leNat (u.near (64 * r.block + k * i) k)
     let arg := fun (h : AddReq) i => leNat ((h.data.drop (k * i)).take k)
     let c := s.chan ch
     let applied := fun (t : State) =>
       (∀ i, i < 64 / k → at1 t i = if bitAt r.mask i then addRule r.fmt (at1 s i) (arg r i) else at1 s i) ∧
       s.nearOutside t (64 * r.block) 64 ∧ t.reg (msOff (stackOf ch) 0x38) = s.reg (msOff (stackOf ch) 0x38) + 1
     (c.window = [] →
       (r.ordered = false → c.roundOf r.block = none → ∃ t, exec (.addRequest r) s = .next t ∧ applied t ∧ t.chan ch = c) ∧
       (∀ n, r.ordered = true → (c.roundOf r.block = some n ∨ (c.roundOf r.block = none ∧ n = 0)) → r.oseq = n →
         (c.roundOf r.block = none → r.olast = true ∨ c.rounds.length < 64) →
         ∃ t, exec (.addRequest r) s = .next t ∧ applied t ∧
           (t.chan ch).roundOf r.block = if r.olast then none else some (n + 1))) ∧
     (∀ n, r.ordered = true → (c.roundOf r.block = some n ∨ (c.roundOf r.block = none ∧ n = 0)) → n < r.oseq →
       (c.window.any fun h => decide (h.block = r.block ∧ h.oseq = r.oseq)) = false →
       (c.window.length < 64 → exec (.addRequest r) s = .next (s.setChan ch { c with window := c.window ++ [r] })) ∧
       (64 ≤ c.window.length →
         ∃ t, exec (.addRequest r) s = .next t ∧ t.mem.addWaits = s.mem.addWaits ++ [{ req := r, notBefore := s.ft.toNat + 1000 }] ∧
           t.mem.near = s.mem.near ∧ t.mem.chans = s.mem.chans ∧
           t.reg (msOff (stackOf ch) 0x40) = s.reg (msOff (stackOf ch) 0x40) + 1)) ∧
     (∀ n core, c.roundOf r.block = some n → r.ordered = false ∨ r.oseq < n → r.sender = .cp core → isCore core = true →
       ∃ t, exec (.addRequest r) s = .next t ∧ t.mem = s.mem ∧ (t.core core).cpExc = some (.loadAccessFault, 0) ∧
         t.reg (Status.counterOff .stateConflict) = s.reg (Status.counterOff .stateConflict) + 1) ∧
     (∀ h n, c.window = [h] → r.ordered = true → c.roundOf r.block = some n → r.oseq = n → r.olast = false → h.block = r.block →
       h.oseq = n + 1 → h.fmt = r.fmt → h.data.length = 64 →
       ∃ t, exec (.addRequest r) s = .next t ∧ (t.chan ch).window = [] ∧
         ∀ i, i < 64 / k → bitAt r.mask i = true → bitAt h.mask i = true →
           at1 t i = addRule r.fmt (addRule r.fmt (at1 s i) (arg r i)) (arg h i))) ∧
  (∀ (s : State) (i : Nat),
     (∀ w, s.mem.addWaits[i]? = some w →
       (s.ft.toNat < w.notBefore → exec (.addResend i) s = .next s) ∧
       (w.notBefore ≤ s.ft.toNat → addReqOk w.req = true →
         ∃ t, exec (.addResend i) s = .next t ∧
           exec (.addRequest w.req) { s with mem.addWaits := s.mem.addWaits.eraseIdx i } = .next t)) ∧
     (∀ core w, isCore core = true → s.mem.wbWaits[i]? = some w → w.core = core → w.notBefore ≤ s.ft.toNat → w.bytes.length = 64 →
       s.blockStatus (64 * w.line) = .ok →
       (((s.chan (chanOf (64 * w.line))).roundOf w.line) = none → 64 * w.line + 64 ≤ 0xBF00000000 →
         ∃ t, exec (.writebackResend core i) s = .next t ∧ t.near (64 * w.line) 64 = w.bytes ∧ t.mem.wbWaits = s.mem.wbWaits.eraseIdx i ∧
           s.nearOutside t (64 * w.line) 64 ∧ { t with mem := s.mem } = s) ∧
       (((s.chan (chanOf (64 * w.line))).roundOf w.line).isSome = true →
         exec (.writebackResend core i) s =
           .next { s with mem.wbWaits := s.mem.wbWaits.set i { w with notBefore := s.ft.toNat + 1000 } })))

/-! ### Tier manager -/

/-- CREATE, FREE, PLACE and BUMP at the head of the tier manager's ring: a CREATE of one near page takes a free frame for it and accounts
its bytes, a FREE gives back every frame of its object, PLACE and BUMP change the policy and the write generation; each leaves its
status and page count in its slot (R283 to R285, R304). MIGRATE moves a page in two steps: it takes a frame in the target tier, with
the page in transit; then the page's bytes are in the new frame, the old frame is free and the move is counted (R286). -/
def Obligations.TierCommands : Prop :=
  (∀ (s : State) (x : BitVec 512), s.tcItem = some x → tcCheck x = .ok → s.tcAddr s.tcHead + 64 ≤ 0xBF00000000 →
     let n := tcObj x
     (∀ a, tcOp x = 0 → s.createOk x = true → tcCount x = 1 → tcPlace x < 2 → s.freeBlock none (tcLog2 x) = some a →
       0x426000 + 8192 * (s.tier.nodes + 3) ≤ s.metaSize →
       ∃ t, exec .create s = .next t ∧ s.tierDone t .ok 1 ∧
         t.tier.frames = { pool := none, addr := a, log2 := tcLog2 x, obj := n, page := 0 } :: s.tier.frames ∧
         t.reg (0xB100 + 32 * tcAcct x) = s.reg (0xB100 + 32 * tcAcct x) + BitVec.ofNat 64 (2 ^ tcLog2 x)) ∧
     (tcOp x = 0 → s.createOk x = false → ∃ t, exec .create s = .next t ∧ s.tierDone t .stateConflict 0 ∧ t.tier.frames = s.tier.frames) ∧
     (tcOp x = 1 → s.liveObj n = true → (∀ f, f ∈ s.tier.frames → f.obj = n → s.pageHeld (s.obj n) f.page = false) →
       ∃ t, exec .free s = .next t ∧ s.tierDone t .ok (s.tier.frames.filter fun f => decide (f.obj = n)).length ∧
         t.tier.frames = s.tier.frames.filter (fun f => decide (f.obj ≠ n)) ∧
         (s.apartFromSlot (s.objAddr n) 64 → obState (t.obj n) = 0)) ∧
     (tcOp x = 3 → s.liveObj n = true → (obPlace (s.obj n) = 0 ∨ obPlace (s.obj n) = 2) → (tcPlace x = 0 ∨ tcPlace x = 2) →
       ∃ t, exec .place s = .next t ∧ s.tierDone t .ok 0 ∧ t.tier.frames = s.tier.frames ∧
         (s.apartFromSlot (s.objAddr n) 64 → obPlace (t.obj n) = tcPlace x)) ∧
     (tcOp x = 4 → s.liveObj n = true →
       ∃ t, exec .bump s = .next t ∧ s.tierDone t .ok 0 ∧ t.tier.frames = s.tier.frames ∧
         (s.apartFromSlot (s.objAddr n) 64 → obWgen (t.obj n) = (obWgen (s.obj n) + 1) % 2 ^ 32)) ∧
     (s.liveObj n = false →
       (tcOp x = 1 → ∃ t, exec .free s = .next t ∧ s.tierDone t .stateConflict 0 ∧ t.tier.frames = s.tier.frames) ∧
       (tcOp x = 3 → ∃ t, exec .place s = .next t ∧ s.tierDone t .stateConflict 0 ∧ t.tier.frames = s.tier.frames) ∧
       (tcOp x = 4 → ∃ t, exec .bump s = .next t ∧ s.tierDone t .stateConflict 0 ∧ t.tier.frames = s.tier.frames))) ∧
  (∀ (s : State) (x : BitVec 512), s.tcItem = some x → tcCheck x = .ok → tcOp x = 2 →
     let n := tcObj x
     (∀ f p a, s.tier.run = none → s.migrateOk x = true → (s.ftValid = true ∨ tcUseBy x = 0) → 0 < tcCount x → s.frameOf n (tcFirst x) = some f → f.pool = some p →
       tcNear x = true → s.pageHeld (s.obj n) (tcFirst x) = false → s.freeBlock none f.log2 = some a →
       ∃ t, exec .migrate s = .next t ∧ t.tcHead = s.tcHead ∧
         t.tier.run = some { done := 0, target := some { pool := none, addr := a, log2 := f.log2, obj := n, page := tcFirst x } } ∧
         t.tier.frames = { pool := none, addr := a, log2 := f.log2, obj := n, page := tcFirst x } :: s.tier.frames) ∧
     (∀ old new p k, s.tier.run = some { done := k, target := some new } → k < tcCount x →
       (s.tier.frames.find? fun f => decide (f.obj = n ∧ f.page = tcFirst x + k ∧ f ≠ new)) = some old → old.obj = n →
       (s.leaf (pageOff (s.obj n) (tcFirst x + k))).isSome = true → s.memSound → old.pool = none → new.pool = some p →
       old.page = tcFirst x + k → fpReach (s.farPool p) = true → new.addr + 2 ^ old.log2 ≤ 2 ^ 48 →
       ∃ t, exec .migrate s = .next t ∧ t.tier.frames = s.tier.frames.erase old ∧
         t.farBytes p new.addr (2 ^ old.log2) = s.near old.addr (2 ^ old.log2) ∧ t.reg 0xB020 = s.reg 0xB020 + 1 ∧
         (k + 1 < tcCount x → t.tier.run = some { done := k + 1, target := none } ∧ t.tcHead = s.tcHead) ∧
         (k + 1 = tcCount x → t.tier.run = none ∧ t.tcHead = (s.tcHead + 1) % 256)))

/-- Far pools: a write of an entry leaves the pool's count and shows whether its route is up (R292); a pool that becomes unreachable is
counted and `UNREACH` set, and after a reset of its peer its contents are lost and it stays unreachable; a pool whose route is up
again and whose contents are not lost is reachable (R295). Enabling the tiered range clears its metadata area, frames and accounts and
sets its addresses, in CONFIG; `HWM_CLEAR` sets every high-water mark to its count (R304 to R306). -/
def Obligations.FarPoolsAndEnable : Prop :=
  (∀ (s : State) (n : Nat), isFarPool n = true →
     let old := s.farPool n
     (∀ v : BitVec 256, s.poolsWritable = true → bits v.toNat 255 252 = 1 → bits v.toNat 248 242 = 0 → bits v.toNat 167 128 = 0 →
       bits v.toNat 103 64 = 0 → bits v.toNat 191 168 ≠ 0 → s.poolUsed n = false →
       (fpHost v = true ∨ (fpBase v < Config.nearBytes ∧ chipGroup (fpChip v) = chipGroup s.fab.chipNum)) →
       ∃ t, exec (.farPoolWrite n v) s = .next t ∧
         (∀ i, i < 256 → (t.farPool n).getLsbD i =
           if i < 64 then old.getLsbD i else if i = 249 then s.routeUp v else if 104 ≤ i ∧ i ≤ 127 then false else v.getLsbD i) ∧
         (∀ k, k ≠ n → t.farPool k = s.farPool k) ∧ t.tier.lost = s.tier.lost.filter (· ≠ n) ∧ { t with tier := s.tier } = s) ∧
     (fpReach old = true →
       ∃ t, exec (.reachableLoss n false) s = .next t ∧ fpReach (t.farPool n) = false ∧ t.flag 0xB000 5 = true ∧
         bits (t.farPool n).toNat 63 0 = (bits old.toNat 63 0 + 1) % 2 ^ 64 ∧ t.tier.farMem = s.tier.farMem) ∧
     (∃ t, exec (.reachableLoss n true) s = .next t ∧ fpReach (t.farPool n) = false ∧ n ∈ t.tier.lost ∧
       (∀ a, a < 2 ^ 48 → t.farByte n a = Config.farByte n (Store.get 0 s.tier.farLosses n + 1) a) ∧
       (∀ k a, a < 2 ^ 48 → k ≠ n → t.farByte k a = s.farByte k a)) ∧
     (n ∉ s.tier.lost → bits old.toNat 255 252 = 1 → s.routeUp old = true →
       ∃ t, exec (.reachableRestore n) s = .next t ∧ fpReach (t.farPool n) = true ∧
         (∀ i, i < 256 → i ≠ 249 → (t.farPool n).getLsbD i = old.getLsbD i) ∧
         { t with tier.farPools := s.tier.farPools, tier.away := s.tier.away } = s) ∧
     (n ∈ s.tier.lost →
       exec (.reachableRestore n) s = .next { s with tier.away := s.tier.away.filter (· ≠ n) })) ∧
  (∀ s : State,
     (s.dev = .config → s.tpBase + s.metaSize ≤ Config.nearBytes →
       ∃ t, exec .tierEnable s = .next t ∧ t.dictNat 0x4300 5 = 1 ∧ t.dictNat 0x4300 6 = s.tpBase + 0x26000 ∧
         t.dictNat 0x4300 7 = s.tpBase + 0x6000 ∧ t.dictNat 0x4300 8 = s.tpBase ∧ t.dictNat 0x4300 9 = s.tpBase + 0x2000 ∧
         t.tier.frames = [] ∧ t.tier.run = none ∧
         (∀ a, Store.get 0 t.mem.near a = if s.tpBase ≤ a ∧ a < s.tpBase + s.metaSize then 0 else Store.get 0 s.mem.near a) ∧
         (∀ k, k < 16 → t.reg (0xB100 + 32 * k) = 0 ∧ t.reg (0xB108 + 32 * k) = 0) ∧
         ∀ o, (∀ k, k < 16 → o ≠ 0xB100 + 32 * k ∧ o ≠ 0xB108 + 32 * k) → t.reg o = s.reg o) ∧
     (s.dev = .running → ∃ t, exec .tierEnable s = .next t ∧ s.onlyRegs t ∧
       t.reg (Status.counterOff .stateConflict) = s.reg (Status.counterOff .stateConflict) + 1) ∧
     (∃ t, exec .hwmClear s = .next t ∧ s.onlyRegs t ∧
       (∀ k, k < 16 → t.reg (0xB110 + 32 * k) = s.reg (0xB100 + 32 * k) ∧ t.reg (0xB118 + 32 * k) = s.reg (0xB108 + 32 * k)) ∧
       ∀ o, (∀ k, k < 16 → o ≠ 0xB110 + 32 * k ∧ o ≠ 0xB118 + 32 * k) → t.reg o = s.reg o))
/-! ### Queues and descriptors -/

/-- The queue commands: ENABLE makes a queue ACTIVE with the entry in the queue table and an empty ring, DISABLE writes the entry back and
leaves nothing, PAUSE, RESUME and SET_EPOCH change the state and the epoch of an enabled queue; each leaves its status in
`Q_CMD_STATUS`, and one refused for the queue's state changes no queue (R315, R316, R638). PAUSE_CTX pauses every ACTIVE queue of the
context that `Q_ARG` names, and RESUME_CTX makes every queue ACTIVE that it paused; no other queue changes (R315, R317). -/
def Obligations.QueueCommands : Prop :=
  (∀ (s : State) (core q : Nat), isCore core = true → isQueue q = true → s.cpLive core = true →
     let Q := s.queue q
     (∀ nb, s.memSound →
       let cfg := BitVec.ofNat 512 (leNat (s.near (s.queueAddr q) 64))
       let N : Queue := { cfg := cfg, state := .active, epoch := BitVec.ofNat 64 (fld cfg 383 320), enableFt := bits s.ft.toNat 47 0 }
       (s.enableCheck q N nb = .ok → N.cls ≠ 1 → (s.cachedOn (s.dieOf N.core)).length < 4096 →
         ∃ t, exec (.enable core q nb) s = .next t ∧ t.qStatus core = 0 ∧ (t.queue q).cfg = cfg ∧ (t.queue q).state = .active ∧
           (t.queue q).head = 0 ∧ (t.queue q).tail = 0 ∧ (t.queue q).done = 0 ∧ (t.queue q).held = none ∧ (t.queue q).epoch = N.epoch ∧
           (t.queue q).cached = true ∧ (∀ k, k ≠ q → t.queue k = s.queue k) ∧ { t with regs := s.regs, qs := s.qs } = s) ∧
       (s.enableCheck q N nb ≠ .ok →
         ∃ t, exec (.enable core q nb) s = .next t ∧ t.qStatus core = (s.enableCheck q N nb).code ∧ s.onlyRegs t)) ∧
     (Q.state ≠ .disabled → s.itemTaken q = false → s.memSound → s.queueAddr q + 64 ≤ 0xBF00000000 →
       ∃ t, exec (.disable core q) s = .next t ∧ t.qStatus core = 0 ∧ t.queue q = {} ∧ (∀ k, k ≠ q → t.queue k = s.queue k) ∧
         leNat (t.near (s.queueAddr q) 64) = ({ Q with state := .disabled, why := 0 } : Queue).entry.toNat ∧
         s.nearOutside t (s.queueAddr q) 64) ∧
     (Q.state = .active →
       ∃ t, exec (.pause core q) s = .next t ∧ t.qStatus core = 0 ∧ t.queue q = { Q with state := .paused, why := 1, pausedAt := some s.cycle } ∧
         (∀ k, k ≠ q → t.queue k = s.queue k) ∧ { t with regs := s.regs, qs.queues := s.qs.queues } = s) ∧
     (Q.state ≠ .disabled → Q.why ≠ 5 → s.slotPaused Q = false →
       ∃ t, exec (.resume core q) s = .next t ∧ t.qStatus core = 0 ∧ t.queue q = { Q with state := .active, why := 0, resumedAt := some (s.cycle, some core) } ∧
         (∀ k, k ≠ q → t.queue k = s.queue k) ∧ { t with regs := s.regs, qs.queues := s.qs.queues } = s) ∧
     (Q.state ≠ .disabled → Q.kind = 0 →
       ∃ t, exec (.setEpoch core q) s = .next t ∧ t.qStatus core = 0 ∧ t.queue q = { Q with epoch := s.reg (coreOff core 0x1008) } ∧
         (∀ k, k ≠ q → t.queue k = s.queue k) ∧ { t with regs := s.regs, qs.queues := s.qs.queues } = s) ∧
     (Q.state = .disabled → ∀ c, c = .disable core q ∨ c = .pause core q ∨ c = .resume core q ∨ c = .setEpoch core q →
       ∃ t, exec c s = .next t ∧ t.qStatus core = 0x0101 ∧ s.onlyRegs t)) ∧
  (∀ (s : State) (core : Nat), isCore core = true → s.cpLive core = true →
     let ctx := bits (s.reg (coreOff core 0x1008)).toNat 15 0
     (∃ t, exec (.pauseCtx core) s = .next t ∧ t.qStatus core = 0 ∧ ctx ∈ t.qs.ctxPaused ∧
       (∀ k, t.queue k = if (s.queue k).ctx = ctx ∧ (s.queue k).state = .active then { s.queue k with state := .paused, why := 5 }
         else s.queue k) ∧
       { t with regs := s.regs, qs := s.qs } = s) ∧
     (∃ t, exec (.resumeCtx core) s = .next t ∧ t.qStatus core = 0 ∧ ctx ∉ t.qs.ctxPaused ∧
       (∀ k, t.queue k = if (s.queue k).ctx = ctx ∧ (s.queue k).state = .paused ∧ (s.queue k).why = 5 then
         { s.queue k with state := .active, why := 0 } else s.queue k) ∧
       { t with regs := s.regs, qs := s.qs } = s))

/-- A doorbell that R319 takes moves the tail of its queue; any other is counted in `Q_ERRS` and changes no queue. A doorbell that waits
for a cache entry is applied once one is free (R321). Stall counts that have been gathered go into the stall table by a memory-side
INT64 add, for every queue by FLUSH_STATS and for the queues of one die by STALL_FLUSH (R350, R352). -/
def Obligations.DoorbellsAndStallCounts : Prop :=
  (∀ (s : State) (core : Nat) (v : W64), isCore core = true → s.cpLive core = true →
     let q := bits v.toNat 51 32
     let Q := s.queue q
     let tail : W32 := BitVec.ofNat 32 v.toNat
     let good := bits v.toNat 63 52 = 0 ∧ Q.state ≠ .disabled ∧ Q.core = core ∧ (tail - Q.done).toNat ≤ Q.ringItems ∧
       (tail - Q.tail).toNat < 2 ^ 31 ∧ s.dev ≠ .draining
     (good → Q.cached = true →
       ∃ t, exec (.qDoorbell core v) s = .next t ∧ (t.queue q).tail = tail ∧ (t.queue q).head = Q.head ∧ (t.queue q).cfg = Q.cfg ∧
         (∀ k, k ≠ q → t.queue k = s.queue k) ∧ { t with qs := s.qs } = s) ∧
     (¬ good → ∃ t, exec (.qDoorbell core v) s = .next t ∧ s.onlyRegs t ∧
       t.reg (coreOff core 0x1038) = s.reg (coreOff core 0x1038) + 1 ∧ t.flag (coreOff core 0x1004) 16 = true) ∧
     (∀ p w, isQueue p = true → (s.queue p).heldTail = some w → (s.queue p).cached = true →
       ∃ t, exec (.doorbellHeldApply p) s = .next t ∧ (t.queue p).tail = w ∧ (t.queue p).heldTail = none ∧ { t with qs := s.qs } = s)) ∧
  (∀ (s : State) (core q cause n : Nat), isCore core = true → s.cpLive core = true → s.qs.stalls = [(q * 8 + cause, n)] → cause < 8 →
     s.memSound → n < 2 ^ 64 →
     let a := s.dictNat 0x4400 2 + 64 * q
     s.dictNat 0x4400 2 % 64 = 0 → a + 64 ≤ 0xBF00000000 →
     let done := fun (t : State) => t.qs.stalls = [] ∧
       leNat (t.near (a + 8 * cause) 8) = (leNat (s.near (a + 8 * cause) 8) + n) % 2 ^ 64 ∧ s.nearOutside t (a + 8 * cause) 8
     (∃ t, exec (.flushStats core) s = .next t ∧ t.qStatus core = 0 ∧ done t) ∧
     (∀ die, isDie die = true → s.dieOf (s.queue q).core = die → ∃ t, exec (.stallFlush die) s = .next t ∧ done t) ∧
     (∀ die, isDie die = true → s.dieOf (s.queue q).core ≠ die → exec (.stallFlush die) s = .next s))

/-- Descriptors between places of this chip that run at once: a COPY of a row in near memory moves its bytes, an ADD of one element adds
it, an ATOMIC performs its operation at its home, and a SIGNAL moves nothing; each is then in flight with nothing left to be
acknowledged, and its ring index is taken (R320, R324, R329 to R331, R333). -/
def Obligations.DescriptorsMoveTheirData : Prop :=
  ∀ (s : State) (q a b : Nat) (x : BitVec 512), isQueue q = true → s.runsDesc q x →
    let inFlight := fun (t : State) => (t.queue q).head = (s.queue q).head + 1 ∧ (t.queue q).done = (s.queue q).done ∧
      ∃ d, t.desc s.qs.nextDesc = some d ∧ d.item = x ∧ d.stage = .moving ∧ d.outstanding = 0 ∧ d.status = .ok ∧ d.queue = q
    (dOp x = 0 → dRows x = 1 → dWiden x = false → dTag x = 0 → dGenEn x = false →
      s.region (addrLocal (dSrc x)) = .near a → s.region (addrLocal (dDst x)) = .near b →
      ∃ t, exec (.copy q) s = .next t ∧ inFlight t ∧ t.near b (dLen x) = s.near a (dLen x) ∧ s.nearOutside t b (dLen x) ∧
        t.mem.tile = s.mem.tile ∧ t.mem.cache = s.mem.cache) ∧
    (dOp x = 1 → dRows x = 1 → dOrdered x = false → dGenEn x = false → dLen x = addBytes (dMaFmt x) →
      s.region (addrLocal (dSrc x)) = .near a → s.region (addrLocal (dDst x)) = .near b →
      ∃ t, exec (.add q) s = .next t ∧ inFlight t ∧
        leNat (t.near b (dLen x)) = addRule (dMaFmt x) (leNat (s.near b (dLen x))) (leNat (s.near a (dLen x))) ∧
        s.nearOutside t b (dLen x) ∧ t.mem.tile = s.mem.tile) ∧
    (dOp x = 2 → dAtRes x = false → dGenEn x = false → s.region (addrLocal (dDst x)) = .near b →
      let size := amoSize (dAtCode x) false
      (s.cacheLine (dAtHome x) (b / 64)).2.1 = .ok →
      ∃ t, exec (.atomic q) s = .next t ∧ inFlight t ∧
        leNat (t.cacheRead (dAtHome x) b size).2.2 =
          (amoRow (8 * size) (dAtCode x) (BitVec.ofNat _ (leNat (s.cacheRead (dAtHome x) b size).2.2))
            (BitVec.ofNat _ (dSrc x)) (BitVec.ofNat _ (dAtOp1 x))).toNat) ∧
    (dOp x = 3 → dGenEn x = false → ∃ t, exec (.signal q) s = .next t ∧ inFlight t ∧ t.mem = s.mem ∧ t.sync = s.sync)

/-- The end of a descriptor. With its last byte acknowledged and no fault it leaves the device: its place in the ring is done, it and its
bytes are counted, and its semaphore is signalled (R320, R332, R348, R358); a fault stops its queue (R336); one with bytes still
outstanding goes on. -/
def Obligations.DescriptorCompletion : Prop :=
  ∀ (s : State) (id : Nat) (d : Desc), s.desc id = some d → d.id = id →
    let fe := 0x2000 + 0x100 * d.fe
    (d.outstanding ≠ 0 → exec (.descriptorComplete id) s = .next s) ∧
    (d.stage = .moving → d.outstanding = 0 → d.status = .ok → d.fallback = false → dGenEn d.item = false → d.landed = [] →
      s.tieredPages (dSrcRows d.item) = [] → s.tieredPages d.rows = [] → dSigEn d.item = true →
      dSigFar d.item = false → (s.sem (dSigSem d.item)).state = .live → (s.sem (dSigSem d.item)).waiters = [] →
      (s.sem (dSigSem d.item)).count.toNat + (s.sem (dSigSem d.item)).add < 2 ^ 32 →
      ∃ t, exec (.descriptorComplete id) s = .next t ∧ t.desc id = none ∧ t.queue d.queue = (s.queue d.queue).finishItem d.index ∧
        (t.sem (dSigSem d.item)).count = (s.sem (dSigSem d.item)).count + BitVec.ofNat 32 (s.sem (dSigSem d.item)).add ∧
        t.reg (coreOff d.core (fe + 0x08)) = s.reg (coreOff d.core (fe + 0x08)) + 1 ∧
        t.reg (coreOff d.core (fe + 0x10)) = s.reg (coreOff d.core (fe + 0x10)) + BitVec.ofNat 64 (dBytes d.item) ∧ t.mem = s.mem) ∧
    (d.stage = .moving → d.outstanding = 0 → d.status ≠ .ok → (s.queue d.queue).state ≠ .disabled →
      (∀ r, (s.queue d.queue).resumedAt = some r → r.1 ≠ s.cycle) →
      ∃ t, exec (.descriptorComplete id) s = .next t ∧ t.desc id = none ∧ (t.queue d.queue).state = .stopped ∧
        (t.queue d.queue).faultStatus = d.status.code ∧ (t.queue d.queue).faultIndex = d.index ∧
        t.reg d.status.counterOff = s.reg d.status.counterOff + 1 ∧ t.sync = s.sync) ∧
    ((s.queue d.queue).done = d.index → (s.queue d.queue).ahead = [] →
      ((s.queue d.queue).finishItem d.index).done = (s.queue d.queue).done + 1) ∧
    ((s.queue d.queue).done ≠ d.index → (s.queue d.queue).ahead = [] →
      ((s.queue d.queue).finishItem d.index).done = (s.queue d.queue).done)

/-- What ends a descriptor's waits for the tiered range: it begins when its pages have stopped moving (R279), it ends with DEADLINE_MISSED
when its far pool has been unreachable for `FAR_TIMEOUT_US` (R296), and its fallback, where it has one, fires at its deadline: it ends
with FALLBACK_TAKEN (R299, R300). The watchdog does nothing where no queues wait for each other in a cycle, and fails the item of a
queue that has waited 1 ms for a semaphore which only its own ring signals, with DEADLOCK_DETECTED (R353, R354). -/
def Obligations.DescriptorWaitsEnd : Prop :=
  (∀ (s : State) (id : Nat) (d : Desc), s.desc id = some d → d.id = id →
     let pages := s.tieredPages d.rows
     (d.stage = .transit → pages.any s.inTransit = true → exec (.transitWaitEnd id) s = .next s) ∧
     (d.stage = .transit → pages.any s.inTransit = false → pages.any s.unreachable = false → dOp d.item = 0 →
       s.isOwn (dSrc d.item) = true → s.isOwn (dDst d.item) = true → inWindow (dDst d.item) = false →
       s.ownCheck (s.queue d.queue).pd (s.queue d.queue).core d.item = .ok →
       ∃ t e, exec (.transitWaitEnd id) s = .next t ∧ t.desc id = some e ∧ e.stage = .moving ∧ e.beats = true ∧ e.item = d.item) ∧
     (d.stage = .unreachable → pages.any s.unreachable = true →
       (s.ft.toNat < d.since + 1000 * s.dictNat 0x4300 4 → exec (.farTimeout id) s = .next s) ∧
       (d.since + 1000 * s.dictNat 0x4300 4 ≤ s.ft.toNat → (s.queue d.queue).state ≠ .disabled →
         (∀ r, (s.queue d.queue).resumedAt = some r → r.1 ≠ s.cycle) →
         ∃ t, exec (.farTimeout id) s = .next t ∧ t.desc id = none ∧ (t.queue d.queue).state = .stopped ∧
           (t.queue d.queue).faultStatus = 0x0301 ∧
           t.reg (Status.counterOff .deadlineMissed) = s.reg (Status.counterOff .deadlineMissed) + 1)) ∧
     (∀ w, d.deadline = some w →
       (d.fallback = false ∨ s.ft.toNat < w → exec (.fallbackFire id) s = .next s) ∧
       (d.fallback = true → w ≤ s.ft.toNat → d.stage = .moving →
         ∃ t, exec (.fallbackFire id) s = .next t ∧ t.desc id = none ∧ t.reg 0x608 = s.reg 0x608 + 1 ∧
           t.reg 0xB058 = s.reg 0xB058 + 1 ∧ t.flag 0xB000 4 = true ∧ t.sync = s.sync))) ∧
  (∀ s : State,
     (s.cyclic = [] → exec .watchdogEval s = .next s) ∧
     (∀ q Q h w i, s.qs.queues = [(q, Q)] → s.qs.descs = [] → Q.kind ≠ 0 → Q.state ≠ .disabled → Q.held = some h → h.satisfied = false →
       Q.waitSince = some w → w + 1000000 ≤ s.ft.toNat → itemWaits Q.kind h.item = [i] → (s.sem i).observe = false →
       (s.sem i).count.toNat < (s.sem i).take → s.signals q i = true →
       (∀ r, Q.resumedAt = some r → r.1 ≠ s.cycle) →
       ∃ t, exec .watchdogEval s = .next t ∧ (t.queue q).held = none ∧ (t.queue q).state = .stopped ∧ (t.queue q).faultStatus = 0x0302 ∧
         t.reg 0xC008 = s.reg 0xC008 + 1 ∧ t.flag 0xC000 0 = true ∧ .item q ∉ (t.sem i).waiters))
/-! ### Update unit and chains -/

/-- An OPT item, begun or with its block read again after 512 control cycles. While the step-scalar block is not sealed for its step the
item waits; a block of a later step ends it with STATE_CONFLICT; a skipping block leaves the arrays and a zero hash; else every
element gets the values of the item's program, the elements are counted, and the hash of the new weights stands in the ring slot (R398
to R404). -/
def Obligations.OptimiserSteps : Prop :=
  ∀ (s : State) (c : Instr) (q : Nat) (x : BitVec 512) (h : Held), isQueue q = true → (s.queue q).kind = 4 →
    (s.queue q).held = some h → h.satisfied = true → h.item = x → uOp x = 0 → s.updateCheck x = .ok → s.memSound →
    let core := (s.queue q).core
    (c = .opt q ∧ s.engineRuns core = true ∧ s.updateUnderway core = false ∧ (s.rivals q fun _ => true).any (fun r => s.before q r) = false) ∨
      (∃ w, c = .blockReread q ∧ (s.core core).optWait = some (q, w) ∧ w ≤ s.cycle.toNat) →
    let b : BitVec 512 := BitVec.ofNat 512 (leNat (s.near (uBlk x) 64))
    let step := fld b 63 0
    let sealed := fld b 511 448
    let slot := (s.queue q).itemAddr h.index.toNat
    (sealed ≠ step ∨ step < uStep x →
      ∃ t, exec c s = .next t ∧ (t.core core).optWait = some (q, s.cycle.toNat + 512) ∧ t.queue q = s.queue q ∧ t.mem = s.mem ∧
        t.regs = s.regs) ∧
    (sealed = step → uStep x < step →
      ∃ t, exec c s = .next t ∧ (t.core core).optWait = none ∧ (t.queue q).held = none ∧ (t.queue q).faultStatus = 0x0101 ∧
        t.mem = s.mem) ∧
    (sealed = step → uStep x = step → fld b 415 412 = 1 → zeros b [(411, 386), (447, 416)] = true → slot + 8 ≤ 0xBF00000000 →
      (fbit b 384 = true →
        ∃ t, exec c s = .next t ∧ (t.queue q).held = none ∧ leNat (t.near slot 8) = 0 ∧ s.nearOutside t slot 8 ∧
          t.reg (coreOff core 0x8018) = s.reg (coreOff core 0x8018) + 1) ∧
      (fbit b 384 = false → (∀ e, e ∈ optExtents x → overlaps slot 8 e.1 e.2.1 = false) →
        let S := optScalars b
        let k := uSize x
        let el := fun i => optElem (uProg x) S
          (BitVec.ofNat 32 (leNat (s.near (uArr x 0 + 2 * i) 2) * 0x10000 + leNat (s.near (uArr x 1 + 2 * i) 2)))
          (BitVec.ofNat 32 (leNat (s.near (uArr x 3 + 4 * i) 4))) (BitVec.ofNat 32 (leNat (s.near (uArr x 4 + 4 * i) 4)))
          (f32mul (widenWord (uFmt x) (leNat (s.near (uArr x 2 + k * i) k))) S.clip)
        ∃ t, exec c s = .next t ∧ (t.queue q).held = none ∧
          (∀ i, i < uN x → leNat (t.near (uArr x 0 + 2 * i) 2) = (el i).1.toNat / 0x10000 ∧
            leNat (t.near (uArr x 1 + 2 * i) 2) = (el i).1.toNat % 0x10000 ∧
            leNat (t.near (uArr x 3 + 4 * i) 4) = (el i).2.1.toNat ∧
            (uProg x = 1 ∨ uProg x = 2 → leNat (t.near (uArr x 4 + 4 * i) 4) = (el i).2.2.toNat)) ∧
          leNat (t.near slot 8) = (optHash (BitVec.ofNat 64 (uStep x)) ((List.range (uN x)).map fun i => (el i).1)).toNat ∧
          t.reg (coreOff core 0x8010) = s.reg (coreOff core 0x8010) + BitVec.ofNat 64 (uN x)))

/-- A CHAIN item begins as its checks allow, and its member decides: at its instant in RECORD mode with what has come by the end of that
control cycle, in FORCE mode as the masks say; the decision is in the header that it sends on, and a skip is counted. An included head sends its running elements
and the squared norm in the trailer and ends (R405, R406, R410, R411, R415, R416). What a member that is no head does with the
transfers of its predecessor, once they are in place: a header of its chain and step leads to its decision, another ends the item with
STATE_CONFLICT; a chunk goes on with its own contribution added where it is included; and so does the trailer with its squared norm
(R407 to R409, R411, R416). -/
def Obligations.ChainSteps : Prop :=
  (∀ (s : State) (core : Nat), isCore core = true → s.memSound →
     (∀ q x h, isQueue q = true → (s.queue q).kind = 4 → (s.queue q).core = core → (s.queue q).held = some h → h.satisfied = true →
       h.item = x → uOp x = 1 → s.updateCheck x = .ok → s.engineRuns core = true → s.updateUnderway core = false →
       (s.rivals q fun _ => true).any (fun r => s.before q r) = false →
       let d := s.chainDesc x
       s.dueSwap (cdMap d) = false →
       s.quietSem (uCtb x) → s.quietSem (cdArr d) → uCtb x ≠ cdArr d →
       (uMember x = cdLast d ∨ (s.rankChip (cdMap d) (uSuccRank x) = some s.fab.chipNum ∧
         holderCheck (uArr x 2) (recvBytes (uN x) (cdSize d)) = .ok)) →
       ∃ t r, exec (.chain q) s = .next t ∧ (t.core core).chain = some r ∧ r.item = x ∧ r.cd = d ∧ r.queue = q ∧ r.checks = 0 ∧
         r.stage = (if uMember x = 0 then .decision else .header) ∧ t.queue q = s.queue q ∧ t.mem = s.mem) ∧
     (∀ r, (s.core core).chain = some r → r.stage = .decision → r.checks = 0 →
       (cdForce r.cd = false → s.ft.toNat < r.decisionAt → exec (.chainDecision core) s = .next s) ∧
       (cdForce r.cd = true → r.forced 0 r.member = true → r.satisfied = false → exec (.chainDecision core) s = .next s) ∧
       ∀ incl, (cdForce r.cd = false ∧ r.decisionAt ≤ s.ft.toNat ∧ r.satisfiedBy r.decisionAt = true ∧ incl = true) ∨
           (cdForce r.cd = false ∧ r.decisionAt < s.ft.toNat ∧ s.pastBy r.decisionAt = true ∧ r.satisfiedBy r.decisionAt = false ∧
             incl = false) ∨
           (cdForce r.cd = true ∧ incl = r.forced 0 r.member ∧ (incl = true → r.satisfied = true)) →
         r.hdr.length = 0x400 → (r.isTail = true ∨ (r.succChip = s.fab.chipNum ∧ holderCheck (uArr r.item 2) (recvBytes r.n r.size) = .ok)) →
         let hdr := if incl then includeIn r.hdr r.member else r.hdr
         (r.member ≠ 0 →
           ∃ t u, exec (.chainDecision core) s = .next t ∧ (t.core core).chain = some u ∧ u.stage = .chunks ∧ u.included = incl ∧
             u.hdr = hdr ∧ (r.isTail = false → t.near (uArr r.item 2) 0x400 = hdr) ∧
             t.reg (coreOff core 0x8038) = s.reg (coreOff core 0x8038) + (if incl then 0 else 1)) ∧
         (∀ h, r.member = 0 → r.isTail = false → incl = true → r.nonempty = false → r.sends = [] → 16 ≤ cdChunkLog2 r.cd →
           (s.queue r.queue).held = some h → extentsOk (chainExtents r.item r.cd) = true →
           overlaps (uArr r.item 2) (recvBytes r.n r.size) (uArr r.item 0) (uSize r.item * r.n) = false →
           let xs := fun i => leNat (s.near (uArr r.item 0 + uSize r.item * i) (uSize r.item))
           ∃ t, exec (.chainDecision core) s = .next t ∧ (t.core core).chain = none ∧ (t.queue r.queue).held = none ∧
             t.near (uArr r.item 2) 0x400 = hdr ∧
             (∀ i, i < r.n → t.near (uArr r.item 2 + 0x1000 + r.size * i) r.size =
               leBytes r.size (toRunning (cdRun r.cd) (uFmt r.item) (xs i))) ∧
             t.near (uArr r.item 2 + 0x400) 0x40 =
               leBytes 4 (f32add 0 (sqNorm (uFmt r.item) ((List.range r.n).map xs))).toNat ++ List.replicate 0x3C 0))) ∧
  (∀ (s : State) (core : Nat) (r : ChainRun) (h : Held), isCore core = true → s.memSound → (s.core core).chain = some r → r.member ≠ 0 →
     (s.queue r.queue).held = some h → (s.queue r.queue).kind = 4 → extentsOk (chainExtents r.item r.cd) = true →
     (r.isTail = true ∨ (r.succChip = s.fab.chipNum ∧ holderCheck (uArr r.item 2) (recvBytes r.n r.size) = .ok)) →
     let i := cdArr r.cd
     let size := r.size
     let formed := fun (hdr : List Byte) => bits (leNat (hdr.take 4)) 31 28 = 1 ∧ bits (leNat (hdr.take 4)) 27 1 = 0 ∧
       zeroSpan hdr 0x006 0x008 = true ∧ zeroSpan hdr 0x014 0x100 = true ∧ zeroSpan hdr 0x300 0x400 = true
     let ours := fun (hdr : List Byte) => leNat ((hdr.drop 4).take 2) = cdId r.cd ∧ leNat ((hdr.drop 8).take 8) = cdStep r.cd
     let decides := fun (t : State) (hdr : List Byte) => ∃ u, (t.core core).chain = some u ∧ u.stage = .decision ∧ u.hdr = hdr ∧
       u.nonempty = bitAt (leNat (hdr.take 1)) 0 ∧ t.near (uArr r.item 1) 0x400 = hdr
     let mine := fun k => leNat (s.near (uArr r.item 0 + uSize r.item * k) (uSize r.item))
     (r.stage = .header → r.arrived = true → s.quietSem i →
       formed (s.near (uArr r.item 1) 0x400) →
       (ours (s.near (uArr r.item 1) 0x400) →
         ∃ t, exec (.chainHeaderArrival core []) s = .next t ∧ decides t (s.near (uArr r.item 1) 0x400)) ∧
       (¬ ours (s.near (uArr r.item 1) 0x400) →
         ∃ t, exec (.chainHeaderArrival core []) s = .next t ∧ (t.core core).chain = none ∧ (t.queue r.queue).held = none ∧
           (t.queue r.queue).faultStatus = 0x0101)) ∧
     (∀ bytes, r.stage = .header → r.arrived = false → bytes.length = 0x400 → formed bytes → ours bytes → uArr r.item 1 + 0x400 ≤ 0xBF00000000 →
       (s.sem i).state = .live → (s.sem i).waiters = [.chainArr core] → (s.sem i).observe = false →
       (s.sem i).take ≤ (s.sem i).count.toNat + (s.sem i).add → (s.sem i).count.toNat + (s.sem i).add < 2 ^ 32 →
       ∃ t, exec (.chainHeaderArrival core bytes) s = .next t ∧ decides t bytes) ∧
     (r.stage = .chunks → r.arrived = true → s.quietSem i → r.included = true → r.nonempty = true → r.chunk < r.chunks →
       ∃ t u, exec (.chainChunkArrival core []) s = .next t ∧ (t.core core).chain = some u ∧ u.chunk = r.chunk + 1 ∧
         u.stage = (if r.chunk + 1 = r.chunks then .trailer else .chunks) ∧
         ∀ k, (r.span r.chunk).1 ≤ k → k < (r.span r.chunk).1 + (r.span r.chunk).2 →
           t.near ((if r.isTail then uArr r.item 4 else uArr r.item 2 + 0x1000) + size * k) size =
             leBytes size (hop (cdRun r.cd) (uFmt r.item) (leNat (s.near (uArr r.item 1 + 0x1000 + size * k) size)) (mine k)).1) ∧
     (r.stage = .trailer → r.arrived = true → r.included = true → r.sends = [] →
       let tr := s.near (uArr r.item 1 + 0x400) 0x40
       zeroSpan tr 4 0x40 = true →
       let sum := f32add (BitVec.ofNat 32 (leNat (tr.take 4))) (sqNorm (uFmt r.item) ((List.range r.n).map mine))
       (r.isTail = true →
         ∃ t u, exec (.chainTrailerArrival core []) s = .next t ∧ (t.core core).chain = some u ∧ u.stage = .tailWait ∧
           u.sumSq = sum ∧ u.mainEndFt = s.ft.toNat ∧ t.mem = s.mem) ∧
       (r.isTail = false →
         ∃ t, exec (.chainTrailerArrival core []) s = .next t ∧ (t.core core).chain = none ∧ (t.queue r.queue).held = none ∧
           t.near (uArr r.item 2 + 0x400) 0x40 = leBytes 4 sum.toNat ++ tr.drop 4)))

/-- What follows a chain's main pass. A skipped member whose contribution comes within the grace window copies it into the late slot that
it claims, or drops it where there is none; the window closes on one whose contribution has not come. At the fold instant the tail
adds the late slots to its result and writes the chain record (R412 to R417). -/
def Obligations.ChainEnds : Prop :=
  ∀ (s : State) (core : Nat) (r : ChainRun) (h : Held), isCore core = true → s.memSound → (s.core core).chain = some r →
    (s.queue r.queue).held = some h → (s.queue r.queue).kind = 4 → r.sends = [] → r.checks = 0 →
    let size := r.size
    let gone := fun (t : State) => (t.core core).chain = none ∧ (t.queue r.queue).held = none ∧
      (t.queue r.queue).faultStatus = (s.queue r.queue).faultStatus
    (r.stage ≠ .grace → exec (.lateCopy core) s = .next s ∧ exec (.graceEnd core) s = .next s) ∧
    (r.stage = .grace → r.inGrace = false → exec (.lateCopy core) s = .next s) ∧
    (r.stage = .grace → r.inGrace = true → cdLateSlots r.cd = 0 →
      ∃ t, exec (.lateCopy core) s = .next t ∧ gone t ∧ t.mem = s.mem ∧ t.reg (coreOff core 0x8048) = s.reg (coreOff core 0x8048) + 1) ∧
    (let base := cdLateBase r.cd
     let a := s.amoAt (cdTailCore r.cd) base 0 4 1 0
     r.stage = .grace → r.inGrace = true → r.tailChip = s.fab.chipNum → a.2.1 = .ok → a.1.memSound → cdLateSlots r.cd ≠ 0 →
     holderCheck base (lateBytes (cdLateSlots r.cd) r.n size) = .ok →
      (cdLateSlots r.cd ≤ a.2.2 →
        ∃ t, exec (.lateCopy core) s = .next t ∧ gone t ∧ t.reg (coreOff core 0x8048) = s.reg (coreOff core 0x8048) + 1) ∧
      (a.2.2 < cdLateSlots r.cd →
        ∃ t, exec (.lateCopy core) s = .next t ∧ gone t ∧ leNat (t.near (base + 0x40 + 4 * a.2.2) 4) = 2 ^ 31 + r.member ∧
          ∀ i, i < r.n → t.near (base + 0x1000 + a.2.2 * lateStride r.n size + size * i) size =
            leBytes size (toRunning (cdRun r.cd) (uFmt r.item)
              (leNat (a.1.near (uArr r.item 0 + uSize r.item * i) (uSize r.item)))))) ∧
    (r.stage = .grace → cdForce r.cd = false → r.inGrace = false →
      (s.pastBy (cdGrace r.cd) = false → exec (.graceEnd core) s = .next s) ∧
      (s.pastBy (cdGrace r.cd) = true →
        ∃ t, exec (.graceEnd core) s = .next t ∧ gone t ∧ t.mem = s.mem ∧ t.reg (coreOff core 0x8048) = s.reg (coreOff core 0x8048) + 1 ∧
          t.reg (coreOff core 0x8050) = s.reg (coreOff core 0x8050) + BitVec.ofNat 64 (cdGrace r.cd - r.tk))) ∧
    (r.stage = .tailWait → s.foldAt r = none → exec (.lateFold core) s = .next s) ∧
    (∀ F, r.stage = .tailWait → s.foldAt r = some F → r.isTail = true → extentsOk (chainExtents r.item r.cd) = true →
      extentsClash (chainExtents r.item r.cd) = false → r.lateWanted.contains r.member = false → bitAt (leNat (r.hdr.take 1)) 0 = true →
      let old := fun i => leNat (s.near (uArr r.item 4 + size * i) size)
      let record := fun late sumSq (res : Nat → Nat) =>
        chainRecord r (hdrIncl r.hdr) late sumSq (sqNorm (runFmt (cdRun r.cd)) ((List.range r.n).map res)) (r.foldFt F)
      let folded := fun (t : State) late sumSq (res : Nat → Nat) => gone t ∧
        (∀ i, i < r.n → t.near (uArr r.item 4 + size * i) size = leBytes size (res i)) ∧
        t.near (cdRecBase r.cd) 0x800 = record late sumSq res
      ((s.lateSlots r F).2.2 = [] → ∃ t, exec (.lateFold core) s = .next t ∧ folded t 0 r.sumSq old) ∧
      (∀ p j, (s.lateSlots r F).2.2 = [(p, j)] → j < cdLateSlots r.cd →
        let f := runFmt (cdRun r.cd)
        let late := fun i => leNat (s.near (cdLateBase r.cd + 0x1000 + j * lateStride r.n size + size * i) size)
        ∃ t, exec (.lateFold core) s = .next t ∧ t.reg (coreOff core 0x8040) = s.reg (coreOff core 0x8040) + 1 ∧
          folded t (2 ^ p)
            (f32add r.sumSq (sqNorm f ((List.range r.n).map fun i => toRunning (cdRun r.cd) f (late i))))
            (fun i => (hop (cdRun r.cd) f (old i) (toRunning (cdRun r.cd) f (late i))).1)))

/-! ### Fabric ports -/

/-- Flits at an ACTIVE port. One whose CRC-32 is not that of its bytes, one with an uncorrectable codeword and one of a reserved type is
discarded and counted; a DATA flit in sequence is accepted, its packets served in order, and one out of sequence is not; acknowledgements
empty the replay buffer and credits return; a NAK, and 2 µs without progress, send again what is not acknowledged, and after 16 failures
the port retrains (R437, R438, R440 to R442). -/
def Obligations.LinkFlits : Prop :=
  ∀ (s : State) (p vc seq ack crVc credits corrected bad : Nat) (wd wi wn : FlitWire), isPort p = true → s.fab.lost = [] →
    s.regsLive = true → linkFields seq ack crVc credits = true →
    wireSays wd ack crVc credits = true → wireHdr wd 63 60 = 1 → wireHdr wd 59 48 = seq → wireHdr wd 27 26 = vc →
    wireSays wi ack crVc credits = true → wireHdr wi 63 60 = 0 ∨ 5 ≤ wireHdr wi 63 60 →
    wireSays wn ack crVc credits = true → wireHdr wn 63 60 = 2 →
    let P := s.port p
    let data := fun (pkts : List Packet) => Instr.dataFlit p wd corrected bad seq ack vc crVc credits pkts
    let idle := Instr.idleFlit p wi corrected bad ack crVc credits
    let nak := Instr.nak p wn corrected bad seq ack crVc credits
    let broken := fun (w : FlitWire) => w.crc ≠ crc32 w.bytes ∨ bad ≠ 0 ∨ 5 ≤ wireHdr w 63 60
    let acked := fun (l : List Flit) (n : Nat) => if l.any (fun f => f.seq == n) then (l.dropWhile fun f => f.seq != n).drop 1 else l
    let r := acked P.replay ack
    let P1 := { P with
      replay := r, credits := P.credits.set crVc (min 128 ((P.credits[crVc]?).getD 0 + credits)),
      fails := if r.length < P.replay.length then 0 else P.fails,
      lastProgress := if r.length < P.replay.length then s.ft.toNat else P.lastProgress }
    let frame := fun (t : State) => (∀ k, k ≠ p → t.port k = s.port k) ∧
      { t with regs := s.regs, fab.ports := s.fab.ports, wear.life := s.wear.life } = s
    (P.link ≠ .active → exec (data []) s = .next s ∧ exec idle s = .next s ∧ exec nak s = .next s ∧ exec (.replayTimeout p) s = .next s) ∧
    (P.link = .active →
      (broken wd →
        ∃ t, exec (data []) s = .next t ∧ t.port p = { P with gapNaked := true } ∧
          t.reg (portOff p 0x20) = s.reg (portOff p 0x20) + 1 ∧ t.reg (portOff p 0x18) = s.reg (portOff p 0x18) + BitVec.ofNat 64 bad ∧
          t.reg (portOff p 0x10) = s.reg (portOff p 0x10) + BitVec.ofNat 64 corrected ∧ frame t) ∧
      (∀ c, c = idle ∧ broken wi ∨ c = nak ∧ broken wn →
        ∃ t, exec c s = .next t ∧ t.port p = P ∧ t.reg (portOff p 0x20) = s.reg (portOff p 0x20) + 1 ∧ frame t) ∧
      (P.queue = [] →
        (¬ broken wi → ∃ t, exec idle s = .next t ∧ t.port p = P1 ∧ frame t) ∧
        (¬ broken wn →
          let again := acked r ((seq + 4095) % 4096)
          again ≠ [] → P.fails < 16 →
            ∃ t, exec nak s = .next t ∧ (t.port p).replay = again ∧ (t.port p).link = .active ∧
              t.reg (portOff p 0x28) = s.reg (portOff p 0x28) + BitVec.ofNat 64 again.length ∧ frame t)) ∧
      (¬ broken wd →
        (seq ≠ P.rxSeq → ∃ t, exec (data []) s = .next t ∧ t.port p = { P with gapNaked := true } ∧ frame t) ∧
        (P.queue = [] → seq = P.rxSeq →
          ∃ t, exec (data []) s = .next t ∧ t.port p = { P1 with rxSeq := (seq + 1) % 4096, gapNaked := false } ∧ frame t) ∧
        (∀ k, seq = P.rxSeq → packetOk .signal k = true → packetVc k = vc → k.dst = s.fab.chipNum →
          ∃ t u, exec (data [k]) s = .next t ∧ exec (data []) s = .next u ∧
            exec (.signalPacket k) (u.bump (portOff p 0x58) (packetBytes k)) = .next t)) ∧
      (s.ft.toNat < P.lastProgress + 2000 ∨ P.replay = [] → exec (.replayTimeout p) s = .next s) ∧
      (P.lastProgress + 2000 ≤ s.ft.toNat → P.replay ≠ [] →
        (P.fails < 16 →
          ∃ t, exec (.replayTimeout p) s = .next t ∧ t.port p = { P with fails := P.fails + 1, lastProgress := s.ft.toNat } ∧
            t.reg (portOff p 0x28) = s.reg (portOff p 0x28) + BitVec.ofNat 64 P.replay.length ∧ frame t) ∧
        (16 ≤ P.fails →
          ∃ t, exec (.replayTimeout p) s = .next t ∧
            t.port p = { P with link := .retrain, phase := .align, fast := true, attempts := 0, fails := 0 } ∧
            t.reg (portOff p 0x30) = s.reg (portOff p 0x30) + 1 ∧ (∀ k, (t.port k).link = if k = p then .retrain else (s.port k).link) ∧
            t.mem = s.mem ∧ t.qs = s.qs ∧ t.sync = s.sync)))

/-- Training. A phase that does not end in time fails the attempt: a fast retrain turns to full training, and the third failure takes the
port DOWN, to be tried again after 1 s; the end of a training leaves the first lane set of R446 that is good and the port ACTIVE, DOWN
or FENCED as its peer says; a lane with too many symbol errors starts a fast retrain; an IDENT of the wrong peer fences (R443 to
R449). -/
def Obligations.PortTraining : Prop :=
  ∀ (s : State) (p : Nat), isPort p = true → s.fab.lost = [] →
    let P := s.port p
    let down := fun (t : State) => (t.port p).link = (if P.disabling ∨ P.disabled then .disabled else .down) ∧ (t.port p).width = 0 ∧
      (t.port p).replay = [] ∧ (t.port p).queue = [] ∧
      (t.port p).nextTry = (if P.disabling ∨ P.disabled then none else some (s.ft.toNat + 1000000000))
    (P.phase = .idle → exec (.trainingPhaseTimeout p) s = .next s ∧ ∀ f, trainOk f = true → exec (.trainingEnd p f) s = .next s) ∧
    (P.phase ≠ .idle →
      (P.fast = true → P.link = .retrain →
        ∃ t, exec (.trainingPhaseTimeout p) s = .next t ∧ t.reg (portOff p 0x38) = s.reg (portOff p 0x38) + 1 ∧
          t.port p = { P with attempts := 0, phase := .detect, fast := false, nextTry := none }) ∧
      (P.fast = false → P.attempts < 2 →
        ∃ t, exec (.trainingPhaseTimeout p) s = .next t ∧ t.reg (portOff p 0x38) = s.reg (portOff p 0x38) + 1 ∧
          t.port p = { P with attempts := P.attempts + 1, phase := .detect }) ∧
      (P.fast = false → 2 ≤ P.attempts → ∃ t, exec (.trainingPhaseTimeout p) s = .next t ∧ down t) ∧
      (∀ f, trainOk f = true →
        let found := [0xFF, 0x0F, 0xF0, 0x03, 0x0C, 0x30, 0xC0].find? fun m => decide (m &&& f.goodLanes = m)
        (found = none ∨ f.peerVersion = 0 → ∃ t, exec (.trainingEnd p f) s = .next t ∧ down t) ∧
        (∀ m, found = some m → f.peerVersion ≠ 0 →
          let lanes := ((List.range 8).filter (bitAt m)).length
          (s.expectedPeer p = some (f.peerChip, f.peerPort) →
            ∃ t, exec (.trainingEnd p f) s = .next t ∧ (t.port p).link = .active ∧ (t.port p).phase = .idle ∧ (t.port p).width = lanes ∧
              (t.port p).active = m ∧ (t.port p).retired = 255 - m ∧ (t.port p).peerChip = f.peerChip ∧
              (t.port p).peerPort = f.peerPort ∧ (t.port p).lastStatus = 0) ∧
          (s.expectedPeer p ≠ some (f.peerChip, f.peerPort) →
            ∃ t, exec (.trainingEnd p f) s = .next t ∧ (t.port p).link = .fenced ∧ (t.port p).width = lanes ∧
              t.reg (portOff p 0x48) = s.reg (portOff p 0x48) + 1 ∧ t.flag (portOff p 0) 3 = true)))) ∧
    (∀ lane, lane < 8 →
      (P.link ≠ .active ∨ bitAt P.active lane = false → exec (.laneSerExceed p lane) s = .next s) ∧
      (P.link = .active → bitAt P.active lane = true →
        ∃ t, exec (.laneSerExceed p lane) s = .next t ∧
          t.port p = { P with link := .retrain, phase := .align, fast := true, attempts := 0, fails := 0 } ∧
          t.reg (portOff p 0x30) = s.reg (portOff p 0x30) + 1 ∧ t.flag (portOff p 0) 1 = true ∧
          (∀ k, k ≠ p → (t.port k).link = (s.port k).link) ∧ t.mem = s.mem ∧ t.qs = s.qs ∧ t.sync = s.sync)) ∧
    (∀ w, P.nextTry = some w → P.link = .down →
      (s.ft.toNat < w → exec (.downRetry p) s = .next s) ∧
      (w ≤ s.ft.toNat →
        ∃ t, exec (.downRetry p) s = .next t ∧
          t.port p = { P with attempts := 0, link := .training, phase := .detect, fast := false, nextTry := none } ∧
          (∀ k, k ≠ p → t.port k = s.port k) ∧ { t with fab.ports := s.fab.ports } = s)) ∧
    (∀ version chip peer, isChip chip = true → peer < 256 →
      (P.link ≠ .active → P.link ≠ .fenced → exec (.ident p version chip peer) s = .next s) ∧
      (version ≠ 0 → P.link = .fenced → P.reident = true → s.expectedPeer p = some (chip, peer) →
        ∃ t, exec (.ident p version chip peer) s = .next t ∧ (t.port p).link = .active ∧ (t.port p).peerChip = chip ∧
          (t.port p).peerPort = peer ∧ (t.port p).reident = false) ∧
      (version = 0 → P.link = .active ∨ P.link = .fenced → ∃ t, exec (.ident p version chip peer) s = .next t ∧ down t) ∧
      (version ≠ 0 → P.link = .active → s.expectedPeer p ≠ some (chip, peer) →
        ∃ t, exec (.ident p version chip peer) s = .next t ∧ (t.port p).link = .fenced ∧
          t.reg (portOff p 0x48) = s.reg (portOff p 0x48) + 1))

/-- `PORT_CTRL`: REIDENT asks for the next IDENT to count, RETRAIN begins full training, DISABLE holds an ACTIVE port until its replay
buffer has emptied and revokes the queues admitted on it, and enabling trains it again (R349, R449, R459, R637). An announcement of a
member of the group sets the link states known of it, which changes nothing else where no barrier and no far pool depends on them
(R434). -/
def Obligations.PortControl : Prop :=
  ∀ (s : State) (p : Nat), isPort p = true → s.fab.lost = [] → s.regsLive = true → s.isXanler p = true →
    let P := s.port p
    let trains := fun (Q : Port) =>
      { Q with link := if P.link = .active ∨ P.link = .retrain then .retrain else .training, phase := .detect, fast := false, nextTry := none }
    exec (.reident p) s = .next (s.setPort p { P with reident := true }) ∧
    (P.disabled = false → P.disabling = false →
      (∃ t, exec (.portRetrain p) s = .next t ∧ t.port p = trains { P with attempts := 0 } ∧
        (∀ k, k ≠ p → (t.port k).link = (s.port k).link) ∧ (P.link ≠ .active → ∀ k, k ≠ p → t.port k = s.port k)) ∧
      exec (.portEnable p) s = .next s ∧ exec (.portDisableComplete p) s = .next s ∧
      (P.link = .active →
        ∃ t, exec (.portDisable p) s = .next t ∧ (t.port p).disabling = true ∧ (t.port p).link = .active ∧ (t.port p).usable = false ∧
          ∀ q Q, s.qs.queues = [(q, Q)] → Q.admitted = true → Q.rsvPort = p → 0 < Q.rsvSlots → Q.state ≠ .disabled →
            (∀ r, Q.resumedAt = some r → r.1 ≠ s.cycle) →
            (t.queue q).state = .stopped ∧ (t.queue q).why = 7 ∧ (t.queue q).admitted = false ∧ t.reg 0xC018 = s.reg 0xC018 + 1) ∧
      (P.link = .down → ∃ t, exec (.portDisable p) s = .next t ∧ (t.port p).link = .disabled ∧ (t.port p).disabled = true)) ∧
    (P.disabling = true → P.link = .active →
      (P.replay ≠ [] → exec (.portDisableComplete p) s = .next s) ∧
      (P.replay = [] →
        ∃ t, exec (.portDisableComplete p) s = .next t ∧ (t.port p).link = .disabled ∧ (t.port p).disabled = true ∧
          (t.port p).disabling = false ∧ (t.port p).queue = [])) ∧
    (P.disabled = true →
      ∃ t, exec (.portEnable p) s = .next t ∧ t.port p = trains { P with disabled := false, disabling := false, attempts := 0 } ∧
        (∀ k, k ≠ p → (t.port k).link = (s.port k).link) ∧ (P.link ≠ .active → ∀ k, k ≠ p → t.port k = s.port k)) ∧
    (∀ chip up, isChip chip = true → up < 2 ^ 14 →
      (chip / 32 = s.fab.chipNum / 32 →
        ∃ t, exec (.linkStateAnnounce chip up) s = .next t ∧ t.fab.linkUp = Store.set 0 s.fab.linkUp (chip % 32) up ∧ t.mem = s.mem ∧
          t.qs = s.qs ∧ (s.sync.bars = [] → s.tier.farPools = [] → { t with fab.linkUp := s.fab.linkUp } = s)) ∧
      (chip / 32 ≠ s.fab.chipNum / 32 → exec (.linkStateAnnounce chip up) s = .next s))

/-- Fabric time. A member asks its time parent every 64 µs, and a valid reply loads FT or, once it is valid, asks for the slew of R451; an
edge of the reference loads FT at member 0 from the value that a manager has written, or slews it unless it lies more than 100 µs off (R450); without an update in time HOLDOVER begins, and its
error bound grows by 50 ns a millisecond (R44, R45). -/
def Obligations.FabricTime : Prop :=
  ∀ s : State, s.regsLive = true →
    let me := s.fab.chipNum % 32
    let now := s.ft.toNat
    (s.timeParent = none → exec .timeExchange s = .next s) ∧
    (∀ p, s.timeParent = some p →
      (s.fab.lastAsk + 64000 ≤ now ∨ s.fab.lastAsk = 0 →
        exec .timeExchange s = .next { s with fab.timeAsked := some now, fab.lastAsk := now }) ∧
      (now < s.fab.lastAsk + 64000 → s.fab.lastAsk ≠ 0 → exec .timeExchange s = .next s)) ∧
    (∀ p valid holdover err t1 t2 t3, isPort p = true → (s.port p).link = .active → err < 65536 →
      exec (.timeFlit p false valid holdover err t1 t2 t3) s =
        .next { s with fab.timeSent := (p, now) :: s.fab.timeSent.filter fun e => e.1 ≠ p } ∧
      (s.timeParent = some p → s.fab.timeAsked = some (BitVec.toNat t1) → valid = true →
        let offset : Int := ((t2.toNat : Int) - t1.toNat + ((t3.toNat : Int) - now)) / 2
        ∃ t, exec (.timeFlit p true valid holdover err t1 t2 t3) s = .next t ∧ t.reg 0xE008 = BitVec.ofInt 64 offset ∧
          t.flag 0x108 1 = holdover ∧ bits (t.reg 0x108).toNat 31 16 = (if holdover then min (err + 20) 0xFFFF else 0) ∧
          t.fab.timeAsked = none ∧
          (s.ftValid = true → t.fab.slewNs = offset ∧ t.ft = s.ft) ∧
          (s.ftValid = false → t.ft = BitVec.ofInt 64 (now + offset) ∧ t.ftValid = true))) ∧
    (me ≠ 0 → exec .ppsEdge s = .next s) ∧
    (me = 0 → s.ftValid = false →
      let loaded := Store.get [] s.mgmt.values (dictKey 0x3002 1)
      (loaded = [] → exec .ppsEdge s = .next s) ∧
      (loaded ≠ [] →
        ∃ t, exec .ppsEdge s = .next t ∧ t.ft = BitVec.ofNat 64 (leNat loaded) ∧ t.ftValid = true ∧ t.flag 0x108 2 = true ∧
          t.flag 0x108 1 = false ∧ t.reg 0xE018 = s.reg 0xE018 + 1 ∧ t.fab.expectedEdge = some (leNat loaded % 2 ^ 64))) ∧
    (me = 0 → s.ftValid = true → ∀ prev, s.fab.expectedEdge = some prev →
      let k := max 1 ((now - prev + 500000000) / 1000000000)
      let e : Int := (now : Int) - ((prev + k * 1000000000 : Nat) : Int)
      (100000 < e.natAbs → ∃ t, exec .ppsEdge s = .next t ∧ s.onlyRegs t ∧ t.reg 0xE020 = s.reg 0xE020 + 1 ∧ t.flag 0xE004 1 = true) ∧
      (e.natAbs ≤ 100000 →
        ∃ t, exec .ppsEdge s = .next t ∧ t.fab.slewNs = -e ∧ t.ft = s.ft ∧ t.reg 0xE018 = s.reg 0xE018 + 1 ∧
          t.fab.expectedEdge = some (prev + k * 1000000000) ∧ t.flag 0x108 1 = false)) ∧
    (let due := if me = 0 then s.fab.lastEdge + 1100000000 else s.fab.lastUpdate + 1000000
     (s.flag 0x108 1 = false → now < due → exec .holdoverEntry s = .next s) ∧
     (s.flag 0x108 1 = false → due ≤ now →
      ∃ t, exec .holdoverEntry s = .next t ∧ t.flag 0x108 1 = true ∧ t.fab.errAt = now ∧ t.ft = s.ft) ∧
     (s.flag 0x108 1 = true →
      ∃ t, exec .holdoverEntry s = .next t ∧ t.flag 0x108 1 = true ∧ t.ft = s.ft ∧
        bits (t.reg 0x108).toNat 31 16 = min (bits (s.reg 0x108).toNat 31 16 + 50 * ((now - s.fab.errAt) / 1000000)) 0xFFFF))

/-! ### Packets and the host bridge -/

/-- Packets for this chip: a write puts its bytes where its address says, a read is answered with the bytes there, an add is an add
request of the memory stacks, an atomic operation works at its home and its answer carries the old value, a signal signals, and a
check is answered with its status; what may not be reached from outside is answered with PAGE_FAULT and changes no memory (R439, R256,
R242, R332, R335). The bodies of ATOMIC and CHECK packets are the model's choice (log entry 38). Answers of other chips. One to a
request that is outstanding ends it: a far signal that failed is recorded, a byte of a descriptor's is acknowledged, a host read is
given its data; one that names no outstanding request changes nothing (R332, R368, R439, R455). A SIGNAL packet adds `add` to the
semaphore at its address. A request whose header is not of version 1 is answered so and has no effect (R12). -/
def Obligations.PacketsAndAnswers : Prop :=
  (∀ (s : State) (p : Packet) (a : Nat), s.regsLive = true → s.fab.lost = [] → s.fab.plans = [] → p.dst = s.fab.chipNum → s.memSound →
     s.region p.addr = .near a → p.version = 1 → bits p.aux 14 (if p.ptype = .add then 10 else 0) = 0 → p.data ≠ [] ∨ p.lenM1 = 0 ∨ p.ptype = .read →
     let n := p.data.length
     let f := fun (o k : Nat) => leNat ((p.data.drop o).take k)
     (packetOk .write p = true →
       (s.outerOk true p.addr n = true →
         ∃ t, exec (.writePacket p) s = .next t ∧ t.near a n = p.data ∧ s.nearOutside t a n ∧ s.answered t p .cmpl .ok [] ∧
           { t with regs := s.regs, mem := s.mem, fab := s.fab, log := s.log, eventSeq := s.eventSeq } = s) ∧
       (s.outerOk true p.addr n = false → ∃ t, exec (.writePacket p) s = .next t ∧ s.answered t p .cmpl .pageFault [] ∧ t.mem = s.mem)) ∧
     (packetOk .read p = true → s.outerOk false p.addr (p.lenM1 + 1) = true →
       ∃ t, exec (.read p) s = .next t ∧ s.answered t p .readData .ok (s.near a (p.lenM1 + 1)) ∧ t.mem = s.mem) ∧
     (packetOk .add p = true → s.touchesOffline a 64 = false → touchesFw a 64 = false → addReqOk (s.addOf p a) = true →
       ∃ t u, exec (.addPacket p) s = .next t ∧ exec (.addRequest (s.addOf p a)) s = .next u ∧ t.mem = u.mem ∧ t.sync = u.sync) ∧
     (packetOk .atomic p = true → f 0 4 < 0x11 → f 4 4 < 144 →
       let r := s.amoAt (f 4 4) a (f 0 4) (amoSize (f 0 4) false) (f 8 8) (f 16 8)
       r.2.1 = .ok →
       ∃ t, exec (.atomicPacket p) s = .next t ∧ t.mem = r.1.mem ∧ s.answered t p .cmpl .ok (leBytes 8 r.2.2)) ∧
     (packetOk .check p = true → n = 16 → s.touchesOffline p.addr (f 0 8) = false →
       ∃ t, exec (.check p) s = .next t ∧ s.answered t p .cmpl (holderCheck p.addr (f 0 8)) [] ∧
         { t with regs := s.regs, fab := s.fab, log := s.log, eventSeq := s.eventSeq } = s)) ∧
  (∀ (s : State) (p : Packet), s.regsLive = true → s.fab.lost = [] → p.dst = s.fab.chipNum →
     (p.version ≠ 1 → ∀ c, c = Instr.writePacket p ∧ packetOk .write p = true ∨ c = .addPacket p ∧ packetOk .add p = true ∨
         c = .atomicPacket p ∧ packetOk .atomic p = true ∨ c = .signalPacket p ∧ packetOk .signal p = true ∨
         c = .check p ∧ packetOk .check p = true →
       s.fab.plans = [] → ∃ t, exec c s = .next t ∧ s.answered t p .cmpl .versionUnsupported [] ∧ t.mem = s.mem ∧ t.sync = s.sync) ∧
     (p.version = 1 → p.data ≠ [] ∨ p.lenM1 = 0 →
     (packetOk .cmpl p = true → s.fab.outReqs = [] → exec (.cmpl p) s = .next s) ∧
     (packetOk .readData p = true → s.fab.outReqs = [] → exec (.readData p) s = .next s) ∧
     (∀ o sem, packetOk .cmpl p = true → s.fab.outReqs = [o] → o.tag = p.tag → o.dst = p.src → o.why = .farSignal sem →
       (p.aux % 2 ^ 15 = 0 → exec (.cmpl p) s = .next { s with fab.outReqs := [] }) ∧
       (p.aux % 2 ^ 15 = 0x0201 →
         ∃ t, exec (.cmpl p) s = .next t ∧ t.fab.outReqs = [] ∧ t.sync = s.sync ∧ t.flag 0x3004 5 = true ∧
           t.reg (Status.counterOff .pageFault) = s.reg (Status.counterOff .pageFault) + 1)) ∧
     (∀ o id d, packetOk .cmpl p = true → s.fab.outReqs = [o] → o.tag = p.tag → o.dst = p.src → o.why = .descWrite id →
       s.desc id = some d → d.id = id → p.aux % 2 ^ 15 = 0 →
       ∃ t, exec (.cmpl p) s = .next t ∧ t.fab.outReqs = [] ∧ t.desc id = some { d with outstanding := d.outstanding - 1 }) ∧
     (∀ o off, packetOk .readData p = true → s.fab.outReqs = [o] → o.tag = p.tag → o.dst = p.src → o.why = .hostRead off →
       p.aux % 2 ^ 15 = 0 →
       ∃ t, exec (.readData p) s = .next t ∧ t.fab.outReqs = [] ∧ t.fab.hostOut = (off, .data p.data) :: s.fab.hostOut ∧
         t.reg 0xE048 = s.reg 0xE048 + BitVec.ofNat 64 p.data.length) ∧
     (∀ i, packetOk .signal p = true → bits p.aux 14 0 = 0 → isSem i = true → p.addr = semAddr i → (s.sem i).state = .live → (s.sem i).waiters = [] →
       (s.sem i).count.toNat + (s.sem i).add < 2 ^ 32 →
       ∃ t, exec (.signalPacket p) s = .next t ∧ s.answered t p .cmpl .ok [] ∧
         t.sem i = { s.sem i with
           count := (s.sem i).count + BitVec.ofNat 32 (s.sem i).add
           riseFt := if (s.sem i).count = 0 then s.ft.toNat else (s.sem i).riseFt } ∧
         (∀ j, j ≠ i → t.sem j = s.sem j) ∧ t.mem = s.mem)))

/-- The bridge. A host request goes through its aperture: an invalid one is unsupported, one to this chip writes or reads there; a request
to configuration space is retried until CONFIG, then answered; PERST_N takes the link down on the bridge and is ignored elsewhere, its
release brings it up at a width and rate that nothing constrains; FLR clears apertures, outbound table and MSI-X (R454, R455, R458,
R616). -/
def Obligations.HostBridge : Prop :=
  ∀ s : State, s.fab.lost = [] →
    let up := s.fab.chipNum % 32 = 0 ∧ s.fab.pcieUp = true ∧ s.fab.perst = false
    (∀ w off len bytes, hostReqOk w off len bytes = true → up → s.regsLive = true →
      let h := s.dictNat 0x3111 (off / 2 ^ 30 + 1)
      let at_ := bits h 47 30 * 2 ^ 30 + off % 2 ^ 30
      (bitAt h 63 = false →
        exec (.hostApertureRequest w off len bytes) s = .next { s with fab.hostOut := (off, .unsupported) :: s.fab.hostOut }) ∧
      (bitAt h 63 = true → bits h 61 48 = s.fab.chipNum → s.memSound → ∀ a, s.region at_ = .near a →
        (w = true → s.outerOk true at_ len = true →
          ∃ t, exec (.hostApertureRequest w off len bytes) s = .next t ∧ t.near a len = bytes ∧ s.nearOutside t a len ∧
            t.reg 0xE050 = s.reg 0xE050 + BitVec.ofNat 64 len ∧ t.fab = s.fab) ∧
        (w = true → s.outerOk true at_ len = false →
          ∃ t, exec (.hostApertureRequest w off len bytes) s = .next t ∧ t.mem = s.mem ∧ t.reg 0xE030 = s.reg 0xE030 + 1) ∧
        (w = false → s.outerOk false at_ len = true →
          ∃ t, exec (.hostApertureRequest w off len bytes) s = .next t ∧ t.fab.hostOut = (off, .data (s.near a len)) :: s.fab.hostOut ∧
            t.mem = s.mem ∧ t.reg 0xE048 = s.reg 0xE048 + BitVec.ofNat 64 len))) ∧
    (∀ w off v, off < 4096 → off % 4 = 0 → up →
      (s.regsLive = false → exec (.pcieConfigRequest w off v) s = .next { s with fab.hostOut := (off, .retry) :: s.fab.hostOut }) ∧
      (s.regsLive = true → w = true →
        ∃ t, exec (.pcieConfigRequest w off v) s = .next t ∧ t.fab.hostOut = (off, .done) :: s.fab.hostOut ∧ t.mem = s.mem ∧
          (off = 4 → t.fab.busMaster = v.getLsbD 2)) ∧
      (s.regsLive = true → w = false → off = 0 →
        exec (.pcieConfigRequest w off v) s =
          .next { s with fab.hostOut := (0, .data (leBytes 4 (s.dictNat 0x1000 3 % 2 ^ 32))) :: s.fab.hostOut })) ∧
    (¬ up → (∀ w off len bytes, hostReqOk w off len bytes = true → exec (.hostApertureRequest w off len bytes) s = .next s) ∧
      (∀ w off v, off < 4096 → off % 4 = 0 → exec (.pcieConfigRequest w off v) s = .next s) ∧ exec .flr s = .next s) ∧
    (s.fab.chipNum % 32 ≠ 0 → exec .perstN s = .next { s with fab.perst := true } ∧ exec .perstNRelease s = .next { s with fab.perst := false }) ∧
    (s.fab.chipNum % 32 = 0 →
      (∃ t, exec .perstN s = .next t ∧ t.fab.perst = true ∧ t.fab.pcieUp = false ∧ t.fab.busMaster = false ∧ t.fab.msix = [] ∧
        t.mem = s.mem ∧ ∀ n, isFarPool n = true → bits (s.farPool n).toNat 255 252 = 1 → fpHost (s.farPool n) = true →
          fpChip (s.farPool n) = s.fab.chipNum → fpReach (t.farPool n) = false) ∧
      (s.fab.perst = true → ∃ t, exec .perstNRelease s = .next t ∧ t.fab.perst = false ∧ t.fab.pcieUp = true ∧ t.fab.pcieWidth < 5 ∧
        1 ≤ t.fab.pcieRate ∧ t.fab.pcieRate ≤ 6)) ∧
    (up → ∃ t, exec .flr s = .next t ∧ t.fab.msix = [] ∧ t.fab.busMaster = false ∧ t.dev = s.dev ∧ t.mem = s.mem ∧
      (∀ i, i < 64 → t.dictNat 0x3110 (i + 1) = 0 ∧ t.dictNat 0x3111 (i + 1) = 0))

/-! ### Snapshots and wear -/

/-- Up to two erased pieces of a shard cost nothing: from the other pieces the data pieces are recovered as they were, and joined they are
the shard again (R465, R467, R473). -/
def Obligations.ErasedPiecesAreRecovered : Prop :=
  ∀ (k m rows : Nat) (shard : List Byte) (lost : Nat → Bool), 2 ≤ k → k ≤ 14 → m = 1 ∨ m = 2 → shard.length = rows * (k * 65536) →
    ((List.range (k + m)).filter lost).length ≤ m →
    let ps := shardPieces k m shard
    let found := decodePieces k (rows * 65536) fun i => if lost i then none else ps[i]?
    found = ps.take k ∧ joinPieces rows found = shard

/-- Commands of a shard code engine. One while it is busy is refused; a SNAP that passes its checks waits for its instant and then starts
by invalidating its slot on every holder with a new header; one that fails them ends with its status in its result field. A CHECK
names every position that is not good; a RESTORE whose data pieces are good writes its region, and one with too few good pieces ends
with UNCORRECTABLE and writes none (R466, R468, R469, R473, R474, R489). -/
def Obligations.SnapshotCommands : Prop :=
  ∀ (s : State) (e : Nat) (v : W64), isEngine e = true →
    let last := fun (t : State) => t.reg (scOff e 0x10)
    (s.scBusy e = true → v.toNat = bits v.toNat 39 6 * 64 →
      ∃ t, exec (.snap e v) s = .next t ∧ last t = 0x0101 ∧ s.onlyRegs t) ∧
    ((s.scEng e).stage ≠ .waiting ∨ s.ft.toNat < scStart (s.scEng e).cmd → exec (.snapStart e) s = .next s) ∧
    ((s.scEng e).stage = .waiting → scStart (s.scEng e).cmd ≤ s.ft.toNat → s.memSound → s.wear.offline = [] →
      ∀ p, s.snapPos s.fab.chipNum = some p → s.snapGroup.Nodup →
      let x := (s.scEng e).cmd
      let a := s.slotAddr (scGen x) p
      (∃ c, c ∈ s.snapGroup ∧ c ≠ s.fab.chipNum) →
      (∀ c, c ∈ s.snapGroup → c ≠ s.fab.chipNum →
        (s.nextHop { mkPacket .write c 0 [] with src := s.fab.chipNum }).isSome = true) →
      a + 4096 ≤ 0xBF00000000 →
      ∃ t, exec (.snapStart e) s = .next t ∧ (t.scEng e).stage = .header ∧ 0 < (t.scEng e).owed ∧
        t.near a 4096 = pieceHeader p s.shardK s.shardM x s.fab.chipNum (s.shardBytes (s.scRegionList x)) (scHash (s.scRegionList x)) 0 0 ∧
        s.nearOutside t a 4096) ∧
    (s.scBusy e = false → s.dev = .running → s.memSound → s.wear.offline = [] →
      let a := v.toNat
      let x : BitVec 512 := BitVec.ofNat 512 (leNat (s.near a 64))
      let l := s.scRegionList x
      let n := s.shardBytes l / s.shardK
      v.toNat = bits v.toNat 39 6 * 64 → a + 64 ≤ 0xBF00000000 →
      let good := fun (remote : List (Nat × List Byte)) q => ∃ b, (s.slotBytes x n remote q).2 = some b ∧
        pieceMatches s.shardK s.shardM x (scHash l) b = true ∧ ((b.drop 4096).take n).length = n ∧
        crc32 ((b.drop 4096).take n) = leNat ((b.drop 0x28).take 4)
      let ends := fun (t : State) code => (t.scEng e).stage = .idle ∧ last t = BitVec.ofNat 64 code ∧ t.near a 1 = [1] ∧
        leNat (t.near (a + 14) 2) = code
      (s.scCheck x = .ok → scOp x = 0 →
        exec (.snap e v) s = .next (s.setScEng e { stage := .waiting, cmdAddr := a, cmd := x })) ∧
      (∀ remote c, (c = .snap e v ∧ scOp x ≠ 1 ∧ scOp x ≠ 2) ∨ (c = .scRestore e v remote ∧ scOp x = 1) ∨
          (c = .scCheck e v remote ∧ scOp x = 2) → s.scCheck x ≠ .ok →
        ∃ t, exec c s = .next t ∧ ends t (s.scCheck x).code ∧ s.nearOutside t a 16) ∧
      (∀ remote, s.scCheck x = .ok → scOp x = 2 → s.shardK + s.shardM ≤ 16 →
        ∃ t, exec (.scCheck e v remote) s = .next t ∧ ends t 0 ∧ s.nearOutside t a 16 ∧
          ∀ q, q < s.shardK + s.shardM → (bitAt (leNat (t.near (a + 12) 2)) q = false ↔ good remote q)) ∧
      (∀ remote, s.scCheck x = .ok → scOp x = 1 → 0 < s.shardK →
        (((List.range (s.shardK + s.shardM)).all fun q => (s.slotBytes x n remote q).2.isNone) = true →
          ∃ t, exec (.scRestore e v remote) s = .next t ∧ ends t 0x0204 ∧ s.nearOutside t a 16) ∧
        (∀ b len, l = [(b, len)] → (∀ q, q < s.shardK → good remote q) → overlaps a 64 b len = false →
          ∃ t, exec (.scRestore e v remote) s = .next t ∧ ends t 0 ∧
            t.near b len = (joinPieces (n / 65536) ((List.range s.shardK).map fun q =>
              (((s.slotBytes x n remote q).2.getD []).drop 4096).take n)).take len)))

/-- Records of wear. The retirement record is loaded once in BOOT, a bad one counts as lost; a lifetime save is taken at the end of an
hour or, once in an hour, at a write of `LIFE_SAVE_NOW` by ADMIN; a histogram's bin and its count of samples rise; a bank copy ends
(R477, R481, R486 to R488, R640). -/
def Obligations.WearRecords : Prop :=
  ∀ (s : State) (role : Nat), isRole role = true →
    (∀ b, s.dictServed = true →
      (role < 2 → ∃ t, exec (.retireLoad role b) s = .next t ∧ s.onlyRegs t ∧
        t.reg (Status.counterOff .accessDenied) = s.reg (Status.counterOff .accessDenied) + 1) ∧
      (2 ≤ role → s.dev ≠ .boot ∨ s.boot.rrLoaded = true → ∃ t, exec (.retireLoad role b) s = .next t ∧ s.onlyRegs t ∧
        t.reg (Status.counterOff .stateConflict) = s.reg (Status.counterOff .stateConflict) + 1) ∧
      (2 ≤ role → s.dev = .boot → s.boot.rrLoaded = false →
        ∃ t, exec (.retireLoad role b) s = .next t ∧ t.boot.rrLoaded = true ∧
          t.boot.stage = (if s.boot.stage = 11 then 12 else s.boot.stage) ∧
          (s.recordGood b = true → t.wear.record = recordEntries b ∧ t.wear.recordLost = s.wear.recordLost ∧
            t.wear.retireSeq = BitVec.ofNat 64 (leNat ((b.drop 0x10).take 8))) ∧
          (s.recordGood b = false → t.wear.record = [] ∧ t.wear.recordLost = true))) ∧
    (s.dictServed = true → 2 ≤ role → s.dev = .boot ∨ s.dev = .faulted → ∃ t, exec (.lifeSaveNow role) s = .next t ∧ s.onlyRegs t ∧
      t.reg (Status.counterOff .stateConflict) = s.reg (Status.counterOff .stateConflict) + 1) ∧
    (s.dev = .running →
      (role < 2 → ∃ t, exec (.lifeSaveNow role) s = .next t ∧ s.onlyRegs t ∧
        t.reg (Status.counterOff .accessDenied) = s.reg (Status.counterOff .accessDenied) + 1) ∧
      (2 ≤ role → s.wear.hourSaved = false →
        exec (.lifeSaveNow role) s = .next { s with wear.hourSaved := true, boot.jobs := s.boot.jobs ++ [.lifetime] }) ∧
      (2 ≤ role → s.wear.hourSaved = true → ∃ t, exec (.lifeSaveNow role) s = .next t ∧ s.onlyRegs t ∧
        t.reg (Status.counterOff .stateConflict) = s.reg (Status.counterOff .stateConflict) + 1) ∧
      (s.cycle.toNat < s.wear.hourStart + 3600 * 1800000000 → exec .lifetimeSave s = .next s) ∧
      (s.wear.hourStart + 3600 * 1800000000 ≤ s.cycle.toNat →
        ∃ t, exec .lifetimeSave s = .next t ∧ t.wear.hourStart = s.wear.hourStart + 3600 * 1800000000 ∧ t.wear.hourSaved = false ∧
          t.boot.jobs = (if s.wear.hourSaved then s.boot.jobs else s.boot.jobs ++ [.lifetime]) ∧ t.mem = s.mem) ∧
      (∀ entry bin, 1 ≤ entry → entry ≤ 0x20 → bin < 32 →
        ∃ t, exec (.histogramSample entry bin) s = .next t ∧
          (Store.get 0 t.wear.hist (entry * 64 + bin)).toNat = min ((Store.get 0 s.wear.hist (entry * 64 + bin)).toNat + 1) (2 ^ 32 - 1) ∧
          Store.get 0 t.wear.hist (entry * 64 + 32) = Store.get 0 s.wear.hist (entry * 64 + 32) + 1 ∧
          { t with wear.hist := s.wear.hist } = s)) ∧
    (∀ ch die bank, isChannel ch = true →
      exec (.dramBankCopyEnd ch die bank) s =
        .next { s with wear.bankCopies := s.wear.bankCopies.filter fun b => b ≠ (ch, die, bank) })

/-! ### Power and heat -/

/-- A new window takes its budget from the limit, the reserve and what the last window used; a core that did not demand gets 4,096 nJ, all
grants together keep within the budget, no clock lies above its cap (R524, R527 to R529). A core takes its new clock between items
once VDD_CORE stands at its voltage (R530); the telemetry of a millisecond sets the uncore ratio and `PWR_PHASE_PCT` and ends the cap
of an undervoltage warning (R525, R537). -/
def Obligations.PowerWindows : Prop :=
  ∀ s : State, s.powered = true →
    (∀ measured uncore,
      (s.ft.toNat / 10000 = s.pwr.lastWindow → exec (.windowBoundary measured uncore) s = .next s) ∧
      (s.ft.toNat / 10000 ≠ s.pwr.lastWindow → s.pwr.thermInPending = none →
        let u := uncore * s.pwr.uMeasured / s.pwr.uCounted
        let r := min (s.pwr.reserve + s.susNj - measured) (s.dictNat 0x5010 3 * 1000000)
        let b := min s.maxNj (s.susNj + r) - u
        let present := (List.range 144).filter s.corePresent
        let idle := present.filter fun c => !s.demanding c
        ∃ t, exec (.windowBoundary measured uncore) s = .next t ∧ t.pwr.reserve = r ∧ t.pwr.lastWindow = s.ft.toNat / 10000 ∧
          t.reg 0x4038 = BitVec.ofNat 64 b ∧ t.pwr.charged = [] ∧ t.mem = s.mem ∧ t.qs = s.qs ∧
          (∀ c, c ∈ idle → t.reg (coreOff c 0x9008) = 4096 ∧ t.balance c = min (s.balance c + 4096) 16384) ∧
          (present.map t.grant).sum ≤ max b (4096 * idle.length) ∧
          (∀ c, c ∈ present → Store.get 0 t.pwr.nextClk c ≤ s.capOf (s.dieOf c)))) ∧
    (∀ core, isCore core = true →
      let n := Store.get 0 s.pwr.nextClk core
      let C := s.core core
      (n = Store.get 0 s.pwr.clk core ∨ C.walk.isSome = true ∨ C.vec.isSome = true ∨ s.pwr.vcoreMv10 < 7000 + 125 * n →
        exec (.clockSwitch core) s = .next s) ∧
      (n ≠ Store.get 0 s.pwr.clk core → C.walk = none → C.vec = none → 7000 + 125 * n ≤ s.pwr.vcoreMv10 →
        ∃ t, exec (.clockSwitch core) s = .next t ∧ Store.get 0 t.pwr.clk core = n ∧
          (∀ k, k ≠ core → Store.get 0 t.pwr.clk k = Store.get 0 s.pwr.clk k) ∧
          t.reg (coreOff core 0x9028) = s.reg (coreOff core 0x9028) + 1 ∧ { t with regs := s.regs, pwr := s.pwr } = s)) ∧
    (∀ um uc pct mv,
      ∃ t, exec (.pmbusTelemetry um uc pct mv) s = .next t ∧
        (uc ≠ 0 → t.pwr.uMeasured = um ∧ t.pwr.uCounted = uc) ∧ (uc = 0 → t.pwr.uCounted = s.pwr.uCounted) ∧
        (∀ i p, i < 6 → pct[i]? = some p → t.dictNat 0x5040 (i + 1) = max 50 (min 150 p)) ∧
        t.pwr.uvCap = (s.pwr.uvCap && !decide (10 * mv ≤ s.pwr.vcoreMv10 + 100 ∧ s.pwr.vcoreMv10 ≤ 10 * mv + 100)) ∧
        { t with pwr := s.pwr, mgmt.values := s.mgmt.values, wear.life := s.wear.life } = s)

/-- Heat. Each millisecond a compute die at the throttle point loses a step and, in Gauze, a further part of its grants, one more than 3 °C
below gains one back, and the others keep theirs; an edge die's media engine runs at half rate while the die is hot (R534, R535); a die
at the trip point trips the device (R536). A stack reports its temperature, and at 105 °C it trips (R261). THERM_N, and the warnings of the regulators, cap power and clocks (R537,
R626). -/
def Obligations.HeatAndWarnings : Prop :=
  ∀ s : State,
    (∀ temps : List Int, temps.length = 6 →
      (s.powered = false → exec (.thermalAdjust temps) s = .next { s with pwr.temps := temps }) ∧
      (s.powered = true → ∀ (d : Nat) (T : Int), temps[d]? = some T → (16 * s.dictNat 0x5020 2 : Nat) ≤ T →
        ∃ t, exec (.thermalAdjust temps) s = .next t ∧ t.dev = .faulted ∧ t.pwr.tripped = true ∧ t.reg 0x4068 = s.reg 0x4068 + 1) ∧
      (s.powered = true → (∀ T, T ∈ temps → T < (16 * s.dictNat 0x5020 2 : Nat)) →
        let hot : Int := (16 * s.dictNat 0x5020 1 : Nat)
        ∃ t, exec (.thermalAdjust temps) s = .next t ∧ t.mem = s.mem ∧
          (∀ d T, temps[d]? = some T → t.reg (0x4010 + 4 * d) = BitVec.ofNat 64 (unsigned 16 T)) ∧
          (∀ d T, d < 4 → temps[d]? = some T →
            let cap := min (Store.get 0 s.pwr.capStep d) s.maxStep
            let cuts := Store.get 0 s.pwr.cuts d
            let gauze := s.pwr.thermIn = true ∨ d ∈ s.pwr.gauzeHeat ∨ 0 < cuts
            (hot ≤ T →
              Store.get 0 t.pwr.capStep d = cap - 1 ∧ (d ∈ t.pwr.gauzeHeat ↔ d ∈ s.pwr.gauzeHeat ∨ cap ≤ 1) ∧
              (gauze → Store.get 0 t.pwr.cuts d = min 7 (cuts + 1)) ∧ (¬ gauze → Store.get 0 t.pwr.cuts d = cuts)) ∧
            (T < hot - 48 → 0 < cuts → Store.get 0 t.pwr.cuts d = cuts - 1 ∧ Store.get 0 t.pwr.capStep d = Store.get 0 s.pwr.capStep d) ∧
            (T < hot - 48 → cuts = 0 → Store.get 0 t.pwr.capStep d = min (cap + 1) s.maxStep ∧ d ∉ t.pwr.gauzeHeat) ∧
            (T < hot → hot - 48 ≤ T →
              Store.get 0 t.pwr.cuts d = cuts ∧ Store.get 0 t.pwr.capStep d = Store.get 0 s.pwr.capStep d ∧
              (d ∈ t.pwr.gauzeHeat ↔ d ∈ s.pwr.gauzeHeat))) ∧
          (∀ d T, 4 ≤ d → temps[d]? = some T →
            (hot ≤ T → d ∈ t.pwr.halfRate) ∧ (T < hot - 48 → d ∉ t.pwr.halfRate) ∧
            (T < hot → hot - 48 ≤ T → (d ∈ t.pwr.halfRate ↔ d ∈ s.pwr.halfRate))))) ∧
    (∀ k (T : Int), isStack k = true → s.dev = .running →
      ∃ t, exec (.stackTempSample k T) s = .next t ∧
        (T < 1680 → t.reg (msOff k 4) = BitVec.ofNat 64 (unsigned 16 T) ∧ t.dev = .running ∧ t.flag (msOff k 0) 5 = decide (1360 < T) ∧
          t.flag (msOff k 0) 6 = (if 1440 < T then true else if T < 1392 then false else s.flag (msOff k 0) 6)) ∧
        (1680 ≤ T → t.flag (msOff k 0) 7 = true ∧ t.dev = .faulted)) ∧
    (s.powered = true → s.pwr.thermIn = false ∨ s.pwr.thermInPending ≠ none → s.drivesTherm = false →
      ∃ t, exec .thermNAssert s = .next t ∧ t.pwr.thermIn = true ∧ t.pwr.thermInPending = none ∧ t.pins.thermN = false ∧ t.reg 0x4078 = s.reg 0x4078 + 1 ∧
        t.flag 0x4000 3 = true ∧ t.susNj ≤ s.susNj ∧ (t.susNj < s.susNj → t.pwr.reserve = 0) ∧ t.dev = s.dev) ∧
    ((s.pwr.thermIn = true ∧ s.pwr.thermInPending = none) ∨ s.drivesTherm = true ∨ s.powered = false →
      exec .thermNAssert s = .next { s with pins.thermN := false }) ∧
    exec .thermNRelease s = .next { s with
      pins.thermN := true, pwr.thermInPending := if s.pwr.thermIn then some false else s.pwr.thermInPending } ∧
    (s.drivesTherm = false → exec .thermNStuck s = .next { s with pins.thermN := true }) ∧
    (s.drivesTherm = true → ∃ t, exec .thermNStuck s = .next t ∧ t.reg 0x408 = s.reg 0x408 + 1 ∧ t.flag 0x400 0 = true ∧ t.pwr = s.pwr) ∧
    (s.powered = true →
      (∃ t, exec .overcurrentWarning s = .next t ∧ t.pwr.ocUntil = some (s.ft.toNat + 1000000) ∧ t.reg 0x4070 = s.reg 0x4070 + 1 ∧
        t.flag 0x4000 4 = true ∧ ∀ d, t.capOf d = 0) ∧
      (∃ t, exec .undervoltageWarning s = .next t ∧ t.pwr.uvCap = true ∧ t.reg 0x4070 = s.reg 0x4070 + 1 ∧ ∀ d, t.capOf d = 0)) ∧
    (∀ w, s.pwr.ocUntil = some w →
      (s.ft.toNat < w → exec .overcurrentCapEnd s = .next s) ∧
      (w ≤ s.ft.toNat → exec .overcurrentCapEnd s = .next { s with pwr.ocUntil := none }))

/-- What stops engines. A trip and a regulator fault stop every engine, take VDD_CORE to 0.70 V and leave the device FAULTED, once; a
second stack that trips has its own `TRIPPED` set (R261, R536, R537). A core that fails is fenced: its queues stop with OWNER_LOST, its accumulators, finished tiles and buffers are gone, its
semaphores are poisoned, and its grant is zero; the engines' memories of other cores stay (R51, R125, R175, R362, R372, R544). -/
def Obligations.StoppedEngines : Prop :=
  ∀ s : State,
    let stopped := fun (t : State) => t.dev = .faulted ∧ t.pwr.vcoreMv10 = 7000 ∧ t.pwr.stopped = true ∧ t.qs.descs = [] ∧ t.mgmt.txns = [] ∧
      (∀ c, isCore c = true → (t.core c).walk = none ∧ (t.core c).vec = none ∧ (t.core c).chain = none) ∧ ∀ q, (t.queue q).held = none
    (s.canTrip = true →
      (∀ die, die < 6 → ∃ t, exec (.thermalTrip false die) s = .next t ∧ stopped t ∧ t.pwr.tripped = true ∧
        t.reg 0x4068 = s.reg 0x4068 + 1 ∧ t.flag 0x4000 2 = true) ∧
      (∀ k, isStack k = true → ∃ t, exec (.thermalTrip true k) s = .next t ∧ stopped t ∧ t.pwr.tripped = true ∧
        t.flag (msOff k 0) 7 = true) ∧
      (∃ t, exec .regulatorFault s = .next t ∧ stopped t ∧ t.pwr.regFault = true ∧ t.reg 0x4070 = s.reg 0x4070 + 1)) ∧
    (s.canTrip = false → (∀ die, die < 6 → exec (.thermalTrip false die) s = .next s) ∧ exec .regulatorFault s = .next s) ∧
    (∀ k, isStack k = true →
      (s.dev = .off ∨ s.dev = .reset → exec (.thermalTrip true k) s = .next s) ∧
      (s.dev = .faulted → ∃ t, exec (.thermalTrip true k) s = .next t ∧ t.flag (msOff k 0) 7 = true ∧
        { t with regs := s.regs, wear.life := s.wear.life } = s)) ∧
    (∀ core, isCore core = true →
      (s.engineRuns core = false → exec (.coreFence core) s = .next s) ∧
      (s.engineRuns core = true → (∀ d, d ∈ s.qs.descs → (s.queue d.queue).core = d.core) →
        ∃ t, exec (.coreFence core) s = .next t ∧ (t.core core).fenced = true ∧ (t.core core).sw = none ∧ (t.core core).lr = none ∧
          ((∀ i, (s.sem i).ownCore = core → (s.sem i).waiters = []) →
            ∀ q, (s.queue q).core = core → (s.queue q).state ≠ .disabled → (t.queue q).state = .stopped ∧ (t.queue q).why = 8 ∧
            (t.queue q).faultStatus = Status.ownerLost.code ∧ (t.queue q).held = none) ∧
          (∀ k, k < 4 → t.acc core k = {} ∧ t.buf core k = {}) ∧ t.ftqOf core = [] ∧ t.reg (coreOff core 0x9008) = 0 ∧
          (∀ i, (s.sem i).ownCore = core → (s.sem i).state = .live → (t.sem i).state = .poisoned) ∧
          (∀ c k, k < 4 → c ≠ core → t.acc c k = s.acc c k) ∧
          ((∀ w h, (s.core core).vec = some w → (s.queue w.queue).held = some h → veKindD h.item = 2 →
              ∀ p, p < veTiles h.item → veDst h.item p < 4) →
            ∀ c k, k < 4 → c ≠ core → t.buf c k = s.buf c k)))

/-! ### Media engines -/

/-- Commands at the head of a media engine's ring. One that fails its checks ends with its status; OPEN makes the session, CLOSE ends it,
a DECODE stores a picture in the free buffer of the lowest index or waits for one, an ENCODE writes its parts into its extent, FLUSH
leaves a session awaiting a random access point; each leaves its result in its slot, and the head moves on (R498, R499, R502 to R504,
R511, R512, R516). What a unit's bytes decode to, and how a picture is coded, is free (log entry 60). -/
def Obligations.MediaCommands : Prop :=
  ∀ (s : State) (e : Nat), isEngine e = true →
    let head := s.mxHead e
    let slot := s.mxSlot e
    let c : BitVec 512 := BitVec.ofNat 512 (leNat (s.near slot 64))
    let n := mcSess c
    let S := s.session e n
    let x := S.desc
    let row := fun op => if op = 0 then Instr.openSession e else if op = 1 then .closeSession e else if op = 2 then .decode e
      else if op = 3 then .encode e else .flush e
    let ends := fun (t : State) code => (t.mx e).wait = .none ∧ t.reg (mxOff e 0x0C) = BitVec.ofNat 64 ((head + 1) % 256) ∧
      t.near slot 1 = [1] ∧ leNat (t.near (slot + 10) 2) = code
    let off := fun a k => overlaps a k slot 64 = false ∧ a + k ≤ 0xBF00000000
    ((s.mx e).wait ≠ .none ∨ head = (s.reg (mxOff e 8)).toNat % 256 ∨ s.dev = .config → ∀ op, op < 5 → exec (row op) s = .next s) ∧
    ((s.mx e).wait = .none → head ≠ (s.reg (mxOff e 8)).toNat % 256 → s.dev = .running → s.memSound → slot + 64 ≤ 0xBF00000000 →
      mcOp c < 5 → fld c 511 508 = 1 →
      (s.mcCheck e c ≠ .ok →
        ∃ t, exec (row (mcOp c)) s = .next t ∧ ends t (s.mcCheck e c).code ∧ t.session e n = S ∧ s.nearOutside t slot 24) ∧
      (s.mcCheck e c = .ok →
        (mcOp c = 2 ∨ mcOp c = 3 → ∃ t, exec (row (mcOp c)) s = .next t ∧
          ((t.mx e).wait ≠ .none ∨ t.reg (mxOff e 0x0C) = BitVec.ofNat 64 ((head + 1) % 256))) ∧
        (let y : BitVec 512 := BitVec.ofNat 512 (leNat (s.near (mcAddr c) 64))
         mcOp c = 0 → mcAddr c + 64 ≤ Config.nearBytes → msPatch y = false →
          (s.mxOpenCheck e n (mcAddr c) y 0 = .ok →
            ∃ t, exec (.openSession e) s = .next t ∧ ends t 0 ∧ t.session e n =
              { state := if msEncode y then 1 else 2, desc := y, patch := 0, marks := List.replicate (msFbs y) 0 }) ∧
          (s.mxOpenCheck e n (mcAddr c) y 0 ≠ .ok →
            ∃ t, exec (.openSession e) s = .next t ∧ ends t (s.mxOpenCheck e n (mcAddr c) y 0).code ∧ t.session e n = S)) ∧
        (mcOp c = 1 → ∃ t, exec (.closeSession e) s = .next t ∧ ends t 0 ∧ t.session e n = {} ∧ s.nearOutside t slot 24) ∧
        (let u := Config.mediaUnit x (S.units ++ [s.near (msBsBase x + mcOff c) (mcLen c)])
         mcOp c = 2 → (S.state = 2 → u.rap = true) → u.bounds = false →
          (u.corrupt = true → ∃ t, exec (.decode e) s = .next t ∧ ends t Status.streamCorrupt.code ∧ (t.session e n).state = 2 ∧
            t.reg (mxOff e 0x38) = s.reg (mxOff e 0x38) + 1) ∧
          (u.corrupt = false → mxLimit x u = true → ∃ t, exec (.decode e) s = .next t ∧ ends t Status.streamCorrupt.code ∧
            (t.session e n).state = 2 ∧ t.reg (mxOff e 0x38) = s.reg (mxOff e 0x38) + 1) ∧
          (u.corrupt = false → mxLimit x u = false → u.pics = [] → ∃ t, exec (.decode e) s = .next t ∧ ends t 0 ∧ (t.session e n).state = 1) ∧
          (∀ p, u.corrupt = false → mxLimit x u = false → u.pics = [p] → p.decodes = true → p.drops = [] → p.shows = [] →
            (S.freeBuf = none → ∃ t, exec (.decode e) s = .next t ∧ (t.mx e).wait = .frame ∧ (t.mx e).pics = [p] ∧
              t.reg (mxOff e 0x0C) = s.reg (mxOff e 0x0C)) ∧
            (∀ k, S.freeBuf = some k → (overBudget x p).conceal = 0 → (∀ i, i < msFbs x → off (fbAddr x i) (msFbBytes x)) → k < msFbs x →
              ∃ t, exec (.decode e) s = .next t ∧ ends t 0 ∧ (t.session e n).mark k = (if p.due || p.ref then 2 else 0) ∧
                (∀ j, j ≠ k → (t.session e n).mark j = S.mark j) ∧
                t.reg (mxOff e 0x20) = s.reg (mxOff e 0x20) + BitVec.ofNat 64 (p.pic.w * p.pic.h)))) ∧
        (let src := mcSource c
         let coded := codedPic s.boot.computeVersion x (sourcePic (msE x) c (s.near src.1 src.2))
         let parts := S.codedParts (S.keyNow (fbit c 480))
           (Config.mediaEncode x (S.units ++ [leBytes 1 (b2n (fbit c 480)) ++ picBytes (msE x) coded]))
         let total := (parts.map List.length).sum
         let at_ := msBsBase x + mcOff c
         mcOp c = 3 → src.1 + src.2 ≤ Config.nearBytes → msSub x = false → at_ + mcLen c ≤ 0xBF00000000 →
          (mcLen c < total → off at_ (mcLen c) → ∃ t, exec (.encode e) s = .next t ∧ ends t Status.bufferBounds.code) ∧
          (∀ k, total ≤ mcLen c → S.freeBuf = some k → off at_ (mcLen c) → off (fbAddr x k) (msFbBytes x) →
            overlaps at_ (mcLen c) (fbAddr x k) (msFbBytes x) = false →
            ∃ t, exec (.encode e) s = .next t ∧ ends t 0 ∧ t.near at_ total = parts.flatten ∧
              (t.session e n).outSeq = S.outSeq + 1 ∧ (t.session e n).hrd = some (S.hrdNext parts) ∧
              leNat (t.near (slot + 12) 4) = total % 2 ^ 32)) ∧
        (mcOp c = 4 →
          (msEncode x = true → ∃ t, exec (.flush e) s = .next t ∧ ends t 0 ∧ t.session e n = S) ∧
          (msEncode x = false → S.heldPics = [] → S.rows = [] →
            ∃ t, exec (.flush e) s = .next t ∧ ends t 0 ∧ t.session e n = { S with state := 2 }))))

/-- What happens beside the commands of a media engine: a DECODE that waits for a buffer goes on once one is FREE, a patch block is
written once its slot is free, and its tokens are counted; `MX_RELEASE` gives a buffer of the output back, and `ABORT` ends a command
that waits with STATE_CONFLICT (R501, R502, R505, R510). -/
def Obligations.MediaEvents : Prop :=
  ∀ (s : State) (e : Nat), isEngine e = true →
    let M := s.mx e
    let n := mcSess M.cmd
    let S := s.session e n
    let slot := s.mxSlot e
    let ends := fun (t : State) code => (t.mx e).wait = .none ∧ t.reg (mxOff e 0x0C) = BitVec.ofNat 64 ((s.mxHead e + 1) % 256) ∧
      t.near slot 1 = [1] ∧ leNat (t.near (slot + 10) 2) = code
    (M.wait ≠ .frame ∨ S.freeBuf = none → exec (.frameBufferWaitEnd e) s = .next s) ∧
    (∀ p k, M.wait = .frame → M.blocks = [] → M.pics = [p] → M.result = .ok → mcOp M.cmd = 2 → p.decodes = true → p.drops = [] →
      p.shows = [] → (overBudget S.desc p).conceal = 0 → S.freeBuf = some k → k < msFbs S.desc → s.memSound → slot + 64 ≤ 0xBF00000000 →
      (∀ i, i < msFbs S.desc → overlaps (fbAddr S.desc i) (msFbBytes S.desc) slot 64 = false ∧
        fbAddr S.desc i + msFbBytes S.desc ≤ 0xBF00000000) → p.pic.w ≤ msW S.desc → p.pic.h ≤ msH S.desc →
      ∃ t, exec (.frameBufferWaitEnd e) s = .next t ∧ ends t 0 ∧ (t.session e n).mark k = (if p.due || p.ref then 2 else 0)) ∧
    (M.wait ≠ .slot ∨ M.slotReady = false → exec (.patchBlockWrite e) s = .next s) ∧
    (∀ b, M.wait = .slot → M.slotReady = true → M.blocks = [b] → s.memSound → slot + 64 ≤ 0xBF00000000 →
      (M.status ≠ .ok → ∃ t, exec (.patchBlockWrite e) s = .next t ∧ ends t M.status.code ∧ t.session e n = S) ∧
      (M.status = .ok → M.pics = [] → M.result = .ok → mcOp M.cmd = 2 → s.corePresent (pdCore S.patch) = true →
        (s.sem (pdFull S.patch)).state = .live → (s.sem (pdFull S.patch)).waiters = [] →
        (s.sem (pdFull S.patch)).count.toNat + (s.sem (pdFull S.patch)).add < 2 ^ 32 → fbit M.cmd 497 = false →
        ∃ t, exec (.patchBlockWrite e) s = .next t ∧ ends t 0 ∧ (t.session e n).tokens = S.tokens + b.2.1 ∧
          (t.sem (pdFull S.patch)).count = (s.sem (pdFull S.patch)).count + BitVec.ofNat 32 (s.sem (pdFull S.patch)).add)) ∧
    (∀ v : W32, bits v.toNat 31 14 = 0 → bits v.toNat 7 6 = 0 →
      let m := bits v.toNat 13 8
      let k := bits v.toNat 5 0
      let old := (s.session e m).mark k
      (old ≠ 3 → old ≠ 4 → ∃ t, exec (.mxRelease e v) s = .next t ∧ s.onlyRegs t ∧ t.reg (mxOff e 0x70) = s.reg (mxOff e 0x70) + 1) ∧
      (old = 3 ∨ old = 4 → s.memSound →
        ∃ t, exec (.mxRelease e v) s = .next t ∧ (t.session e m).mark k = (if old = 3 then 0 else 2) ∧
          (∀ j, j ≠ k → (t.session e m).mark j = (s.session e m).mark j) ∧ s.nearOutside t (fbAddr (s.session e m).desc k + 4) 1)) ∧
    (M.wait = .none → exec (.abort e) s = .next s) ∧
    (M.wait ≠ .none → s.memSound → slot + 64 ≤ 0xBF00000000 →
      ∃ t, exec (.abort e) s = .next t ∧ ends t 0x0101 ∧ (t.session e n).state = 2)

/-! ### Dictionary, device and field network -/

/-- Requests of the dictionary service for this chip, in a control cycle in which no armed transaction is due. One that fails a check is answered with its status and changes nothing; a READ gives
the bytes asked for, a WRITE of a short entry leaves what the entry's rule makes of the value, DESCRIBE the attributes, DISCOVER the
identity; a repeated request is answered from what is stored (R545, R550, R551, R553, R557). -/
def Obligations.DictionaryRequests : Prop :=
  ∀ (s : State) (p : Path) (m : Msg), pathOk p = true → s.dictServed = true → m.mtype = 0 → reqCmd m.cmd = true →
    let s' := match p with
      | .field _ => s.bump 0x248 1
      | _ => s
    let replied := fun (t : State) st data txn => ∃ l, t.mgmt.responses = (p, msgReply m st data txn) :: l
    let same := fun (t : State) => t.mgmt.values = s.mgmt.values ∧ t.mgmt.txns = s.mgmt.txns ∧ t.mem = s.mem ∧ t.qs = s.qs ∧ t.dev = s.dev
    (∀ e, (s.mgmt.stored.find? fun e => decide (e.1 = pathWho p ∧ e.2.1 = m.seq)) = some e →
      ∃ t, exec (reqRow p m) s = .next t ∧ t.mgmt.responses = (p, e.2.2) :: s.mgmt.responses ∧ same t) ∧
    ((s.mgmt.stored.find? fun e => decide (e.1 = pathWho p ∧ e.2.1 = m.seq)) = none → m.chip = 0x3FFF ∨ m.chip = s.fab.chipNum →
      (∀ T a, T ∈ s.mgmt.txns → T.armed = some a → s.ft.toNat < a) →
      (s'.reqCheck p m ≠ .ok → ∃ t, exec (reqRow p m) s = .next t ∧ replied t (s'.reqCheck p m) [] m.txn ∧ same t) ∧
      (s'.reqCheck p m = .ok →
        (m.cmd = 1 → ∃ t, exec (.dictRead p m) s = .next t ∧
          replied t .ok (((s'.dictValue m.index m.sub).drop m.offset).take m.len) m.txn ∧ same t) ∧
        (m.cmd = 3 → ∃ t, exec (.describe p m) s = .next t ∧ replied t .ok (describeBytes m) m.txn ∧ same t) ∧
        (m.cmd = 0x20 → ∃ t, exec (.discover p m) s = .next t ∧ replied t .ok s'.discoverBytes m.txn ∧ same t) ∧
        (let v := s'.newValue m.index m.sub [(0, msgBody m)]
         m.cmd = 2 → (msgAttr m).size ≤ 8 →
          (entryRange m.index m.sub v = false → ∃ t, exec (.write p m) s = .next t ∧ replied t .reservedNonzero [] m.txn ∧ same t) ∧
          (∀ u, entryRange m.index m.sub v = true → s'.applyWrite p m.index m.sub v = (u, .ok) → u.pairsOk m.index m.sub = true →
            ∃ t, exec (.write p m) s = .next t ∧ replied t .ok [] m.txn ∧ t.mgmt.values = u.mgmt.values ∧ t.mem = u.mem ∧ t.dev = u.dev) ∧
          (m.index = 0x5030 → 1 ≤ leNat (msgBody m) → leNat (msgBody m) ≤ 15 →
            ∃ t, exec (.write p m) s = .next t ∧ replied t .ok [] m.txn ∧ t.dictNat 0x5030 m.sub = leNat (msgBody m)))))

/-- Transactions. TXN_BEGIN opens one with its own number; TXN_STAGE keeps a value for it; TXN_COMMIT applies every staged value or none,
or arms the transaction for its instant; TXN_ABORT, and an idle time too long, drop it (R564 to R566); the requests come in a control
cycle in which no armed transaction is due. What time does to transactions:
one that is armed is committed at its instant, one that is not and has been idle for `TXN_IDLE_MS` is dropped, and nothing happens
before (R565, R566, R46). -/
def Obligations.Transactions : Prop :=
  (∀ (s : State) (p : Path) (m : Msg), pathOk p = true → (∀ mac, p ≠ .field mac) → s.dictServed = true → m.mtype = 0 →
     (∀ e, e ∈ s.mgmt.stored → e.1 = pathWho p → e.2.1 ≠ m.seq) → m.chip = 0x3FFF → s.reqCheck p m = .ok →
     (∀ T a, T ∈ s.mgmt.txns → T.armed = some a → s.ft.toNat < a) →
     let replied := fun (t : State) st txn => ∃ l, t.mgmt.responses = (p, msgReply m st [] txn) :: l
     let kept := fun (t : State) => t.mgmt.values = s.mgmt.values ∧ t.mem = s.mem ∧ t.qs = s.qs ∧ t.dev = s.dev
     (m.cmd = 0x10 →
       ∃ t, exec (.txnBegin p m) s = .next t ∧ replied t .ok s.mgmt.nextTxn ∧ kept t ∧
         t.mgmt.txns = s.mgmt.txns ++ [{ num := s.mgmt.nextTxn, path := p, lastFt := s.ft.toNat }] ∧
         t.mgmt.nextTxn = (if s.mgmt.nextTxn = 0xFFFF then 1 else s.mgmt.nextTxn + 1)) ∧
     (∀ T, s.txnOf p m.txn = some T →
       let put := fun (U : Txn) => s.mgmt.txns.map fun E => if E.num = T.num then U else E
       let gone := fun (t : State) => ∀ E, E ∈ t.mgmt.txns → E.num ≠ T.num
       (m.cmd = 0x11 → s.mgmt.segs = [] → (msgAttr m).size ≤ 8 → s.stageCheck p m.index m.sub [(m.offset, msgBody m)] = .ok →
         ((dictKey m.index m.sub :: T.writes.map (·.1)).eraseDups).length ≤ 64 → (s.txnLoad T).2 + m.len ≤ 262144 →
         ∃ t, exec (.txnStage p m) s = .next t ∧ replied t .ok m.txn ∧ kept t ∧
           t.mgmt.txns = put { T with lastFt := s.ft.toNat, writes := T.writes ++ [(dictKey m.index m.sub, [(m.offset, msgBody m)])] }) ∧
       (m.cmd = 0x12 → m.ftAt ≠ 0 → s.ftValid = true → s.ft.toNat ≤ m.ftAt →
         ∃ t, exec (.txnCommit p m) s = .next t ∧ replied t .ok m.txn ∧ kept t ∧
           t.mgmt.txns = put { T with lastFt := s.ft.toNat, armed := some m.ftAt }) ∧
       (m.cmd = 0x13 → ∃ t, exec (.txnAbort p m) s = .next t ∧ replied t .ok m.txn ∧ kept t ∧ gone t) ∧
       (m.cmd = 0x12 → m.ftAt = 0 →
         (∀ k, (s.commitTrial T).2 = some k → ∃ t, exec (.txnCommit p m) s = .next t ∧ replied t .txnAborted m.txn ∧ kept t ∧ gone t) ∧
         ((s.commitTrial T).2 = none → (∀ w, w ∈ T.writes → w.1 / 256 ≠ 0x2100) →
           ∃ t, exec (.txnCommit p m) s = .next t ∧ replied t .ok m.txn ∧ t.mgmt.values = (s.commitTrial T).1.mgmt.values ∧ gone t)))) ∧
  (∀ (s : State) (n : Nat) (T : Txn), (s.mgmt.txns.find? fun t => decide (t.num = n)) = some T →
     let gone := fun (t : State) => ∀ E, E ∈ t.mgmt.txns → E.num ≠ T.num
     (∀ a, T.armed = some a →
       exec (.txnIdleTimeout n) s = .next s ∧
       (s.ft.toNat < a → exec (.scheduledCommit n) s = .next s) ∧
       (a ≤ s.ft.toNat →
         (∀ k, (s.commitTrial T).2 = some k →
           ∃ t, exec (.scheduledCommit n) s = .next t ∧ gone t ∧ t.mgmt.values = s.mgmt.values ∧ t.mem = s.mem ∧ t.qs = s.qs ∧
             t.reg (Status.counterOff .txnAborted) = s.reg (Status.counterOff .txnAborted) + 1) ∧
         ((s.commitTrial T).2 = none → (∀ w, w ∈ T.writes → w.1 / 256 ≠ 0x2100) →
           ∃ t, exec (.scheduledCommit n) s = .next t ∧ gone t ∧ t.mgmt.values = (s.commitTrial T).1.mgmt.values))) ∧
     (T.armed = none →
       exec (.scheduledCommit n) s = .next s ∧
       (s.ft.toNat < T.lastFt + s.dictNat 0x2020 1 * 1000000 → exec (.txnIdleTimeout n) s = .next s) ∧
       (T.lastFt + s.dictNat 0x2020 1 * 1000000 ≤ s.ft.toNat →
         ∃ t, exec (.txnIdleTimeout n) s = .next t ∧ gone t ∧ t.mgmt.values = s.mgmt.values ∧ t.mem = s.mem ∧
           t.reg (Status.counterOff .txnAborted) = s.reg (Status.counterOff .txnAborted) + 1)))

/-- The device commands: each one moves the device from the state that allows it, is refused with STATE_CONFLICT in others and with
ACCESS_DENIED to a requester whose role is too low, in a control cycle in which no armed transaction is due; START has the control
processors of the cores that serve start their schedule programs; DRAIN ends once nothing is left to drain, and RESET takes effect after
100 µs (R569 to R571). -/
def Obligations.DeviceCommands : Prop :=
  ∀ (s : State) (p : Path), pathOk p = true → s.dictServed = true → (∀ T a, T ∈ s.mgmt.txns → T.armed = some a → s.ft.toNat < a) →
    let done := fun (t : State) => t.devCmdStatus = 0
    let refused := fun (c : Instr) (st : Status) => ∃ t, exec c s = .next t ∧ t.dev = s.dev ∧ t.devCmdStatus = st.code ∧ t.qs = s.qs ∧
      t.mem = s.mem ∧ t.reg st.counterOff = s.reg st.counterOff + 1
    (s.roleOf p = 0 → ∀ c, c = .goReady p ∨ c = .start p ∨ c = .drain p ∨ c = .reconfig p ∨ c = .resetCmd p → refused c .accessDenied) ∧
    (s.roleOf p < 2 → refused (.reconfig p) .accessDenied ∧ refused (.resetCmd p) .accessDenied) ∧
    (2 ≤ s.roleOf p → s.mgmt.txns = [] →
      (∃ t, exec (.resetCmd p) s = .next t ∧ done t ∧ t.resetAt = some (s.ft.toNat + 100000) ∧ t.dev = s.dev) ∧
      (s.devBusy = false →
        (s.dev = .config → ∃ t, exec (.goReady p) s = .next t ∧ done t ∧ t.dev = .ready ∧
          t.fab.chipNum = s.dictNat 0x3001 1 * 32 + s.dictNat 0x3001 2) ∧
        (s.dev = .ready → ∃ t, exec (.start p) s = .next t ∧ done t ∧ t.dev = .running ∧ t.mem = s.mem ∧
          ∀ c, isCore c = true → s.corePresent c = true → (t.core c).scheduled = true) ∧
        (s.dev = .running → ∃ t, exec (.drain p) s = .next t ∧ done t ∧ t.dev = .draining ∧ t.devBusy = true ∧ t.mem = s.mem) ∧
        (s.dev = .ready → (s.qs.queues.any fun e => e.2.enabled) = false →
          ∃ t, exec (.reconfig p) s = .next t ∧ done t ∧ t.dev = .config ∧ t.mem = s.mem)) ∧
      (s.dev ≠ .config → refused (.goReady p) .stateConflict) ∧ (s.dev ≠ .ready → refused (.start p) .stateConflict) ∧
      (s.dev ≠ .running → refused (.drain p) .stateConflict) ∧ (s.dev ≠ .ready → refused (.reconfig p) .stateConflict)) ∧
    (s.dev ≠ .draining ∨ s.drained = false → exec .drainComplete s = .next s) ∧
    (s.dev = .draining → s.drained = true → ∃ t, exec .drainComplete s = .next t ∧ t.dev = .ready ∧ t.devBusy = false) ∧
    (s.resetAt = none → exec .resetDelayExpiry s = .next s) ∧
    (∀ w, s.resetAt = some w →
      (s.ft.toNat < w → exec .resetDelayExpiry s = .next s) ∧
      (w ≤ s.ft.toNat → ∃ t, exec .resetDelayExpiry s = .next t ∧ t.resetAt = none ∧ t.qs = State.reset.qs ∧ t.sync = State.reset.sync ∧
        t.dev = if s.pins.resetN && s.pins.supplyOk then .boot else .reset))

/-- The mailbox: a free one is claimed, its holder's GO hands the request in the buffer to the dictionary, and it is released by its
holder or by an ADMIN on another path (R560, R561). The field network: what the link observes moves it between its states, an event
goes out once its millisecond has passed, and a bad frame is counted (R557 to R559). -/
def Obligations.MailboxAndFieldNetwork : Prop :=
  ∀ s : State,
    (∀ core, isCore core = true → s.cpLive core = true → s.regsLive = true →
      (s.mbClaim = 0xFF → ∃ t, exec (.mbClaim core) s = .next t ∧ t.mbClaim = core ∧ t.flag 0x208 1 = false ∧ s.onlyRegs t) ∧
      (s.mbClaim ≠ 0xFF → exec (.mbClaim core) s = .next s) ∧
      (s.mbClaim ≠ core → exec (.mbClaimRelease core) s = .next s ∧ exec (.go core) s = .next s) ∧
      (s.mbClaim = core →
        (s.flag 0x208 0 = false → ∃ t, exec (.mbClaimRelease core) s = .next t ∧ t.mbClaim = 0xFF ∧ t.mgmt.mbRelease = false) ∧
        (s.flag 0x208 0 = true → exec (.mbClaimRelease core) s = .next { s with mgmt.mbRelease := true } ∧ exec (.go core) s = .next s) ∧
        (let m := msgOf (loadBytes s.mgmt.mail 0x1000 4096)
         s.flag 0x208 0 = false → reqCmd m.cmd = true →
          ∃ t, exec (.go core) s = .next t ∧ exec (reqRow (.mailbox core) m) (s.setFlag 0x208 0) = .next t ∧
            (m.cmd = 0x20 → m.mtype = 0 → m.chip = 0x3FFF → s.mgmt.stored = [] → t.flag 0x208 0 = false ∧ t.flag 0x208 1 = true)))) ∧
    (∀ p, pathOk p = true → s.dictServed = true → s.dev ≠ .boot → s.dev ≠ .faulted → 2 ≤ s.roleOf p →
      ((p = .bridge ∨ ∃ mac, p = .field mac) → s.flag 0x208 0 = false →
        ∃ t, exec (.mbRelease p) s = .next t ∧ t.mbClaim = 0xFF ∧ t.mgmt.values = s.mgmt.values) ∧
      (∀ c, p = .mailbox c → ∃ t, exec (.mbRelease p) s = .next t ∧ s.onlyRegs t ∧ t.mbClaim = s.mbClaim ∧
        t.reg (Status.counterOff .accessDenied) = s.reg (Status.counterOff .accessDenied) + 1)) ∧
    (s.dictServed = true →
      (∃ t, exec .pairShort s = .next t ∧ t.mgmt.link = 2 ∧ t.mgmt.shortNext = some (s.ft.toNat + 1000000000) ∧
        t.reg 0x268 = s.reg 0x268 + 1 ∧ t.flag 0x240 4 = true) ∧
      (s.mgmt.link = 0 → ∃ t, exec .noBeacon s = .next t ∧ t.mgmt.link = 1 ∧ t.reg 0x270 = s.reg 0x270 + 1 ∧ t.flag 0x240 3 = true) ∧
      (s.mgmt.link ≠ 0 → exec .noBeacon s = .next s) ∧
      (s.mgmt.link ≠ 2 → exec .idConflict s = .next { s with mgmt.link := 3 }) ∧
      (∃ t, exec .badFrame s = .next t ∧ s.onlyRegs t ∧ t.reg 0x258 = s.reg 0x258 + 1 ∧ t.flag 0x240 2 = true)) ∧
    (s.mgmt.link = 1 → exec .beaconResume s = .next { s with mgmt.link := 0 }) ∧
    (s.mgmt.link ≠ 1 → exec .beaconResume s = .next s) ∧
    (∀ w seen, s.mgmt.shortNext = some w →
      (s.mgmt.link ≠ 2 ∨ s.ft.toNat < w → exec (.shortRetry seen) s = .next s) ∧
      (s.mgmt.link = 2 → w ≤ s.ft.toNat →
        exec (.shortRetry seen) s = .next (if seen then { s with mgmt.link := 0, mgmt.shortNext := none }
          else { s with mgmt.shortNext := some (s.ft.toNat + 1000000000) }))) ∧
    (∀ w, s.mgmt.eventDue = some w →
      (s.ft.toNat < w → exec .stateEvent s = .next s) ∧
      (w ≤ s.ft.toNat → s.mgmt.link ≤ 1 →
        ∃ t, exec .stateEvent s = .next t ∧ t.mgmt.events = s.mgmt.events ++ [s.devWord] ∧ t.mgmt.lastEvent = some s.ft.toNat ∧
          t.mgmt.eventDue = none ∧ t.reg 0x250 = s.reg 0x250 + 1))

/-! ### Start-up, firmware and the test access port -/

/-- Reset and start. RESET_N, and a rail that fails, put every block into reset and keep what R576 names; a released device starts and,
with a good image, a held secret, memory that trains and a whole flash, awaits the retirement record in BOOT, where a step that fails
leaves it with the status of that step; without a record in time it counts as lost,
and past the temperature gate the device is in CONFIG with the chip number of its entries (R481, R576, R581 to R586, R612 to R615). -/
def Obligations.ResetAndStart : Prop :=
  ∀ s : State,
    let fresh := fun (t : State) => t.dev = .reset ∧ (∀ o, t.reg o = 0) ∧ t.mem.near = [] ∧ t.mem.tile = [] ∧ t.qs = State.reset.qs ∧
      t.boot.image = s.boot.image ∧ t.boot.pdcA = s.boot.pdcA ∧ t.boot.pdcB = s.boot.pdcB ∧ t.boot.enrolled = s.boot.enrolled ∧
      t.boot.lifeA = s.boot.lifeA ∧ t.boot.lifeB = s.boot.lifeB ∧ t.boot.serial = s.boot.serial ∧ t.pending = s.pending
    (∃ t, exec .resetNAssert s = .next t ∧ fresh t ∧ t.pins = { s.pins with resetN := false } ∧ t.boot.secretHeld = s.boot.secretHeld) ∧
    (∀ rail lost, rail < 9 → ∃ t, exec (.railEvent rail lost) s = .next t ∧ fresh t ∧ t.pins.supplyOk = false ∧
      t.wear.pendingUv = s.wear.pendingUv + 1 ∧
      (lost = true → t.pins.clkReset = true) ∧ (lost = false → t.pins.railReset = true ∧ t.pins.railLast = rail) ∧
      t.boot.secretHeld = (s.boot.secretHeld && !(decide (rail = 1) && !lost))) ∧
    (∀ mode warm cores, mode < 4 → cores.all isCore = true →
      (s.pins.resetN = true → exec (.resetNRelease mode warm cores) s = .next s) ∧
      (s.pins.resetN = false → s.dev = .reset → s.pins.supplyOk = true → s.pins.driven = true →
        ∃ t, exec (.resetNRelease mode warm cores) s = .next t ∧ t.dev = .boot ∧ t.boot.stage = 1 ∧ t.boot.holdTap = true) ∧
      (s.pins.resetN = false → s.dev = .reset → s.pins.supplyOk = true → s.pins.driven = false →
        s.boot.helperOk = true → (warm = true → s.boot.secretHeld = true) →
        (mode = 2 → ∃ t, exec (.resetNRelease mode warm cores) s = .next t ∧ t.dev = .boot ∧ t.boot.stage = 4 ∧ t.boot.mode = 2) ∧
        (mode = 3 → ∃ t, exec (.resetNRelease mode warm cores) s = .next t ∧ t.dev = .boot ∧ t.boot.status = .reservedNonzero) ∧
        (∀ img, mode = 0 → s.noFlash = false → s.boot.journal = false → s.boot.marker = 0 → s.boot.image = some img → img.headOk = true →
          s.boot.rrLoaded = false →
          (s.boot.stacksOk = false →
            ∃ t, exec (.resetNRelease mode warm cores) s = .next t ∧ t.dev = .boot ∧ t.boot.stage = 5 ∧ t.boot.status = .uncorrectable) ∧
          (s.boot.stacksOk = true → img.readOk = false →
            ∃ t, exec (.resetNRelease mode warm cores) s = .next t ∧ t.dev = .boot ∧ t.boot.stage = 6 ∧ t.boot.status = .uncorrectable) ∧
          (s.boot.stacksOk = true → img.readOk = true → img.sigOk = true → img.tagOk = true →
            ∃ t, exec (.resetNRelease mode warm cores) s = .next t ∧ t.dev = .boot ∧ t.boot.stage = 11 ∧ t.boot.running = img.bytes ∧
              t.boot.fwVersion = img.fw ∧ t.boot.secretHeld = true ∧
              ∀ c k b, isCore c = true → k < 8 → b < 2 → (t.bank c k b).builtin = some k) ∧
          (s.boot.stacksOk = true → img.readOk = true → img.sigOk = false →
            ∃ t, exec (.resetNRelease mode warm cores) s = .next t ∧ t.dev = .boot ∧ t.boot.stage = 7 ∧ t.boot.status = .authFailed)))) ∧
    (s.dev ≠ .reset ∨ s.pins.resetN = false → exec .supplyInRange s = .next { s with pins.supplyOk := true }) ∧
    (s.dev = .reset → s.pins.resetN = true → ∃ t, exec .supplyInRange s = .next t ∧ t.dev = .boot ∧ t.pins.supplyOk = true) ∧
    (s.dev = .boot ∧ s.boot.stage = 11 ∧ s.boot.rrDeadline ≤ s.ft.toNat →
      exec .bootRrTimeout s = .next { s with boot.stage := 12, boot.rrLoaded := true, wear.record := [], wear.recordLost := true }) ∧
    (¬ (s.dev = .boot ∧ s.boot.stage = 11 ∧ s.boot.rrDeadline ≤ s.ft.toNat) → exec .bootRrTimeout s = .next s) ∧
    (s.dev ≠ .boot ∨ s.boot.stage ≠ 12 → exec .temperatureGate s = .next s) ∧
    (s.dev = .boot → s.boot.stage = 12 →
      ∃ t, exec .temperatureGate s = .next t ∧ t.dev = .config ∧
        t.fab.chipNum = s.dictNat 0x3001 1 * 32 + s.dictNat 0x3001 2 ∧
        ∀ p, p < 14 → t.isXanler p = true → (s.port p).disabled = false → (s.port p).link = .down →
          (t.port p).link = if t.portUsed p then .training else .disabled)

/-- Firmware update, activation, signed contents and attestation, asked for by an ADMIN: each step of an update is taken from the state
that allows it, the package's bytes land in the pending slot, a good package goes to flash and a bad one ends the update; ACTIVATE
resets the device but keeps near memory, links, wear and FT; a blob that fails its checks is refused; a quote is made of the nonce; a
flash write that fails its comparison three times, and every one where the flash is absent, ends with UNCORRECTABLE (R571, R577, R579,
R595 to R600). -/
def Obligations.FirmwareAndContents : Prop :=
  ∀ (s : State) (p : Path), pathOk p = true → s.dictServed = true →
    let refused := fun (c : Instr) (st : Status) => ∃ t, exec c s = .next t ∧ s.onlyRegs t ∧ t.reg st.counterOff = s.reg st.counterOff + 1
    (s.roleOf p < 2 → ∀ c off bytes pause, c = .fwBegin p ∨ c = .fwUpdData p off bytes ∨ c = .finish p ∨ c = .cancel p ∨
      c = .activate p pause ∨ c = .pdcBlob p bytes ∨ c = .quoteNonce p bytes → refused c .accessDenied) ∧
    (2 ≤ s.roleOf p → s.dev = .faulted → ∀ c off bytes pause, c = .fwBegin p ∨ c = .fwUpdData p off bytes ∨ c = .finish p ∨ c = .cancel p ∨
      c = .activate p pause ∨ c = .pdcBlob p bytes ∨ c = .quoteNonce p bytes → refused c .stateConflict) ∧
    (2 ≤ s.roleOf p → s.dev ≠ .faulted →
      (s.boot.updState = 0 ∨ s.boot.updState = 4 ∨ s.boot.updState = 5 →
        exec (.fwBegin p) s = .next { s with
          boot.updState := 1, boot.updStatus := .ok, boot.updBytes := 0, boot.updOwner := some (pathWho p), boot.pending := none,
          boot.staging := none, boot.marker := 0 }) ∧
      (s.boot.updState = 1 → refused (.fwBegin p) .stateConflict) ∧
      (∀ off bytes, s.boot.updState = 1 → s.boot.updOwner = some (pathWho p) → off + bytes.length ≤ 0x3100000 →
        ∃ t, exec (.fwUpdData p off bytes) s = .next t ∧ t.near (0xBF04000000 + off) bytes.length = bytes ∧
          s.nearOutside t (0xBF04000000 + off) bytes.length ∧ t.boot.updBytes = s.boot.updBytes + bytes.length) ∧
      (∀ off bytes, s.boot.updState ≠ 1 → refused (.fwUpdData p off bytes) .stateConflict) ∧
      (s.boot.updState ≠ 1 → refused (.finish p) .stateConflict) ∧
      (let r := s.fwCheck (s.near 0xBF04000000 (min (packageBytes (s.near 0xBF04000000 4096)) 0x3100000))
       s.boot.updState = 1 → s.dev = .ready →
        (r.2 = .ok → exec (.finish p) s =
          .next { s with boot.pending := some r.1, boot.updState := 3, boot.jobs := addJob s.boot.jobs .package }) ∧
        (r.2 ≠ .ok → ∃ t, exec (.finish p) s = .next t ∧ t.boot.updState = 0 ∧ t.boot.updStatus = r.2 ∧ t.boot.jobs = s.boot.jobs ∧
          t.reg r.2.counterOff = s.reg r.2.counterOff + 1)) ∧
      (s.boot.updState = 0 → refused (.cancel p) .stateConflict) ∧
      (s.boot.updState = 1 ∨ s.boot.updState = 5 →
        ∃ t, exec (.cancel p) s = .next t ∧ t.boot.updState = 0 ∧ t.boot.staging = none ∧ t.boot.marker = 0 ∧ t.boot.image = s.boot.image) ∧
      (∀ pause, s.activateOk pause = false → refused (.activate p pause) .stateConflict) ∧
      (∀ pause img, s.activateOk pause = true → s.boot.pending = some img →
        ∃ t, exec (.activate p pause) s = .next t ∧ t.dev = s.dev ∧ t.boot.fwVersion = img.fw ∧ t.boot.running = img.bytes ∧
          t.boot.updState = 6 ∧ t.ft = s.ft ∧ t.fab.ports = s.fab.ports ∧ t.wear.record = s.wear.record ∧ t.qs = State.reset.qs ∧
          t.sync = State.reset.sync ∧
          (∀ a, Store.get 0 t.mem.near a = if 0xBF00000000 ≤ a ∧ a < 0xBF10000000 then 0 else Store.get 0 s.mem.near a)) ∧
      (∀ blob, s.blobCheck blob ≠ .ok →
        ∃ t, exec (.pdcBlob p blob) s = .next t ∧ t.boot.pdcStatus = s.blobCheck blob ∧ t.boot.jobs = s.boot.jobs ∧
          t.mgmt.values = s.mgmt.values) ∧
      (∀ blob, s.blobCheck blob = .ok →
        ∃ t copyB owner, exec (.pdcBlob p blob) s = .next t ∧ t.boot.jobs = addJob s.boot.jobs (.contents copyB blob owner) ∧
          (copyB = true ↔ s.boot.pdcA ≠ [] ∧ s.boot.contents = s.boot.pdcA)) ∧
      (∀ nonce, s.boot.quoteBusy = true → refused (.quoteNonce p nonce) .stateConflict) ∧
      (∀ nonce, s.boot.quoteBusy = false → nonce.length ≠ 32 → refused (.quoteNonce p nonce) .reservedNonzero) ∧
      (∀ nonce, s.boot.quoteBusy = false → nonce.length = 32 →
        exec (.quoteNonce p nonce) s = .next { s with boot.quoteBusy := true, boot.nonce := nonce })) ∧
    (s.boot.quoteBusy = false → exec .quoteComplete s = .next s) ∧
    (s.boot.quoteBusy = true →
      ∃ t, exec .quoteComplete s = .next t ∧ t.boot.quoteBusy = false ∧ t.boot.quoteStatus = .ok ∧
        t.boot.quote.take (16 + s.boot.nonce.length) =
          leBytes 4 0x10000000 ++ leBytes 4 0x768 ++ leBytes 8 s.boot.serial.toNat ++ s.boot.nonce) ∧
    (s.boot.jobs = [] → ∀ ok, exec (.flashWriteEnd ok) s = .next s) ∧
    (∀ j rest, s.boot.jobs = j :: rest → s.dev = .running → s.noFlash = true →
      ∀ ok, ∃ t, exec (.flashWriteEnd ok) s = .next t ∧ t.boot.jobs = rest ∧ t.boot.image = s.boot.image ∧ t.boot.staging = s.boot.staging ∧
        t.boot.pdcA = s.boot.pdcA ∧ t.boot.pdcB = s.boot.pdcB) ∧
    (∀ rest, s.boot.jobs = .package :: rest → s.dev = .running → s.noFlash = false →
      (∃ t, exec (.flashWriteEnd true) s = .next t ∧ t.boot.jobs = rest ∧ t.boot.staging = s.boot.pending ∧ t.boot.retries = 0 ∧
        t.boot.updState = (if s.dictNat 0x8010 4 = 1 then 5 else 4) ∧ t.boot.marker = (if s.dictNat 0x8010 4 = 1 then 2 else 1)) ∧
      (s.boot.retries < 2 → exec (.flashWriteEnd false) s = .next { s with boot.retries := s.boot.retries + 1 }) ∧
      (2 ≤ s.boot.retries → ∃ t, exec (.flashWriteEnd false) s = .next t ∧ t.boot.jobs = rest ∧ t.boot.staging = s.boot.staging ∧
        t.boot.updState = 0 ∧ t.boot.updStatus = .uncorrectable))

/-- The test access port. An instruction without pin control selects its register and lets the pins go; one with pin control takes them
while RESET_N is low or, from step 2, in BOOT under a mode that allows it (0b10; log entry 77 for 0b11), and else acts as BYPASS and is counted; a start that waited for the pins goes on when
they are let go (R621 to R623, R625). -/
def Obligations.TestAccessPort : Prop :=
  ∀ (s : State) (cells : BitVec 272),
    let allowed := s.pins.resetN = false ∨ (s.dev = .boot ∧ 2 ≤ s.boot.stage ∧ 2 ≤ s.boot.mode)
    let quiet := fun (ir eff dr : Nat) => { s.pins with ir := ir, effective := eff, dr := dr, driven := false, floating := false }
    let taken := fun (ir : Nat) => { s.pins with ir := ir, effective := ir, driven := true }
    (s.boot.holdTap = false →
      exec .idcode s = .next { s with pins := quiet 2 2 0x10768C57 } ∧
      exec .trstN s = .next { s with pins := quiet 2 2 0x10768C57 } ∧
      exec .ecidcode s = .next { s with pins := quiet 5 5 s.boot.serial.toNat } ∧
      exec .bypass s = .next { s with pins := quiet 0xFF 0xFF 0 } ∧
      exec (.samplePreload cells) s = .next { s with pins := { quiet 1 1 0 with boundary := cells } }) ∧
    (allowed →
      exec (.extest cells) s = .next { s with pins := { taken 0 with boundary := cells, floating := false } } ∧
      exec .clamp s = .next { s with pins := { taken 3 with dr := 0, floating := false } } ∧
      exec .highz s = .next { s with pins := { taken 4 with dr := 0, floating := true } } ∧
      exec (.extestPulse cells) s = .next { s with pins := { taken 6 with boundary := cells, floating := false } } ∧
      exec (.extestTrain cells) s = .next { s with pins := { taken 7 with boundary := cells, floating := false } }) ∧
    (¬ allowed → s.boot.holdTap = false →
      ∀ c ir, (c = .extest cells ∧ ir = 0) ∨ (c = .clamp ∧ ir = 3) ∨ (c = .highz ∧ ir = 4) ∨ (c = .extestPulse cells ∧ ir = 6) ∨
          (c = .extestTrain cells ∧ ir = 7) →
        ∃ t, exec c s = .next t ∧ t.pins = quiet ir 0xFF 0 ∧ t.reg 0x410 = s.reg 0x410 + 1 ∧ t.flag 0x400 1 = true ∧
          { t with regs := s.regs, pins := s.pins } = s) ∧
    (s.boot.holdTap = true → s.dev = .boot →
      ∀ c, c = .idcode ∨ c = .trstN ∨ c = .ecidcode ∨ c = .bypass →
        ∃ t, exec c s = .next t ∧ t.boot.holdTap = false ∧ t.pins.driven = false ∧ t.dev = .boot ∧ 2 ≤ t.boot.stage)
end

