-- ==== Sys2Proof/Laws/Store.lean ====
section
/-! SUPPORT. Sparse stores: what is read after a write, and that every operation keeps the canonical form. -/

namespace Sys2Proof.Machine

set_option linter.unusedSectionVars false

variable {α : Type} [DecidableEq α]

/-! ### Read after write -/

theorem Store.get_put_self (d : α) (m : Store α) (k : Nat) (v : α) : Store.get d (Store.put m k v) k = v := by
  induction m with
  | nil => simp [Store.put, Store.get]
  | cons e rest ih =>
    obtain ⟨a, w⟩ := e
    simp only [Store.put]
    by_cases h1 : k = a
    · simp [h1, Store.get]
    · by_cases h2 : k < a
      · simp [h1, h2, Store.get]
      · simp [h1, h2, Store.get, ih]

theorem Store.get_put_ne (d : α) (m : Store α) (k j : Nat) (v : α) (h : j ≠ k) :
    Store.get d (Store.put m k v) j = Store.get d m j := by
  induction m with
  | nil => simp [Store.put, Store.get, h]
  | cons e rest ih =>
    obtain ⟨a, w⟩ := e
    simp only [Store.put]
    by_cases h1 : k = a
    · subst h1; simp [Store.get, h]
    · by_cases h2 : k < a
      · simp only [h1, h2, if_true, if_false, Store.get, h]
        by_cases h3 : j < k
        · have : j ≠ a := by omega
          have : j < a := by omega
          simp [*]
        · simp [h3]
      · simp only [h1, h2, if_false, Store.get, ih]

theorem Store.wfFrom_mono (d : α) (m : Store α) (a b : Nat) (h : a ≤ b) (hw : Store.wfFrom d (some b) m = true) :
    Store.wfFrom d (some a) m = true := by
  cases m with
  | nil => rfl
  | cons e rest =>
    obtain ⟨k, v⟩ := e
    simp only [Store.wfFrom, Bool.and_eq_true, decide_eq_true_eq] at hw ⊢
    exact ⟨⟨by omega, hw.1.2⟩, hw.2⟩

theorem Store.wf_of_wfFrom (d : α) (m : Store α) (lo : Option Nat) (hw : Store.wfFrom d lo m = true) : Store.wf d m = true := by
  cases m with
  | nil => rfl
  | cons e rest =>
    obtain ⟨k, v⟩ := e
    cases lo <;> simp_all [Store.wf, Store.wfFrom]

theorem Store.get_of_below (d : α) (m : Store α) (a k : Nat) (h : k ≤ a) (hw : Store.wfFrom d (some a) m = true) :
    Store.get d m k = d := by
  cases m with
  | nil => rfl
  | cons e rest =>
    obtain ⟨b, v⟩ := e
    simp only [Store.wfFrom, Bool.and_eq_true, decide_eq_true_eq] at hw
    have h1 : k ≠ b := by omega
    have h2 : k < b := by omega
    simp [Store.get, h1, h2]

theorem Store.get_dropAt_self (d : α) (a : Nat) (m : Store α) : Store.get d (Store.dropAt d a m) a = d := by
  cases m with
  | nil => rfl
  | cons e rest =>
    obtain ⟨b, w⟩ := e
    by_cases h : a < b
    · have : a ≠ b := by omega
      simp [Store.dropAt, Store.get, *]
    · simp [Store.dropAt, Store.get, h]

theorem Store.get_dropAt_ne (d : α) (a j : Nat) (m : Store α) (h : j ≠ a) :
    Store.get d (Store.dropAt d a m) j = if j < a then d else Store.get d m j := by
  cases m with
  | nil => simp [Store.dropAt, Store.get]
  | cons e rest =>
    obtain ⟨b, w⟩ := e
    by_cases h1 : a < b
    · by_cases h2 : j < a
      · have h3 : j ≠ b := by omega
        have h4 : j < b := by omega
        simp [Store.dropAt, Store.get, *]
      · simp [Store.dropAt, h1, h2]
    · by_cases h2 : j < a <;> simp [Store.dropAt, Store.get, *]

theorem Store.get_drop_self (d : α) (m : Store α) (k : Nat) : Store.get d (Store.drop d m k) k = d := by
  induction m with
  | nil => rfl
  | cons e rest ih =>
    obtain ⟨a, w⟩ := e
    simp only [Store.drop]
    by_cases h1 : k = a
    · subst h1; simpa using Store.get_dropAt_self d k rest
    · by_cases h2 : k < a
      · simp [h1, h2, Store.get]
      · simp [h1, h2, Store.get, ih]

theorem Store.get_drop_ne (d : α) (m : Store α) (k j : Nat) (h : j ≠ k) : Store.get d (Store.drop d m k) j = Store.get d m j := by
  induction m with
  | nil => rfl
  | cons e rest ih =>
    obtain ⟨a, w⟩ := e
    simp only [Store.drop]
    by_cases h1 : k = a
    · subst h1; simpa [Store.get, h] using Store.get_dropAt_ne d k j rest h
    · by_cases h2 : k < a
      · simp [h1, h2]
      · simp [h1, h2, Store.get, ih]

/-- What is read at a key after a write to it. -/
@[simp] theorem Store.get_set_self (d : α) (m : Store α) (k : Nat) (v : α) : Store.get d (Store.set d m k v) k = v := by
  unfold Store.set
  split
  · next h => rw [h]; exact Store.get_drop_self d m k
  · exact Store.get_put_self d m k v

/-- A write leaves every other key as it was. -/
theorem Store.get_set_ne (d : α) (m : Store α) (k j : Nat) (v : α) (h : j ≠ k) :
    Store.get d (Store.set d m k v) j = Store.get d m j := by
  unfold Store.set
  split
  · exact Store.get_drop_ne d m k j h
  · exact Store.get_put_ne d m k j v h

/-- What is read at any key after a write. -/
theorem Store.get_set (d : α) (m : Store α) (k j : Nat) (v : α) :
    Store.get d (Store.set d m k v) j = if j = k then v else Store.get d m j := by
  split
  · next h => rw [h]; exact Store.get_set_self d m k v
  · next h => exact Store.get_set_ne d m k j v h

/-! ### The canonical form -/

theorem Store.wfFrom_put (d : α) (m : Store α) (lo : Option Nat) (k : Nat) (v : α) (hk : ∀ l, lo = some l → l < k) (hv : v ≠ d)
    (hw : Store.wfFrom d lo m = true) : Store.wfFrom d lo (Store.put m k v) = true := by
  induction m generalizing lo with
  | nil =>
    cases lo with
    | none => simp [Store.put, Store.wfFrom, hv]
    | some l => simp [Store.put, Store.wfFrom, hv, hk l rfl]
  | cons e rest ih =>
    obtain ⟨a, w⟩ := e
    simp only [Store.wfFrom, Bool.and_eq_true] at hw
    simp only [Store.put]
    by_cases h1 : k = a
    · subst h1
      simp only [if_true, Store.wfFrom, Bool.and_eq_true]
      exact ⟨⟨hw.1.1, by simpa using hv⟩, hw.2⟩
    · by_cases h2 : k < a
      · simp only [h1, h2, if_true, if_false, Store.wfFrom, Bool.and_eq_true]
        refine ⟨⟨?_, by simpa using hv⟩, ⟨by simpa using h2, hw.1.2⟩, hw.2⟩
        cases lo with
        | none => rfl
        | some l => simpa using hk l rfl
      · simp only [h1, h2, if_false, Store.wfFrom, Bool.and_eq_true]
        exact ⟨hw.1, ih (some a) (fun l hl => by cases hl; omega) hw.2⟩

theorem Store.dropAt_of_wf (d : α) (a : Nat) (m : Store α) (hw : Store.wfFrom d (some a) m = true) : Store.dropAt d a m = m := by
  cases m with
  | nil => rfl
  | cons e rest =>
    obtain ⟨b, w⟩ := e
    simp only [Store.wfFrom, Bool.and_eq_true, decide_eq_true_eq] at hw
    simp [Store.dropAt, hw.1.1]

theorem Store.wfFrom_drop (d : α) (m : Store α) (lo : Option Nat) (k : Nat) (hw : Store.wfFrom d lo m = true) :
    Store.wfFrom d lo (Store.drop d m k) = true := by
  induction m generalizing lo with
  | nil => exact hw
  | cons e rest ih =>
    obtain ⟨a, w⟩ := e
    have hw' := hw
    simp only [Store.wfFrom, Bool.and_eq_true] at hw
    simp only [Store.drop]
    by_cases h1 : k = a
    · rw [if_pos h1, Store.dropAt_of_wf d a rest hw.2]
      cases lo with
      | none => exact Store.wf_of_wfFrom d rest _ hw.2
      | some l =>
        have : l < a := by simpa using hw.1.1
        exact Store.wfFrom_mono d rest l a (by omega) hw.2
    · by_cases h2 : k < a
      · simpa only [h1, h2, if_true, if_false] using hw'
      · simp only [h1, h2, if_false, Store.wfFrom, Bool.and_eq_true]
        exact ⟨hw.1, ih (some a) hw.2⟩

/-- A write keeps the canonical form. -/
theorem Store.wf_set (d : α) (m : Store α) (k : Nat) (v : α) (hw : Store.wf d m = true) : Store.wf d (Store.set d m k v) = true := by
  unfold Store.set
  split
  · exact Store.wfFrom_drop d m none k hw
  · next h => exact Store.wfFrom_put d m none k v (by simp) h hw

theorem Store.wf_setAll (d : α) (m : Store α) (l : List (Nat × α)) (hw : Store.wf d m = true) :
    Store.wf d (Store.setAll d m l) = true := by
  induction l generalizing m with
  | nil => exact hw
  | cons e rest ih => exact ih _ (Store.wf_set d m e.1 e.2 hw)

theorem Store.get_erase (d : α) (p : Nat → Bool) (m : Store α) (k : Nat) :
    Store.get d (Store.erase d p m) k = if p k then d else Store.get d m k := by
  induction m with
  | nil => simp [Store.erase, Store.get]
  | cons e rest ih =>
    obtain ⟨a, w⟩ := e
    by_cases h : p a = true
    · have h1 : Store.erase d p ((a, w) :: rest) = Store.dropAt d a (Store.erase d p rest) := by simp [Store.erase, h]
      rw [h1]
      by_cases hk : k = a
      · subst hk; rw [Store.get_dropAt_self]; simp [h]
      · by_cases hl : k < a
        · rw [show Store.get d ((a, w) :: rest) k = d by simp [Store.get, hk, hl]]
          simp only [ite_self]
          cases hr : Store.erase d p rest with
          | nil => rfl
          | cons f r =>
            obtain ⟨b, x⟩ := f
            simp only [Store.dropAt]
            split
            · next hb => simp [Store.get, show k ≠ b by omega, show k < b by omega]
            · simp [Store.get, hk, hl]
        · rw [show Store.get d ((a, w) :: rest) k = Store.get d rest k by simp [Store.get, hk, hl], ← ih]
          cases hr : Store.erase d p rest with
          | nil => rfl
          | cons f r =>
            obtain ⟨b, x⟩ := f
            simp only [Store.dropAt]
            split
            · rfl
            · simp [Store.get, hk, hl]
    · have h1 : Store.erase d p ((a, w) :: rest) = (a, w) :: Store.erase d p rest := by simp [Store.erase, h]
      rw [h1]
      by_cases hk : k = a
      · subst hk; simp [Store.get, h]
      · by_cases hl : k < a
        · simp [Store.get, hk, hl]
        · simp [Store.get, hk, hl, ih]

theorem Store.wfFrom_erase (d : α) (p : Nat → Bool) (m : Store α) (lo : Option Nat) (hw : Store.wfFrom d lo m = true) :
    Store.wfFrom d lo (Store.erase d p m) = true := by
  induction m generalizing lo with
  | nil => rfl
  | cons e rest ih =>
    obtain ⟨a, w⟩ := e
    simp only [Store.wfFrom, Bool.and_eq_true] at hw
    by_cases h : p a = true
    · have h1 : Store.erase d p ((a, w) :: rest) = Store.erase d p rest := by
        rw [show Store.erase d p ((a, w) :: rest) = Store.dropAt d a (Store.erase d p rest) by simp [Store.erase, h]]
        exact Store.dropAt_of_wf d a _ (ih (some a) hw.2)
      rw [h1]
      cases lo with
      | none => exact Store.wf_of_wfFrom d _ _ (ih (some a) hw.2)
      | some l =>
        have : l < a := by simpa using hw.1.1
        exact Store.wfFrom_mono d _ l a (by omega) (ih (some a) hw.2)
    · have h1 : Store.erase d p ((a, w) :: rest) = (a, w) :: Store.erase d p rest := by simp [Store.erase, h]
      rw [h1]
      simp only [Store.wfFrom, Bool.and_eq_true]
      exact ⟨hw.1, ih (some a) hw.2⟩

/-- Erasing keys keeps the canonical form. -/
theorem Store.wf_erase (d : α) (p : Nat → Bool) (m : Store α) (hw : Store.wf d m = true) : Store.wf d (Store.erase d p m) = true :=
  Store.wfFrom_erase d p m none hw

/-! ### Memories -/

/-- Writing bytes keeps a memory's canonical form. -/
theorem Memory.wf_storeBytes (m : Store Byte) (a : Nat) (bytes : List Byte) (hw : Memory.wf m = true) :
    Memory.wf (storeBytes m a bytes) = true := Store.wf_setAll 0 m _ hw

/-- Zeroing part of a memory keeps its canonical form. -/
theorem Memory.wf_erase (m : Store Byte) (p : Nat → Bool) (hw : Memory.wf m = true) : Memory.wf (Store.erase 0 p m) = true :=
  Store.wf_erase 0 p m hw

/-- The memories are canonical at reset. -/
theorem Memory.wf_reset : Memory.wf State.reset.mem.near = true ∧ Memory.wf State.reset.mem.tile = true := ⟨rfl, rfl⟩

theorem get_setAll_of_not_mem (m : Store Byte) (l : List (Nat × Byte)) (k : Nat)
    (h : ∀ e ∈ l, e.1 ≠ k) : Store.get 0 (Store.setAll 0 m l) k = Store.get 0 m k := by
  induction l generalizing m with
  | nil => rfl
  | cons e rest ih =>
    have h1 := h e (by simp)
    have h2 := ih (Store.set 0 m e.1 e.2) (fun x hx => h x (by simp [hx]))
    exact h2.trans (Store.get_set_ne 0 m e.1 k e.2 (Ne.symm h1))

theorem mem_cells (a : Nat) (bytes : List Byte) (e : Nat × Byte) (h : e ∈ cells a bytes) : a ≤ e.1 ∧ e.1 < a + bytes.length := by
  induction bytes generalizing a with
  | nil => simp [cells] at h
  | cons b rest ih =>
    simp only [cells, List.mem_cons] at h
    rcases h with rfl | h
    · simp
    · have := ih (a + 1) h
      simp only [List.length_cons]; omega

/-- A byte outside the bytes written reads as before. -/
theorem get_storeBytes_outside (m : Store Byte) (a k : Nat) (bytes : List Byte) (h : k < a ∨ a + bytes.length ≤ k) :
    Store.get 0 (storeBytes m a bytes) k = Store.get 0 m k := by
  apply get_setAll_of_not_mem m _ k
  intro e he hk
  have := mem_cells a bytes e he
  omega

/-- A byte inside the bytes written reads as what was written. -/
theorem get_storeBytes_inside (m : Store Byte) (a i : Nat) (bytes : List Byte) (h : i < bytes.length) :
    Store.get 0 (storeBytes m a bytes) (a + i) = bytes[i] := by
  induction bytes generalizing m a i with
  | nil => simp at h
  | cons b rest ih =>
    cases i with
    | zero =>
      have h1 : Store.get 0 (storeBytes (Store.set 0 m a b) (a + 1) rest) a = Store.get 0 (Store.set 0 m a b) a :=
        get_storeBytes_outside _ (a + 1) a rest (by omega)
      exact h1.trans (Store.get_set_self 0 m a b)
    | succ j =>
      have := ih (Store.set 0 m a b) (a + 1) j (by simpa using h)
      have e : a + 1 + j = a + (j + 1) := by omega
      rw [e] at this
      exact this

/-- As many bytes as were written read back as they were written. -/
theorem loadBytes_storeBytes (m : Store Byte) (a : Nat) (bytes : List Byte) :
    loadBytes (storeBytes m a bytes) a bytes.length = bytes := by
  induction bytes generalizing m a with
  | nil => rfl
  | cons b rest ih =>
    have h := get_storeBytes_inside m a 0 (b :: rest) (by simp)
    simp only [Nat.add_zero, List.getElem_cons_zero] at h
    have h2 : storeBytes m a (b :: rest) = storeBytes (Store.set 0 m a b) (a + 1) rest := rfl
    simp only [List.length_cons, loadBytes, h]
    rw [h2, ih]

/-- Bytes outside those written load as before. -/
theorem loadBytes_outside (m : Store Byte) (a k n : Nat) (bytes : List Byte) (h : k + n ≤ a ∨ a + bytes.length ≤ k) :
    loadBytes (storeBytes m a bytes) k n = loadBytes m k n := by
  induction n generalizing k with
  | zero => rfl
  | succ n ih =>
    simp only [loadBytes]
    rw [get_storeBytes_outside m a k bytes (by omega), ih (k + 1) (by omega)]

theorem length_loadBytes (m : Store Byte) (a n : Nat) : (loadBytes m a n).length = n := by
  induction n generalizing a with
  | zero => rfl
  | succ n ih => simp [loadBytes, ih]

theorem length_leBytes (n x : Nat) : (leBytes n x).length = n := by
  induction n generalizing x with
  | zero => rfl
  | succ n ih => simp [leBytes, ih]

/-- The number that the low bytes of a number stand for. -/
theorem leNat_leBytes (n x : Nat) : leNat (leBytes n x) = x % 2 ^ (8 * n) := by
  induction n generalizing x with
  | zero => simp [leBytes, leNat, Nat.mod_one]
  | succ n ih =>
    simp only [leBytes, leNat, ih, BitVec.toNat_ofNat]
    have e : 2 ^ (8 * (n + 1)) = 2 ^ 8 * 2 ^ (8 * n) := by rw [← Nat.pow_add]; ring_nf
    rw [e, Nat.mod_mul]
    norm_num

end Sys2Proof.Machine
end

