-- ==== Sys2Proof/Laws/Keep.lean ====
section
/-! SUPPORT. What every operation keeps: the invariants of State.Inv and the queue of waiting commands. This file has the combinators;
the files Laws/Keep<Module>.lean have one lemma per operation. -/

namespace Sys2Proof.Machine

/-- The invariants hold and the waiting commands are `p`. -/
structure State.Keeps (p : List Instr) (s : State) : Prop where
  inv : s.Inv
  pending : s.pending = p

variable {p : List Instr}

/-- A record update that changes nothing the invariants read. -/
theorem keeps_mk {s : State}
    {regs' : Store W64} {cores' : Store Core} {accs' : Store AccTile} {ftq' : Store (List FtqEntry)}
    {bufs' : Store TileBuf} {tables' : Store TableBank} {mem' : MemSt} {qs' : QueueSt} {sync' : SyncSt}
    {tier' : TierSt} {fab' : FabSt} {sc' : Store ScEng} {wear' : WearSt} {sessions' : Store Session}
    {media' : Store MxEng} {pwr' : PwrSt} {mgmt' : MgmtSt} {boot' : BootSt} {pins' : PinSt} {dev' : DevState}
    {devBusy' : Bool} {devCmdStatus' : Nat} {resetAt' : Option Nat} {ft' : W64} {cycle' : W64} {ftPrev' : W64} {eventSeq' : W64}
    {free' : Nat}
    (h : s.Keeps p) (hn : mem'.near = s.mem.near) (ht : mem'.tile = s.mem.tile) (hd : sync'.dbgLog = s.sync.dbgLog)
    (hx : mgmt'.txnTable = s.mgmt.txnTable) :
    State.Keeps p (State.mk
      regs' cores' accs' ftq' bufs' tables' mem' qs' sync' tier' fab' sc' wear' sessions' media' pwr'
      mgmt' boot' pins' dev' devBusy' devCmdStatus' resetAt' ft' cycle' s.ninths ftPrev' s.log eventSeq' free'
      s.pending) :=
  ⟨⟨hn ▸ h.inv.near, ht ▸ h.inv.tile, h.inv.ninths, h.inv.log, hd ▸ h.inv.dbgLog, hx ▸ h.inv.txnTable⟩, h.pending⟩

theorem keeps_ite {c : Prop} [Decidable c] {a b : State} (ha : a.Keeps p) (hb : b.Keeps p) : (if c then a else b).Keeps p := by
  split
  · exact ha
  · exact hb

theorem keeps_ite_fst {α : Type} {c : Prop} [Decidable c] {a b : State × α} (ha : a.1.Keeps p) (hb : b.1.Keeps p) :
    (if c then a else b).1.Keeps p := by
  split
  · exact ha
  · exact hb

theorem keeps_ite_snd {α : Type} {c : Prop} [Decidable c] {a b : α × State} (ha : a.2.Keeps p) (hb : b.2.Keeps p) :
    (if c then a else b).2.Keeps p := by
  split
  · exact ha
  · exact hb

theorem keeps_foldl {β : Type} {f : State → β → State} {l : List β} {s : State}
    (hf : ∀ t e, t.Keeps p → (f t e).Keeps p) (h : s.Keeps p) : (l.foldl f s).Keeps p := by
  induction l generalizing s with
  | nil => exact h
  | cons e rest ih => exact ih (hf s e h)

theorem keeps_foldl_fst {α β : Type} {f : State × α → β → State × α} {l : List β} {s : State × α}
    (hf : ∀ t e, t.1.Keeps p → (f t e).1.Keeps p) (h : s.1.Keeps p) : (l.foldl f s).1.Keeps p := by
  induction l generalizing s with
  | nil => exact h
  | cons e rest ih => exact ih (hf s e h)

/-- A meaning that checks its operands ends, where it answers, in the state given. -/
theorem keeps_ifUnit {b : Bool} {w : String} {t u : State} (h : ifUnit b w t = .next u) (ht : t.Keeps p) : u.Keeps p := by
  unfold ifUnit at h
  split at h
  · cases h; exact ht
  · cases h

theorem keeps_next {t u : State} (h : (.next t : Host.Outcome State Fault Refusal) = .next u) (ht : t.Keeps p) : u.Keeps p := by
  cases h; exact ht

theorem keeps_of_fst {α : Type} {x : State × α} {t : State} {a : α} (h : x.1.Keeps p) (e : x = (t, a)) : t.Keeps p := by
  subst e; exact h

theorem keeps_fst {α : Type} {s : State} {a : α} (h : s.Keeps p) : (s, a).1.Keeps p := h

theorem keeps_snd {α : Type} {s : State} {a : α} (h : s.Keeps p) : (a, s).2.Keeps p := h

theorem keeps_elim_fst {α β : Type} {o : Option β} {a : State × α} {f : β → State × α} (ha : a.1.Keeps p)
    (hf : ∀ t, o = some t → (f t).1.Keeps p) : (o.elim a f).1.Keeps p := by
  cases o with
  | none => exact ha
  | some t => exact hf t rfl

theorem keeps_elim_eq {α β : Type} {o : Option β} {a : State × α} {f : β → State × α} (ha : a.1.Keeps p)
    (hf : ∀ t, o = some t → ∀ r, f t = r → r.1.Keeps p) : (o.elim a f).1.Keeps p := keeps_elim_fst ha fun t e => hf t e _ rfl

theorem keeps_eq_fst {α : Type} {x y : State × α} (h : x.1.Keeps p) (e : x = y) : y.1.Keeps p := e ▸ h

theorem keeps_some {s t : State} (h : some s = some t) (hs : s.Keeps p) : t.Keeps p := by
  rw [Option.some.injEq] at h; exact h ▸ hs

theorem keeps_of_eq' {s t : State} (h : s.Keeps p) (e : s = t) : t.Keeps p := e ▸ h

end Sys2Proof.Machine
end

