-- ==== Sys2Proof/Laws/KeepFlags.lean ====
section
/-! SUPPORT. What the operations of Machine/Flags.lean keep: for each, if the invariants hold before it with commands `p` waiting, they
hold after it with the same commands waiting. -/

set_option linter.unusedTactic false

namespace Sys2Proof.Machine

variable {p : List Instr}

theorem State.setReg_keeps : ∀ (a0 : State) a1 a2, State.Keeps p a0 → State.Keeps p (State.setReg a0 a1 a2) := by
  intro a0 a1 a2 h0
  unfold State.setReg
  exact (keeps_mk h0 rfl rfl rfl rfl)

theorem State.bump_keeps : ∀ (a0 : State) a1 a2, State.Keeps p a0 → State.Keeps p (State.bump a0 a1 a2) := by
  intro a0 a1 a2 h0
  unfold State.bump
  exact (State.setReg_keeps _ _ _ h0)

theorem State.setFlag_keeps : ∀ (a0 : State) a1 a2, State.Keeps p a0 → State.Keeps p (State.setFlag a0 a1 a2) := by
  intro a0 a1 a2 h0
  unfold State.setFlag
  exact (State.setReg_keeps _ _ _ h0)

theorem State.clearFlag_keeps : ∀ (a0 : State) a1 a2, State.Keeps p a0 → State.Keeps p (State.clearFlag a0 a1 a2) :=
      by
  intro a0 a1 a2 h0
  unfold State.clearFlag
  exact (State.setReg_keeps _ _ _ h0)

theorem State.bumpSeen_keeps : ∀ (a0 : State) a1 a2 a3, State.Keeps p a0 → State.Keeps p (State.bumpSeen a0 a1 a2 a3)
      := by
  intro a0 a1 a2 a3 h0
  unfold State.bumpSeen
  exact (State.setFlag_keeps _ _ _ (State.bump_keeps _ _ _ h0))

theorem State.bumpSeenN_keeps : ∀ (a0 : State) a1 a2 a3 a4, State.Keeps p a0 → State.Keeps p (State.bumpSeenN a0 a1
      a2 a3 a4) := by
  intro a0 a1 a2 a3 a4 h0
  unfold State.bumpSeenN
  exact (keeps_ite h0 (State.setFlag_keeps _ _ _ (State.bump_keeps _ _ _ h0)))

theorem State.bumpCore_keeps : ∀ (a0 : State) a1 a2 a3, State.Keeps p a0 → State.Keeps p (State.bumpCore a0 a1 a2 a3)
      := by
  intro a0 a1 a2 a3 h0
  unfold State.bumpCore
  exact (State.bump_keeps _ _ _ h0)

theorem State.count_keeps : ∀ (a0 : State) a1, State.Keeps p a0 → State.Keeps p (State.count a0 a1) := by
  intro a0 a1 h0
  unfold State.count
  exact (keeps_ite h0 (State.bump_keeps _ _ _ h0))

theorem State.logEvent_keeps : ∀ (a0 : State) a1 a2 a3 a4, State.Keeps p a0 → State.Keeps p (State.logEvent a0 a1 a2 a3 a4) := by
  intro s a1 a2 a3 a4 h
  unfold State.logEvent
  split
  · refine ⟨⟨h.inv.near, h.inv.tile, h.inv.ninths, ?_, h.inv.dbgLog, h.inv.txnTable⟩, h.pending⟩
    simp only [List.length_take]; omega
  · exact h

theorem State.countLog_keeps : ∀ (a0 : State) a1 a2 a3 a4, State.Keeps p a0 → State.Keeps p (State.countLog a0 a1 a2
      a3 a4) := by
  intro a0 a1 a2 a3 a4 h0
  unfold State.countLog
  exact (State.logEvent_keeps _ _ _ _ _ (State.count_keeps _ _ h0))

theorem State.faultRec_keeps : ∀ (a0 : State) a1 a2 a3, State.Keeps p a0 → State.Keeps p (State.faultRec a0 a1 a2 a3)
      := by
  intro a0 a1 a2 a3 h0
  unfold State.faultRec
  exact (State.setFlag_keeps _ _ _ (keeps_ite h0 (keeps_foldl (fun x2 x3 h1 => (State.setReg_keeps _ _ _ h1)) h0)))

theorem State.refusedWrite_keeps : ∀ (a0 : State), State.Keeps p a0 → State.Keeps p (State.refusedWrite a0) := by
  intro a0 h0
  unfold State.refusedWrite
  exact (State.count_keeps _ _ h0)

end Sys2Proof.Machine
end

