-- ==== Sys2Proof/Laws/KeepOps.lean ====
section
/-! SUPPORT. What the operations of Machine/Ops.lean keep: for each, if the invariants hold before it with commands `p` waiting, they
hold after it with the same commands waiting. -/

set_option linter.unusedTactic false

namespace Sys2Proof.Machine

variable {p : List Instr}

theorem State.freeBytes_keeps : ∀ (a0 : State) a1, State.Keeps p a0 → State.Keeps p (State.freeBytes a0 a1).2 := by
  intro a0 a1 h0
  unfold State.freeBytes
  exact (keeps_snd (keeps_mk h0 rfl rfl rfl rfl))

theorem State.freeWord_keeps : ∀ (a0 : State), State.Keeps p a0 → State.Keeps p (State.freeWord a0).2 := by
  intro a0 h0
  unfold State.freeWord
  exact (keeps_snd (keeps_mk h0 rfl rfl rfl rfl))

theorem State.setChan_keeps : ∀ (a0 : State) a1 a2, State.Keeps p a0 → State.Keeps p (State.setChan a0 a1 a2) := by
  intro a0 a1 a2 h0
  unfold State.setChan
  exact (keeps_mk h0 rfl rfl rfl rfl)

theorem State.noteUncorr_keeps : ∀ (a0 : State) a1, State.Keeps p a0 → State.Keeps p (State.noteUncorr a0 a1) := by
  intro a0 a1 h0
  unfold State.noteUncorr
  exact (State.logEvent_keeps _ _ _ _ _ (State.bumpSeen_keeps _ _ _ _ (keeps_ite h0 (State.setReg_keeps _ _ _ h0))))

theorem State.noteCorrected_keeps : ∀ (a0 : State) a1, State.Keeps p a0 → State.Keeps p (State.noteCorrected a0 a1)
      := by
  intro a0 a1 h0
  unfold State.noteCorrected
  exact (State.bumpSeen_keeps _ _ _ _ h0)

theorem State.putNear_keeps : ∀ (a0 : State) a1 a2, State.Keeps p a0 → State.Keeps p (State.putNear a0 a1 a2) := by
  intro s a1 a2 h
  exact ⟨⟨Memory.wf_storeBytes _ _ _ h.inv.near, h.inv.tile, h.inv.ninths, h.inv.log, h.inv.dbgLog, h.inv.txnTable⟩, h.pending⟩

theorem State.putTile_keeps : ∀ (a0 : State) a1 a2 a3, State.Keeps p a0 → State.Keeps p (State.putTile a0 a1 a2 a3) := by
  intro s a1 a2 a3 h
  exact ⟨⟨h.inv.near, Memory.wf_storeBytes _ _ _ h.inv.tile, h.inv.ninths, h.inv.log, h.inv.dbgLog, h.inv.txnTable⟩, h.pending⟩

theorem State.noteTileUncorr_keeps : ∀ (a0 : State) a1 a2, State.Keeps p a0 → State.Keeps p (State.noteTileUncorr a0
      a1 a2) := by
  intro a0 a1 a2 h0
  unfold State.noteTileUncorr
  exact (State.logEvent_keeps _ _ _ _ _ (State.bumpSeen_keeps _ _ _ _ (keeps_ite h0 (State.setReg_keeps _ _ _ h0))))

theorem State.havocTile_keeps : ∀ (a0 : State) a1 a2 a3, State.Keeps p a0 → State.Keeps p (State.havocTile a0 a1 a2
      a3) := by
  intro a0 a1 a2 a3 h0
  unfold State.havocTile
  exact (State.putTile_keeps _ _ _ _ (State.freeBytes_keeps _ _ h0))

theorem State.putTag_keeps : ∀ (a0 : State) a1 a2 a3, State.Keeps p a0 → State.Keeps p (State.putTag a0 a1 a2 a3) :=
      by
  intro a0 a1 a2 a3 h0
  unfold State.putTag
  exact (State.putTile_keeps _ _ _ _ h0)

theorem State.writeTag_keeps : ∀ (a0 : State) a1 a2 a3 a4, State.Keeps p a0 → State.Keeps p (State.writeTag a0 a1 a2
      a3 a4) := by
  intro a0 a1 a2 a3 a4 h0
  unfold State.writeTag
  exact (State.putTile_keeps _ _ _ _ h0)

theorem State.putCodes_keeps : ∀ (a0 : State) a1 a2 a3 a4 a5 a6, State.Keeps p a0 → State.Keeps p (State.putCodes a0
      a1 a2 a3 a4 a5 a6) := by
  intro a0 a1 a2 a3 a4 a5 a6 h0
  unfold State.putCodes
  exact (State.putTile_keeps _ _ _ _ h0)

theorem State.putRow_keeps : ∀ (a0 : State) a1 a2 a3 a4 a5, State.Keeps p a0 → State.Keeps p (State.putRow a0 a1 a2
      a3 a4 a5).1 := by
  intro a0 a1 a2 a3 a4 a5 h0
  unfold State.putRow
  exact (keeps_ite_fst (keeps_foldl_fst (fun x1 x2 h3 => (keeps_fst (State.putTile_keeps _ _ _ _
      (State.putCodes_keeps _ _ _ _ _ _ _ h3)))) h0) (keeps_fst (State.putCodes_keeps _ _ _ _ _ _ _ h0)))

theorem State.putTileVals_keeps : ∀ (a0 : State) a1 a2 a3 a4 a5 a6, State.Keeps p a0 → State.Keeps p
      (State.putTileVals a0 a1 a2 a3 a4 a5 a6).1 := by
  intro a0 a1 a2 a3 a4 a5 a6 h0
  unfold State.putTileVals
  exact (keeps_foldl_fst (fun x1 x2 h3 => (keeps_fst (State.putRow_keeps _ _ _ _ _ _ h3))) h0)

theorem State.havocTileAt_keeps : ∀ (a0 : State) a1 a2 a3 a4 a5, State.Keeps p a0 → State.Keeps p (State.havocTileAt
      a0 a1 a2 a3 a4 a5) := by
  intro a0 a1 a2 a3 a4 a5 h0
  unfold State.havocTileAt
  exact (keeps_foldl (fun x2 x3 h1 => (State.havocTile_keeps _ _ _ _ h1)) h0)

end Sys2Proof.Machine
end

