-- ==== Sys2Proof/Laws/KeepOperands.lean ====
section
/-! SUPPORT. What the operations of Machine/Operands.lean keep: for each, if the invariants hold before it with commands `p` waiting, they
hold after it with the same commands waiting. -/

set_option linter.unusedTactic false

namespace Sys2Proof.Machine

variable {p : List Instr}

theorem State.setCore_keeps : ∀ (a0 : State) a1 a2, State.Keeps p a0 → State.Keeps p (State.setCore a0 a1 a2) := by
  intro a0 a1 a2 h0
  unfold State.setCore
  exact (keeps_mk h0 rfl rfl rfl rfl)

end Sys2Proof.Machine
end

