-- ==== Sys2Proof/Laws/KeepWearOps.lean ====
section
/-! SUPPORT. What the operations of Machine/WearOps.lean keep: for each, if the invariants hold before it with commands `p` waiting, they
hold after it with the same commands waiting. -/

set_option linter.unusedTactic false

namespace Sys2Proof.Machine

variable {p : List Instr}

theorem State.setLife_keeps : ∀ (a0 : State) a1 a2, State.Keeps p a0 → State.Keeps p (State.setLife a0 a1 a2) := by
  intro a0 a1 a2 h0
  unfold State.setLife
  exact (keeps_mk h0 rfl rfl rfl rfl)

theorem State.lifeAdd_keeps : ∀ (a0 : State) a1 a2, State.Keeps p a0 → State.Keeps p (State.lifeAdd a0 a1 a2) := by
  intro a0 a1 a2 h0
  unfold State.lifeAdd
  exact (State.setLife_keeps _ _ _ h0)

theorem State.lifeMax_keeps : ∀ (a0 : State) a1 a2, State.Keeps p a0 → State.Keeps p (State.lifeMax a0 a1 a2) := by
  intro a0 a1 a2 h0
  unfold State.lifeMax
  exact (keeps_ite (State.setLife_keeps _ _ _ h0) h0)

theorem State.sendEvent_keeps : ∀ (a0 : State), State.Keeps p a0 → State.Keeps p (State.sendEvent a0) := by
  intro a0 h0
  unfold State.sendEvent
  exact (keeps_mk (State.bump_keeps _ _ _ h0) rfl rfl rfl rfl)

theorem State.devChanged_keeps : ∀ (a0 : State) a1, State.Keeps p a0 → State.Keeps p (State.devChanged a0 a1) := by
  intro a0 a1 h0
  unfold State.devChanged
  exact (keeps_ite h0 (by split; (exact (State.bump_keeps _ _ _ h0)); (exact (keeps_ite (keeps_mk h0 rfl rfl rfl rfl) (keeps_ite (State.sendEvent_keeps _ h0) (keeps_mk h0 rfl rfl rfl rfl)))); (exact (keeps_ite (State.sendEvent_keeps _ h0) (keeps_mk h0 rfl rfl rfl rfl)))))

theorem State.evalFitness_keeps : ∀ (a0 : State), State.Keeps p a0 → State.Keeps p (State.evalFitness a0) := by
  intro a0 h0
  unfold State.evalFitness
  exact (State.devChanged_keeps _ _ (keeps_mk (keeps_ite (State.countLog_keeps _ _ _ _ _ (State.lifeAdd_keeps _ _ _
      (keeps_ite (State.lifeAdd_keeps _ _ _ h0) h0))) (keeps_ite (State.lifeAdd_keeps _ _ _ h0) h0)) rfl rfl rfl rfl))

theorem State.record_keeps : ∀ (a0 : State) a1, State.Keeps p a0 → State.Keeps p (State.record a0 a1) := by
  intro a0 a1 h0
  unfold State.record
  exact (keeps_ite (State.evalFitness_keeps _ (keeps_mk h0 rfl rfl rfl rfl)) (State.setFlag_keeps _ _ _ (keeps_mk h0
      rfl rfl rfl rfl)))

theorem State.recordCore_keeps : ∀ (a0 : State) a1 a2, State.Keeps p a0 → State.Keeps p (State.recordCore a0 a1 a2)
      := by
  intro a0 a1 a2 h0
  unfold State.recordCore
  exact (keeps_ite (State.setFlag_keeps _ _ _ (keeps_mk h0 rfl rfl rfl rfl)) (State.record_keeps _ _ h0))

theorem State.spareUsed_keeps : ∀ (a0 : State), State.Keeps p a0 → State.Keeps p (State.spareUsed a0) := by
  intro a0 h0
  unfold State.spareUsed
  exact (State.bumpSeen_keeps _ _ _ _ h0)

theorem State.retired_keeps : ∀ (a0 : State), State.Keeps p a0 → State.Keeps p (State.retired a0) := by
  intro a0 h0
  unfold State.retired
  exact (State.bumpSeen_keeps _ _ _ _ h0)

theorem State.pageOffline_keeps : ∀ (a0 : State) a1, State.Keeps p a0 → State.Keeps p (State.pageOffline a0 a1) := by
  intro a0 a1 h0
  unfold State.pageOffline
  exact (keeps_ite h0 (State.evalFitness_keeps _ (State.countLog_keeps _ _ _ _ _ (State.record_keeps _ _
      (State.retired_keeps _ (keeps_mk h0 rfl rfl rfl rfl))))))

theorem State.wornRow_keeps : ∀ (a0 : State) a1 a2 a3 a4, State.Keeps p a0 → State.Keeps p (State.wornRow a0 a1 a2 a3
      a4) := by
  intro a0 a1 a2 a3 a4 h0
  unfold State.wornRow
  exact (keeps_ite (State.evalFitness_keeps _ (State.lifeAdd_keeps _ _ _ (State.record_keeps _ _
      (State.spareUsed_keeps _ (keeps_mk h0 rfl rfl rfl rfl))))) (keeps_ite (State.evalFitness_keeps _
      (State.lifeAdd_keeps _ _ _ (State.record_keeps _ _ (State.spareUsed_keeps _ (keeps_mk h0 rfl rfl rfl rfl)))))
      (keeps_foldl (fun x2 x3 h1 => (State.pageOffline_keeps _ _ h1)) h0)))

theorem State.wornAt_keeps : ∀ (a0 : State) a1, State.Keeps p a0 → State.Keeps p (State.wornAt a0 a1) := by
  intro a0 a1 h0
  unfold State.wornAt
  exact (State.wornRow_keeps _ _ _ _ _ h0)

theorem State.correctBlock_keeps : ∀ (a0 : State) a1, State.Keeps p a0 → State.Keeps p (State.correctBlock a0 a1) :=
      by
  intro a0 a1 h0
  unfold State.correctBlock
  exact (keeps_ite (State.wornAt_keeps _ _ (keeps_mk (State.lifeAdd_keeps _ _ _ (State.noteCorrected_keeps _ _ h0))
      rfl rfl rfl rfl)) (keeps_mk (State.lifeAdd_keeps _ _ _ (State.noteCorrected_keeps _ _ h0)) rfl rfl rfl rfl))

theorem State.spoilBlock_keeps : ∀ (a0 : State) a1, State.Keeps p a0 → State.Keeps p (State.spoilBlock a0 a1) := by
  intro a0 a1 h0
  unfold State.spoilBlock
  exact (keeps_ite h0 (State.wornAt_keeps _ _ (State.lifeAdd_keeps _ _ _ (keeps_mk h0 rfl rfl rfl rfl))))

theorem State.settleBlock_keeps : ∀ (a0 : State) a1 a2, State.Keeps p a0 → State.Keeps p (State.settleBlock a0 a1 a2)
      := by
  intro a0 a1 a2 h0
  unfold State.settleBlock
  exact (keeps_mk (State.putNear_keeps _ _ _ h0) rfl rfl rfl rfl)

theorem State.observeBlock_keeps : ∀ (a0 : State) a1, State.Keeps p a0 → State.Keeps p (State.observeBlock a0 a1) := by
  intro a0 a1 h0
  unfold State.observeBlock
  exact (keeps_ite h0 (by (try dsimp only); split; (exact (State.settleBlock_keeps _ _ _ h0)); (exact (State.correctBlock_keeps _ _ (State.settleBlock_keeps _ _ _ h0))); (exact (State.spoilBlock_keeps _ _ h0))))

theorem State.wornTile_keeps : ∀ (a0 : State) a1 a2, State.Keeps p a0 → State.Keeps p (State.wornTile a0 a1 a2) := by
  intro a0 a1 a2 h0
  unfold State.wornTile
  exact (keeps_ite h0 (keeps_mk h0 rfl rfl rfl rfl))

theorem State.observeWord_keeps : ∀ (a0 : State) a1 a2, State.Keeps p a0 → State.Keeps p (State.observeWord a0 a1 a2)
      := by
  intro a0 a1 a2 h0
  unfold State.observeWord
  exact (keeps_ite (keeps_ite (State.wornTile_keeps _ _ _ (keeps_mk (State.bumpSeen_keeps _ _ _ _ (keeps_mk h0 rfl
      rfl rfl rfl)) rfl rfl rfl rfl)) (keeps_mk (State.bumpSeen_keeps _ _ _ _ (keeps_mk h0 rfl rfl rfl rfl)) rfl rfl
      rfl rfl)) (State.wornTile_keeps _ _ _ (keeps_mk (keeps_mk h0 rfl rfl rfl rfl) rfl rfl rfl rfl)))

theorem State.observeTile_keeps : ∀ (a0 : State) a1 a2, State.Keeps p a0 → State.Keeps p (State.observeTile a0 a1 a2)
      := by
  intro a0 a1 a2 h0
  unfold State.observeTile
  exact (keeps_foldl (fun x2 x3 h1 => (State.observeWord_keeps _ _ _ h1)) h0)

theorem State.loadBuiltins_keeps : ∀ (a0 : State) a1, State.Keeps p a0 → State.Keeps p (State.loadBuiltins a0 a1) :=
      by
  intro a0 a1 h0
  unfold State.loadBuiltins
  exact (keeps_mk h0 rfl rfl rfl rfl)

theorem State.wipeEngines_keeps : ∀ (a0 : State) a1, State.Keeps p a0 → State.Keeps p (State.wipeEngines a0 a1) := by
  intro a0 a1 h0
  unfold State.wipeEngines
  exact (keeps_mk h0 rfl rfl rfl rfl)

theorem State.replaceCore_keeps : ∀ (a0 : State) a1, State.Keeps p a0 → State.Keeps p (State.replaceCore a0 a1) := by
  intro s core h
  have hw := State.wipeEngines_keeps s core h
  unfold State.replaceCore
  dsimp only
  split
  · refine State.evalFitness_keeps _ (State.lifeAdd_keeps _ _ _ (State.recordCore_keeps _ _ _ (State.spareUsed_keeps _
      (State.loadBuiltins_keeps _ _ (State.setCore_keeps _ _ _ ?_)))))
    exact ⟨⟨hw.inv.near, Memory.wf_erase _ (fun k => decide (k / 0x1000000 = core)) hw.inv.tile, hw.inv.ninths, hw.inv.log, hw.inv.dbgLog, hw.inv.txnTable⟩, hw.pending⟩
  · exact State.evalFitness_keeps _ (State.countLog_keeps _ _ _ _ _ (State.lifeAdd_keeps _ _ _ (State.recordCore_keeps _ _ _
      (State.retired_keeps _ (State.setCore_keeps _ _ _ hw)))))

end Sys2Proof.Machine
end

