-- ==== Sys2Proof/Laws/KeepMemOps.lean ====
section
/-! SUPPORT. What the operations of Machine/MemOps.lean keep: for each, if the invariants hold before it with commands `p` waiting, they
hold after it with the same commands waiting. -/

set_option linter.unusedTactic false

namespace Sys2Proof.Machine

variable {p : List Instr}

theorem State.blockGate_keeps : ∀ (a0 : State) a1, State.Keeps p a0 → State.Keeps p (State.blockGate a0 a1).1 := by
  intro a0 a1 h0
  unfold State.blockGate
  exact (by split; (exact (keeps_fst (State.logEvent_keeps _ _ _ _ _ (State.bumpSeen_keeps _ _ _ _ (keeps_mk h0 rfl rfl rfl rfl))))); (exact h0))

theorem State.readBlock_keeps : ∀ (a0 : State) a1, State.Keeps p a0 → State.Keeps p (State.readBlock a0 a1).1 := by
  intro a0 a1 h0
  unfold State.readBlock
  exact (by (try dsimp only); split; (exact (keeps_ite_fst (keeps_fst (State.noteUncorr_keeps _ _ (State.observeBlock_keeps _ _ (State.blockGate_keeps _ _ h0)))) (keeps_fst (State.observeBlock_keeps _ _ (State.blockGate_keeps _ _ h0))))); (exact (keeps_fst (State.blockGate_keeps _ _ h0))))

theorem State.readNear_keeps : ∀ (a0 : State) a1 a2, State.Keeps p a0 → State.Keeps p (State.readNear a0 a1 a2).1 :=
      by
  intro a0 a1 a2 h0
  unfold State.readNear
  exact (keeps_fst (keeps_foldl_fst (fun x1 x2 h3 => (keeps_fst (State.readBlock_keeps _ _ h3))) h0))

theorem State.writeBlock_keeps : ∀ (a0 : State) a1 a2, State.Keeps p a0 → State.Keeps p (State.writeBlock a0 a1 a2).1 := by
  intro a0 a1 a2 h0
  unfold State.writeBlock
  exact (keeps_ite_fst h0 (by (try dsimp only); split; (exact (keeps_ite_fst (keeps_ite_fst (keeps_fst (State.noteUncorr_keeps _ _ (State.observeBlock_keeps _ _ (State.blockGate_keeps _ _ h0)))) (keeps_fst (State.putNear_keeps _ _ _ (State.observeBlock_keeps _ _ (State.blockGate_keeps _ _ h0))))) (keeps_fst (keeps_mk (State.putNear_keeps _ _ _ (State.blockGate_keeps _ _ h0)) rfl rfl rfl rfl)))); (exact (keeps_fst (State.blockGate_keeps _ _ h0)))))

theorem State.writeNear_keeps : ∀ (a0 : State) a1 a2, State.Keeps p a0 → State.Keeps p (State.writeNear a0 a1 a2).1
      := by
  intro a0 a1 a2 h0
  unfold State.writeNear
  exact (keeps_foldl_fst (fun x1 x2 h3 => (keeps_fst (State.writeBlock_keeps _ _ _ h3))) h0)

theorem State.havocNear_keeps : ∀ (a0 : State) a1 a2, State.Keeps p a0 → State.Keeps p (State.havocNear a0 a1 a2) :=
      by
  intro a0 a1 a2 h0
  unfold State.havocNear
  exact (keeps_foldl (fun x2 x3 h1 => (keeps_ite h1 (State.putNear_keeps _ _ _ h1))) (State.freeBytes_keeps _ _ h0))

theorem State.meetTile_keeps : ∀ (a0 : State) a1 a2, State.Keeps p a0 → State.Keeps p (State.meetTile a0 a1 a2).1 := by
  intro a0 a1 a2 h0
  unfold State.meetTile
  exact (by (try dsimp only); split; (exact (keeps_fst (State.noteTileUncorr_keeps _ _ _ (State.observeTile_keeps _ _ _ h0)))); (exact (keeps_fst (State.observeTile_keeps _ _ _ h0))))

theorem State.readTile_keeps : ∀ (a0 : State) a1 a2 a3, State.Keeps p a0 → State.Keeps p (State.readTile a0 a1 a2
      a3).1 := by
  intro a0 a1 a2 a3 h0
  unfold State.readTile
  exact (keeps_fst (State.meetTile_keeps _ _ _ h0))

theorem State.upset_keeps : ∀ (a0 : State) a1, State.Keeps p a0 → State.Keeps p (State.upset a0 a1) := by
  intro a0 a1 h0
  unfold State.upset
  exact (by split; (exact (keeps_ite h0 (keeps_mk h0 rfl rfl rfl rfl))); (exact (keeps_mk h0 rfl rfl rfl rfl)); (exact (by split; (exact (keeps_mk h0 rfl rfl rfl rfl)); (exact h0))))

end Sys2Proof.Machine
end

