-- ==== Sys2Proof/Laws/KeepFabOps.lean ====
section
/-! SUPPORT. What the operations of Machine/FabOps.lean keep: for each, if the invariants hold before it with commands `p` waiting, they
hold after it with the same commands waiting. -/

set_option linter.unusedTactic false

namespace Sys2Proof.Machine

variable {p : List Instr}

theorem State.setPort_keeps : ∀ (a0 : State) a1 a2, State.Keeps p a0 → State.Keeps p (State.setPort a0 a1 a2) := by
  intro a0 a1 a2 h0
  unfold State.setPort
  exact (keeps_mk h0 rfl rfl rfl rfl)

theorem State.enqueue_keeps : ∀ (a0 : State) a1 a2, State.Keeps p a0 → State.Keeps p (State.enqueue a0 a1 a2) := by
  intro a0 a1 a2 h0
  unfold State.enqueue
  exact (State.bump_keeps _ _ _ (State.setPort_keeps _ _ _ h0))

theorem State.forward_keeps : ∀ (a0 : State) a1, State.Keeps p a0 → State.Keeps p (State.forward a0 a1).1 := by
  intro a0 a1 h0
  unfold State.forward
  exact (by split; (exact (keeps_fst (State.enqueue_keeps _ _ _ h0))); (exact (keeps_fst (State.logEvent_keeps _ _ _ _ _ (State.bumpSeen_keeps _ _ _ _ h0)))))

theorem State.sendOn_keeps : ∀ (a0 : State) a1, State.Keeps p a0 → State.Keeps p (State.sendOn a0 a1) := by
  intro a0 a1 h0
  unfold State.sendOn
  exact (keeps_ite (State.forward_keeps _ _ h0) (State.count_keeps _ _ (State.forward_keeps _ _ h0)))

theorem State.transit_keeps : ∀ (a0 : State) a1 a2, State.Keeps p a0 → State.Keeps p (State.transit a0 a1 a2).1 := by
  intro a0 a1 a2 h0
  unfold State.transit
  exact (by (try dsimp only); split; (exact (State.forward_keeps _ _ h0)); (exact (keeps_ite_fst (State.forward_keeps _ _ h0) (State.forward_keeps _ _ h0))))

theorem State.request_keeps : ∀ (a0 : State) a1 a2, State.Keeps p a0 → State.Keeps p (State.request a0 a1 a2).1 := by
  intro a0 a1 a2 h0
  unfold State.request
  exact (keeps_ite_fst (State.forward_keeps _ _ (keeps_mk h0 rfl rfl rfl rfl)) (keeps_fst (keeps_mk
      (State.forward_keeps _ _ (keeps_mk h0 rfl rfl rfl rfl)) rfl rfl rfl rfl)))

theorem State.dropRequests_keeps : ∀ (a0 : State) a1, State.Keeps p a0 → State.Keeps p (State.dropRequests a0 a1) :=
      by
  intro a0 a1 h0
  unfold State.dropRequests
  exact (keeps_mk (keeps_foldl (fun x2 x3 h1 => (State.setPort_keeps _ _ _ h1)) h0) rfl rfl rfl rfl)

theorem State.remoteWrite_keeps : ∀ (a0 : State) a1 a2 a3 a4, State.Keeps p a0 → State.Keeps p (State.remoteWrite a0
      a1 a2 a3 a4).1 := by
  intro a0 a1 a2 a3 a4 h0
  unfold State.remoteWrite
  exact (keeps_foldl_fst (fun x1 x2 h3 => (keeps_fst (State.request_keeps _ _ _ h3))) h0)

theorem State.remoteRead_keeps : ∀ (a0 : State) a1 a2 a3 a4, State.Keeps p a0 → State.Keeps p (State.remoteRead a0 a1
      a2 a3 a4).1 := by
  intro a0 a1 a2 a3 a4 h0
  unfold State.remoteRead
  exact (keeps_foldl_fst (fun x1 x2 h3 => (keeps_fst (State.request_keeps _ _ _ h3))) h0)

theorem State.answer_keeps : ∀ (a0 : State) a1 a2, State.Keeps p a0 → State.Keeps p (State.answer a0 a1 a2) := by
  intro a0 a1 a2 h0
  unfold State.answer
  exact (State.sendOn_keeps _ _ h0)

end Sys2Proof.Machine
end

