-- ==== Sys2Proof/Laws/KeepQueueOps.lean ====
section
/-! SUPPORT. What the operations of Machine/QueueOps.lean keep: for each, if the invariants hold before it with commands `p` waiting, they
hold after it with the same commands waiting. -/

set_option linter.unusedTactic false

namespace Sys2Proof.Machine

variable {p : List Instr}

theorem State.setQueue_keeps : ∀ (a0 : State) a1 a2, State.Keeps p a0 → State.Keeps p (State.setQueue a0 a1 a2) := by
  intro a0 a1 a2 h0
  unfold State.setQueue
  exact (keeps_mk h0 rfl rfl rfl rfl)

theorem State.stopQueue_keeps : ∀ (a0 : State) a1 a2, State.Keeps p a0 → State.Keeps p (State.stopQueue a0 a1 a2) :=
      by
  intro a0 a1 a2 h0
  unfold State.stopQueue
  exact (keeps_ite h0 (State.setQueue_keeps _ _ _ h0))

theorem State.recordFault_keeps : ∀ (a0 : State) a1 a2 a3 a4, State.Keeps p a0 → State.Keeps p (State.recordFault a0
      a1 a2 a3 a4) := by
  intro a0 a1 a2 a3 a4 h0
  unfold State.recordFault
  exact (State.setQueue_keeps _ _ _ (State.stopQueue_keeps _ _ _ (State.faultRec_keeps _ _ _ _ h0)))

theorem State.endItem_keeps : ∀ (a0 : State) a1 a2, State.Keeps p a0 → State.Keeps p (State.endItem a0 a1 a2) := by
  intro a0 a1 a2 h0
  unfold State.endItem
  exact (by (try dsimp only); split; (exact h0); (exact (keeps_ite (State.bump_keeps _ _ _ (State.count_keeps _ _ (State.setQueue_keeps _ _ _ h0))) (State.recordFault_keeps _ _ _ _ _ (State.count_keeps _ _ (State.setQueue_keeps _ _ _ h0))))))

theorem State.discardItem_keeps : ∀ (a0 : State) a1, State.Keeps p a0 → State.Keeps p (State.discardItem a0 a1) := by
  intro a0 a1 h0
  unfold State.discardItem
  exact (by (try dsimp only); split; (exact h0); (exact (State.setQueue_keeps _ _ _ h0)))

theorem State.queueStatus_keeps : ∀ (a0 : State) a1 a2, State.Keeps p a0 → State.Keeps p (State.queueStatus a0 a1 a2)
      := by
  intro a0 a1 a2 h0
  unfold State.queueStatus
  exact (State.count_keeps _ _ (State.setReg_keeps _ _ _ h0))

theorem State.charge_keeps : ∀ (a0 : State) a1 a2 a3, State.Keeps p a0 → State.Keeps p (State.charge a0 a1 a2 a3) :=
      by
  intro a0 a1 a2 a3 h0
  unfold State.charge
  exact (State.bump_keeps _ _ _ (State.bumpCore_keeps _ _ _ _ (keeps_mk h0 rfl rfl rfl rfl)))

theorem State.passOver_keeps : ∀ (a0 : State) a1 a2, State.Keeps p a0 → State.Keeps p (State.passOver a0 a1 a2) := by
  intro a0 a1 a2 h0
  unfold State.passOver
  exact (State.setQueue_keeps _ _ _ h0)

theorem State.holdFor_keeps : ∀ (a0 : State) a1 a2, State.Keeps p a0 → State.Keeps p (State.holdFor a0 a1 a2) := by
  intro a0 a1 a2 h0
  unfold State.holdFor
  exact (keeps_ite h0 (keeps_mk h0 rfl rfl rfl rfl))

theorem State.served_keeps : ∀ (a0 : State) a1, State.Keeps p a0 → State.Keeps p (State.served a0 a1) := by
  intro a0 a1 h0
  unfold State.served
  exact (keeps_mk h0 rfl rfl rfl rfl)

end Sys2Proof.Machine
end

