-- ==== Sys2Proof/Laws/KeepSyncOps.lean ====
section
/-! SUPPORT. What the operations of Machine/SyncOps.lean keep: for each, if the invariants hold before it with commands `p` waiting, they
hold after it with the same commands waiting. -/

set_option linter.unusedTactic false

namespace Sys2Proof.Machine

variable {p : List Instr}

theorem State.setSem_keeps : ∀ (a0 : State) a1 a2, State.Keeps p a0 → State.Keeps p (State.setSem a0 a1 a2) := by
  intro a0 a1 a2 h0
  unfold State.setSem
  exact (keeps_mk h0 rfl rfl rfl rfl)

theorem State.setBar_keeps : ∀ (a0 : State) a1 a2, State.Keeps p a0 → State.Keeps p (State.setBar a0 a1 a2) := by
  intro a0 a1 a2 h0
  unfold State.setBar
  exact (keeps_mk h0 rfl rfl rfl rfl)

theorem State.syncRec_keeps : ∀ (a0 : State) a1 a2 a3, State.Keeps p a0 → State.Keeps p (State.syncRec a0 a1 a2 a3)
      := by
  intro a0 a1 a2 a3 h0
  unfold State.syncRec
  exact (State.faultRec_keeps _ _ _ _ h0)

theorem State.syncFault_keeps : ∀ (a0 : State) a1 a2 a3, State.Keeps p a0 → State.Keeps p (State.syncFault a0 a1 a2
      a3) := by
  intro a0 a1 a2 a3 h0
  unfold State.syncFault
  exact (State.syncRec_keeps _ _ _ _ (State.count_keeps _ _ h0))

theorem State.setDesc_keeps : ∀ (a0 : State) a1, State.Keeps p a0 → State.Keeps p (State.setDesc a0 a1) := by
  intro a0 a1 h0
  unfold State.setDesc
  exact (keeps_mk h0 rfl rfl rfl rfl)

theorem State.deliver_keeps : ∀ (a0 : State) a1 a2, State.Keeps p a0 → State.Keeps p (State.deliver a0 a1 a2) := by
  intro a0 a1 a2 h0
  unfold State.deliver
  exact (State.setCore_keeps _ _ _ h0)

theorem State.swResult_keeps : ∀ (a0 : State) a1 a2, State.Keeps p a0 → State.Keeps p (State.swResult a0 a1 a2) := by
  intro a0 a1 a2 h0
  unfold State.swResult
  exact (by (try dsimp only); split; (exact (keeps_ite (State.deliver_keeps _ _ _ (State.setReg_keeps _ _ _ (State.setCore_keeps _ _ _ h0))) (State.setReg_keeps _ _ _ (State.setCore_keeps _ _ _ h0)))); (exact (State.setReg_keeps _ _ _ (State.setCore_keeps _ _ _ h0))))

theorem State.satisfy_keeps : ∀ (a0 : State) a1 a2, State.Keeps p a0 → State.Keeps p (State.satisfy a0 a1 a2) := by
  intro a0 a1 a2 h0
  unfold State.satisfy
  exact (by split; (exact (by split; (exact h0); (exact (State.swResult_keeps _ _ _ (State.setSem_keeps _ _ _ h0))))); (exact (by (try dsimp only); split; (exact (by split; (exact (State.setQueue_keeps _ _ _ (keeps_foldl (fun x17 x18 h16 => (State.setSem_keeps _ _ _ h16)) h0))); (exact (keeps_foldl (fun x22 x23 h21 => (State.setSem_keeps _ _ _ h21)) h0)))); (exact (by split; (exact (State.setDesc_keeps _ _ (keeps_foldl (fun x31 x32 h30 => (State.setSem_keeps _ _ _ h30)) h0))); (exact (keeps_foldl (fun x36 x37 h35 => (State.setSem_keeps _ _ _ h35)) h0)))); (exact (by split; (exact (State.setCore_keeps _ _ _ (keeps_foldl (fun x45 x46 h44 => (State.setSem_keeps _ _ _ h44)) h0))); (exact (keeps_foldl (fun x50 x51 h49 => (State.setSem_keeps _ _ _ h49)) h0)))); (exact (by split; (exact (State.setCore_keeps _ _ _ (keeps_foldl (fun x59 x60 h58 => (State.setSem_keeps _ _ _ h58)) h0))); (exact (keeps_foldl (fun x64 x65 h63 => (State.setSem_keeps _ _ _ h63)) h0)))); (exact (keeps_mk (keeps_foldl (fun x70 x71 h69 => (State.setSem_keeps _ _ _ h69)) h0) rfl rfl rfl rfl)); (exact (keeps_foldl (fun x76 x77 h75 => (State.setSem_keeps _ _ _ h75)) h0)))))

theorem State.evalSem_keeps : ∀ (a0 : State) a1, State.Keeps p a0 → State.Keeps p (State.evalSem a0 a1) := by
  intro a0 a1 h0
  unfold State.evalSem
  exact (keeps_foldl (fun x2 x3 h1 => (keeps_ite (State.satisfy_keeps _ _ _ h1) h1)) h0)

theorem State.joinSem_keeps : ∀ (a0 : State) a1 a2, State.Keeps p a0 → State.Keeps p (State.joinSem a0 a1 a2) := by
  intro a0 a1 a2 h0
  unfold State.joinSem
  exact (keeps_mk (State.setSem_keeps _ _ _ h0) rfl rfl rfl rfl)

theorem State.registerWait_keeps : ∀ (a0 : State) a1 a2, State.Keeps p a0 → State.Keeps p (State.registerWait a0 a1 a2).1 := by
  intro a0 a1 a2 h0
  unfold State.registerWait
  exact (by split; (exact (keeps_fst (State.syncRec_keeps _ _ _ _ h0))); (exact (by (try dsimp only); split; (exact (keeps_fst (keeps_foldl (fun x9 x10 h8 => (State.joinSem_keeps _ _ _ h8)) h0))); (exact (keeps_fst (State.evalSem_keeps _ _ (keeps_foldl (fun x16 x17 h15 => (State.joinSem_keeps _ _ _ h15)) h0)))))))

theorem State.semAdd_keeps : ∀ (a0 : State) a1 a2, State.Keeps p a0 → State.Keeps p (State.semAdd a0 a1 a2).1 := by
  intro a0 a1 a2 h0
  unfold State.semAdd
  exact (by (try dsimp only); split; (exact h0); (exact h0); (exact (keeps_fst (State.evalSem_keeps _ _ (State.setSem_keeps _ _ _ (keeps_ite (State.bumpSeen_keeps _ _ _ _ h0) h0))))))

theorem State.semSub_keeps : ∀ (a0 : State) a1 a2, State.Keeps p a0 → State.Keeps p (State.semSub a0 a1 a2).1 := by
  intro a0 a1 a2 h0
  unfold State.semSub
  exact (by (try dsimp only); split; (exact h0); (exact h0); (exact (keeps_ite_fst (keeps_fst (State.setSem_keeps _ _ _ h0)) (keeps_fst (State.bumpSeen_keeps _ _ _ _ h0)))))

theorem State.semInitOp_keeps : ∀ (a0 : State) a1 a2 a3, State.Keeps p a0 → State.Keeps p (State.semInitOp a0 a1 a2 a3).1 := by
  intro a0 a1 a2 a3 h0
  unfold State.semInitOp
  exact (by (try dsimp only); split; (exact (by split; (exact (keeps_fst (State.setSem_keeps _ _ _ h0))); (exact h0))); (exact h0))

theorem State.semFreeOp_keeps : ∀ (a0 : State) a1, State.Keeps p a0 → State.Keeps p (State.semFreeOp a0 a1).1 := by
  intro a0 a1 h0
  unfold State.semFreeOp
  exact (by (try dsimp only); split; (exact h0); (exact (keeps_ite_fst (keeps_fst (State.setSem_keeps _ _ _ h0)) h0)))

theorem State.signalSem_keeps : ∀ (a0 : State) a1, State.Keeps p a0 → State.Keeps p (State.signalSem a0 a1) := by
  intro a0 a1 h0
  unfold State.signalSem
  exact (keeps_ite (State.semAdd_keeps _ _ _ h0) (State.syncFault_keeps _ _ _ _ (State.semAdd_keeps _ _ _ h0)))

theorem State.signalOpt_keeps : ∀ (a0 : State) a1, State.Keeps p a0 → State.Keeps p (State.signalOpt a0 a1) := by
  intro a0 a1 h0
  unfold State.signalOpt
  exact (by split; (exact (State.signalSem_keeps _ _ h0)); (exact h0))

theorem State.failDesc_keeps : ∀ (a0 : State) a1 a2, State.Keeps p a0 → State.Keeps p (State.failDesc a0 a1 a2) := by
  intro a0 a1 a2 h0
  unfold State.failDesc
  exact (State.recordFault_keeps _ _ _ _ _ (by split; (exact (State.bumpCore_keeps _ _ _ _ (State.count_keeps _ _ (State.setQueue_keeps _ _ _ (keeps_mk h0 rfl rfl rfl rfl))))); (exact (State.bumpSeen_keeps _ _ _ _ (State.count_keeps _ _ (State.setQueue_keeps _ _ _ (keeps_mk h0 rfl rfl rfl rfl))))); (exact (State.count_keeps _ _ (State.setQueue_keeps _ _ _ (keeps_mk h0 rfl rfl rfl rfl))))))

theorem State.endSw_keeps : ∀ (a0 : State) a1 a2 a3, State.Keeps p a0 → State.Keeps p (State.endSw a0 a1 a2 a3) := by
  intro a0 a1 a2 a3 h0
  unfold State.endSw
  exact (keeps_ite (State.setReg_keeps _ _ _ (State.swResult_keeps _ _ _ h0)) (State.bumpSeen_keeps _ _ _ _
      (State.count_keeps _ _ (State.setReg_keeps _ _ _ (State.swResult_keeps _ _ _ h0)))))

theorem State.dropWaiter_keeps : ∀ (a0 : State) a1, State.Keeps p a0 → State.Keeps p (State.dropWaiter a0 a1) := by
  intro a0 a1 h0
  unfold State.dropWaiter
  exact (keeps_mk h0 rfl rfl rfl rfl)

theorem State.failChain_keeps : ∀ (a0 : State) a1 a2, State.Keeps p a0 → State.Keeps p (State.failChain a0 a1 a2) := by
  intro a0 a1 a2 h0
  unfold State.failChain
  exact (by split; (exact (State.endItem_keeps _ _ _ (State.setCore_keeps _ _ _ (State.dropRequests_keeps _ _ (State.dropWaiter_keeps _ _ (State.dropWaiter_keeps _ _ h0)))))); (exact h0))

theorem State.releaseWaiter_keeps : ∀ (a0 : State) a1 a2, State.Keeps p a0 → State.Keeps p (State.releaseWaiter a0 a1 a2) := by
  intro a0 a1 a2 h0
  unfold State.releaseWaiter
  exact (by split; (exact (State.endItem_keeps _ _ _ h0)); (exact (by split; (exact (State.failDesc_keeps _ _ _ h0)); (exact h0))); (exact (State.endSw_keeps _ _ _ _ h0)); (exact (State.failChain_keeps _ _ _ h0)); (exact (State.failChain_keeps _ _ _ h0)); (exact (keeps_mk h0 rfl rfl rfl rfl)))

theorem State.releaseAll_keeps : ∀ (a0 : State) a1 a2, State.Keeps p a0 → State.Keeps p (State.releaseAll a0 a1 a2)
      := by
  intro a0 a1 a2 h0
  unfold State.releaseAll
  exact (keeps_foldl (fun x2 x3 h1 => (State.releaseWaiter_keeps _ _ _ (State.dropWaiter_keeps _ _
      (State.syncRec_keeps _ _ _ _ h1)))) h0)

theorem State.poisonSem_keeps : ∀ (a0 : State) a1, State.Keeps p a0 → State.Keeps p (State.poisonSem a0 a1) := by
  intro a0 a1 h0
  unfold State.poisonSem
  exact (keeps_ite h0 (keeps_ite (State.countLog_keeps _ _ _ _ _ (State.bump_keeps _ _ _ (State.bumpSeen_keeps _ _ _
      _ (State.releaseAll_keeps _ _ _ (State.setSem_keeps _ _ _ h0))))) (State.logEvent_keeps _ _ _ _ _
      (State.bump_keeps _ _ _ (State.bumpSeen_keeps _ _ _ _ (State.releaseAll_keeps _ _ _ (State.setSem_keeps _ _ _
      h0)))))))

theorem State.releaseBar_keeps : ∀ (a0 : State) a1 a2 a3, State.Keeps p a0 → State.Keeps p (State.releaseBar a0 a1 a2
      a3) := by
  intro a0 a1 a2 a3 h0
  unfold State.releaseBar
  exact (keeps_foldl (fun x2 x3 h1 => (keeps_ite (State.endSw_keeps _ _ _ _ h1) (State.endSw_keeps _ _ _ _
      (State.syncRec_keeps _ _ _ _ h1)))) (State.setBar_keeps _ _ _ h0))

theorem State.sendSync_keeps : ∀ (a0 : State) a1 a2 a3 a4, State.Keeps p a0 → State.Keeps p (State.sendSync a0 a1 a2
      a3 a4) := by
  intro a0 a1 a2 a3 a4 h0
  unfold State.sendSync
  exact (State.sendOn_keeps _ _ h0)

theorem State.treeSend_keeps : ∀ (a0 : State) a1 a2 a3 a4 a5, State.Keeps p a0 → State.Keeps p (State.treeSend a0 a1 a2 a3 a4 a5) := by
  intro a0 a1 a2 a3 a4 a5 h0
  unfold State.treeSend
  exact (keeps_foldl (fun x2 x3 h1 => (State.sendSync_keeps _ _ _ _ _ h1)) (keeps_foldl (fun x5 x6 h4 => (by split; (exact (State.enqueue_keeps _ _ _ h4)); (exact h4))) h0))

theorem State.completeRound_keeps : ∀ (a0 : State) a1, State.Keeps p a0 → State.Keeps p (State.completeRound a0 a1)
      := by
  intro a0 a1 h0
  unfold State.completeRound
  exact (keeps_ite (State.signalSem_keeps _ _ (State.releaseBar_keeps _ _ _ _ (State.setBar_keeps _ _ _ h0)))
      (State.releaseBar_keeps _ _ _ _ (State.setBar_keeps _ _ _ h0)))

theorem State.overrunBar_keeps : ∀ (a0 : State) a1 a2, State.Keeps p a0 → State.Keeps p (State.overrunBar a0 a1 a2)
      := by
  intro a0 a1 a2 h0
  unfold State.overrunBar
  exact (State.logEvent_keeps _ _ _ _ _ (State.bumpSeen_keeps _ _ _ _ (State.releaseBar_keeps _ _ _ _
      (State.setBar_keeps _ _ _ h0))))

theorem State.poisonBarHere_keeps : ∀ (a0 : State) a1, State.Keeps p a0 → State.Keeps p (State.poisonBarHere a0 a1)
      := by
  intro a0 a1 h0
  unfold State.poisonBarHere
  exact (keeps_ite (keeps_ite (State.countLog_keeps _ _ _ _ _ (State.bump_keeps _ _ _ (State.bumpSeen_keeps _ _ _ _
      (State.releaseBar_keeps _ _ _ _ (State.setBar_keeps _ _ _ h0))))) (State.logEvent_keeps _ _ _ _ _
      (State.bump_keeps _ _ _ (State.bumpSeen_keeps _ _ _ _ (State.releaseBar_keeps _ _ _ _ (State.setBar_keeps _ _ _
      h0)))))) h0)

theorem State.spreadFault_keeps : ∀ (a0 : State) a1 a2, State.Keeps p a0 → State.Keeps p (State.spreadFault a0 a1 a2)
      := by
  intro a0 a1 a2 h0
  unfold State.spreadFault
  exact (keeps_ite h0 (keeps_ite (keeps_foldl (fun x2 x3 h1 => (State.sendSync_keeps _ _ _ _ _ h1)) h0)
      (State.sendSync_keeps _ _ _ _ _ h0)))

theorem State.poisonBar_keeps : ∀ (a0 : State) a1, State.Keeps p a0 → State.Keeps p (State.poisonBar a0 a1) := by
  intro a0 a1 h0
  unfold State.poisonBar
  exact (keeps_ite (State.spreadFault_keeps _ _ _ (State.poisonBarHere_keeps _ _ h0)) h0)

theorem State.rootArrival_keeps : ∀ (a0 : State) a1 a2, State.Keeps p a0 → State.Keeps p (State.rootArrival a0 a1
      a2).1 := by
  intro a0 a1 a2 h0
  unfold State.rootArrival
  exact (keeps_ite_fst (keeps_fst (State.treeSend_keeps _ _ _ _ _ _ (State.setBar_keeps _ _ _ h0))) (keeps_fst
      (State.setBar_keeps _ _ _ h0)))

theorem State.settleBar_keeps : ∀ a0 (a1 : State) a2, State.Keeps p a1 → State.Keeps p (State.settleBar a0 a1 a2)
  | 0, v0, v1, h1 => by
    rw [State.settleBar.eq_1]
    exact h1
  | v2 + 1, v0, v1, h1 => by
    rw [State.settleBar.eq_2]
    exact (keeps_ite h1 (keeps_ite (State.settleBar_keeps _ _ _ (State.completeRound_keeps _ _ h1)) (keeps_ite h1
      (keeps_ite (keeps_ite (State.settleBar_keeps _ _ _ (State.completeRound_keeps _ _ (State.rootArrival_keeps _ _
      _ (State.setBar_keeps _ _ _ h1)))) (State.rootArrival_keeps _ _ _ (State.setBar_keeps _ _ _ h1)))
      (State.sendSync_keeps _ _ _ _ _ (State.setBar_keeps _ _ _ h1))))))

theorem State.barArrive_keeps : ∀ (a0 : State) a1 a2, State.Keeps p a0 → State.Keeps p (State.barArrive a0 a1 a2).1 := by
  intro a0 a1 a2 h0
  unfold State.barArrive
  exact (by (try dsimp only); split; (exact h0); (exact h0); (exact h0); (exact (keeps_ite_fst h0 (keeps_ite_fst (keeps_fst (State.settleBar_keeps _ _ _ (State.setBar_keeps _ _ _ h0))) (keeps_ite_fst (keeps_fst (State.setBar_keeps _ _ _ h0)) (keeps_fst (State.spreadFault_keeps _ _ _ (State.overrunBar_keeps _ _ _ h0))))))))

theorem State.barInitOp_keeps : ∀ (a0 : State) a1, State.Keeps p a0 → State.Keeps p (State.barInitOp a0 a1).1 := by
  intro a0 a1 h0
  unfold State.barInitOp
  exact (by (try dsimp only); split; (exact (by split; (exact (keeps_fst (State.setBar_keeps _ _ _ h0))); (exact h0))); (exact h0))

theorem State.barFreeOp_keeps : ∀ (a0 : State) a1, State.Keeps p a0 → State.Keeps p (State.barFreeOp a0 a1).1 := by
  intro a0 a1 h0
  unfold State.barFreeOp
  exact (by (try dsimp only); split; (exact h0); (exact (keeps_ite_fst (keeps_fst (State.setBar_keeps _ _ _ h0)) h0)); (exact (keeps_fst (State.setBar_keeps _ _ _ h0))))

theorem State.barWait_keeps : ∀ (a0 : State) a1 a2 a3, State.Keeps p a0 → State.Keeps p (State.barWait a0 a1 a2 a3).1 := by
  intro a0 a1 a2 a3 h0
  unfold State.barWait
  exact (by (try dsimp only); split; (exact h0); (exact h0); (exact h0); (exact (keeps_ite_fst h0 (keeps_fst (State.setBar_keeps _ _ _ h0)))))

theorem State.poisonOwned_keeps : ∀ (a0 : State) a1, State.Keeps p a0 → State.Keeps p (State.poisonOwned a0 a1) := by
  intro a0 a1 h0
  unfold State.poisonOwned
  exact (keeps_foldl (fun x2 x3 h1 => (keeps_ite (State.poisonBar_keeps _ _ h1) h1)) (keeps_foldl (fun x5 x6 h4 =>
      (keeps_ite (State.poisonSem_keeps _ _ h4) h4)) h0))

theorem State.writeSemCfg_keeps : ∀ (a0 : State) a1 a2, State.Keeps p a0 → State.Keeps p (State.writeSemCfg a0 a1 a2).1 := by
  intro a0 a1 a2 h0
  unfold State.writeSemCfg
  exact (by (try dsimp only); split; (exact (keeps_fst (State.setSem_keeps _ _ _ h0))); (exact h0))

theorem State.writeBarCfg_keeps : ∀ (a0 : State) a1 a2 a3, State.Keeps p a0 → State.Keeps p (State.writeBarCfg a0 a1 a2 a3).1 := by
  intro a0 a1 a2 a3 h0
  unfold State.writeBarCfg
  exact (by (try dsimp only); split; (exact (by split; (exact (keeps_fst (State.setBar_keeps _ _ _ h0))); (exact (keeps_fst (State.setBar_keeps _ _ _ h0))); (exact (keeps_fst (State.setBar_keeps _ _ _ h0))); (exact (keeps_ite_fst h0 (keeps_fst (State.setBar_keeps _ _ _ h0)))))); (exact h0))

end Sys2Proof.Machine
end

