-- ==== Sys2Proof/Laws/KeepCache.lean ====
section
/-! SUPPORT. What the operations of Machine/Cache.lean keep: for each, if the invariants hold before it with commands `p` waiting, they
hold after it with the same commands waiting. -/

set_option linter.unusedTactic false

namespace Sys2Proof.Machine

variable {p : List Instr}

theorem State.setCline_keeps : ∀ (a0 : State) a1 a2 a3 a4, State.Keeps p a0 → State.Keeps p (State.setCline a0 a1 a2
      a3 a4) := by
  intro a0 a1 a2 a3 a4 h0
  unfold State.setCline
  exact (keeps_mk h0 rfl rfl rfl rfl)

theorem State.useWay_keeps : ∀ (a0 : State) a1 a2 a3, State.Keeps p a0 → State.Keeps p (State.useWay a0 a1 a2 a3) :=
      by
  intro a0 a1 a2 a3 h0
  unfold State.useWay
  exact (keeps_mk h0 rfl rfl rfl rfl)

theorem State.dropLr_keeps : ∀ (a0 : State) a1 a2, State.Keeps p a0 → State.Keeps p (State.dropLr a0 a1 a2) := by
  intro a0 a1 a2 h0
  unfold State.dropLr
  exact (by split; (exact (keeps_ite (State.setCore_keeps _ _ _ h0) h0)); (exact h0))

theorem State.dropWbWait_keeps : ∀ (a0 : State) a1 a2, State.Keeps p a0 → State.Keeps p (State.dropWbWait a0 a1 a2)
      := by
  intro a0 a1 a2 h0
  unfold State.dropWbWait
  exact (keeps_mk h0 rfl rfl rfl rfl)

theorem State.writeBack_keeps : ∀ (a0 : State) a1 a2 a3, State.Keeps p a0 → State.Keeps p (State.writeBack a0 a1 a2 a3) := by
  intro a0 a1 a2 a3 h0
  unfold State.writeBack
  exact (by (try dsimp only); split; (exact (keeps_mk (State.writeBlock_keeps _ _ _ (State.bumpCore_keeps _ _ _ _ (State.dropWbWait_keeps _ _ _ h0))) rfl rfl rfl rfl)); (exact (State.count_keeps _ _ (State.writeBlock_keeps _ _ _ (State.bumpCore_keeps _ _ _ _ (State.dropWbWait_keeps _ _ _ h0))))))

theorem State.lineBad_keeps : ∀ (a0 : State) a1 a2, State.Keeps p a0 → State.Keeps p (State.lineBad a0 a1 a2) := by
  intro a0 a1 a2 h0
  unfold State.lineBad
  exact (State.logEvent_keeps _ _ _ _ _ (State.bumpSeen_keeps _ _ _ _ h0))

theorem State.dropWay_keeps : ∀ (a0 : State) a1 a2 a3 a4, State.Keeps p a0 → State.Keeps p (State.dropWay a0 a1 a2 a3
      a4) := by
  intro a0 a1 a2 a3 a4 h0
  unfold State.dropWay
  exact (keeps_ite (keeps_ite (State.count_keeps _ _ (State.lineBad_keeps _ _ _ (keeps_ite (State.dropLr_keeps _ _ _
      (State.setCline_keeps _ _ _ _ _ h0)) (State.setCline_keeps _ _ _ _ _ h0)))) (State.writeBack_keeps _ _ _ _
      (State.bumpCore_keeps _ _ _ _ (keeps_ite (State.dropLr_keeps _ _ _ (State.setCline_keeps _ _ _ _ _ h0))
      (State.setCline_keeps _ _ _ _ _ h0))))) (keeps_ite (State.dropLr_keeps _ _ _ (State.setCline_keeps _ _ _ _ _
      h0)) (State.setCline_keeps _ _ _ _ _ h0)))

theorem State.cacheLine_keeps : ∀ (a0 : State) a1 a2, State.Keeps p a0 → State.Keeps p (State.cacheLine a0 a1 a2).1 := by
  intro a0 a1 a2 h0
  unfold State.cacheLine
  exact (by (try dsimp only); split; (exact (keeps_ite_fst (keeps_fst (State.dropWay_keeps _ _ _ _ _ (State.lineBad_keeps _ _ _ (State.useWay_keeps _ _ _ _ (State.bumpCore_keeps _ _ _ _ h0))))) (keeps_ite_fst (keeps_fst (State.useWay_keeps _ _ _ _ (State.bumpCore_keeps _ _ _ _ h0))) (keeps_fst (State.setCline_keeps _ _ _ _ _ (State.bumpCore_keeps _ _ _ _ (State.useWay_keeps _ _ _ _ (State.bumpCore_keeps _ _ _ _ h0)))))))); (exact (by (try dsimp only); split; (exact (keeps_fst (State.useWay_keeps _ _ _ _ (State.setCline_keeps _ _ _ _ _ (State.dropWay_keeps _ _ _ _ _ (State.readNear_keeps _ _ _ (State.bumpCore_keeps _ _ _ _ h0))))))); (exact (keeps_fst (State.readNear_keeps _ _ _ (State.bumpCore_keeps _ _ _ _ h0)))))))

theorem State.cacheRead_keeps : ∀ (a0 : State) a1 a2 a3, State.Keeps p a0 → State.Keeps p (State.cacheRead a0 a1 a2
      a3).1 := by
  intro a0 a1 a2 a3 h0
  unfold State.cacheRead
  exact (keeps_foldl_fst (fun x1 x2 h3 => (keeps_fst (State.cacheLine_keeps _ _ _ h3))) h0)

theorem State.putLine_keeps : ∀ (a0 : State) a1 a2 a3 a4, State.Keeps p a0 → State.Keeps p (State.putLine a0 a1 a2 a3
      a4) := by
  intro a0 a1 a2 a3 a4 h0
  unfold State.putLine
  exact (State.dropLr_keeps _ _ _ (State.setCline_keeps _ _ _ _ _ h0))

theorem State.cacheWrite_keeps : ∀ (a0 : State) a1 a2 a3, State.Keeps p a0 → State.Keeps p (State.cacheWrite a0 a1 a2 a3).1 := by
  intro a0 a1 a2 a3 h0
  unfold State.cacheWrite
  exact (keeps_foldl_fst (fun x1 x2 h3 => (by (try dsimp only); split; (exact (keeps_fst (State.putLine_keeps _ _ _ _ _ (State.cacheLine_keeps _ _ _ h3)))); (exact (keeps_fst (State.cacheLine_keeps _ _ _ h3))))) h0)

theorem State.maintLine_keeps : ∀ (a0 : State) a1 a2 a3 a4, State.Keeps p a0 → State.Keeps p (State.maintLine a0 a1 a2 a3 a4) := by
  intro a0 a1 a2 a3 a4 h0
  unfold State.maintLine
  exact (by split; (exact h0); (exact (keeps_ite (State.dropWay_keeps _ _ _ _ _ h0) (keeps_ite (keeps_ite (State.dropWay_keeps _ _ _ _ _ h0) (State.writeBack_keeps _ _ _ _ (State.dropLr_keeps _ _ _ (State.setCline_keeps _ _ _ _ _ (State.bumpCore_keeps _ _ _ _ h0))))) (State.dropLr_keeps _ _ _ h0)))))

theorem State.markMaint_keeps : ∀ (a0 : State) a1 a2 a3, State.Keeps p a0 → State.Keeps p (State.markMaint a0 a1 a2
      a3) := by
  intro a0 a1 a2 a3 h0
  unfold State.markMaint
  exact (keeps_mk h0 rfl rfl rfl rfl)

theorem State.maintFail_keeps : ∀ (a0 : State) a1, State.Keeps p a0 → State.Keeps p (State.maintFail a0 a1) := by
  intro a0 a1 h0
  unfold State.maintFail
  exact (State.setFlag_keeps _ _ _ (State.count_keeps _ _ h0))

theorem State.maint_keeps : ∀ (a0 : State) a1 a2 a3, State.Keeps p a0 → State.Keeps p (State.maint a0 a1 a2 a3) := by
  intro a0 a1 a2 a3 h0
  unfold State.maint
  exact (keeps_ite (State.maintFail_keeps _ _ h0) (State.markMaint_keeps _ _ _ _ (keeps_foldl (fun x2 x3 h1 =>
      (State.maintLine_keeps _ _ _ _ _ h1)) h0)))

theorem State.amoAt_keeps : ∀ (a0 : State) a1 a2 a3 a4 a5 a6, State.Keeps p a0 → State.Keeps p (State.amoAt a0 a1 a2 a3 a4 a5 a6).1 := by
  intro a0 a1 a2 a3 a4 a5 a6 h0
  unfold State.amoAt
  exact (keeps_ite_fst h0 (keeps_ite_fst h0 (keeps_ite_fst h0 (keeps_ite_fst h0 (by (try dsimp only); split; (exact (keeps_fst (State.bumpCore_keeps _ _ _ _ (State.putLine_keeps _ _ _ _ _ (State.cacheLine_keeps _ _ _ h0))))); (exact (keeps_fst (State.cacheLine_keeps _ _ _ h0))))))))

theorem State.amoCmd_keeps : ∀ (a0 : State) a1 a2, State.Keeps p a0 → State.Keeps p (State.amoCmd a0 a1 a2) := by
  intro a0 a1 a2 h0
  unfold State.amoCmd
  exact (keeps_ite (State.setReg_keeps _ _ _ (State.setReg_keeps _ _ _ (State.count_keeps _ _ h0)))
      (State.setReg_keeps _ _ _ (State.setReg_keeps _ _ _ (State.count_keeps _ _ (State.amoAt_keeps _ _ _ _ _ _ _
      h0)))))

theorem State.raise_keeps : ∀ (a0 : State) a1 a2 a3, State.Keeps p a0 → State.Keeps p (State.raise a0 a1 a2 a3) := by
  intro a0 a1 a2 a3 h0
  unfold State.raise
  exact (State.setCore_keeps _ _ _ h0)

theorem State.accessFault_keeps : ∀ (a0 : State) a1 a2 a3 a4, State.Keeps p a0 → State.Keeps p (State.accessFault a0
      a1 a2 a3 a4) := by
  intro a0 a1 a2 a3 a4 h0
  unfold State.accessFault
  exact (State.raise_keeps _ _ _ _ (State.count_keeps _ _ h0))

theorem State.rvAmo_keeps : ∀ (a0 : State) a1 a2 a3 a4 a5, State.Keeps p a0 → State.Keeps p (State.rvAmo a0 a1 a2 a3
      a4 a5) := by
  intro a0 a1 a2 a3 a4 a5 h0
  unfold State.rvAmo
  exact (keeps_ite (State.raise_keeps _ _ _ _ h0) (keeps_ite (State.raise_keeps _ _ _ _ h0) (keeps_ite
      (State.deliver_keeps _ _ _ (State.amoAt_keeps _ _ _ _ _ _ _ h0)) (State.accessFault_keeps _ _ _ _ _
      (State.amoAt_keeps _ _ _ _ _ _ _ h0)))))

theorem State.loadReserved_keeps : ∀ (a0 : State) a1 a2 a3, State.Keeps p a0 → State.Keeps p (State.loadReserved a0
      a1 a2 a3) := by
  intro a0 a1 a2 a3 h0
  unfold State.loadReserved
  exact (keeps_ite (State.raise_keeps _ _ _ _ h0) (keeps_ite (State.raise_keeps _ _ _ _ h0) (keeps_ite
      (State.setCore_keeps _ _ _ (State.deliver_keeps _ _ _ (State.cacheRead_keeps _ _ _ _ h0)))
      (State.accessFault_keeps _ _ _ _ _ (State.cacheRead_keeps _ _ _ _ h0)))))

theorem State.storeConditional_keeps : ∀ (a0 : State) a1 a2 a3 a4, State.Keeps p a0 → State.Keeps p
      (State.storeConditional a0 a1 a2 a3 a4) := by
  intro a0 a1 a2 a3 a4 h0
  unfold State.storeConditional
  exact (keeps_ite (State.raise_keeps _ _ _ _ h0) (keeps_ite (State.raise_keeps _ _ _ _ h0) (keeps_ite (keeps_ite
      (State.deliver_keeps _ _ _ (State.cacheWrite_keeps _ _ _ _ (State.setCore_keeps _ _ _ h0)))
      (State.accessFault_keeps _ _ _ _ _ (State.cacheWrite_keeps _ _ _ _ (State.setCore_keeps _ _ _ h0))))
      (State.deliver_keeps _ _ _ (State.setCore_keeps _ _ _ h0)))))

theorem State.byCp_keeps : ∀ (a0 : State) a1 (a2 : State), State.Keeps p a0 → State.Keeps p a2 → State.Keeps p
      (State.byCp a0 a1 a2) := by
  intro a0 a1 a2 h0 h2
  unfold State.byCp
  exact (keeps_ite h2 h0)

theorem State.byRegs_keeps : ∀ (a0 : State) (a1 : State), State.Keeps p a0 → State.Keeps p a1 → State.Keeps p
      (State.byRegs a0 a1) := by
  intro a0 a1 h0 h1
  unfold State.byRegs
  exact (keeps_ite h1 h0)

theorem execRv64aAmo_keeps : ∀ a0 a1 a2 a3 a4 (a5 : State), State.Keeps p a5 → ∀ t, execRv64aAmo a0 a1 a2 a3 a4 a5 =
      .next t → State.Keeps p t := by
  intro a0 a1 a2 a3 a4 a5 h5 t ht
  exact keeps_ifUnit ht (State.byCp_keeps _ _ _ h5 (State.rvAmo_keeps _ _ _ _ _ _ h5))

theorem execLr_keeps : ∀ a0 a1 a2 (a3 : State), State.Keeps p a3 → ∀ t, execLr a0 a1 a2 a3 = .next t → State.Keeps p
      t := by
  intro a0 a1 a2 a3 h3 t ht
  exact keeps_ifUnit ht (State.byCp_keeps _ _ _ h3 (State.loadReserved_keeps _ _ _ _ h3))

theorem execSc_keeps : ∀ a0 a1 a2 a3 (a4 : State), State.Keeps p a4 → ∀ t, execSc a0 a1 a2 a3 a4 = .next t →
      State.Keeps p t := by
  intro a0 a1 a2 a3 a4 h4 t ht
  exact keeps_ifUnit ht (State.byCp_keeps _ _ _ h4 (State.storeConditional_keeps _ _ _ _ _ h4))

theorem execCcClean_keeps : ∀ a0 (a1 : State), State.Keeps p a1 → ∀ t, execCcClean a0 a1 = .next t → State.Keeps p t
      := by
  intro a0 a1 h1 t ht
  exact keeps_ifUnit ht (State.byCp_keeps _ _ _ h1 (State.maint_keeps _ _ _ _ h1))

theorem execCcInvalidate_keeps : ∀ a0 (a1 : State), State.Keeps p a1 → ∀ t, execCcInvalidate a0 a1 = .next t →
      State.Keeps p t := by
  intro a0 a1 h1 t ht
  exact keeps_ifUnit ht (State.byCp_keeps _ _ _ h1 (State.maint_keeps _ _ _ _ h1))

theorem execCcCleanInvalidate_keeps : ∀ a0 (a1 : State), State.Keeps p a1 → ∀ t, execCcCleanInvalidate a0 a1 = .next
      t → State.Keeps p t := by
  intro a0 a1 h1 t ht
  exact keeps_ifUnit ht (State.byCp_keeps _ _ _ h1 (State.maint_keeps _ _ _ _ h1))

theorem execAmoIntegerAdd_keeps : ∀ a0 a1 (a2 : State), State.Keeps p a2 → ∀ t, execAmoIntegerAdd a0 a1 a2 = .next t
      → State.Keeps p t := by
  intro a0 a1 a2 h2 t ht
  exact keeps_ifUnit ht (State.byRegs_keeps _ _ h2 (State.amoCmd_keeps _ _ _ h2))

theorem execAmoSignedMinimum_keeps : ∀ a0 a1 (a2 : State), State.Keeps p a2 → ∀ t, execAmoSignedMinimum a0 a1 a2 =
      .next t → State.Keeps p t := by
  intro a0 a1 a2 h2 t ht
  exact keeps_ifUnit ht (State.byRegs_keeps _ _ h2 (State.amoCmd_keeps _ _ _ h2))

theorem execAmoSignedMaximum_keeps : ∀ a0 a1 (a2 : State), State.Keeps p a2 → ∀ t, execAmoSignedMaximum a0 a1 a2 =
      .next t → State.Keeps p t := by
  intro a0 a1 a2 h2 t ht
  exact keeps_ifUnit ht (State.byRegs_keeps _ _ h2 (State.amoCmd_keeps _ _ _ h2))

theorem execAmoUnsignedMinimum_keeps : ∀ a0 a1 (a2 : State), State.Keeps p a2 → ∀ t, execAmoUnsignedMinimum a0 a1 a2
      = .next t → State.Keeps p t := by
  intro a0 a1 a2 h2 t ht
  exact keeps_ifUnit ht (State.byRegs_keeps _ _ h2 (State.amoCmd_keeps _ _ _ h2))

theorem execAmoUnsignedMaximum_keeps : ∀ a0 a1 (a2 : State), State.Keeps p a2 → ∀ t, execAmoUnsignedMaximum a0 a1 a2
      = .next t → State.Keeps p t := by
  intro a0 a1 a2 h2 t ht
  exact keeps_ifUnit ht (State.byRegs_keeps _ _ h2 (State.amoCmd_keeps _ _ _ h2))

theorem execAmoSwap_keeps : ∀ a0 a1 (a2 : State), State.Keeps p a2 → ∀ t, execAmoSwap a0 a1 a2 = .next t →
      State.Keeps p t := by
  intro a0 a1 a2 h2 t ht
  exact keeps_ifUnit ht (State.byRegs_keeps _ _ h2 (State.amoCmd_keeps _ _ _ h2))

theorem execAmoCompareAndSwap_keeps : ∀ a0 a1 (a2 : State), State.Keeps p a2 → ∀ t, execAmoCompareAndSwap a0 a1 a2 =
      .next t → State.Keeps p t := by
  intro a0 a1 a2 h2 t ht
  exact keeps_ifUnit ht (State.byRegs_keeps _ _ h2 (State.amoCmd_keeps _ _ _ h2))

theorem execAmoFp32Add_keeps : ∀ a0 (a1 : State), State.Keeps p a1 → ∀ t, execAmoFp32Add a0 a1 = .next t →
      State.Keeps p t := by
  intro a0 a1 h1 t ht
  exact keeps_ifUnit ht (State.byRegs_keeps _ _ h1 (State.amoCmd_keeps _ _ _ h1))

theorem execAmoFp32Minimum_keeps : ∀ a0 (a1 : State), State.Keeps p a1 → ∀ t, execAmoFp32Minimum a0 a1 = .next t →
      State.Keeps p t := by
  intro a0 a1 h1 t ht
  exact keeps_ifUnit ht (State.byRegs_keeps _ _ h1 (State.amoCmd_keeps _ _ _ h1))

theorem execAmoFp32Maximum_keeps : ∀ a0 (a1 : State), State.Keeps p a1 → ∀ t, execAmoFp32Maximum a0 a1 = .next t →
      State.Keeps p t := by
  intro a0 a1 h1 t ht
  exact keeps_ifUnit ht (State.byRegs_keeps _ _ h1 (State.amoCmd_keeps _ _ _ h1))

theorem execAmoResultRead_keeps : ∀ a0 (a1 : State), State.Keeps p a1 → ∀ t, execAmoResultRead a0 a1 = .next t →
      State.Keeps p t := by
  intro a0 a1 h1 t ht
  exact keeps_ifUnit ht (State.byCp_keeps _ _ _ h1 (State.deliver_keeps _ _ _ h1))

end Sys2Proof.Machine
end

