-- ==== Sys2Proof/Laws/KeepEngine.lean ====
section
/-! SUPPORT. What the operations of Machine/Engine.lean keep: for each, if the invariants hold before it with commands `p` waiting, they
hold after it with the same commands waiting. -/

set_option linter.unusedTactic false

namespace Sys2Proof.Machine

variable {p : List Instr}

theorem State.takeItem_keeps : ∀ (a0 : State) a1, State.Keeps p a0 → State.Keeps p (State.takeItem a0 a1) := by
  intro a0 a1 h0
  unfold State.takeItem
  exact (keeps_ite (State.endItem_keeps _ _ _ (keeps_mk (State.setQueue_keeps _ _ _ (State.readNear_keeps _ _ _ h0))
      rfl rfl rfl rfl)) (keeps_ite (State.endItem_keeps _ _ _ (State.registerWait_keeps _ _ _ (keeps_mk
      (State.setQueue_keeps _ _ _ (State.readNear_keeps _ _ _ h0)) rfl rfl rfl rfl))) (State.registerWait_keeps _ _ _
      (keeps_mk (State.setQueue_keeps _ _ _ (State.readNear_keeps _ _ _ h0)) rfl rfl rfl rfl))))

/-- An engine whose items keep the invariants. -/
def EngineOps.Keeps (p : List Instr) (E : EngineOps) : Prop := ∀ s q x, State.Keeps p s → State.Keeps p (E.run s q x).1

theorem EngineOps.work_keeps : ∀ a0 (a1 : State) a2 a3, EngineOps.Keeps p a0 → State.Keeps p a1 →
    State.Keeps p (EngineOps.work a0 a1 a2 a3) := by
  intro E s q x hE h
  have hr := hE s q x h
  unfold EngineOps.work
  dsimp only
  split
  · exact hr
  · exact keeps_ite (State.signalOpt_keeps _ _ (State.endItem_keeps _ _ _ hr)) (State.endItem_keeps _ _ _ hr)

theorem EngineOps.begin_keeps : ∀ a0 (a1 : State) a2 a3, EngineOps.Keeps p a0 → State.Keeps p a1 → State.Keeps p
      (EngineOps.begin a0 a1 a2 a3) := by
  intro a0 a1 a2 a3 hE_a0 h1
  unfold EngineOps.begin
  exact (EngineOps.work_keeps _ _ _ _ hE_a0 (State.served_keeps _ _ (State.charge_keeps _ _ _ _ h1)))

theorem EngineOps.tryBegin_keeps : ∀ a0 (a1 : State) a2 a3, EngineOps.Keeps p a0 → State.Keeps p a1 → State.Keeps p (EngineOps.tryBegin a0 a1 a2 a3) := by
  intro a0 a1 a2 a3 hE_a0 h1
  unfold EngineOps.tryBegin
  exact (keeps_ite h1 (keeps_ite (by split; (exact (EngineOps.begin_keeps _ _ _ _ hE_a0 h1)); (exact (State.endItem_keeps _ _ _ (State.served_keeps _ _ h1)))) (State.holdFor_keeps _ _ _ (State.passOver_keeps _ _ _ h1))))

theorem EngineOps.serve_keeps : ∀ a0 (a1 : State) a2 a3, EngineOps.Keeps p a0 → State.Keeps p a1 → State.Keeps p (EngineOps.serve a0 a1 a2 a3) := by
  intro a0 a1 a2 a3 hE_a0 h1
  unfold EngineOps.serve
  exact (keeps_ite h1 (by split; (exact (by split; (exact (keeps_ite (EngineOps.work_keeps _ _ _ _ hE_a0 h1) h1)); (exact h1))); (exact (by (try dsimp only); split; (exact (EngineOps.tryBegin_keeps _ _ _ _ hE_a0 (keeps_ite h1 (State.takeItem_keeps _ _ h1)))); (exact (keeps_ite h1 (State.takeItem_keeps _ _ h1)))))))

theorem ended_keeps : ∀ (a0 : State × _), State.Keeps p a0.1 → State.Keeps p (ended a0).1 := by
  intro a0 h0
  unfold ended
  exact h0

theorem State.busyFor_keeps : ∀ (a0 : State) a1, State.Keeps p a0 → State.Keeps p (State.busyFor a0 a1) := by
  intro a0 a1 h0
  unfold State.busyFor
  exact (State.setReg_keeps _ _ _ (State.freeWord_keeps _ h0))

end Sys2Proof.Machine
end

