-- ==== Sys2Proof/Laws/KeepRowStats.lean ====
section
/-! SUPPORT. What the operations of Machine/RowStats.lean keep: for each, if the invariants hold before it with commands `p` waiting, they
hold after it with the same commands waiting. -/

set_option linter.unusedTactic false

namespace Sys2Proof.Machine

variable {p : List Instr}

theorem State.putRecRow_keeps : ∀ (a0 : State) a1 a2 a3 a4, State.Keeps p a0 → State.Keeps p (State.putRecRow a0 a1
      a2 a3 a4) := by
  intro a0 a1 a2 a3 a4 h0
  unfold State.putRecRow
  exact (State.putTile_keeps _ _ _ _ h0)

theorem State.recTags_keeps : ∀ (a0 : State) a1 a2, State.Keeps p a0 → State.Keeps p (State.recTags a0 a1 a2) := by
  intro a0 a1 a2 h0
  unfold State.recTags
  exact (State.putTile_keeps _ _ _ _ h0)

end Sys2Proof.Machine
end

