-- ==== Sys2Proof/Laws/KeepAttnOps.lean ====
section
/-! SUPPORT. What the operations of Machine/AttnOps.lean keep: for each, if the invariants hold before it with commands `p` waiting, they
hold after it with the same commands waiting. -/

set_option linter.unusedTactic false

namespace Sys2Proof.Machine

variable {p : List Instr}

theorem State.seqCounters_keeps : ∀ (a0 : State) a1, State.Keeps p a0 → State.Keeps p (State.seqCounters a0 a1) := by
  intro a0 a1 h0
  unfold State.seqCounters
  exact (keeps_foldl (fun x2 x3 h1 => (State.busyFor_keeps _ _ h1)) h0)

theorem State.seqWrite_keeps : ∀ (a0 : State) a1 a2 a3 a4 a5 a6 a7, State.Keeps p a0 → State.Keeps p (State.seqWrite
      a0 a1 a2 a3 a4 a5 a6 a7) := by
  intro a0 a1 a2 a3 a4 a5 a6 a7 h0
  unfold State.seqWrite
  exact (State.bumpSeenN_keeps _ _ _ _ _ (State.writeTag_keeps _ _ _ _ _ (State.putTileVals_keeps _ _ _ _ _ _ _
      (State.bumpSeenN_keeps _ _ _ _ _ h0))))

theorem State.seqMix_keeps : ∀ (a0 : State) a1 a2 a3 a4 a5 a6 a7, State.Keeps p a0 → State.Keeps p (State.seqMix a0
      a1 a2 a3 a4 a5 a6 a7) := by
  intro a0 a1 a2 a3 a4 a5 a6 a7 h0
  unfold State.seqMix
  exact (State.seqWrite_keeps _ _ _ _ _ _ _ _ h0)

theorem State.scratch_keeps : ∀ (a0 : State) a1, State.Keeps p a0 → State.Keeps p (State.scratch a0 a1).2 := by
  intro a0 a1 h0
  unfold State.scratch
  exact (keeps_snd (keeps_mk h0 rfl rfl rfl rfl))

theorem State.seqProb_keeps : ∀ (a0 : State) a1 a2 a3 a4 a5 a6 a7, State.Keeps p a0 → State.Keeps p (State.seqProb a0
      a1 a2 a3 a4 a5 a6 a7).1 := by
  intro a0 a1 a2 a3 a4 a5 a6 a7 h0
  unfold State.seqProb
  exact (keeps_fst (State.seqWrite_keeps _ _ _ _ _ _ _ _ (State.scratch_keeps _ _ h0)))

theorem State.seqTrans_keeps : ∀ (a0 : State) a1 a2 a3 a4 a5 a6 a7, State.Keeps p a0 → State.Keeps p (State.seqTrans
      a0 a1 a2 a3 a4 a5 a6 a7).1 := by
  intro a0 a1 a2 a3 a4 a5 a6 a7 h0
  unfold State.seqTrans
  exact (State.seqProb_keeps _ _ _ _ _ _ _ _ h0)

theorem State.pairTag_keeps : ∀ (a0 : State) a1 a2 a3 a4 a5 a6, State.Keeps p a0 → State.Keeps p (State.pairTag a0 a1
      a2 a3 a4 a5 a6).1 := by
  intro a0 a1 a2 a3 a4 a5 a6 h0
  unfold State.pairTag
  exact (keeps_fst (State.putTag_keeps _ _ _ _ h0))

theorem State.fwdPair_keeps : ∀ (a0 : State) a1 a2 a3 a4 a5 a6 a7 a8 a9 a10, State.Keeps p a0 → State.Keeps p
      (State.fwdPair a0 a1 a2 a3 a4 a5 a6 a7 a8 a9 a10) := by
  intro a0 a1 a2 a3 a4 a5 a6 a7 a8 a9 a10 h0
  unfold State.fwdPair
  exact (keeps_foldl (fun x2 x3 h1 => (State.seqMix_keeps _ _ _ _ _ _ _ _ h1)) (State.seqProb_keeps _ _ _ _ _ _ _ _
      (State.recTags_keeps _ _ _ (keeps_foldl (fun x5 x6 h4 => (State.putRecRow_keeps _ _ _ _ _ h4))
      (State.pairTag_keeps _ _ _ _ _ _ _ h0)))))

theorem State.bwdQPair_keeps : ∀ (a0 : State) a1 a2 a3 a4 a5 a6 a7 a8 a9 a10, State.Keeps p a0 → State.Keeps p
      (State.bwdQPair a0 a1 a2 a3 a4 a5 a6 a7 a8 a9 a10) := by
  intro a0 a1 a2 a3 a4 a5 a6 a7 a8 a9 a10 h0
  unfold State.bwdQPair
  exact (keeps_foldl (fun x2 x3 h1 => (State.seqMix_keeps _ _ _ _ _ _ _ _ h1)) (State.seqProb_keeps _ _ _ _ _ _ _ _
      (State.seqProb_keeps _ _ _ _ _ _ _ _ (State.pairTag_keeps _ _ _ _ _ _ _ h0))))

theorem State.bwdKvPair_keeps : ∀ (a0 : State) a1 a2 a3 a4 a5 a6 a7 a8 a9 a10 a11, State.Keeps p a0 → State.Keeps p
      (State.bwdKvPair a0 a1 a2 a3 a4 a5 a6 a7 a8 a9 a10 a11) := by
  intro a0 a1 a2 a3 a4 a5 a6 a7 a8 a9 a10 a11 h0
  unfold State.bwdKvPair
  exact (keeps_ite (keeps_foldl (fun x2 x3 h1 => (State.seqMix_keeps _ _ _ _ _ _ _ _ h1)) (State.seqTrans_keeps _ _ _
      _ _ _ _ _ (State.seqProb_keeps _ _ _ _ _ _ _ _ (keeps_ite (keeps_foldl (fun x5 x6 h4 => (State.seqMix_keeps _ _
      _ _ _ _ _ _ h4)) (State.seqTrans_keeps _ _ _ _ _ _ _ _ (State.seqProb_keeps _ _ _ _ _ _ _ _
      (State.pairTag_keeps _ _ _ _ _ _ _ h0)))) (State.seqProb_keeps _ _ _ _ _ _ _ _ (State.pairTag_keeps _ _ _ _ _ _
      _ h0)))))) (keeps_ite (keeps_foldl (fun x8 x9 h7 => (State.seqMix_keeps _ _ _ _ _ _ _ _ h7))
      (State.seqTrans_keeps _ _ _ _ _ _ _ _ (State.seqProb_keeps _ _ _ _ _ _ _ _ (State.pairTag_keeps _ _ _ _ _ _ _
      h0)))) (State.seqProb_keeps _ _ _ _ _ _ _ _ (State.pairTag_keeps _ _ _ _ _ _ _ h0))))

theorem State.asInit_keeps : ∀ (a0 : State) a1 a2 a3, State.Keeps p a0 → State.Keeps p (State.asInit a0 a1 a2 a3) :=
      by
  intro a0 a1 a2 a3 h0
  unfold State.asInit
  exact (keeps_ite (keeps_foldl (fun x2 x3 h1 => (keeps_foldl (fun x5 x6 h4 => (State.recTags_keeps _ _ _
      (keeps_foldl (fun x8 x9 h7 => (State.putRecRow_keeps _ _ _ _ _ h7)) h4))) h1)) (keeps_foldl (fun x11 x12 h10 =>
      (keeps_foldl (fun x14 x15 h13 => (keeps_foldl (fun x17 x18 h16 => (State.seqWrite_keeps _ _ _ _ _ _ _ _ h16))
      h13)) h10)) h0)) (keeps_foldl (fun x20 x21 h19 => (keeps_foldl (fun x23 x24 h22 => (keeps_foldl (fun x26 x27
      h25 => (State.seqWrite_keeps _ _ _ _ _ _ _ _ h25)) h22)) h19)) h0))

theorem State.asFin_keeps : ∀ (a0 : State) a1 a2 a3, State.Keeps p a0 → State.Keeps p (State.asFin a0 a1 a2 a3) := by
  intro a0 a1 a2 a3 h0
  unfold State.asFin
  exact (keeps_foldl (fun x2 x3 h1 => (keeps_foldl (fun x5 x6 h4 => (keeps_foldl (fun x8 x9 h7 =>
      (State.seqWrite_keeps _ _ _ _ _ _ _ _ h7)) h4)) h1)) h0)

end Sys2Proof.Machine
end

