-- ==== Sys2Proof/Laws/KeepTierOps.lean ====
section
/-! SUPPORT. What the operations of Machine/TierOps.lean keep: for each, if the invariants hold before it with commands `p` waiting, they
hold after it with the same commands waiting. -/

set_option linter.unusedTactic false

namespace Sys2Proof.Machine

variable {p : List Instr}

theorem State.zeroNear_keeps : ∀ (a0 : State) a1 a2, State.Keeps p a0 → State.Keeps p (State.zeroNear a0 a1 a2) := by
  intro s a1 a2 h
  exact ⟨⟨Memory.wf_erase _ (fun k => decide (a1 ≤ k ∧ k < a1 + a2)) h.inv.near, h.inv.tile, h.inv.ninths, h.inv.log, h.inv.dbgLog, h.inv.txnTable⟩, h.pending⟩

theorem State.putObj_keeps : ∀ (a0 : State) a1 a2, State.Keeps p a0 → State.Keeps p (State.putObj a0 a1 a2) := by
  intro a0 a1 a2 h0
  unfold State.putObj
  exact (State.putNear_keeps _ _ _ h0)

theorem State.objAdd_keeps : ∀ (a0 : State) a1 a2 a3 a4, State.Keeps p a0 → State.Keeps p (State.objAdd a0 a1 a2 a3
      a4) := by
  intro a0 a1 a2 a3 a4 h0
  unfold State.objAdd
  exact (State.putObj_keeps _ _ _ h0)

theorem State.bumpWgen_keeps : ∀ (a0 : State) a1, State.Keeps p a0 → State.Keeps p (State.bumpWgen a0 a1) := by
  intro a0 a1 h0
  unfold State.bumpWgen
  exact (State.objAdd_keeps _ _ _ _ _ h0)

theorem State.acctAdd_keeps : ∀ (a0 : State) a1 a2 a3, State.Keeps p a0 → State.Keeps p (State.acctAdd a0 a1 a2 a3)
      := by
  intro a0 a1 a2 a3 h0
  unfold State.acctAdd
  exact (keeps_ite (State.setReg_keeps _ _ _ (State.setReg_keeps _ _ _ h0)) (State.setReg_keeps _ _ _ h0))

theorem State.hwmClear_keeps : ∀ (a0 : State), State.Keeps p a0 → State.Keeps p (State.hwmClear a0) := by
  intro a0 h0
  unfold State.hwmClear
  exact (keeps_foldl (fun x2 x3 h1 => (State.setReg_keeps _ _ _ (State.setReg_keeps _ _ _ h1))) h0)

theorem State.putPte_keeps : ∀ (a0 : State) a1 a2, State.Keeps p a0 → State.Keeps p (State.putPte a0 a1 a2) := by
  intro a0 a1 a2 h0
  unfold State.putPte
  exact (State.putNear_keeps _ _ _ h0)

theorem State.putLeafAt_keeps : ∀ (a0 : State) a1 a2 a3, State.Keeps p a0 → State.Keeps p (State.putLeafAt a0 a1 a2
      a3) := by
  intro a0 a1 a2 a3 h0
  unfold State.putLeafAt
  exact (keeps_foldl (fun x2 x3 h1 => (State.putPte_keeps _ _ _ h1)) h0)

theorem State.putLeaf_keeps : ∀ (a0 : State) a1 a2, State.Keeps p a0 → State.Keeps p (State.putLeaf a0 a1 a2) := by
  intro a0 a1 a2 h0
  unfold State.putLeaf
  exact (by split; (exact (State.putLeafAt_keeps _ _ _ _ h0)); (exact h0))

theorem State.touchPage_keeps : ∀ (a0 : State) a1, State.Keeps p a0 → State.Keeps p (State.touchPage a0 a1) := by
  intro a0 a1 h0
  unfold State.touchPage
  exact (by split; (exact (State.putLeaf_keeps _ _ _ h0)); (exact h0))

theorem State.newNode_keeps : ∀ (a0 : State), State.Keeps p a0 → ∀ r, State.newNode a0 = some r → State.Keeps p r.1 := by
  intro s h r hr
  unfold State.newNode at hr
  dsimp only at hr
  split at hr
  · cases hr; exact keeps_mk h rfl rfl rfl rfl
  · cases hr

theorem State.tableFor_keeps : ∀ (a0 : State) a1 a2 a3 a4 a5, State.Keeps p a0 →
    ∀ r, State.tableFor a0 a1 a2 a3 a4 a5 = some r → State.Keeps p r.1 := by
  intro s o target fuel
  induction fuel generalizing s with
  | zero => intro level base h r hr; rw [State.tableFor] at hr; cases hr; exact h
  | succ fuel ih =>
    intro level base h r hr
    rw [State.tableFor] at hr
    dsimp only at hr
    split at hr
    · cases hr; exact h
    · split at hr
      · exact ih _ _ _ h _ hr
      · split at hr
        · cases hr
        · next e => exact ih _ _ _ (State.putPte_keeps _ _ _ (State.newNode_keeps _ h _ e)) _ hr

theorem State.enterLeaf_keeps : ∀ (a0 : State) a1 a2, State.Keeps p a0 →
    ∀ r, State.enterLeaf a0 a1 a2 = some r → State.Keeps p r := by
  intro s o x h r hr
  unfold State.enterLeaf at hr
  dsimp only at hr
  split at hr
  · cases hr
  · next e => cases hr; exact State.putLeafAt_keeps _ _ _ _ (State.tableFor_keeps _ _ _ _ _ _ h _ e)

theorem State.putFar_keeps : ∀ (a0 : State) a1 a2 a3, State.Keeps p a0 → State.Keeps p (State.putFar a0 a1 a2 a3) :=
      by
  intro a0 a1 a2 a3 h0
  unfold State.putFar
  exact (keeps_mk h0 rfl rfl rfl rfl)

theorem State.setFarPool_keeps : ∀ (a0 : State) a1 a2, State.Keeps p a0 → State.Keeps p (State.setFarPool a0 a1 a2)
      := by
  intro a0 a1 a2 h0
  unfold State.setFarPool
  exact (keeps_mk h0 rfl rfl rfl rfl)

theorem State.reachLoss_keeps : ∀ (a0 : State) a1 a2, State.Keeps p a0 → State.Keeps p (State.reachLoss a0 a1 a2) :=
      by
  intro a0 a1 a2 h0
  unfold State.reachLoss
  exact (keeps_ite (keeps_mk (keeps_ite (State.setFlag_keeps _ _ _ (State.setFarPool_keeps _ _ _ h0)) h0) rfl rfl rfl
      rfl) (keeps_ite (State.setFlag_keeps _ _ _ (State.setFarPool_keeps _ _ _ h0)) h0))

theorem State.reachRestore_keeps : ∀ (a0 : State) a1, State.Keeps p a0 → State.Keeps p (State.reachRestore a0 a1) :=
      by
  intro a0 a1 h0
  unfold State.reachRestore
  exact (keeps_ite h0 (State.setFarPool_keeps _ _ _ h0))

theorem State.poolRoutes_keeps : ∀ (a0 : State), State.Keeps p a0 → State.Keeps p (State.poolRoutes a0) := by
  intro a0 h0
  unfold State.poolRoutes
  exact (keeps_foldl (fun x2 x3 h1 => (keeps_ite h1 (keeps_ite (State.reachLoss_keeps _ _ _ h1) (keeps_ite
      (State.reachRestore_keeps _ _ h1) h1)))) h0)

theorem State.takeFrame_keeps : ∀ (a0 : State) a1 a2 a3 a4, State.Keeps p a0 →
    ∀ r, State.takeFrame a0 a1 a2 a3 a4 = some r → State.Keeps p r.1 := by
  intro s pool log2 obj page h r hr
  unfold State.takeFrame at hr
  split at hr
  · cases hr
  · cases hr; exact keeps_mk h rfl rfl rfl rfl

theorem State.dropFrame_keeps : ∀ (a0 : State) a1, State.Keeps p a0 → State.Keeps p (State.dropFrame a0 a1) := by
  intro a0 a1 h0
  unfold State.dropFrame
  exact (keeps_mk h0 rfl rfl rfl rfl)

theorem State.exhausted_keeps : ∀ (a0 : State), State.Keeps p a0 → State.Keeps p (State.exhausted a0) := by
  intro a0 h0
  unfold State.exhausted
  exact (State.bumpSeen_keeps _ _ _ _ h0)

theorem State.readFrame_keeps : ∀ (a0 : State) a1, State.Keeps p a0 → State.Keeps p (State.readFrame a0 a1).1 := by
  intro a0 a1 h0
  unfold State.readFrame
  exact (by split; (exact (State.readNear_keeps _ _ _ h0)); (exact (keeps_ite_fst h0 h0)))

theorem State.writeFrame_keeps : ∀ (a0 : State) a1 a2, State.Keeps p a0 → State.Keeps p (State.writeFrame a0 a1 a2) := by
  intro a0 a1 a2 h0
  unfold State.writeFrame
  exact (by split; (exact (State.writeNear_keeps _ _ _ h0)); (exact (State.putFar_keeps _ _ _ _ h0)))

theorem State.xlatDrop_keeps : ∀ (a0 : State) a1, State.Keeps p a0 → State.Keeps p (State.xlatDrop a0 a1) := by
  intro a0 a1 h0
  unfold State.xlatDrop
  exact (keeps_mk h0 rfl rfl rfl rfl)

theorem State.finishMove_keeps : ∀ (a0 : State) a1 a2 a3, State.Keeps p a0 → State.Keeps p (State.finishMove a0 a1 a2 a3).1 := by
  intro a0 a1 a2 a3 h0
  unfold State.finishMove
  exact (by (try dsimp only); split; (exact (keeps_fst (State.dropFrame_keeps _ _ h0))); (exact (by (try dsimp only); split; (exact (keeps_fst (State.objAdd_keeps _ _ _ _ _ (State.objAdd_keeps _ _ _ _ _ (State.objAdd_keeps _ _ _ _ _ (State.acctAdd_keeps _ _ _ _ (State.acctAdd_keeps _ _ _ _ (State.bump_keeps _ _ _ (State.dropFrame_keeps _ _ (State.putLeaf_keeps _ _ _ (State.xlatDrop_keeps _ _ (State.writeFrame_keeps _ _ _ (State.readFrame_keeps _ _ h0))))))))))))); (exact (keeps_fst (State.dropFrame_keeps _ _ (State.putLeaf_keeps _ _ _ (State.xlatDrop_keeps _ _ (State.readFrame_keeps _ _ h0)))))))))

theorem State.evictPage_keeps : ∀ (a0 : State) a1, State.Keeps p a0 → State.Keeps p (State.evictPage a0 a1).1 := by
  intro a0 a1 h0
  unfold State.evictPage
  exact (by split; (exact h0); (next y5 => exact (keeps_ite_fst (keeps_fst (State.bump_keeps _ _ _ (State.finishMove_keeps _ _ _ _ ((State.takeFrame_keeps _ _ _ _ _ h0) _ y5)))) (keeps_fst (State.finishMove_keeps _ _ _ _ ((State.takeFrame_keeps _ _ _ _ _ h0) _ y5))))))

theorem State.tryFrame_keeps : ∀ (a0 : State) a1 a2 a3 a4, State.Keeps p a0 → State.Keeps p (State.tryFrame a0 a1 a2 a3 a4).1 := by
  intro s pool log2 obj page h
  unfold State.tryFrame
  exact keeps_elim_fst h fun r e => State.takeFrame_keeps _ _ _ _ _ h _ e

theorem State.evictAll_keeps : ∀ (a0 : State) a1 a2, State.Keeps p a0 → State.Keeps p (State.evictAll a0 a1 a2) := by
  intro a0 a1 a2 h0
  unfold State.evictAll
  exact (keeps_foldl (fun x2 x3 h1 => (State.evictPage_keeps _ _ h1)) h0)

theorem State.nearFrame_keeps : ∀ (a0 : State) a1 a2 a3, State.Keeps p a0 → State.Keeps p (State.nearFrame a0 a1 a2 a3).1 := by
  intro s log2 obj page h
  unfold State.nearFrame
  exact keeps_ite_fst (State.tryFrame_keeps _ _ _ _ _ h) (keeps_elim_eq h fun a _ _ e =>
    keeps_eq_fst (State.tryFrame_keeps _ _ _ _ _ (State.evictAll_keeps _ _ _ h)) e)

theorem State.allocFrame_keeps : ∀ (a0 : State) a1 a2 a3 a4, State.Keeps p a0 → State.Keeps p (State.allocFrame a0 a1 a2 a3 a4).1 := by
  intro a0 a1 a2 a3 a4 h0
  unfold State.allocFrame
  exact (by split; (exact (State.nearFrame_keeps _ _ _ _ h0)); (exact (State.tryFrame_keeps _ _ _ _ _ h0)))

theorem State.countFar_keeps : ∀ (a0 : State) a1 a2 a3, State.Keeps p a0 → State.Keeps p (State.countFar a0 a1 a2 a3) := by
  intro a0 a1 a2 a3 h0
  unfold State.countFar
  exact (keeps_ite h0 (keeps_ite (State.bump_keeps _ _ _ h0) (by (try dsimp only); split; (exact (State.objAdd_keeps _ _ _ _ _ (State.bump_keeps _ _ _ h0))); (exact (State.bump_keeps _ _ _ h0)))))

theorem State.countFarAll_keeps : ∀ (a0 : State) a1 a2 a3, State.Keeps p a0 → State.Keeps p (State.countFarAll a0 a1
      a2 a3) := by
  intro a0 a1 a2 a3 h0
  unfold State.countFarAll
  exact (keeps_foldl (fun x2 x3 h1 => (State.countFar_keeps _ _ _ _ h1)) h0)

theorem State.translate_keeps : ∀ (a0 : State) a1 a2, State.Keeps p a0 → State.Keeps p (State.translate a0 a1 a2) := by
  intro a0 a1 a2 h0
  unfold State.translate
  exact (by split; (exact (State.bump_keeps _ _ _ h0)); (exact (keeps_ite h0 (keeps_mk (State.bump_keeps _ _ _ (State.freeWord_keeps _ h0)) rfl rfl rfl rfl))))

theorem State.translateAll_keeps : ∀ (a0 : State) a1 a2, State.Keeps p a0 → State.Keeps p (State.translateAll a0 a1
      a2) := by
  intro a0 a1 a2 h0
  unfold State.translateAll
  exact (keeps_foldl (fun x2 x3 h1 => (State.translate_keeps _ _ _ h1)) h0)

theorem State.someTranslate_keeps : ∀ (a0 : State) a1, State.Keeps p a0 → State.Keeps p (State.someTranslate a0 a1)
      := by
  intro a0 a1 h0
  unfold State.someTranslate
  exact (keeps_ite h0 (State.translateAll_keeps _ _ _ (State.freeWord_keeps _ h0)))

theorem State.tierRead_keeps : ∀ (a0 : State) a1 a2, State.Keeps p a0 → State.Keeps p (State.tierRead a0 a1 a2).1 := by
  intro a0 a1 a2 h0
  unfold State.tierRead
  exact (keeps_foldl_fst (fun x1 x2 h3 => (by (try dsimp only); split; (exact (keeps_fst (State.readNear_keeps _ _ _ (State.touchPage_keeps _ _ h3)))); (exact (keeps_fst (State.touchPage_keeps _ _ h3))); (exact (keeps_fst (State.touchPage_keeps _ _ h3))))) h0)

theorem State.tierWrite_keeps : ∀ (a0 : State) a1 a2, State.Keeps p a0 → State.Keeps p (State.tierWrite a0 a1 a2).1 := by
  intro a0 a1 a2 h0
  unfold State.tierWrite
  exact (keeps_foldl_fst (fun x1 x2 h3 => (by (try dsimp only); split; (exact (keeps_fst (State.writeNear_keeps _ _ _ (State.touchPage_keeps _ _ h3)))); (exact (keeps_fst (State.putFar_keeps _ _ _ _ (State.touchPage_keeps _ _ h3)))); (exact (keeps_fst (State.touchPage_keeps _ _ h3))))) h0)

theorem State.havocTiered_keeps : ∀ (a0 : State) a1 a2, State.Keeps p a0 → State.Keeps p (State.havocTiered a0 a1 a2) := by
  intro a0 a1 a2 h0
  unfold State.havocTiered
  exact (keeps_foldl (fun x2 x3 h1 => (by split; (exact (State.havocNear_keeps _ _ _ h1)); (exact (State.putFar_keeps _ _ _ _ (State.freeBytes_keeps _ _ h1))); (exact h1))) h0)

theorem State.tierFault_keeps : ∀ (a0 : State) a1 a2 a3, State.Keeps p a0 → State.Keeps p (State.tierFault a0 a1 a2
      a3) := by
  intro a0 a1 a2 a3 h0
  unfold State.tierFault
  exact (State.faultRec_keeps _ _ _ _ h0)

end Sys2Proof.Machine
end

