-- ==== Sys2Proof/Laws/KeepPoolOps.lean ====
section
/-! SUPPORT. What the operations of Machine/PoolOps.lean keep: for each, if the invariants hold before it with commands `p` waiting, they
hold after it with the same commands waiting. -/

set_option linter.unusedTactic false

namespace Sys2Proof.Machine

variable {p : List Instr}

theorem State.setPool_keeps : ∀ (a0 : State) a1 a2, State.Keeps p a0 → State.Keeps p (State.setPool a0 a1 a2) := by
  intro a0 a1 a2 h0
  unfold State.setPool
  exact (keeps_mk h0 rfl rfl rfl rfl)

theorem State.setSlot_keeps : ∀ (a0 : State) a1 a2, State.Keeps p a0 → State.Keeps p (State.setSlot a0 a1 a2) := by
  intro a0 a1 a2 h0
  unfold State.setSlot
  exact (keeps_mk h0 rfl rfl rfl rfl)

theorem State.slotAdd_keeps : ∀ (a0 : State) a1 a2 a3 a4, State.Keeps p a0 → State.Keeps p (State.slotAdd a0 a1 a2 a3
      a4) := by
  intro a0 a1 a2 a3 a4 h0
  unfold State.slotAdd
  exact (State.setSlot_keeps _ _ _ h0)

theorem State.poolAdd_keeps : ∀ (a0 : State) a1 a2 a3, State.Keeps p a0 → State.Keeps p (State.poolAdd a0 a1 a2 a3)
      := by
  intro a0 a1 a2 a3 h0
  unfold State.poolAdd
  exact (State.setPool_keeps _ _ _ h0)

theorem State.setKvPte_keeps : ∀ (a0 : State) a1 a2 a3, State.Keeps p a0 → State.Keeps p (State.setKvPte a0 a1 a2 a3)
      := by
  intro a0 a1 a2 a3 h0
  unfold State.setKvPte
  exact (State.putNear_keeps _ _ _ h0)

theorem State.kvImage_keeps : ∀ (a0 : State) a1 a2, State.Keeps p a0 → State.Keeps p (State.kvImage a0 a1 a2) := by
  intro a0 a1 a2 h0
  unfold State.kvImage
  exact (State.putNear_keeps _ _ _ h0)

theorem State.setKvFrame_keeps : ∀ (a0 : State) a1 a2 a3, State.Keeps p a0 → State.Keeps p (State.setKvFrame a0 a1 a2
      a3) := by
  intro a0 a1 a2 a3 h0
  unfold State.setKvFrame
  exact (State.kvImage_keeps _ _ _ (keeps_mk h0 rfl rfl rfl rfl))

theorem State.newKvFrame_keeps : ∀ (a0 : State) a1 a2 a3 a4 a5, State.Keeps p a0 → State.Keeps p (State.newKvFrame a0
      a1 a2 a3 a4 a5) := by
  intro a0 a1 a2 a3 a4 a5 h0
  unfold State.newKvFrame
  exact (State.setKvFrame_keeps _ _ _ _ h0)

theorem State.setKvSpill_keeps : ∀ (a0 : State) a1 a2 a3, State.Keeps p a0 → State.Keeps p (State.setKvSpill a0 a1 a2
      a3) := by
  intro a0 a1 a2 a3 h0
  unfold State.setKvSpill
  exact (keeps_mk h0 rfl rfl rfl rfl)

theorem State.kvGive_keeps : ∀ (a0 : State) a1 a2 a3 a4 a5, State.Keeps p a0 → State.Keeps p (State.kvGive a0 a1 a2 a3 a4 a5) := by
  intro a0 a1 a2 a3 a4 a5 h0
  unfold State.kvGive
  exact (by (try dsimp only); split; (exact (State.slotAdd_keeps _ _ _ _ _ (State.setKvPte_keeps _ _ _ _ (State.newKvFrame_keeps _ _ _ _ _ _ (keeps_mk h0 rfl rfl rfl rfl))))); (exact (keeps_mk (State.setKvPte_keeps _ _ _ _ (State.newKvFrame_keeps _ _ _ _ _ _ (keeps_mk h0 rfl rfl rfl rfl))) rfl rfl rfl rfl)))

theorem State.kvAsk_keeps : ∀ (a0 : State) a1 a2 a3 a4, State.Keeps p a0 → State.Keeps p (State.kvAsk a0 a1 a2 a3 a4).1 := by
  intro a0 a1 a2 a3 a4 h0
  unfold State.kvAsk
  exact (keeps_ite_fst h0 (by split; (exact (keeps_fst (State.kvGive_keeps _ _ _ _ _ _ h0))); (exact (by split; (exact (keeps_ite_fst (keeps_fst (keeps_mk (State.setKvFrame_keeps _ _ _ _ (State.setKvPte_keeps _ _ _ _ (State.setKvSpill_keeps _ _ _ _ (keeps_mk h0 rfl rfl rfl rfl)))) rfl rfl rfl rfl)) h0)); (exact h0)))))

theorem State.copied_keeps : ∀ (a0 : State × _), State.Keeps p a0.1 → State.Keeps p (State.copied a0).1 := by
  intro a0 h0
  unfold State.copied
  exact (keeps_ite_fst h0 (keeps_fst (State.freeBytes_keeps _ _ h0)))

theorem State.kvSpillEnd_keeps : ∀ (a0 : State) a1, State.Keeps p a0 → State.Keeps p (State.kvSpillEnd a0 a1) := by
  intro a0 a1 h0
  unfold State.kvSpillEnd
  exact (by split; (exact (by (try dsimp only); split; (exact (State.kvGive_keeps _ _ _ _ _ _ (State.setKvFrame_keeps _ _ _ _ (State.poolAdd_keeps _ _ _ _ (State.slotAdd_keeps _ _ _ _ _ (State.slotAdd_keeps _ _ _ _ _ (State.setKvPte_keeps _ _ _ _ (State.countFarAll_keeps _ _ _ _ (State.tierWrite_keeps _ _ _ (State.copied_keeps _ (State.readNear_keeps _ _ _ (keeps_foldl (fun x12 x13 h11 => (State.bumpWgen_keeps _ _ h11)) (State.someTranslate_keeps _ _ (keeps_mk h0 rfl rfl rfl rfl)))))))))))))); (exact (State.setKvFrame_keeps _ _ _ _ (State.poolAdd_keeps _ _ _ _ (State.slotAdd_keeps _ _ _ _ _ (State.slotAdd_keeps _ _ _ _ _ (State.setKvPte_keeps _ _ _ _ (State.countFarAll_keeps _ _ _ _ (State.tierWrite_keeps _ _ _ (State.copied_keeps _ (State.readNear_keeps _ _ _ (keeps_foldl (fun x16 x17 h15 => (State.bumpWgen_keeps _ _ h15)) (State.someTranslate_keeps _ _ (keeps_mk h0 rfl rfl rfl rfl))))))))))))))); (exact h0))

theorem State.kvRecallEnd_keeps : ∀ (a0 : State) a1, State.Keeps p a0 → State.Keeps p (State.kvRecallEnd a0 a1) := by
  intro a0 a1 h0
  unfold State.kvRecallEnd
  exact (by split; (exact (by (try dsimp only); split; (exact (State.setKvFrame_keeps _ _ _ _ (State.poolAdd_keeps _ _ _ _ (State.slotAdd_keeps _ _ _ _ _ (State.slotAdd_keeps _ _ _ _ _ (State.setKvSpill_keeps _ _ _ _ (State.setKvPte_keeps _ _ _ _ (State.writeNear_keeps _ _ _ (State.copied_keeps _ (State.tierRead_keeps _ _ _ (State.countFarAll_keeps _ _ _ _ (State.someTranslate_keeps _ _ (keeps_mk h0 rfl rfl rfl rfl))))))))))))); (exact (State.poolAdd_keeps _ _ _ _ (State.slotAdd_keeps _ _ _ _ _ (State.slotAdd_keeps _ _ _ _ _ (State.setKvSpill_keeps _ _ _ _ (State.setKvPte_keeps _ _ _ _ (State.writeNear_keeps _ _ _ (State.copied_keeps _ (State.tierRead_keeps _ _ _ (State.countFarAll_keeps _ _ _ _ (State.someTranslate_keeps _ _ (keeps_mk h0 rfl rfl rfl rfl)))))))))))))); (exact h0))

theorem State.kvFreePage_keeps : ∀ (a0 : State) a1 a2, State.Keeps p a0 → State.Keeps p (State.kvFreePage a0 a1 a2) := by
  intro a0 a1 a2 h0
  unfold State.kvFreePage
  exact (by split; (exact (State.slotAdd_keeps _ _ _ _ _ (State.setKvPte_keeps _ _ _ _ (State.setKvFrame_keeps _ _ _ _ h0)))); (exact (by split; (exact (State.slotAdd_keeps _ _ _ _ _ (State.setKvPte_keeps _ _ _ _ (State.setKvSpill_keeps _ _ _ _ h0)))); (exact h0))))

theorem State.poolExhausted_keeps : ∀ (a0 : State) a1, State.Keeps p a0 → State.Keeps p (State.poolExhausted a0 a1)
      := by
  intro a0 a1 h0
  unfold State.poolExhausted
  exact (State.poolAdd_keeps _ _ _ _ h0)

theorem State.pauseSlot_keeps : ∀ (a0 : State) a1, State.Keeps p a0 → State.Keeps p (State.pauseSlot a0 a1) := by
  intro s n h
  refine keeps_foldl (fun t r ht => ?_) (keeps_foldl (fun t e ht => State.setQueue_keeps _ _ _ ht) (State.setSlot_keeps _ _ _ h))
  split
  · cases r.2 with
    | none => exact ht
    | some c => exact State.queueStatus_keeps _ _ _ ht
  · exact ht

theorem State.kvTouch_keeps : ∀ (a0 : State) a1 a2, State.Keeps p a0 → State.Keeps p (State.kvTouch a0 a1 a2) := by
  intro a0 a1 a2 h0
  unfold State.kvTouch
  exact (by split; (exact (by split; (exact (State.setKvFrame_keeps _ _ _ _ h0)); (exact h0))); (exact h0))

theorem State.kvReadRow_keeps : ∀ (a0 : State) a1 a2 a3 a4, State.Keeps p a0 → State.Keeps p (State.kvReadRow a0 a1
      a2 a3 a4).1 := by
  intro a0 a1 a2 a3 a4 h0
  unfold State.kvReadRow
  exact (keeps_ite_fst (State.tierRead_keeps _ _ _ (State.countFarAll_keeps _ _ _ _ h0)) (State.readNear_keeps _ _ _
      h0))

theorem State.kvReadBlock_keeps : ∀ (a0 : State) a1 a2 a3 a4, State.Keeps p a0 → State.Keeps p (State.kvReadBlock a0
      a1 a2 a3 a4).1 := by
  intro a0 a1 a2 a3 a4 h0
  unfold State.kvReadBlock
  exact (keeps_foldl_fst (fun x1 x2 h3 => (keeps_fst (State.kvReadRow_keeps _ _ _ _ _ h3))) h0)

theorem State.kvGiveBack_keeps : ∀ (a0 : State) a1 a2, State.Keeps p a0 → State.Keeps p (State.kvGiveBack a0 a1 a2)
      := by
  intro a0 a1 a2 h0
  unfold State.kvGiveBack
  exact (keeps_foldl (fun x2 x3 h1 => (State.kvFreePage_keeps _ _ _ h1)) (keeps_mk h0 rfl rfl rfl rfl))

theorem State.kvPinComing_keeps : ∀ (a0 : State) a1 a2 a3, State.Keeps p a0 → State.Keeps p (State.kvPinComing a0 a1 a2 a3) := by
  intro a0 a1 a2 a3 h0
  unfold State.kvPinComing
  exact (by (try dsimp only); split; (exact (by split; (exact (keeps_ite (State.setKvFrame_keeps _ _ _ _ (keeps_mk h0 rfl rfl rfl rfl)) (keeps_mk h0 rfl rfl rfl rfl))); (exact (keeps_mk h0 rfl rfl rfl rfl)))); (exact (keeps_mk h0 rfl rfl rfl rfl)))

theorem State.slotWrite_keeps : ∀ (a0 : State) a1 a2, State.Keeps p a0 → State.Keeps p (State.slotWrite a0 a1 a2).1
      := by
  intro a0 a1 a2 h0
  unfold State.slotWrite
  exact (keeps_ite_fst h0 (keeps_ite_fst h0 (keeps_ite_fst h0 (keeps_fst (State.setSlot_keeps _ _ _ h0)))))

theorem State.poolWrite_keeps : ∀ (a0 : State) a1 a2, State.Keeps p a0 → State.Keeps p (State.poolWrite a0 a1 a2).1
      := by
  intro a0 a1 a2 h0
  unfold State.poolWrite
  exact (keeps_ite_fst h0 (keeps_ite_fst h0 (keeps_ite_fst h0 (keeps_ite_fst h0 (keeps_ite_fst h0 (keeps_fst
      (keeps_ite (State.zeroNear_keeps _ _ _ (State.setPool_keeps _ _ _ h0)) (State.setPool_keeps _ _ _ h0))))))))

end Sys2Proof.Machine
end

