-- ==== Sys2Proof/Laws/KeepAttention.lean ====
section
/-! SUPPORT. What the operations of Machine/Attention.lean keep: for each, if the invariants hold before it with commands `p` waiting, they
hold after it with the same commands waiting. -/

set_option linter.unusedTactic false

namespace Sys2Proof.Machine

variable {p : List Instr}

theorem State.setWalk_keeps : ∀ (a0 : State) a1 a2, State.Keeps p a0 → State.Keeps p (State.setWalk a0 a1 a2) := by
  intro a0 a1 a2 h0
  unfold State.setWalk
  exact (State.setCore_keeps _ _ _ h0)

theorem State.asDone_keeps : ∀ (a0 : State) a1, State.Keeps p a0 → State.Keeps p (State.asDone a0 a1) := by
  intro a0 a1 h0
  unfold State.asDone
  exact (State.setCore_keeps _ _ _ h0)

theorem State.setAsNext_keeps : ∀ (a0 : State) a1 a2, State.Keeps p a0 → State.Keeps p (State.setAsNext a0 a1 a2) :=
      by
  intro a0 a1 a2 h0
  unfold State.setAsNext
  exact (State.setReg_keeps _ _ _ h0)

theorem State.countFarRead_keeps : ∀ (a0 : State) a1 a2, State.Keeps p a0 → State.Keeps p (State.countFarRead a0 a1
      a2) := by
  intro a0 a1 a2 h0
  unfold State.countFarRead
  exact (State.busyFor_keeps _ _ (State.bumpSeen_keeps _ _ _ _ (State.slotAdd_keeps _ _ _ _ _ h0)))

theorem State.countFetch_keeps : ∀ (a0 : State) a1 a2, State.Keeps p a0 → State.Keeps p (State.countFetch a0 a1 a2)
      := by
  intro a0 a1 a2 h0
  unfold State.countFetch
  exact (State.bump_keeps _ _ _ (State.busyFor_keeps _ _ h0))

theorem State.fetchLinear_keeps : ∀ (a0 : State) a1 a2 a3, State.Keeps p a0 → State.Keeps p (State.fetchLinear a0 a1
      a2 a3).1 := by
  intro a0 a1 a2 a3 h0
  unfold State.fetchLinear
  exact (keeps_ite_fst (keeps_fst (State.countFetch_keeps _ _ _ (State.readNear_keeps _ _ _ h0))) (keeps_fst
      (State.readNear_keeps _ _ _ h0)))

theorem State.fetchFarWait_keeps : ∀ (a0 : State) a1, State.Keeps p a0 → State.Keeps p (State.fetchFarWait a0 a1).1 := by
  intro a0 a1 h0
  unfold State.fetchFarWait
  exact (by (try dsimp only); split; (exact (keeps_fst (State.setWalk_keeps _ _ _ h0))); (exact (keeps_ite_fst h0 h0)))

theorem State.fetchPaged_keeps : ∀ (a0 : State) a1 a2 a3 a4, State.Keeps p a0 → State.Keeps p (State.fetchPaged a0 a1
      a2 a3 a4).1 := by
  intro a0 a1 a2 a3 a4 h0
  unfold State.fetchPaged
  exact (keeps_ite_fst h0 (keeps_ite_fst h0 (keeps_ite_fst (keeps_fst (State.fetchFarWait_keeps _ _ h0))
      (keeps_ite_fst (keeps_fst (State.countFetch_keeps _ _ _ (keeps_ite (State.kvReadBlock_keeps _ _ _ _ _
      (keeps_foldl (fun x2 x3 h1 => (State.kvTouch_keeps _ _ _ h1)) (State.translateAll_keeps _ _ _
      (State.setWalk_keeps _ _ _ h0)))) (State.countFarRead_keeps _ _ _ (State.kvReadBlock_keeps _ _ _ _ _
      (keeps_foldl (fun x5 x6 h4 => (State.kvTouch_keeps _ _ _ h4)) (State.translateAll_keeps _ _ _
      (State.setWalk_keeps _ _ _ h0)))))))) (keeps_fst (keeps_ite (State.kvReadBlock_keeps _ _ _ _ _ (keeps_foldl
      (fun x8 x9 h7 => (State.kvTouch_keeps _ _ _ h7)) (State.translateAll_keeps _ _ _ (State.setWalk_keeps _ _ _
      h0)))) (State.countFarRead_keeps _ _ _ (State.kvReadBlock_keeps _ _ _ _ _ (keeps_foldl (fun x11 x12 h10 =>
      (State.kvTouch_keeps _ _ _ h10)) (State.translateAll_keeps _ _ _ (State.setWalk_keeps _ _ _ h0)))))))))))

theorem State.stageTags_keeps : ∀ (a0 : State) a1 a2 a3 a4, State.Keeps p a0 → State.Keeps p (State.stageTags a0 a1
      a2 a3 a4) := by
  intro a0 a1 a2 a3 a4 h0
  unfold State.stageTags
  exact (keeps_foldl (fun x2 x3 h1 => (State.recTags_keeps _ _ _ h1)) (keeps_foldl (fun x5 x6 h4 =>
      (State.writeTag_keeps _ _ _ _ _ h4)) h0))

theorem State.stageBlock_keeps : ∀ (a0 : State) a1 a2 a3 a4, State.Keeps p a0 → State.Keeps p (State.stageBlock a0 a1 a2 a3 a4).1 := by
  intro a0 a1 a2 a3 a4 h0
  unfold State.stageBlock
  exact (keeps_ite_fst (by (try dsimp only); split; (exact (keeps_fst (State.stageTags_keeps _ _ _ _ _ (keeps_foldl (fun x4 x5 h3 => (State.putTile_keeps _ _ _ _ h3)) (State.fetchPaged_keeps _ _ _ _ _ h0))))); (exact (keeps_fst (State.fetchPaged_keeps _ _ _ _ _ h0)))) (by (try dsimp only); split; (exact (keeps_fst (State.stageTags_keeps _ _ _ _ _ (State.putTile_keeps _ _ _ _ (State.fetchLinear_keeps _ _ _ _ h0))))); (exact (keeps_fst (State.fetchLinear_keeps _ _ _ _ h0)))))

theorem State.asPairs_keeps : ∀ (a0 : State) a1 a2 a3 a4 a5, State.Keeps p a0 → State.Keeps p (State.asPairs a0 a1 a2 a3 a4 a5) := by
  intro a0 a1 a2 a3 a4 a5 h0
  unfold State.asPairs
  exact (keeps_foldl (fun x2 x3 h1 => (keeps_foldl (fun x5 x6 h4 => (keeps_ite h4 (by (try dsimp only); split; (exact (State.bwdQPair_keeps _ _ _ _ _ _ _ _ _ _ _ h4)); (exact (State.bwdKvPair_keeps _ _ _ _ _ _ _ _ _ _ _ _ h4)); (exact (State.fwdPair_keeps _ _ _ _ _ _ _ _ _ _ _ h4))))) h1)) h0)

theorem State.asBlock_keeps : ∀ (a0 : State) a1 a2 a3 a4 a5, State.Keeps p a0 → State.Keeps p (State.asBlock a0 a1 a2 a3 a4 a5).1 := by
  intro a0 a1 a2 a3 a4 a5 h0
  unfold State.asBlock
  exact (keeps_ite_fst (keeps_fst (State.bump_keeps _ _ _ (State.bump_keeps _ _ _ h0))) (keeps_ite_fst (keeps_fst (State.meetTile_keeps _ _ _ h0)) (by (try dsimp only); split; (exact (keeps_fst (State.bump_keeps _ _ _ (State.bump_keeps _ _ _ (State.seqCounters_keeps _ _ (State.asPairs_keeps _ _ _ _ _ _ (State.charge_keeps _ _ _ _ (State.stageBlock_keeps _ _ _ _ _ (State.meetTile_keeps _ _ _ h0))))))))); (exact (keeps_fst (State.stageBlock_keeps _ _ _ _ _ (State.meetTile_keeps _ _ _ h0)))))))

theorem State.asFinish_keeps : ∀ (a0 : State) a1 a2 a3, State.Keeps p a0 → State.Keeps p (State.asFinish a0 a1 a2
      a3).1 := by
  intro a0 a1 a2 a3 h0
  unfold State.asFinish
  exact (keeps_ite_fst (keeps_ite_fst (keeps_fst (State.asDone_keeps _ _ (State.setAsNext_keeps _ _ _
      (State.meetTile_keeps _ _ _ (State.busyFor_keeps _ _ h0))))) (keeps_fst (State.asDone_keeps _ _
      (State.asFin_keeps _ _ _ _ (State.meetTile_keeps _ _ _ (State.busyFor_keeps _ _ h0)))))) (keeps_fst
      (State.asDone_keeps _ _ (State.busyFor_keeps _ _ h0))))

theorem State.asGo_keeps : ∀ a0 (a1 : State) a2 a3 a4, State.Keeps p a1 → State.Keeps p (State.asGo a0 a1 a2 a3 a4).1
  | 0, v0, v1, v2, v3, h1 => by
    rw [State.asGo.eq_1]
    exact (keeps_ite_fst (State.asFinish_keeps _ _ _ _ h1) h1)
  | v4 + 1, v0, v1, v2, v3, h1 => by
    rw [State.asGo.eq_2]
    exact (keeps_ite_fst (State.asFinish_keeps _ _ _ _ h1) (by (try dsimp only); split; (exact (keeps_fst (State.asBlock_keeps _ _ _ _ _ _ h1))); (exact (keeps_fst (State.asDone_keeps _ _ (State.setAsNext_keeps _ _ _ (State.asBlock_keeps _ _ _ _ _ _ h1))))); (exact (keeps_ite_fst (keeps_fst (State.asDone_keeps _ _ (State.setAsNext_keeps _ _ _ (State.bumpSeen_keeps _ _ _ _ (State.setWalk_keeps _ _ _ (State.asBlock_keeps _ _ _ _ _ _ h1)))))) (State.asGo_keeps _ _ _ _ _ (State.setWalk_keeps _ _ _ (State.asBlock_keeps _ _ _ _ _ _ h1)))))))

theorem State.asStart_keeps : ∀ (a0 : State) a1 a2 a3, State.Keeps p a0 → State.Keeps p (State.asStart a0 a1 a2 a3) := by
  intro a0 a1 a2 a3 h0
  unfold State.asStart
  exact (by split; (exact h0); (exact (keeps_ite (State.asInit_keeps _ _ _ _ (State.setWalk_keeps _ _ _ h0)) (State.setWalk_keeps _ _ _ h0))))

theorem State.appendAsk_keeps : ∀ (a0 : State) a1 a2 a3, State.Keeps p a0 → State.Keeps p (State.appendAsk a0 a1 a2
      a3).1 := by
  intro a0 a1 a2 a3 h0
  unfold State.appendAsk
  exact (keeps_ite_fst h0 (keeps_ite_fst (keeps_fst (State.setWalk_keeps _ _ _ (State.kvAsk_keeps _ _ _ _ _ h0)))
      (keeps_fst (State.kvAsk_keeps _ _ _ _ _ h0))))

theorem State.appendRows_keeps : ∀ (a0 : State) a1 a2 a3 a4, State.Keeps p a0 → State.Keeps p (State.appendRows a0 a1
      a2 a3 a4).1 := by
  intro a0 a1 a2 a3 a4 h0
  unfold State.appendRows
  exact (keeps_foldl_fst (fun x1 x2 h3 => (keeps_fst (State.writeNear_keeps _ _ _ h3))) h0)

theorem State.kvImages_keeps : ∀ (a0 : State) a1 a2, State.Keeps p a0 → State.Keeps p (State.kvImages a0 a1 a2) := by
  intro a0 a1 a2 h0
  unfold State.kvImages
  exact (keeps_foldl (fun x2 x3 h1 => (by split; (exact (State.kvImage_keeps _ _ _ h1)); (exact h1))) h0)

theorem State.runAppend_keeps : ∀ (a0 : State) a1 a2, State.Keeps p a0 → State.Keeps p (State.runAppend a0 a1 a2).1
      := by
  intro a0 a1 a2 h0
  unfold State.runAppend
  exact (keeps_ite_fst (keeps_fst (State.asDone_keeps _ _ h0)) (keeps_ite_fst (keeps_fst (State.pauseSlot_keeps _ _
      (State.poolExhausted_keeps _ _ (State.kvImages_keeps _ _ _ (State.kvGiveBack_keeps _ _ _ (State.asDone_keeps _
      _ h0)))))) (keeps_ite_fst (keeps_fst (State.kvImages_keeps _ _ _ (keeps_foldl_fst (fun x1 x2 h3 =>
      (keeps_ite_fst (State.appendAsk_keeps _ _ _ _ h3) h3)) h0))) (keeps_ite_fst (keeps_fst (State.kvImages_keeps _
      _ _ (State.asDone_keeps _ _ (State.meetTile_keeps _ _ _ (State.kvImages_keeps _ _ _ (keeps_foldl_fst (fun x4 x5
      h6 => (keeps_ite_fst (State.appendAsk_keeps _ _ _ _ h6) h6)) h0)))))) (keeps_ite_fst (keeps_fst
      (State.slotAdd_keeps _ _ _ _ _ (State.countFetch_keeps _ _ _ (State.kvImages_keeps _ _ _ (State.asDone_keeps _
      _ (State.appendRows_keeps _ _ _ _ _ (keeps_foldl (fun x8 x9 h7 => (State.kvTouch_keeps _ _ _ h7))
      (State.meetTile_keeps _ _ _ (State.kvImages_keeps _ _ _ (keeps_foldl_fst (fun x10 x11 h12 => (keeps_ite_fst
      (State.appendAsk_keeps _ _ _ _ h12) h12)) h0)))))))))) (keeps_fst (State.kvImages_keeps _ _ _
      (State.asDone_keeps _ _ (State.appendRows_keeps _ _ _ _ _ (keeps_foldl (fun x14 x15 h13 => (State.kvTouch_keeps
      _ _ _ h13)) (State.meetTile_keeps _ _ _ (State.kvImages_keeps _ _ _ (keeps_foldl_fst (fun x16 x17 h18 =>
      (keeps_ite_fst (State.appendAsk_keeps _ _ _ _ h18) h18)) h0)))))))))))))

theorem State.runPrefetch_keeps : ∀ (a0 : State) a1 a2, State.Keeps p a0 → State.Keeps p (State.runPrefetch a0 a1 a2).1 := by
  intro a0 a1 a2 h0
  unfold State.runPrefetch
  exact (keeps_ite_fst (keeps_fst (State.asDone_keeps _ _ h0)) (keeps_ite_fst (keeps_fst (State.poolExhausted_keeps _ _ (State.asDone_keeps _ _ (keeps_foldl_fst (fun x1 x2 h3 => (keeps_ite_fst (State.kvAsk_keeps _ _ _ _ _ h3) (by split; (exact (keeps_fst (State.kvPinComing_keeps _ _ _ _ h3))); (exact h3)))) h0)))) (keeps_ite_fst (keeps_fst (keeps_foldl_fst (fun x12 x13 h14 => (keeps_ite_fst (State.kvAsk_keeps _ _ _ _ _ h14) (by split; (exact (keeps_fst (State.kvPinComing_keeps _ _ _ _ h14))); (exact h14)))) h0)) (keeps_fst (State.asDone_keeps _ _ (keeps_foldl_fst (fun x23 x24 h25 => (keeps_ite_fst (State.kvAsk_keeps _ _ _ _ _ h25) (by split; (exact (keeps_fst (State.kvPinComing_keeps _ _ _ _ h25))); (exact h25)))) h0))))))

theorem State.runRelease_keeps : ∀ (a0 : State) a1 a2, State.Keeps p a0 → State.Keeps p (State.runRelease a0 a1 a2).1
      := by
  intro a0 a1 a2 h0
  unfold State.runRelease
  exact (keeps_ite_fst (keeps_fst (State.asDone_keeps _ _ h0)) (keeps_fst (keeps_foldl (fun x2 x3 h1 =>
      (State.kvFreePage_keeps _ _ _ h1)) (State.asDone_keeps _ _ h0))))

theorem State.runAttn_keeps : ∀ a0 (a1 : State) a2 a3, State.Keeps p a1 → State.Keeps p (State.runAttn a0 a1 a2 a3).1 := by
  intro a0 a1 a2 a3 h1
  unfold State.runAttn
  exact (by (try dsimp only); split; (exact (State.runAppend_keeps _ _ _ (State.asStart_keeps _ _ _ _ h1))); (exact (State.runPrefetch_keeps _ _ _ (State.asStart_keeps _ _ _ _ h1))); (exact (State.runRelease_keeps _ _ _ (State.asStart_keeps _ _ _ _ h1))); (exact (State.asGo_keeps _ _ _ _ _ (State.asStart_keeps _ _ _ _ h1))))

theorem attnEngine_keeps (n : Nat) : EngineOps.Keeps p (attnEngine n) := fun _ _ _ h => State.runAttn_keeps _ _ _ _ h

theorem State.attn_keeps : ∀ (a0 : State) a1 a2 a3, State.Keeps p a0 → State.Keeps p (State.attn a0 a1 a2 a3) := by
  intro a0 a1 a2 a3 h0
  unfold State.attn
  exact (EngineOps.serve_keeps _ _ _ _ (attnEngine_keeps _) h0)

theorem State.askYield_keeps : ∀ (a0 : State) a1, State.Keeps p a0 → State.Keeps p (State.askYield a0 a1) := by
  intro a0 a1 h0
  unfold State.askYield
  exact (keeps_ite (State.setCore_keeps _ _ _ h0) h0)

theorem State.spillComplete_keeps : ∀ (a0 : State) a1 a2, State.Keeps p a0 → State.Keeps p (State.spillComplete a0 a1 a2) := by
  intro a0 a1 a2 h0
  unfold State.spillComplete
  exact (by split; (exact (by split; (exact (keeps_ite (State.kvSpillEnd_keeps _ _ h0) h0)); (exact h0))); (exact h0))

theorem State.recallComplete_keeps : ∀ (a0 : State) a1 a2, State.Keeps p a0 → State.Keeps p (State.recallComplete a0 a1 a2) := by
  intro a0 a1 a2 h0
  unfold State.recallComplete
  exact (by split; (exact (by split; (exact (keeps_ite (State.kvRecallEnd_keeps _ _ h0) h0)); (exact h0))); (exact h0))

theorem State.useByPassed_keeps : ∀ (a0 : State) a1 a2, State.Keeps p a0 → State.Keeps p (State.useByPassed a0 a1 a2) := by
  intro a0 a1 a2 h0
  unfold State.useByPassed
  exact (by split; (exact (by split; (exact (keeps_ite (State.setKvFrame_keeps _ _ _ _ h0) h0)); (exact h0))); (exact h0))

theorem execFwd_keeps : ∀ a0 a1 (a2 : State), State.Keeps p a2 → ∀ t, execFwd a0 a1 a2 = .next t → State.Keeps p t :=
      by
  intro a0 a1 a2 h2 t ht
  exact keeps_ifUnit ht (State.attn_keeps _ _ _ _ h2)

theorem execRecomp_keeps : ∀ a0 a1 (a2 : State), State.Keeps p a2 → ∀ t, execRecomp a0 a1 a2 = .next t → State.Keeps
      p t := by
  intro a0 a1 a2 h2 t ht
  exact keeps_ifUnit ht (State.attn_keeps _ _ _ _ h2)

theorem execBwdQ_keeps : ∀ a0 a1 (a2 : State), State.Keeps p a2 → ∀ t, execBwdQ a0 a1 a2 = .next t → State.Keeps p t
      := by
  intro a0 a1 a2 h2 t ht
  exact keeps_ifUnit ht (State.attn_keeps _ _ _ _ h2)

theorem execBwdKv_keeps : ∀ a0 a1 (a2 : State), State.Keeps p a2 → ∀ t, execBwdKv a0 a1 a2 = .next t → State.Keeps p
      t := by
  intro a0 a1 a2 h2 t ht
  exact keeps_ifUnit ht (State.attn_keeps _ _ _ _ h2)

theorem execAppend_keeps : ∀ a0 (a1 : State), State.Keeps p a1 → ∀ t, execAppend a0 a1 = .next t → State.Keeps p t :=
      by
  intro a0 a1 h1 t ht
  exact keeps_ifUnit ht (State.attn_keeps _ _ _ _ h1)

theorem execPrefetch_keeps : ∀ a0 (a1 : State), State.Keeps p a1 → ∀ t, execPrefetch a0 a1 = .next t → State.Keeps p
      t := by
  intro a0 a1 h1 t ht
  exact keeps_ifUnit ht (State.attn_keeps _ _ _ _ h1)

theorem execRelease_keeps : ∀ a0 (a1 : State), State.Keeps p a1 → ∀ t, execRelease a0 a1 = .next t → State.Keeps p t
      := by
  intro a0 a1 h1 t ht
  exact keeps_ifUnit ht (State.attn_keeps _ _ _ _ h1)

theorem execYield_keeps : ∀ a0 (a1 : State), State.Keeps p a1 → ∀ t, execYield a0 a1 = .next t → State.Keeps p t := by
  intro a0 a1 h1 t ht
  exact keeps_ifUnit ht (State.askYield_keeps _ _ h1)

theorem execPageSpillComplete_keeps : ∀ a0 a1 (a2 : State), State.Keeps p a2 → ∀ t, execPageSpillComplete a0 a1 a2 =
      .next t → State.Keeps p t := by
  intro a0 a1 a2 h2 t ht
  exact keeps_ifUnit ht (State.spillComplete_keeps _ _ _ h2)

theorem execPageRecallComplete_keeps : ∀ a0 a1 (a2 : State), State.Keeps p a2 → ∀ t, execPageRecallComplete a0 a1 a2
      = .next t → State.Keeps p t := by
  intro a0 a1 a2 h2 t ht
  exact keeps_ifUnit ht (State.recallComplete_keeps _ _ _ h2)

theorem execUseByExpiry_keeps : ∀ a0 a1 (a2 : State), State.Keeps p a2 → ∀ t, execUseByExpiry a0 a1 a2 = .next t →
      State.Keeps p t := by
  intro a0 a1 a2 h2 t ht
  exact keeps_ifUnit ht (State.useByPassed_keeps _ _ _ h2)

theorem execSeqSlotWrite_keeps : ∀ a0 a1 (a2 : State), State.Keeps p a2 → ∀ t, execSeqSlotWrite a0 a1 a2 = .next t →
      State.Keeps p t := by
  intro a0 a1 a2 h2 t ht
  exact keeps_ifUnit ht (State.count_keeps _ _ (State.slotWrite_keeps _ _ _ h2))

theorem execPoolWrite_keeps : ∀ a0 a1 (a2 : State), State.Keeps p a2 → ∀ t, execPoolWrite a0 a1 a2 = .next t →
      State.Keeps p t := by
  intro a0 a1 a2 h2 t ht
  exact keeps_ifUnit ht (State.count_keeps _ _ (State.poolWrite_keeps _ _ _ h2))

end Sys2Proof.Machine
end

