-- ==== Sys2Proof/Laws/KeepDictTable.lean ====
section
/-! SUPPORT. What the operations of Machine/DictTable.lean keep: for each, if the invariants hold before it with commands `p` waiting, they
hold after it with the same commands waiting. -/

set_option linter.unusedTactic false

namespace Sys2Proof.Machine

variable {p : List Instr}

theorem State.setDict_keeps : ∀ (a0 : State) a1 a2 a3, State.Keeps p a0 → State.Keeps p (State.setDict a0 a1 a2 a3)
      := by
  intro a0 a1 a2 a3 h0
  unfold State.setDict
  exact (keeps_mk h0 rfl rfl rfl rfl)

theorem State.setDictNat_keeps : ∀ (a0 : State) a1 a2 a3, State.Keeps p a0 → State.Keeps p (State.setDictNat a0 a1 a2
      a3) := by
  intro a0 a1 a2 a3 h0
  unfold State.setDictNat
  exact (State.setDict_keeps _ _ _ _ h0)

end Sys2Proof.Machine
end

