-- ==== Sys2Proof/Laws/KeepDescOps.lean ====
section
/-! SUPPORT. What the operations of Machine/DescOps.lean keep: for each, if the invariants hold before it with commands `p` waiting, they
hold after it with the same commands waiting. -/

set_option linter.unusedTactic false

namespace Sys2Proof.Machine

variable {p : List Instr}

theorem State.endPeers_keeps : ∀ (a0 : State) a1, State.Keeps p a0 → State.Keeps p (State.endPeers a0 a1) := by
  intro a0 a1 h0
  unfold State.endPeers
  exact (keeps_ite h0 (keeps_foldl (fun x2 x3 h1 => (keeps_ite (State.sendOn_keeps _ _ (keeps_mk h1 rfl rfl rfl rfl))
      h1)) h0))

end Sys2Proof.Machine
end

