-- ==== Sys2Proof/Laws/KeepMatrix.lean ====
section
/-! SUPPORT. What the operations of Machine/Matrix.lean keep: for each, if the invariants hold before it with commands `p` waiting, they
hold after it with the same commands waiting. -/

set_option linter.unusedTactic false

namespace Sys2Proof.Machine

variable {p : List Instr}

theorem State.setAcc_keeps : ∀ (a0 : State) a1 a2 a3, State.Keeps p a0 → State.Keeps p (State.setAcc a0 a1 a2 a3) :=
      by
  intro a0 a1 a2 a3 h0
  unfold State.setAcc
  exact (keeps_mk h0 rfl rfl rfl rfl)

theorem State.setFtq_keeps : ∀ (a0 : State) a1 a2, State.Keeps p a0 → State.Keeps p (State.setFtq a0 a1 a2) := by
  intro a0 a1 a2 h0
  unfold State.setFtq
  exact (keeps_mk h0 rfl rfl rfl rfl)

theorem State.havocAcc_keeps : ∀ (a0 : State) a1 a2 a3 a4 a5, State.Keeps p a0 → State.Keeps p (State.havocAcc a0 a1
      a2 a3 a4 a5) := by
  intro a0 a1 a2 a3 a4 a5 h0
  unfold State.havocAcc
  exact (State.setAcc_keeps _ _ _ _ (keeps_mk h0 rfl rfl rfl rfl))

theorem State.runMma_keeps : ∀ (a0 : State) a1 a2, State.Keeps p a0 → State.Keeps p (State.runMma a0 a1 a2).1 := by
  intro a0 a1 a2 h0
  unfold State.runMma
  exact (keeps_ite_fst (keeps_fst (State.havocAcc_keeps _ _ _ _ _ _ (State.meetTile_keeps _ _ _ (State.busyFor_keeps
      _ _ h0)))) (keeps_ite_fst (keeps_fst (State.setFtq_keeps _ _ _ (State.setAcc_keeps _ _ _ _
      (State.bumpSeenN_keeps _ _ _ _ _ (State.bumpSeenN_keeps _ _ _ _ _ (State.meetTile_keeps _ _ _
      (State.busyFor_keeps _ _ h0))))))) (keeps_fst (State.setAcc_keeps _ _ _ _ (State.bumpSeenN_keeps _ _ _ _ _
      (State.bumpSeenN_keeps _ _ _ _ _ (State.meetTile_keeps _ _ _ (State.busyFor_keeps _ _ h0))))))))

theorem State.runSave_keeps : ∀ (a0 : State) a1 a2, State.Keeps p a0 → State.Keeps p (State.runSave a0 a1 a2).1 := by
  intro a0 a1 a2 h0
  unfold State.runSave
  exact (keeps_fst (State.setAcc_keeps _ _ _ _ (State.putTile_keeps _ _ _ _ (State.putTile_keeps _ _ _ _
      (State.busyFor_keeps _ _ h0)))))

theorem State.runRestore_keeps : ∀ (a0 : State) a1 a2, State.Keeps p a0 → State.Keeps p (State.runRestore a0 a1 a2).1 := by
  intro a0 a1 a2 h0
  unfold State.runRestore
  exact (by (try dsimp only); split; (exact (keeps_fst (State.setAcc_keeps _ _ _ _ (State.readTile_keeps _ _ _ _ (State.busyFor_keeps _ _ h0))))); (exact (keeps_fst (State.havocAcc_keeps _ _ _ _ _ _ (State.readTile_keeps _ _ _ _ (State.busyFor_keeps _ _ h0))))))

theorem State.runMatrix_keeps : ∀ (a0 : State) a1 a2, State.Keeps p a0 → State.Keeps p (State.runMatrix a0 a1 a2).1 := by
  intro a0 a1 a2 h0
  unfold State.runMatrix
  exact (by split; (exact (State.runMma_keeps _ _ _ h0)); (exact (State.runSave_keeps _ _ _ h0)); (exact (State.runRestore_keeps _ _ _ h0)))

theorem matrixEngine_keeps : EngineOps.Keeps p matrixEngine := fun _ _ _ h => ended_keeps _ (State.runMatrix_keeps _ _ _ h)

theorem State.flushFtq_keeps : ∀ (a0 : State) a1, State.Keeps p a0 → State.Keeps p (State.flushFtq a0 a1) := by
  intro a0 a1 h0
  unfold State.flushFtq
  exact (State.setFtq_keeps _ _ _ h0)

theorem execMmaStart_keeps : ∀ a0 (a1 : State), State.Keeps p a1 → ∀ t, execMmaStart a0 a1 = .next t → State.Keeps p
      t := by
  intro a0 a1 h1 t ht
  exact keeps_ifUnit ht (EngineOps.serve_keeps _ _ _ _ matrixEngine_keeps h1)

theorem execMmaContinue_keeps : ∀ a0 (a1 : State), State.Keeps p a1 → ∀ t, execMmaContinue a0 a1 = .next t →
      State.Keeps p t := by
  intro a0 a1 h1 t ht
  exact keeps_ifUnit ht (EngineOps.serve_keeps _ _ _ _ matrixEngine_keeps h1)

theorem execMmaFinish_keeps : ∀ a0 (a1 : State), State.Keeps p a1 → ∀ t, execMmaFinish a0 a1 = .next t → State.Keeps
      p t := by
  intro a0 a1 h1 t ht
  exact keeps_ifUnit ht (EngineOps.serve_keeps _ _ _ _ matrixEngine_keeps h1)

theorem execMatrixSave_keeps : ∀ a0 (a1 : State), State.Keeps p a1 → ∀ t, execMatrixSave a0 a1 = .next t →
      State.Keeps p t := by
  intro a0 a1 h1 t ht
  exact keeps_ifUnit ht (EngineOps.serve_keeps _ _ _ _ matrixEngine_keeps h1)

theorem execMatrixRestore_keeps : ∀ a0 (a1 : State), State.Keeps p a1 → ∀ t, execMatrixRestore a0 a1 = .next t →
      State.Keeps p t := by
  intro a0 a1 h1 t ht
  exact keeps_ifUnit ht (EngineOps.serve_keeps _ _ _ _ matrixEngine_keeps h1)

theorem execFtqFlush_keeps : ∀ a0 (a1 : State), State.Keeps p a1 → ∀ t, execFtqFlush a0 a1 = .next t → State.Keeps p
      t := by
  intro a0 a1 h1 t ht
  exact keeps_ifUnit ht (State.flushFtq_keeps _ _ h1)

end Sys2Proof.Machine
end

