-- ==== Sys2Proof/Laws/KeepSpecial.lean ====
section
/-! SUPPORT. What the operations of Machine/Special.lean keep: for each, if the invariants hold before it with commands `p` waiting, they
hold after it with the same commands waiting. -/

set_option linter.unusedTactic false

namespace Sys2Proof.Machine

variable {p : List Instr}

theorem State.loadTable_keeps : ∀ (a0 : State) a1 a2 a3, State.Keeps p a0 → State.Keeps p (State.loadTable a0 a1 a2
      a3) := by
  intro a0 a1 a2 a3 h0
  unfold State.loadTable
  exact (keeps_mk h0 rfl rfl rfl rfl)

end Sys2Proof.Machine
end

