-- ==== Sys2Proof/Laws/KeepVector.lean ====
section
/-! SUPPORT. What the operations of Machine/Vector.lean keep: for each, if the invariants hold before it with commands `p` waiting, they
hold after it with the same commands waiting. -/

set_option linter.unusedTactic false

namespace Sys2Proof.Machine

variable {p : List Instr}

theorem State.setBuf_keeps : ∀ (a0 : State) a1 a2 a3, State.Keeps p a0 → State.Keeps p (State.setBuf a0 a1 a2 a3) :=
      by
  intro a0 a1 a2 a3 h0
  unfold State.setBuf
  exact (keeps_mk h0 rfl rfl rfl rfl)

theorem State.veWrite_keeps : ∀ (a0 : State) a1 a2 a3 a4 a5 a6 a7 a8, State.Keeps p a0 → State.Keeps p (State.veWrite a0 a1 a2 a3 a4 a5 a6 a7 a8) := by
  intro a0 a1 a2 a3 a4 a5 a6 a7 a8 h0
  unfold State.veWrite
  exact (by (try dsimp only); split; (exact (State.bumpSeenN_keeps _ _ _ _ _ (State.writeTag_keeps _ _ _ _ _ (State.putTileVals_keeps _ _ _ _ _ _ _ (State.bumpSeenN_keeps _ _ _ _ _ h0))))); (exact (State.setBuf_keeps _ _ _ _ (State.bumpSeenN_keeps _ _ _ _ _ h0))); (exact (State.bumpSeenN_keeps _ _ _ _ _ h0)))

theorem State.veTile_keeps : ∀ (a0 : State) a1 a2 a3 a4, State.Keeps p a0 → State.Keeps p (State.veTile a0 a1 a2 a3
      a4) := by
  intro a0 a1 a2 a3 a4 h0
  unfold State.veTile
  exact (keeps_ite (keeps_ite (State.veWrite_keeps _ _ _ _ _ _ _ _ _ (State.setCore_keeps _ _ _ (keeps_ite
      (State.setFtq_keeps _ _ _ h0) h0))) (State.setCore_keeps _ _ _ (keeps_ite (State.setFtq_keeps _ _ _ h0) h0)))
      (State.veWrite_keeps _ _ _ _ _ _ _ _ _ (State.setCore_keeps _ _ _ (State.bump_keeps _ _ _ (keeps_ite
      (State.setFtq_keeps _ _ _ h0) h0)))))

theorem State.veDone_keeps : ∀ (a0 : State) a1, State.Keeps p a0 → State.Keeps p (State.veDone a0 a1) := by
  intro a0 a1 h0
  unfold State.veDone
  exact (State.setCore_keeps _ _ _ (keeps_ite (keeps_mk h0 rfl rfl rfl rfl) h0))

theorem State.veRecords_keeps : ∀ (a0 : State) a1 a2 a3, State.Keeps p a0 → State.Keeps p (State.veRecords a0 a1 a2
      a3) := by
  intro a0 a1 a2 a3 h0
  unfold State.veRecords
  exact (keeps_ite h0 (keeps_ite (State.recTags_keeps _ _ _ (keeps_foldl (fun x2 x3 h1 => (State.putRecRow_keeps _ _
      _ _ _ h1)) h0)) (State.recTags_keeps _ _ _ h0)))

theorem State.veHavoc_keeps : ∀ (a0 : State) a1 a2 a3 a4, State.Keeps p a0 → State.Keeps p (State.veHavoc a0 a1 a2 a3 a4) := by
  intro a0 a1 a2 a3 a4 h0
  unfold State.veHavoc
  exact (keeps_ite (keeps_ite (State.havocTile_keeps _ _ _ _ (State.recTags_keeps _ _ _ (keeps_foldl (fun x2 x3 h1 => (by split; (exact (State.havocTileAt_keeps _ _ _ _ _ _ h1)); (exact (State.setBuf_keeps _ _ _ _ (keeps_mk h1 rfl rfl rfl rfl))); (exact h1))) h0))) (State.recTags_keeps _ _ _ (keeps_foldl (fun x12 x13 h11 => (by split; (exact (State.havocTileAt_keeps _ _ _ _ _ _ h11)); (exact (State.setBuf_keeps _ _ _ _ (keeps_mk h11 rfl rfl rfl rfl))); (exact h11))) h0))) (keeps_foldl (fun x22 x23 h21 => (by split; (exact (State.havocTileAt_keeps _ _ _ _ _ _ h21)); (exact (State.setBuf_keeps _ _ _ _ (keeps_mk h21 rfl rfl rfl rfl))); (exact h21))) h0))

theorem State.veGo_keeps : ∀ a0 (a1 : State) a2 a3 a4, State.Keeps p a1 → State.Keeps p (State.veGo a0 a1 a2 a3 a4).1
  | 0, v0, v1, v2, v3, h1 => by
    rw [State.veGo.eq_1]
    exact (keeps_fst (State.veDone_keeps _ _ (State.busyFor_keeps _ _ (State.veRecords_keeps _ _ _ _ h1))))
  | v4 + 1, v0, v1, v2, v3, h1 => by
    rw [State.veGo.eq_2]
    exact (keeps_ite_fst h1 (keeps_ite_fst (keeps_fst (State.veDone_keeps _ _ (State.veHavoc_keeps _ _ _ _ _
      (State.meetTile_keeps _ _ _ h1)))) (State.veGo_keeps _ _ _ _ _ (State.veTile_keeps _ _ _ _ _
      (State.meetTile_keeps _ _ _ h1)))))

theorem State.runLoadTable_keeps : ∀ (a0 : State) a1 a2, State.Keeps p a0 → State.Keeps p (State.runLoadTable a0 a1 a2).1 := by
  intro a0 a1 a2 h0
  unfold State.runLoadTable
  exact (by (try dsimp only); split; (exact (keeps_fst (State.busyFor_keeps _ _ (State.loadTable_keeps _ _ _ _ (State.readTile_keeps _ _ _ _ h0))))); (exact (keeps_fst (State.readTile_keeps _ _ _ _ h0))))

theorem State.runVector_keeps : ∀ (a0 : State) a1 a2, State.Keeps p a0 → State.Keeps p (State.runVector a0 a1 a2).1
      := by
  intro a0 a1 a2 h0
  unfold State.runVector
  exact (keeps_ite_fst (State.runLoadTable_keeps _ _ _ h0) (State.veGo_keeps _ _ _ _ _ (State.setCore_keeps _ _ _
      h0)))

theorem vectorEngine_keeps : EngineOps.Keeps p vectorEngine := fun _ _ _ h => State.runVector_keeps _ _ _ h

theorem State.vector_keeps : ∀ (a0 : State) a1 a2 a3, State.Keeps p a0 → State.Keeps p (State.vector a0 a1 a2 a3) :=
      by
  intro a0 a1 a2 a3 h0
  unfold State.vector
  exact (EngineOps.serve_keeps _ _ _ _ vectorEngine_keeps h0)

theorem State.clearBufs_keeps : ∀ (a0 : State) a1, State.Keeps p a0 → State.Keeps p (State.clearBufs a0 a1) := by
  intro a0 a1 h0
  unfold State.clearBufs
  exact (keeps_ite (State.setCore_keeps _ _ _ h0) (keeps_mk h0 rfl rfl rfl rfl))

theorem execEpi_keeps : ∀ a0 (a1 : State), State.Keeps p a1 → ∀ t, execEpi a0 a1 = .next t → State.Keeps p t := by
  intro a0 a1 h1 t ht
  exact keeps_ifUnit ht (State.vector_keeps _ _ _ _ h1)

theorem execBinary_keeps : ∀ a0 (a1 : State), State.Keeps p a1 → ∀ t, execBinary a0 a1 = .next t → State.Keeps p t :=
      by
  intro a0 a1 h1 t ht
  exact keeps_ifUnit ht (State.vector_keeps _ _ _ _ h1)

theorem execStatP1_keeps : ∀ a0 (a1 : State), State.Keeps p a1 → ∀ t, execStatP1 a0 a1 = .next t → State.Keeps p t :=
      by
  intro a0 a1 h1 t ht
  exact keeps_ifUnit ht (State.vector_keeps _ _ _ _ h1)

theorem execStatP2_keeps : ∀ a0 (a1 : State), State.Keeps p a1 → ∀ t, execStatP2 a0 a1 = .next t → State.Keeps p t :=
      by
  intro a0 a1 h1 t ht
  exact keeps_ifUnit ht (State.vector_keeps _ _ _ _ h1)

theorem execSmaxAcc_keeps : ∀ a0 (a1 : State), State.Keeps p a1 → ∀ t, execSmaxAcc a0 a1 = .next t → State.Keeps p t
      := by
  intro a0 a1 h1 t ht
  exact keeps_ifUnit ht (State.vector_keeps _ _ _ _ h1)

theorem execSmaxNorm_keeps : ∀ a0 (a1 : State), State.Keeps p a1 → ∀ t, execSmaxNorm a0 a1 = .next t → State.Keeps p
      t := by
  intro a0 a1 h1 t ht
  exact keeps_ifUnit ht (State.vector_keeps _ _ _ _ h1)

theorem execNorm_keeps : ∀ a0 (a1 : State), State.Keeps p a1 → ∀ t, execNorm a0 a1 = .next t → State.Keeps p t := by
  intro a0 a1 h1 t ht
  exact keeps_ifUnit ht (State.vector_keeps _ _ _ _ h1)

theorem execPermute_keeps : ∀ a0 (a1 : State), State.Keeps p a1 → ∀ t, execPermute a0 a1 = .next t → State.Keeps p t
      := by
  intro a0 a1 h1 t ht
  exact keeps_ifUnit ht (State.vector_keeps _ _ _ _ h1)

theorem execShuffle_keeps : ∀ a0 (a1 : State), State.Keeps p a1 → ∀ t, execShuffle a0 a1 = .next t → State.Keeps p t
      := by
  intro a0 a1 h1 t ht
  exact keeps_ifUnit ht (State.vector_keeps _ _ _ _ h1)

theorem execConvert_keeps : ∀ a0 (a1 : State), State.Keeps p a1 → ∀ t, execConvert a0 a1 = .next t → State.Keeps p t
      := by
  intro a0 a1 h1 t ht
  exact keeps_ifUnit ht (State.vector_keeps _ _ _ _ h1)

theorem execLoadTable_keeps : ∀ a0 (a1 : State), State.Keeps p a1 → ∀ t, execLoadTable a0 a1 = .next t → State.Keeps
      p t := by
  intro a0 a1 h1 t ht
  exact keeps_ifUnit ht (State.vector_keeps _ _ _ _ h1)

theorem execBufClear_keeps : ∀ a0 (a1 : State), State.Keeps p a1 → ∀ t, execBufClear a0 a1 = .next t → State.Keeps p
      t := by
  intro a0 a1 h1 t ht
  exact keeps_ifUnit ht (State.clearBufs_keeps _ _ h1)

end Sys2Proof.Machine
end

