-- ==== Sys2Proof/Laws/KeepDevOps.lean ====
section
/-! SUPPORT. What the operations of Machine/DevOps.lean keep: for each, if the invariants hold before it with commands `p` waiting, they
hold after it with the same commands waiting. -/

set_option linter.unusedTactic false

namespace Sys2Proof.Machine

variable {p : List Instr}

theorem State.setDev_keeps : ∀ (a0 : State) a1, State.Keeps p a0 → State.Keeps p (State.setDev a0 a1) := by
  intro a0 a1 h0
  unfold State.setDev
  exact (State.devChanged_keeps _ _ (keeps_mk h0 rfl rfl rfl rfl))

theorem State.txnRecord_keeps : ∀ (a0 : State) a1, State.Keeps p a0 → State.Keeps p (State.txnRecord a0 a1) := by
  intro s r h
  refine ⟨⟨h.inv.near, h.inv.tile, h.inv.ninths, h.inv.log, h.inv.dbgLog, ?_⟩, h.pending⟩
  have hx := h.inv.txnTable
  simp only [State.txnRecord]
  split
  · simpa using hx
  · simp only [List.length_take]; omega

theorem State.endTxn_keeps : ∀ (a0 : State) a1 a2 a3 a4 a5, State.Keeps p a0 → State.Keeps p (State.endTxn a0 a1 a2
      a3 a4 a5) := by
  intro a0 a1 a2 a3 a4 a5 h0
  unfold State.endTxn
  exact (State.txnRecord_keeps _ _ (keeps_mk h0 rfl rfl rfl rfl))

theorem State.rollbackAll_keeps : ∀ (a0 : State), State.Keeps p a0 → State.Keeps p (State.rollbackAll a0) := by
  intro a0 h0
  unfold State.rollbackAll
  exact (keeps_foldl (fun x2 x3 h1 => (State.count_keeps _ _ (State.endTxn_keeps _ _ _ _ _ _ h1))) h0)

theorem State.havocDest_keeps : ∀ (a0 : State) a1, State.Keeps p a0 → State.Keeps p (State.havocDest a0 a1) := by
  intro a0 a1 h0
  unfold State.havocDest
  exact (keeps_ite (keeps_foldl (fun x2 x3 h1 => (keeps_ite h1 (by split; (exact (State.havocNear_keeps _ _ _ h1)); (exact (State.havocTile_keeps _ _ _ _ h1)); (exact (State.havocTiered_keeps _ _ _ h1)); (exact h1)))) h0) h0)

theorem State.havocWalk_keeps : ∀ (a0 : State) a1 a2, State.Keeps p a0 → State.Keeps p (State.havocWalk a0 a1 a2) :=
      by
  intro a0 a1 a2 h0
  unfold State.havocWalk
  exact (keeps_ite h0 (State.havocTile_keeps _ _ _ _ (State.havocTile_keeps _ _ _ _ (keeps_ite (State.havocTile_keeps
      _ _ _ _ (State.havocTile_keeps _ _ _ _ h0)) (State.havocTile_keeps _ _ _ _ h0)))))

theorem State.unpinWalk_keeps : ∀ (a0 : State) a1, State.Keeps p a0 → State.Keeps p (State.unpinWalk a0 a1) := by
  intro a0 a1 h0
  unfold State.unpinWalk
  exact (by split; (exact (keeps_ite (State.kvImages_keeps _ _ _ h0) h0)); (exact h0))

theorem State.havocChain_keeps : ∀ (a0 : State) a1, State.Keeps p a0 → State.Keeps p (State.havocChain a0 a1) := by
  intro a0 a1 h0
  unfold State.havocChain
  exact (keeps_ite (State.havocNear_keeps _ _ _ h0) h0)

theorem State.abandonCore_keeps : ∀ (a0 : State) a1, State.Keeps p a0 → State.Keeps p (State.abandonCore a0 a1) := by
  intro a0 a1 h0
  unfold State.abandonCore
  exact (State.unpinWalk_keeps _ _ (State.setCore_keeps _ _ _ (State.dropRequests_keeps _ _ (keeps_foldl (fun x2 x3 h1 => (State.havocDest_keeps _ _ h1)) (by split; (exact (by split; (exact (State.veHavoc_keeps _ _ _ _ _ (by split; (exact (State.havocChain_keeps _ _ (by split; (exact (State.havocWalk_keeps _ _ _ h0)); (exact h0)))); (exact (by split; (exact (State.havocWalk_keeps _ _ _ h0)); (exact h0)))))); (exact (by split; (exact (State.havocChain_keeps _ _ (by split; (exact (State.havocWalk_keeps _ _ _ h0)); (exact h0)))); (exact (by split; (exact (State.havocWalk_keeps _ _ _ h0)); (exact h0))))))); (exact (by split; (exact (State.havocChain_keeps _ _ (by split; (exact (State.havocWalk_keeps _ _ _ h0)); (exact h0)))); (exact (by split; (exact (State.havocWalk_keeps _ _ _ h0)); (exact h0))))))))))

theorem State.dropWaits_keeps : ∀ (a0 : State) a1, State.Keeps p a0 → State.Keeps p (State.dropWaits a0 a1) := by
  intro a0 a1 h0
  unfold State.dropWaits
  exact (keeps_mk h0 rfl rfl rfl rfl)

theorem State.releaseClaim_keeps : ∀ (a0 : State), State.Keeps p a0 → State.Keeps p (State.releaseClaim a0) := by
  intro a0 h0
  unfold State.releaseClaim
  exact (keeps_ite (keeps_mk h0 rfl rfl rfl rfl) (keeps_mk (State.setReg_keeps _ _ _ h0) rfl rfl rfl rfl))

theorem State.fenceCore_keeps : ∀ (a0 : State) a1, State.Keeps p a0 → State.Keeps p (State.fenceCore a0 a1) := by
  intro a0 a1 h0
  unfold State.fenceCore
  exact (keeps_ite (State.releaseClaim_keeps _ (State.recordCore_keeps _ _ _ (State.poisonOwned_keeps _ _
      (State.setCore_keeps _ _ _ (State.setReg_keeps _ _ _ (State.wipeEngines_keeps _ _ (keeps_mk (keeps_foldl (fun
      x2 x3 h1 => (State.endPeers_keeps _ _ (State.setQueue_keeps _ _ _ h1))) (State.abandonCore_keeps _ _
      (State.dropWaits_keeps _ _ h0))) rfl rfl rfl rfl))))))) (State.recordCore_keeps _ _ _ (State.poisonOwned_keeps
      _ _ (State.setCore_keeps _ _ _ (State.setReg_keeps _ _ _ (State.wipeEngines_keeps _ _ (keeps_mk (keeps_foldl
      (fun x5 x6 h4 => (State.endPeers_keeps _ _ (State.setQueue_keeps _ _ _ h4))) (State.abandonCore_keeps _ _
      (State.dropWaits_keeps _ _ h0))) rfl rfl rfl rfl)))))))

theorem execCoreFence_keeps : ∀ a0 (a1 : State), State.Keeps p a1 → ∀ t, execCoreFence a0 a1 = .next t → State.Keeps
      p t := by
  intro a0 a1 h1 t ht
  exact keeps_ifUnit ht (keeps_ite (State.fenceCore_keeps _ _ h1) h1)

theorem State.stopAll_keeps : ∀ (a0 : State), State.Keeps p a0 → State.Keeps p (State.stopAll a0) := by
  intro a0 h0
  unfold State.stopAll
  exact (State.setDev_keeps _ _ (State.rollbackAll_keeps _ (keeps_mk (keeps_foldl (fun x2 x3 h1 =>
      (State.abandonCore_keeps _ _ h1)) h0) rfl rfl rfl rfl)))

theorem State.trip_keeps : ∀ (a0 : State) a1 a2, State.Keeps p a0 → State.Keeps p (State.trip a0 a1 a2) := by
  intro a0 a1 a2 h0
  unfold State.trip
  exact (keeps_ite h0 (State.stopAll_keeps _ (State.countLog_keeps _ _ _ _ _ (State.lifeAdd_keeps _ _ _
      (State.bumpSeen_keeps _ _ _ _ (keeps_mk h0 rfl rfl rfl rfl))))))

theorem State.regulatorFault_keeps : ∀ (a0 : State), State.Keeps p a0 → State.Keeps p (State.regulatorFault a0) := by
  intro a0 h0
  unfold State.regulatorFault
  exact (keeps_ite h0 (State.stopAll_keeps _ (State.lifeAdd_keeps _ _ _ (State.bumpSeen_keeps _ _ _ _ (keeps_mk h0
      rfl rfl rfl rfl)))))

end Sys2Proof.Machine
end

