-- ==== Sys2Proof/Laws/KeepLinkOps.lean ====
section
/-! SUPPORT. What the operations of Machine/LinkOps.lean keep: for each, if the invariants hold before it with commands `p` waiting, they
hold after it with the same commands waiting. -/

set_option linter.unusedTactic false

namespace Sys2Proof.Machine

variable {p : List Instr}

theorem State.announce_keeps : ∀ (a0 : State), State.Keeps p a0 → State.Keeps p (State.announce a0) := by
  intro a0 h0
  unfold State.announce
  exact (keeps_foldl (fun x2 x3 h1 => (keeps_ite h1 (State.sendOn_keeps _ _ h1))) h0)

theorem State.loseRequest_keeps : ∀ (a0 : State) a1, State.Keeps p a0 → State.Keeps p (State.loseRequest a0 a1) := by
  intro a0 a1 h0
  unfold State.loseRequest
  exact (keeps_ite h0 (keeps_ite (keeps_mk h0 rfl rfl rfl rfl) (State.answer_keeps _ _ _ h0)))

theorem State.reroute_keeps : ∀ (a0 : State) a1, State.Keeps p a0 → State.Keeps p (State.reroute a0 a1) := by
  intro a0 a1 h0
  unfold State.reroute
  exact (keeps_ite (State.forward_keeps _ _ h0) (State.loseRequest_keeps _ _ (State.forward_keeps _ _ h0)))

theorem State.loseAll_keeps : ∀ (a0 : State) a1, State.Keeps p a0 → State.Keeps p (State.loseAll a0 a1) := by
  intro a0 a1 h0
  unfold State.loseAll
  exact (keeps_foldl (fun x2 x3 h1 => (State.loseRequest_keeps _ _ h1)) (State.bumpSeenN_keeps _ _ _ _ _
      (State.setPort_keeps _ _ _ h0)))

theorem State.asMember_keeps : ∀ (a0 : State) a1, State.Keeps p a0 → State.Keeps p (State.asMember a0 a1) := by
  intro a0 a1 h0
  unfold State.asMember
  exact (keeps_mk h0 rfl rfl rfl rfl)

theorem State.lostMembers_keeps : ∀ (a0 : State), State.Keeps p a0 → State.Keeps p (State.lostMembers a0) := by
  intro a0 h0
  unfold State.lostMembers
  exact (keeps_foldl (fun x2 x3 h1 => (keeps_ite (State.poisonBar_keeps _ _ h1) h1)) h0)

theorem State.revokeTo_keeps : ∀ a0 (a1 : State) a2 a3, State.Keeps p a1 → State.Keeps p (State.revokeTo a0 a1 a2 a3)
  | 0, v0, v1, v2, h1 => by
    rw [State.revokeTo.eq_1]
    exact h1
  | v3 + 1, v0, v1, v2, h1 => by
    rw [State.revokeTo.eq_2]
    exact (keeps_ite h1 (by split; (exact h1); (exact (State.revokeTo_keeps _ _ _ _ (State.bump_keeps _ _ _ (State.stopQueue_keeps _ _ _ (State.setQueue_keeps _ _ _ h1)))))))

theorem State.portChanged_keeps : ∀ (a0 : State) a1 a2, State.Keeps p a0 → State.Keeps p (State.portChanged a0 a1 a2)
      := by
  intro a0 a1 a2 h0
  unfold State.portChanged
  exact (State.poolRoutes_keeps _ (State.announce_keeps _ (State.evalFitness_keeps _ (State.lostMembers_keeps _
      (State.revokeTo_keeps _ _ _ _ h0)))))

theorem State.portDown_keeps : ∀ (a0 : State) a1 a2, State.Keeps p a0 → State.Keeps p (State.portDown a0 a1 a2) := by
  intro a0 a1 a2 h0
  unfold State.portDown
  exact (State.portChanged_keeps _ _ _ (State.loseAll_keeps _ _ (keeps_ite (State.setPort_keeps _ _ _ h0)
      (State.countLog_keeps _ _ _ _ _ (State.setPort_keeps _ _ _ h0)))))

theorem State.leftActive_keeps : ∀ (a0 : State) a1, State.Keeps p a0 → State.Keeps p (State.leftActive a0 a1) := by
  intro a0 a1 h0
  unfold State.leftActive
  exact (keeps_ite (State.announce_keeps _ (State.evalFitness_keeps _ h0)) h0)

theorem State.startFull_keeps : ∀ (a0 : State) a1, State.Keeps p a0 → State.Keeps p (State.startFull a0 a1) := by
  intro a0 a1 h0
  unfold State.startFull
  exact (keeps_ite (State.lifeAdd_keeps _ _ _ (State.bumpSeen_keeps _ _ _ _ (State.leftActive_keeps _ _
      (State.setPort_keeps _ _ _ h0)))) (State.leftActive_keeps _ _ (State.setPort_keeps _ _ _ h0)))

theorem State.startFast_keeps : ∀ (a0 : State) a1, State.Keeps p a0 → State.Keeps p (State.startFast a0 a1) := by
  intro a0 a1 h0
  unfold State.startFast
  exact (State.lifeAdd_keeps _ _ _ (State.bumpSeen_keeps _ _ _ _ (State.leftActive_keeps _ _ (State.setPort_keeps _ _
      _ h0))))

theorem State.trainFail_keeps : ∀ (a0 : State) a1, State.Keeps p a0 → State.Keeps p (State.trainFail a0 a1) := by
  intro a0 a1 h0
  unfold State.trainFail
  exact (keeps_ite (State.startFull_keeps _ _ (State.setPort_keeps _ _ _ (State.bump_keeps _ _ _ h0))) (keeps_ite
      (State.portDown_keeps _ _ _ (State.bump_keeps _ _ _ h0)) (State.setPort_keeps _ _ _ (State.bump_keeps _ _ _
      h0))))

theorem State.miswire_keeps : ∀ (a0 : State) a1, State.Keeps p a0 → State.Keeps p (State.miswire a0 a1) := by
  intro a0 a1 h0
  unfold State.miswire
  exact (State.poolRoutes_keeps _ (State.announce_keeps _ (State.evalFitness_keeps _ (State.lostMembers_keeps _
      (State.countLog_keeps _ _ _ _ _ (State.bumpSeen_keeps _ _ _ _ (State.setPort_keeps _ _ _ h0)))))))

theorem State.resendAll_keeps : ∀ (a0 : State) a1, State.Keeps p a0 → State.Keeps p (State.resendAll a0 a1) := by
  intro a0 a1 h0
  unfold State.resendAll
  exact (State.lifeAdd_keeps _ _ _ (State.bump_keeps _ _ _ (State.setPort_keeps _ _ _ h0)))

theorem State.portUp_keeps : ∀ (a0 : State) a1, State.Keeps p a0 → State.Keeps p (State.portUp a0 a1) := by
  intro a0 a1 h0
  unfold State.portUp
  exact (State.setPort_keeps _ _ _ (State.resendAll_keeps _ _ (State.setPort_keeps _ _ _ h0)))

theorem State.trainEnd_keeps : ∀ (a0 : State) a1 a2, State.Keeps p a0 → State.Keeps p (State.trainEnd a0 a1 a2) := by
  intro a0 a1 a2 h0
  unfold State.trainEnd
  exact (by split; (exact (State.portDown_keeps _ _ _ (State.bump_keeps _ _ _ h0))); (exact (keeps_ite (State.portDown_keeps _ _ _ (State.bump_keeps _ _ _ (State.setPort_keeps _ _ _ h0))) (keeps_ite (State.portChanged_keeps _ _ _ (State.portUp_keeps _ _ (keeps_ite (State.lifeAdd_keeps _ _ _ (State.bumpSeen_keeps _ _ _ _ (State.setPort_keeps _ _ _ h0))) (State.setPort_keeps _ _ _ h0)))) (State.miswire_keeps _ _ (keeps_ite (State.lifeAdd_keeps _ _ _ (State.bumpSeen_keeps _ _ _ _ (State.setPort_keeps _ _ _ h0))) (State.setPort_keeps _ _ _ h0)))))))

theorem State.ackPort_keeps : ∀ (a0 : State) a1 a2 a3 a4, State.Keeps p a0 → State.Keeps p (State.ackPort a0 a1 a2 a3
      a4) := by
  intro a0 a1 a2 a3 a4 h0
  unfold State.ackPort
  exact (State.setPort_keeps _ _ _ h0)

theorem State.fecReport_keeps : ∀ (a0 : State) a1 a2 a3, State.Keeps p a0 → State.Keeps p (State.fecReport a0 a1 a2
      a3) := by
  intro a0 a1 a2 a3 h0
  unfold State.fecReport
  exact (State.lifeAdd_keeps _ _ _ (State.bump_keeps _ _ _ (State.bump_keeps _ _ _ h0)))

theorem State.badFlit_keeps : ∀ (a0 : State) a1, State.Keeps p a0 → State.Keeps p (State.badFlit a0 a1) := by
  intro a0 a1 h0
  unfold State.badFlit
  exact (State.bump_keeps _ _ _ h0)

theorem State.goBack_keeps : ∀ (a0 : State) a1, State.Keeps p a0 → State.Keeps p (State.goBack a0 a1) := by
  intro a0 a1 h0
  unfold State.goBack
  exact (keeps_ite h0 (keeps_ite (State.startFast_keeps _ _ h0) (State.resendAll_keeps _ _ (State.setPort_keeps _ _ _
      h0))))

theorem State.portReident_keeps : ∀ (a0 : State) a1, State.Keeps p a0 → State.Keeps p (State.portReident a0 a1) := by
  intro a0 a1 h0
  unfold State.portReident
  exact (keeps_ite (State.setPort_keeps _ _ _ h0) h0)

theorem State.portRetrain_keeps : ∀ (a0 : State) a1, State.Keeps p a0 → State.Keeps p (State.portRetrain a0 a1) := by
  intro a0 a1 h0
  unfold State.portRetrain
  exact (keeps_ite (State.startFull_keeps _ _ (State.setPort_keeps _ _ _ h0)) h0)

theorem State.portOffNow_keeps : ∀ (a0 : State) a1, State.Keeps p a0 → State.Keeps p (State.portOffNow a0 a1) := by
  intro a0 a1 h0
  unfold State.portOffNow
  exact (State.poolRoutes_keeps _ (State.announce_keeps _ (State.evalFitness_keeps _ (State.lostMembers_keeps _
      (keeps_foldl (fun x2 x3 h1 => (State.reroute_keeps _ _ h1)) (State.setPort_keeps _ _ _ h0))))))

theorem State.portDisable_keeps : ∀ (a0 : State) a1, State.Keeps p a0 → State.Keeps p (State.portDisable a0 a1) := by
  intro a0 a1 h0
  unfold State.portDisable
  exact (keeps_ite h0 (keeps_ite (State.portChanged_keeps _ _ _ (State.setPort_keeps _ _ _ h0))
      (State.portChanged_keeps _ _ _ (State.portOffNow_keeps _ _ (State.loseAll_keeps _ _ h0)))))

theorem State.portDisabled_keeps : ∀ (a0 : State) a1, State.Keeps p a0 → State.Keeps p (State.portDisabled a0 a1) :=
      by
  intro a0 a1 h0
  unfold State.portDisabled
  exact (keeps_ite (State.portOffNow_keeps _ _ h0) h0)

theorem State.portEnable_keeps : ∀ (a0 : State) a1, State.Keeps p a0 → State.Keeps p (State.portEnable a0 a1) := by
  intro a0 a1 h0
  unfold State.portEnable
  exact (keeps_ite (State.startFull_keeps _ _ (State.setPort_keeps _ _ _ h0)) h0)

theorem State.portCtrl_keeps : ∀ (a0 : State) a1 a2, State.Keeps p a0 → State.Keeps p (State.portCtrl a0 a1 a2) := by
  intro a0 a1 a2 h0
  unfold State.portCtrl
  exact (keeps_ite (State.portRetrain_keeps _ _ (keeps_ite (State.portDisable_keeps _ _ (keeps_ite
      (State.portReident_keeps _ _ h0) h0)) (State.portEnable_keeps _ _ (keeps_ite (State.portReident_keeps _ _ h0)
      h0)))) (keeps_ite (State.portDisable_keeps _ _ (keeps_ite (State.portReident_keeps _ _ h0) h0))
      (State.portEnable_keeps _ _ (keeps_ite (State.portReident_keeps _ _ h0) h0))))

theorem State.identIn_keeps : ∀ (a0 : State) a1 a2 a3 a4, State.Keeps p a0 → State.Keeps p (State.identIn a0 a1 a2 a3
      a4) := by
  intro a0 a1 a2 a3 a4 h0
  unfold State.identIn
  exact (keeps_ite h0 (keeps_ite (State.portDown_keeps _ _ _ (State.setPort_keeps _ _ _ h0)) (keeps_ite (keeps_ite
      (State.portChanged_keeps _ _ _ (State.portUp_keeps _ _ (State.setPort_keeps _ _ _ h0))) (State.setPort_keeps _
      _ _ h0)) (keeps_ite (State.miswire_keeps _ _ (State.setPort_keeps _ _ _ h0)) (State.setPort_keeps _ _ _ h0)))))

theorem State.trainAll_keeps : ∀ (a0 : State), State.Keeps p a0 → State.Keeps p (State.trainAll a0) := by
  intro a0 h0
  unfold State.trainAll
  exact (keeps_foldl (fun x2 x3 h1 => (keeps_ite h1 (keeps_ite (State.setPort_keeps _ _ _ h1) (keeps_ite h1
      (State.startFull_keeps _ _ h1))))) h0)

theorem State.identAll_keeps : ∀ (a0 : State), State.Keeps p a0 → State.Keeps p (State.identAll a0) := by
  intro a0 h0
  unfold State.identAll
  exact (keeps_foldl (fun x2 x3 h1 => (State.portReident_keeps _ _ h1)) h0)

theorem State.setHoldover_keeps : ∀ (a0 : State) a1 a2, State.Keeps p a0 → State.Keeps p (State.setHoldover a0 a1 a2)
      := by
  intro a0 a1 a2 h0
  unfold State.setHoldover
  exact (State.setReg_keeps _ _ _ h0)

theorem State.loadFt_keeps : ∀ (a0 : State) a1, State.Keeps p a0 → State.Keeps p (State.loadFt a0 a1) := by
  intro a0 a1 h0
  unfold State.loadFt
  exact (State.setFlag_keeps _ _ _ (State.setFlag_keeps _ _ _ (keeps_mk h0 rfl rfl rfl rfl)))

theorem State.timeReply_keeps : ∀ (a0 : State) a1 a2 a3 a4 a5 a6 a7, State.Keeps p a0 → State.Keeps p (State.timeReply a0 a1 a2 a3 a4 a5 a6 a7) := by
  intro a0 a1 a2 a3 a4 a5 a6 a7 h0
  unfold State.timeReply
  exact (by split; (exact h0); (exact (keeps_ite h0 (keeps_ite (keeps_mk (State.setReg_keeps _ _ _ (State.setReg_keeps _ _ _ h0)) rfl rfl rfl rfl) (keeps_mk (State.setHoldover_keeps _ _ _ (keeps_ite (keeps_mk (keeps_mk (State.setReg_keeps _ _ _ (State.setReg_keeps _ _ _ h0)) rfl rfl rfl rfl) rfl rfl rfl rfl) (State.loadFt_keeps _ _ (keeps_mk (State.setReg_keeps _ _ _ (State.setReg_keeps _ _ _ h0)) rfl rfl rfl rfl)))) rfl rfl rfl rfl)))))

theorem State.ppsEdge_keeps : ∀ (a0 : State), State.Keeps p a0 → State.Keeps p (State.ppsEdge a0) := by
  intro a0 h0
  unfold State.ppsEdge
  exact (keeps_ite h0 (keeps_ite (keeps_ite h0 (keeps_mk (State.bump_keeps _ _ _ (State.setHoldover_keeps _ _ _
      (State.loadFt_keeps _ _ h0))) rfl rfl rfl rfl)) (keeps_ite (State.bumpSeen_keeps _ _ _ _ h0) (keeps_mk
      (State.setHoldover_keeps _ _ _ (State.bump_keeps _ _ _ h0)) rfl rfl rfl rfl))))

theorem State.holdover_keeps : ∀ (a0 : State), State.Keeps p a0 → State.Keeps p (State.holdover a0) := by
  intro a0 h0
  unfold State.holdover
  exact (keeps_ite (keeps_ite h0 (keeps_mk (State.lifeAdd_keeps _ _ _ (State.setHoldover_keeps _ _ _
      (State.freeWord_keeps _ h0))) rfl rfl rfl rfl)) (keeps_mk (State.setHoldover_keeps _ _ _ h0) rfl rfl rfl rfl))

end Sys2Proof.Machine
end

