-- ==== Sys2Proof/Laws/KeepTraining.lean ====
section
/-! SUPPORT. What the operations of Machine/Training.lean keep: for each, if the invariants hold before it with commands `p` waiting, they
hold after it with the same commands waiting. -/

set_option linter.unusedTactic false

namespace Sys2Proof.Machine

variable {p : List Instr}

theorem State.readAll_keeps : ∀ (a0 : State) a1, State.Keeps p a0 → State.Keeps p (State.readAll a0 a1).1 := by
  intro a0 a1 h0
  unfold State.readAll
  exact (keeps_foldl_fst (fun x1 x2 h3 => (keeps_fst (State.readNear_keeps _ _ _ h3))) h0)

theorem State.writeAll_keeps : ∀ (a0 : State) a1, State.Keeps p a0 → State.Keeps p (State.writeAll a0 a1).1 := by
  intro a0 a1 h0
  unfold State.writeAll
  exact (keeps_foldl_fst (fun x1 x2 h3 => (keeps_fst (State.writeNear_keeps _ _ _ h3))) h0)

theorem State.putHash_keeps : ∀ (a0 : State) a1 a2, State.Keeps p a0 → State.Keeps p (State.putHash a0 a1 a2).1 := by
  intro a0 a1 a2 h0
  unfold State.putHash
  exact (by (try dsimp only); split; (exact (State.writeNear_keeps _ _ _ h0)); (exact h0))

theorem State.optApply_keeps : ∀ (a0 : State) a1 a2 a3, State.Keeps p a0 → State.Keeps p (State.optApply a0 a1 a2
      a3).1 := by
  intro a0 a1 a2 a3 h0
  unfold State.optApply
  exact (keeps_ite_fst (keeps_fst (keeps_foldl (fun x2 x3 h1 => (State.havocNear_keeps _ _ _ h1))
      (State.readAll_keeps _ _ h0))) (keeps_ite_fst (keeps_fst (State.bumpSeenN_keeps _ _ _ _ _ (State.writeAll_keeps
      _ _ (State.readAll_keeps _ _ h0)))) (State.putHash_keeps _ _ _ (State.bumpCore_keeps _ _ _ _
      (State.bumpSeenN_keeps _ _ _ _ _ (State.writeAll_keeps _ _ (State.readAll_keeps _ _ h0)))))))

theorem State.optRun_keeps : ∀ (a0 : State) a1 a2, State.Keeps p a0 → State.Keeps p (State.optRun a0 a1 a2).1 := by
  intro a0 a1 a2 h0
  unfold State.optRun
  exact (keeps_ite_fst (keeps_fst (State.readNear_keeps _ _ _ h0)) (keeps_ite_fst (keeps_fst (State.setCore_keeps _ _
      _ (State.readNear_keeps _ _ _ h0))) (keeps_ite_fst (keeps_fst (State.readNear_keeps _ _ _ h0)) (keeps_ite_fst
      (keeps_fst (State.readNear_keeps _ _ _ h0)) (keeps_ite_fst (keeps_fst (State.readNear_keeps _ _ _ h0))
      (keeps_ite_fst (keeps_fst (State.putHash_keeps _ _ _ (State.bumpCore_keeps _ _ _ _ (State.readNear_keeps _ _ _
      h0)))) (keeps_fst (State.optApply_keeps _ _ _ _ (State.readNear_keeps _ _ _ h0)))))))))

theorem State.endUpdate_keeps : ∀ (a0 : State) a1 a2 a3, State.Keeps p a0 → State.Keeps p (State.endUpdate a0 a1 a2
      a3) := by
  intro a0 a1 a2 a3 h0
  unfold State.endUpdate
  exact (keeps_ite (State.signalOpt_keeps _ _ (State.endItem_keeps _ _ _ h0)) (State.endItem_keeps _ _ _ h0))

theorem State.optGo_keeps : ∀ (a0 : State) a1 a2, State.Keeps p a0 → State.Keeps p (State.optGo a0 a1 a2) := by
  intro a0 a1 a2 h0
  unfold State.optGo
  exact (by (try dsimp only); split; (exact (State.endUpdate_keeps _ _ _ _ (State.optRun_keeps _ _ _ (State.setCore_keeps _ _ _ h0)))); (exact (State.optRun_keeps _ _ _ (State.setCore_keeps _ _ _ h0))))

theorem State.setChain_keeps : ∀ (a0 : State) a1 a2, State.Keeps p a0 → State.Keeps p (State.setChain a0 a1 a2) := by
  intro a0 a1 a2 h0
  unfold State.setChain
  exact (State.setCore_keeps _ _ _ h0)

theorem State.signalLost_keeps : ∀ (a0 : State) a1 a2 a3, State.Keeps p a0 → State.Keeps p (State.signalLost a0 a1 a2
      a3) := by
  intro a0 a1 a2 a3 h0
  unfold State.signalLost
  exact (State.logEvent_keeps _ _ _ _ _ (State.syncFault_keeps _ _ _ _ h0))

theorem State.signalAt_keeps : ∀ (a0 : State) a1 a2, State.Keeps p a0 → State.Keeps p (State.signalAt a0 a1 a2) := by
  intro a0 a1 a2 h0
  unfold State.signalAt
  exact (keeps_ite (State.signalSem_keeps _ _ h0) (keeps_ite (State.request_keeps _ _ _ h0) (State.signalLost_keeps _
      _ _ _ (State.request_keeps _ _ _ h0))))

theorem State.chainSend_keeps : ∀ (a0 : State) a1 a2 a3 a4 a5, State.Keeps p a0 → State.Keeps p (State.chainSend a0 a1 a2 a3 a4 a5) := by
  intro a0 a1 a2 a3 a4 a5 h0
  unfold State.chainSend
  exact (keeps_ite (keeps_ite (State.failChain_keeps _ _ _ (State.writeNear_keeps _ _ _ h0)) (by split; (exact (State.signalSem_keeps _ _ (State.writeNear_keeps _ _ _ h0))); (exact (State.writeNear_keeps _ _ _ h0)))) (keeps_ite (State.failChain_keeps _ _ _ (State.remoteWrite_keeps _ _ _ _ _ h0)) (by split; (exact (State.setChain_keeps _ _ _ (State.remoteWrite_keeps _ _ _ _ _ h0))); (exact (State.remoteWrite_keeps _ _ _ _ _ h0)))))

theorem State.chainAsk_keeps : ∀ (a0 : State) a1 a2 a3 a4, State.Keeps p a0 → State.Keeps p (State.chainAsk a0 a1 a2 a3 a4) := by
  intro a0 a1 a2 a3 a4 h0
  unfold State.chainAsk
  exact (keeps_ite (keeps_ite h0 (State.failChain_keeps _ _ _ h0)) (keeps_ite (State.failChain_keeps _ _ _ (State.request_keeps _ _ _ h0)) (by split; (exact (State.setChain_keeps _ _ _ (State.request_keeps _ _ _ h0))); (exact (State.request_keeps _ _ _ h0)))))

theorem State.chainSettle_keeps : ∀ (a0 : State) a1, State.Keeps p a0 → State.Keeps p (State.chainSettle a0 a1) := by
  intro a0 a1 h0
  unfold State.chainSettle
  exact (by split; (exact (keeps_ite (State.endUpdate_keeps _ _ _ _ (State.setCore_keeps _ _ _ (State.dropWaiter_keeps _ _ (State.dropWaiter_keeps _ _ h0)))) h0)); (exact h0))

theorem State.chainStage_keeps : ∀ (a0 : State) a1 a2, State.Keeps p a0 → State.Keeps p (State.chainStage a0 a1 a2) := by
  intro a0 a1 a2 h0
  unfold State.chainStage
  exact (by split; (exact (State.setChain_keeps _ _ _ h0)); (exact h0))

theorem State.chainSignals_keeps : ∀ a0 (a1 : State) a2, State.Keeps p a1 → State.Keeps p (State.chainSignals a0 a1 a2)
  | 0, v0, v1, h1 => by
    rw [State.chainSignals.eq_1]
    exact h1
  | v2 + 1, v0, v1, h1 => by
    rw [State.chainSignals.eq_2]
    exact (by split; (exact (by split; (exact (keeps_ite h1 (State.chainSignals_keeps _ _ _ (by split; (exact (State.signalAt_keeps _ _ _ (State.setChain_keeps _ _ _ h1))); (exact (State.setChain_keeps _ _ _ h1)))))); (exact h1))); (exact h1))

theorem State.chainAck_keeps : ∀ (a0 : State) a1 a2 a3, State.Keeps p a0 → State.Keeps p (State.chainAck a0 a1 a2 a3) := by
  intro a0 a1 a2 a3 h0
  unfold State.chainAck
  exact (by split; (exact (keeps_ite (State.failChain_keeps _ _ _ h0) (State.chainSettle_keeps _ _ (State.chainSignals_keeps _ _ _ (State.setChain_keeps _ _ _ h0))))); (exact h0))

theorem State.awaitArrival_keeps : ∀ (a0 : State) a1, State.Keeps p a0 → State.Keeps p (State.awaitArrival a0 a1) := by
  intro a0 a1 h0
  unfold State.awaitArrival
  exact (by split; (exact (keeps_ite (State.registerWait_keeps _ _ _ (State.setChain_keeps _ _ _ h0)) (State.failChain_keeps _ _ _ (State.registerWait_keeps _ _ _ (State.setChain_keeps _ _ _ h0))))); (exact h0))

theorem State.chainBegin_keeps : ∀ (a0 : State) a1 a2, State.Keeps p a0 → State.Keeps p (State.chainBegin a0 a1 a2)
      := by
  intro a0 a1 a2 h0
  unfold State.chainBegin
  exact (keeps_ite (State.endItem_keeps _ _ _ (keeps_ite_fst (State.readNear_keeps _ _ _ h0) h0)) (keeps_ite
      (State.failChain_keeps _ _ _ (keeps_ite_fst (State.registerWait_keeps _ _ _ (State.setChain_keeps _ _ _
      (keeps_ite_fst (State.readNear_keeps _ _ _ h0) h0))) (keeps_fst (State.setChain_keeps _ _ _ (keeps_ite_fst
      (State.readNear_keeps _ _ _ h0) h0))))) (keeps_ite (keeps_ite (keeps_ite_fst (State.registerWait_keeps _ _ _
      (State.setChain_keeps _ _ _ (keeps_ite_fst (State.readNear_keeps _ _ _ h0) h0))) (keeps_fst
      (State.setChain_keeps _ _ _ (keeps_ite_fst (State.readNear_keeps _ _ _ h0) h0)))) (State.chainAsk_keeps _ _ _ _
      _ (keeps_ite_fst (State.registerWait_keeps _ _ _ (State.setChain_keeps _ _ _ (keeps_ite_fst
      (State.readNear_keeps _ _ _ h0) h0))) (keeps_fst (State.setChain_keeps _ _ _ (keeps_ite_fst
      (State.readNear_keeps _ _ _ h0) h0)))))) (State.awaitArrival_keeps _ _ (keeps_ite (keeps_ite_fst
      (State.registerWait_keeps _ _ _ (State.setChain_keeps _ _ _ (keeps_ite_fst (State.readNear_keeps _ _ _ h0)
      h0))) (keeps_fst (State.setChain_keeps _ _ _ (keeps_ite_fst (State.readNear_keeps _ _ _ h0) h0))))
      (State.chainAsk_keeps _ _ _ _ _ (keeps_ite_fst (State.registerWait_keeps _ _ _ (State.setChain_keeps _ _ _
      (keeps_ite_fst (State.readNear_keeps _ _ _ h0) h0))) (keeps_fst (State.setChain_keeps _ _ _ (keeps_ite_fst
      (State.readNear_keeps _ _ _ h0) h0))))))))))

theorem State.contribution_keeps : ∀ (a0 : State) a1 a2 a3, State.Keeps p a0 → State.Keeps p (State.contribution a0
      a1 a2 a3).1 := by
  intro a0 a1 a2 a3 h0
  unfold State.contribution
  exact (keeps_fst (State.readNear_keeps _ _ _ h0))

theorem State.arrivedChunk_keeps : ∀ (a0 : State) a1 a2, State.Keeps p a0 → State.Keeps p (State.arrivedChunk a0 a1
      a2).1 := by
  intro a0 a1 a2 h0
  unfold State.arrivedChunk
  exact (keeps_ite_fst (keeps_fst (State.readNear_keeps _ _ _ h0)) h0)

theorem State.emptyChunk_keeps : ∀ (a0 : State) a1 a2, State.Keeps p a0 → State.Keeps p (State.emptyChunk a0 a1 a2).2
      := by
  intro a0 a1 a2 h0
  unfold State.emptyChunk
  exact (keeps_ite_snd (State.freeBytes_keeps _ _ h0) h0)

theorem State.passChunk_keeps : ∀ (a0 : State) a1 a2 a3 a4, State.Keeps p a0 → State.Keeps p (State.passChunk a0 a1
      a2 a3 a4) := by
  intro a0 a1 a2 a3 a4 h0
  unfold State.passChunk
  exact (keeps_ite (keeps_ite (State.writeNear_keeps _ _ _ h0) (State.failChain_keeps _ _ _ (State.writeNear_keeps _
      _ _ h0))) (State.chainSend_keeps _ _ _ _ _ _ h0))

theorem State.doChunk_keeps : ∀ (a0 : State) a1 a2 a3, State.Keeps p a0 → State.Keeps p (State.doChunk a0 a1 a2 a3) := by
  intro a0 a1 a2 a3 h0
  unfold State.doChunk
  exact (keeps_ite (State.failChain_keeps _ _ _ (State.arrivedChunk_keeps _ _ _ h0)) (keeps_ite (keeps_ite (State.failChain_keeps _ _ _ (State.contribution_keeps _ _ _ _ (State.arrivedChunk_keeps _ _ _ h0))) (State.passChunk_keeps _ _ _ _ _ (State.bumpSeenN_keeps _ _ _ _ _ (State.contribution_keeps _ _ _ _ (State.arrivedChunk_keeps _ _ _ h0))))) (by split; (exact (State.passChunk_keeps _ _ _ _ _ (State.arrivedChunk_keeps _ _ _ h0))); (exact (keeps_ite (State.arrivedChunk_keeps _ _ _ h0) (State.passChunk_keeps _ _ _ _ _ (State.emptyChunk_keeps _ _ _ (State.arrivedChunk_keeps _ _ _ h0))))))))

theorem State.doTrailer_keeps : ∀ (a0 : State) a1 a2 a3, State.Keeps p a0 → State.Keeps p (State.doTrailer a0 a1 a2 a3) := by
  intro a0 a1 a2 a3 h0
  unfold State.doTrailer
  exact (keeps_ite (State.failChain_keeps _ _ _ (keeps_ite_fst (State.contribution_keeps _ _ _ _ h0) h0)) (State.chainSettle_keeps _ _ (keeps_ite (by split; (exact (State.setChain_keeps _ _ _ (keeps_ite_fst (State.contribution_keeps _ _ _ _ h0) h0))); (exact (keeps_ite_fst (State.contribution_keeps _ _ _ _ h0) h0))) (State.chainSend_keeps _ _ _ _ _ _ (by split; (exact (State.setChain_keeps _ _ _ (keeps_ite_fst (State.contribution_keeps _ _ _ _ h0) h0))); (exact (keeps_ite_fst (State.contribution_keeps _ _ _ _ h0) h0)))))))

theorem State.headPass_keeps : ∀ (a0 : State) a1 a2, State.Keeps p a0 → State.Keeps p (State.headPass a0 a1 a2) := by
  intro a0 a1 a2 h0
  unfold State.headPass
  exact (keeps_ite (State.doTrailer_keeps _ _ _ _ (keeps_foldl (fun x2 x3 h1 => (keeps_ite (State.doChunk_keeps _ _ _
      _ h1) h1)) h0)) (keeps_foldl (fun x5 x6 h4 => (keeps_ite (State.doChunk_keeps _ _ _ _ h4) h4)) h0))

theorem State.chainDecide_keeps : ∀ (a0 : State) a1 a2 a3 a4, State.Keeps p a0 → State.Keeps p (State.chainDecide a0
      a1 a2 a3 a4) := by
  intro a0 a1 a2 a3 a4 h0
  unfold State.chainDecide
  exact (keeps_ite (State.headPass_keeps _ _ _ (keeps_ite (keeps_ite (keeps_ite (State.setChain_keeps _ _ _ h0)
      (State.bumpSeen_keeps _ _ _ _ (State.setChain_keeps _ _ _ h0))) (State.bumpSeen_keeps _ _ _ _ (keeps_ite
      (State.setChain_keeps _ _ _ h0) (State.bumpSeen_keeps _ _ _ _ (State.setChain_keeps _ _ _ h0)))))
      (State.chainSend_keeps _ _ _ _ _ _ (keeps_ite (keeps_ite (State.setChain_keeps _ _ _ h0) (State.bumpSeen_keeps
      _ _ _ _ (State.setChain_keeps _ _ _ h0))) (State.bumpSeen_keeps _ _ _ _ (keeps_ite (State.setChain_keeps _ _ _
      h0) (State.bumpSeen_keeps _ _ _ _ (State.setChain_keeps _ _ _ h0)))))))) (keeps_ite (keeps_ite (keeps_ite
      (State.setChain_keeps _ _ _ h0) (State.bumpSeen_keeps _ _ _ _ (State.setChain_keeps _ _ _ h0)))
      (State.bumpSeen_keeps _ _ _ _ (keeps_ite (State.setChain_keeps _ _ _ h0) (State.bumpSeen_keeps _ _ _ _
      (State.setChain_keeps _ _ _ h0))))) (State.chainSend_keeps _ _ _ _ _ _ (keeps_ite (keeps_ite
      (State.setChain_keeps _ _ _ h0) (State.bumpSeen_keeps _ _ _ _ (State.setChain_keeps _ _ _ h0)))
      (State.bumpSeen_keeps _ _ _ _ (keeps_ite (State.setChain_keeps _ _ _ h0) (State.bumpSeen_keeps _ _ _ _
      (State.setChain_keeps _ _ _ h0))))))))

theorem State.chainDecision_keeps : ∀ (a0 : State) a1, State.Keeps p a0 → State.Keeps p (State.chainDecision a0 a1) := by
  intro a0 a1 h0
  unfold State.chainDecision
  exact (by split; (exact (keeps_ite h0 (keeps_ite (keeps_ite h0 (State.chainDecide_keeps _ _ _ _ _ h0)) (keeps_ite (keeps_ite h0 (State.chainDecide_keeps _ _ _ _ _ h0)) (keeps_ite (State.chainDecide_keeps _ _ _ _ _ h0) h0))))); (exact h0))

theorem State.land_keeps : ∀ (a0 : State) a1 a2 a3 a4, State.Keeps p a0 → State.Keeps p (State.land a0 a1 a2 a3 a4)
      := by
  intro a0 a1 a2 a3 a4 h0
  unfold State.land
  exact (keeps_ite (keeps_ite (State.signalSem_keeps _ _ (State.writeNear_keeps _ _ _ h0)) (State.writeNear_keeps _ _
      _ h0)) h0)

theorem State.arrive_keeps : ∀ (a0 : State) a1 a2 a3 a4 a5 a6, State.Keeps p a0 → (∀ z0 z1, State.Keeps p z0 → State.Keeps p (a6 z0 z1)) → State.Keeps p (State.arrive a0 a1 a2 a3 a4 a5 a6) := by
  intro a0 a1 a2 a3 a4 a5 a6 h0 hf_a6
  unfold State.arrive
  exact (by split; (exact (keeps_ite h0 (by (try dsimp only); split; (exact (keeps_ite (hf_a6 _ _ (State.land_keeps _ _ _ _ _ h0)) (State.land_keeps _ _ _ _ _ h0))); (exact (State.land_keeps _ _ _ _ _ h0))))); (exact h0))

theorem State.headerIn_keeps : ∀ (a0 : State) a1 a2, State.Keeps p a0 → State.Keeps p (State.headerIn a0 a1 a2) := by
  intro a0 a1 a2 h0
  unfold State.headerIn
  exact (keeps_ite (State.failChain_keeps _ _ _ (State.readNear_keeps _ _ _ h0)) (State.awaitArrival_keeps _ _
      (State.setChain_keeps _ _ _ (State.readNear_keeps _ _ _ h0))))

theorem State.chunkIn_keeps : ∀ (a0 : State) a1 a2, State.Keeps p a0 → State.Keeps p (State.chunkIn a0 a1 a2) := by
  intro a0 a1 a2 h0
  unfold State.chunkIn
  exact (State.awaitArrival_keeps _ _ (State.doChunk_keeps _ _ _ _ (State.setChain_keeps _ _ _ h0)))

theorem State.trailerIn_keeps : ∀ (a0 : State) a1 a2, State.Keeps p a0 → State.Keeps p (State.trailerIn a0 a1 a2) :=
      by
  intro a0 a1 a2 h0
  unfold State.trailerIn
  exact (keeps_ite (State.failChain_keeps _ _ _ (State.readNear_keeps _ _ _ h0)) (State.doTrailer_keeps _ _ _ _
      (State.readNear_keeps _ _ _ h0)))

theorem State.chainDrop_keeps : ∀ (a0 : State) a1, State.Keeps p a0 → State.Keeps p (State.chainDrop a0 a1) := by
  intro a0 a1 h0
  unfold State.chainDrop
  exact (State.chainSettle_keeps _ _ (State.chainStage_keeps _ _ _ (State.bumpSeen_keeps _ _ _ _
      (State.dropWaiter_keeps _ _ h0))))

theorem State.countLate_keeps : ∀ (a0 : State) a1 a2, State.Keeps p a0 → State.Keeps p (State.countLate a0 a1 a2) :=
      by
  intro a0 a1 a2 h0
  unfold State.countLate
  exact (keeps_ite h0 (State.bumpCore_keeps _ _ _ _ h0))

theorem State.lateGo_keeps : ∀ (a0 : State) a1, State.Keeps p a0 → State.Keeps p (State.lateGo a0 a1) := by
  intro a0 a1 h0
  unfold State.lateGo
  exact (by split; (exact (keeps_ite h0 (by split; (exact h0); (exact (keeps_ite (State.chainDrop_keeps _ _ h0) (keeps_ite (State.failChain_keeps _ _ _ (State.contribution_keeps _ _ _ _ h0)) (State.chainSettle_keeps _ _ (State.chainStage_keeps _ _ _ (keeps_ite (State.chainSend_keeps _ _ _ _ _ _ (State.chainSend_keeps _ _ _ _ _ _ (State.contribution_keeps _ _ _ _ h0))) (State.chainSend_keeps _ _ _ _ _ _ (State.contribution_keeps _ _ _ _ h0))))))))))); (exact h0))

theorem State.lateClaim_keeps : ∀ (a0 : State) a1 a2, State.Keeps p a0 → State.Keeps p (State.lateClaim a0 a1 a2) := by
  intro a0 a1 a2 h0
  unfold State.lateClaim
  exact (keeps_ite (State.chainAsk_keeps _ _ _ _ _ (State.setChain_keeps _ _ _ h0)) (keeps_ite (keeps_ite (State.failChain_keeps _ _ _ (State.amoAt_keeps _ _ _ _ _ _ _ (State.chainAsk_keeps _ _ _ _ _ (State.setChain_keeps _ _ _ h0)))) (by split; (exact (State.lateGo_keeps _ _ (State.setChain_keeps _ _ _ (State.amoAt_keeps _ _ _ _ _ _ _ (State.chainAsk_keeps _ _ _ _ _ (State.setChain_keeps _ _ _ h0)))))); (exact (State.amoAt_keeps _ _ _ _ _ _ _ (State.chainAsk_keeps _ _ _ _ _ (State.setChain_keeps _ _ _ h0)))))) (keeps_ite (State.request_keeps _ _ _ (State.chainAsk_keeps _ _ _ _ _ (State.setChain_keeps _ _ _ h0))) (State.failChain_keeps _ _ _ (State.request_keeps _ _ _ (State.chainAsk_keeps _ _ _ _ _ (State.setChain_keeps _ _ _ h0)))))))

theorem State.chainCheckAck_keeps : ∀ (a0 : State) a1 a2, State.Keeps p a0 → State.Keeps p (State.chainCheckAck a0 a1 a2) := by
  intro a0 a1 a2 h0
  unfold State.chainCheckAck
  exact (by split; (exact (keeps_ite (State.failChain_keeps _ _ _ h0) (State.lateGo_keeps _ _ (State.setChain_keeps _ _ _ h0)))); (exact h0))

theorem State.claimAck_keeps : ∀ (a0 : State) a1 a2 a3, State.Keeps p a0 → State.Keeps p (State.claimAck a0 a1 a2 a3) := by
  intro a0 a1 a2 a3 h0
  unfold State.claimAck
  exact (by split; (exact (keeps_ite (State.failChain_keeps _ _ _ h0) (State.lateGo_keeps _ _ (State.setChain_keeps _ _ _ h0)))); (exact h0))

theorem State.lateCopy_keeps : ∀ (a0 : State) a1, State.Keeps p a0 → State.Keeps p (State.lateCopy a0 a1) := by
  intro a0 a1 h0
  unfold State.lateCopy
  exact (by split; (exact (keeps_ite h0 (keeps_ite (State.chainDrop_keeps _ _ (State.countLate_keeps _ _ _ h0)) (State.lateClaim_keeps _ _ _ (State.countLate_keeps _ _ _ h0))))); (exact h0))

theorem State.graceEnd_keeps : ∀ (a0 : State) a1, State.Keeps p a0 → State.Keeps p (State.graceEnd a0 a1) := by
  intro a0 a1 h0
  unfold State.graceEnd
  exact (by split; (exact (keeps_ite h0 (State.chainDrop_keeps _ _ (State.countLate_keeps _ _ _ h0)))); (exact h0))

theorem State.noteFold_keeps : ∀ (a0 : State) a1, State.Keeps p a0 → State.Keeps p (State.noteFold a0 a1) := by
  intro a0 a1 h0
  unfold State.noteFold
  exact (by split; (exact (keeps_ite (State.setChain_keeps _ _ _ h0) h0)); (exact h0))

theorem State.lateSlots_keeps : ∀ (a0 : State) a1 a2, State.Keeps p a0 → State.Keeps p (State.lateSlots a0 a1 a2).1
      := by
  intro a0 a1 a2 h0
  unfold State.lateSlots
  exact (keeps_ite_fst h0 (keeps_fst (State.readNear_keeps _ _ _ h0)))

theorem State.foldSlot_keeps : ∀ a0 (a1 : State × _) a2, State.Keeps p a1.1 → State.Keeps p (State.foldSlot a0 a1
      a2).1 := by
  intro a0 a1 a2 h1
  unfold State.foldSlot
  exact (keeps_ite_fst (keeps_fst (State.readNear_keeps _ _ _ h1)) (keeps_fst (State.readNear_keeps _ _ _ h1)))

theorem State.foldNow_keeps : ∀ (a0 : State) a1 a2 a3, State.Keeps p a0 → State.Keeps p (State.foldNow a0 a1 a2 a3)
      := by
  intro a0 a1 a2 a3 h0
  unfold State.foldNow
  exact (keeps_ite (State.failChain_keeps _ _ _ (State.lateSlots_keeps _ _ _ (keeps_ite_fst (State.readNear_keeps _ _
      _ h0) h0))) (keeps_ite (State.failChain_keeps _ _ _ (keeps_ite_fst (State.contribution_keeps _ _ _ _
      (keeps_foldl_fst (fun x1 x2 h3 => (State.foldSlot_keeps _ _ _ h3)) (keeps_fst (State.lateSlots_keeps _ _ _
      (keeps_ite_fst (State.readNear_keeps _ _ _ h0) h0))))) (keeps_fst (keeps_foldl_fst (fun x4 x5 h6 =>
      (State.foldSlot_keeps _ _ _ h6)) (keeps_fst (State.lateSlots_keeps _ _ _ (keeps_ite_fst (State.readNear_keeps _
      _ _ h0) h0))))))) (keeps_ite (State.failChain_keeps _ _ _ (State.writeAll_keeps _ _ (keeps_ite
      (State.bumpSeen_keeps _ _ _ _ (keeps_ite (State.countLate_keeps _ _ _ (State.bumpCore_keeps _ _ _ _
      (State.bumpSeenN_keeps _ _ _ _ _ (keeps_ite_fst (State.contribution_keeps _ _ _ _ (keeps_foldl_fst (fun x7 x8
      h9 => (State.foldSlot_keeps _ _ _ h9)) (keeps_fst (State.lateSlots_keeps _ _ _ (keeps_ite_fst
      (State.readNear_keeps _ _ _ h0) h0))))) (keeps_fst (keeps_foldl_fst (fun x10 x11 h12 => (State.foldSlot_keeps _
      _ _ h12)) (keeps_fst (State.lateSlots_keeps _ _ _ (keeps_ite_fst (State.readNear_keeps _ _ _ h0) h0)))))))))
      (State.bumpCore_keeps _ _ _ _ (State.bumpSeenN_keeps _ _ _ _ _ (keeps_ite_fst (State.contribution_keeps _ _ _ _
      (keeps_foldl_fst (fun x13 x14 h15 => (State.foldSlot_keeps _ _ _ h15)) (keeps_fst (State.lateSlots_keeps _ _ _
      (keeps_ite_fst (State.readNear_keeps _ _ _ h0) h0))))) (keeps_fst (keeps_foldl_fst (fun x16 x17 h18 =>
      (State.foldSlot_keeps _ _ _ h18)) (keeps_fst (State.lateSlots_keeps _ _ _ (keeps_ite_fst (State.readNear_keeps
      _ _ _ h0) h0)))))))))) (keeps_ite (State.countLate_keeps _ _ _ (State.bumpCore_keeps _ _ _ _
      (State.bumpSeenN_keeps _ _ _ _ _ (keeps_ite_fst (State.contribution_keeps _ _ _ _ (keeps_foldl_fst (fun x19 x20
      h21 => (State.foldSlot_keeps _ _ _ h21)) (keeps_fst (State.lateSlots_keeps _ _ _ (keeps_ite_fst
      (State.readNear_keeps _ _ _ h0) h0))))) (keeps_fst (keeps_foldl_fst (fun x22 x23 h24 => (State.foldSlot_keeps _
      _ _ h24)) (keeps_fst (State.lateSlots_keeps _ _ _ (keeps_ite_fst (State.readNear_keeps _ _ _ h0) h0)))))))))
      (State.bumpCore_keeps _ _ _ _ (State.bumpSeenN_keeps _ _ _ _ _ (keeps_ite_fst (State.contribution_keeps _ _ _ _
      (keeps_foldl_fst (fun x25 x26 h27 => (State.foldSlot_keeps _ _ _ h27)) (keeps_fst (State.lateSlots_keeps _ _ _
      (keeps_ite_fst (State.readNear_keeps _ _ _ h0) h0))))) (keeps_fst (keeps_foldl_fst (fun x28 x29 h30 =>
      (State.foldSlot_keeps _ _ _ h30)) (keeps_fst (State.lateSlots_keeps _ _ _ (keeps_ite_fst (State.readNear_keeps
      _ _ _ h0) h0)))))))))))) (State.chainSettle_keeps _ _ (State.chainStage_keeps _ _ _ (State.writeAll_keeps _ _
      (keeps_ite (State.bumpSeen_keeps _ _ _ _ (keeps_ite (State.countLate_keeps _ _ _ (State.bumpCore_keeps _ _ _ _
      (State.bumpSeenN_keeps _ _ _ _ _ (keeps_ite_fst (State.contribution_keeps _ _ _ _ (keeps_foldl_fst (fun x31 x32
      h33 => (State.foldSlot_keeps _ _ _ h33)) (keeps_fst (State.lateSlots_keeps _ _ _ (keeps_ite_fst
      (State.readNear_keeps _ _ _ h0) h0))))) (keeps_fst (keeps_foldl_fst (fun x34 x35 h36 => (State.foldSlot_keeps _
      _ _ h36)) (keeps_fst (State.lateSlots_keeps _ _ _ (keeps_ite_fst (State.readNear_keeps _ _ _ h0) h0)))))))))
      (State.bumpCore_keeps _ _ _ _ (State.bumpSeenN_keeps _ _ _ _ _ (keeps_ite_fst (State.contribution_keeps _ _ _ _
      (keeps_foldl_fst (fun x37 x38 h39 => (State.foldSlot_keeps _ _ _ h39)) (keeps_fst (State.lateSlots_keeps _ _ _
      (keeps_ite_fst (State.readNear_keeps _ _ _ h0) h0))))) (keeps_fst (keeps_foldl_fst (fun x40 x41 h42 =>
      (State.foldSlot_keeps _ _ _ h42)) (keeps_fst (State.lateSlots_keeps _ _ _ (keeps_ite_fst (State.readNear_keeps
      _ _ _ h0) h0)))))))))) (keeps_ite (State.countLate_keeps _ _ _ (State.bumpCore_keeps _ _ _ _
      (State.bumpSeenN_keeps _ _ _ _ _ (keeps_ite_fst (State.contribution_keeps _ _ _ _ (keeps_foldl_fst (fun x43 x44
      h45 => (State.foldSlot_keeps _ _ _ h45)) (keeps_fst (State.lateSlots_keeps _ _ _ (keeps_ite_fst
      (State.readNear_keeps _ _ _ h0) h0))))) (keeps_fst (keeps_foldl_fst (fun x46 x47 h48 => (State.foldSlot_keeps _
      _ _ h48)) (keeps_fst (State.lateSlots_keeps _ _ _ (keeps_ite_fst (State.readNear_keeps _ _ _ h0) h0)))))))))
      (State.bumpCore_keeps _ _ _ _ (State.bumpSeenN_keeps _ _ _ _ _ (keeps_ite_fst (State.contribution_keeps _ _ _ _
      (keeps_foldl_fst (fun x49 x50 h51 => (State.foldSlot_keeps _ _ _ h51)) (keeps_fst (State.lateSlots_keeps _ _ _
      (keeps_ite_fst (State.readNear_keeps _ _ _ h0) h0))))) (keeps_fst (keeps_foldl_fst (fun x52 x53 h54 =>
      (State.foldSlot_keeps _ _ _ h54)) (keeps_fst (State.lateSlots_keeps _ _ _ (keeps_ite_fst (State.readNear_keeps
      _ _ _ h0) h0))))))))))))))))

theorem State.lateFold_keeps : ∀ (a0 : State) a1, State.Keeps p a0 → State.Keeps p (State.lateFold a0 a1) := by
  intro a0 a1 h0
  unfold State.lateFold
  exact (by split; (exact (keeps_ite h0 (by split; (exact (State.foldNow_keeps _ _ _ _ h0)); (exact h0)))); (exact h0))

theorem State.update_keeps : ∀ (a0 : State) a1 a2, State.Keeps p a0 → State.Keeps p (State.update a0 a1 a2) := by
  intro a0 a1 a2 h0
  unfold State.update
  exact (keeps_ite h0 (by (try dsimp only); split; (exact (keeps_ite h0 (State.takeItem_keeps _ _ h0))); (exact (keeps_ite (keeps_ite h0 (State.takeItem_keeps _ _ h0)) (keeps_ite (keeps_ite h0 (State.takeItem_keeps _ _ h0)) (by split; (exact (keeps_ite (State.optGo_keeps _ _ _ (State.served_keeps _ _ (keeps_ite h0 (State.takeItem_keeps _ _ h0)))) (State.chainBegin_keeps _ _ _ (State.served_keeps _ _ (keeps_ite h0 (State.takeItem_keeps _ _ h0)))))); (exact (State.endItem_keeps _ _ _ (keeps_ite h0 (State.takeItem_keeps _ _ h0))))))))))

theorem State.blockReread_keeps : ∀ (a0 : State) a1, State.Keeps p a0 → State.Keeps p (State.blockReread a0 a1) := by
  intro a0 a1 h0
  unfold State.blockReread
  exact (by split; (exact (keeps_ite (State.optGo_keeps _ _ _ h0) h0)); (exact h0))

theorem execOpt_keeps : ∀ a0 (a1 : State), State.Keeps p a1 → ∀ t, execOpt a0 a1 = .next t → State.Keeps p t := by
  intro a0 a1 h1 t ht
  exact keeps_ifUnit ht (State.update_keeps _ _ _ h1)

theorem execBlockReread_keeps : ∀ a0 (a1 : State), State.Keeps p a1 → ∀ t, execBlockReread a0 a1 = .next t →
      State.Keeps p t := by
  intro a0 a1 h1 t ht
  exact keeps_ifUnit ht (State.blockReread_keeps _ _ h1)

theorem execChain_keeps : ∀ a0 (a1 : State), State.Keeps p a1 → ∀ t, execChain a0 a1 = .next t → State.Keeps p t := by
  intro a0 a1 h1 t ht
  exact keeps_ifUnit ht (State.update_keeps _ _ _ h1)

theorem execChainDecision_keeps : ∀ a0 (a1 : State), State.Keeps p a1 → ∀ t, execChainDecision a0 a1 = .next t →
      State.Keeps p t := by
  intro a0 a1 h1 t ht
  exact keeps_ifUnit ht (State.chainDecision_keeps _ _ h1)

theorem execChainHeaderArrival_keeps : ∀ a0 a1 (a2 : State), State.Keeps p a2 → ∀ t, execChainHeaderArrival a0 a1 a2
      = .next t → State.Keeps p t := by
  intro a0 a1 a2 h2 t ht
  exact keeps_ifUnit ht (State.arrive_keeps _ _ _ _ _ _ _ h2 (fun x2 x3 h1 => (State.headerIn_keeps _ _ _ h1)))

theorem execChainChunkArrival_keeps : ∀ a0 a1 (a2 : State), State.Keeps p a2 → ∀ t, execChainChunkArrival a0 a1 a2 =
      .next t → State.Keeps p t := by
  intro a0 a1 a2 h2 t ht
  exact keeps_ifUnit ht (State.arrive_keeps _ _ _ _ _ _ _ h2 (fun x2 x3 h1 => (State.chunkIn_keeps _ _ _ h1)))

theorem execChainTrailerArrival_keeps : ∀ a0 a1 (a2 : State), State.Keeps p a2 → ∀ t, execChainTrailerArrival a0 a1
      a2 = .next t → State.Keeps p t := by
  intro a0 a1 a2 h2 t ht
  exact keeps_ifUnit ht (State.arrive_keeps _ _ _ _ _ _ _ h2 (fun x2 x3 h1 => (State.trailerIn_keeps _ _ _ h1)))

theorem execLateCopy_keeps : ∀ a0 (a1 : State), State.Keeps p a1 → ∀ t, execLateCopy a0 a1 = .next t → State.Keeps p
      t := by
  intro a0 a1 h1 t ht
  exact keeps_ifUnit ht (State.lateCopy_keeps _ _ h1)

theorem execGraceEnd_keeps : ∀ a0 (a1 : State), State.Keeps p a1 → ∀ t, execGraceEnd a0 a1 = .next t → State.Keeps p
      t := by
  intro a0 a1 h1 t ht
  exact keeps_ifUnit ht (State.graceEnd_keeps _ _ h1)

theorem execLateFold_keeps : ∀ a0 (a1 : State), State.Keeps p a1 → ∀ t, execLateFold a0 a1 = .next t → State.Keeps p
      t := by
  intro a0 a1 h1 t ht
  exact keeps_ifUnit ht (State.lateFold_keeps _ _ h1)

end Sys2Proof.Machine
end

