-- ==== Sys2Proof/Laws/KeepSnapshots.lean ====
section
/-! SUPPORT. What the operations of Machine/Snapshots.lean keep: for each, if the invariants hold before it with commands `p` waiting, they
hold after it with the same commands waiting. -/

set_option linter.unusedTactic false

namespace Sys2Proof.Machine

variable {p : List Instr}

theorem State.setScEng_keeps : ∀ (a0 : State) a1 a2, State.Keeps p a0 → State.Keeps p (State.setScEng a0 a1 a2) := by
  intro a0 a1 a2 h0
  unfold State.setScEng
  exact (keeps_mk h0 rfl rfl rfl rfl)

theorem State.scEnd_keeps : ∀ (a0 : State) a1 a2 a3, State.Keeps p a0 → State.Keeps p (State.scEnd a0 a1 a2 a3) := by
  intro a0 a1 a2 a3 h0
  unfold State.scEnd
  exact (keeps_ite (State.signalSem_keeps _ _ (keeps_ite (State.lifeAdd_keeps _ _ _ (keeps_ite (State.bump_keeps _ _
      _ (State.bumpSeenN_keeps _ _ _ _ _ (State.count_keeps _ _ (State.setReg_keeps _ _ _ (State.writeNear_keeps _ _
      _ (State.writeNear_keeps _ _ _ (State.setScEng_keeps _ _ _ (keeps_mk h0 rfl rfl rfl rfl))))))))
      (State.faultRec_keeps _ _ _ _ (State.bumpSeenN_keeps _ _ _ _ _ (State.count_keeps _ _ (State.setReg_keeps _ _ _
      (State.writeNear_keeps _ _ _ (State.writeNear_keeps _ _ _ (State.setScEng_keeps _ _ _ (keeps_mk h0 rfl rfl rfl
      rfl)))))))))) (keeps_ite (State.lifeAdd_keeps _ _ _ (keeps_ite (State.bump_keeps _ _ _ (State.bumpSeenN_keeps _
      _ _ _ _ (State.count_keeps _ _ (State.setReg_keeps _ _ _ (State.writeNear_keeps _ _ _ (State.writeNear_keeps _
      _ _ (State.setScEng_keeps _ _ _ (keeps_mk h0 rfl rfl rfl rfl)))))))) (State.faultRec_keeps _ _ _ _
      (State.bumpSeenN_keeps _ _ _ _ _ (State.count_keeps _ _ (State.setReg_keeps _ _ _ (State.writeNear_keeps _ _ _
      (State.writeNear_keeps _ _ _ (State.setScEng_keeps _ _ _ (keeps_mk h0 rfl rfl rfl rfl)))))))))) (keeps_ite
      (State.lifeAdd_keeps _ _ _ (keeps_ite (State.bump_keeps _ _ _ (State.bumpSeenN_keeps _ _ _ _ _
      (State.count_keeps _ _ (State.setReg_keeps _ _ _ (State.writeNear_keeps _ _ _ (State.writeNear_keeps _ _ _
      (State.setScEng_keeps _ _ _ (keeps_mk h0 rfl rfl rfl rfl)))))))) (State.faultRec_keeps _ _ _ _
      (State.bumpSeenN_keeps _ _ _ _ _ (State.count_keeps _ _ (State.setReg_keeps _ _ _ (State.writeNear_keeps _ _ _
      (State.writeNear_keeps _ _ _ (State.setScEng_keeps _ _ _ (keeps_mk h0 rfl rfl rfl rfl)))))))))) (keeps_ite
      (State.bump_keeps _ _ _ (State.bumpSeenN_keeps _ _ _ _ _ (State.count_keeps _ _ (State.setReg_keeps _ _ _
      (State.writeNear_keeps _ _ _ (State.writeNear_keeps _ _ _ (State.setScEng_keeps _ _ _ (keeps_mk h0 rfl rfl rfl
      rfl)))))))) (State.faultRec_keeps _ _ _ _ (State.bumpSeenN_keeps _ _ _ _ _ (State.count_keeps _ _
      (State.setReg_keeps _ _ _ (State.writeNear_keeps _ _ _ (State.writeNear_keeps _ _ _ (State.setScEng_keeps _ _ _
      (keeps_mk h0 rfl rfl rfl rfl))))))))))))) (keeps_ite (State.lifeAdd_keeps _ _ _ (keeps_ite (State.bump_keeps _
      _ _ (State.bumpSeenN_keeps _ _ _ _ _ (State.count_keeps _ _ (State.setReg_keeps _ _ _ (State.writeNear_keeps _
      _ _ (State.writeNear_keeps _ _ _ (State.setScEng_keeps _ _ _ (keeps_mk h0 rfl rfl rfl rfl))))))))
      (State.faultRec_keeps _ _ _ _ (State.bumpSeenN_keeps _ _ _ _ _ (State.count_keeps _ _ (State.setReg_keeps _ _ _
      (State.writeNear_keeps _ _ _ (State.writeNear_keeps _ _ _ (State.setScEng_keeps _ _ _ (keeps_mk h0 rfl rfl rfl
      rfl)))))))))) (keeps_ite (State.lifeAdd_keeps _ _ _ (keeps_ite (State.bump_keeps _ _ _ (State.bumpSeenN_keeps _
      _ _ _ _ (State.count_keeps _ _ (State.setReg_keeps _ _ _ (State.writeNear_keeps _ _ _ (State.writeNear_keeps _
      _ _ (State.setScEng_keeps _ _ _ (keeps_mk h0 rfl rfl rfl rfl)))))))) (State.faultRec_keeps _ _ _ _
      (State.bumpSeenN_keeps _ _ _ _ _ (State.count_keeps _ _ (State.setReg_keeps _ _ _ (State.writeNear_keeps _ _ _
      (State.writeNear_keeps _ _ _ (State.setScEng_keeps _ _ _ (keeps_mk h0 rfl rfl rfl rfl)))))))))) (keeps_ite
      (State.lifeAdd_keeps _ _ _ (keeps_ite (State.bump_keeps _ _ _ (State.bumpSeenN_keeps _ _ _ _ _
      (State.count_keeps _ _ (State.setReg_keeps _ _ _ (State.writeNear_keeps _ _ _ (State.writeNear_keeps _ _ _
      (State.setScEng_keeps _ _ _ (keeps_mk h0 rfl rfl rfl rfl)))))))) (State.faultRec_keeps _ _ _ _
      (State.bumpSeenN_keeps _ _ _ _ _ (State.count_keeps _ _ (State.setReg_keeps _ _ _ (State.writeNear_keeps _ _ _
      (State.writeNear_keeps _ _ _ (State.setScEng_keeps _ _ _ (keeps_mk h0 rfl rfl rfl rfl)))))))))) (keeps_ite
      (State.bump_keeps _ _ _ (State.bumpSeenN_keeps _ _ _ _ _ (State.count_keeps _ _ (State.setReg_keeps _ _ _
      (State.writeNear_keeps _ _ _ (State.writeNear_keeps _ _ _ (State.setScEng_keeps _ _ _ (keeps_mk h0 rfl rfl rfl
      rfl)))))))) (State.faultRec_keeps _ _ _ _ (State.bumpSeenN_keeps _ _ _ _ _ (State.count_keeps _ _
      (State.setReg_keeps _ _ _ (State.writeNear_keeps _ _ _ (State.writeNear_keeps _ _ _ (State.setScEng_keeps _ _ _
      (keeps_mk h0 rfl rfl rfl rfl)))))))))))))

theorem State.scRefuse_keeps : ∀ (a0 : State) a1 a2, State.Keeps p a0 → State.Keeps p (State.scRefuse a0 a1 a2) := by
  intro a0 a1 a2 h0
  unfold State.scRefuse
  exact (State.count_keeps _ _ (State.setReg_keeps _ _ _ h0))

theorem State.scCmd_keeps : ∀ (a0 : State) a1 a2, State.Keeps p a0 → State.Keeps p (State.scCmd a0 a1 a2) := by
  intro a0 a1 a2 h0
  unfold State.scCmd
  exact (keeps_ite (State.refusedWrite_keeps _ h0) (keeps_ite (State.scRefuse_keeps _ _ _ h0) (keeps_ite (State.scRefuse_keeps _ _ _ h0) (keeps_ite (State.scRefuse_keeps _ _ _ h0) (keeps_ite (State.scRefuse_keeps _ _ _ (State.readNear_keeps _ _ _ h0)) (by (try dsimp only); split; (exact (keeps_ite (State.scEnd_keeps _ _ _ _ (State.readNear_keeps _ _ _ (State.setScEng_keeps _ _ _ (State.readNear_keeps _ _ _ h0)))) (State.readNear_keeps _ _ _ (State.setScEng_keeps _ _ _ (State.readNear_keeps _ _ _ h0))))); (exact (State.scEnd_keeps _ _ _ _ (State.setScEng_keeps _ _ _ (State.readNear_keeps _ _ _ h0))))))))))

theorem State.scPut_keeps : ∀ (a0 : State) a1 a2 a3 a4 a5, State.Keeps p a0 → State.Keeps p (State.scPut a0 a1 a2 a3 a4 a5).1 := by
  intro a0 a1 a2 a3 a4 a5 h0
  unfold State.scPut
  exact (keeps_ite_fst (by split; (exact (keeps_ite_fst h0 (State.writeNear_keeps _ _ _ h0))); (exact h0)) (keeps_fst (State.setScEng_keeps _ _ _ (State.remoteWrite_keeps _ _ _ _ _ h0))))

theorem State.scPutAll_keeps : ∀ (a0 : State) a1 a2 a3, State.Keeps p a0 → State.Keeps p (State.scPutAll a0 a1 a2
      a3).1 := by
  intro a0 a1 a2 a3 h0
  unfold State.scPutAll
  exact (keeps_foldl_fst (fun x1 x2 h3 => (keeps_fst (State.scPut_keeps _ _ _ _ _ _ h3))) h0)

theorem State.snapWrites_keeps : ∀ (a0 : State) a1 a2 a3, State.Keeps p a0 → State.Keeps p (State.snapWrites a0 a1 a2 a3).1 := by
  intro a0 a1 a2 a3 h0
  unfold State.snapWrites
  exact (by (try dsimp only); split; (exact h0); (exact h0); (exact h0); (exact (keeps_fst (State.readAll_keeps _ _ h0))))

theorem State.snapStage_keeps : ∀ a0 (a1 : State) a2 a3, State.Keeps p a1 → State.Keeps p (State.snapStage a0 a1 a2 a3)
  | 0, v0, v1, v2, h1 => by
    rw [State.snapStage.eq_1]
    exact h1
  | v3 + 1, v0, v1, v2, h1 => by
    rw [State.snapStage.eq_2]
    exact (keeps_ite (State.scEnd_keeps _ _ _ _ (State.snapWrites_keeps _ _ _ _ h1)) (keeps_ite (State.scEnd_keeps _ _ _ _ (keeps_ite (State.bump_keeps _ _ _ (State.scPutAll_keeps _ _ _ _ (State.setScEng_keeps _ _ _ (State.snapWrites_keeps _ _ _ _ h1)))) (State.scPutAll_keeps _ _ _ _ (State.setScEng_keeps _ _ _ (State.snapWrites_keeps _ _ _ _ h1))))) (keeps_ite (keeps_ite (State.bump_keeps _ _ _ (State.scPutAll_keeps _ _ _ _ (State.setScEng_keeps _ _ _ (State.snapWrites_keeps _ _ _ _ h1)))) (State.scPutAll_keeps _ _ _ _ (State.setScEng_keeps _ _ _ (State.snapWrites_keeps _ _ _ _ h1)))) (by split; (exact (State.snapStage_keeps _ _ _ _ (keeps_ite (State.bump_keeps _ _ _ (State.scPutAll_keeps _ _ _ _ (State.setScEng_keeps _ _ _ (State.snapWrites_keeps _ _ _ _ h1)))) (State.scPutAll_keeps _ _ _ _ (State.setScEng_keeps _ _ _ (State.snapWrites_keeps _ _ _ _ h1)))))); (exact (State.scEnd_keeps _ _ _ _ (keeps_ite (State.bump_keeps _ _ _ (State.scPutAll_keeps _ _ _ _ (State.setScEng_keeps _ _ _ (State.snapWrites_keeps _ _ _ _ h1)))) (State.scPutAll_keeps _ _ _ _ (State.setScEng_keeps _ _ _ (State.snapWrites_keeps _ _ _ _ h1))))))))))

theorem State.scAck_keeps : ∀ (a0 : State) a1 a2 a3, State.Keeps p a0 → State.Keeps p (State.scAck a0 a1 a2 a3) := by
  intro a0 a1 a2 a3 h0
  unfold State.scAck
  exact (keeps_ite h0 (keeps_ite (State.scEnd_keeps _ _ _ _ h0) (keeps_ite (State.setScEng_keeps _ _ _ h0) (by split; (exact (State.snapStage_keeps _ _ _ _ (State.setScEng_keeps _ _ _ h0))); (exact (State.scEnd_keeps _ _ _ _ (State.setScEng_keeps _ _ _ h0)))))))

theorem State.slotBytes_keeps : ∀ (a0 : State) a1 a2 a3 a4, State.Keeps p a0 → State.Keeps p (State.slotBytes a0 a1
      a2 a3 a4).1 := by
  intro a0 a1 a2 a3 a4 h0
  unfold State.slotBytes
  exact (keeps_ite_fst (keeps_ite_fst h0 (keeps_fst (State.readNear_keeps _ _ _ h0))) h0)

theorem State.pass1_keeps : ∀ (a0 : State) a1 a2 a3 a4, State.Keeps p a0 → State.Keeps p (State.pass1 a0 a1 a2 a3
      a4).1 := by
  intro a0 a1 a2 a3 a4 h0
  unfold State.pass1
  exact (keeps_foldl_fst (fun x1 x2 h3 => (keeps_ite_fst h3 (keeps_fst (State.slotBytes_keeps _ _ _ _ _ h3)))) h0)

theorem State.scRead_keeps : ∀ (a0 : State) a1 a2, State.Keeps p a0 → State.Keeps p (State.scRead a0 a1 a2) := by
  intro a0 a1 a2 h0
  unfold State.scRead
  exact (keeps_ite (State.scEnd_keeps _ _ _ _ (State.bump_keeps _ _ _ (State.pass1_keeps _ _ _ _ _ h0))) (keeps_ite
      (State.scEnd_keeps _ _ _ _ (State.bump_keeps _ _ _ (State.pass1_keeps _ _ _ _ _ h0))) (State.scEnd_keeps _ _ _
      _ (State.writeAll_keeps _ _ (State.bump_keeps _ _ _ (State.bump_keeps _ _ _ (State.pass1_keeps _ _ _ _ _
      h0)))))))

theorem State.scRow_keeps : ∀ (a0 : State) a1 a2 a3 a4, State.Keeps p a0 → State.Keeps p (State.scRow a0 a1 a2 a3 a4)
      := by
  intro a0 a1 a2 a3 a4 h0
  unfold State.scRow
  exact (keeps_ite (State.scRead_keeps _ _ _ h0) (keeps_ite (State.scCmd_keeps _ _ _ h0) (keeps_ite h0 (keeps_ite
      (State.scRead_keeps _ _ _ (State.scCmd_keeps _ _ _ h0)) (State.scCmd_keeps _ _ _ h0)))))

theorem execSnap_keeps : ∀ a0 a1 (a2 : State), State.Keeps p a2 → ∀ t, execSnap a0 a1 a2 = .next t → State.Keeps p t
      := by
  intro a0 a1 a2 h2 t ht
  exact keeps_ifUnit ht (keeps_ite h2 (State.scCmd_keeps _ _ _ h2))

theorem execSnapStart_keeps : ∀ a0 (a1 : State), State.Keeps p a1 → ∀ t, execSnapStart a0 a1 = .next t → State.Keeps
      p t := by
  intro a0 a1 h1 t ht
  exact keeps_ifUnit ht (keeps_ite (State.snapStage_keeps _ _ _ _ h1) h1)

theorem execScRestore_keeps : ∀ a0 a1 a2 (a3 : State), State.Keeps p a3 → ∀ t, execScRestore a0 a1 a2 a3 = .next t →
      State.Keeps p t := by
  intro a0 a1 a2 a3 h3 t ht
  exact keeps_ifUnit ht (State.scRow_keeps _ _ _ _ _ h3)

theorem execScCheck_keeps : ∀ a0 a1 a2 (a3 : State), State.Keeps p a3 → ∀ t, execScCheck a0 a1 a2 a3 = .next t →
      State.Keeps p t := by
  intro a0 a1 a2 a3 h3 t ht
  exact keeps_ifUnit ht (State.scRow_keeps _ _ _ _ _ h3)

theorem State.replaceRow_keeps : ∀ (a0 : State) a1 a2, State.Keeps p a0 → State.Keeps p (State.replaceRow a0 a1 a2)
      := by
  intro a0 a1 a2 h0
  unfold State.replaceRow
  exact (keeps_ite (State.lifeAdd_keeps _ _ _ h0) (State.evalFitness_keeps _ (State.lifeAdd_keeps _ _ _
      (State.record_keeps _ _ (State.spareUsed_keeps _ (keeps_mk h0 rfl rfl rfl rfl))))))

theorem State.substitute_keeps : ∀ (a0 : State), State.Keeps p a0 → State.Keeps p (State.substitute a0) := by
  intro a0 h0
  unfold State.substitute
  exact (keeps_foldl (fun x2 x3 h1 => (keeps_ite h1 (keeps_ite (State.replaceCore_keeps _ _ h1) h1))) (keeps_foldl
      (fun x5 x6 h4 => (keeps_ite h4 (keeps_foldl (fun x8 x9 h7 => (State.replaceRow_keeps _ _ _ h7)) h4))) h0))

theorem execDramBankCopyEnd_keeps : ∀ a0 a1 a2 (a3 : State), State.Keeps p a3 → ∀ t, execDramBankCopyEnd a0 a1 a2 a3
      = .next t → State.Keeps p t := by
  intro a0 a1 a2 a3 h3 t ht
  exact keeps_ifUnit ht (keeps_mk h3 rfl rfl rfl rfl)

theorem State.lifeSaveNow_keeps : ∀ (a0 : State), State.Keeps p a0 → State.Keeps p (State.lifeSaveNow a0).1 := by
  intro a0 h0
  unfold State.lifeSaveNow
  exact (keeps_ite_fst h0 (keeps_fst (keeps_mk h0 rfl rfl rfl rfl)))

theorem execLifeSaveNow_keeps : ∀ a0 (a1 : State), State.Keeps p a1 → ∀ t, execLifeSaveNow a0 a1 = .next t →
      State.Keeps p t := by
  intro a0 a1 h1 t ht
  exact keeps_ifUnit ht (keeps_ite h1 (keeps_ite (State.count_keeps _ _ h1) (keeps_ite (State.count_keeps _ _ h1)
      (State.count_keeps _ _ (State.lifeSaveNow_keeps _ h1)))))

theorem execLifetimeSave_keeps : ∀ (a0 : State), State.Keeps p a0 → ∀ t, execLifetimeSave a0 = .next t → State.Keeps
      p t := by
  intro a0 h0 t ht
  exact keeps_next ht (keeps_ite h0 (keeps_mk (keeps_ite (State.lifeAdd_keeps _ _ _ h0) (keeps_mk
      (State.lifeAdd_keeps _ _ _ h0) rfl rfl rfl rfl)) rfl rfl rfl rfl))

theorem execHistogramSample_keeps : ∀ a0 a1 (a2 : State), State.Keeps p a2 → ∀ t, execHistogramSample a0 a1 a2 =
      .next t → State.Keeps p t := by
  intro a0 a1 a2 h2 t ht
  exact keeps_ifUnit ht (keeps_ite h2 (keeps_mk h2 rfl rfl rfl rfl))

end Sys2Proof.Machine
end

