-- ==== Sys2Proof/Laws/KeepBoot.lean ====
section
/-! SUPPORT. What the operations of Machine/Boot.lean keep: for each, if the invariants hold before it with commands `p` waiting, they
hold after it with the same commands waiting. -/

set_option linter.unusedTactic false

namespace Sys2Proof.Machine

variable {p : List Instr}

theorem State.deviceReset_keeps : ∀ (a0 : State), State.Keeps p a0 → State.Keeps p (State.deviceReset a0) := by
  intro s h
  exact ⟨⟨rfl, rfl, Nat.zero_lt_succ 8, Nat.zero_le 256, Nat.zero_le 64, Nat.zero_le 16⟩, h.pending⟩

theorem State.applyEntry_keeps : ∀ (a0 : State) a1, State.Keeps p a0 → State.Keeps p (State.applyEntry a0 a1) := by
  intro a0 a1 h0
  unfold State.applyEntry
  exact (by split; (exact (State.lifeAdd_keeps _ _ _ (State.setCore_keeps _ _ _ (keeps_mk h0 rfl rfl rfl rfl)))); (exact (State.lifeAdd_keeps _ _ _ (State.setCore_keeps _ _ _ h0))); (exact (State.lifeAdd_keeps _ _ _ (keeps_mk h0 rfl rfl rfl rfl))); (exact (State.lifeAdd_keeps _ _ _ (keeps_mk h0 rfl rfl rfl rfl))); (exact (State.lifeAdd_keeps _ _ _ (keeps_mk h0 rfl rfl rfl rfl))); (exact (keeps_mk h0 rfl rfl rfl rfl)); (exact (State.setCore_keeps _ _ _ h0)); (exact h0))

theorem State.logRefusal_keeps : ∀ (a0 : State) a1, State.Keeps p a0 → State.Keeps p (State.logRefusal a0 a1) := by
  intro a0 a1 h0
  unfold State.logRefusal
  exact (keeps_ite (State.logEvent_keeps _ _ _ _ _ h0) h0)

theorem State.bootRefuse_keeps : ∀ (a0 : State) a1 a2, State.Keeps p a0 → State.Keeps p (State.bootRefuse a0 a1 a2)
      := by
  intro a0 a1 a2 h0
  unfold State.bootRefuse
  exact (keeps_mk (State.countLog_keeps _ _ _ _ _ (State.lifeAdd_keeps _ _ _ h0)) rfl rfl rfl rfl)

theorem State.takeNumbers_keeps : ∀ (a0 : State), State.Keeps p a0 → State.Keeps p (State.takeNumbers a0) := by
  intro a0 h0
  unfold State.takeNumbers
  exact (keeps_mk h0 rfl rfl rfl rfl)

theorem State.bootContents_keeps : ∀ (a0 : State), State.Keeps p a0 → State.Keeps p (State.bootContents a0) := by
  intro a0 h0
  unfold State.bootContents
  exact (keeps_mk (keeps_foldl (fun x2 x3 h1 => (State.setDict_keeps _ _ _ _ h1)) h0) rfl rfl rfl rfl)

theorem State.bootFirmware_keeps : ∀ (a0 : State) a1, State.Keeps p a0 → State.Keeps p (State.bootFirmware a0 a1) :=
      by
  intro a0 a1 h0
  unfold State.bootFirmware
  exact (keeps_foldl (fun x2 x3 h1 => (State.loadBuiltins_keeps _ _ h1)) (keeps_mk h0 rfl rfl rfl rfl))

theorem State.failCores_keeps : ∀ (a0 : State), State.Keeps p a0 → State.Keeps p (State.failCores a0) := by
  intro a0 h0
  unfold State.failCores
  exact (keeps_foldl (fun x2 x3 h1 => (keeps_ite h1 (State.setCore_keeps _ _ _ h1))) h0)

theorem State.enterConfig_keeps : ∀ (a0 : State), State.Keeps p a0 → State.Keeps p (State.enterConfig a0) := by
  intro a0 h0
  unfold State.enterConfig
  exact (State.trainAll_keeps _ (State.evalFitness_keeps _ (State.setDev_keeps _ _ (State.lifeAdd_keeps _ _ _
      (keeps_mk (State.takeNumbers_keeps _ (State.substitute_keeps _ (State.failCores_keeps _ (keeps_foldl (fun x2 x3
      h1 => (State.applyEntry_keeps _ _ h1)) h0)))) rfl rfl rfl rfl)))))

theorem State.awaitRecord_keeps : ∀ (a0 : State), State.Keeps p a0 → State.Keeps p (State.awaitRecord a0) := by
  intro a0 h0
  unfold State.awaitRecord
  exact (keeps_mk h0 rfl rfl rfl rfl)

theorem State.bootOn_keeps : ∀ (a0 : State) a1, State.Keeps p a0 → State.Keeps p (State.bootOn a0 a1) := by
  intro a0 a1 h0
  unfold State.bootOn
  exact (State.awaitRecord_keeps _ (State.bootFirmware_keeps _ _ (State.bootContents_keeps _ h0)))

theorem State.bootStacks_keeps : ∀ (a0 : State), State.Keeps p a0 → State.Keeps p (State.bootStacks a0) := by
  intro a0 h0
  unfold State.bootStacks
  exact (keeps_foldl (fun x2 x3 h1 => (State.setFlag_keeps _ _ _ h1)) (keeps_mk h0 rfl rfl rfl rfl))

theorem State.bootMemory_keeps : ∀ (a0 : State), State.Keeps p a0 → State.Keeps p (State.bootMemory a0) := by
  intro a0 h0
  unfold State.bootMemory
  exact (keeps_ite (State.bootStacks_keeps _ h0) (keeps_mk (State.countLog_keeps _ _ _ _ _ h0) rfl rfl rfl rfl))

theorem State.bootImage_keeps : ∀ (a0 : State) a1, State.Keeps p a0 → State.Keeps p (State.bootImage a0 a1) := by
  intro a0 a1 h0
  have h := State.bootStacks_keeps _ h0
  unfold State.bootImage
  exact keeps_ite (State.bootRefuse_keeps _ _ _ h) (keeps_ite (State.bootRefuse_keeps _ _ _ h)
    (keeps_ite (State.bootRefuse_keeps _ _ _ h) (State.bootOn_keeps _ _ h)))

theorem State.bootFlash_keeps : ∀ (a0 : State), State.Keeps p a0 → State.Keeps p (State.bootFlash a0) := by
  intro a0 h0
  unfold State.bootFlash
  exact (keeps_ite (keeps_mk (State.lifeAdd_keeps _ _ _ (State.lifeAdd_keeps _ _ _ (keeps_mk h0 rfl rfl rfl rfl))) rfl rfl rfl rfl) (keeps_ite (keeps_mk (keeps_mk (State.lifeAdd_keeps _ _ _ (State.lifeAdd_keeps _ _ _ (keeps_mk h0 rfl rfl rfl rfl))) rfl rfl rfl rfl) rfl rfl rfl rfl) (by split; (exact (keeps_mk (keeps_mk (State.lifeAdd_keeps _ _ _ (State.lifeAdd_keeps _ _ _ (keeps_mk h0 rfl rfl rfl rfl))) rfl rfl rfl rfl) rfl rfl rfl rfl)); (exact (keeps_mk (State.lifeAdd_keeps _ _ _ (State.lifeAdd_keeps _ _ _ (keeps_mk h0 rfl rfl rfl rfl))) rfl rfl rfl rfl)))))

theorem State.startSteps_keeps : ∀ (a0 : State), State.Keeps p a0 → State.Keeps p (State.startSteps a0) := by
  intro a0 h0
  unfold State.startSteps
  extract_lets b1 s1 b2 s2 b3 s3
  have h2 : State.Keeps p s2 := keeps_mk (keeps_mk h0 rfl rfl rfl rfl) rfl rfl rfl rfl
  have h3 : State.Keeps p s3 := State.bootFlash_keeps _ h2
  refine keeps_ite (keeps_mk h2 rfl rfl rfl rfl) (keeps_ite h3 (keeps_ite
    (State.count_keeps _ _ (keeps_mk h3 rfl rfl rfl rfl)) (keeps_ite (State.bootMemory_keeps _ h3) ?_)))
  split
  · exact keeps_ite (State.bootRefuse_keeps _ _ _ h3)
      (keeps_ite (State.bootImage_keeps _ _ h3) (State.bootMemory_keeps _ h3))
  · exact State.bootRefuse_keeps _ _ _ h3

theorem State.startUp_keeps : ∀ (a0 : State), State.Keeps p a0 → State.Keeps p (State.startUp a0) := by
  intro a0 h0
  unfold State.startUp
  exact (keeps_ite (keeps_mk (keeps_mk (State.setDev_keeps _ _ h0) rfl rfl rfl rfl) rfl rfl rfl rfl)
      (State.startSteps_keeps _ (keeps_mk (State.setDev_keeps _ _ h0) rfl rfl rfl rfl)))

theorem State.tryStart_keeps : ∀ (a0 : State), State.Keeps p a0 → State.Keeps p (State.tryStart a0) := by
  intro a0 h0
  unfold State.tryStart
  exact (keeps_ite (State.startUp_keeps _ h0) h0)

theorem execResetNAssert_keeps : ∀ (a0 : State), State.Keeps p a0 → ∀ t, execResetNAssert a0 = .next t → State.Keeps
      p t := by
  intro a0 h0 t ht
  exact keeps_next ht (keeps_mk (State.deviceReset_keeps _ h0) rfl rfl rfl rfl)

theorem execResetNRelease_keeps : ∀ a0 a1 a2 (a3 : State), State.Keeps p a3 → ∀ t, execResetNRelease a0 a1 a2 a3 =
      .next t → State.Keeps p t := by
  intro a0 a1 a2 a3 h3 t ht
  exact keeps_ifUnit ht (keeps_ite h3 (keeps_ite (State.tryStart_keeps _ (keeps_mk h3 rfl rfl rfl rfl))
      (State.tryStart_keeps _ (keeps_mk h3 rfl rfl rfl rfl))))

theorem execRailEvent_keeps : ∀ a0 a1 (a2 : State), State.Keeps p a2 → ∀ t, execRailEvent a0 a1 a2 = .next t →
      State.Keeps p t := by
  intro a0 a1 a2 h2 t ht
  exact keeps_ifUnit ht (keeps_ite (keeps_mk (keeps_mk (State.deviceReset_keeps _ h2) rfl rfl rfl rfl) rfl rfl rfl
      rfl) (keeps_ite (keeps_mk (keeps_mk (keeps_mk (State.deviceReset_keeps _ h2) rfl rfl rfl rfl) rfl rfl rfl rfl)
      rfl rfl rfl rfl) (keeps_mk (keeps_mk (State.deviceReset_keeps _ h2) rfl rfl rfl rfl) rfl rfl rfl rfl)))

theorem execSupplyInRange_keeps : ∀ (a0 : State), State.Keeps p a0 → ∀ t, execSupplyInRange a0 = .next t →
      State.Keeps p t := by
  intro a0 h0 t ht
  exact keeps_next ht (State.tryStart_keeps _ (keeps_mk h0 rfl rfl rfl rfl))

theorem execBootRrTimeout_keeps : ∀ (a0 : State), State.Keeps p a0 → ∀ t, execBootRrTimeout a0 = .next t →
      State.Keeps p t := by
  intro a0 h0 t ht
  exact keeps_next ht (keeps_ite (keeps_mk h0 rfl rfl rfl rfl) h0)

theorem execTemperatureGate_keeps : ∀ (a0 : State), State.Keeps p a0 → ∀ t, execTemperatureGate a0 = .next t →
      State.Keeps p t := by
  intro a0 h0 t ht
  exact keeps_next ht (keeps_ite (State.enterConfig_keeps _ h0) h0)

theorem State.retireLoad_keeps : ∀ (a0 : State) a1, State.Keeps p a0 → State.Keeps p (State.retireLoad a0 a1).1 := by
  intro a0 a1 h0
  unfold State.retireLoad
  exact (keeps_ite_fst h0 (keeps_ite_fst (keeps_fst (keeps_mk (keeps_mk h0 rfl rfl rfl rfl) rfl rfl rfl rfl))
      (keeps_fst (State.lifeAdd_keeps _ _ _ (keeps_mk (keeps_mk h0 rfl rfl rfl rfl) rfl rfl rfl rfl)))))

theorem execRetireLoad_keeps : ∀ a0 a1 (a2 : State), State.Keeps p a2 → ∀ t, execRetireLoad a0 a1 a2 = .next t →
      State.Keeps p t := by
  intro a0 a1 a2 h2 t ht
  exact keeps_ifUnit ht (keeps_ite h2 (keeps_ite (State.count_keeps _ _ h2) (State.count_keeps _ _
      (State.retireLoad_keeps _ _ h2))))

theorem State.updIdle_keeps : ∀ (a0 : State) a1, State.Keeps p a0 → State.Keeps p (State.updIdle a0 a1) := by
  intro a0 a1 h0
  unfold State.updIdle
  exact (keeps_mk h0 rfl rfl rfl rfl)

theorem State.jobDone_keeps : ∀ (a0 : State) a1, State.Keeps p a0 → State.Keeps p (State.jobDone a0 a1) := by
  intro a0 a1 h0
  unfold State.jobDone
  exact (by split; (exact (keeps_mk (State.updIdle_keeps _ _ h0) rfl rfl rfl rfl)); (exact (keeps_mk h0 rfl rfl rfl rfl)); (exact (keeps_mk h0 rfl rfl rfl rfl)); (exact (keeps_ite (keeps_mk h0 rfl rfl rfl rfl) (keeps_mk h0 rfl rfl rfl rfl))); (exact (by (try dsimp only); split; (exact (keeps_ite (keeps_mk (State.lifeAdd_keeps _ _ _ h0) rfl rfl rfl rfl) (keeps_mk (State.lifeAdd_keeps _ _ _ h0) rfl rfl rfl rfl))); (exact (keeps_mk (State.lifeAdd_keeps _ _ _ h0) rfl rfl rfl rfl)); (exact (keeps_mk (State.lifeAdd_keeps _ _ _ h0) rfl rfl rfl rfl)))))

theorem State.jobFailed_keeps : ∀ (a0 : State) a1, State.Keeps p a0 → State.Keeps p (State.jobFailed a0 a1) := by
  intro a0 a1 h0
  unfold State.jobFailed
  exact (by (try dsimp only); split; (exact (State.updIdle_keeps _ _ (keeps_ite h0 (State.countLog_keeps _ _ _ _ _ h0)))); (exact (keeps_mk (keeps_ite h0 (State.countLog_keeps _ _ _ _ _ h0)) rfl rfl rfl rfl)); (exact (keeps_mk (keeps_ite h0 (State.countLog_keeps _ _ _ _ _ h0)) rfl rfl rfl rfl)); (exact (keeps_mk (keeps_ite h0 (State.countLog_keeps _ _ _ _ _ h0)) rfl rfl rfl rfl)); (exact (keeps_ite h0 (State.countLog_keeps _ _ _ _ _ h0))))

theorem execFlashWriteEnd_keeps : ∀ a0 (a1 : State), State.Keeps p a1 → ∀ t, execFlashWriteEnd a0 a1 = .next t → State.Keeps p t := by
  intro a0 a1 h1 t ht
  exact keeps_next ht (by split; (exact h1); (exact (keeps_ite h1 (keeps_ite (State.jobFailed_keeps _ _ (keeps_mk h1 rfl rfl rfl rfl)) (keeps_ite (State.jobDone_keeps _ _ (keeps_mk h1 rfl rfl rfl rfl)) (keeps_ite (keeps_mk h1 rfl rfl rfl rfl) (State.jobFailed_keeps _ _ (keeps_mk h1 rfl rfl rfl rfl))))))))

theorem State.pdcBlob_keeps : ∀ (a0 : State) a1, State.Keeps p a0 → State.Keeps p (State.pdcBlob a0 a1).1 := by
  intro a0 a1 h0
  unfold State.pdcBlob
  exact (by split; (exact (keeps_fst (keeps_mk h0 rfl rfl rfl rfl))); (exact (keeps_fst (State.logRefusal_keeps _ _ (keeps_mk h0 rfl rfl rfl rfl)))))

theorem State.quoteNonce_keeps : ∀ (a0 : State) a1, State.Keeps p a0 → State.Keeps p (State.quoteNonce a0 a1).1 := by
  intro a0 a1 h0
  unfold State.quoteNonce
  exact (keeps_ite_fst h0 (keeps_ite_fst h0 (keeps_fst (keeps_mk h0 rfl rfl rfl rfl))))

theorem execQuoteComplete_keeps : ∀ (a0 : State), State.Keeps p a0 → ∀ t, execQuoteComplete a0 = .next t →
      State.Keeps p t := by
  intro a0 h0 t ht
  exact keeps_next ht (keeps_ite h0 (keeps_mk h0 rfl rfl rfl rfl))

theorem State.fwBegin_keeps : ∀ (a0 : State) a1, State.Keeps p a0 → State.Keeps p (State.fwBegin a0 a1).1 := by
  intro a0 a1 h0
  unfold State.fwBegin
  exact (keeps_ite_fst (keeps_fst (keeps_mk h0 rfl rfl rfl rfl)) h0)

theorem State.fwData_keeps : ∀ (a0 : State) a1 a2 a3, State.Keeps p a0 → State.Keeps p (State.fwData a0 a1 a2 a3).1
      := by
  intro a0 a1 a2 a3 h0
  unfold State.fwData
  exact (keeps_ite_fst h0 (keeps_ite_fst h0 (keeps_fst (keeps_mk (State.putNear_keeps _ _ _ h0) rfl rfl rfl rfl))))

theorem State.fwFinish_keeps : ∀ (a0 : State), State.Keeps p a0 → State.Keeps p (State.fwFinish a0).1 := by
  intro a0 h0
  unfold State.fwFinish
  exact (keeps_ite_fst h0 (keeps_ite_fst (keeps_fst (keeps_ite (State.bootRefuse_keeps _ _ _ (State.updIdle_keeps _ _
      h0)) (State.logRefusal_keeps _ _ (State.count_keeps _ _ (State.updIdle_keeps _ _ h0))))) (keeps_ite_fst
      (keeps_fst (State.bootOn_keeps _ _ (State.bootStacks_keeps _ (keeps_mk h0 rfl rfl rfl rfl)))) (keeps_fst
      (keeps_mk h0 rfl rfl rfl rfl)))))

theorem State.fwCancel_keeps : ∀ (a0 : State), State.Keeps p a0 → State.Keeps p (State.fwCancel a0).1 := by
  intro a0 h0
  unfold State.fwCancel
  exact (keeps_ite_fst h0 (keeps_fst (keeps_mk (State.updIdle_keeps _ _ h0) rfl rfl rfl rfl)))

theorem State.fwActivate_keeps : ∀ (a0 : State) a1, State.Keeps p a0 → State.Keeps p (State.fwActivate a0 a1).1 := by
  intro s m h
  have hr := State.deviceReset_keeps s h
  unfold State.fwActivate
  split
  · refine State.setDev_keeps _ _ (State.lifeAdd_keeps _ _ _ (State.bootFirmware_keeps _ _ (State.bootContents_keeps _
      (State.bootStacks_keeps _ (State.setReg_keeps _ _ _ ?_)))))
    exact ⟨⟨Memory.wf_erase _ (fun a => decide (0xBF00000000 ≤ a ∧ a < 0xBF10000000)) h.inv.near, hr.inv.tile, h.inv.ninths, hr.inv.log, hr.inv.dbgLog, hr.inv.txnTable⟩, hr.pending⟩
  · exact h

theorem State.asAdmin_keeps : ∀ (a0 : State) a1 a2, State.Keeps p a0 → (∀ z0, State.Keeps p z0 → State.Keeps p (a2
      z0).1) → State.Keeps p (State.asAdmin a0 a1 a2) := by
  intro a0 a1 a2 h0 hf_a2
  unfold State.asAdmin
  exact (keeps_ite h0 (keeps_ite (State.count_keeps _ _ h0) (keeps_ite (State.count_keeps _ _ h0) (State.count_keeps
      _ _ (hf_a2 _ h0)))))

theorem execFwBegin_keeps : ∀ a0 (a1 : State), State.Keeps p a1 → ∀ t, execFwBegin a0 a1 = .next t → State.Keeps p t
      := by
  intro a0 a1 h1 t ht
  exact keeps_next ht (State.asAdmin_keeps _ _ _ h1 (fun x2 h1 => (State.fwBegin_keeps _ _ h1)))

theorem execFwUpdData_keeps : ∀ a0 a1 a2 (a3 : State), State.Keeps p a3 → ∀ t, execFwUpdData a0 a1 a2 a3 = .next t →
      State.Keeps p t := by
  intro a0 a1 a2 a3 h3 t ht
  exact keeps_next ht (State.asAdmin_keeps _ _ _ h3 (fun x2 h1 => (State.fwData_keeps _ _ _ _ h1)))

theorem execFinish_keeps : ∀ a0 (a1 : State), State.Keeps p a1 → ∀ t, execFinish a0 a1 = .next t → State.Keeps p t :=
      by
  intro a0 a1 h1 t ht
  exact keeps_next ht (State.asAdmin_keeps _ _ _ h1 (fun x2 h1 => (State.fwFinish_keeps _ h1)))

theorem execCancel_keeps : ∀ a0 (a1 : State), State.Keeps p a1 → ∀ t, execCancel a0 a1 = .next t → State.Keeps p t :=
      by
  intro a0 a1 h1 t ht
  exact keeps_next ht (State.asAdmin_keeps _ _ _ h1 (fun x2 h1 => (State.fwCancel_keeps _ h1)))

theorem execActivate_keeps : ∀ a0 a1 (a2 : State), State.Keeps p a2 → ∀ t, execActivate a0 a1 a2 = .next t →
      State.Keeps p t := by
  intro a0 a1 a2 h2 t ht
  exact keeps_next ht (State.asAdmin_keeps _ _ _ h2 (fun x2 h1 => (State.fwActivate_keeps _ _ h1)))

theorem execPdcBlob_keeps : ∀ a0 a1 (a2 : State), State.Keeps p a2 → ∀ t, execPdcBlob a0 a1 a2 = .next t →
      State.Keeps p t := by
  intro a0 a1 a2 h2 t ht
  exact keeps_next ht (State.asAdmin_keeps _ _ _ h2 (fun x2 h1 => (State.pdcBlob_keeps _ _ h1)))

theorem execQuoteNonce_keeps : ∀ a0 a1 (a2 : State), State.Keeps p a2 → ∀ t, execQuoteNonce a0 a1 a2 = .next t →
      State.Keeps p t := by
  intro a0 a1 a2 h2 t ht
  exact keeps_next ht (State.asAdmin_keeps _ _ _ h2 (fun x2 h1 => (State.quoteNonce_keeps _ _ h1)))

theorem State.tapLetGo_keeps : ∀ (a0 : State), State.Keeps p a0 → State.Keeps p (State.tapLetGo a0) := by
  intro a0 h0
  unfold State.tapLetGo
  exact (keeps_ite (State.startSteps_keeps _ (keeps_mk (keeps_mk h0 rfl rfl rfl rfl) rfl rfl rfl rfl)) (keeps_mk h0
      rfl rfl rfl rfl))

theorem State.tapQuiet_keeps : ∀ (a0 : State) a1 a2 a3, State.Keeps p a0 → State.Keeps p (State.tapQuiet a0 a1 a2 a3)
      := by
  intro a0 a1 a2 a3 h0
  unfold State.tapQuiet
  exact (State.tapLetGo_keeps _ (keeps_mk h0 rfl rfl rfl rfl))

theorem State.tapPins_keeps : ∀ (a0 : State) a1 a2, State.Keeps p a0 → State.Keeps p (State.tapPins a0 a1 a2) := by
  intro a0 a1 a2 h0
  unfold State.tapPins
  exact (keeps_ite (keeps_mk h0 rfl rfl rfl rfl) (State.bumpSeen_keeps _ _ _ _ (State.tapQuiet_keeps _ _ _ _ h0)))

theorem execExtest_keeps : ∀ a0 (a1 : State), State.Keeps p a1 → ∀ t, execExtest a0 a1 = .next t → State.Keeps p t :=
      by
  intro a0 a1 h1 t ht
  exact keeps_next ht (State.tapPins_keeps _ _ _ h1)

theorem execSamplePreload_keeps : ∀ a0 (a1 : State), State.Keeps p a1 → ∀ t, execSamplePreload a0 a1 = .next t →
      State.Keeps p t := by
  intro a0 a1 h1 t ht
  exact keeps_next ht (keeps_mk (State.tapQuiet_keeps _ _ _ _ h1) rfl rfl rfl rfl)

theorem execIdcode_keeps : ∀ (a0 : State), State.Keeps p a0 → ∀ t, execIdcode a0 = .next t → State.Keeps p t := by
  intro a0 h0 t ht
  exact keeps_next ht (State.tapQuiet_keeps _ _ _ _ h0)

theorem execClamp_keeps : ∀ (a0 : State), State.Keeps p a0 → ∀ t, execClamp a0 = .next t → State.Keeps p t := by
  intro a0 h0 t ht
  exact keeps_next ht (State.tapPins_keeps _ _ _ h0)

theorem execHighz_keeps : ∀ (a0 : State), State.Keeps p a0 → ∀ t, execHighz a0 = .next t → State.Keeps p t := by
  intro a0 h0 t ht
  exact keeps_next ht (State.tapPins_keeps _ _ _ h0)

theorem execEcidcode_keeps : ∀ (a0 : State), State.Keeps p a0 → ∀ t, execEcidcode a0 = .next t → State.Keeps p t := by
  intro a0 h0 t ht
  exact keeps_next ht (State.tapQuiet_keeps _ _ _ _ h0)

theorem execExtestPulse_keeps : ∀ a0 (a1 : State), State.Keeps p a1 → ∀ t, execExtestPulse a0 a1 = .next t →
      State.Keeps p t := by
  intro a0 a1 h1 t ht
  exact keeps_next ht (State.tapPins_keeps _ _ _ h1)

theorem execExtestTrain_keeps : ∀ a0 (a1 : State), State.Keeps p a1 → ∀ t, execExtestTrain a0 a1 = .next t →
      State.Keeps p t := by
  intro a0 a1 h1 t ht
  exact keeps_next ht (State.tapPins_keeps _ _ _ h1)

theorem execBypass_keeps : ∀ (a0 : State), State.Keeps p a0 → ∀ t, execBypass a0 = .next t → State.Keeps p t := by
  intro a0 h0 t ht
  exact keeps_next ht (State.tapQuiet_keeps _ _ _ _ h0)

theorem execTrstN_keeps : ∀ (a0 : State), State.Keeps p a0 → ∀ t, execTrstN a0 = .next t → State.Keeps p t := by
  intro a0 h0 t ht
  exact keeps_next ht (State.tapQuiet_keeps _ _ _ _ h0)

end Sys2Proof.Machine
end

