-- ==== Sys2Proof/Laws/KeepStacks.lean ====
section
/-! SUPPORT. What the operations of Machine/Stacks.lean keep: for each, if the invariants hold before it with commands `p` waiting, they
hold after it with the same commands waiting. -/

set_option linter.unusedTactic false

namespace Sys2Proof.Machine

variable {p : List Instr}

theorem State.completeReq_keeps : ∀ (a0 : State) a1 a2, State.Keeps p a0 → State.Keeps p (State.completeReq a0 a1 a2) := by
  intro a0 a1 a2 h0
  unfold State.completeReq
  exact (by split; (exact (State.count_keeps _ _ h0)); (exact (keeps_ite h0 (State.accessFault_keeps _ _ _ _ _ h0))); (exact (by split; (exact (State.setDesc_keeps _ _ h0)); (exact h0))); (exact (State.answer_keeps _ _ _ (State.count_keeps _ _ h0))))

theorem State.failChannel_keeps : ∀ (a0 : State) a1, State.Keeps p a0 → State.Keeps p (State.failChannel a0 a1) := by
  intro a0 a1 h0
  unfold State.failChannel
  exact (State.evalFitness_keeps _ (State.setFlag_keeps _ _ _ (State.setFlag_keeps _ _ _ (State.setChan_keeps _ _ _
      h0))))

theorem State.burstFail_keeps : ∀ (a0 : State) a1 a2, State.Keeps p a0 → State.Keeps p (State.burstFail a0 a1 a2) :=
      by
  intro a0 a1 a2 h0
  unfold State.burstFail
  exact (keeps_ite (State.lifeAdd_keeps _ _ _ (State.bump_keeps _ _ _ (State.setChan_keeps _ _ _ h0))) (keeps_ite
      (State.failChannel_keeps _ _ (State.setChan_keeps _ _ _ (State.lifeAdd_keeps _ _ _ (State.bump_keeps _ _ _
      (keeps_mk h0 rfl rfl rfl rfl))))) (State.setChan_keeps _ _ _ (State.lifeAdd_keeps _ _ _ (State.bump_keeps _ _ _
      (keeps_mk h0 rfl rfl rfl rfl))))))

theorem State.retrainEnd_keeps : ∀ (a0 : State) a1 a2, State.Keeps p a0 → State.Keeps p (State.retrainEnd a0 a1 a2)
      := by
  intro a0 a1 a2 h0
  unfold State.retrainEnd
  exact (keeps_ite (State.setChan_keeps _ _ _ h0) (State.failChannel_keeps _ _ (State.setChan_keeps _ _ _ h0)))

theorem State.scrub_keeps : ∀ (a0 : State) a1, State.Keeps p a0 → State.Keeps p (State.scrub a0 a1) := by
  intro a0 a1 h0
  unfold State.scrub
  exact (keeps_ite (State.readBlock_keeps _ _ h0) (State.count_keeps _ _ (State.readBlock_keeps _ _ h0)))

theorem State.applyAdd_keeps : ∀ (a0 : State) a1, State.Keeps p a0 → State.Keeps p (State.applyAdd a0 a1).1 := by
  intro a0 a1 h0
  unfold State.applyAdd
  exact (by (try dsimp only); split; (exact (keeps_fst (State.bump_keeps _ _ _ (State.putNear_keeps _ _ _ (State.readBlock_keeps _ _ h0))))); (exact (keeps_fst (State.readBlock_keeps _ _ h0))))

theorem State.drainRound_keeps : ∀ a0 (a1 : State) a2, State.Keeps p a1 → State.Keeps p (State.drainRound a0 a1 a2)
  | 0, v0, v1, h1 => by
    rw [State.drainRound.eq_1]
    exact h1
  | v2 + 1, v0, v1, h1 => by
    rw [State.drainRound.eq_2]
    exact (by split; (exact h1); (exact (State.drainRound_keeps _ _ _ (State.completeReq_keeps _ _ _ (State.applyAdd_keeps _ _ (State.setChan_keeps _ _ _ h1))))))

theorem State.addFate_keeps : ∀ (a0 : State) a1, State.Keeps p a0 → State.Keeps p (State.addFate a0 a1) := by
  intro a0 a1 h0
  unfold State.addFate
  exact (by (try dsimp only); split; (exact (State.completeReq_keeps _ _ _ h0)); (exact (State.setChan_keeps _ _ _ h0)); (exact (keeps_mk (State.bump_keeps _ _ _ h0) rfl rfl rfl rfl)); (exact (State.drainRound_keeps _ _ _ (State.completeReq_keeps _ _ _ (State.applyAdd_keeps _ _ (keeps_ite (State.setChan_keeps _ _ _ h0) h0))))))

theorem State.addArrive_keeps : ∀ (a0 : State) a1, State.Keeps p a0 → State.Keeps p (State.addArrive a0 a1) := by
  intro a0 a1 h0
  unfold State.addArrive
  exact (keeps_ite (State.completeReq_keeps _ _ _ h0) (keeps_ite (State.completeReq_keeps _ _ _
      (State.blockGate_keeps _ _ h0)) (State.addFate_keeps _ _ h0)))

theorem State.addResend_keeps : ∀ (a0 : State) a1, State.Keeps p a0 → State.Keeps p (State.addResend a0 a1) := by
  intro a0 a1 h0
  unfold State.addResend
  exact (by split; (exact (keeps_ite (State.addArrive_keeps _ _ (keeps_mk h0 rfl rfl rfl rfl)) h0)); (exact h0))

theorem State.wbResend_keeps : ∀ (a0 : State) a1 a2, State.Keeps p a0 → State.Keeps p (State.wbResend a0 a1 a2) := by
  intro a0 a1 a2 h0
  unfold State.wbResend
  exact (by split; (exact (keeps_ite (by (try dsimp only); split; (exact (keeps_mk h0 rfl rfl rfl rfl)); (exact (keeps_mk (State.count_keeps _ _ (State.writeBlock_keeps _ _ _ h0)) rfl rfl rfl rfl))) h0)); (exact h0))

theorem execBurstCrcFail_keeps : ∀ a0 a1 a2 (a3 : State), State.Keeps p a3 → ∀ t, execBurstCrcFail a0 a1 a2 a3 =
      .next t → State.Keeps p t := by
  intro a0 a1 a2 a3 h3 t ht
  exact keeps_ifUnit ht (keeps_ite h3 (State.burstFail_keeps _ _ _ h3))

theorem execChannelRetrainEnd_keeps : ∀ a0 a1 (a2 : State), State.Keeps p a2 → ∀ t, execChannelRetrainEnd a0 a1 a2 =
      .next t → State.Keeps p t := by
  intro a0 a1 a2 h2 t ht
  exact keeps_ifUnit ht (keeps_ite (State.retrainEnd_keeps _ _ _ h2) h2)

theorem execOdecReport_keeps : ∀ a0 a1 (a2 : State), State.Keeps p a2 → ∀ t, execOdecReport a0 a1 a2 = .next t →
      State.Keeps p t := by
  intro a0 a1 a2 h2 t ht
  exact keeps_ifUnit ht (State.bump_keeps _ _ _ h2)

theorem execScrubRead_keeps : ∀ a0 a1 (a2 : State), State.Keeps p a2 → ∀ t, execScrubRead a0 a1 a2 = .next t →
      State.Keeps p t := by
  intro a0 a1 a2 h2 t ht
  exact keeps_ifUnit ht (State.scrub_keeps _ _ (keeps_foldl (fun x2 x3 h1 => (State.upset_keeps _ _ h1)) h2))

theorem execAddRequest_keeps : ∀ a0 (a1 : State), State.Keeps p a1 → ∀ t, execAddRequest a0 a1 = .next t →
      State.Keeps p t := by
  intro a0 a1 h1 t ht
  exact keeps_ifUnit ht (State.addArrive_keeps _ _ h1)

theorem execAddResend_keeps : ∀ a0 (a1 : State), State.Keeps p a1 → ∀ t, execAddResend a0 a1 = .next t → State.Keeps
      p t := by
  intro a0 a1 h1 t ht
  exact keeps_next ht (State.addResend_keeps _ _ h1)

theorem execWritebackResend_keeps : ∀ a0 a1 (a2 : State), State.Keeps p a2 → ∀ t, execWritebackResend a0 a1 a2 =
      .next t → State.Keeps p t := by
  intro a0 a1 a2 h2 t ht
  exact keeps_ifUnit ht (State.wbResend_keeps _ _ _ h2)

end Sys2Proof.Machine
end

