-- ==== Sys2Proof/Laws/KeepQueueCmds.lean ====
section
/-! SUPPORT. What the operations of Machine/QueueCmds.lean keep: for each, if the invariants hold before it with commands `p` waiting, they
hold after it with the same commands waiting. -/

set_option linter.unusedTactic false

namespace Sys2Proof.Machine

variable {p : List Instr}

theorem State.storeEntry_keeps : ∀ (a0 : State) a1 a2, State.Keeps p a0 → State.Keeps p (State.storeEntry a0 a1 a2)
      := by
  intro a0 a1 a2 h0
  unfold State.storeEntry
  exact (State.writeNear_keeps _ _ _ h0)

theorem State.useEntry_keeps : ∀ (a0 : State) a1, State.Keeps p a0 → State.Keeps p (State.useEntry a0 a1) := by
  intro a0 a1 h0
  unfold State.useEntry
  exact (State.setQueue_keeps _ _ _ (keeps_mk h0 rfl rfl rfl rfl))

theorem State.cacheEntry_keeps : ∀ (a0 : State) a1, State.Keeps p a0 → State.Keeps p (State.cacheEntry a0 a1).1 := by
  intro a0 a1 h0
  unfold State.cacheEntry
  exact (keeps_ite_fst (keeps_fst (State.useEntry_keeps _ _ h0)) (by split; (exact h0); (exact (keeps_fst (State.useEntry_keeps _ _ (State.setQueue_keeps _ _ _ (State.storeEntry_keeps _ _ _ h0)))))))

theorem State.enableQueue_keeps : ∀ (a0 : State) a1 a2, State.Keeps p a0 → State.Keeps p (State.enableQueue a0 a1 a2).1 := by
  intro a0 a1 a2 h0
  unfold State.enableQueue
  exact (keeps_ite_fst (keeps_fst (State.readNear_keeps _ _ _ h0)) (by (try dsimp only); split; (exact (keeps_fst (State.cacheEntry_keeps _ _ (keeps_ite (keeps_mk (State.setQueue_keeps _ _ _ (State.readNear_keeps _ _ _ h0)) rfl rfl rfl rfl) (State.setQueue_keeps _ _ _ (State.readNear_keeps _ _ _ h0)))))); (exact (keeps_fst (State.readNear_keeps _ _ _ h0)))))

theorem State.withdraw_keeps : ∀ (a0 : State) a1, State.Keeps p a0 → State.Keeps p (State.withdraw a0 a1) := by
  intro a0 a1 h0
  unfold State.withdraw
  exact (keeps_mk h0 rfl rfl rfl rfl)

theorem State.disableQueue_keeps : ∀ (a0 : State) a1, State.Keeps p a0 → State.Keeps p (State.disableQueue a0 a1).1
      := by
  intro a0 a1 h0
  unfold State.disableQueue
  exact (keeps_ite_fst h0 (keeps_fst (State.withdraw_keeps _ _ (State.setQueue_keeps _ _ _ (State.storeEntry_keeps _
      _ _ h0)))))

theorem State.pauseQueue_keeps : ∀ (a0 : State) a1, State.Keeps p a0 → State.Keeps p (State.pauseQueue a0 a1).1 := by
  intro a0 a1 h0
  unfold State.pauseQueue
  exact (by (try dsimp only); split; (exact h0); (exact (keeps_fst (State.setQueue_keeps _ _ _ h0))); (exact (keeps_fst (State.setQueue_keeps _ _ _ h0))))

theorem State.resumeQueue_keeps : ∀ (a0 : State) a1 a2, State.Keeps p a0 → State.Keeps p (State.resumeQueue a0 a1
      a2).1 := by
  intro a0 a1 a2 h0
  unfold State.resumeQueue
  exact (keeps_ite_fst h0 (keeps_fst (State.setQueue_keeps _ _ _ h0)))

theorem State.setQueueEpoch_keeps : ∀ (a0 : State) a1 a2, State.Keeps p a0 → State.Keeps p (State.setQueueEpoch a0 a1
      a2).1 := by
  intro a0 a1 a2 h0
  unfold State.setQueueEpoch
  exact (keeps_ite_fst h0 (keeps_fst (State.setQueue_keeps _ _ _ h0)))

theorem State.pauseCtx_keeps : ∀ (a0 : State) a1, State.Keeps p a0 → State.Keeps p (State.pauseCtx a0 a1) := by
  intro a0 a1 h0
  unfold State.pauseCtx
  exact (keeps_mk h0 rfl rfl rfl rfl)

theorem State.resumeCtx_keeps : ∀ (a0 : State) a1, State.Keeps p a0 → State.Keeps p (State.resumeCtx a0 a1) := by
  intro a0 a1 h0
  unfold State.resumeCtx
  exact (keeps_mk h0 rfl rfl rfl rfl)

theorem State.deviceResume_keeps : ∀ (a0 : State) a1, State.Keeps p a0 → State.Keeps p (State.deviceResume a0 a1) :=
      by
  intro a0 a1 h0
  unfold State.deviceResume
  exact (keeps_ite h0 (keeps_ite (State.setQueue_keeps _ _ _ h0) (State.setQueue_keeps _ _ _ h0)))

theorem State.addStall_keeps : ∀ (a0 : State) a1 a2, State.Keeps p a0 → State.Keeps p (State.addStall a0 a1 a2) := by
  intro a0 a1 a2 h0
  unfold State.addStall
  exact (State.addArrive_keeps _ _ h0)

theorem State.flushStalls_keeps : ∀ (a0 : State) a1, State.Keeps p a0 → State.Keeps p (State.flushStalls a0 a1) := by
  intro a0 a1 h0
  unfold State.flushStalls
  exact (keeps_foldl (fun x2 x3 h1 => (State.addStall_keeps _ _ _ h1)) (keeps_mk h0 rfl rfl rfl rfl))

theorem State.stall_keeps : ∀ (a0 : State) a1 a2, State.Keeps p a0 → State.Keeps p (State.stall a0 a1 a2) := by
  intro a0 a1 a2 h0
  unfold State.stall
  exact (keeps_mk h0 rfl rfl rfl rfl)

theorem State.queueOp_keeps : ∀ (a0 : State) a1 a2 a3 a4 a5, State.Keeps p a0 → State.Keeps p (State.queueOp a0 a1 a2 a3 a4 a5).1 := by
  intro a0 a1 a2 a3 a4 a5 h0
  unfold State.queueOp
  exact (by (try dsimp only); split; (exact (State.enableQueue_keeps _ _ _ h0)); (exact (State.disableQueue_keeps _ _ h0)); (exact (State.pauseQueue_keeps _ _ h0)); (exact (State.resumeQueue_keeps _ _ _ h0)); (exact (State.setQueueEpoch_keeps _ _ _ h0)); (exact (keeps_ite_fst (keeps_fst (State.pauseCtx_keeps _ _ h0)) h0)); (exact (keeps_ite_fst (keeps_fst (State.resumeCtx_keeps _ _ h0)) h0)); (exact (keeps_ite_fst (keeps_fst (State.flushStalls_keeps _ _ h0)) h0)); (exact h0))

theorem State.queueCommand_keeps : ∀ (a0 : State) a1 a2 a3 a4, State.Keeps p a0 → State.Keeps p (State.queueCommand
      a0 a1 a2 a3 a4) := by
  intro a0 a1 a2 a3 a4 h0
  unfold State.queueCommand
  exact (State.queueStatus_keeps _ _ _ (State.queueOp_keeps _ _ _ _ _ _ h0))

theorem State.doorbell_keeps : ∀ (a0 : State) a1 a2, State.Keeps p a0 → State.Keeps p (State.doorbell a0 a1 a2) := by
  intro a0 a1 a2 h0
  unfold State.doorbell
  exact (keeps_ite (keeps_ite (State.setQueue_keeps _ _ _ (State.cacheEntry_keeps _ _ h0)) (State.setQueue_keeps _ _
      _ h0)) (State.bumpSeen_keeps _ _ _ _ (keeps_ite h0 (State.refusedWrite_keeps _ h0))))

theorem State.applyHeld_keeps : ∀ (a0 : State) a1, State.Keeps p a0 → State.Keeps p (State.applyHeld a0 a1) := by
  intro a0 a1 h0
  unfold State.applyHeld
  exact (by split; (exact h0); (exact (keeps_ite (State.setQueue_keeps _ _ _ (State.cacheEntry_keeps _ _ h0)) h0)))

theorem execEnable_keeps : ∀ a0 a1 a2 (a3 : State), State.Keeps p a3 → ∀ t, execEnable a0 a1 a2 a3 = .next t →
      State.Keeps p t := by
  intro a0 a1 a2 a3 h3 t ht
  exact keeps_ifUnit ht (State.byCp_keeps _ _ _ h3 (State.queueCommand_keeps _ _ _ _ _ h3))

theorem execDisable_keeps : ∀ a0 a1 (a2 : State), State.Keeps p a2 → ∀ t, execDisable a0 a1 a2 = .next t →
      State.Keeps p t := by
  intro a0 a1 a2 h2 t ht
  exact keeps_ifUnit ht (State.byCp_keeps _ _ _ h2 (State.queueCommand_keeps _ _ _ _ _ h2))

theorem execPause_keeps : ∀ a0 a1 (a2 : State), State.Keeps p a2 → ∀ t, execPause a0 a1 a2 = .next t → State.Keeps p
      t := by
  intro a0 a1 a2 h2 t ht
  exact keeps_ifUnit ht (State.byCp_keeps _ _ _ h2 (State.queueCommand_keeps _ _ _ _ _ h2))

theorem execResume_keeps : ∀ a0 a1 (a2 : State), State.Keeps p a2 → ∀ t, execResume a0 a1 a2 = .next t → State.Keeps
      p t := by
  intro a0 a1 a2 h2 t ht
  exact keeps_ifUnit ht (State.byCp_keeps _ _ _ h2 (State.queueCommand_keeps _ _ _ _ _ h2))

theorem execSetEpoch_keeps : ∀ a0 a1 (a2 : State), State.Keeps p a2 → ∀ t, execSetEpoch a0 a1 a2 = .next t →
      State.Keeps p t := by
  intro a0 a1 a2 h2 t ht
  exact keeps_ifUnit ht (State.byCp_keeps _ _ _ h2 (State.queueCommand_keeps _ _ _ _ _ h2))

theorem execPauseCtx_keeps : ∀ a0 (a1 : State), State.Keeps p a1 → ∀ t, execPauseCtx a0 a1 = .next t → State.Keeps p
      t := by
  intro a0 a1 h1 t ht
  exact keeps_ifUnit ht (State.byCp_keeps _ _ _ h1 (State.queueCommand_keeps _ _ _ _ _ h1))

theorem execResumeCtx_keeps : ∀ a0 (a1 : State), State.Keeps p a1 → ∀ t, execResumeCtx a0 a1 = .next t → State.Keeps
      p t := by
  intro a0 a1 h1 t ht
  exact keeps_ifUnit ht (State.byCp_keeps _ _ _ h1 (State.queueCommand_keeps _ _ _ _ _ h1))

theorem execFlushStats_keeps : ∀ a0 (a1 : State), State.Keeps p a1 → ∀ t, execFlushStats a0 a1 = .next t →
      State.Keeps p t := by
  intro a0 a1 h1 t ht
  exact keeps_ifUnit ht (State.byCp_keeps _ _ _ h1 (State.queueCommand_keeps _ _ _ _ _ h1))

theorem execQDoorbell_keeps : ∀ a0 a1 (a2 : State), State.Keeps p a2 → ∀ t, execQDoorbell a0 a1 a2 = .next t →
      State.Keeps p t := by
  intro a0 a1 a2 h2 t ht
  exact keeps_ifUnit ht (State.byCp_keeps _ _ _ h2 (State.doorbell_keeps _ _ _ h2))

theorem execDoorbellHeldApply_keeps : ∀ a0 (a1 : State), State.Keeps p a1 → ∀ t, execDoorbellHeldApply a0 a1 = .next
      t → State.Keeps p t := by
  intro a0 a1 h1 t ht
  exact keeps_ifUnit ht (State.applyHeld_keeps _ _ h1)

theorem execStallFlush_keeps : ∀ a0 (a1 : State), State.Keeps p a1 → ∀ t, execStallFlush a0 a1 = .next t →
      State.Keeps p t := by
  intro a0 a1 h1 t ht
  exact keeps_ifUnit ht (State.flushStalls_keeps _ _ h1)

end Sys2Proof.Machine
end

