-- ==== Sys2Proof/Laws/KeepSync.lean ====
section
/-! SUPPORT. What the operations of Machine/Sync.lean keep: for each, if the invariants hold before it with commands `p` waiting, they
hold after it with the same commands waiting. -/

set_option linter.unusedTactic false

namespace Sys2Proof.Machine

variable {p : List Instr}

theorem State.setSwLast_keeps : ∀ (a0 : State) a1 a2, State.Keeps p a0 → State.Keeps p (State.setSwLast a0 a1 a2) :=
      by
  intro a0 a1 a2 h0
  unfold State.setSwLast
  exact (State.setReg_keeps _ _ _ h0)

theorem State.wordDone_keeps : ∀ (a0 : State × _) a1 a2 a3, State.Keeps p a0.1 → State.Keeps p (State.wordDone a0 a1
      a2 a3) := by
  intro a0 a1 a2 a3 h0
  unfold State.wordDone
  exact (keeps_ite (State.setSwLast_keeps _ _ _ h0) (State.bumpSeen_keeps _ _ _ _ (State.syncFault_keeps _ _ _ _
      (State.setSwLast_keeps _ _ _ h0))))

theorem State.semWord_keeps : ∀ (a0 : State) a1 a2, State.Keeps p a0 → State.Keeps p (State.semWord a0 a1 a2).1 := by
  intro a0 a1 a2 h0
  unfold State.semWord
  exact (keeps_ite_fst h0 (by split; (exact (keeps_ite_fst h0 (State.semAdd_keeps _ _ _ h0))); (exact (keeps_ite_fst h0 (State.semSub_keeps _ _ _ h0))); (exact (State.semInitOp_keeps _ _ _ _ h0)); (exact (keeps_ite_fst h0 (State.semFreeOp_keeps _ _ h0))); (exact h0)))

theorem State.barWord_keeps : ∀ (a0 : State) a1 a2, State.Keeps p a0 → State.Keeps p (State.barWord a0 a1 a2).1 := by
  intro a0 a1 a2 h0
  unfold State.barWord
  exact (keeps_ite_fst h0 (by split; (exact (keeps_fst (State.barArrive_keeps _ _ _ h0))); (exact (keeps_ite_fst h0 (State.barInitOp_keeps _ _ h0))); (exact (keeps_ite_fst h0 (State.barFreeOp_keeps _ _ h0))); (exact h0)))

theorem State.swBegin_keeps : ∀ (a0 : State) a1 a2 a3, State.Keeps p a0 → (∀ z0, State.Keeps p z0 → State.Keeps p (a3
      z0)) → State.Keeps p (State.swBegin a0 a1 a2 a3) := by
  intro a0 a1 a2 a3 h0 hf_a3
  unfold State.swBegin
  exact (keeps_ite (State.bumpSeen_keeps _ _ _ _ (State.count_keeps _ _ (State.setSwLast_keeps _ _ _ h0))) (hf_a3 _
      (State.setSwLast_keeps _ _ _ (State.setCore_keeps _ _ _ h0))))

theorem State.swEnd_keeps : ∀ (a0 : State) a1 a2 a3 a4 a5, State.Keeps p a0 → State.Keeps p (State.swEnd a0 a1 a2 a3
      a4 a5) := by
  intro a0 a1 a2 a3 a4 a5 h0
  unfold State.swEnd
  exact (keeps_ite (State.endSw_keeps _ _ _ _ h0) (State.syncRec_keeps _ _ _ _ (State.endSw_keeps _ _ _ _ h0)))

theorem State.swSem_keeps : ∀ (a0 : State) a1 a2 a3 a4, State.Keeps p a0 → State.Keeps p (State.swSem a0 a1 a2 a3 a4)
      := by
  intro a0 a1 a2 a3 a4 h0
  unfold State.swSem
  exact (State.swBegin_keeps _ _ _ _ h0 (fun x2 h1 => (keeps_ite (State.swEnd_keeps _ _ _ _ _ _ h1) (keeps_ite
      (State.registerWait_keeps _ _ _ h1) (State.swEnd_keeps _ _ _ _ _ _ (State.registerWait_keeps _ _ _ h1))))))

theorem State.swArr_keeps : ∀ (a0 : State) a1 a2 a3, State.Keeps p a0 → State.Keeps p (State.swArr a0 a1 a2 a3) := by
  intro a0 a1 a2 a3 h0
  unfold State.swArr
  exact (State.swBegin_keeps _ _ _ _ h0 (fun x2 h1 => (State.swEnd_keeps _ _ _ _ _ _ (State.barArrive_keeps _ _ _
      h1))))

theorem State.swRound_keeps : ∀ (a0 : State) a1 a2 a3, State.Keeps p a0 → State.Keeps p (State.swRound a0 a1 a2 a3)
      := by
  intro a0 a1 a2 a3 h0
  unfold State.swRound
  exact (keeps_ite (State.swEnd_keeps _ _ _ _ _ _ h0) (keeps_ite (State.barWait_keeps _ _ _ _ h0) (State.swEnd_keeps
      _ _ _ _ _ _ (State.barWait_keeps _ _ _ _ h0))))

theorem State.swBarWait_keeps : ∀ (a0 : State) a1 a2 a3, State.Keeps p a0 → State.Keeps p (State.swBarWait a0 a1 a2
      a3) := by
  intro a0 a1 a2 a3 h0
  unfold State.swBarWait
  exact (State.swBegin_keeps _ _ _ _ h0 (fun x2 h1 => (State.swRound_keeps _ _ _ _ h1)))

theorem State.swArrWait_keeps : ∀ (a0 : State) a1 a2 a3, State.Keeps p a0 → State.Keeps p (State.swArrWait a0 a1 a2
      a3) := by
  intro a0 a1 a2 a3 h0
  unfold State.swArrWait
  exact (State.swBegin_keeps _ _ _ _ h0 (fun x2 h1 => (keeps_ite (State.swRound_keeps _ _ _ _ (State.setCore_keeps _
      _ _ (State.barArrive_keeps _ _ _ h1))) (State.swEnd_keeps _ _ _ _ _ _ (State.barArrive_keeps _ _ _ h1)))))

theorem State.swCommand_keeps : ∀ (a0 : State) a1 a2, State.Keeps p a0 → State.Keeps p (State.swCommand a0 a1 a2) := by
  intro a0 a1 a2 h0
  unfold State.swCommand
  exact (keeps_ite (State.swBegin_keeps _ _ _ _ h0 (fun x2 h1 => (State.swEnd_keeps _ _ _ _ _ _ h1))) (by split; (exact (State.swSem_keeps _ _ _ _ _ h0)); (exact (State.swArr_keeps _ _ _ _ h0)); (exact (State.swBarWait_keeps _ _ _ _ h0)); (exact (State.swArrWait_keeps _ _ _ _ h0))))

theorem State.swExpire_keeps : ∀ (a0 : State) a1, State.Keeps p a0 → State.Keeps p (State.swExpire a0 a1) := by
  intro a0 a1 h0
  unfold State.swExpire
  exact (by (try dsimp only); split; (exact h0); (exact (keeps_ite h0 (State.swEnd_keeps _ _ _ _ _ _ (keeps_ite (State.dropWaiter_keeps _ _ h0) (State.setBar_keeps _ _ _ (State.dropWaiter_keeps _ _ h0)))))))

theorem State.swRead_keeps : ∀ (a0 : State) a1 a2 a3, State.Keeps p a0 → State.Keeps p (State.swRead a0 a1 a2 a3) := by
  intro a0 a1 a2 a3 h0
  unfold State.swRead
  exact (by split; (exact (State.setCore_keeps _ _ _ h0)); (exact (State.deliver_keeps _ _ _ h0)))

theorem State.barMismatch_keeps : ∀ (a0 : State), State.Keeps p a0 → State.Keeps p (State.barMismatch a0) := by
  intro a0 h0
  unfold State.barMismatch
  exact (State.bump_keeps _ _ _ h0)

theorem State.arrivalAtRoot_keeps : ∀ (a0 : State) a1 a2 a3, State.Keeps p a0 → State.Keeps p (State.arrivalAtRoot a0
      a1 a2 a3) := by
  intro a0 a1 a2 a3 h0
  unfold State.arrivalAtRoot
  exact (keeps_ite (keeps_ite (State.settleBar_keeps _ _ _ (State.completeRound_keeps _ _ (State.rootArrival_keeps _
      _ _ h0))) (State.rootArrival_keeps _ _ _ h0)) (State.barMismatch_keeps _ h0))

theorem State.releaseAtMember_keeps : ∀ (a0 : State) a1 a2 a3 a4, State.Keeps p a0 → State.Keeps p
      (State.releaseAtMember a0 a1 a2 a3 a4) := by
  intro a0 a1 a2 a3 a4 h0
  unfold State.releaseAtMember
  exact (keeps_ite (State.settleBar_keeps _ _ _ (State.completeRound_keeps _ _ h0)) (State.barMismatch_keeps _ h0))

theorem State.faultMessage_keeps : ∀ (a0 : State) a1 a2 a3, State.Keeps p a0 → State.Keeps p (State.faultMessage a0
      a1 a2 a3) := by
  intro a0 a1 a2 a3 h0
  unfold State.faultMessage
  exact (keeps_ite (keeps_ite (State.spreadFault_keeps _ _ _ (keeps_ite (State.poisonBarHere_keeps _ _ h0)
      (State.overrunBar_keeps _ _ _ (keeps_ite (State.count_keeps _ _ h0) h0)))) (keeps_ite
      (State.poisonBarHere_keeps _ _ h0) (State.overrunBar_keeps _ _ _ (keeps_ite (State.count_keeps _ _ h0) h0))))
      h0)

theorem State.dbgLogged_keeps : ∀ (a0 : State) a1 a2 a3 a4, State.Keeps p a0 → State.Keeps p (State.dbgLogged a0 a1 a2 a3 a4) := by
  intro s a1 a2 a3 a4 h
  unfold State.dbgLogged
  refine State.lifeAdd_keeps _ _ _ (State.setFlag_keeps _ _ _ (State.setDictNat_keeps _ _ _ _ ?_))
  refine ⟨⟨h.inv.near, h.inv.tile, h.inv.ninths, h.inv.log, ?_, h.inv.txnTable⟩, h.pending⟩
  simp only [List.length_take]; omega

theorem State.semByHand_keeps : ∀ (a0 : State) a1 a2 a3, State.Keeps p a0 → State.Keeps p (State.semByHand a0 a1 a2 a3).1 := by
  intro a0 a1 a2 a3 h0
  unfold State.semByHand
  exact (by (try dsimp only); split; (exact (keeps_ite_fst (keeps_fst (State.evalSem_keeps _ _ (State.setSem_keeps _ _ _ (State.dbgLogged_keeps _ _ _ _ _ h0)))) h0)); (exact (keeps_fst (State.releaseAll_keeps _ _ _ (State.dbgLogged_keeps _ _ _ _ _ h0)))); (exact (keeps_fst (State.setSem_keeps _ _ _ (State.releaseAll_keeps _ _ _ (State.dbgLogged_keeps _ _ _ _ _ h0))))); (exact h0))

theorem State.barByHand_keeps : ∀ (a0 : State) a1 a2 a3, State.Keeps p a0 → State.Keeps p (State.barByHand a0 a1 a2 a3).1 := by
  intro a0 a1 a2 a3 h0
  unfold State.barByHand
  exact (by (try dsimp only); split; (exact (keeps_ite_fst (keeps_fst (State.settleBar_keeps _ _ _ (State.setBar_keeps _ _ _ (State.dbgLogged_keeps _ _ _ _ _ h0)))) h0)); (exact (keeps_fst (State.releaseBar_keeps _ _ _ _ (State.dbgLogged_keeps _ _ _ _ _ h0)))); (exact (keeps_fst (State.setBar_keeps _ _ _ (State.releaseBar_keeps _ _ _ _ (State.dbgLogged_keeps _ _ _ _ _ h0))))); (exact h0))

theorem State.byHand_keeps : ∀ (a0 : State) a1 a2, State.Keeps p a0 → State.Keeps p (State.byHand a0 a1 a2).1 := by
  intro a0 a1 a2 h0
  unfold State.byHand
  exact (keeps_ite_fst (keeps_ite_fst h0 (State.barByHand_keeps _ _ _ _ h0)) (State.semByHand_keeps _ _ _ _ h0))

theorem State.manual_keeps : ∀ (a0 : State) a1 a2 a3, State.Keeps p a0 → State.Keeps p (State.manual a0 a1 a2 a3) :=
      by
  intro a0 a1 a2 a3 h0
  unfold State.manual
  exact (keeps_ite (State.count_keeps _ _ (State.byHand_keeps _ _ _ h0)) h0)

theorem execSemSignal_keeps : ∀ a0 a1 a2 (a3 : State), State.Keeps p a3 → ∀ t, execSemSignal a0 a1 a2 a3 = .next t →
      State.Keeps p t := by
  intro a0 a1 a2 a3 h3 t ht
  exact keeps_ifUnit ht (State.byCp_keeps _ _ _ h3 (State.wordDone_keeps _ _ _ _ (keeps_ite_fst h3
      (State.semAdd_keeps _ _ _ h3))))

theorem execDecrement_keeps : ∀ a0 a1 a2 (a3 : State), State.Keeps p a3 → ∀ t, execDecrement a0 a1 a2 a3 = .next t →
      State.Keeps p t := by
  intro a0 a1 a2 a3 h3 t ht
  exact keeps_ifUnit ht (State.byCp_keeps _ _ _ h3 (State.wordDone_keeps _ _ _ _ (keeps_ite_fst h3
      (State.semSub_keeps _ _ _ h3))))

theorem execSemInit_keeps : ∀ a0 a1 a2 a3 (a4 : State), State.Keeps p a4 → ∀ t, execSemInit a0 a1 a2 a3 a4 = .next t
      → State.Keeps p t := by
  intro a0 a1 a2 a3 a4 h4 t ht
  exact keeps_ifUnit ht (State.byCp_keeps _ _ _ h4 (State.wordDone_keeps _ _ _ _ (State.semInitOp_keeps _ _ _ _ h4)))

theorem execSemFree_keeps : ∀ a0 a1 (a2 : State), State.Keeps p a2 → ∀ t, execSemFree a0 a1 a2 = .next t →
      State.Keeps p t := by
  intro a0 a1 a2 h2 t ht
  exact keeps_ifUnit ht (State.byCp_keeps _ _ _ h2 (State.wordDone_keeps _ _ _ _ (State.semFreeOp_keeps _ _ h2)))

theorem execArrive_keeps : ∀ a0 a1 a2 (a3 : State), State.Keeps p a3 → ∀ t, execArrive a0 a1 a2 a3 = .next t →
      State.Keeps p t := by
  intro a0 a1 a2 a3 h3 t ht
  exact keeps_ifUnit ht (State.byCp_keeps _ _ _ h3 (State.wordDone_keeps _ _ _ _ (keeps_fst (State.barArrive_keeps _
      _ _ h3))))

theorem execBarInit_keeps : ∀ a0 a1 (a2 : State), State.Keeps p a2 → ∀ t, execBarInit a0 a1 a2 = .next t →
      State.Keeps p t := by
  intro a0 a1 a2 h2 t ht
  exact keeps_ifUnit ht (State.byCp_keeps _ _ _ h2 (State.wordDone_keeps _ _ _ _ (State.barInitOp_keeps _ _ h2)))

theorem execBarFree_keeps : ∀ a0 a1 (a2 : State), State.Keeps p a2 → ∀ t, execBarFree a0 a1 a2 = .next t →
      State.Keeps p t := by
  intro a0 a1 a2 h2 t ht
  exact keeps_ifUnit ht (State.byCp_keeps _ _ _ h2 (State.wordDone_keeps _ _ _ _ (State.barFreeOp_keeps _ _ h2)))

theorem execFabricArrival_keeps : ∀ a0 a1 a2 (a3 : State), State.Keeps p a3 → ∀ t, execFabricArrival a0 a1 a2 a3 =
      .next t → State.Keeps p t := by
  intro a0 a1 a2 a3 h3 t ht
  exact keeps_ifUnit ht (State.arrivalAtRoot_keeps _ _ _ _ h3)

theorem execFabricRelease_keeps : ∀ a0 a1 a2 (a3 : State), State.Keeps p a3 → ∀ t, execFabricRelease a0 a1 a2 a3 =
      .next t → State.Keeps p t := by
  intro a0 a1 a2 a3 h3 t ht
  exact keeps_ifUnit ht (State.releaseAtMember_keeps _ _ _ _ _ h3)

theorem execFabricFaultMessage_keeps : ∀ a0 a1 a2 (a3 : State), State.Keeps p a3 → ∀ t, execFabricFaultMessage a0 a1
      a2 a3 = .next t → State.Keeps p t := by
  intro a0 a1 a2 a3 h3 t ht
  exact keeps_ifUnit ht (State.faultMessage_keeps _ _ _ _ h3)

theorem execSemaphoreWait_keeps : ∀ a0 a1 a2 a3 (a4 : State), State.Keeps p a4 → ∀ t, execSemaphoreWait a0 a1 a2 a3
      a4 = .next t → State.Keeps p t := by
  intro a0 a1 a2 a3 a4 h4 t ht
  exact keeps_ifUnit ht (State.byCp_keeps _ _ _ h4 (State.swSem_keeps _ _ _ _ _ h4))

theorem execSwArrive_keeps : ∀ a0 a1 a2 (a3 : State), State.Keeps p a3 → ∀ t, execSwArrive a0 a1 a2 a3 = .next t →
      State.Keeps p t := by
  intro a0 a1 a2 a3 h3 t ht
  exact keeps_ifUnit ht (State.byCp_keeps _ _ _ h3 (State.swArr_keeps _ _ _ _ h3))

theorem execSwWait_keeps : ∀ a0 a1 a2 (a3 : State), State.Keeps p a3 → ∀ t, execSwWait a0 a1 a2 a3 = .next t →
      State.Keeps p t := by
  intro a0 a1 a2 a3 h3 t ht
  exact keeps_ifUnit ht (State.byCp_keeps _ _ _ h3 (State.swBarWait_keeps _ _ _ _ h3))

theorem execArriveWait_keeps : ∀ a0 a1 a2 (a3 : State), State.Keeps p a3 → ∀ t, execArriveWait a0 a1 a2 a3 = .next t
      → State.Keeps p t := by
  intro a0 a1 a2 a3 h3 t ht
  exact keeps_ifUnit ht (State.byCp_keeps _ _ _ h3 (State.swArrWait_keeps _ _ _ _ h3))

theorem execSwTimeout_keeps : ∀ a0 (a1 : State), State.Keeps p a1 → ∀ t, execSwTimeout a0 a1 = .next t → State.Keeps
      p t := by
  intro a0 a1 h1 t ht
  exact keeps_ifUnit ht (State.swExpire_keeps _ _ h1)

theorem execSwResultRead_keeps : ∀ a0 (a1 : State), State.Keeps p a1 → ∀ t, execSwResultRead a0 a1 = .next t →
      State.Keeps p t := by
  intro a0 a1 h1 t ht
  exact keeps_ifUnit ht (State.byCp_keeps _ _ _ h1 (State.swRead_keeps _ _ _ _ h1))

theorem execSet_keeps : ∀ a0 (a1 : State), State.Keeps p a1 → ∀ t, execSet a0 a1 = .next t → State.Keeps p t := by
  intro a0 a1 h1 t ht
  exact keeps_next ht (State.manual_keeps _ _ _ _ h1)

theorem execComplete_keeps : ∀ a0 (a1 : State), State.Keeps p a1 → ∀ t, execComplete a0 a1 = .next t → State.Keeps p
      t := by
  intro a0 a1 h1 t ht
  exact keeps_next ht (State.manual_keeps _ _ _ _ h1)

theorem execManualRelease_keeps : ∀ a0 (a1 : State), State.Keeps p a1 → ∀ t, execManualRelease a0 a1 = .next t →
      State.Keeps p t := by
  intro a0 a1 h1 t ht
  exact keeps_next ht (State.manual_keeps _ _ _ _ h1)

theorem execManualFree_keeps : ∀ a0 (a1 : State), State.Keeps p a1 → ∀ t, execManualFree a0 a1 = .next t →
      State.Keeps p t := by
  intro a0 a1 h1 t ht
  exact keeps_next ht (State.manual_keeps _ _ _ _ h1)

theorem execPoisonCtx_keeps : ∀ a0 (a1 : State), State.Keeps p a1 → ∀ t, execPoisonCtx a0 a1 = .next t → State.Keeps
      p t := by
  intro a0 a1 h1 t ht
  exact keeps_ifUnit ht (State.poisonOwned_keeps _ _ h1)

end Sys2Proof.Machine
end

