-- ==== Sys2Proof/Laws/KeepTier.lean ====
section
/-! SUPPORT. What the operations of Machine/Tier.lean keep: for each, if the invariants hold before it with commands `p` waiting, they
hold after it with the same commands waiting. -/

set_option linter.unusedTactic false

namespace Sys2Proof.Machine

variable {p : List Instr}

theorem State.tcEnd_keeps : ∀ (a0 : State) a1 a2 a3, State.Keeps p a0 → State.Keeps p (State.tcEnd a0 a1 a2 a3) := by
  intro a0 a1 a2 a3 h0
  unfold State.tcEnd
  exact (State.setReg_keeps _ _ _ (keeps_ite (State.signalSem_keeps _ _ (keeps_mk (State.putNear_keeps _ _ _
      (State.count_keeps _ _ h0)) rfl rfl rfl rfl)) (keeps_mk (State.putNear_keeps _ _ _ (State.count_keeps _ _ h0))
      rfl rfl rfl rfl)))

theorem State.fillFrame_keeps : ∀ (a0 : State) a1 a2, State.Keeps p a0 → State.Keeps p (State.fillFrame a0 a1 a2) := by
  intro a0 a1 a2 h0
  unfold State.fillFrame
  exact (keeps_ite (by split; (exact (State.zeroNear_keeps _ _ _ h0)); (exact (State.putFar_keeps _ _ _ _ h0))) h0)

theorem State.enterPage_keeps : ∀ (a0 : State) a1 a2 a3 a4, State.Keeps p a0 → State.Keeps p (State.enterPage a0 a1 a2 a3 a4).1 := by
  intro s x page far f h
  exact keeps_elim_fst (State.dropFrame_keeps _ _ h) fun t e => keeps_fst (State.fillFrame_keeps _ _ _ (State.objAdd_keeps _ _ _ _ _
    (State.acctAdd_keeps _ _ _ _ (State.enterLeaf_keeps _ _ _ h _ e))))

theorem State.createPage_keeps : ∀ (a0 : State) a1 a2, State.Keeps p a0 → State.Keeps p (State.createPage a0 a1 a2).1 := by
  intro a0 a1 a2 h0
  unfold State.createPage
  exact (by (try dsimp only); split; (exact (keeps_fst (State.allocFrame_keeps _ _ _ _ _ h0))); (exact (State.enterPage_keeps _ _ _ _ _ (State.allocFrame_keeps _ _ _ _ _ h0))))

theorem State.createPages_keeps : ∀ a0 (a1 : State) a2 a3, State.Keeps p a1 → State.Keeps p (State.createPages a0 a1
      a2 a3).1
  | 0, v0, v1, v2, h1 => by
    rw [State.createPages.eq_1]
    exact h1
  | v3 + 1, v0, v1, v2, h1 => by
    rw [State.createPages.eq_2]
    exact (keeps_ite_fst (State.createPages_keeps _ _ _ _ (State.createPage_keeps _ _ _ h1)) (keeps_fst
      (State.createPage_keeps _ _ _ h1)))

theorem State.freePage_keeps : ∀ (a0 : State) a1, State.Keeps p a0 → State.Keeps p (State.freePage a0 a1) := by
  intro a0 a1 h0
  unfold State.freePage
  exact (State.dropFrame_keeps _ _ (State.objAdd_keeps _ _ _ _ _ (State.acctAdd_keeps _ _ _ _ (by split; (exact (keeps_foldl (fun x5 x6 h4 => (State.putPte_keeps _ _ _ h4)) (State.xlatDrop_keeps _ _ h0))); (exact h0)))))

theorem State.freeObj_keeps : ∀ (a0 : State) a1, State.Keeps p a0 → State.Keeps p (State.freeObj a0 a1) := by
  intro a0 a1 h0
  unfold State.freeObj
  exact (State.putObj_keeps _ _ _ (keeps_foldl (fun x2 x3 h1 => (State.freePage_keeps _ _ h1)) h0))

theorem State.clearNodes_keeps : ∀ (a0 : State) a1 a2 a3 a4 a5, State.Keeps p a0 → State.Keeps p (State.clearNodes a0
      a1 a2 a3 a4 a5)
  | v0, v1, v2, 0, v3, v4, h0 => by
    rw [State.clearNodes.eq_1]
    exact h0
  | v0, v1, v2, v5 + 1, v3, v4, h0 => by
    rw [State.clearNodes.eq_2]
    exact (keeps_ite (keeps_ite (State.putPte_keeps _ _ _ (State.clearNodes_keeps _ _ _ _ _ _ h0))
      (State.clearNodes_keeps _ _ _ _ _ _ h0)) h0)

theorem State.createBack_keeps : ∀ (a0 : State) (a1 : State) a2 a3, State.Keeps p a0 → State.Keeps p a1 → State.Keeps
      p (State.createBack a0 a1 a2 a3) := by
  intro a0 a1 a2 a3 h0 h1
  unfold State.createBack
  exact (State.putObj_keeps _ _ _ (keeps_mk (keeps_foldl (fun x2 x3 h1 => (State.clearNodes_keeps _ _ _ _ _ _ h1))
      (State.freeObj_keeps _ _ h0)) rfl rfl rfl rfl))

theorem State.tcCreate_keeps : ∀ (a0 : State) a1, State.Keeps p a0 → State.Keeps p (State.tcCreate a0 a1) := by
  intro a0 a1 h0
  unfold State.tcCreate
  exact (keeps_ite (State.tcEnd_keeps _ _ _ _ h0) (by (try dsimp only); split; (exact (State.tcEnd_keeps _ _ _ _ (State.createPages_keeps _ _ _ _ (State.putObj_keeps _ _ _ h0)))); (exact (State.tcEnd_keeps _ _ _ _ (State.exhausted_keeps _ (State.createBack_keeps _ _ _ _ (State.createPages_keeps _ _ _ _ (State.putObj_keeps _ _ _ h0)) h0))))))

theorem State.tcFree_keeps : ∀ (a0 : State) a1, State.Keeps p a0 → State.Keeps p (State.tcFree a0 a1) := by
  intro a0 a1 h0
  unfold State.tcFree
  exact (keeps_ite (State.tcEnd_keeps _ _ _ _ h0) (State.tcEnd_keeps _ _ _ _ (State.freeObj_keeps _ _ h0)))

theorem State.setTransit_keeps : ∀ (a0 : State) a1 a2, State.Keeps p a0 → State.Keeps p (State.setTransit a0 a1 a2) := by
  intro a0 a1 a2 h0
  unfold State.setTransit
  exact (by split; (exact (State.putLeaf_keeps _ _ _ (State.xlatDrop_keeps _ _ h0))); (exact h0))

theorem State.migrateGo_keeps : ∀ a0 (a1 : State) a2, State.Keeps p a1 → State.Keeps p (State.migrateGo a0 a1 a2)
  | 0, v0, v1, h1 => by
    rw [State.migrateGo.eq_1]
    exact h1
  | v2 + 1, v0, v1, h1 => by
    rw [State.migrateGo.eq_2]
    exact (keeps_ite (State.tcEnd_keeps _ _ _ _ h1) (by split; (exact (by split; (exact (State.tcEnd_keeps _ _ _ _ h1)); (exact (keeps_ite h1 (keeps_ite (keeps_ite (State.tcEnd_keeps _ _ _ _ (keeps_mk (State.finishMove_keeps _ _ _ _ h1) rfl rfl rfl rfl)) (keeps_mk (State.finishMove_keeps _ _ _ _ h1) rfl rfl rfl rfl)) (State.tcEnd_keeps _ _ _ _ (State.finishMove_keeps _ _ _ _ h1))))))); (exact (by split; (exact (State.tcEnd_keeps _ _ _ _ h1)); (exact (keeps_ite (State.migrateGo_keeps _ _ _ (keeps_mk h1 rfl rfl rfl rfl)) (keeps_ite h1 (by (try dsimp only); split; (exact (State.tcEnd_keeps _ _ _ _ (State.exhausted_keeps _ (State.setTransit_keeps _ _ _ (keeps_ite_fst (State.allocFrame_keeps _ _ _ _ _ (State.setTransit_keeps _ _ _ h1)) (keeps_fst (State.setTransit_keeps _ _ _ h1))))))); (exact (keeps_mk (keeps_ite_fst (State.allocFrame_keeps _ _ _ _ _ (State.setTransit_keeps _ _ _ h1)) (keeps_fst (State.setTransit_keeps _ _ _ h1))) rfl rfl rfl rfl))))))))))

theorem State.tcMigrate_keeps : ∀ (a0 : State) a1, State.Keeps p a0 → State.Keeps p (State.tcMigrate a0 a1) := by
  intro a0 a1 h0
  unfold State.tcMigrate
  exact (by split; (exact (State.migrateGo_keeps _ _ _ h0)); (exact (keeps_ite (State.migrateGo_keeps _ _ _ (keeps_mk h0 rfl rfl rfl rfl)) (State.tcEnd_keeps _ _ _ _ h0))))

theorem State.tcPlaceCmd_keeps : ∀ (a0 : State) a1, State.Keeps p a0 → State.Keeps p (State.tcPlaceCmd a0 a1) := by
  intro a0 a1 h0
  unfold State.tcPlaceCmd
  exact (keeps_ite (State.tcEnd_keeps _ _ _ _ (State.putObj_keeps _ _ _ h0)) (State.tcEnd_keeps _ _ _ _ h0))

theorem State.tcBump_keeps : ∀ (a0 : State) a1, State.Keeps p a0 → State.Keeps p (State.tcBump a0 a1) := by
  intro a0 a1 h0
  unfold State.tcBump
  exact (keeps_ite (State.tcEnd_keeps _ _ _ _ (State.bumpWgen_keeps _ _ h0)) (State.tcEnd_keeps _ _ _ _ h0))

theorem State.tierCommand_keeps : ∀ (a0 : State) a1, State.Keeps p a0 → State.Keeps p (State.tierCommand a0 a1) := by
  intro a0 a1 h0
  unfold State.tierCommand
  exact (by split; (exact h0); (exact (keeps_ite h0 (by split; (exact (by split; (exact (State.tcCreate_keeps _ _ h0)); (exact (State.tcFree_keeps _ _ h0)); (exact (State.tcMigrate_keeps _ _ h0)); (exact (State.tcPlaceCmd_keeps _ _ h0)); (exact (State.tcBump_keeps _ _ h0)))); (exact (State.tcEnd_keeps _ _ _ _ h0))))))

theorem State.farPoolWrite_keeps : ∀ (a0 : State) a1 a2, State.Keeps p a0 → State.Keeps p (State.farPoolWrite a0 a1
      a2).1 := by
  intro a0 a1 a2 h0
  unfold State.farPoolWrite
  exact (keeps_ite_fst h0 (keeps_ite_fst h0 (keeps_ite_fst h0 (keeps_ite_fst h0 (keeps_fst (State.setFarPool_keeps _
      _ _ (keeps_mk h0 rfl rfl rfl rfl)))))))

theorem State.tierStart_keeps : ∀ (a0 : State), State.Keeps p a0 → State.Keeps p (State.tierStart a0) := by
  intro a0 h0
  unfold State.tierStart
  exact (State.setDictNat_keeps _ _ _ _ (State.setDictNat_keeps _ _ _ _ (State.setDictNat_keeps _ _ _ _
      (State.setDictNat_keeps _ _ _ _ (State.setDictNat_keeps _ _ _ _ (keeps_foldl (fun x2 x3 h1 =>
      (State.setReg_keeps _ _ _ (State.setReg_keeps _ _ _ h1))) (keeps_mk (State.zeroNear_keeps _ _ _ h0) rfl rfl rfl
      rfl)))))))

theorem State.tierEnable_keeps : ∀ (a0 : State), State.Keeps p a0 → State.Keeps p (State.tierEnable a0).1 := by
  intro a0 h0
  unfold State.tierEnable
  exact (keeps_ite_fst (keeps_fst (State.tierStart_keeps _ h0)) h0)

theorem execCreate_keeps : ∀ (a0 : State), State.Keeps p a0 → ∀ t, execCreate a0 = .next t → State.Keeps p t := by
  intro a0 h0 t ht
  exact keeps_next ht (State.tierCommand_keeps _ _ h0)

theorem execFree_keeps : ∀ (a0 : State), State.Keeps p a0 → ∀ t, execFree a0 = .next t → State.Keeps p t := by
  intro a0 h0 t ht
  exact keeps_next ht (State.tierCommand_keeps _ _ h0)

theorem execMigrate_keeps : ∀ (a0 : State), State.Keeps p a0 → ∀ t, execMigrate a0 = .next t → State.Keeps p t := by
  intro a0 h0 t ht
  exact keeps_next ht (State.tierCommand_keeps _ _ h0)

theorem execPlace_keeps : ∀ (a0 : State), State.Keeps p a0 → ∀ t, execPlace a0 = .next t → State.Keeps p t := by
  intro a0 h0 t ht
  exact keeps_next ht (State.tierCommand_keeps _ _ h0)

theorem execBump_keeps : ∀ (a0 : State), State.Keeps p a0 → ∀ t, execBump a0 = .next t → State.Keeps p t := by
  intro a0 h0 t ht
  exact keeps_next ht (State.tierCommand_keeps _ _ h0)

theorem execFarPoolWrite_keeps : ∀ a0 a1 (a2 : State), State.Keeps p a2 → ∀ t, execFarPoolWrite a0 a1 a2 = .next t →
      State.Keeps p t := by
  intro a0 a1 a2 h2 t ht
  exact keeps_ifUnit ht (State.count_keeps _ _ (State.farPoolWrite_keeps _ _ _ h2))

theorem execReachableLoss_keeps : ∀ a0 a1 (a2 : State), State.Keeps p a2 → ∀ t, execReachableLoss a0 a1 a2 = .next t
      → State.Keeps p t := by
  intro a0 a1 a2 h2 t ht
  exact keeps_ifUnit ht (keeps_mk (State.reachLoss_keeps _ _ _ h2) rfl rfl rfl rfl)

theorem execReachableRestore_keeps : ∀ a0 (a1 : State), State.Keeps p a1 → ∀ t, execReachableRestore a0 a1 = .next t
      → State.Keeps p t := by
  intro a0 a1 h1 t ht
  exact keeps_ifUnit ht (State.reachRestore_keeps _ _ (keeps_mk h1 rfl rfl rfl rfl))

theorem execHwmClear_keeps : ∀ (a0 : State), State.Keeps p a0 → ∀ t, execHwmClear a0 = .next t → State.Keeps p t := by
  intro a0 h0 t ht
  exact keeps_next ht (State.hwmClear_keeps _ h0)

theorem execTierEnable_keeps : ∀ (a0 : State), State.Keeps p a0 → ∀ t, execTierEnable a0 = .next t → State.Keeps p t
      := by
  intro a0 h0 t ht
  exact keeps_next ht (State.count_keeps _ _ (State.tierEnable_keeps _ h0))

end Sys2Proof.Machine
end

