-- ==== Sys2Proof/Laws/KeepEntries.lean ====
section
/-! SUPPORT. What the operations of Machine/Entries.lean keep: for each, if the invariants hold before it with commands `p` waiting, they
hold after it with the same commands waiting. -/

set_option linter.unusedTactic false

namespace Sys2Proof.Machine

variable {p : List Instr}

theorem State.reshape_keeps : ∀ (a0 : State), State.Keeps p a0 → State.Keeps p (State.reshape a0) := by
  intro a0 h0
  unfold State.reshape
  exact (keeps_foldl (fun x2 x3 h1 => (keeps_ite (State.setPort_keeps _ _ _ h1) (keeps_ite (State.startFull_keeps _ _
      h1) h1))) h0)

theorem State.goReady_keeps : ∀ (a0 : State), State.Keeps p a0 → State.Keeps p (State.goReady a0) := by
  intro a0 h0
  unfold State.goReady
  exact (State.evalFitness_keeps _ (State.setDev_keeps _ _ (State.identAll_keeps _ (State.reshape_keeps _
      (State.takeNumbers_keeps _ (State.substitute_keeps _ h0))))))

theorem State.startPrograms_keeps : ∀ (a0 : State), State.Keeps p a0 → State.Keeps p (State.startPrograms a0) := by
  intro a0 h0
  unfold State.startPrograms
  exact (keeps_foldl (fun x2 x3 h1 => (State.setCore_keeps _ _ _ h1)) h0)

theorem State.devGo_keeps : ∀ (a0 : State) a1, State.Keeps p a0 → State.Keeps p (State.devGo a0 a1) := by
  intro a0 a1 h0
  unfold State.devGo
  exact (by split; (exact (State.goReady_keeps _ h0)); (exact (State.setDev_keeps _ _ (State.startPrograms_keeps _ h0))); (exact (keeps_mk (State.setDev_keeps _ _ h0) rfl rfl rfl rfl)); (exact (State.setDev_keeps _ _ h0)); (exact (keeps_mk h0 rfl rfl rfl rfl)))

theorem State.devCommand_keeps : ∀ (a0 : State) a1, State.Keeps p a0 → State.Keeps p (State.devCommand a0 a1).1 := by
  intro a0 a1 h0
  unfold State.devCommand
  exact (keeps_fst (State.devChanged_keeps _ _ (keeps_mk (keeps_ite (State.devGo_keeps _ _ h0) h0) rfl rfl rfl rfl)))

theorem State.drainEnd_keeps : ∀ (a0 : State), State.Keeps p a0 → State.Keeps p (State.drainEnd a0) := by
  intro a0 h0
  unfold State.drainEnd
  exact (keeps_ite (State.evalFitness_keeps _ (State.setDev_keeps _ _ (keeps_mk (State.substitute_keeps _ h0) rfl rfl
      rfl rfl))) h0)

theorem State.resetExpiry_keeps : ∀ (a0 : State), State.Keeps p a0 → State.Keeps p (State.resetExpiry a0) := by
  intro a0 h0
  unfold State.resetExpiry
  exact (by split; (exact (keeps_ite (State.tryStart_keeps _ (State.deviceReset_keeps _ h0)) h0)); (exact h0))

theorem State.swapMap_keeps : ∀ (a0 : State) a1, State.Keeps p a0 → State.Keeps p (State.swapMap a0 a1) := by
  intro a0 a1 h0
  unfold State.swapMap
  exact (State.setDict_keeps _ _ _ _ (State.setDict_keeps _ _ _ _ (State.setDict_keeps _ _ _ _ (State.setDict_keeps _
      _ _ _ h0))))

theorem State.setEntry_keeps : ∀ (a0 : State) a1 a2 a3, State.Keeps p a0 → State.Keeps p (State.setEntry a0 a1 a2 a3)
      := by
  intro a0 a1 a2 a3 h0
  unfold State.setEntry
  exact (State.setDict_keeps _ _ _ _ h0)

theorem State.setLimit_keeps : ∀ (a0 : State) a1 a2, State.Keeps p a0 → State.Keeps p (State.setLimit a0 a1 a2) := by
  intro a0 a1 a2 h0
  unfold State.setLimit
  exact (keeps_ite (keeps_mk (State.setEntry_keeps _ _ _ _ h0) rfl rfl rfl rfl) (State.setEntry_keeps _ _ _ _ h0))

theorem State.queueStaged_keeps : ∀ (a0 : State) a1, State.Keeps p a0 → State.Keeps p (State.queueStaged a0 a1).1 :=
      by
  intro a0 a1 h0
  unfold State.queueStaged
  exact (keeps_ite_fst h0 (keeps_ite_fst (keeps_fst (State.setEntry_keeps _ _ _ _ (State.queueOp_keeps _ _ _ _ _ _
      (State.freeWord_keeps _ h0)))) (State.queueOp_keeps _ _ _ _ _ _ (State.freeWord_keeps _ h0))))

theorem State.fwCommand_keeps : ∀ (a0 : State) a1 a2, State.Keeps p a0 → State.Keeps p (State.fwCommand a0 a1 a2).1 := by
  intro a0 a1 a2 h0
  unfold State.fwCommand
  exact (keeps_ite_fst h0 (by split; (exact (keeps_ite_fst (State.fwBegin_keeps _ _ h0) h0)); (exact (keeps_ite_fst (State.fwFinish_keeps _ h0) h0)); (exact (keeps_ite_fst (State.fwCancel_keeps _ h0) h0)); (exact (State.fwActivate_keeps _ _ h0)); (exact h0)))

theorem State.mailRelease_keeps : ∀ (a0 : State) a1, State.Keeps p a0 → State.Keeps p (State.mailRelease a0 a1).1 := by
  intro a0 a1 h0
  unfold State.mailRelease
  exact (by split; (exact h0); (exact h0); (exact (keeps_fst (keeps_ite h0 (State.releaseClaim_keeps _ h0)))))

theorem State.applyWrite_keeps : ∀ (a0 : State) a1 a2 a3 a4, State.Keeps p a0 → State.Keeps p (State.applyWrite a0 a1 a2 a3 a4).1 := by
  intro a0 a1 a2 a3 a4 h0
  unfold State.applyWrite
  exact (by (try dsimp only); split; (exact (State.devCommand_keeps _ _ h0)); (exact (keeps_fst (keeps_mk (State.setEntry_keeps _ _ _ _ h0) rfl rfl rfl rfl))); (exact (State.mailRelease_keeps _ _ h0)); (exact (keeps_fst (State.evalFitness_keeps _ (State.setEntry_keeps _ _ _ _ h0)))); (exact (State.queueStaged_keeps _ _ h0)); (exact (keeps_ite_fst h0 (keeps_fst (State.setEntry_keeps _ _ _ _ h0)))); (exact (State.slotWrite_keeps _ _ _ h0)); (exact (State.poolWrite_keeps _ _ _ h0)); (exact (State.farPoolWrite_keeps _ _ _ h0)); (exact (keeps_ite_fst (State.tierEnable_keeps _ h0) (keeps_fst (State.setEntry_keeps _ _ _ _ h0)))); (exact (keeps_fst (State.setLimit_keeps _ _ _ h0))); (exact (State.retireLoad_keeps _ _ h0)); (exact (State.lifeSaveNow_keeps _ h0)); (exact (State.quoteNonce_keeps _ _ h0)); (exact (State.fwCommand_keeps _ _ _ h0)); (exact (State.pdcBlob_keeps _ _ h0)); (exact (State.byHand_keeps _ _ _ h0)); (exact (keeps_fst (State.setEntry_keeps _ _ _ _ h0))))

end Sys2Proof.Machine
end

