-- ==== Sys2Proof/Laws/KeepDictionary.lean ====
section
/-! SUPPORT. What the operations of Machine/Dictionary.lean keep: for each, if the invariants hold before it with commands `p` waiting, they
hold after it with the same commands waiting. -/

set_option linter.unusedTactic false

namespace Sys2Proof.Machine

variable {p : List Instr}

theorem State.staleSegs_keeps : ∀ (a0 : State) a1, State.Keeps p a0 → State.Keeps p (State.staleSegs a0 a1) := by
  intro a0 a1 h0
  unfold State.staleSegs
  exact (keeps_mk h0 rfl rfl rfl rfl)

theorem State.writeValue_keeps : ∀ (a0 : State) a1 a2 a3 a4, State.Keeps p a0 → State.Keeps p (State.writeValue a0 a1
      a2 a3 a4).1 := by
  intro a0 a1 a2 a3 a4 h0
  unfold State.writeValue
  exact (keeps_ite_fst h0 (keeps_ite_fst (State.applyWrite_keeps _ _ _ _ _ h0) (keeps_ite_fst h0 (keeps_fst
      (State.staleSegs_keeps _ _ (keeps_ite (State.swapMap_keeps _ _ (State.applyWrite_keeps _ _ _ _ _ h0))
      (State.applyWrite_keeps _ _ _ _ _ h0)))))))

theorem State.setSeg_keeps : ∀ (a0 : State) a1 a2 a3 a4, State.Keeps p a0 → State.Keeps p (State.setSeg a0 a1 a2 a3
      a4) := by
  intro a0 a1 a2 a3 a4 h0
  unfold State.setSeg
  exact (keeps_mk h0 rfl rfl rfl rfl)

theorem State.doWrite_keeps : ∀ (a0 : State) a1 a2, State.Keeps p a0 → State.Keeps p (State.doWrite a0 a1 a2).1 := by
  intro a0 a1 a2 h0
  unfold State.doWrite
  exact (keeps_ite_fst (State.fwData_keeps _ _ _ _ h0) (keeps_ite_fst (State.writeValue_keeps _ _ _ _ _ h0)
      (keeps_ite_fst (keeps_fst (State.setSeg_keeps _ _ _ _ _ h0)) (keeps_ite_fst (keeps_fst (State.setSeg_keeps _ _
      _ _ _ h0)) (State.writeValue_keeps _ _ _ _ _ (State.setSeg_keeps _ _ _ _ _ h0))))))

theorem State.putTxn_keeps : ∀ (a0 : State) a1, State.Keeps p a0 → State.Keeps p (State.putTxn a0 a1) := by
  intro a0 a1 h0
  unfold State.putTxn
  exact (State.txnRecord_keeps _ _ (keeps_mk h0 rfl rfl rfl rfl))

theorem State.txnBegin_keeps : ∀ (a0 : State) a1, State.Keeps p a0 → State.Keeps p (State.txnBegin a0 a1).1 := by
  intro a0 a1 h0
  unfold State.txnBegin
  exact (keeps_fst (State.txnRecord_keeps _ _ (keeps_mk h0 rfl rfl rfl rfl)))

theorem State.doStage_keeps : ∀ (a0 : State) a1 a2 a3, State.Keeps p a0 → State.Keeps p (State.doStage a0 a1 a2 a3).1
      := by
  intro a0 a1 a2 a3 h0
  unfold State.doStage
  exact (keeps_ite_fst (keeps_fst (State.putTxn_keeps _ _ h0)) (keeps_ite_fst (keeps_fst (State.putTxn_keeps _ _
      (State.setSeg_keeps _ _ _ _ _ h0))) (keeps_ite_fst (keeps_fst (State.putTxn_keeps _ _ (State.setSeg_keeps _ _ _
      _ _ h0))) (keeps_fst (State.putTxn_keeps _ _ (State.setSeg_keeps _ _ _ _ _ h0))))))

theorem State.commitWrite_keeps : ∀ (a0 : State) a1 a2, State.Keeps p a0 → State.Keeps p (State.commitWrite a0 a1 a2).1 := by
  intro a0 a1 a2 h0
  unfold State.commitWrite
  exact (by (try dsimp only); split; (exact h0); (exact (keeps_ite_fst h0 (keeps_ite_fst h0 (keeps_ite_fst h0 (keeps_ite_fst h0 (State.applyWrite_keeps _ _ _ _ _ h0)))))))

theorem State.commitTrial_keeps : ∀ (a0 : State) a1, State.Keeps p a0 → State.Keeps p (State.commitTrial a0 a1).1 := by
  intro a0 a1 h0
  unfold State.commitTrial
  exact (by (try dsimp only); split; (exact (keeps_fst (keeps_foldl_fst (fun x4 x5 h6 => (by split; (exact h6); (exact (keeps_ite_fst (keeps_fst (State.commitWrite_keeps _ _ _ h6)) h6)))) h0))); (exact (keeps_fst (keeps_foldl_fst (fun x14 x15 h16 => (by split; (exact h16); (exact (keeps_ite_fst (keeps_fst (State.commitWrite_keeps _ _ _ h16)) h16)))) h0))))

theorem State.commit_keeps : ∀ (a0 : State) a1, State.Keeps p a0 → State.Keeps p (State.commit a0 a1).1 := by
  intro a0 a1 h0
  unfold State.commit
  exact (by (try dsimp only); split; (exact (keeps_fst (State.endTxn_keeps _ _ _ _ _ _ h0))); (exact (keeps_fst (State.endTxn_keeps _ _ _ _ _ _ (keeps_foldl (fun x7 x8 h6 => (State.staleSegs_keeps _ _ h6)) (keeps_foldl (fun x10 x11 h9 => (State.swapMap_keeps _ _ h9)) (State.commitTrial_keeps _ _ h0)))))))

theorem State.commitDue_keeps : ∀ (a0 : State) a1, State.Keeps p a0 → State.Keeps p (State.commitDue a0 a1) := by
  intro a0 a1 h0
  unfold State.commitDue
  exact (by split; (exact (keeps_ite (State.count_keeps _ _ (State.commit_keeps _ _ h0)) h0)); (exact h0))

theorem State.commitsDue_keeps : ∀ (a0 : State), State.Keeps p a0 → State.Keeps p (State.commitsDue a0) := by
  intro a0 h0
  unfold State.commitsDue
  exact (keeps_foldl (fun x2 x3 h1 => (State.commitDue_keeps _ _ h1)) h0)

theorem State.doCommit_keeps : ∀ (a0 : State) a1 a2, State.Keeps p a0 → State.Keeps p (State.doCommit a0 a1 a2).1 :=
      by
  intro a0 a1 a2 h0
  unfold State.doCommit
  exact (keeps_ite_fst (State.commit_keeps _ _ h0) (keeps_ite_fst (keeps_fst (State.putTxn_keeps _ _ h0))
      (keeps_ite_fst (keeps_fst (State.putTxn_keeps _ _ h0)) (keeps_fst (State.putTxn_keeps _ _ h0)))))

theorem State.execute_keeps : ∀ (a0 : State) a1 a2, State.Keeps p a0 → State.Keeps p (State.execute a0 a1 a2).1 := by
  intro a0 a1 a2 h0
  unfold State.execute
  exact (by split; (exact (by (try dsimp only); split; (exact h0); (exact (keeps_fst (State.doWrite_keeps _ _ _ h0))); (exact h0); (exact (keeps_fst (State.txnBegin_keeps _ _ h0))); (exact (keeps_fst (State.doStage_keeps _ _ _ _ h0))); (exact (keeps_fst (State.doCommit_keeps _ _ _ h0))); (exact (keeps_fst (State.endTxn_keeps _ _ _ _ _ _ h0))); (exact h0); (exact h0))); (exact h0))

theorem State.mailReply_keeps : ∀ (a0 : State) a1 a2, State.Keeps p a0 → State.Keeps p (State.mailReply a0 a1 a2) := by
  intro a0 a1 a2 h0
  unfold State.mailReply
  exact (by (try dsimp only); split; (exact (keeps_mk (State.bump_keeps _ _ _ (State.clearFlag_keeps _ _ _ (State.setFlag_keeps _ _ _ (keeps_mk h0 rfl rfl rfl rfl)))) rfl rfl rfl rfl)); (exact (keeps_ite (State.releaseClaim_keeps _ (State.bump_keeps _ _ _ (State.clearFlag_keeps _ _ _ (State.setFlag_keeps _ _ _ (keeps_mk h0 rfl rfl rfl rfl))))) (State.bump_keeps _ _ _ (State.clearFlag_keeps _ _ _ (State.setFlag_keeps _ _ _ (keeps_mk h0 rfl rfl rfl rfl)))))))

theorem State.deliverTo_keeps : ∀ (a0 : State) a1 a2 a3, State.Keeps p a0 → State.Keeps p (State.deliverTo a0 a1 a2 a3) := by
  intro a0 a1 a2 a3 h0
  unfold State.deliverTo
  exact (by (try dsimp only); split; (exact (keeps_ite (State.bump_keeps _ _ _ (keeps_mk h0 rfl rfl rfl rfl)) (keeps_mk h0 rfl rfl rfl rfl))); (exact (State.sendOn_keeps _ _ (keeps_mk h0 rfl rfl rfl rfl))); (exact (State.mailReply_keeps _ _ _ (keeps_mk h0 rfl rfl rfl rfl))))

theorem State.finish_keeps : ∀ (a0 : State) a1 a2 a3 a4, State.Keeps p a0 → State.Keeps p (State.finish a0 a1 a2 a3
      a4) := by
  intro a0 a1 a2 a3 a4 h0
  unfold State.finish
  exact (State.deliverTo_keeps _ _ _ _ (keeps_mk h0 rfl rfl rfl rfl))

theorem State.serveHere_keeps : ∀ (a0 : State) a1 a2 a3, State.Keeps p a0 → State.Keeps p (State.serveHere a0 a1 a2
      a3) := by
  intro a0 a1 a2 a3 h0
  unfold State.serveHere
  exact (State.finish_keeps _ _ _ _ _ (State.count_keeps _ _ (keeps_ite (keeps_mk (State.execute_keeps _ _ _
      (State.commitsDue_keeps _ h0)) rfl rfl rfl rfl) (State.execute_keeps _ _ _ (State.commitsDue_keeps _ h0)))))

theorem State.serveThere_keeps : ∀ (a0 : State) a1 a2, State.Keeps p a0 → State.Keeps p (State.serveThere a0 a1 a2)
      := by
  intro a0 a1 a2 h0
  unfold State.serveThere
  exact (keeps_ite (State.finish_keeps _ _ _ _ _ (State.count_keeps _ _ h0)) (keeps_ite (State.request_keeps _ _ _
      h0) (State.finish_keeps _ _ _ _ _ (State.count_keeps _ _ (State.request_keeps _ _ _ h0)))))

theorem State.handle_keeps : ∀ (a0 : State) a1 a2 a3, State.Keeps p a0 → State.Keeps p (State.handle a0 a1 a2 a3) := by
  intro a0 a1 a2 a3 h0
  unfold State.handle
  exact (keeps_ite h0 (keeps_ite (State.clearFlag_keeps _ _ _ (by split; (exact (State.bump_keeps _ _ _ h0)); (exact h0))) (by split; (exact (State.deliverTo_keeps _ _ _ _ (by split; (exact (State.bump_keeps _ _ _ h0)); (exact h0)))); (exact (keeps_ite (State.serveHere_keeps _ _ _ _ (by split; (exact (State.bump_keeps _ _ _ h0)); (exact h0))) (by split; (exact (State.finish_keeps _ _ _ _ _ (State.count_keeps _ _ (by split; (exact (State.bump_keeps _ _ _ h0)); (exact (State.bump_keeps _ _ _ h0)))))); (exact (State.serveHere_keeps _ _ _ _ h0)); (exact (State.serveThere_keeps _ _ _ (by split; (exact (State.bump_keeps _ _ _ h0)); (exact h0))))))))))

theorem State.dictLost_keeps : ∀ (a0 : State) a1 a2 a3, State.Keeps p a0 → State.Keeps p (State.dictLost a0 a1 a2 a3)
      := by
  intro a0 a1 a2 a3 h0
  unfold State.dictLost
  exact (State.finish_keeps _ _ _ _ _ (State.count_keeps _ _ h0))

theorem State.request1_keeps : ∀ (a0 : State) a1 a2 a3, State.Keeps p a0 → State.Keeps p (State.request1 a0 a1 a2 a3)
      := by
  intro a0 a1 a2 a3 h0
  unfold State.request1
  exact (keeps_ite (State.handle_keeps _ _ _ _ h0) h0)

theorem execWrite_keeps : ∀ a0 a1 (a2 : State), State.Keeps p a2 → ∀ t, execWrite a0 a1 a2 = .next t → State.Keeps p
      t := by
  intro a0 a1 a2 h2 t ht
  exact keeps_ifUnit ht (State.request1_keeps _ _ _ _ h2)

theorem execDictRead_keeps : ∀ a0 a1 (a2 : State), State.Keeps p a2 → ∀ t, execDictRead a0 a1 a2 = .next t →
      State.Keeps p t := by
  intro a0 a1 a2 h2 t ht
  exact keeps_ifUnit ht (State.request1_keeps _ _ _ _ h2)

theorem execDescribe_keeps : ∀ a0 a1 (a2 : State), State.Keeps p a2 → ∀ t, execDescribe a0 a1 a2 = .next t →
      State.Keeps p t := by
  intro a0 a1 a2 h2 t ht
  exact keeps_ifUnit ht (State.request1_keeps _ _ _ _ h2)

theorem execDiscover_keeps : ∀ a0 a1 (a2 : State), State.Keeps p a2 → ∀ t, execDiscover a0 a1 a2 = .next t →
      State.Keeps p t := by
  intro a0 a1 a2 h2 t ht
  exact keeps_ifUnit ht (State.request1_keeps _ _ _ _ h2)

theorem execTxnBegin_keeps : ∀ a0 a1 (a2 : State), State.Keeps p a2 → ∀ t, execTxnBegin a0 a1 a2 = .next t →
      State.Keeps p t := by
  intro a0 a1 a2 h2 t ht
  exact keeps_ifUnit ht (State.request1_keeps _ _ _ _ h2)

theorem execTxnStage_keeps : ∀ a0 a1 (a2 : State), State.Keeps p a2 → ∀ t, execTxnStage a0 a1 a2 = .next t →
      State.Keeps p t := by
  intro a0 a1 a2 h2 t ht
  exact keeps_ifUnit ht (State.request1_keeps _ _ _ _ h2)

theorem execTxnCommit_keeps : ∀ a0 a1 (a2 : State), State.Keeps p a2 → ∀ t, execTxnCommit a0 a1 a2 = .next t →
      State.Keeps p t := by
  intro a0 a1 a2 h2 t ht
  exact keeps_ifUnit ht (State.request1_keeps _ _ _ _ h2)

theorem execTxnAbort_keeps : ∀ a0 a1 (a2 : State), State.Keeps p a2 → ∀ t, execTxnAbort a0 a1 a2 = .next t →
      State.Keeps p t := by
  intro a0 a1 a2 h2 t ht
  exact keeps_ifUnit ht (State.request1_keeps _ _ _ _ h2)

theorem execScheduledCommit_keeps : ∀ a0 (a1 : State), State.Keeps p a1 → ∀ t, execScheduledCommit a0 a1 = .next t → State.Keeps p t := by
  intro a0 a1 h1 t ht
  exact keeps_next ht (by split; (exact (State.commitDue_keeps _ _ h1)); (exact h1))

theorem execTxnIdleTimeout_keeps : ∀ a0 (a1 : State), State.Keeps p a1 → ∀ t, execTxnIdleTimeout a0 a1 = .next t → State.Keeps p t := by
  intro a0 a1 h1 t ht
  exact keeps_next ht (by split; (exact (keeps_ite (State.count_keeps _ _ (State.endTxn_keeps _ _ _ _ _ _ h1)) h1)); (exact h1))

theorem State.devRequest_keeps : ∀ (a0 : State) a1 a2, State.Keeps p a0 → State.Keeps p (State.devRequest a0 a1 a2)
      := by
  intro a0 a1 a2 h0
  unfold State.devRequest
  exact (keeps_ite h0 (keeps_ite (State.count_keeps _ _ (State.devCommand_keeps _ _ (State.commitsDue_keeps _ h0)))
      (State.count_keeps _ _ (State.devChanged_keeps _ _ (keeps_mk (State.commitsDue_keeps _ h0) rfl rfl rfl rfl)))))

theorem execGoReady_keeps : ∀ a0 (a1 : State), State.Keeps p a1 → ∀ t, execGoReady a0 a1 = .next t → State.Keeps p t
      := by
  intro a0 a1 h1 t ht
  exact keeps_ifUnit ht (State.devRequest_keeps _ _ _ h1)

theorem execStart_keeps : ∀ a0 (a1 : State), State.Keeps p a1 → ∀ t, execStart a0 a1 = .next t → State.Keeps p t := by
  intro a0 a1 h1 t ht
  exact keeps_ifUnit ht (State.devRequest_keeps _ _ _ h1)

theorem execDrain_keeps : ∀ a0 (a1 : State), State.Keeps p a1 → ∀ t, execDrain a0 a1 = .next t → State.Keeps p t := by
  intro a0 a1 h1 t ht
  exact keeps_ifUnit ht (State.devRequest_keeps _ _ _ h1)

theorem execDrainComplete_keeps : ∀ (a0 : State), State.Keeps p a0 → ∀ t, execDrainComplete a0 = .next t →
      State.Keeps p t := by
  intro a0 h0 t ht
  exact keeps_next ht (State.drainEnd_keeps _ h0)

theorem execReconfig_keeps : ∀ a0 (a1 : State), State.Keeps p a1 → ∀ t, execReconfig a0 a1 = .next t → State.Keeps p
      t := by
  intro a0 a1 h1 t ht
  exact keeps_ifUnit ht (State.devRequest_keeps _ _ _ h1)

theorem execResetCmd_keeps : ∀ a0 (a1 : State), State.Keeps p a1 → ∀ t, execResetCmd a0 a1 = .next t → State.Keeps p
      t := by
  intro a0 a1 h1 t ht
  exact keeps_ifUnit ht (State.devRequest_keeps _ _ _ h1)

theorem execResetDelayExpiry_keeps : ∀ (a0 : State), State.Keeps p a0 → ∀ t, execResetDelayExpiry a0 = .next t →
      State.Keeps p t := by
  intro a0 h0 t ht
  exact keeps_next ht (State.resetExpiry_keeps _ h0)

theorem State.mailClaim_keeps : ∀ (a0 : State) a1 a2, State.Keeps p a0 → State.Keeps p (State.mailClaim a0 a1 a2) :=
      by
  intro a0 a1 a2 h0
  unfold State.mailClaim
  exact (keeps_ite (keeps_ite (State.releaseClaim_keeps _ h0) h0) (keeps_ite (State.refusedWrite_keeps _ h0)
      (keeps_ite (State.clearFlag_keeps _ _ _ (State.setReg_keeps _ _ _ h0)) h0)))

theorem State.mailGo_keeps : ∀ (a0 : State) a1, State.Keeps p a0 → State.Keeps p (State.mailGo a0 a1) := by
  intro a0 a1 h0
  unfold State.mailGo
  exact (keeps_ite h0 (State.handle_keeps _ _ _ _ (State.setFlag_keeps _ _ _ h0)))

theorem execMbClaim_keeps : ∀ a0 (a1 : State), State.Keeps p a1 → ∀ t, execMbClaim a0 a1 = .next t → State.Keeps p t
      := by
  intro a0 a1 h1 t ht
  exact keeps_ifUnit ht (State.byCp_keeps _ _ _ h1 (State.mailClaim_keeps _ _ _ h1))

theorem execMbClaimRelease_keeps : ∀ a0 (a1 : State), State.Keeps p a1 → ∀ t, execMbClaimRelease a0 a1 = .next t →
      State.Keeps p t := by
  intro a0 a1 h1 t ht
  exact keeps_ifUnit ht (State.byCp_keeps _ _ _ h1 (State.mailClaim_keeps _ _ _ h1))

theorem execGo_keeps : ∀ a0 (a1 : State), State.Keeps p a1 → ∀ t, execGo a0 a1 = .next t → State.Keeps p t := by
  intro a0 a1 h1 t ht
  exact keeps_ifUnit ht (State.byCp_keeps _ _ _ h1 (State.mailGo_keeps _ _ h1))

theorem execMbRelease_keeps : ∀ a0 (a1 : State), State.Keeps p a1 → ∀ t, execMbRelease a0 a1 = .next t → State.Keeps
      p t := by
  intro a0 a1 h1 t ht
  exact keeps_ifUnit ht (State.asAdmin_keeps _ _ _ h1 (fun x2 h1 => (keeps_ite_fst (State.mailRelease_keeps _ _ h1)
      h1)))

theorem execPairShort_keeps : ∀ (a0 : State), State.Keeps p a0 → ∀ t, execPairShort a0 = .next t → State.Keeps p t :=
      by
  intro a0 h0 t ht
  exact keeps_next ht (keeps_ite (keeps_mk (State.bumpSeen_keeps _ _ _ _ h0) rfl rfl rfl rfl) h0)

theorem execShortRetry_keeps : ∀ a0 (a1 : State), State.Keeps p a1 → ∀ t, execShortRetry a0 a1 = .next t → State.Keeps p t := by
  intro a0 a1 h1 t ht
  exact keeps_next ht (by split; (exact (keeps_ite (keeps_ite (keeps_mk h1 rfl rfl rfl rfl) (keeps_mk h1 rfl rfl rfl rfl)) h1)); (exact h1))

theorem execNoBeacon_keeps : ∀ (a0 : State), State.Keeps p a0 → ∀ t, execNoBeacon a0 = .next t → State.Keeps p t := by
  intro a0 h0 t ht
  exact keeps_next ht (keeps_ite (keeps_mk (State.bumpSeen_keeps _ _ _ _ h0) rfl rfl rfl rfl) h0)

theorem execBeaconResume_keeps : ∀ (a0 : State), State.Keeps p a0 → ∀ t, execBeaconResume a0 = .next t → State.Keeps
      p t := by
  intro a0 h0 t ht
  exact keeps_next ht (keeps_ite (keeps_mk h0 rfl rfl rfl rfl) h0)

theorem execIdConflict_keeps : ∀ (a0 : State), State.Keeps p a0 → ∀ t, execIdConflict a0 = .next t → State.Keeps p t
      := by
  intro a0 h0 t ht
  exact keeps_next ht (keeps_ite (keeps_mk h0 rfl rfl rfl rfl) h0)

theorem execStateEvent_keeps : ∀ (a0 : State), State.Keeps p a0 → ∀ t, execStateEvent a0 = .next t → State.Keeps p t := by
  intro a0 h0 t ht
  exact keeps_next ht (by split; (exact (keeps_ite (State.sendEvent_keeps _ h0) h0)); (exact h0))

theorem execBadFrame_keeps : ∀ (a0 : State), State.Keeps p a0 → ∀ t, execBadFrame a0 = .next t → State.Keeps p t := by
  intro a0 h0 t ht
  exact keeps_next ht (keeps_ite (State.bumpSeen_keeps _ _ _ _ h0) h0)

end Sys2Proof.Machine
end

