-- ==== Sys2Proof/Laws/KeepMedia.lean ====
section
/-! SUPPORT. What the operations of Machine/Media.lean keep: for each, if the invariants hold before it with commands `p` waiting, they
hold after it with the same commands waiting. -/

set_option linter.unusedTactic false

namespace Sys2Proof.Machine

variable {p : List Instr}

theorem State.setSession_keeps : ∀ (a0 : State) a1 a2 a3, State.Keeps p a0 → State.Keeps p (State.setSession a0 a1 a2
      a3) := by
  intro a0 a1 a2 a3 h0
  unfold State.setSession
  exact (keeps_mk h0 rfl rfl rfl rfl)

theorem State.setMx_keeps : ∀ (a0 : State) a1 a2, State.Keeps p a0 → State.Keeps p (State.setMx a0 a1 a2) := by
  intro a0 a1 a2 h0
  unfold State.setMx
  exact (keeps_mk h0 rfl rfl rfl rfl)

theorem State.setMark_keeps : ∀ (a0 : State) a1 a2 a3 a4, State.Keeps p a0 → State.Keeps p (State.setMark a0 a1 a2 a3
      a4) := by
  intro a0 a1 a2 a3 a4 h0
  unfold State.setMark
  exact (State.writeNear_keeps _ _ _ (State.setSession_keeps _ _ _ _ h0))

theorem State.mxEnd_keeps : ∀ (a0 : State) a1 a2, State.Keeps p a0 → State.Keeps p (State.mxEnd a0 a1 a2) := by
  intro a0 a1 a2 h0
  unfold State.mxEnd
  exact (keeps_ite (State.signalSem_keeps _ _ (keeps_ite (State.bump_keeps _ _ _ (State.count_keeps _ _
      (State.setReg_keeps _ _ _ (State.writeNear_keeps _ _ _ (State.writeNear_keeps _ _ _ (State.setMx_keeps _ _ _
      h0)))))) (State.faultRec_keeps _ _ _ _ (State.count_keeps _ _ (State.setReg_keeps _ _ _ (State.writeNear_keeps
      _ _ _ (State.writeNear_keeps _ _ _ (State.setMx_keeps _ _ _ h0)))))))) (keeps_ite (State.bump_keeps _ _ _
      (State.count_keeps _ _ (State.setReg_keeps _ _ _ (State.writeNear_keeps _ _ _ (State.writeNear_keeps _ _ _
      (State.setMx_keeps _ _ _ h0)))))) (State.faultRec_keeps _ _ _ _ (State.count_keeps _ _ (State.setReg_keeps _ _
      _ (State.writeNear_keeps _ _ _ (State.writeNear_keeps _ _ _ (State.setMx_keeps _ _ _ h0))))))))

theorem State.mxOpen_keeps : ∀ (a0 : State) a1 a2, State.Keeps p a0 → State.Keeps p (State.mxOpen a0 a1 a2) := by
  intro a0 a1 a2 h0
  unfold State.mxOpen
  exact (keeps_ite (State.mxEnd_keeps _ _ _ h0) (keeps_ite (State.mxEnd_keeps _ _ _ (State.readNear_keeps _ _ _ h0)) (by (try dsimp only); split; (exact (State.mxEnd_keeps _ _ _ (State.setSession_keeps _ _ _ _ h0))); (exact (State.mxEnd_keeps _ _ _ h0)))))

theorem State.putAll_keeps : ∀ (a0 : State) a1, State.Keeps p a0 → State.Keeps p (State.putAll a0 a1).1 := by
  intro a0 a1 h0
  unfold State.putAll
  exact (keeps_foldl_fst (fun x1 x2 h3 => (keeps_fst (State.writeNear_keeps _ _ _ h3))) h0)

theorem State.mxNote_keeps : ∀ (a0 : State) a1 a2, State.Keeps p a0 → State.Keeps p (State.mxNote a0 a1 a2) := by
  intro a0 a1 a2 h0
  unfold State.mxNote
  exact (State.setMx_keeps _ _ _ h0)

theorem State.mxShow_keeps : ∀ (a0 : State) a1 a2 a3, State.Keeps p a0 → State.Keeps p (State.mxShow a0 a1 a2 a3) :=
      by
  intro a0 a1 a2 a3 h0
  unfold State.mxShow
  exact (keeps_ite h0 (State.mxNote_keeps _ _ _ (State.setMx_keeps _ _ _ (State.setSession_keeps _ _ _ _
      (State.putAll_keeps _ _ h0)))))

theorem State.mxDrop_keeps : ∀ (a0 : State) a1 a2 a3, State.Keeps p a0 → State.Keeps p (State.mxDrop a0 a1 a2 a3) :=
      by
  intro a0 a1 a2 a3 h0
  unfold State.mxDrop
  exact (keeps_ite (State.setSession_keeps _ _ _ _ h0) (keeps_ite (State.setMark_keeps _ _ _ _ _
      (State.setSession_keeps _ _ _ _ h0)) (keeps_ite (State.setMark_keeps _ _ _ _ _ (State.setSession_keeps _ _ _ _
      h0)) (State.setSession_keeps _ _ _ _ h0))))

theorem State.mxPicture_keeps : ∀ (a0 : State) a1 a2 a3 a4, State.Keeps p a0 → State.Keeps p (State.mxPicture a0 a1
      a2 a3 a4) := by
  intro a0 a1 a2 a3 a4 h0
  unfold State.mxPicture
  exact (State.setMx_keeps _ _ _ (State.mxNote_keeps _ _ _ (State.bumpSeenN_keeps _ _ _ _ _ (State.bump_keeps _ _ _
      (State.setMark_keeps _ _ _ _ _ (State.setSession_keeps _ _ _ _ (State.havocNear_keeps _ _ _ (State.putAll_keeps
      _ _ h0))))))))

theorem State.mxFinish_keeps : ∀ (a0 : State) a1, State.Keeps p a0 → State.Keeps p (State.mxFinish a0 a1) := by
  intro a0 a1 h0
  unfold State.mxFinish
  exact (keeps_ite (State.mxEnd_keeps _ _ _ (State.setMx_keeps _ _ _ (State.setSession_keeps _ _ _ _ h0)))
      (State.mxEnd_keeps _ _ _ h0))

theorem State.mxRun_keeps : ∀ a0 (a1 : State) a2, State.Keeps p a1 → State.Keeps p (State.mxRun a0 a1 a2)
  | 0, v0, v1, h1 => by
    rw [State.mxRun.eq_1]
    exact h1
  | v2 + 1, v0, v1, h1 => by
    rw [State.mxRun.eq_2]
    exact (keeps_ite (keeps_ite (State.registerWait_keeps _ _ _ (State.setMx_keeps _ _ _ h1)) (State.mxEnd_keeps _ _ _ (State.registerWait_keeps _ _ _ (State.setMx_keeps _ _ _ h1)))) (by split; (exact (State.mxFinish_keeps _ _ h1)); (exact (by (try dsimp only); split; (exact (State.setMx_keeps _ _ _ (keeps_foldl (fun x10 x11 h9 => (State.mxDrop_keeps _ _ _ _ h9)) h1))); (exact (State.mxRun_keeps _ _ _ (keeps_foldl (fun x16 x17 h15 => (State.mxShow_keeps _ _ _ _ h15)) (keeps_ite (State.mxPicture_keeps _ _ _ _ _ (State.setMx_keeps _ _ _ (keeps_foldl (fun x19 x20 h18 => (State.mxDrop_keeps _ _ _ _ h18)) h1))) (State.setMx_keeps _ _ _ (keeps_foldl (fun x22 x23 h21 => (State.mxDrop_keeps _ _ _ _ h21)) h1))))))))))

theorem State.awaitRap_keeps : ∀ (a0 : State) a1 a2, State.Keeps p a0 → State.Keeps p (State.awaitRap a0 a1 a2) := by
  intro a0 a1 a2 h0
  unfold State.awaitRap
  exact (State.setSession_keeps _ _ _ _ h0)

theorem State.mxCorrupt_keeps : ∀ (a0 : State) a1 a2, State.Keeps p a0 → State.Keeps p (State.mxCorrupt a0 a1 a2) :=
      by
  intro a0 a1 a2 h0
  unfold State.mxCorrupt
  exact (State.mxEnd_keeps _ _ _ (State.setMx_keeps _ _ _ (State.bumpSeen_keeps _ _ _ _ (State.awaitRap_keeps _ _ _
      h0))))

theorem State.mxBounds_keeps : ∀ (a0 : State) a1, State.Keeps p a0 → State.Keeps p (State.mxBounds a0 a1) := by
  intro a0 a1 h0
  unfold State.mxBounds
  exact (State.mxEnd_keeps _ _ _ (State.setMx_keeps _ _ _ (State.bumpSeen_keeps _ _ _ _ (State.awaitRap_keeps _ _ _
      h0))))

theorem State.mxDecode_keeps : ∀ (a0 : State) a1 a2, State.Keeps p a0 → State.Keeps p (State.mxDecode a0 a1 a2) := by
  intro a0 a1 a2 h0
  unfold State.mxDecode
  exact (keeps_ite (State.mxEnd_keeps _ _ _ (State.awaitRap_keeps _ _ _ (State.readNear_keeps _ _ _ h0))) (keeps_ite
      (State.mxBounds_keeps _ _ (State.setSession_keeps _ _ _ _ (State.readNear_keeps _ _ _ h0))) (keeps_ite
      (State.mxCorrupt_keeps _ _ _ (State.setSession_keeps _ _ _ _ (State.readNear_keeps _ _ _ h0))) (keeps_ite
      (State.mxCorrupt_keeps _ _ _ (State.setSession_keeps _ _ _ _ (State.readNear_keeps _ _ _ h0))) (keeps_ite
      (State.mxCorrupt_keeps _ _ _ (State.setSession_keeps _ _ _ _ (State.readNear_keeps _ _ _ h0)))
      (State.mxRun_keeps _ _ _ (State.setMx_keeps _ _ _ (State.setSession_keeps _ _ _ _ (State.setSession_keeps _ _ _
      _ (State.readNear_keeps _ _ _ h0))))))))))

theorem State.mxFlush_keeps : ∀ (a0 : State) a1 a2, State.Keeps p a0 → State.Keeps p (State.mxFlush a0 a1 a2) := by
  intro a0 a1 a2 h0
  unfold State.mxFlush
  exact (keeps_ite (State.mxEnd_keeps _ _ _ h0) (State.mxRun_keeps _ _ _ (keeps_ite (keeps_foldl (fun x2 x3 h1 =>
      (State.mxShow_keeps _ _ _ _ h1)) h0) (State.setMx_keeps _ _ _ (State.setSession_keeps _ _ _ _ (keeps_foldl (fun
      x5 x6 h4 => (State.mxShow_keeps _ _ _ _ h4)) h0))))))

theorem State.putPatchTile_keeps : ∀ (a0 : State) a1 a2 a3 a4, State.Keeps p a0 → State.Keeps p (State.putPatchTile
      a0 a1 a2 a3 a4) := by
  intro a0 a1 a2 a3 a4 h0
  unfold State.putPatchTile
  exact (State.writeTag_keeps _ _ _ _ _ (keeps_foldl (fun x2 x3 h1 => (State.putRow_keeps _ _ _ _ _ _ h1))
      (State.havocTile_keeps _ _ _ _ h0)))

theorem State.mxBlock_keeps : ∀ (a0 : State) a1, State.Keeps p a0 → State.Keeps p (State.mxBlock a0 a1) := by
  intro a0 a1 h0
  unfold State.mxBlock
  exact (by (try dsimp only); split; (exact h0); (exact (keeps_ite h0 (keeps_ite (State.mxEnd_keeps _ _ _ h0) (keeps_ite (State.mxEnd_keeps _ _ _ h0) (State.mxRun_keeps _ _ _ (State.setMx_keeps _ _ _ (State.setSession_keeps _ _ _ _ (State.signalSem_keeps _ _ (keeps_foldl (fun x8 x9 h7 => (State.putPatchTile_keeps _ _ _ _ _ h7)) h0))))))))))

theorem State.mxParts_keeps : ∀ (a0 : State) a1 a2 a3 a4 a5 a6, State.Keeps p a0 → State.Keeps p (State.mxParts a0 a1
      a2 a3 a4 a5 a6).1
  | v0, v1, v2, v3, v4, [], v5, h0 => by
    rw [State.mxParts.eq_1]
    exact h0
  | v0, v1, v2, v3, v4, v6 :: v7, v5, h0 => by
    rw [State.mxParts.eq_2]
    exact (keeps_ite_fst h0 (State.mxParts_keeps _ _ _ _ _ _ _ (keeps_ite (State.signalSem_keeps _ _
      (State.writeNear_keeps _ _ _ (State.mxNote_keeps _ _ _ (State.writeNear_keeps _ _ _ h0)))) (State.mxNote_keeps
      _ _ _ (State.writeNear_keeps _ _ _ h0)))))

theorem State.mxEncode_keeps : ∀ (a0 : State) a1 a2, State.Keeps p a0 → State.Keeps p (State.mxEncode a0 a1 a2) := by
  intro a0 a1 a2 h0
  unfold State.mxEncode
  exact (keeps_ite (State.mxEnd_keeps _ _ _ h0) (keeps_ite (State.mxEnd_keeps _ _ _ (State.readNear_keeps _ _ _ h0))
      (keeps_ite (State.mxEnd_keeps _ _ _ (keeps_ite_fst (State.mxParts_keeps _ _ _ _ _ _ _ (keeps_ite
      (State.bump_keeps _ _ _ (State.setSession_keeps _ _ _ _ (State.readNear_keeps _ _ _ h0)))
      (State.setSession_keeps _ _ _ _ (State.readNear_keeps _ _ _ h0)))) (keeps_fst (State.havocNear_keeps _ _ _
      (keeps_ite (State.bump_keeps _ _ _ (State.setSession_keeps _ _ _ _ (State.readNear_keeps _ _ _ h0)))
      (State.setSession_keeps _ _ _ _ (State.readNear_keeps _ _ _ h0))))))) (State.mxEnd_keeps _ _ _
      (State.setMx_keeps _ _ _ (State.bump_keeps _ _ _ (State.setSession_keeps _ _ _ _ (State.havocNear_keeps _ _ _
      (State.mxParts_keeps _ _ _ _ _ _ _ (keeps_ite (State.bump_keeps _ _ _ (State.setSession_keeps _ _ _ _
      (State.readNear_keeps _ _ _ h0))) (State.setSession_keeps _ _ _ _ (State.readNear_keeps _ _ _ h0))))))))))))

theorem State.mxCommand_keeps : ∀ (a0 : State) a1 a2, State.Keeps p a0 → State.Keeps p (State.mxCommand a0 a1 a2) := by
  intro a0 a1 a2 h0
  unfold State.mxCommand
  exact (keeps_ite h0 (keeps_ite h0 (keeps_ite (State.mxEnd_keeps _ _ _ (State.setMx_keeps _ _ _ (State.readNear_keeps _ _ _ h0))) (by split; (exact (by split; (exact (State.mxOpen_keeps _ _ _ (State.setMx_keeps _ _ _ (State.readNear_keeps _ _ _ h0)))); (exact (State.mxEnd_keeps _ _ _ (State.setSession_keeps _ _ _ _ (State.setMx_keeps _ _ _ (State.readNear_keeps _ _ _ h0))))); (exact (State.mxDecode_keeps _ _ _ (State.setMx_keeps _ _ _ (State.readNear_keeps _ _ _ h0)))); (exact (State.mxEncode_keeps _ _ _ (State.setMx_keeps _ _ _ (State.readNear_keeps _ _ _ h0)))); (exact (State.mxFlush_keeps _ _ _ (State.setMx_keeps _ _ _ (State.readNear_keeps _ _ _ h0)))))); (exact (State.mxEnd_keeps _ _ _ (State.setMx_keeps _ _ _ (State.readNear_keeps _ _ _ h0))))))))

theorem State.mxRelease_keeps : ∀ (a0 : State) a1 a2, State.Keeps p a0 → State.Keeps p (State.mxRelease a0 a1 a2) := by
  intro a0 a1 a2 h0
  unfold State.mxRelease
  exact (keeps_ite (State.bumpSeen_keeps _ _ _ _ (State.refusedWrite_keeps _ h0)) (by split; (exact (State.setMark_keeps _ _ _ _ _ h0)); (exact (State.setMark_keeps _ _ _ _ _ h0)); (exact (State.bumpSeen_keeps _ _ _ _ h0))))

theorem State.mxAbort_keeps : ∀ (a0 : State) a1, State.Keeps p a0 → State.Keeps p (State.mxAbort a0 a1) := by
  intro a0 a1 h0
  unfold State.mxAbort
  exact (keeps_ite h0 (State.mxEnd_keeps _ _ _ (State.awaitRap_keeps _ _ _ (State.dropWaiter_keeps _ _ h0))))

theorem execOpenSession_keeps : ∀ a0 (a1 : State), State.Keeps p a1 → ∀ t, execOpenSession a0 a1 = .next t →
      State.Keeps p t := by
  intro a0 a1 h1 t ht
  exact keeps_ifUnit ht (State.mxCommand_keeps _ _ _ h1)

theorem execCloseSession_keeps : ∀ a0 (a1 : State), State.Keeps p a1 → ∀ t, execCloseSession a0 a1 = .next t →
      State.Keeps p t := by
  intro a0 a1 h1 t ht
  exact keeps_ifUnit ht (State.mxCommand_keeps _ _ _ h1)

theorem execDecode_keeps : ∀ a0 (a1 : State), State.Keeps p a1 → ∀ t, execDecode a0 a1 = .next t → State.Keeps p t :=
      by
  intro a0 a1 h1 t ht
  exact keeps_ifUnit ht (State.mxCommand_keeps _ _ _ h1)

theorem execEncode_keeps : ∀ a0 (a1 : State), State.Keeps p a1 → ∀ t, execEncode a0 a1 = .next t → State.Keeps p t :=
      by
  intro a0 a1 h1 t ht
  exact keeps_ifUnit ht (State.mxCommand_keeps _ _ _ h1)

theorem execFlush_keeps : ∀ a0 (a1 : State), State.Keeps p a1 → ∀ t, execFlush a0 a1 = .next t → State.Keeps p t := by
  intro a0 a1 h1 t ht
  exact keeps_ifUnit ht (State.mxCommand_keeps _ _ _ h1)

theorem execFrameBufferWaitEnd_keeps : ∀ a0 (a1 : State), State.Keeps p a1 → ∀ t, execFrameBufferWaitEnd a0 a1 =
      .next t → State.Keeps p t := by
  intro a0 a1 h1 t ht
  exact keeps_ifUnit ht (keeps_ite (State.mxRun_keeps _ _ _ h1) h1)

theorem execPatchBlockWrite_keeps : ∀ a0 (a1 : State), State.Keeps p a1 → ∀ t, execPatchBlockWrite a0 a1 = .next t →
      State.Keeps p t := by
  intro a0 a1 h1 t ht
  exact keeps_ifUnit ht (State.mxBlock_keeps _ _ h1)

theorem execMxRelease_keeps : ∀ a0 a1 (a2 : State), State.Keeps p a2 → ∀ t, execMxRelease a0 a1 a2 = .next t →
      State.Keeps p t := by
  intro a0 a1 a2 h2 t ht
  exact keeps_ifUnit ht (State.mxRelease_keeps _ _ _ h2)

theorem execAbort_keeps : ∀ a0 (a1 : State), State.Keeps p a1 → ∀ t, execAbort a0 a1 = .next t → State.Keeps p t := by
  intro a0 a1 h1 t ht
  exact keeps_ifUnit ht (State.mxAbort_keeps _ _ h1)

end Sys2Proof.Machine
end

