-- ==== Sys2Proof/Laws/KeepRegisters.lean ====
section
/-! SUPPORT. What the operations of Machine/Registers.lean keep: for each, if the invariants hold before it with commands `p` waiting, they
hold after it with the same commands waiting. -/

set_option linter.unusedTactic false

namespace Sys2Proof.Machine

variable {p : List Instr}

theorem State.coreRefused_keeps : ∀ (a0 : State) a1 a2, State.Keeps p a0 → State.Keeps p (State.coreRefused a0 a1 a2) := by
  intro a0 a1 a2 h0
  unfold State.coreRefused
  exact (by split; (exact (State.setReg_keeps _ _ _ h0)); (exact (State.bumpSeen_keeps _ _ _ _ h0)); (exact (State.bumpSeen_keeps _ _ _ _ (State.setSwLast_keeps _ _ _ h0))); (exact (State.setFlag_keeps _ _ _ h0)); (exact (State.setReg_keeps _ _ _ (State.setReg_keeps _ _ _ h0))); (exact h0))

theorem State.regRefused_keeps : ∀ (a0 : State) a1, State.Keeps p a0 → State.Keeps p (State.regRefused a0 a1) := by
  intro a0 a1 h0
  unfold State.regRefused
  exact (keeps_ite (State.faultRec_keeps _ _ _ _ (State.refusedWrite_keeps _ h0)) (keeps_ite (State.coreRefused_keeps
      _ _ _ (State.refusedWrite_keeps _ h0)) (keeps_ite (State.bumpSeen_keeps _ _ _ _ (State.refusedWrite_keeps _
      h0)) (keeps_ite (State.setReg_keeps _ _ _ (State.refusedWrite_keeps _ h0)) (State.refusedWrite_keeps _ h0)))))

theorem State.syncCommand_keeps : ∀ (a0 : State) a1, State.Keeps p a0 → State.Keeps p (State.syncCommand a0 a1) := by
  intro a0 a1 h0
  unfold State.syncCommand
  exact (keeps_ite (State.poisonOwned_keeps _ _ h0) (State.regRefused_keeps _ _ h0))

theorem State.coreCommand_keeps : ∀ (a0 : State) a1 a2 a3, State.Keeps p a0 →
    ∀ r, State.coreCommand a0 a1 a2 a3 = some r → State.Keeps p r := by
  intro s core o v h r hr
  unfold State.coreCommand at hr
  split at hr
  · dsimp only at hr
    split at hr
    · exact keeps_some hr (State.queueCommand_keeps _ _ _ _ _ (State.freeWord_keeps _ h))
    · exact keeps_some hr (State.regRefused_keeps _ _ h)
  · exact keeps_some hr (State.doorbell_keeps _ _ _ h)
  · exact keeps_some hr (State.swCommand_keeps _ _ _ h)
  · exact keeps_some hr (keeps_ite (State.flushFtq_keeps _ _ h) h)
  · exact keeps_some hr (keeps_ite (State.clearBufs_keeps _ _ h) h)
  · exact keeps_some hr (keeps_ite (State.askYield_keeps _ _ h) h)
  · exact keeps_some hr (keeps_ite (State.regRefused_keeps _ _ h) (State.maint_keeps _ _ _ _ h))
  · exact keeps_some hr (keeps_ite (State.amoCmd_keeps _ _ _ h) (State.regRefused_keeps _ _ h))
  · cases hr

theorem State.chipCommand_keeps : ∀ (a0 : State) a1 a2 a3, State.Keeps p a0 →
    ∀ r, State.chipCommand a0 a1 a2 a3 = some r → State.Keeps p r := by
  intro s who o v h r hr
  unfold State.chipCommand at hr
  split at hr
  · exact keeps_some hr (State.mailClaim_keeps _ _ _ h)
  split at hr
  · exact keeps_some hr (keeps_ite (State.mailGo_keeps _ _ h) h)
  split at hr
  · exact keeps_some hr (State.syncCommand_keeps _ _ h)
  split at hr
  · exact keeps_some hr (keeps_ite (State.hwmClear_keeps _ h) h)
  split at hr
  · exact keeps_some hr (State.portCtrl_keeps _ _ _ h)
  split at hr
  · exact keeps_some hr (keeps_ite (State.mxAbort_keeps _ _ h) h)
  split at hr
  · exact keeps_some hr (State.mxRelease_keeps _ _ _ h)
  split at hr
  · exact keeps_some hr (State.scCmd_keeps _ _ _ h)
  · cases hr

theorem State.regWrite_keeps : ∀ (a0 : State) a1 a2 a3, State.Keeps p a0 → State.Keeps p (State.regWrite a0 a1 a2 a3) := by
  intro s who o v h
  unfold State.regWrite
  split
  · exact h
  · refine keeps_ite (State.regRefused_keeps _ _ h) ?_
    dsimp only
    split
    · next e =>
      split at e
      · exact State.coreCommand_keeps _ _ _ _ h _ e
      · exact State.chipCommand_keeps _ _ _ _ h _ e
    · exact State.setReg_keeps _ _ _ h

theorem State.regHalf_keeps : ∀ (a0 : State) a1 a2 a3 a4, State.Keeps p a0 → State.Keeps p (State.regHalf a0 a1 a2 a3
      a4) := by
  intro a0 a1 a2 a3 a4 h0
  unfold State.regHalf
  exact (keeps_ite (State.regRefused_keeps _ _ h0) (keeps_ite h0 (State.setReg_keeps _ _ _ h0)))

theorem State.regWrite4_keeps : ∀ (a0 : State) a1 a2 a3, State.Keeps p a0 → State.Keeps p (State.regWrite4 a0 a1 a2 a3) := by
  intro a0 a1 a2 a3 h0
  unfold State.regWrite4
  exact (by split; (exact (keeps_ite (State.regWrite_keeps _ _ _ _ h0) (State.regHalf_keeps _ _ _ _ _ h0))); (exact (State.regWrite_keeps _ _ _ _ h0)); (exact (keeps_ite h0 (State.regHalf_keeps _ _ _ _ _ h0))); (exact h0))

theorem State.objWrite_keeps : ∀ (a0 : State) a1 a2, State.Keeps p a0 → State.Keeps p (State.objWrite a0 a1 a2).1 :=
      by
  intro a0 a1 a2 h0
  unfold State.objWrite
  exact (keeps_ite_fst h0 (keeps_ite_fst (keeps_ite_fst (State.semWord_keeps _ _ _ h0) (State.writeSemCfg_keeps _ _ _
      h0)) (keeps_ite_fst (State.barWord_keeps _ _ _ h0) (keeps_ite_fst (State.writeBarCfg_keeps _ _ _ _ h0) h0))))

theorem State.winWrite_keeps : ∀ (a0 : State) a1 a2 a3, State.Keeps p a0 → State.Keeps p (State.winWrite a0 a1 a2 a3).1 := by
  intro a0 a1 a2 a3 h0
  unfold State.winWrite
  exact (keeps_ite_fst (by (try dsimp only); split; (exact (keeps_fst (State.wordDone_keeps _ _ _ _ (State.objWrite_keeps _ _ _ h0)))); (exact (keeps_fst (keeps_ite (State.objWrite_keeps _ _ _ h0) (State.syncRec_keeps _ _ _ _ (State.objWrite_keeps _ _ _ h0)))))) (keeps_ite_fst (keeps_fst (keeps_mk h0 rfl rfl rfl rfl)) (keeps_ite_fst h0 (keeps_ite_fst (by split; (exact (keeps_ite_fst (keeps_fst (State.regWrite_keeps _ _ _ _ h0)) (keeps_fst (State.regWrite4_keeps _ _ _ _ (State.regWrite4_keeps _ _ _ _ h0))))); (exact (keeps_fst (State.regWrite4_keeps _ _ _ _ h0)))) (keeps_fst (State.regWrite4_keeps _ _ _ _ h0))))))

theorem State.bumpUnreach_keeps : ∀ (a0 : State) a1, State.Keeps p a0 → State.Keeps p (State.bumpUnreach a0 a1) := by
  intro a0 a1 h0
  unfold State.bumpUnreach
  exact (State.setFarPool_keeps _ _ _ h0)

theorem State.seenBump_keeps : ∀ (a0 : State) a1 a2 a3 a4, State.Keeps p a0 → State.Keeps p (State.seenBump a0 a1 a2 a3 a4) := by
  intro a0 a1 a2 a3 a4 h0
  unfold State.seenBump
  exact (by split; (exact (State.bump_keeps _ _ _ h0)); (exact (keeps_ite (State.count_keeps _ _ h0) (keeps_ite (State.setDictNat_keeps _ _ _ _ h0) (keeps_ite (State.bumpUnreach_keeps _ _ h0) (keeps_ite (keeps_mk h0 rfl rfl rfl rfl) (keeps_ite (State.count_keeps _ _ h0) h0)))))))

theorem State.hwSet_keeps : ∀ (a0 : State) a1 a2 a3, State.Keeps p a0 → State.Keeps p (State.hwSet a0 a1 a2 a3) := by
  intro a0 a1 a2 a3 h0
  unfold State.hwSet
  exact (keeps_foldl (fun x2 x3 h1 => (keeps_ite (State.seenBump_keeps _ _ _ _ _ (State.setFlag_keeps _ _ _ h1)) h1))
      h0)

end Sys2Proof.Machine
end

