-- ==== Sys2Proof/Laws/KeepAccess.lean ====
section
/-! SUPPORT. What the operations of Machine/Access.lean keep: for each, if the invariants hold before it with commands `p` waiting, they
hold after it with the same commands waiting. -/

set_option linter.unusedTactic false

namespace Sys2Proof.Machine

variable {p : List Instr}

theorem State.cpLoad_keeps : ∀ (a0 : State) a1 a2 a3, State.Keeps p a0 → State.Keeps p (State.cpLoad a0 a1 a2 a3) := by
  intro a0 a1 a2 a3 h0
  unfold State.cpLoad
  exact (by split; (exact (keeps_ite (State.raise_keeps _ _ _ _ h0) (keeps_ite (State.deliver_keeps _ _ _ (State.cacheRead_keeps _ _ _ _ h0)) (State.accessFault_keeps _ _ _ _ _ (State.cacheRead_keeps _ _ _ _ h0))))); (exact (keeps_ite (State.raise_keeps _ _ _ _ h0) (keeps_ite (State.deliver_keeps _ _ _ (State.readTile_keeps _ _ _ _ h0)) (State.accessFault_keeps _ _ _ _ _ (State.readTile_keeps _ _ _ _ h0))))); (exact (keeps_ite (State.raise_keeps _ _ _ _ h0) (keeps_ite (State.raise_keeps _ _ _ _ h0) (keeps_ite (State.swRead_keeps _ _ _ _ h0) (State.deliver_keeps _ _ _ h0))))); (exact (State.raise_keeps _ _ _ _ h0)))

theorem State.cpStore_keeps : ∀ (a0 : State) a1 a2 a3 a4, State.Keeps p a0 → State.Keeps p (State.cpStore a0 a1 a2 a3 a4) := by
  intro a0 a1 a2 a3 a4 h0
  unfold State.cpStore
  exact (by (try dsimp only); split; (exact (keeps_ite (State.raise_keeps _ _ _ _ h0) (keeps_ite (State.cacheWrite_keeps _ _ _ _ h0) (State.accessFault_keeps _ _ _ _ _ (State.cacheWrite_keeps _ _ _ _ h0))))); (exact (keeps_ite (State.raise_keeps _ _ _ _ h0) (State.putTile_keeps _ _ _ _ h0))); (exact (keeps_ite (State.raise_keeps _ _ _ _ h0) (keeps_ite (State.raise_keeps _ _ _ _ h0) (State.winWrite_keeps _ _ _ _ h0)))); (exact (State.raise_keeps _ _ _ _ h0)))

theorem execCpAccess_keeps : ∀ a0 a1 a2 a3 a4 a5 (a6 : State), State.Keeps p a6 → ∀ t, execCpAccess a0 a1 a2 a3 a4 a5 a6 = .next t → State.Keeps p t := by
  intro a0 a1 a2 a3 a4 a5 a6 h6 t ht
  exact keeps_ifUnit ht (State.byCp_keeps _ _ _ (keeps_foldl (fun x2 x3 h1 => (State.upset_keeps _ _ h1)) h6) (by split; (exact (State.cpLoad_keeps _ _ _ _ (keeps_foldl (fun x6 x7 h5 => (State.upset_keeps _ _ h5)) h6))); (exact (State.cpStore_keeps _ _ _ _ _ (keeps_foldl (fun x10 x11 h9 => (State.upset_keeps _ _ h9)) h6))); (exact (State.deliver_keeps _ _ _ (keeps_foldl (fun x14 x15 h13 => (State.upset_keeps _ _ h13)) h6))); (exact (State.deliver_keeps _ _ _ (keeps_foldl (fun x18 x19 h17 => (State.upset_keeps _ _ h17)) h6)))))

theorem execRegisterWrite_keeps : ∀ a0 a1 a2 (a3 : State), State.Keeps p a3 → ∀ t, execRegisterWrite a0 a1 a2 a3 =
      .next t → State.Keeps p t := by
  intro a0 a1 a2 a3 h3 t ht
  exact keeps_ifUnit ht (keeps_ite (State.winWrite_keeps _ _ _ _ h3) h3)

theorem execW1cClear_keeps : ∀ a0 a1 a2 (a3 : State), State.Keeps p a3 → ∀ t, execW1cClear a0 a1 a2 a3 = .next t → State.Keeps p t := by
  intro off val hwSets s h t ht
  unfold execW1cClear at ht
  split at ht
  · split at ht
    · cases ht
    · exact keeps_next ht (keeps_ite (State.hwSet_keeps _ _ _ _ (State.regWrite_keeps _ _ _ _ h)) h)
  · cases ht

end Sys2Proof.Machine
end

