-- ==== Sys2Proof/Laws/KeepTransfers.lean ====
section
/-! SUPPORT. What the operations of Machine/Transfers.lean keep: for each, if the invariants hold before it with commands `p` waiting, they
hold after it with the same commands waiting. -/

set_option linter.unusedTactic false

namespace Sys2Proof.Machine

variable {p : List Instr}

theorem State.putFb_keeps : ∀ (a0 : State) a1 a2, State.Keeps p a0 → State.Keeps p (State.putFb a0 a1 a2) := by
  intro a0 a1 a2 h0
  unfold State.putFb
  exact (State.putNear_keeps _ _ _ h0)

theorem State.dropDesc_keeps : ∀ (a0 : State) a1, State.Keeps p a0 → State.Keeps p (State.dropDesc a0 a1) := by
  intro a0 a1 h0
  unfold State.dropDesc
  exact (State.setQueue_keeps _ _ _ (keeps_mk (State.endPeers_keeps _ _ h0) rfl rfl rfl rfl))

theorem State.dropBeats_keeps : ∀ (a0 : State) a1, State.Keeps p a0 → State.Keeps p (State.dropBeats a0 a1) := by
  intro a0 a1 h0
  unfold State.dropBeats
  exact (keeps_mk (State.dropRequests_keeps _ _ h0) rfl rfl rfl rfl)

theorem State.countMoved_keeps : ∀ (a0 : State) a1 a2, State.Keeps p a0 → State.Keeps p (State.countMoved a0 a1 a2)
      := by
  intro a0 a1 a2 h0
  unfold State.countMoved
  exact (keeps_foldl (fun x2 x3 h1 => (State.countFar_keeps _ _ _ _ h1)) (keeps_foldl (fun x5 x6 h4 =>
      (State.countFar_keeps _ _ _ _ h4)) (State.bumpCore_keeps _ _ _ _ (keeps_mk h0 rfl rfl rfl rfl))))

theorem State.cutShort_keeps : ∀ (a0 : State) a1, State.Keeps p a0 → State.Keeps p (State.cutShort a0 a1) := by
  intro a0 a1 h0
  unfold State.cutShort
  exact (keeps_ite (State.havocDest_keeps _ _ (State.dropBeats_keeps _ _ (State.countMoved_keeps _ _ _ h0))) h0)

theorem State.fireFallback_keeps : ∀ (a0 : State) a1, State.Keeps p a0 → State.Keeps p (State.fireFallback a0 a1) :=
      by
  intro a0 a1 h0
  unfold State.fireFallback
  exact (keeps_ite (State.deviceResume_keeps _ _ (State.deviceResume_keeps _ _ (State.bumpSeen_keeps _ _ _ _
      (State.putFb_keeps _ _ _ (State.count_keeps _ _ (State.dropDesc_keeps _ _ (State.cutShort_keeps _ _ h0)))))))
      (State.deviceResume_keeps _ _ (State.bumpSeen_keeps _ _ _ _ (State.putFb_keeps _ _ _ (State.count_keeps _ _
      (State.dropDesc_keeps _ _ (State.cutShort_keeps _ _ h0)))))))

theorem State.updDesc_keeps : ∀ (a0 : State) a1 a2, State.Keeps p a0 → State.Keeps p (State.updDesc a0 a1 a2) := by
  intro a0 a1 a2 h0
  unfold State.updDesc
  exact (by split; (exact (State.setDesc_keeps _ _ h0)); (exact h0))

theorem State.descMet_keeps : ∀ (a0 : State) a1 a2, State.Keeps p a0 → State.Keeps p (State.descMet a0 a1 a2) := by
  intro a0 a1 a2 h0
  unfold State.descMet
  exact (State.updDesc_keeps _ _ _ h0)

theorem State.readRow_keeps : ∀ (a0 : State) a1 a2, State.Keeps p a0 → State.Keeps p (State.readRow a0 a1 a2).1 := by
  intro a0 a1 a2 h0
  unfold State.readRow
  exact (by split; (exact (State.readNear_keeps _ _ _ h0)); (exact (State.readTile_keeps _ _ _ _ h0)); (exact h0); (exact (State.tierRead_keeps _ _ _ h0)); (exact h0))

theorem State.writeRow_keeps : ∀ (a0 : State) a1 a2, State.Keeps p a0 → State.Keeps p (State.writeRow a0 a1 a2).1 := by
  intro a0 a1 a2 h0
  unfold State.writeRow
  exact (by split; (exact (State.writeNear_keeps _ _ _ h0)); (exact (keeps_fst (State.putTile_keeps _ _ _ _ h0))); (exact (State.winWrite_keeps _ _ _ _ h0)); (exact (State.tierWrite_keeps _ _ _ h0)); (exact h0))

theorem State.landTag_keeps : ∀ (a0 : State) a1 a2, State.Keeps p a0 → State.Keeps p (State.landTag a0 a1 a2) := by
  intro a0 a1 a2 h0
  unfold State.landTag
  exact (by split; (exact (keeps_ite h0 (State.writeTag_keeps _ _ _ _ _ h0))); (exact h0))

theorem State.landRow_keeps : ∀ (a0 : State) a1 a2 a3, State.Keeps p a0 → State.Keeps p (State.landRow a0 a1 a2 a3).1
      := by
  intro a0 a1 a2 a3 h0
  unfold State.landRow
  exact (keeps_fst (State.landTag_keeps _ _ _ (State.writeRow_keeps _ _ _ h0)))

theorem State.mixTile_keeps : ∀ (a0 : State) a1 a2 a3, State.Keeps p a0 → State.Keeps p (State.mixTile a0 a1 a2 a3)
      := by
  intro a0 a1 a2 a3 h0
  unfold State.mixTile
  exact (keeps_ite h0 (State.putTile_keeps _ _ _ _ (State.freeBytes_keeps _ _ h0)))

theorem State.addHere_keeps : ∀ (a0 : State) a1 a2 a3 a4 a5, State.Keeps p a0 → State.Keeps p (State.addHere a0 a1 a2 a3 a4 a5) := by
  intro a0 a1 a2 a3 a4 a5 h0
  unfold State.addHere
  exact (by split; (exact (State.addArrive_keeps _ _ (by split; (exact (State.touchPage_keeps _ _ h0)); (exact h0)))); (exact (State.completeReq_keeps _ _ _ h0)))

theorem State.sendAdds_keeps : ∀ (a0 : State) a1 a2, State.Keeps p a0 → State.Keeps p (State.sendAdds a0 a1 a2) := by
  intro a0 a1 a2 h0
  unfold State.sendAdds
  exact (keeps_ite (keeps_foldl (fun x2 x3 h1 => (State.addHere_keeps _ _ _ _ _ _ h1)) (State.updDesc_keeps _ _ _
      (keeps_mk h0 rfl rfl rfl rfl))) (keeps_foldl (fun x5 x6 h4 => (keeps_ite (State.updDesc_keeps _ _ _
      (State.request_keeps _ _ _ h4)) (State.descMet_keeps _ _ _ (State.request_keeps _ _ _ h4)))) (keeps_mk h0 rfl
      rfl rfl rfl)))

theorem State.sendBytes_keeps : ∀ (a0 : State) a1 a2 a3 a4, State.Keeps p a0 → State.Keeps p (State.sendBytes a0 a1
      a2 a3 a4) := by
  intro a0 a1 a2 a3 a4 h0
  unfold State.sendBytes
  exact (keeps_ite (State.updDesc_keeps _ _ _ (State.remoteWrite_keeps _ _ _ _ _ h0)) (State.descMet_keeps _ _ _
      (State.updDesc_keeps _ _ _ (State.remoteWrite_keeps _ _ _ _ _ h0))))

theorem State.landAll_keeps : ∀ (a0 : State) a1 a2, State.Keeps p a0 → State.Keeps p (State.landAll a0 a1 a2) := by
  intro a0 a1 a2 h0
  unfold State.landAll
  exact (keeps_ite (State.sendAdds_keeps _ _ _ h0) (keeps_foldl (fun x2 x3 h1 => (keeps_ite (keeps_ite
      (State.writeRow_keeps _ _ _ (State.updDesc_keeps _ _ _ (State.descMet_keeps _ _ _ (State.landRow_keeps _ _ _ _
      h1)))) (State.updDesc_keeps _ _ _ (State.descMet_keeps _ _ _ (State.landRow_keeps _ _ _ _ h1)))) (keeps_ite
      (State.sendBytes_keeps _ _ _ _ _ (State.sendBytes_keeps _ _ _ _ _ h1)) (State.sendBytes_keeps _ _ _ _ _ h1))))
      h0))

theorem State.readSides_keeps : ∀ (a0 : State) a1, State.Keeps p a0 → State.Keeps p (State.readSides a0 a1).1 := by
  intro a0 a1 h0
  unfold State.readSides
  exact (keeps_foldl_fst (fun x1 x2 h3 => (keeps_fst (keeps_ite_fst (State.readRow_keeps _ _ _ (State.readRow_keeps _
      _ _ h3)) (keeps_fst (State.readRow_keeps _ _ _ h3))))) h0)

theorem State.sendReads_keeps : ∀ (a0 : State) a1, State.Keeps p a0 → State.Keeps p (State.sendReads a0 a1) := by
  intro a0 a1 h0
  unfold State.sendReads
  exact (keeps_foldl (fun x2 x3 h1 => (keeps_ite (keeps_ite (State.updDesc_keeps _ _ _ (State.remoteRead_keeps _ _ _
      _ _ (keeps_ite (State.updDesc_keeps _ _ _ (State.remoteRead_keeps _ _ _ _ _ h1)) (State.descMet_keeps _ _ _
      (State.updDesc_keeps _ _ _ (State.remoteRead_keeps _ _ _ _ _ h1)))))) (State.descMet_keeps _ _ _
      (State.updDesc_keeps _ _ _ (State.remoteRead_keeps _ _ _ _ _ (keeps_ite (State.updDesc_keeps _ _ _
      (State.remoteRead_keeps _ _ _ _ _ h1)) (State.descMet_keeps _ _ _ (State.updDesc_keeps _ _ _
      (State.remoteRead_keeps _ _ _ _ _ h1)))))))) (keeps_ite (State.updDesc_keeps _ _ _ (State.remoteRead_keeps _ _
      _ _ _ h1)) (State.descMet_keeps _ _ _ (State.updDesc_keeps _ _ _ (State.remoteRead_keeps _ _ _ _ _ h1)))))) h0)

theorem State.atomicResult_keeps : ∀ (a0 : State) a1 a2 a3, State.Keeps p a0 → State.Keeps p (State.atomicResult a0
      a1 a2 a3) := by
  intro a0 a1 a2 a3 h0
  unfold State.atomicResult
  exact (keeps_ite (State.descMet_keeps _ _ _ h0) (keeps_ite (State.descMet_keeps _ _ _ (State.writeRow_keeps _ _ _
      h0)) h0))

theorem State.atomicHere_keeps : ∀ (a0 : State) a1 a2 a3 a4 a5, State.Keeps p a0 →
    State.Keeps p (State.atomicHere a0 a1 a2 a3 a4 a5).1 := by
  intro s a code home x y h
  unfold State.atomicHere
  split
  · exact h
  · next q _ =>
    dsimp only
    have hr := State.amoAt_keeps s home q code (amoSize code false) x y h
    split
    · generalize hg : State.objOf _ _ = g
      cases g with
      | none => exact hr
      | some n => exact State.bumpWgen_keeps _ _ (State.touchPage_keeps _ _ hr)
    · exact hr

theorem State.bumpWritten_keeps : ∀ (a0 : State) a1, State.Keeps p a0 → State.Keeps p (State.bumpWritten a0 a1) := by
  intro a0 a1 h0
  unfold State.bumpWritten
  exact (keeps_foldl (fun x2 x3 h1 => (State.bumpWgen_keeps _ _ h1)) h0)

theorem State.descMove_keeps : ∀ (a0 : State) a1, State.Keeps p a0 → State.Keeps p (State.descMove a0 a1) := by
  intro a0 a1 h0
  unfold State.descMove
  exact (by (try dsimp only); split; (exact (keeps_ite (State.atomicResult_keeps _ _ _ _ (State.atomicHere_keeps _ _ _ _ _ _ (State.bumpWritten_keeps _ _ (State.translateAll_keeps _ _ _ (State.setDesc_keeps _ _ h0))))) (keeps_ite (State.updDesc_keeps _ _ _ (State.request_keeps _ _ _ (State.bumpWritten_keeps _ _ (State.translateAll_keeps _ _ _ (State.setDesc_keeps _ _ h0))))) (State.descMet_keeps _ _ _ (State.request_keeps _ _ _ (State.bumpWritten_keeps _ _ (State.translateAll_keeps _ _ _ (State.setDesc_keeps _ _ h0)))))))); (exact (State.bumpWritten_keeps _ _ (State.translateAll_keeps _ _ _ (State.setDesc_keeps _ _ h0)))); (exact (keeps_ite (State.landAll_keeps _ _ _ (State.descMet_keeps _ _ _ (State.readSides_keeps _ _ (State.bumpWritten_keeps _ _ (State.translateAll_keeps _ _ _ (State.setDesc_keeps _ _ h0)))))) (State.sendReads_keeps _ _ (State.bumpWritten_keeps _ _ (State.translateAll_keeps _ _ _ (State.setDesc_keeps _ _ h0)))))))

theorem State.descStuck_keeps : ∀ (a0 : State) a1, State.Keeps p a0 → State.Keeps p (State.descStuck a0 a1) := by
  intro a0 a1 h0
  unfold State.descStuck
  exact (keeps_ite (State.fireFallback_keeps _ _ h0) (State.setDesc_keeps _ _ h0))

theorem State.descBegin_keeps : ∀ (a0 : State) a1, State.Keeps p a0 → State.Keeps p (State.descBegin a0 a1) := by
  intro a0 a1 h0
  unfold State.descBegin
  exact (keeps_ite (State.setDesc_keeps _ _ h0) (keeps_ite (State.descStuck_keeps _ _ h0) (keeps_ite
      (State.setDesc_keeps _ _ h0) (State.descMove_keeps _ _ h0))))

theorem State.failCheck_keeps : ∀ (a0 : State) a1 a2 a3, State.Keeps p a0 → State.Keeps p (State.failCheck a0 a1 a2 a3) := by
  intro a0 a1 a2 a3 h0
  unfold State.failCheck
  exact (State.failDesc_keeps _ _ _ (keeps_ite (State.tierFault_keeps _ _ _ _ (by split; (exact (keeps_ite (State.tierFault_keeps _ _ _ _ h0) h0)); (exact h0))) (by split; (exact (keeps_ite (State.tierFault_keeps _ _ _ _ h0) h0)); (exact h0))))

theorem State.descAdmitted_keeps : ∀ (a0 : State) a1, State.Keeps p a0 → State.Keeps p (State.descAdmitted a0 a1) := by
  intro a0 a1 h0
  unfold State.descAdmitted
  exact (by split; (exact (keeps_ite (State.fireFallback_keeps _ _ (State.setDesc_keeps _ _ h0)) (State.descBegin_keeps _ _ (State.setDesc_keeps _ _ h0)))); (exact (State.descBegin_keeps _ _ (State.setDesc_keeps _ _ h0))))

theorem State.descAfter_keeps : ∀ (a0 : State) a1, State.Keeps p a0 → State.Keeps p (State.descAfter a0 a1) := by
  intro a0 a1 h0
  unfold State.descAfter
  exact (keeps_ite (State.failCheck_keeps _ _ _ _ h0) (keeps_ite (State.failCheck_keeps _ _ _ _ h0) (keeps_ite
      (State.failCheck_keeps _ _ _ _ h0) (keeps_ite (State.failCheck_keeps _ _ _ _ h0) (keeps_ite
      (State.failCheck_keeps _ _ _ _ h0) (State.descAdmitted_keeps _ _ (keeps_ite (State.setQueue_keeps _ _ _ h0)
      h0)))))))

theorem State.askPeers_keeps : ∀ (a0 : State) a1 a2, State.Keeps p a0 → State.Keeps p (State.askPeers a0 a1 a2).1 :=
      by
  intro a0 a1 a2 h0
  unfold State.askPeers
  exact (keeps_foldl_fst (fun x1 x2 h3 => (keeps_fst (keeps_ite (State.updDesc_keeps _ _ _ (State.request_keeps _ _ _
      h3)) (State.request_keeps _ _ _ h3)))) h0)

theorem State.descCheck_keeps : ∀ (a0 : State) a1, State.Keeps p a0 → State.Keeps p (State.descCheck a0 a1) := by
  intro a0 a1 h0
  unfold State.descCheck
  exact (keeps_ite (State.failCheck_keeps _ _ _ _ h0) (keeps_ite (State.failCheck_keeps _ _ _ _ h0) (keeps_ite (State.failCheck_keeps _ _ _ _ h0) (by split; (exact (State.descAfter_keeps _ _ h0)); (exact (keeps_ite (State.askPeers_keeps _ _ _ (State.setDesc_keeps _ _ h0)) (State.failDesc_keeps _ _ _ (State.dropBeats_keeps _ _ (State.askPeers_keeps _ _ _ (State.setDesc_keeps _ _ h0))))))))))

theorem State.descReady_keeps : ∀ (a0 : State) a1, State.Keeps p a0 → State.Keeps p (State.descReady a0 a1) := by
  intro a0 a1 h0
  unfold State.descReady
  exact (keeps_ite (State.setDesc_keeps _ _ h0) (State.descCheck_keeps _ _ h0))

theorem State.takeDesc_keeps : ∀ (a0 : State) a1, State.Keeps p a0 → State.Keeps p (State.takeDesc a0 a1) := by
  intro a0 a1 h0
  unfold State.takeDesc
  exact (keeps_ite (State.failDesc_keeps _ _ _ (keeps_mk (State.setQueue_keeps _ _ _ (State.readNear_keeps _ _ _ h0))
      rfl rfl rfl rfl)) (keeps_ite (State.failDesc_keeps _ _ _ (State.registerWait_keeps _ _ _ (keeps_mk
      (State.setQueue_keeps _ _ _ (State.readNear_keeps _ _ _ h0)) rfl rfl rfl rfl))) (State.registerWait_keeps _ _ _
      (keeps_mk (State.setQueue_keeps _ _ _ (State.readNear_keeps _ _ _ h0)) rfl rfl rfl rfl))))

theorem State.descGoOn_keeps : ∀ (a0 : State) a1, State.Keeps p a0 → State.Keeps p (State.descGoOn a0 a1) := by
  intro a0 a1 h0
  unfold State.descGoOn
  exact (by split; (exact (State.descReady_keeps _ _ h0)); (exact (State.descCheck_keeps _ _ h0)); (exact (State.descBegin_keeps _ _ h0)); (exact h0))

theorem State.serveCopy_keeps : ∀ (a0 : State) a1 a2, State.Keeps p a0 → State.Keeps p (State.serveCopy a0 a1 a2) := by
  intro a0 a1 a2 h0
  unfold State.serveCopy
  exact (keeps_ite h0 (by split; (exact (keeps_ite h0 (State.descGoOn_keeps _ _ h0))); (exact (keeps_ite (by (try dsimp only); split; (exact (keeps_ite (State.descGoOn_keeps _ _ (State.takeDesc_keeps _ _ h0)) (State.takeDesc_keeps _ _ h0))); (exact (State.takeDesc_keeps _ _ h0))) h0))))

theorem State.failMoved_keeps : ∀ (a0 : State) a1 a2, State.Keeps p a0 → State.Keeps p (State.failMoved a0 a1 a2) :=
      by
  intro a0 a1 a2 h0
  unfold State.failMoved
  exact (State.failDesc_keeps _ _ _ (State.cutShort_keeps _ _ h0))

theorem State.countLateDesc_keeps : ∀ (a0 : State) a1, State.Keeps p a0 → State.Keeps p (State.countLateDesc a0 a1) := by
  intro a0 a1 h0
  unfold State.countLateDesc
  exact (keeps_ite (by split; (exact h0); (exact (keeps_ite (State.bumpSeen_keeps _ _ _ _ h0) h0))) (by split; (exact h0); (exact (keeps_ite (State.bump_keeps _ _ _ (State.bumpSeen_keeps _ _ _ _ h0)) h0))))

theorem State.finishDesc_keeps : ∀ (a0 : State) a1, State.Keeps p a0 → State.Keeps p (State.finishDesc a0 a1) := by
  intro a0 a1 h0
  unfold State.finishDesc
  exact (keeps_ite (keeps_ite (State.bump_keeps _ _ _ (State.putFb_keeps _ _ _ (State.bumpCore_keeps _ _ _ _
      (State.dropDesc_keeps _ _ (State.countMoved_keeps _ _ _ (keeps_foldl (fun x2 x3 h1 => (State.mixTile_keeps _ _
      _ _ h1)) h0)))))) (State.countLateDesc_keeps _ _ (State.bumpCore_keeps _ _ _ _ (State.dropDesc_keeps _ _
      (State.countMoved_keeps _ _ _ (keeps_foldl (fun x5 x6 h4 => (State.mixTile_keeps _ _ _ _ h4)) h0))))))
      (keeps_ite (State.signalAt_keeps _ _ _ (keeps_ite (State.bump_keeps _ _ _ (State.putFb_keeps _ _ _
      (State.bumpCore_keeps _ _ _ _ (State.dropDesc_keeps _ _ (State.countMoved_keeps _ _ _ (keeps_foldl (fun x8 x9
      h7 => (State.mixTile_keeps _ _ _ _ h7)) h0)))))) (State.countLateDesc_keeps _ _ (State.bumpCore_keeps _ _ _ _
      (State.dropDesc_keeps _ _ (State.countMoved_keeps _ _ _ (keeps_foldl (fun x11 x12 h10 => (State.mixTile_keeps _
      _ _ _ h10)) h0))))))) (State.signalSem_keeps _ _ (keeps_ite (State.bump_keeps _ _ _ (State.putFb_keeps _ _ _
      (State.bumpCore_keeps _ _ _ _ (State.dropDesc_keeps _ _ (State.countMoved_keeps _ _ _ (keeps_foldl (fun x14 x15
      h13 => (State.mixTile_keeps _ _ _ _ h13)) h0)))))) (State.countLateDesc_keeps _ _ (State.bumpCore_keeps _ _ _ _
      (State.dropDesc_keeps _ _ (State.countMoved_keeps _ _ _ (keeps_foldl (fun x17 x18 h16 => (State.mixTile_keeps _
      _ _ _ h16)) h0)))))))))

theorem State.descComplete_keeps : ∀ (a0 : State) a1, State.Keeps p a0 → State.Keeps p (State.descComplete a0 a1) :=
      by
  intro a0 a1 h0
  unfold State.descComplete
  exact (keeps_ite h0 (keeps_ite (State.failMoved_keeps _ _ _ h0) (keeps_ite (State.descStuck_keeps _ _ h0)
      (keeps_ite (State.fireFallback_keeps _ _ h0) (keeps_ite (State.failMoved_keeps _ _ _ h0) (keeps_ite (keeps_ite
      (State.askPeers_keeps _ _ _ h0) (State.failMoved_keeps _ _ _ (State.askPeers_keeps _ _ _ h0)))
      (State.finishDesc_keeps _ _ h0)))))))

theorem State.deadlineReached_keeps : ∀ (a0 : State) a1, State.Keeps p a0 → State.Keeps p (State.deadlineReached a0 a1) := by
  intro a0 a1 h0
  unfold State.deadlineReached
  exact (by split; (exact (keeps_ite (State.fireFallback_keeps _ _ h0) h0)); (exact h0))

theorem State.farTimeout_keeps : ∀ (a0 : State) a1, State.Keeps p a0 → State.Keeps p (State.farTimeout a0 a1) := by
  intro a0 a1 h0
  unfold State.farTimeout
  exact (keeps_ite h0 (keeps_ite (State.descBegin_keeps _ _ h0) (keeps_ite (State.failMoved_keeps _ _ _ h0) h0)))

theorem State.transitEnd_keeps : ∀ (a0 : State) a1, State.Keeps p a0 → State.Keeps p (State.transitEnd a0 a1) := by
  intro a0 a1 h0
  unfold State.transitEnd
  exact (keeps_ite h0 (keeps_ite (State.descBegin_keeps _ _ h0) (State.failCheck_keeps _ _ _ _ h0)))

theorem State.descAck_keeps : ∀ (a0 : State) a1 a2, State.Keeps p a0 → State.Keeps p (State.descAck a0 a1 a2) := by
  intro a0 a1 a2 h0
  unfold State.descAck
  exact (State.updDesc_keeps _ _ _ (State.descMet_keeps _ _ _ h0))

theorem State.descCheckAck_keeps : ∀ (a0 : State) a1 a2, State.Keeps p a0 → State.Keeps p (State.descCheckAck a0 a1 a2) := by
  intro a0 a1 a2 h0
  unfold State.descCheckAck
  exact (by split; (exact h0); (exact (keeps_ite (keeps_ite (State.setDesc_keeps _ _ h0) (State.failMoved_keeps _ _ _ (State.setDesc_keeps _ _ h0))) (keeps_ite (keeps_ite (State.descAfter_keeps _ _ (State.setDesc_keeps _ _ h0)) (State.setDesc_keeps _ _ h0)) (keeps_ite (State.failDesc_keeps _ _ _ (State.dropBeats_keeps _ _ (State.setDesc_keeps _ _ (by split; (exact (keeps_ite (State.tierFault_keeps _ _ _ _ h0) h0)); (exact h0))))) (keeps_ite (State.descAfter_keeps _ _ (State.setDesc_keeps _ _ h0)) (State.setDesc_keeps _ _ h0)))))))

theorem State.descOld_keeps : ∀ (a0 : State) a1 a2 a3, State.Keeps p a0 → State.Keeps p (State.descOld a0 a1 a2 a3) := by
  intro a0 a1 a2 a3 h0
  unfold State.descOld
  exact (by split; (exact (State.atomicResult_keeps _ _ _ _ (State.setDesc_keeps _ _ h0))); (exact h0))

theorem State.descData_keeps : ∀ (a0 : State) a1 a2 a3 a4, State.Keeps p a0 → State.Keeps p (State.descData a0 a1 a2
      a3 a4) := by
  intro a0 a1 a2 a3 a4 h0
  unfold State.descData
  exact (State.updDesc_keeps _ _ _ h0)

theorem State.descReadEnd_keeps : ∀ (a0 : State) a1 a2, State.Keeps p a0 → State.Keeps p (State.descReadEnd a0 a1 a2) := by
  intro a0 a1 a2 h0
  unfold State.descReadEnd
  exact (by (try dsimp only); split; (exact (State.descAck_keeps _ _ _ h0)); (exact (keeps_ite (State.descAck_keeps _ _ _ h0) (State.landAll_keeps _ _ _ (State.descAck_keeps _ _ _ h0)))))

theorem State.failQueue_keeps : ∀ (a0 : State) a1 a2, State.Keeps p a0 → State.Keeps p (State.failQueue a0 a1 a2) := by
  intro a0 a1 a2 h0
  unfold State.failQueue
  exact (State.logEvent_keeps _ _ _ _ _ (State.setReg_keeps _ _ _ (State.lifeAdd_keeps _ _ _ (State.bumpSeen_keeps _ _ _ _ (State.stopQueue_keeps _ _ _ (keeps_foldl (fun x2 x3 h1 => (State.dropDesc_keeps _ _ (State.havocDest_keeps _ _ (State.dropBeats_keeps _ _ (State.dropWaiter_keeps _ _ h1))))) (by split; (exact (State.failDesc_keeps _ _ _ (State.dropWaiter_keeps _ _ h0))); (exact (State.endItem_keeps _ _ _ (State.dropWaiter_keeps _ _ h0))))))))))

theorem State.watchdog_keeps : ∀ a0 (a1 : State), State.Keeps p a1 → State.Keeps p (State.watchdog a0 a1)
  | 0, v0, h1 => by
    rw [State.watchdog.eq_1]
    exact h1
  | v1 + 1, v0, h1 => by
    rw [State.watchdog.eq_2]
    exact (by split; (exact h1); (exact (State.watchdog_keeps _ _ (State.failQueue_keeps _ _ _ h1))))

theorem State.toDesc_keeps : ∀ (a0 : State) a1 a2, State.Keeps p a0 → (∀ z0 z1, State.Keeps p z0 → State.Keeps p (a2 z0 z1)) → State.Keeps p (State.toDesc a0 a1 a2) := by
  intro a0 a1 a2 h0 hf_a2
  unfold State.toDesc
  exact (by split; (exact (hf_a2 _ _ h0)); (exact h0))

theorem execCopy_keeps : ∀ a0 (a1 : State), State.Keeps p a1 → ∀ t, execCopy a0 a1 = .next t → State.Keeps p t := by
  intro a0 a1 h1 t ht
  exact keeps_ifUnit ht (State.serveCopy_keeps _ _ _ h1)

theorem execAdd_keeps : ∀ a0 (a1 : State), State.Keeps p a1 → ∀ t, execAdd a0 a1 = .next t → State.Keeps p t := by
  intro a0 a1 h1 t ht
  exact keeps_ifUnit ht (State.serveCopy_keeps _ _ _ h1)

theorem execAtomic_keeps : ∀ a0 (a1 : State), State.Keeps p a1 → ∀ t, execAtomic a0 a1 = .next t → State.Keeps p t :=
      by
  intro a0 a1 h1 t ht
  exact keeps_ifUnit ht (State.serveCopy_keeps _ _ _ h1)

theorem execSignal_keeps : ∀ a0 (a1 : State), State.Keeps p a1 → ∀ t, execSignal a0 a1 = .next t → State.Keeps p t :=
      by
  intro a0 a1 h1 t ht
  exact keeps_ifUnit ht (State.serveCopy_keeps _ _ _ h1)

theorem execDescriptorComplete_keeps : ∀ a0 (a1 : State), State.Keeps p a1 → ∀ t, execDescriptorComplete a0 a1 =
      .next t → State.Keeps p t := by
  intro a0 a1 h1 t ht
  exact keeps_next ht (State.toDesc_keeps _ _ _ h1 (fun x2 x3 h1 => (State.descComplete_keeps _ _ h1)))

theorem execTransitWaitEnd_keeps : ∀ a0 (a1 : State), State.Keeps p a1 → ∀ t, execTransitWaitEnd a0 a1 = .next t →
      State.Keeps p t := by
  intro a0 a1 h1 t ht
  exact keeps_next ht (State.toDesc_keeps _ _ _ h1 (fun x2 x3 h1 => (State.transitEnd_keeps _ _ h1)))

theorem execFarTimeout_keeps : ∀ a0 (a1 : State), State.Keeps p a1 → ∀ t, execFarTimeout a0 a1 = .next t →
      State.Keeps p t := by
  intro a0 a1 h1 t ht
  exact keeps_next ht (State.toDesc_keeps _ _ _ h1 (fun x2 x3 h1 => (State.farTimeout_keeps _ _ h1)))

theorem execFallbackFire_keeps : ∀ a0 (a1 : State), State.Keeps p a1 → ∀ t, execFallbackFire a0 a1 = .next t →
      State.Keeps p t := by
  intro a0 a1 h1 t ht
  exact keeps_next ht (State.toDesc_keeps _ _ _ h1 (fun x2 x3 h1 => (State.deadlineReached_keeps _ _ h1)))

theorem execWatchdogEval_keeps : ∀ (a0 : State), State.Keeps p a0 → ∀ t, execWatchdogEval a0 = .next t → State.Keeps
      p t := by
  intro a0 h0 t ht
  exact keeps_next ht (State.watchdog_keeps _ _ h0)

end Sys2Proof.Machine
end

