-- ==== Sys2Proof/Laws/KeepPackets.lean ====
section
/-! SUPPORT. What the operations of Machine/Packets.lean keep: for each, if the invariants hold before it with commands `p` waiting, they
hold after it with the same commands waiting. -/

set_option linter.unusedTactic false

namespace Sys2Proof.Machine

variable {p : List Instr}

theorem State.addPlan_keeps : ∀ (a0 : State) a1 a2 a3, State.Keeps p a0 → State.Keeps p (State.addPlan a0 a1 a2 a3)
      := by
  intro a0 a1 a2 a3 h0
  unfold State.addPlan
  exact (keeps_ite (State.someTranslate_keeps _ _ (keeps_mk h0 rfl rfl rfl rfl)) h0)

theorem State.endPlan_keeps : ∀ (a0 : State) a1 a2, State.Keeps p a0 → State.Keeps p (State.endPlan a0 a1 a2) := by
  intro a0 a1 a2 h0
  unfold State.endPlan
  exact (keeps_mk h0 rfl rfl rfl rfl)

theorem State.setPlan_keeps : ∀ (a0 : State) a1 a2, State.Keeps p a0 → State.Keeps p (State.setPlan a0 a1 a2) := by
  intro a0 a1 a2 h0
  unfold State.setPlan
  exact (keeps_mk h0 rfl rfl rfl rfl)

theorem State.planBegin_keeps : ∀ (a0 : State) a1, State.Keeps p a0 → State.Keeps p (State.planBegin a0 a1) := by
  intro a0 a1 h0
  unfold State.planBegin
  exact (keeps_ite h0 (State.bumpWritten_keeps _ _ h0))

theorem State.countPlan_keeps : ∀ (a0 : State) a1 a2 a3, State.Keeps p a0 → State.Keeps p (State.countPlan a0 a1 a2 a3) := by
  intro a0 a1 a2 a3 h0
  unfold State.countPlan
  exact (by split; (exact (State.countFarAll_keeps _ _ _ _ h0)); (exact h0))

theorem State.registerBuffer_keeps : ∀ (a0 : State) a1 a2, State.Keeps p a0 → State.Keeps p (State.registerBuffer a0
      a1 a2).1 := by
  intro a0 a1 a2 h0
  unfold State.registerBuffer
  exact (keeps_ite_fst (keeps_fst (keeps_mk h0 rfl rfl rfl rfl)) h0)

theorem State.serveWrite_keeps : ∀ (a0 : State) a1 a2 a3, State.Keeps p a0 → State.Keeps p (State.serveWrite a0 a1 a2 a3).1 := by
  intro a0 a1 a2 a3 h0
  unfold State.serveWrite
  exact (by split; (exact (keeps_ite_fst (State.writeRow_keeps _ _ _ h0) h0)); (exact (keeps_ite_fst (keeps_ite_fst (State.landRow_keeps _ _ _ _ (State.setPlan_keeps _ _ _ (State.planBegin_keeps _ _ h0))) (keeps_fst (State.setPlan_keeps _ _ _ (State.planBegin_keeps _ _ h0)))) (keeps_fst (keeps_ite (State.landTag_keeps _ _ _ (State.setPlan_keeps _ _ _ (State.countPlan_keeps _ _ _ _ (State.writeRow_keeps _ _ _ (State.planBegin_keeps _ _ h0))))) (State.setPlan_keeps _ _ _ (State.countPlan_keeps _ _ _ _ (State.writeRow_keeps _ _ _ (State.planBegin_keeps _ _ h0)))))))))

theorem State.serveRead_keeps : ∀ (a0 : State) a1 a2 a3, State.Keeps p a0 → State.Keeps p (State.serveRead a0 a1 a2 a3).1 := by
  intro a0 a1 a2 a3 h0
  unfold State.serveRead
  exact (by (try dsimp only); split; (exact (keeps_ite_fst (keeps_ite_fst (State.readRow_keeps _ _ _ h0) (keeps_fst (State.freeBytes_keeps _ _ (State.readRow_keeps _ _ _ h0)))) (keeps_fst (State.freeBytes_keeps _ _ h0)))); (exact (keeps_ite_fst (keeps_fst (State.setPlan_keeps _ _ _ (State.countPlan_keeps _ _ _ _ (State.readRow_keeps _ _ _ h0)))) (keeps_fst (State.freeBytes_keeps _ _ (State.setPlan_keeps _ _ _ (State.countPlan_keeps _ _ _ _ (State.readRow_keeps _ _ _ h0))))))))

theorem State.serveAdd_keeps : ∀ (a0 : State) a1, State.Keeps p a0 → State.Keeps p (State.serveAdd a0 a1) := by
  intro a0 a1 h0
  unfold State.serveAdd
  exact (by (try dsimp only); split; (exact (keeps_ite (State.completeReq_keeps _ _ _ (by split; (exact (State.setPlan_keeps _ _ _ (State.planBegin_keeps _ _ h0))); (exact h0))) (State.addArrive_keeps _ _ (by split; (exact (State.touchPage_keeps _ _ (by split; (exact (State.setPlan_keeps _ _ _ (State.planBegin_keeps _ _ h0))); (exact h0)))); (exact (by split; (exact (State.setPlan_keeps _ _ _ (State.planBegin_keeps _ _ h0))); (exact h0))))))); (exact (State.completeReq_keeps _ _ _ (by split; (exact (State.setPlan_keeps _ _ _ (State.planBegin_keeps _ _ h0))); (exact h0)))))

theorem State.serveAtomic_keeps : ∀ (a0 : State) a1, State.Keeps p a0 → State.Keeps p (State.serveAtomic a0 a1).1 := by
  intro a0 a1 h0
  unfold State.serveAtomic
  exact (keeps_ite_fst (keeps_fst (by (try dsimp only); split; (exact (State.setPlan_keeps _ _ _ h0)); (exact h0))) (keeps_ite_fst (keeps_fst (by (try dsimp only); split; (exact (State.setPlan_keeps _ _ _ h0)); (exact h0))) (State.atomicHere_keeps _ _ _ _ _ _ (by split; (exact (State.setPlan_keeps _ _ _ h0)); (exact h0)))))

theorem State.serveCheck_keeps : ∀ (a0 : State) a1, State.Keeps p a0 → State.Keeps p (State.serveCheck a0 a1).1 := by
  intro a0 a1 h0
  unfold State.serveCheck
  exact (keeps_ite_fst (keeps_ite_fst (keeps_fst (keeps_mk h0 rfl rfl rfl rfl)) (State.registerBuffer_keeps _ _ _
      h0)) (keeps_ite_fst h0 (keeps_ite_fst (keeps_ite_fst h0 (keeps_ite_fst (keeps_fst (State.endPlan_keeps _ _ _
      h0)) (keeps_fst (keeps_ite (State.addPlan_keeps _ _ _ _ h0) h0)))) h0)))

theorem State.answerOld_keeps : ∀ (a0 : State) a1 a2 a3, State.Keeps p a0 → State.Keeps p (State.answerOld a0 a1 a2
      a3) := by
  intro a0 a1 a2 a3 h0
  unfold State.answerOld
  exact (State.sendOn_keeps _ _ h0)

theorem State.hostAnswer_keeps : ∀ (a0 : State) a1 a2, State.Keeps p a0 → State.Keeps p (State.hostAnswer a0 a1 a2)
      := by
  intro a0 a1 a2 h0
  unfold State.hostAnswer
  exact (keeps_mk h0 rfl rfl rfl rfl)

theorem State.hostError_keeps : ∀ (a0 : State) a1 a2, State.Keeps p a0 → State.Keeps p (State.hostError a0 a1 a2) :=
      by
  intro a0 a1 a2 h0
  unfold State.hostError
  exact (State.faultRec_keeps _ _ _ _ (State.count_keeps _ _ (State.bump_keeps _ _ _ h0)))

theorem State.hostReadEnd_keeps : ∀ (a0 : State) a1 a2 a3, State.Keeps p a0 → State.Keeps p (State.hostReadEnd a0 a1
      a2 a3) := by
  intro a0 a1 a2 a3 h0
  unfold State.hostReadEnd
  exact (keeps_ite (State.hostAnswer_keeps _ _ _ (State.bump_keeps _ _ _ h0)) (State.hostAnswer_keeps _ _ _
      (State.count_keeps _ _ h0)))

theorem State.settle_keeps : ∀ (a0 : State) a1 a2 a3 a4, State.Keeps p a0 → State.Keeps p (State.settle a0 a1 a2 a3 a4) := by
  intro a0 a1 a2 a3 a4 h0
  unfold State.settle
  exact (by split; (exact (State.descCheckAck_keeps _ _ _ h0)); (exact (State.descAck_keeps _ _ _ h0)); (exact (State.descAck_keeps _ _ _ h0)); (exact (State.descReadEnd_keeps _ _ _ h0)); (exact (State.descOld_keeps _ _ _ _ h0)); (exact (keeps_ite h0 (State.signalLost_keeps _ _ _ _ h0))); (exact (State.chainAck_keeps _ _ _ _ h0)); (exact (State.chainCheckAck_keeps _ _ _ h0)); (exact (State.claimAck_keeps _ _ _ _ h0)); (exact (State.scAck_keeps _ _ _ _ h0)); (exact (State.scAck_keeps _ _ _ _ h0)); (exact (State.scAck_keeps _ _ _ _ h0)); (exact (State.scAck_keeps _ _ _ _ h0)); (exact h0); (exact (State.hostReadEnd_keeps _ _ _ _ h0)); (exact (keeps_ite h0 (State.hostError_keeps _ _ _ h0))); (exact (keeps_ite h0 (State.dictLost_keeps _ _ _ _ h0))))

theorem State.takeReq_keeps : ∀ (a0 : State) a1 a2, State.Keeps p a0 → State.Keeps p (State.takeReq a0 a1 a2).1 := by
  intro a0 a1 a2 h0
  unfold State.takeReq
  exact (by split; (exact (keeps_fst (keeps_mk h0 rfl rfl rfl rfl))); (exact h0))

theorem State.cmplIn_keeps : ∀ (a0 : State) a1, State.Keeps p a0 → State.Keeps p (State.cmplIn a0 a1) := by
  intro a0 a1 h0
  unfold State.cmplIn
  exact (by (try dsimp only); split; (exact (State.settle_keeps _ _ _ _ _ (State.takeReq_keeps _ _ _ h0))); (exact h0))

theorem State.readDataIn_keeps : ∀ (a0 : State) a1, State.Keeps p a0 → State.Keeps p (State.readDataIn a0 a1) := by
  intro a0 a1 h0
  unfold State.readDataIn
  exact (by split; (exact h0); (exact (by (try dsimp only); split; (exact (by split; (exact (State.takeReq_keeps _ _ _ h0)); (exact (keeps_ite (State.descReadEnd_keeps _ _ _ (State.takeReq_keeps _ _ _ (State.descData_keeps _ _ _ _ _ h0))) (State.descData_keeps _ _ _ _ _ h0))))); (exact (State.hostReadEnd_keeps _ _ _ _ (State.takeReq_keeps _ _ _ h0))); (exact h0))))

theorem State.settleLost_keeps : ∀ (a0 : State), State.Keeps p a0 → State.Keeps p (State.settleLost a0) := by
  intro a0 h0
  unfold State.settleLost
  exact (keeps_foldl (fun x2 x3 h1 => (by split; (exact (State.settle_keeps _ _ _ _ _ (keeps_mk h1 rfl rfl rfl rfl))); (exact h1))) (keeps_mk h0 rfl rfl rfl rfl))

theorem State.barrierIn_keeps : ∀ (a0 : State) a1, State.Keeps p a0 → State.Keeps p (State.barrierIn a0 a1) := by
  intro a0 a1 h0
  unfold State.barrierIn
  exact (by (try dsimp only); split; (exact (State.arrivalAtRoot_keeps _ _ _ _ h0)); (exact (State.treeSend_keeps _ _ _ _ _ _ (keeps_ite (State.releaseAtMember_keeps _ _ _ _ _ h0) h0))); (exact (State.faultMessage_keeps _ _ _ _ h0)); (exact (State.faultMessage_keeps _ _ _ _ h0)))

theorem State.linkAnnounce_keeps : ∀ (a0 : State) a1 a2, State.Keeps p a0 → State.Keeps p (State.linkAnnounce a0 a1
      a2) := by
  intro a0 a1 a2 h0
  unfold State.linkAnnounce
  exact (keeps_ite (State.poolRoutes_keeps _ (State.lostMembers_keeps _ (keeps_mk h0 rfl rfl rfl rfl))) h0)

theorem State.dictIn_keeps : ∀ (a0 : State) a1, State.Keeps p a0 → State.Keeps p (State.dictIn a0 a1) := by
  intro a0 a1 h0
  unfold State.dictIn
  exact (State.handle_keeps _ _ _ _ h0)

theorem State.dictReply_keeps : ∀ (a0 : State) a1, State.Keeps p a0 → State.Keeps p (State.dictReply a0 a1) := by
  intro a0 a1 h0
  unfold State.dictReply
  exact (by (try dsimp only); split; (exact (by split; (exact (State.finish_keeps _ _ _ _ _ (State.takeReq_keeps _ _ _ h0))); (exact h0))); (exact h0))

theorem State.syncIn_keeps : ∀ (a0 : State) a1, State.Keeps p a0 → State.Keeps p (State.syncIn a0 a1) := by
  intro a0 a1 h0
  unfold State.syncIn
  exact (keeps_ite (State.barrierIn_keeps _ _ h0) (keeps_ite (State.linkAnnounce_keeps _ _ _ h0) (keeps_ite
      (State.dictIn_keeps _ _ h0) (keeps_ite (State.dictReply_keeps _ _ h0) h0))))

theorem State.signalIn_keeps : ∀ (a0 : State) a1, State.Keeps p a0 → State.Keeps p (State.signalIn a0 a1) := by
  intro a0 a1 h0
  unfold State.signalIn
  exact (keeps_ite (State.answer_keeps _ _ _ (State.signalSem_keeps _ _ h0)) (State.answer_keeps _ _ _ h0))

theorem State.refuse_keeps : ∀ (a0 : State) a1 a2, State.Keeps p a0 → State.Keeps p (State.refuse a0 a1 a2) := by
  intro a0 a1 a2 h0
  unfold State.refuse
  exact (keeps_ite (State.sendOn_keeps _ _ (State.freeBytes_keeps _ _ h0)) (keeps_ite (State.answer_keeps _ _ _ h0)
      h0))

theorem State.packetServe_keeps : ∀ (a0 : State) a1, State.Keeps p a0 → State.Keeps p (State.packetServe a0 a1) := by
  intro a0 a1 h0
  unfold State.packetServe
  exact (keeps_ite (State.refuse_keeps _ _ _ (State.count_keeps _ _ h0)) (by split; (exact (State.answer_keeps _ _ _ (State.serveWrite_keeps _ _ _ _ h0))); (exact (State.sendOn_keeps _ _ (State.serveRead_keeps _ _ _ _ h0))); (exact (State.readDataIn_keeps _ _ h0)); (exact (State.serveAdd_keeps _ _ h0)); (exact (State.answerOld_keeps _ _ _ _ (State.serveAtomic_keeps _ _ h0))); (exact (State.signalIn_keeps _ _ h0)); (exact (State.answer_keeps _ _ _ (State.serveCheck_keeps _ _ h0))); (exact (State.cmplIn_keeps _ _ h0)); (exact (State.syncIn_keeps _ _ h0)); (exact h0)))

theorem State.packetIn_keeps : ∀ (a0 : State) a1, State.Keeps p a0 → State.Keeps p (State.packetIn a0 a1) := by
  intro a0 a1 h0
  unfold State.packetIn
  exact (by split; (exact (keeps_ite (keeps_mk h0 rfl rfl rfl rfl) (State.packetServe_keeps _ _ h0))); (exact (keeps_ite (keeps_mk h0 rfl rfl rfl rfl) (State.packetServe_keeps _ _ h0))); (exact (keeps_ite (keeps_mk h0 rfl rfl rfl rfl) (State.packetServe_keeps _ _ h0))); (exact (keeps_ite (keeps_mk h0 rfl rfl rfl rfl) (State.packetServe_keeps _ _ h0))); (exact (State.packetServe_keeps _ _ h0)))

theorem State.unpark_keeps : ∀ (a0 : State) a1, State.Keeps p a0 → State.Keeps p (State.unpark a0 a1) := by
  intro a0 a1 h0
  unfold State.unpark
  exact (keeps_ite (State.packetServe_keeps _ _ (keeps_mk h0 rfl rfl rfl rfl)) (keeps_ite (State.bump_keeps _ _ _ h0)
      (keeps_ite (State.refuse_keeps _ _ _ (keeps_mk h0 rfl rfl rfl rfl)) h0)))

theorem State.unparkAll_keeps : ∀ (a0 : State), State.Keeps p a0 → State.Keeps p (State.unparkAll a0) := by
  intro a0 h0
  unfold State.unparkAll
  exact (keeps_foldl (fun x2 x3 h1 => (State.unpark_keeps _ _ h1)) h0)

theorem State.packetArrives_keeps : ∀ (a0 : State) a1 a2, State.Keeps p a0 → State.Keeps p (State.packetArrives a0 a1
      a2) := by
  intro a0 a1 a2 h0
  unfold State.packetArrives
  exact (keeps_ite (State.packetIn_keeps _ _ (State.bump_keeps _ _ _ h0)) (keeps_ite (State.transit_keeps _ _ _
      (State.bump_keeps _ _ _ h0)) (State.answer_keeps _ _ _ (State.transit_keeps _ _ _ (State.bump_keeps _ _ _
      h0)))))

theorem packetRow_keeps : ∀ a0 a1 (a2 : State), State.Keeps p a2 → ∀ t, packetRow a0 a1 a2 = .next t → State.Keeps p
      t := by
  intro a0 a1 a2 h2 t ht
  exact keeps_ifUnit ht (keeps_ite (State.settleLost_keeps _ (State.packetIn_keeps _ _ h2)) h2)

theorem execWritePacket_keeps : ∀ a0 (a1 : State), State.Keeps p a1 → ∀ t, execWritePacket a0 a1 = .next t →
      State.Keeps p t := by
  intro a0 a1 h1 t ht
  exact packetRow_keeps _ _ _ h1 t ht

theorem execRead_keeps : ∀ a0 (a1 : State), State.Keeps p a1 → ∀ t, execRead a0 a1 = .next t → State.Keeps p t := by
  intro a0 a1 h1 t ht
  exact packetRow_keeps _ _ _ h1 t ht

theorem execReadData_keeps : ∀ a0 (a1 : State), State.Keeps p a1 → ∀ t, execReadData a0 a1 = .next t → State.Keeps p
      t := by
  intro a0 a1 h1 t ht
  exact packetRow_keeps _ _ _ h1 t ht

theorem execAddPacket_keeps : ∀ a0 (a1 : State), State.Keeps p a1 → ∀ t, execAddPacket a0 a1 = .next t → State.Keeps
      p t := by
  intro a0 a1 h1 t ht
  exact packetRow_keeps _ _ _ h1 t ht

theorem execAtomicPacket_keeps : ∀ a0 (a1 : State), State.Keeps p a1 → ∀ t, execAtomicPacket a0 a1 = .next t →
      State.Keeps p t := by
  intro a0 a1 h1 t ht
  exact packetRow_keeps _ _ _ h1 t ht

theorem execSignalPacket_keeps : ∀ a0 (a1 : State), State.Keeps p a1 → ∀ t, execSignalPacket a0 a1 = .next t →
      State.Keeps p t := by
  intro a0 a1 h1 t ht
  exact packetRow_keeps _ _ _ h1 t ht

theorem execCheck_keeps : ∀ a0 (a1 : State), State.Keeps p a1 → ∀ t, execCheck a0 a1 = .next t → State.Keeps p t := by
  intro a0 a1 h1 t ht
  exact packetRow_keeps _ _ _ h1 t ht

theorem execCmpl_keeps : ∀ a0 (a1 : State), State.Keeps p a1 → ∀ t, execCmpl a0 a1 = .next t → State.Keeps p t := by
  intro a0 a1 h1 t ht
  exact packetRow_keeps _ _ _ h1 t ht

theorem State.hostRequest_keeps : ∀ (a0 : State) a1 a2 a3 a4, State.Keeps p a0 → State.Keeps p (State.hostRequest a0
      a1 a2 a3 a4) := by
  intro a0 a1 a2 a3 a4 h0
  unfold State.hostRequest
  exact (keeps_ite (State.hostAnswer_keeps _ _ _ h0) (keeps_ite (keeps_ite (keeps_ite (keeps_ite_fst
      (State.writeRow_keeps _ _ _ (State.bump_keeps _ _ _ h0)) (keeps_fst (State.bump_keeps _ _ _ h0)))
      (State.hostError_keeps _ _ _ (keeps_ite_fst (State.writeRow_keeps _ _ _ (State.bump_keeps _ _ _ h0)) (keeps_fst
      (State.bump_keeps _ _ _ h0))))) (keeps_ite (State.request_keeps _ _ _ (State.bump_keeps _ _ _ h0))
      (State.hostError_keeps _ _ _ (State.request_keeps _ _ _ (State.bump_keeps _ _ _ h0))))) (keeps_ite
      (State.hostReadEnd_keeps _ _ _ _ (keeps_ite_fst (State.readRow_keeps _ _ _ h0) h0)) (keeps_ite
      (State.request_keeps _ _ _ h0) (State.hostReadEnd_keeps _ _ _ _ (State.request_keeps _ _ _ h0))))))

theorem execHostApertureRequest_keeps : ∀ a0 a1 a2 a3 (a4 : State), State.Keeps p a4 → ∀ t, execHostApertureRequest
      a0 a1 a2 a3 a4 = .next t → State.Keeps p t := by
  intro a0 a1 a2 a3 a4 h4 t ht
  exact keeps_ifUnit ht (keeps_ite (State.settleLost_keeps _ (State.hostRequest_keeps _ _ _ _ _ h4)) h4)

theorem State.cfgRead_keeps : ∀ (a0 : State) a1, State.Keeps p a0 → State.Keeps p (State.cfgRead a0 a1).1 := by
  intro a0 a1 h0
  unfold State.cfgRead
  exact (by (try dsimp only); split; (exact h0); (exact h0); (exact h0); (exact h0); (exact h0); (exact h0); (exact h0); (exact h0); (exact (keeps_fst (State.freeWord_keeps _ h0))))

theorem State.cfgWrite_keeps : ∀ (a0 : State) a1 a2, State.Keeps p a0 → State.Keeps p (State.cfgWrite a0 a1 a2) := by
  intro a0 a1 a2 h0
  unfold State.cfgWrite
  exact (keeps_ite (State.poolRoutes_keeps _ (keeps_mk h0 rfl rfl rfl rfl)) (keeps_ite (keeps_mk h0 rfl rfl rfl rfl)
      h0))

theorem State.cfgRequest_keeps : ∀ (a0 : State) a1 a2 a3, State.Keeps p a0 → State.Keeps p (State.cfgRequest a0 a1 a2
      a3) := by
  intro a0 a1 a2 a3 h0
  unfold State.cfgRequest
  exact (keeps_ite (State.hostAnswer_keeps _ _ _ h0) (keeps_ite (State.hostAnswer_keeps _ _ _ (State.cfgWrite_keeps _
      _ _ h0)) (State.hostAnswer_keeps _ _ _ (State.cfgRead_keeps _ _ h0))))

theorem execPcieConfigRequest_keeps : ∀ a0 a1 a2 (a3 : State), State.Keeps p a3 → ∀ t, execPcieConfigRequest a0 a1 a2
      a3 = .next t → State.Keeps p t := by
  intro a0 a1 a2 a3 h3 t ht
  exact keeps_ifUnit ht (keeps_ite (State.cfgRequest_keeps _ _ _ _ h3) h3)

theorem State.clearFunction_keeps : ∀ (a0 : State), State.Keeps p a0 → State.Keeps p (State.clearFunction a0) := by
  intro a0 h0
  unfold State.clearFunction
  exact (State.poolRoutes_keeps _ (keeps_mk (keeps_foldl (fun x2 x3 h1 => (State.setDictNat_keeps _ _ _ _
      (State.setDictNat_keeps _ _ _ _ h1))) h0) rfl rfl rfl rfl))

theorem execFlr_keeps : ∀ (a0 : State), State.Keeps p a0 → ∀ t, execFlr a0 = .next t → State.Keeps p t := by
  intro a0 h0 t ht
  exact keeps_next ht (keeps_ite (State.clearFunction_keeps _ h0) h0)

theorem execPerstN_keeps : ∀ (a0 : State), State.Keeps p a0 → ∀ t, execPerstN a0 = .next t → State.Keeps p t := by
  intro a0 h0 t ht
  exact keeps_next ht (keeps_ite (State.poolRoutes_keeps _ (keeps_mk (keeps_mk h0 rfl rfl rfl rfl) rfl rfl rfl rfl))
      (keeps_mk h0 rfl rfl rfl rfl))

theorem execPerstNRelease_keeps : ∀ (a0 : State), State.Keeps p a0 → ∀ t, execPerstNRelease a0 = .next t →
      State.Keeps p t := by
  intro a0 h0 t ht
  exact keeps_next ht (keeps_ite (keeps_mk (State.freeWord_keeps _ (keeps_mk h0 rfl rfl rfl rfl)) rfl rfl rfl rfl)
      (keeps_mk h0 rfl rfl rfl rfl))

end Sys2Proof.Machine
end

