-- ==== Sys2Proof/Laws/KeepLinks.lean ====
section
/-! SUPPORT. What the operations of Machine/Links.lean keep: for each, if the invariants hold before it with commands `p` waiting, they
hold after it with the same commands waiting. -/

set_option linter.unusedTactic false

namespace Sys2Proof.Machine

variable {p : List Instr}

theorem State.nakGap_keeps : ∀ (a0 : State) a1, State.Keeps p a0 → State.Keeps p (State.nakGap a0 a1) := by
  intro a0 a1 h0
  unfold State.nakGap
  exact (State.setPort_keeps _ _ _ h0)

theorem State.dataFlit_keeps : ∀ (a0 : State) a1 a2 a3 a4 a5 a6 a7, State.Keeps p a0 → State.Keeps p (State.dataFlit
      a0 a1 a2 a3 a4 a5 a6 a7) := by
  intro a0 a1 a2 a3 a4 a5 a6 a7 h0
  unfold State.dataFlit
  exact (keeps_ite (State.nakGap_keeps _ _ (State.badFlit_keeps _ _ h0)) (keeps_ite (State.nakGap_keeps _ _ h0)
      (State.settleLost_keeps _ (keeps_foldl (fun x2 x3 h1 => (State.packetArrives_keeps _ _ _ h1))
      (State.ackPort_keeps _ _ _ _ _ (State.setPort_keeps _ _ _ h0))))))

theorem State.plainFlit_keeps : ∀ (a0 : State) a1 a2 a3 a4 a5, State.Keeps p a0 → State.Keeps p (State.plainFlit a0
      a1 a2 a3 a4 a5) := by
  intro a0 a1 a2 a3 a4 a5 h0
  unfold State.plainFlit
  exact (keeps_ite (State.ackPort_keeps _ _ _ _ _ h0) (State.badFlit_keeps _ _ h0))

theorem State.nakFlit_keeps : ∀ (a0 : State) a1 a2 a3 a4 a5 a6, State.Keeps p a0 → State.Keeps p (State.nakFlit a0 a1
      a2 a3 a4 a5 a6) := by
  intro a0 a1 a2 a3 a4 a5 a6 h0
  unfold State.nakFlit
  exact (keeps_ite (State.goBack_keeps _ _ (State.ackPort_keeps _ _ _ _ _ (State.ackPort_keeps _ _ _ _ _ h0)))
      (State.badFlit_keeps _ _ h0))

theorem execDataFlit_keeps : ∀ a0 a1 a2 a3 a4 a5 a6 a7 a8 a9 (a10 : State), State.Keeps p a10 → ∀ t, execDataFlit a0
      a1 a2 a3 a4 a5 a6 a7 a8 a9 a10 = .next t → State.Keeps p t := by
  intro a0 a1 a2 a3 a4 a5 a6 a7 a8 a9 a10 h10 t ht
  exact keeps_ifUnit ht (keeps_ite (State.dataFlit_keeps _ _ _ _ _ _ _ _ (State.fecReport_keeps _ _ _ _ h10)) h10)

theorem execIdleFlit_keeps : ∀ a0 a1 a2 a3 a4 a5 a6 (a7 : State), State.Keeps p a7 → ∀ t, execIdleFlit a0 a1 a2 a3 a4
      a5 a6 a7 = .next t → State.Keeps p t := by
  intro a0 a1 a2 a3 a4 a5 a6 a7 h7 t ht
  exact keeps_ifUnit ht (keeps_ite (State.plainFlit_keeps _ _ _ _ _ _ (State.fecReport_keeps _ _ _ _ h7)) h7)

theorem execNak_keeps : ∀ a0 a1 a2 a3 a4 a5 a6 a7 (a8 : State), State.Keeps p a8 → ∀ t, execNak a0 a1 a2 a3 a4 a5 a6
      a7 a8 = .next t → State.Keeps p t := by
  intro a0 a1 a2 a3 a4 a5 a6 a7 a8 h8 t ht
  exact keeps_ifUnit ht (keeps_ite (State.nakFlit_keeps _ _ _ _ _ _ _ (State.fecReport_keeps _ _ _ _ h8)) h8)

theorem execReplayTimeout_keeps : ∀ a0 (a1 : State), State.Keeps p a1 → ∀ t, execReplayTimeout a0 a1 = .next t →
      State.Keeps p t := by
  intro a0 a1 h1 t ht
  exact keeps_ifUnit ht (keeps_ite (State.goBack_keeps _ _ h1) h1)

theorem execTrainingPhaseTimeout_keeps : ∀ a0 (a1 : State), State.Keeps p a1 → ∀ t, execTrainingPhaseTimeout a0 a1 =
      .next t → State.Keeps p t := by
  intro a0 a1 h1 t ht
  exact keeps_ifUnit ht (keeps_ite h1 (State.settleLost_keeps _ (State.trainFail_keeps _ _ h1)))

theorem execTrainingEnd_keeps : ∀ a0 a1 (a2 : State), State.Keeps p a2 → ∀ t, execTrainingEnd a0 a1 a2 = .next t →
      State.Keeps p t := by
  intro a0 a1 a2 h2 t ht
  exact keeps_ifUnit ht (keeps_ite h2 (State.settleLost_keeps _ (State.trainEnd_keeps _ _ _ h2)))

theorem execLaneSerExceed_keeps : ∀ a0 a1 (a2 : State), State.Keeps p a2 → ∀ t, execLaneSerExceed a0 a1 a2 = .next t
      → State.Keeps p t := by
  intro a0 a1 a2 h2 t ht
  exact keeps_ifUnit ht (keeps_ite (State.startFast_keeps _ _ h2) h2)

theorem execDownRetry_keeps : ∀ a0 (a1 : State), State.Keeps p a1 → ∀ t, execDownRetry a0 a1 = .next t → State.Keeps p t := by
  intro a0 a1 h1 t ht
  exact keeps_ifUnit ht (by split; (exact (keeps_ite (State.startFull_keeps _ _ (State.setPort_keeps _ _ _ h1)) h1)); (exact h1))

theorem execIdent_keeps : ∀ a0 a1 a2 a3 (a4 : State), State.Keeps p a4 → ∀ t, execIdent a0 a1 a2 a3 a4 = .next t →
      State.Keeps p t := by
  intro a0 a1 a2 a3 a4 h4 t ht
  exact keeps_ifUnit ht (State.settleLost_keeps _ (State.identIn_keeps _ _ _ _ _ h4))

theorem execHoldoverEntry_keeps : ∀ (a0 : State), State.Keeps p a0 → ∀ t, execHoldoverEntry a0 = .next t →
      State.Keeps p t := by
  intro a0 h0 t ht
  exact keeps_next ht (keeps_ite (State.holdover_keeps _ h0) h0)

theorem State.timeAsk_keeps : ∀ (a0 : State), State.Keeps p a0 → State.Keeps p (State.timeAsk a0) := by
  intro a0 h0
  unfold State.timeAsk
  exact (by (try dsimp only); split; (exact (keeps_ite (keeps_mk h0 rfl rfl rfl rfl) h0)); (exact h0))

theorem execTimeExchange_keeps : ∀ (a0 : State), State.Keeps p a0 → ∀ t, execTimeExchange a0 = .next t → State.Keeps
      p t := by
  intro a0 h0 t ht
  exact keeps_next ht (keeps_ite (State.timeAsk_keeps _ h0) h0)

theorem execTimeFlit_keeps : ∀ a0 a1 a2 a3 a4 a5 a6 a7 (a8 : State), State.Keeps p a8 → ∀ t, execTimeFlit a0 a1 a2 a3
      a4 a5 a6 a7 a8 = .next t → State.Keeps p t := by
  intro a0 a1 a2 a3 a4 a5 a6 a7 a8 h8 t ht
  exact keeps_ifUnit ht (keeps_ite h8 (keeps_ite (State.timeReply_keeps _ _ _ _ _ _ _ _ h8) (keeps_mk h8 rfl rfl rfl
      rfl)))

theorem execPpsEdge_keeps : ∀ (a0 : State), State.Keeps p a0 → ∀ t, execPpsEdge a0 = .next t → State.Keeps p t := by
  intro a0 h0 t ht
  exact keeps_next ht (keeps_ite (State.ppsEdge_keeps _ h0) h0)

theorem execLinkStateAnnounce_keeps : ∀ a0 a1 (a2 : State), State.Keeps p a2 → ∀ t, execLinkStateAnnounce a0 a1 a2 =
      .next t → State.Keeps p t := by
  intro a0 a1 a2 h2 t ht
  exact keeps_ifUnit ht (State.linkAnnounce_keeps _ _ _ h2)

theorem portRow_keeps : ∀ a0 (a1 : State) (a2 : State), State.Keeps p a1 → State.Keeps p a2 → ∀ t, portRow a0 a1 a2 =
      .next t → State.Keeps p t := by
  intro a0 a1 a2 h1 h2 t ht
  exact keeps_ifUnit ht (keeps_ite (State.settleLost_keeps _ h2) h1)

theorem execReident_keeps : ∀ a0 (a1 : State), State.Keeps p a1 → ∀ t, execReident a0 a1 = .next t → State.Keeps p t
      := by
  intro a0 a1 h1 t ht
  exact portRow_keeps _ _ _ h1 (State.portReident_keeps _ _ h1) t ht

theorem execPortRetrain_keeps : ∀ a0 (a1 : State), State.Keeps p a1 → ∀ t, execPortRetrain a0 a1 = .next t →
      State.Keeps p t := by
  intro a0 a1 h1 t ht
  exact portRow_keeps _ _ _ h1 (State.portRetrain_keeps _ _ h1) t ht

theorem execPortDisable_keeps : ∀ a0 (a1 : State), State.Keeps p a1 → ∀ t, execPortDisable a0 a1 = .next t →
      State.Keeps p t := by
  intro a0 a1 h1 t ht
  exact portRow_keeps _ _ _ h1 (State.portDisable_keeps _ _ h1) t ht

theorem execPortDisableComplete_keeps : ∀ a0 (a1 : State), State.Keeps p a1 → ∀ t, execPortDisableComplete a0 a1 =
      .next t → State.Keeps p t := by
  intro a0 a1 h1 t ht
  exact portRow_keeps _ _ _ h1 (State.portDisabled_keeps _ _ h1) t ht

theorem execPortEnable_keeps : ∀ a0 (a1 : State), State.Keeps p a1 → ∀ t, execPortEnable a0 a1 = .next t →
      State.Keeps p t := by
  intro a0 a1 h1 t ht
  exact portRow_keeps _ _ _ h1 (State.portEnable_keeps _ _ h1) t ht

end Sys2Proof.Machine
end

