-- ==== Sys2Proof/Laws/KeepPower.lean ====
section
/-! SUPPORT. What the operations of Machine/Power.lean keep: for each, if the invariants hold before it with commands `p` waiting, they
hold after it with the same commands waiting. -/

set_option linter.unusedTactic false

namespace Sys2Proof.Machine

variable {p : List Instr}

theorem State.giveGrant_keeps : ∀ (a0 : State) a1 a2, State.Keeps p a0 → State.Keeps p (State.giveGrant a0 a1 a2) :=
      by
  intro a0 a1 a2 h0
  unfold State.giveGrant
  exact (keeps_mk (State.setReg_keeps _ _ _ h0) rfl rfl rfl rfl)

theorem State.chooseClocks_keeps : ∀ (a0 : State), State.Keeps p a0 → State.Keeps p (State.chooseClocks a0) := by
  intro a0 h0
  unfold State.chooseClocks
  exact (keeps_mk h0 rfl rfl rfl rfl)

theorem State.thermAtBoundary_keeps : ∀ (a0 : State), State.Keeps p a0 → State.Keeps p (State.thermAtBoundary a0) := by
  intro a0 h0
  unfold State.thermAtBoundary
  exact (by split; (exact (keeps_mk h0 rfl rfl rfl rfl)); (exact h0))

theorem State.countEnergy_keeps : ∀ (a0 : State) a1, State.Keeps p a0 → State.Keeps p (State.countEnergy a0 a1) := by
  intro a0 a1 h0
  unfold State.countEnergy
  exact (State.lifeMax_keeps _ _ _ (State.lifeAdd_keeps _ _ _ (keeps_mk h0 rfl rfl rfl rfl)))

theorem State.windowBoundary_keeps : ∀ (a0 : State) a1 a2, State.Keeps p a0 → State.Keeps p (State.windowBoundary a0
      a1 a2) := by
  intro a0 a1 a2 h0
  unfold State.windowBoundary
  exact (keeps_ite h0 (State.countEnergy_keeps _ _ (State.chooseClocks_keeps _ (keeps_mk (keeps_foldl (fun x2 x3 h1
      => (State.giveGrant_keeps _ _ _ h1)) (State.setReg_keeps _ _ _ (State.setReg_keeps _ _ _ (keeps_mk
      (State.thermAtBoundary_keeps _ h0) rfl rfl rfl rfl)))) rfl rfl rfl rfl))))

theorem State.clockSwitch_keeps : ∀ (a0 : State) a1, State.Keeps p a0 → State.Keeps p (State.clockSwitch a0 a1) := by
  intro a0 a1 h0
  unfold State.clockSwitch
  exact (keeps_ite h0 (State.bumpCore_keeps _ _ _ _ (keeps_mk (keeps_mk h0 rfl rfl rfl rfl) rfl rfl rfl rfl)))

theorem State.countGauze_keeps : ∀ (a0 : State) (a1 : State), State.Keeps p a0 → State.Keeps p a1 → State.Keeps p
      (State.countGauze a0 a1) := by
  intro a0 a1 h0 h1
  unfold State.countGauze
  exact (State.bumpSeenN_keeps _ _ _ _ _ h0)

theorem State.dieHot_keeps : ∀ (a0 : State) a1, State.Keeps p a0 → State.Keeps p (State.dieHot a0 a1) := by
  intro a0 a1 h0
  unfold State.dieHot
  exact (keeps_mk (keeps_ite (State.lifeAdd_keeps _ _ _ (State.bumpSeen_keeps _ _ _ _ h0)) h0) rfl rfl rfl rfl)

theorem State.dieCool_keeps : ∀ (a0 : State) a1, State.Keeps p a0 → State.Keeps p (State.dieCool a0 a1) := by
  intro a0 a1 h0
  unfold State.dieCool
  exact (keeps_ite (keeps_mk h0 rfl rfl rfl rfl) (keeps_mk h0 rfl rfl rfl rfl))

theorem State.adjustDie_keeps : ∀ (a0 : State) a1 a2, State.Keeps p a0 → State.Keeps p (State.adjustDie a0 a1 a2) :=
      by
  intro a0 a1 a2 h0
  unfold State.adjustDie
  exact (keeps_ite (keeps_ite (State.dieHot_keeps _ _ (State.lifeMax_keeps _ _ _ (State.setReg_keeps _ _ _ h0)))
      (keeps_ite (State.lifeMax_keeps _ _ _ (State.setReg_keeps _ _ _ h0)) (State.lifeAdd_keeps _ _ _ (keeps_mk
      (State.lifeMax_keeps _ _ _ (State.setReg_keeps _ _ _ h0)) rfl rfl rfl rfl)))) (keeps_ite (keeps_ite
      (State.dieCool_keeps _ _ (State.lifeMax_keeps _ _ _ (State.setReg_keeps _ _ _ h0))) (keeps_mk
      (State.lifeMax_keeps _ _ _ (State.setReg_keeps _ _ _ h0)) rfl rfl rfl rfl)) (State.lifeMax_keeps _ _ _
      (State.setReg_keeps _ _ _ h0))))

theorem State.thermalAdjust_keeps : ∀ (a0 : State) a1, State.Keeps p a0 → State.Keeps p (State.thermalAdjust a0 a1) := by
  intro a0 a1 h0
  unfold State.thermalAdjust
  exact (keeps_ite (keeps_mk h0 rfl rfl rfl rfl) (by (try dsimp only); split; (exact (State.trip_keeps _ _ _ (keeps_mk (State.countGauze_keeps _ _ (keeps_foldl (fun x5 x6 h4 => (State.adjustDie_keeps _ _ _ h4)) (keeps_mk h0 rfl rfl rfl rfl)) h0) rfl rfl rfl rfl))); (exact (keeps_mk (State.countGauze_keeps _ _ (keeps_foldl (fun x10 x11 h9 => (State.adjustDie_keeps _ _ _ h9)) (keeps_mk h0 rfl rfl rfl rfl)) h0) rfl rfl rfl rfl))))

theorem State.thermAssert_keeps : ∀ (a0 : State), State.Keeps p a0 → State.Keeps p (State.thermAssert a0) := by
  intro a0 h0
  unfold State.thermAssert
  exact (keeps_ite (keeps_mk h0 rfl rfl rfl rfl) (State.countGauze_keeps _ _ (State.lifeAdd_keeps _ _ _
      (State.bumpSeen_keeps _ _ _ _ (keeps_ite (keeps_mk (keeps_mk (keeps_mk h0 rfl rfl rfl rfl) rfl rfl rfl rfl) rfl
      rfl rfl rfl) (keeps_mk (keeps_mk h0 rfl rfl rfl rfl) rfl rfl rfl rfl)))) (keeps_mk h0 rfl rfl rfl rfl)))

theorem State.thermRelease_keeps : ∀ (a0 : State), State.Keeps p a0 → State.Keeps p (State.thermRelease a0) := by
  intro a0 h0
  unfold State.thermRelease
  exact (keeps_ite (keeps_mk (keeps_mk h0 rfl rfl rfl rfl) rfl rfl rfl rfl) (keeps_mk h0 rfl rfl rfl rfl))

theorem State.thermStuck_keeps : ∀ (a0 : State), State.Keeps p a0 → State.Keeps p (State.thermStuck a0) := by
  intro a0 h0
  unfold State.thermStuck
  exact (keeps_ite (State.bumpSeen_keeps _ _ _ _ (keeps_mk h0 rfl rfl rfl rfl)) (keeps_mk h0 rfl rfl rfl rfl))

theorem State.overcurrent_keeps : ∀ (a0 : State), State.Keeps p a0 → State.Keeps p (State.overcurrent a0) := by
  intro a0 h0
  unfold State.overcurrent
  exact (keeps_ite h0 (State.lifeAdd_keeps _ _ _ (State.bumpSeen_keeps _ _ _ _ (keeps_mk h0 rfl rfl rfl rfl))))

theorem State.overcurrentEnd_keeps : ∀ (a0 : State), State.Keeps p a0 → State.Keeps p (State.overcurrentEnd a0) := by
  intro a0 h0
  unfold State.overcurrentEnd
  exact (by split; (exact (keeps_ite (keeps_mk h0 rfl rfl rfl rfl) h0)); (exact h0))

theorem State.undervoltage_keeps : ∀ (a0 : State), State.Keeps p a0 → State.Keeps p (State.undervoltage a0) := by
  intro a0 h0
  unfold State.undervoltage
  exact (keeps_ite h0 (State.lifeAdd_keeps _ _ _ (State.bumpSeen_keeps _ _ _ _ (keeps_mk h0 rfl rfl rfl rfl))))

theorem State.lifeMin_keeps : ∀ (a0 : State) a1 a2, State.Keeps p a0 → State.Keeps p (State.lifeMin a0 a1 a2) := by
  intro a0 a1 a2 h0
  unfold State.lifeMin
  exact (keeps_ite (State.setLife_keeps _ _ _ h0) h0)

theorem State.telemetry_keeps : ∀ (a0 : State) a1 a2 a3 a4, State.Keeps p a0 → State.Keeps p (State.telemetry a0 a1
      a2 a3 a4) := by
  intro a0 a1 a2 a3 a4 h0
  unfold State.telemetry
  exact (keeps_ite h0 (keeps_ite (keeps_mk (State.lifeMax_keeps _ _ _ (State.lifeMin_keeps _ _ _ (keeps_foldl (fun x2
      x3 h1 => (State.setDictNat_keeps _ _ _ _ h1)) (keeps_ite h0 (keeps_mk h0 rfl rfl rfl rfl))))) rfl rfl rfl rfl)
      (State.lifeMax_keeps _ _ _ (State.lifeMin_keeps _ _ _ (keeps_foldl (fun x5 x6 h4 => (State.setDictNat_keeps _ _
      _ _ h4)) (keeps_ite h0 (keeps_mk h0 rfl rfl rfl rfl)))))))

theorem State.stackTrip_keeps : ∀ (a0 : State) a1, State.Keeps p a0 → State.Keeps p (State.stackTrip a0 a1) := by
  intro a0 a1 h0
  unfold State.stackTrip
  exact (State.trip_keeps _ _ _ (keeps_ite h0 (State.lifeAdd_keeps _ _ _ (State.setFlag_keeps _ _ _ h0))))

theorem State.stackTemp_keeps : ∀ (a0 : State) a1 a2, State.Keeps p a0 → State.Keeps p (State.stackTemp a0 a1 a2) :=
      by
  intro a0 a1 a2 h0
  unfold State.stackTemp
  exact (keeps_ite (State.stackTrip_keeps _ _ (keeps_ite (keeps_ite (keeps_ite (State.setFlag_keeps _ _ _
      (State.lifeMax_keeps _ _ _ (State.setReg_keeps _ _ _ h0))) (State.clearFlag_keeps _ _ _ (State.lifeMax_keeps _
      _ _ (State.setReg_keeps _ _ _ h0)))) (State.lifeAdd_keeps _ _ _ (State.setFlag_keeps _ _ _ (keeps_ite
      (State.setFlag_keeps _ _ _ (State.lifeMax_keeps _ _ _ (State.setReg_keeps _ _ _ h0))) (State.clearFlag_keeps _
      _ _ (State.lifeMax_keeps _ _ _ (State.setReg_keeps _ _ _ h0))))))) (keeps_ite (State.clearFlag_keeps _ _ _
      (keeps_ite (State.setFlag_keeps _ _ _ (State.lifeMax_keeps _ _ _ (State.setReg_keeps _ _ _ h0)))
      (State.clearFlag_keeps _ _ _ (State.lifeMax_keeps _ _ _ (State.setReg_keeps _ _ _ h0))))) (keeps_ite
      (State.setFlag_keeps _ _ _ (State.lifeMax_keeps _ _ _ (State.setReg_keeps _ _ _ h0))) (State.clearFlag_keeps _
      _ _ (State.lifeMax_keeps _ _ _ (State.setReg_keeps _ _ _ h0))))))) (keeps_ite (keeps_ite (keeps_ite
      (State.setFlag_keeps _ _ _ (State.lifeMax_keeps _ _ _ (State.setReg_keeps _ _ _ h0))) (State.clearFlag_keeps _
      _ _ (State.lifeMax_keeps _ _ _ (State.setReg_keeps _ _ _ h0)))) (State.lifeAdd_keeps _ _ _ (State.setFlag_keeps
      _ _ _ (keeps_ite (State.setFlag_keeps _ _ _ (State.lifeMax_keeps _ _ _ (State.setReg_keeps _ _ _ h0)))
      (State.clearFlag_keeps _ _ _ (State.lifeMax_keeps _ _ _ (State.setReg_keeps _ _ _ h0))))))) (keeps_ite
      (State.clearFlag_keeps _ _ _ (keeps_ite (State.setFlag_keeps _ _ _ (State.lifeMax_keeps _ _ _
      (State.setReg_keeps _ _ _ h0))) (State.clearFlag_keeps _ _ _ (State.lifeMax_keeps _ _ _ (State.setReg_keeps _ _
      _ h0))))) (keeps_ite (State.setFlag_keeps _ _ _ (State.lifeMax_keeps _ _ _ (State.setReg_keeps _ _ _ h0)))
      (State.clearFlag_keeps _ _ _ (State.lifeMax_keeps _ _ _ (State.setReg_keeps _ _ _ h0)))))))

theorem execWindowBoundary_keeps : ∀ a0 a1 (a2 : State), State.Keeps p a2 → ∀ t, execWindowBoundary a0 a1 a2 = .next
      t → State.Keeps p t := by
  intro a0 a1 a2 h2 t ht
  exact keeps_next ht (State.windowBoundary_keeps _ _ _ h2)

theorem execClockSwitch_keeps : ∀ a0 (a1 : State), State.Keeps p a1 → ∀ t, execClockSwitch a0 a1 = .next t →
      State.Keeps p t := by
  intro a0 a1 h1 t ht
  exact keeps_ifUnit ht (State.clockSwitch_keeps _ _ h1)

theorem execThermalAdjust_keeps : ∀ a0 (a1 : State), State.Keeps p a1 → ∀ t, execThermalAdjust a0 a1 = .next t →
      State.Keeps p t := by
  intro a0 a1 h1 t ht
  exact keeps_ifUnit ht (State.thermalAdjust_keeps _ _ h1)

theorem execThermalTrip_keeps : ∀ a0 a1 (a2 : State), State.Keeps p a2 → ∀ t, execThermalTrip a0 a1 a2 = .next t →
      State.Keeps p t := by
  intro a0 a1 a2 h2 t ht
  exact keeps_ifUnit ht (keeps_ite (State.trip_keeps _ _ _ h2) (keeps_ite h2 (State.stackTrip_keeps _ _ h2)))

theorem execThermNAssert_keeps : ∀ (a0 : State), State.Keeps p a0 → ∀ t, execThermNAssert a0 = .next t → State.Keeps
      p t := by
  intro a0 h0 t ht
  exact keeps_next ht (State.thermAssert_keeps _ h0)

theorem execThermNRelease_keeps : ∀ (a0 : State), State.Keeps p a0 → ∀ t, execThermNRelease a0 = .next t →
      State.Keeps p t := by
  intro a0 h0 t ht
  exact keeps_next ht (State.thermRelease_keeps _ h0)

theorem execThermNStuck_keeps : ∀ (a0 : State), State.Keeps p a0 → ∀ t, execThermNStuck a0 = .next t → State.Keeps p
      t := by
  intro a0 h0 t ht
  exact keeps_next ht (State.thermStuck_keeps _ h0)

theorem execOvercurrentWarning_keeps : ∀ (a0 : State), State.Keeps p a0 → ∀ t, execOvercurrentWarning a0 = .next t →
      State.Keeps p t := by
  intro a0 h0 t ht
  exact keeps_next ht (State.overcurrent_keeps _ h0)

theorem execOvercurrentCapEnd_keeps : ∀ (a0 : State), State.Keeps p a0 → ∀ t, execOvercurrentCapEnd a0 = .next t →
      State.Keeps p t := by
  intro a0 h0 t ht
  exact keeps_next ht (State.overcurrentEnd_keeps _ h0)

theorem execUndervoltageWarning_keeps : ∀ (a0 : State), State.Keeps p a0 → ∀ t, execUndervoltageWarning a0 = .next t
      → State.Keeps p t := by
  intro a0 h0 t ht
  exact keeps_next ht (State.undervoltage_keeps _ h0)

theorem execRegulatorFault_keeps : ∀ (a0 : State), State.Keeps p a0 → ∀ t, execRegulatorFault a0 = .next t →
      State.Keeps p t := by
  intro a0 h0 t ht
  exact keeps_next ht (State.regulatorFault_keeps _ h0)

theorem execPmbusTelemetry_keeps : ∀ a0 a1 a2 a3 (a4 : State), State.Keeps p a4 → ∀ t, execPmbusTelemetry a0 a1 a2 a3
      a4 = .next t → State.Keeps p t := by
  intro a0 a1 a2 a3 a4 h4 t ht
  exact keeps_next ht (State.telemetry_keeps _ _ _ _ _ h4)

theorem execStackTempSample_keeps : ∀ a0 a1 (a2 : State), State.Keeps p a2 → ∀ t, execStackTempSample a0 a1 a2 =
      .next t → State.Keeps p t := by
  intro a0 a1 a2 h2 t ht
  exact keeps_ifUnit ht (keeps_ite h2 (State.stackTemp_keeps _ _ _ h2))

end Sys2Proof.Machine
end

