-- ==== Sys2Proof/Laws/KeepTick.lean ====
section
/-! SUPPORT. What the operations of Machine/Tick.lean keep: for each, if the invariants hold before it with commands `p` waiting, they
hold after it with the same commands waiting. -/

set_option linter.unusedTactic false

namespace Sys2Proof.Machine

variable {p : List Instr}

theorem State.tickTime_keeps : ∀ (a0 : State), State.Keeps p a0 → State.Keeps p (State.tickTime a0) := by
  intro s h
  exact ⟨⟨h.inv.near, h.inv.tile, Nat.mod_lt _ (by decide), h.inv.log, h.inv.dbgLog, h.inv.txnTable⟩, h.pending⟩

theorem State.tickSlew_keeps : ∀ (a0 : State) a1, State.Keeps p a0 → State.Keeps p (State.tickSlew a0 a1) := by
  intro a0 a1 h0
  unfold State.tickSlew
  exact (keeps_ite h0 (keeps_ite (keeps_mk h0 rfl rfl rfl rfl) (keeps_ite h0 (keeps_mk h0 rfl rfl rfl rfl))))

theorem State.tickIf_keeps : ∀ (a0 : State) a1 a2 a3, State.Keeps p a0 → State.Keeps p (State.tickIf a0 a1 a2 a3) :=
      by
  intro a0 a1 a2 a3 h0
  unfold State.tickIf
  exact (keeps_ite (State.bumpCore_keeps _ _ _ _ h0) h0)

theorem State.tickCore_keeps : ∀ (a0 : State) a1, State.Keeps p a0 → State.Keeps p (State.tickCore a0 a1) := by
  intro a0 a1 h0
  unfold State.tickCore
  exact (keeps_foldl (fun x2 x3 h1 => (State.tickIf_keeps _ _ _ _ h1)) h0)

theorem State.tickQueue_keeps : ∀ (a0 : State) a1, State.Keeps p a0 → State.Keeps p (State.tickQueue a0 a1) := by
  intro a0 a1 h0
  unfold State.tickQueue
  exact (keeps_ite (State.stall_keeps _ _ _ (keeps_ite h0 (State.stall_keeps _ _ _ h0))) (keeps_ite h0
      (State.stall_keeps _ _ _ h0)))

theorem State.tickPort_keeps : ∀ (a0 : State) a1, State.Keeps p a0 → State.Keeps p (State.tickPort a0 a1) := by
  intro a0 a1 h0
  unfold State.tickPort
  exact (by (try dsimp only); split; (exact (keeps_ite (State.bump_keeps _ _ _ h0) h0)); (exact h0))

theorem State.tickGauze_keeps : ∀ (a0 : State) a1, State.Keeps p a0 → State.Keeps p (State.tickGauze a0 a1) := by
  intro a0 a1 h0
  unfold State.tickGauze
  exact (keeps_ite h0 (keeps_ite (State.lifeAdd_keeps _ _ _ (State.bump_keeps _ _ _ h0)) (State.bump_keeps _ _ _ h0)))

theorem State.tickStack_keeps : ∀ (a0 : State) a1, State.Keeps p a0 → State.Keeps p (State.tickStack a0 a1) := by
  intro a0 a1 h0
  unfold State.tickStack
  exact (keeps_ite (State.bump_keeps _ _ _ h0) h0)

theorem State.tickMedia_keeps : ∀ (a0 : State) a1, State.Keeps p a0 → State.Keeps p (State.tickMedia a0 a1) := by
  intro a0 a1 h0
  unfold State.tickMedia
  exact (by split; (exact h0); (exact (State.bump_keeps _ _ _ h0)); (exact (State.bump_keeps _ _ _ h0)))

theorem State.tickCounts_keeps : ∀ (a0 : State), State.Keeps p a0 → State.Keeps p (State.tickCounts a0) := by
  intro a0 h0
  unfold State.tickCounts
  exact (State.bump_keeps _ _ _ (keeps_foldl (fun x2 x3 h1 => (State.tickMedia_keeps _ _ h1)) (keeps_foldl (fun x5 x6
      h4 => (State.tickStack_keeps _ _ h4)) (keeps_foldl (fun x8 x9 h7 => (State.tickGauze_keeps _ _ h7))
      (keeps_foldl (fun x11 x12 h10 => (State.tickPort_keeps _ _ h10)) (keeps_foldl (fun x14 x15 h13 =>
      (State.tickQueue_keeps _ _ h13)) (keeps_foldl (fun x17 x18 h16 => (State.tickCore_keeps _ _ h16)) h0)))))))

theorem State.tick_keeps : ∀ (a0 : State), State.Keeps p a0 → State.Keeps p (State.tick a0) := by
  intro a0 h0
  unfold State.tick
  exact (keeps_ite (State.tickCounts_keeps _ (State.unparkAll_keeps _ (State.settleLost_keeps _ (State.tickSlew_keeps
      _ _ (State.tickTime_keeps _ (keeps_foldl (fun x2 x3 h1 => (State.noteFold_keeps _ _ h1)) h0))))))
      (State.tickSlew_keeps _ _ (State.tickTime_keeps _ (keeps_foldl (fun x5 x6 h4 => (State.noteFold_keeps _ _ h4))
      h0))))

end Sys2Proof.Machine
end

