-- ==== Sys2Proof/Laws/KeepExec.lean ====
section
/-! SUPPORT. What exec keeps: the invariants and the commands that wait, for every command. -/

namespace Sys2Proof.Machine

variable {p : List Instr}

/-- Every command that answers a next state keeps the invariants and leaves the queue of waiting commands as it was. -/
theorem exec_keeps (i : Instr) (s t : State) (h : State.Keeps p s) (ht : exec i s = .next t) : State.Keeps p t := by
  cases i with
  | registerWrite off size val => exact execRegisterWrite_keeps _ _ _ _ h t ht
  | w1cClear off val hwSets => exact execW1cClear_keeps _ _ _ _ h t ht
  | cpAccess core op addr size val ups => exact execCpAccess_keeps _ _ _ _ _ _ _ h t ht
  | rv64aAmo core code wide addr val => exact execRv64aAmo_keeps _ _ _ _ _ _ h t ht
  | lr core addr size => exact execLr_keeps _ _ _ _ h t ht
  | sc core addr size val => exact execSc_keeps _ _ _ _ _ h t ht
  | holdoverEntry => exact execHoldoverEntry_keeps _ h t ht
  | coreFence core => exact execCoreFence_keeps _ _ h t ht
  | mmaStart q => exact execMmaStart_keeps _ _ h t ht
  | mmaContinue q => exact execMmaContinue_keeps _ _ h t ht
  | mmaFinish q => exact execMmaFinish_keeps _ _ h t ht
  | matrixSave q => exact execMatrixSave_keeps _ _ h t ht
  | matrixRestore q => exact execMatrixRestore_keeps _ _ h t ht
  | ftqFlush core => exact execFtqFlush_keeps _ _ h t ht
  | epi q => exact execEpi_keeps _ _ h t ht
  | binary q => exact execBinary_keeps _ _ h t ht
  | statP1 q => exact execStatP1_keeps _ _ h t ht
  | statP2 q => exact execStatP2_keeps _ _ h t ht
  | smaxAcc q => exact execSmaxAcc_keeps _ _ h t ht
  | smaxNorm q => exact execSmaxNorm_keeps _ _ h t ht
  | norm q => exact execNorm_keeps _ _ h t ht
  | permute q => exact execPermute_keeps _ _ h t ht
  | shuffle q => exact execShuffle_keeps _ _ h t ht
  | convert q => exact execConvert_keeps _ _ h t ht
  | loadTable q => exact execLoadTable_keeps _ _ h t ht
  | bufClear core => exact execBufClear_keeps _ _ h t ht
  | fwd q n => exact execFwd_keeps _ _ _ h t ht
  | recomp q n => exact execRecomp_keeps _ _ _ h t ht
  | bwdQ q n => exact execBwdQ_keeps _ _ _ h t ht
  | bwdKv q n => exact execBwdKv_keeps _ _ _ h t ht
  | append q => exact execAppend_keeps _ _ h t ht
  | prefetch q => exact execPrefetch_keeps _ _ h t ht
  | release q => exact execRelease_keeps _ _ h t ht
  | yield core => exact execYield_keeps _ _ h t ht
  | pageSpillComplete pool frame => exact execPageSpillComplete_keeps _ _ _ h t ht
  | useByExpiry pool frame => exact execUseByExpiry_keeps _ _ _ h t ht
  | seqSlotWrite slot val => exact execSeqSlotWrite_keeps _ _ _ h t ht
  | poolWrite pool val => exact execPoolWrite_keeps _ _ _ h t ht
  | ccClean core => exact execCcClean_keeps _ _ h t ht
  | ccInvalidate core => exact execCcInvalidate_keeps _ _ h t ht
  | ccCleanInvalidate core => exact execCcCleanInvalidate_keeps _ _ h t ht
  | amoIntegerAdd core wide => exact execAmoIntegerAdd_keeps _ _ _ h t ht
  | amoSignedMinimum core wide => exact execAmoSignedMinimum_keeps _ _ _ h t ht
  | amoSignedMaximum core wide => exact execAmoSignedMaximum_keeps _ _ _ h t ht
  | amoUnsignedMinimum core wide => exact execAmoUnsignedMinimum_keeps _ _ _ h t ht
  | amoUnsignedMaximum core wide => exact execAmoUnsignedMaximum_keeps _ _ _ h t ht
  | amoSwap core wide => exact execAmoSwap_keeps _ _ _ h t ht
  | amoCompareAndSwap core wide => exact execAmoCompareAndSwap_keeps _ _ _ h t ht
  | amoFp32Add core => exact execAmoFp32Add_keeps _ _ h t ht
  | amoFp32Minimum core => exact execAmoFp32Minimum_keeps _ _ h t ht
  | amoFp32Maximum core => exact execAmoFp32Maximum_keeps _ _ h t ht
  | amoResultRead core => exact execAmoResultRead_keeps _ _ h t ht
  | burstCrcFail addr resends burst => exact execBurstCrcFail_keeps _ _ _ _ h t ht
  | odecReport stack corrections => exact execOdecReport_keeps _ _ _ h t ht
  | scrubRead addr ups => exact execScrubRead_keeps _ _ _ h t ht
  | addRequest r => exact execAddRequest_keeps _ _ h t ht
  | addResend ix => exact execAddResend_keeps _ _ h t ht
  | writebackResend core ix => exact execWritebackResend_keeps _ _ _ h t ht
  | stackTempSample stack temp => exact execStackTempSample_keeps _ _ _ h t ht
  | create => exact execCreate_keeps _ h t ht
  | free => exact execFree_keeps _ h t ht
  | migrate => exact execMigrate_keeps _ h t ht
  | place => exact execPlace_keeps _ h t ht
  | bump => exact execBump_keeps _ h t ht
  | transitWaitEnd desc => exact execTransitWaitEnd_keeps _ _ h t ht
  | farPoolWrite pool val => exact execFarPoolWrite_keeps _ _ _ h t ht
  | reachableLoss pool peerReset => exact execReachableLoss_keeps _ _ _ h t ht
  | reachableRestore pool => exact execReachableRestore_keeps _ _ h t ht
  | farTimeout desc => exact execFarTimeout_keeps _ _ h t ht
  | fallbackFire desc => exact execFallbackFire_keeps _ _ h t ht
  | hwmClear => exact execHwmClear_keeps _ h t ht
  | tierEnable => exact execTierEnable_keeps _ h t ht
  | enable core q neighbourAdmits => exact execEnable_keeps _ _ _ _ h t ht
  | disable core q => exact execDisable_keeps _ _ _ h t ht
  | pause core q => exact execPause_keeps _ _ _ h t ht
  | resume core q => exact execResume_keeps _ _ _ h t ht
  | setEpoch core q => exact execSetEpoch_keeps _ _ _ h t ht
  | pauseCtx core => exact execPauseCtx_keeps _ _ h t ht
  | resumeCtx core => exact execResumeCtx_keeps _ _ h t ht
  | flushStats core => exact execFlushStats_keeps _ _ h t ht
  | qDoorbell core val => exact execQDoorbell_keeps _ _ _ h t ht
  | doorbellHeldApply q => exact execDoorbellHeldApply_keeps _ _ h t ht
  | copy q => exact execCopy_keeps _ _ h t ht
  | add q => exact execAdd_keeps _ _ h t ht
  | atomic q => exact execAtomic_keeps _ _ h t ht
  | signal q => exact execSignal_keeps _ _ h t ht
  | descriptorComplete desc => exact execDescriptorComplete_keeps _ _ h t ht
  | stallFlush die => exact execStallFlush_keeps _ _ h t ht
  | watchdogEval => exact execWatchdogEval_keeps _ h t ht
  | semSignal core sem n => exact execSemSignal_keeps _ _ _ _ h t ht
  | decrement core sem n => exact execDecrement_keeps _ _ _ _ h t ht
  | semInit core sem n thr => exact execSemInit_keeps _ _ _ _ _ h t ht
  | semFree core sem => exact execSemFree_keeps _ _ _ h t ht
  | arrive core bar part => exact execArrive_keeps _ _ _ _ h t ht
  | barInit core bar => exact execBarInit_keeps _ _ _ h t ht
  | barFree core bar => exact execBarFree_keeps _ _ _ h t ht
  | fabricArrival bar chip round => exact execFabricArrival_keeps _ _ _ _ h t ht
  | fabricRelease bar rootChip round => exact execFabricRelease_keeps _ _ _ _ h t ht
  | fabricFaultMessage bar rootChip poison => exact execFabricFaultMessage_keeps _ _ _ _ h t ht
  | semaphoreWait core sem n consume => exact execSemaphoreWait_keeps _ _ _ _ _ h t ht
  | swArrive core bar part => exact execSwArrive_keeps _ _ _ _ h t ht
  | swWait core bar round => exact execSwWait_keeps _ _ _ _ h t ht
  | arriveWait core bar part => exact execArriveWait_keeps _ _ _ _ h t ht
  | swTimeout core => exact execSwTimeout_keeps _ _ h t ht
  | swResultRead core => exact execSwResultRead_keeps _ _ h t ht
  | set source => exact execSet_keeps _ _ h t ht
  | complete source => exact execComplete_keeps _ _ h t ht
  | manualRelease source => exact execManualRelease_keeps _ _ h t ht
  | manualFree source => exact execManualFree_keeps _ _ h t ht
  | poisonCtx ctx => exact execPoisonCtx_keeps _ _ h t ht
  | opt q => exact execOpt_keeps _ _ h t ht
  | blockReread q => exact execBlockReread_keeps _ _ h t ht
  | chain q => exact execChain_keeps _ _ h t ht
  | chainDecision core => exact execChainDecision_keeps _ _ h t ht
  | chainHeaderArrival core bytes => exact execChainHeaderArrival_keeps _ _ _ h t ht
  | chainChunkArrival core bytes => exact execChainChunkArrival_keeps _ _ _ h t ht
  | chainTrailerArrival core bytes => exact execChainTrailerArrival_keeps _ _ _ h t ht
  | lateCopy core => exact execLateCopy_keeps _ _ h t ht
  | graceEnd core => exact execGraceEnd_keeps _ _ h t ht
  | lateFold core => exact execLateFold_keeps _ _ h t ht
  | dataFlit port wire corrected uncorrectable seq ack vc crVc credits pkts => exact execDataFlit_keeps _ _ _ _ _ _ _ _ _ _ _ h t ht
  | idleFlit port wire corrected uncorrectable ack crVc credits => exact execIdleFlit_keeps _ _ _ _ _ _ _ _ h t ht
  | nak port wire corrected uncorrectable expected ack crVc credits => exact execNak_keeps _ _ _ _ _ _ _ _ _ h t ht
  | replayTimeout port => exact execReplayTimeout_keeps _ _ h t ht
  | trainingPhaseTimeout port => exact execTrainingPhaseTimeout_keeps _ _ h t ht
  | trainingEnd port found => exact execTrainingEnd_keeps _ _ _ h t ht
  | laneSerExceed port lane => exact execLaneSerExceed_keeps _ _ _ h t ht
  | downRetry port => exact execDownRetry_keeps _ _ h t ht
  | ident port version chip peerPort => exact execIdent_keeps _ _ _ _ _ h t ht
  | timeExchange => exact execTimeExchange_keeps _ h t ht
  | timeFlit port reply valid holdover errBound t1 t2 t3 => exact execTimeFlit_keeps _ _ _ _ _ _ _ _ _ h t ht
  | ppsEdge => exact execPpsEdge_keeps _ h t ht
  | linkStateAnnounce chip up => exact execLinkStateAnnounce_keeps _ _ _ h t ht
  | writePacket p => exact execWritePacket_keeps _ _ h t ht
  | read p => exact execRead_keeps _ _ h t ht
  | readData p => exact execReadData_keeps _ _ h t ht
  | addPacket p => exact execAddPacket_keeps _ _ h t ht
  | atomicPacket p => exact execAtomicPacket_keeps _ _ h t ht
  | signalPacket p => exact execSignalPacket_keeps _ _ h t ht
  | check p => exact execCheck_keeps _ _ h t ht
  | cmpl p => exact execCmpl_keeps _ _ h t ht
  | hostApertureRequest isWrite off len data => exact execHostApertureRequest_keeps _ _ _ _ _ h t ht
  | pcieConfigRequest isWrite off val => exact execPcieConfigRequest_keeps _ _ _ _ h t ht
  | perstN => exact execPerstN_keeps _ h t ht
  | flr => exact execFlr_keeps _ h t ht
  | reident port => exact execReident_keeps _ _ h t ht
  | portRetrain port => exact execPortRetrain_keeps _ _ h t ht
  | portDisable port => exact execPortDisable_keeps _ _ h t ht
  | portDisableComplete port => exact execPortDisableComplete_keeps _ _ h t ht
  | portEnable port => exact execPortEnable_keeps _ _ h t ht
  | snap eng cmd => exact execSnap_keeps _ _ _ h t ht
  | snapStart eng => exact execSnapStart_keeps _ _ h t ht
  | scRestore eng cmd remote => exact execScRestore_keeps _ _ _ _ h t ht
  | scCheck eng cmd remote => exact execScCheck_keeps _ _ _ _ h t ht
  | dramBankCopyEnd ch die bank => exact execDramBankCopyEnd_keeps _ _ _ _ h t ht
  | retireLoad role bytes => exact execRetireLoad_keeps _ _ _ h t ht
  | lifeSaveNow role => exact execLifeSaveNow_keeps _ _ h t ht
  | lifetimeSave => exact execLifetimeSave_keeps _ h t ht
  | openSession eng => exact execOpenSession_keeps _ _ h t ht
  | closeSession eng => exact execCloseSession_keeps _ _ h t ht
  | decode eng => exact execDecode_keeps _ _ h t ht
  | encode eng => exact execEncode_keeps _ _ h t ht
  | flush eng => exact execFlush_keeps _ _ h t ht
  | frameBufferWaitEnd eng => exact execFrameBufferWaitEnd_keeps _ _ h t ht
  | patchBlockWrite eng => exact execPatchBlockWrite_keeps _ _ h t ht
  | mxRelease eng val => exact execMxRelease_keeps _ _ _ h t ht
  | abort eng => exact execAbort_keeps _ _ h t ht
  | windowBoundary measured uncore => exact execWindowBoundary_keeps _ _ _ h t ht
  | pmbusTelemetry uncoreMeasured uncoreCounted phasePct vcoreMv => exact execPmbusTelemetry_keeps _ _ _ _ _ h t ht
  | thermalAdjust temps => exact execThermalAdjust_keeps _ _ h t ht
  | clockSwitch core => exact execClockSwitch_keeps _ _ h t ht
  | thermalTrip stack unit => exact execThermalTrip_keeps _ _ _ h t ht
  | thermNAssert => exact execThermNAssert_keeps _ h t ht
  | thermNRelease => exact execThermNRelease_keeps _ h t ht
  | thermNStuck => exact execThermNStuck_keeps _ h t ht
  | overcurrentWarning => exact execOvercurrentWarning_keeps _ h t ht
  | undervoltageWarning => exact execUndervoltageWarning_keeps _ h t ht
  | regulatorFault => exact execRegulatorFault_keeps _ h t ht
  | write path m => exact execWrite_keeps _ _ _ h t ht
  | dictRead path m => exact execDictRead_keeps _ _ _ h t ht
  | describe path m => exact execDescribe_keeps _ _ _ h t ht
  | discover path m => exact execDiscover_keeps _ _ _ h t ht
  | txnBegin path m => exact execTxnBegin_keeps _ _ _ h t ht
  | txnStage path m => exact execTxnStage_keeps _ _ _ h t ht
  | txnCommit path m => exact execTxnCommit_keeps _ _ _ h t ht
  | txnAbort path m => exact execTxnAbort_keeps _ _ _ h t ht
  | scheduledCommit txn => exact execScheduledCommit_keeps _ _ h t ht
  | txnIdleTimeout txn => exact execTxnIdleTimeout_keeps _ _ h t ht
  | goReady path => exact execGoReady_keeps _ _ h t ht
  | start path => exact execStart_keeps _ _ h t ht
  | drain path => exact execDrain_keeps _ _ h t ht
  | drainComplete => exact execDrainComplete_keeps _ h t ht
  | reconfig path => exact execReconfig_keeps _ _ h t ht
  | resetCmd path => exact execResetCmd_keeps _ _ h t ht
  | resetDelayExpiry => exact execResetDelayExpiry_keeps _ h t ht
  | mbClaim core => exact execMbClaim_keeps _ _ h t ht
  | mbClaimRelease core => exact execMbClaimRelease_keeps _ _ h t ht
  | go core => exact execGo_keeps _ _ h t ht
  | mbRelease path => exact execMbRelease_keeps _ _ h t ht
  | pairShort => exact execPairShort_keeps _ h t ht
  | shortRetry seen => exact execShortRetry_keeps _ _ h t ht
  | noBeacon => exact execNoBeacon_keeps _ h t ht
  | beaconResume => exact execBeaconResume_keeps _ h t ht
  | idConflict => exact execIdConflict_keeps _ h t ht
  | stateEvent => exact execStateEvent_keeps _ h t ht
  | resetNAssert => exact execResetNAssert_keeps _ h t ht
  | resetNRelease mode warm failedCores => exact execResetNRelease_keeps _ _ _ _ h t ht
  | railEvent rail clockLost => exact execRailEvent_keeps _ _ _ h t ht
  | bootRrTimeout => exact execBootRrTimeout_keeps _ h t ht
  | temperatureGate => exact execTemperatureGate_keeps _ h t ht
  | fwBegin path => exact execFwBegin_keeps _ _ h t ht
  | fwUpdData path offset bytes => exact execFwUpdData_keeps _ _ _ _ h t ht
  | finish path => exact execFinish_keeps _ _ h t ht
  | cancel path => exact execCancel_keeps _ _ h t ht
  | activate path maxPause => exact execActivate_keeps _ _ _ h t ht
  | flashWriteEnd verified => exact execFlashWriteEnd_keeps _ _ h t ht
  | pdcBlob path bytes => exact execPdcBlob_keeps _ _ _ h t ht
  | quoteNonce path nonce => exact execQuoteNonce_keeps _ _ _ h t ht
  | quoteComplete => exact execQuoteComplete_keeps _ h t ht
  | extest cells => exact execExtest_keeps _ _ h t ht
  | samplePreload cells => exact execSamplePreload_keeps _ _ h t ht
  | idcode => exact execIdcode_keeps _ h t ht
  | clamp => exact execClamp_keeps _ h t ht
  | highz => exact execHighz_keeps _ h t ht
  | ecidcode => exact execEcidcode_keeps _ h t ht
  | extestPulse cells => exact execExtestPulse_keeps _ _ h t ht
  | extestTrain cells => exact execExtestTrain_keeps _ _ h t ht
  | bypass => exact execBypass_keeps _ h t ht
  | trstN => exact execTrstN_keeps _ h t ht
  | supplyInRange => exact execSupplyInRange_keeps _ h t ht
  | channelRetrainEnd ch ok => exact execChannelRetrainEnd_keeps _ _ _ h t ht
  | pageRecallComplete pool frame => exact execPageRecallComplete_keeps _ _ _ h t ht
  | perstNRelease => exact execPerstNRelease_keeps _ h t ht
  | badFrame => exact execBadFrame_keeps _ h t ht
  | histogramSample entry bin => exact execHistogramSample_keeps _ _ _ h t ht
  | overcurrentCapEnd => exact execOvercurrentCapEnd_keeps _ h t ht

end Sys2Proof.Machine
end

