-- ==== Sys2Proof/Laws/State.lean ====
section
/-! SUPPORT. One lemma per field of State per update, and per reader per update: what an update leaves alone, and what is read back. -/

namespace Sys2Proof.Machine

/-! ### State.setReg -/

@[simp] theorem State.setReg_cores (s : State) (o : Nat) (v : W64) : (s.setReg o v).cores = s.cores := rfl
@[simp] theorem State.setReg_accs (s : State) (o : Nat) (v : W64) : (s.setReg o v).accs = s.accs := rfl
@[simp] theorem State.setReg_ftq (s : State) (o : Nat) (v : W64) : (s.setReg o v).ftq = s.ftq := rfl
@[simp] theorem State.setReg_bufs (s : State) (o : Nat) (v : W64) : (s.setReg o v).bufs = s.bufs := rfl
@[simp] theorem State.setReg_tables (s : State) (o : Nat) (v : W64) : (s.setReg o v).tables = s.tables := rfl
@[simp] theorem State.setReg_mem (s : State) (o : Nat) (v : W64) : (s.setReg o v).mem = s.mem := rfl
@[simp] theorem State.setReg_qs (s : State) (o : Nat) (v : W64) : (s.setReg o v).qs = s.qs := rfl
@[simp] theorem State.setReg_sync (s : State) (o : Nat) (v : W64) : (s.setReg o v).sync = s.sync := rfl
@[simp] theorem State.setReg_tier (s : State) (o : Nat) (v : W64) : (s.setReg o v).tier = s.tier := rfl
@[simp] theorem State.setReg_fab (s : State) (o : Nat) (v : W64) : (s.setReg o v).fab = s.fab := rfl
@[simp] theorem State.setReg_sc (s : State) (o : Nat) (v : W64) : (s.setReg o v).sc = s.sc := rfl
@[simp] theorem State.setReg_wear (s : State) (o : Nat) (v : W64) : (s.setReg o v).wear = s.wear := rfl
@[simp] theorem State.setReg_sessions (s : State) (o : Nat) (v : W64) : (s.setReg o v).sessions = s.sessions := rfl
@[simp] theorem State.setReg_media (s : State) (o : Nat) (v : W64) : (s.setReg o v).media = s.media := rfl
@[simp] theorem State.setReg_pwr (s : State) (o : Nat) (v : W64) : (s.setReg o v).pwr = s.pwr := rfl
@[simp] theorem State.setReg_mgmt (s : State) (o : Nat) (v : W64) : (s.setReg o v).mgmt = s.mgmt := rfl
@[simp] theorem State.setReg_boot (s : State) (o : Nat) (v : W64) : (s.setReg o v).boot = s.boot := rfl
@[simp] theorem State.setReg_pins (s : State) (o : Nat) (v : W64) : (s.setReg o v).pins = s.pins := rfl
@[simp] theorem State.setReg_dev (s : State) (o : Nat) (v : W64) : (s.setReg o v).dev = s.dev := rfl
@[simp] theorem State.setReg_devBusy (s : State) (o : Nat) (v : W64) : (s.setReg o v).devBusy = s.devBusy := rfl
@[simp] theorem State.setReg_devCmdStatus (s : State) (o : Nat) (v : W64) : (s.setReg o v).devCmdStatus = s.devCmdStatus := rfl
@[simp] theorem State.setReg_resetAt (s : State) (o : Nat) (v : W64) : (s.setReg o v).resetAt = s.resetAt := rfl
@[simp] theorem State.setReg_ft (s : State) (o : Nat) (v : W64) : (s.setReg o v).ft = s.ft := rfl
@[simp] theorem State.setReg_cycle (s : State) (o : Nat) (v : W64) : (s.setReg o v).cycle = s.cycle := rfl
@[simp] theorem State.setReg_ninths (s : State) (o : Nat) (v : W64) : (s.setReg o v).ninths = s.ninths := rfl
@[simp] theorem State.setReg_ftPrev (s : State) (o : Nat) (v : W64) : (s.setReg o v).ftPrev = s.ftPrev := rfl
@[simp] theorem State.setReg_log (s : State) (o : Nat) (v : W64) : (s.setReg o v).log = s.log := rfl
@[simp] theorem State.setReg_eventSeq (s : State) (o : Nat) (v : W64) : (s.setReg o v).eventSeq = s.eventSeq := rfl
@[simp] theorem State.setReg_free (s : State) (o : Nat) (v : W64) : (s.setReg o v).free = s.free := rfl
@[simp] theorem State.setReg_pending (s : State) (o : Nat) (v : W64) : (s.setReg o v).pending = s.pending := rfl
@[simp] theorem State.setReg_core (s : State) (o : Nat) (v : W64) (k : Nat) : (s.setReg o v).core k = s.core k := rfl
@[simp] theorem State.setReg_acc (s : State) (o : Nat) (v : W64) (k j : Nat) : (s.setReg o v).acc k j = s.acc k j := rfl
@[simp] theorem State.setReg_ftqOf (s : State) (o : Nat) (v : W64) (k : Nat) : (s.setReg o v).ftqOf k = s.ftqOf k := rfl
@[simp] theorem State.setReg_buf (s : State) (o : Nat) (v : W64) (k j : Nat) : (s.setReg o v).buf k j = s.buf k j := rfl
@[simp] theorem State.setReg_cline (s : State) (o : Nat) (v : W64) (k j m : Nat) : (s.setReg o v).cline k j m = s.cline k j m := rfl
@[simp] theorem State.setReg_chan (s : State) (o : Nat) (v : W64) (k : Nat) : (s.setReg o v).chan k = s.chan k := rfl
@[simp] theorem State.setReg_queue (s : State) (o : Nat) (v : W64) (k : Nat) : (s.setReg o v).queue k = s.queue k := rfl
@[simp] theorem State.setReg_desc (s : State) (o : Nat) (v : W64) (k : Nat) : (s.setReg o v).desc k = s.desc k := rfl
@[simp] theorem State.setReg_sem (s : State) (o : Nat) (v : W64) (k : Nat) : (s.setReg o v).sem k = s.sem k := rfl
@[simp] theorem State.setReg_bar (s : State) (o : Nat) (v : W64) (k : Nat) : (s.setReg o v).bar k = s.bar k := rfl
@[simp] theorem State.setReg_pool (s : State) (o : Nat) (v : W64) (k : Nat) : (s.setReg o v).pool k = s.pool k := rfl
@[simp] theorem State.setReg_slot (s : State) (o : Nat) (v : W64) (k : Nat) : (s.setReg o v).slot k = s.slot k := rfl
@[simp] theorem State.setReg_farPool (s : State) (o : Nat) (v : W64) (k : Nat) : (s.setReg o v).farPool k = s.farPool k := rfl
@[simp] theorem State.setReg_port (s : State) (o : Nat) (v : W64) (k : Nat) : (s.setReg o v).port k = s.port k := rfl
@[simp] theorem State.setReg_scEng (s : State) (o : Nat) (v : W64) (k : Nat) : (s.setReg o v).scEng k = s.scEng k := rfl
@[simp] theorem State.setReg_session (s : State) (o : Nat) (v : W64) (k j : Nat) : (s.setReg o v).session k j = s.session k j := rfl
@[simp] theorem State.setReg_mx (s : State) (o : Nat) (v : W64) (k : Nat) : (s.setReg o v).mx k = s.mx k := rfl
@[simp] theorem State.setReg_life (s : State) (o : Nat) (v : W64) (k : Nat) : (s.setReg o v).life k = s.life k := rfl

/-! ### State.bump -/

@[simp] theorem State.bump_cores (s : State) (o n : Nat) : (s.bump o n).cores = s.cores := rfl
@[simp] theorem State.bump_accs (s : State) (o n : Nat) : (s.bump o n).accs = s.accs := rfl
@[simp] theorem State.bump_ftq (s : State) (o n : Nat) : (s.bump o n).ftq = s.ftq := rfl
@[simp] theorem State.bump_bufs (s : State) (o n : Nat) : (s.bump o n).bufs = s.bufs := rfl
@[simp] theorem State.bump_tables (s : State) (o n : Nat) : (s.bump o n).tables = s.tables := rfl
@[simp] theorem State.bump_mem (s : State) (o n : Nat) : (s.bump o n).mem = s.mem := rfl
@[simp] theorem State.bump_qs (s : State) (o n : Nat) : (s.bump o n).qs = s.qs := rfl
@[simp] theorem State.bump_sync (s : State) (o n : Nat) : (s.bump o n).sync = s.sync := rfl
@[simp] theorem State.bump_tier (s : State) (o n : Nat) : (s.bump o n).tier = s.tier := rfl
@[simp] theorem State.bump_fab (s : State) (o n : Nat) : (s.bump o n).fab = s.fab := rfl
@[simp] theorem State.bump_sc (s : State) (o n : Nat) : (s.bump o n).sc = s.sc := rfl
@[simp] theorem State.bump_wear (s : State) (o n : Nat) : (s.bump o n).wear = s.wear := rfl
@[simp] theorem State.bump_sessions (s : State) (o n : Nat) : (s.bump o n).sessions = s.sessions := rfl
@[simp] theorem State.bump_media (s : State) (o n : Nat) : (s.bump o n).media = s.media := rfl
@[simp] theorem State.bump_pwr (s : State) (o n : Nat) : (s.bump o n).pwr = s.pwr := rfl
@[simp] theorem State.bump_mgmt (s : State) (o n : Nat) : (s.bump o n).mgmt = s.mgmt := rfl
@[simp] theorem State.bump_boot (s : State) (o n : Nat) : (s.bump o n).boot = s.boot := rfl
@[simp] theorem State.bump_pins (s : State) (o n : Nat) : (s.bump o n).pins = s.pins := rfl
@[simp] theorem State.bump_dev (s : State) (o n : Nat) : (s.bump o n).dev = s.dev := rfl
@[simp] theorem State.bump_devBusy (s : State) (o n : Nat) : (s.bump o n).devBusy = s.devBusy := rfl
@[simp] theorem State.bump_devCmdStatus (s : State) (o n : Nat) : (s.bump o n).devCmdStatus = s.devCmdStatus := rfl
@[simp] theorem State.bump_resetAt (s : State) (o n : Nat) : (s.bump o n).resetAt = s.resetAt := rfl
@[simp] theorem State.bump_ft (s : State) (o n : Nat) : (s.bump o n).ft = s.ft := rfl
@[simp] theorem State.bump_cycle (s : State) (o n : Nat) : (s.bump o n).cycle = s.cycle := rfl
@[simp] theorem State.bump_ninths (s : State) (o n : Nat) : (s.bump o n).ninths = s.ninths := rfl
@[simp] theorem State.bump_ftPrev (s : State) (o n : Nat) : (s.bump o n).ftPrev = s.ftPrev := rfl
@[simp] theorem State.bump_log (s : State) (o n : Nat) : (s.bump o n).log = s.log := rfl
@[simp] theorem State.bump_eventSeq (s : State) (o n : Nat) : (s.bump o n).eventSeq = s.eventSeq := rfl
@[simp] theorem State.bump_free (s : State) (o n : Nat) : (s.bump o n).free = s.free := rfl
@[simp] theorem State.bump_pending (s : State) (o n : Nat) : (s.bump o n).pending = s.pending := rfl
@[simp] theorem State.bump_core (s : State) (o n : Nat) (k : Nat) : (s.bump o n).core k = s.core k := rfl
@[simp] theorem State.bump_acc (s : State) (o n : Nat) (k j : Nat) : (s.bump o n).acc k j = s.acc k j := rfl
@[simp] theorem State.bump_ftqOf (s : State) (o n : Nat) (k : Nat) : (s.bump o n).ftqOf k = s.ftqOf k := rfl
@[simp] theorem State.bump_buf (s : State) (o n : Nat) (k j : Nat) : (s.bump o n).buf k j = s.buf k j := rfl
@[simp] theorem State.bump_cline (s : State) (o n : Nat) (k j m : Nat) : (s.bump o n).cline k j m = s.cline k j m := rfl
@[simp] theorem State.bump_chan (s : State) (o n : Nat) (k : Nat) : (s.bump o n).chan k = s.chan k := rfl
@[simp] theorem State.bump_queue (s : State) (o n : Nat) (k : Nat) : (s.bump o n).queue k = s.queue k := rfl
@[simp] theorem State.bump_desc (s : State) (o n : Nat) (k : Nat) : (s.bump o n).desc k = s.desc k := rfl
@[simp] theorem State.bump_sem (s : State) (o n : Nat) (k : Nat) : (s.bump o n).sem k = s.sem k := rfl
@[simp] theorem State.bump_bar (s : State) (o n : Nat) (k : Nat) : (s.bump o n).bar k = s.bar k := rfl
@[simp] theorem State.bump_pool (s : State) (o n : Nat) (k : Nat) : (s.bump o n).pool k = s.pool k := rfl
@[simp] theorem State.bump_slot (s : State) (o n : Nat) (k : Nat) : (s.bump o n).slot k = s.slot k := rfl
@[simp] theorem State.bump_farPool (s : State) (o n : Nat) (k : Nat) : (s.bump o n).farPool k = s.farPool k := rfl
@[simp] theorem State.bump_port (s : State) (o n : Nat) (k : Nat) : (s.bump o n).port k = s.port k := rfl
@[simp] theorem State.bump_scEng (s : State) (o n : Nat) (k : Nat) : (s.bump o n).scEng k = s.scEng k := rfl
@[simp] theorem State.bump_session (s : State) (o n : Nat) (k j : Nat) : (s.bump o n).session k j = s.session k j := rfl
@[simp] theorem State.bump_mx (s : State) (o n : Nat) (k : Nat) : (s.bump o n).mx k = s.mx k := rfl
@[simp] theorem State.bump_life (s : State) (o n : Nat) (k : Nat) : (s.bump o n).life k = s.life k := rfl

/-! ### State.setFlag -/

@[simp] theorem State.setFlag_cores (s : State) (o b : Nat) : (s.setFlag o b).cores = s.cores := rfl
@[simp] theorem State.setFlag_accs (s : State) (o b : Nat) : (s.setFlag o b).accs = s.accs := rfl
@[simp] theorem State.setFlag_ftq (s : State) (o b : Nat) : (s.setFlag o b).ftq = s.ftq := rfl
@[simp] theorem State.setFlag_bufs (s : State) (o b : Nat) : (s.setFlag o b).bufs = s.bufs := rfl
@[simp] theorem State.setFlag_tables (s : State) (o b : Nat) : (s.setFlag o b).tables = s.tables := rfl
@[simp] theorem State.setFlag_mem (s : State) (o b : Nat) : (s.setFlag o b).mem = s.mem := rfl
@[simp] theorem State.setFlag_qs (s : State) (o b : Nat) : (s.setFlag o b).qs = s.qs := rfl
@[simp] theorem State.setFlag_sync (s : State) (o b : Nat) : (s.setFlag o b).sync = s.sync := rfl
@[simp] theorem State.setFlag_tier (s : State) (o b : Nat) : (s.setFlag o b).tier = s.tier := rfl
@[simp] theorem State.setFlag_fab (s : State) (o b : Nat) : (s.setFlag o b).fab = s.fab := rfl
@[simp] theorem State.setFlag_sc (s : State) (o b : Nat) : (s.setFlag o b).sc = s.sc := rfl
@[simp] theorem State.setFlag_wear (s : State) (o b : Nat) : (s.setFlag o b).wear = s.wear := rfl
@[simp] theorem State.setFlag_sessions (s : State) (o b : Nat) : (s.setFlag o b).sessions = s.sessions := rfl
@[simp] theorem State.setFlag_media (s : State) (o b : Nat) : (s.setFlag o b).media = s.media := rfl
@[simp] theorem State.setFlag_pwr (s : State) (o b : Nat) : (s.setFlag o b).pwr = s.pwr := rfl
@[simp] theorem State.setFlag_mgmt (s : State) (o b : Nat) : (s.setFlag o b).mgmt = s.mgmt := rfl
@[simp] theorem State.setFlag_boot (s : State) (o b : Nat) : (s.setFlag o b).boot = s.boot := rfl
@[simp] theorem State.setFlag_pins (s : State) (o b : Nat) : (s.setFlag o b).pins = s.pins := rfl
@[simp] theorem State.setFlag_dev (s : State) (o b : Nat) : (s.setFlag o b).dev = s.dev := rfl
@[simp] theorem State.setFlag_devBusy (s : State) (o b : Nat) : (s.setFlag o b).devBusy = s.devBusy := rfl
@[simp] theorem State.setFlag_devCmdStatus (s : State) (o b : Nat) : (s.setFlag o b).devCmdStatus = s.devCmdStatus := rfl
@[simp] theorem State.setFlag_resetAt (s : State) (o b : Nat) : (s.setFlag o b).resetAt = s.resetAt := rfl
@[simp] theorem State.setFlag_ft (s : State) (o b : Nat) : (s.setFlag o b).ft = s.ft := rfl
@[simp] theorem State.setFlag_cycle (s : State) (o b : Nat) : (s.setFlag o b).cycle = s.cycle := rfl
@[simp] theorem State.setFlag_ninths (s : State) (o b : Nat) : (s.setFlag o b).ninths = s.ninths := rfl
@[simp] theorem State.setFlag_ftPrev (s : State) (o b : Nat) : (s.setFlag o b).ftPrev = s.ftPrev := rfl
@[simp] theorem State.setFlag_log (s : State) (o b : Nat) : (s.setFlag o b).log = s.log := rfl
@[simp] theorem State.setFlag_eventSeq (s : State) (o b : Nat) : (s.setFlag o b).eventSeq = s.eventSeq := rfl
@[simp] theorem State.setFlag_free (s : State) (o b : Nat) : (s.setFlag o b).free = s.free := rfl
@[simp] theorem State.setFlag_pending (s : State) (o b : Nat) : (s.setFlag o b).pending = s.pending := rfl
@[simp] theorem State.setFlag_core (s : State) (o b : Nat) (k : Nat) : (s.setFlag o b).core k = s.core k := rfl
@[simp] theorem State.setFlag_acc (s : State) (o b : Nat) (k j : Nat) : (s.setFlag o b).acc k j = s.acc k j := rfl
@[simp] theorem State.setFlag_ftqOf (s : State) (o b : Nat) (k : Nat) : (s.setFlag o b).ftqOf k = s.ftqOf k := rfl
@[simp] theorem State.setFlag_buf (s : State) (o b : Nat) (k j : Nat) : (s.setFlag o b).buf k j = s.buf k j := rfl
@[simp] theorem State.setFlag_cline (s : State) (o b : Nat) (k j m : Nat) : (s.setFlag o b).cline k j m = s.cline k j m := rfl
@[simp] theorem State.setFlag_chan (s : State) (o b : Nat) (k : Nat) : (s.setFlag o b).chan k = s.chan k := rfl
@[simp] theorem State.setFlag_queue (s : State) (o b : Nat) (k : Nat) : (s.setFlag o b).queue k = s.queue k := rfl
@[simp] theorem State.setFlag_desc (s : State) (o b : Nat) (k : Nat) : (s.setFlag o b).desc k = s.desc k := rfl
@[simp] theorem State.setFlag_sem (s : State) (o b : Nat) (k : Nat) : (s.setFlag o b).sem k = s.sem k := rfl
@[simp] theorem State.setFlag_bar (s : State) (o b : Nat) (k : Nat) : (s.setFlag o b).bar k = s.bar k := rfl
@[simp] theorem State.setFlag_pool (s : State) (o b : Nat) (k : Nat) : (s.setFlag o b).pool k = s.pool k := rfl
@[simp] theorem State.setFlag_slot (s : State) (o b : Nat) (k : Nat) : (s.setFlag o b).slot k = s.slot k := rfl
@[simp] theorem State.setFlag_farPool (s : State) (o b : Nat) (k : Nat) : (s.setFlag o b).farPool k = s.farPool k := rfl
@[simp] theorem State.setFlag_port (s : State) (o b : Nat) (k : Nat) : (s.setFlag o b).port k = s.port k := rfl
@[simp] theorem State.setFlag_scEng (s : State) (o b : Nat) (k : Nat) : (s.setFlag o b).scEng k = s.scEng k := rfl
@[simp] theorem State.setFlag_session (s : State) (o b : Nat) (k j : Nat) : (s.setFlag o b).session k j = s.session k j := rfl
@[simp] theorem State.setFlag_mx (s : State) (o b : Nat) (k : Nat) : (s.setFlag o b).mx k = s.mx k := rfl
@[simp] theorem State.setFlag_life (s : State) (o b : Nat) (k : Nat) : (s.setFlag o b).life k = s.life k := rfl

/-! ### State.clearFlag -/

@[simp] theorem State.clearFlag_cores (s : State) (o b : Nat) : (s.clearFlag o b).cores = s.cores := rfl
@[simp] theorem State.clearFlag_accs (s : State) (o b : Nat) : (s.clearFlag o b).accs = s.accs := rfl
@[simp] theorem State.clearFlag_ftq (s : State) (o b : Nat) : (s.clearFlag o b).ftq = s.ftq := rfl
@[simp] theorem State.clearFlag_bufs (s : State) (o b : Nat) : (s.clearFlag o b).bufs = s.bufs := rfl
@[simp] theorem State.clearFlag_tables (s : State) (o b : Nat) : (s.clearFlag o b).tables = s.tables := rfl
@[simp] theorem State.clearFlag_mem (s : State) (o b : Nat) : (s.clearFlag o b).mem = s.mem := rfl
@[simp] theorem State.clearFlag_qs (s : State) (o b : Nat) : (s.clearFlag o b).qs = s.qs := rfl
@[simp] theorem State.clearFlag_sync (s : State) (o b : Nat) : (s.clearFlag o b).sync = s.sync := rfl
@[simp] theorem State.clearFlag_tier (s : State) (o b : Nat) : (s.clearFlag o b).tier = s.tier := rfl
@[simp] theorem State.clearFlag_fab (s : State) (o b : Nat) : (s.clearFlag o b).fab = s.fab := rfl
@[simp] theorem State.clearFlag_sc (s : State) (o b : Nat) : (s.clearFlag o b).sc = s.sc := rfl
@[simp] theorem State.clearFlag_wear (s : State) (o b : Nat) : (s.clearFlag o b).wear = s.wear := rfl
@[simp] theorem State.clearFlag_sessions (s : State) (o b : Nat) : (s.clearFlag o b).sessions = s.sessions := rfl
@[simp] theorem State.clearFlag_media (s : State) (o b : Nat) : (s.clearFlag o b).media = s.media := rfl
@[simp] theorem State.clearFlag_pwr (s : State) (o b : Nat) : (s.clearFlag o b).pwr = s.pwr := rfl
@[simp] theorem State.clearFlag_mgmt (s : State) (o b : Nat) : (s.clearFlag o b).mgmt = s.mgmt := rfl
@[simp] theorem State.clearFlag_boot (s : State) (o b : Nat) : (s.clearFlag o b).boot = s.boot := rfl
@[simp] theorem State.clearFlag_pins (s : State) (o b : Nat) : (s.clearFlag o b).pins = s.pins := rfl
@[simp] theorem State.clearFlag_dev (s : State) (o b : Nat) : (s.clearFlag o b).dev = s.dev := rfl
@[simp] theorem State.clearFlag_devBusy (s : State) (o b : Nat) : (s.clearFlag o b).devBusy = s.devBusy := rfl
@[simp] theorem State.clearFlag_devCmdStatus (s : State) (o b : Nat) : (s.clearFlag o b).devCmdStatus = s.devCmdStatus := rfl
@[simp] theorem State.clearFlag_resetAt (s : State) (o b : Nat) : (s.clearFlag o b).resetAt = s.resetAt := rfl
@[simp] theorem State.clearFlag_ft (s : State) (o b : Nat) : (s.clearFlag o b).ft = s.ft := rfl
@[simp] theorem State.clearFlag_cycle (s : State) (o b : Nat) : (s.clearFlag o b).cycle = s.cycle := rfl
@[simp] theorem State.clearFlag_ninths (s : State) (o b : Nat) : (s.clearFlag o b).ninths = s.ninths := rfl
@[simp] theorem State.clearFlag_ftPrev (s : State) (o b : Nat) : (s.clearFlag o b).ftPrev = s.ftPrev := rfl
@[simp] theorem State.clearFlag_log (s : State) (o b : Nat) : (s.clearFlag o b).log = s.log := rfl
@[simp] theorem State.clearFlag_eventSeq (s : State) (o b : Nat) : (s.clearFlag o b).eventSeq = s.eventSeq := rfl
@[simp] theorem State.clearFlag_free (s : State) (o b : Nat) : (s.clearFlag o b).free = s.free := rfl
@[simp] theorem State.clearFlag_pending (s : State) (o b : Nat) : (s.clearFlag o b).pending = s.pending := rfl
@[simp] theorem State.clearFlag_core (s : State) (o b : Nat) (k : Nat) : (s.clearFlag o b).core k = s.core k := rfl
@[simp] theorem State.clearFlag_acc (s : State) (o b : Nat) (k j : Nat) : (s.clearFlag o b).acc k j = s.acc k j := rfl
@[simp] theorem State.clearFlag_ftqOf (s : State) (o b : Nat) (k : Nat) : (s.clearFlag o b).ftqOf k = s.ftqOf k := rfl
@[simp] theorem State.clearFlag_buf (s : State) (o b : Nat) (k j : Nat) : (s.clearFlag o b).buf k j = s.buf k j := rfl
@[simp] theorem State.clearFlag_cline (s : State) (o b : Nat) (k j m : Nat) : (s.clearFlag o b).cline k j m = s.cline k j m := rfl
@[simp] theorem State.clearFlag_chan (s : State) (o b : Nat) (k : Nat) : (s.clearFlag o b).chan k = s.chan k := rfl
@[simp] theorem State.clearFlag_queue (s : State) (o b : Nat) (k : Nat) : (s.clearFlag o b).queue k = s.queue k := rfl
@[simp] theorem State.clearFlag_desc (s : State) (o b : Nat) (k : Nat) : (s.clearFlag o b).desc k = s.desc k := rfl
@[simp] theorem State.clearFlag_sem (s : State) (o b : Nat) (k : Nat) : (s.clearFlag o b).sem k = s.sem k := rfl
@[simp] theorem State.clearFlag_bar (s : State) (o b : Nat) (k : Nat) : (s.clearFlag o b).bar k = s.bar k := rfl
@[simp] theorem State.clearFlag_pool (s : State) (o b : Nat) (k : Nat) : (s.clearFlag o b).pool k = s.pool k := rfl
@[simp] theorem State.clearFlag_slot (s : State) (o b : Nat) (k : Nat) : (s.clearFlag o b).slot k = s.slot k := rfl
@[simp] theorem State.clearFlag_farPool (s : State) (o b : Nat) (k : Nat) : (s.clearFlag o b).farPool k = s.farPool k := rfl
@[simp] theorem State.clearFlag_port (s : State) (o b : Nat) (k : Nat) : (s.clearFlag o b).port k = s.port k := rfl
@[simp] theorem State.clearFlag_scEng (s : State) (o b : Nat) (k : Nat) : (s.clearFlag o b).scEng k = s.scEng k := rfl
@[simp] theorem State.clearFlag_session (s : State) (o b : Nat) (k j : Nat) : (s.clearFlag o b).session k j = s.session k j := rfl
@[simp] theorem State.clearFlag_mx (s : State) (o b : Nat) (k : Nat) : (s.clearFlag o b).mx k = s.mx k := rfl
@[simp] theorem State.clearFlag_life (s : State) (o b : Nat) (k : Nat) : (s.clearFlag o b).life k = s.life k := rfl

/-! ### State.bumpSeen -/

@[simp] theorem State.bumpSeen_cores (s : State) (c o b : Nat) : (s.bumpSeen c o b).cores = s.cores := rfl
@[simp] theorem State.bumpSeen_accs (s : State) (c o b : Nat) : (s.bumpSeen c o b).accs = s.accs := rfl
@[simp] theorem State.bumpSeen_ftq (s : State) (c o b : Nat) : (s.bumpSeen c o b).ftq = s.ftq := rfl
@[simp] theorem State.bumpSeen_bufs (s : State) (c o b : Nat) : (s.bumpSeen c o b).bufs = s.bufs := rfl
@[simp] theorem State.bumpSeen_tables (s : State) (c o b : Nat) : (s.bumpSeen c o b).tables = s.tables := rfl
@[simp] theorem State.bumpSeen_mem (s : State) (c o b : Nat) : (s.bumpSeen c o b).mem = s.mem := rfl
@[simp] theorem State.bumpSeen_qs (s : State) (c o b : Nat) : (s.bumpSeen c o b).qs = s.qs := rfl
@[simp] theorem State.bumpSeen_sync (s : State) (c o b : Nat) : (s.bumpSeen c o b).sync = s.sync := rfl
@[simp] theorem State.bumpSeen_tier (s : State) (c o b : Nat) : (s.bumpSeen c o b).tier = s.tier := rfl
@[simp] theorem State.bumpSeen_fab (s : State) (c o b : Nat) : (s.bumpSeen c o b).fab = s.fab := rfl
@[simp] theorem State.bumpSeen_sc (s : State) (c o b : Nat) : (s.bumpSeen c o b).sc = s.sc := rfl
@[simp] theorem State.bumpSeen_wear (s : State) (c o b : Nat) : (s.bumpSeen c o b).wear = s.wear := rfl
@[simp] theorem State.bumpSeen_sessions (s : State) (c o b : Nat) : (s.bumpSeen c o b).sessions = s.sessions := rfl
@[simp] theorem State.bumpSeen_media (s : State) (c o b : Nat) : (s.bumpSeen c o b).media = s.media := rfl
@[simp] theorem State.bumpSeen_pwr (s : State) (c o b : Nat) : (s.bumpSeen c o b).pwr = s.pwr := rfl
@[simp] theorem State.bumpSeen_mgmt (s : State) (c o b : Nat) : (s.bumpSeen c o b).mgmt = s.mgmt := rfl
@[simp] theorem State.bumpSeen_boot (s : State) (c o b : Nat) : (s.bumpSeen c o b).boot = s.boot := rfl
@[simp] theorem State.bumpSeen_pins (s : State) (c o b : Nat) : (s.bumpSeen c o b).pins = s.pins := rfl
@[simp] theorem State.bumpSeen_dev (s : State) (c o b : Nat) : (s.bumpSeen c o b).dev = s.dev := rfl
@[simp] theorem State.bumpSeen_devBusy (s : State) (c o b : Nat) : (s.bumpSeen c o b).devBusy = s.devBusy := rfl
@[simp] theorem State.bumpSeen_devCmdStatus (s : State) (c o b : Nat) : (s.bumpSeen c o b).devCmdStatus = s.devCmdStatus := rfl
@[simp] theorem State.bumpSeen_resetAt (s : State) (c o b : Nat) : (s.bumpSeen c o b).resetAt = s.resetAt := rfl
@[simp] theorem State.bumpSeen_ft (s : State) (c o b : Nat) : (s.bumpSeen c o b).ft = s.ft := rfl
@[simp] theorem State.bumpSeen_cycle (s : State) (c o b : Nat) : (s.bumpSeen c o b).cycle = s.cycle := rfl
@[simp] theorem State.bumpSeen_ninths (s : State) (c o b : Nat) : (s.bumpSeen c o b).ninths = s.ninths := rfl
@[simp] theorem State.bumpSeen_ftPrev (s : State) (c o b : Nat) : (s.bumpSeen c o b).ftPrev = s.ftPrev := rfl
@[simp] theorem State.bumpSeen_log (s : State) (c o b : Nat) : (s.bumpSeen c o b).log = s.log := rfl
@[simp] theorem State.bumpSeen_eventSeq (s : State) (c o b : Nat) : (s.bumpSeen c o b).eventSeq = s.eventSeq := rfl
@[simp] theorem State.bumpSeen_free (s : State) (c o b : Nat) : (s.bumpSeen c o b).free = s.free := rfl
@[simp] theorem State.bumpSeen_pending (s : State) (c o b : Nat) : (s.bumpSeen c o b).pending = s.pending := rfl
@[simp] theorem State.bumpSeen_core (s : State) (c o b : Nat) (k : Nat) : (s.bumpSeen c o b).core k = s.core k := rfl
@[simp] theorem State.bumpSeen_acc (s : State) (c o b : Nat) (k j : Nat) : (s.bumpSeen c o b).acc k j = s.acc k j := rfl
@[simp] theorem State.bumpSeen_ftqOf (s : State) (c o b : Nat) (k : Nat) : (s.bumpSeen c o b).ftqOf k = s.ftqOf k := rfl
@[simp] theorem State.bumpSeen_buf (s : State) (c o b : Nat) (k j : Nat) : (s.bumpSeen c o b).buf k j = s.buf k j := rfl
@[simp] theorem State.bumpSeen_cline (s : State) (c o b : Nat) (k j m : Nat) : (s.bumpSeen c o b).cline k j m = s.cline k j m := rfl
@[simp] theorem State.bumpSeen_chan (s : State) (c o b : Nat) (k : Nat) : (s.bumpSeen c o b).chan k = s.chan k := rfl
@[simp] theorem State.bumpSeen_queue (s : State) (c o b : Nat) (k : Nat) : (s.bumpSeen c o b).queue k = s.queue k := rfl
@[simp] theorem State.bumpSeen_desc (s : State) (c o b : Nat) (k : Nat) : (s.bumpSeen c o b).desc k = s.desc k := rfl
@[simp] theorem State.bumpSeen_sem (s : State) (c o b : Nat) (k : Nat) : (s.bumpSeen c o b).sem k = s.sem k := rfl
@[simp] theorem State.bumpSeen_bar (s : State) (c o b : Nat) (k : Nat) : (s.bumpSeen c o b).bar k = s.bar k := rfl
@[simp] theorem State.bumpSeen_pool (s : State) (c o b : Nat) (k : Nat) : (s.bumpSeen c o b).pool k = s.pool k := rfl
@[simp] theorem State.bumpSeen_slot (s : State) (c o b : Nat) (k : Nat) : (s.bumpSeen c o b).slot k = s.slot k := rfl
@[simp] theorem State.bumpSeen_farPool (s : State) (c o b : Nat) (k : Nat) : (s.bumpSeen c o b).farPool k = s.farPool k := rfl
@[simp] theorem State.bumpSeen_port (s : State) (c o b : Nat) (k : Nat) : (s.bumpSeen c o b).port k = s.port k := rfl
@[simp] theorem State.bumpSeen_scEng (s : State) (c o b : Nat) (k : Nat) : (s.bumpSeen c o b).scEng k = s.scEng k := rfl
@[simp] theorem State.bumpSeen_session (s : State) (c o b : Nat) (k j : Nat) : (s.bumpSeen c o b).session k j = s.session k j := rfl
@[simp] theorem State.bumpSeen_mx (s : State) (c o b : Nat) (k : Nat) : (s.bumpSeen c o b).mx k = s.mx k := rfl
@[simp] theorem State.bumpSeen_life (s : State) (c o b : Nat) (k : Nat) : (s.bumpSeen c o b).life k = s.life k := rfl

/-! ### State.setCore -/

@[simp] theorem State.setCore_regs (s : State) (c : Nat) (v : Core) : (s.setCore c v).regs = s.regs := rfl
@[simp] theorem State.setCore_accs (s : State) (c : Nat) (v : Core) : (s.setCore c v).accs = s.accs := rfl
@[simp] theorem State.setCore_ftq (s : State) (c : Nat) (v : Core) : (s.setCore c v).ftq = s.ftq := rfl
@[simp] theorem State.setCore_bufs (s : State) (c : Nat) (v : Core) : (s.setCore c v).bufs = s.bufs := rfl
@[simp] theorem State.setCore_tables (s : State) (c : Nat) (v : Core) : (s.setCore c v).tables = s.tables := rfl
@[simp] theorem State.setCore_mem (s : State) (c : Nat) (v : Core) : (s.setCore c v).mem = s.mem := rfl
@[simp] theorem State.setCore_qs (s : State) (c : Nat) (v : Core) : (s.setCore c v).qs = s.qs := rfl
@[simp] theorem State.setCore_sync (s : State) (c : Nat) (v : Core) : (s.setCore c v).sync = s.sync := rfl
@[simp] theorem State.setCore_tier (s : State) (c : Nat) (v : Core) : (s.setCore c v).tier = s.tier := rfl
@[simp] theorem State.setCore_fab (s : State) (c : Nat) (v : Core) : (s.setCore c v).fab = s.fab := rfl
@[simp] theorem State.setCore_sc (s : State) (c : Nat) (v : Core) : (s.setCore c v).sc = s.sc := rfl
@[simp] theorem State.setCore_wear (s : State) (c : Nat) (v : Core) : (s.setCore c v).wear = s.wear := rfl
@[simp] theorem State.setCore_sessions (s : State) (c : Nat) (v : Core) : (s.setCore c v).sessions = s.sessions := rfl
@[simp] theorem State.setCore_media (s : State) (c : Nat) (v : Core) : (s.setCore c v).media = s.media := rfl
@[simp] theorem State.setCore_pwr (s : State) (c : Nat) (v : Core) : (s.setCore c v).pwr = s.pwr := rfl
@[simp] theorem State.setCore_mgmt (s : State) (c : Nat) (v : Core) : (s.setCore c v).mgmt = s.mgmt := rfl
@[simp] theorem State.setCore_boot (s : State) (c : Nat) (v : Core) : (s.setCore c v).boot = s.boot := rfl
@[simp] theorem State.setCore_pins (s : State) (c : Nat) (v : Core) : (s.setCore c v).pins = s.pins := rfl
@[simp] theorem State.setCore_dev (s : State) (c : Nat) (v : Core) : (s.setCore c v).dev = s.dev := rfl
@[simp] theorem State.setCore_devBusy (s : State) (c : Nat) (v : Core) : (s.setCore c v).devBusy = s.devBusy := rfl
@[simp] theorem State.setCore_devCmdStatus (s : State) (c : Nat) (v : Core) : (s.setCore c v).devCmdStatus = s.devCmdStatus := rfl
@[simp] theorem State.setCore_resetAt (s : State) (c : Nat) (v : Core) : (s.setCore c v).resetAt = s.resetAt := rfl
@[simp] theorem State.setCore_ft (s : State) (c : Nat) (v : Core) : (s.setCore c v).ft = s.ft := rfl
@[simp] theorem State.setCore_cycle (s : State) (c : Nat) (v : Core) : (s.setCore c v).cycle = s.cycle := rfl
@[simp] theorem State.setCore_ninths (s : State) (c : Nat) (v : Core) : (s.setCore c v).ninths = s.ninths := rfl
@[simp] theorem State.setCore_ftPrev (s : State) (c : Nat) (v : Core) : (s.setCore c v).ftPrev = s.ftPrev := rfl
@[simp] theorem State.setCore_log (s : State) (c : Nat) (v : Core) : (s.setCore c v).log = s.log := rfl
@[simp] theorem State.setCore_eventSeq (s : State) (c : Nat) (v : Core) : (s.setCore c v).eventSeq = s.eventSeq := rfl
@[simp] theorem State.setCore_free (s : State) (c : Nat) (v : Core) : (s.setCore c v).free = s.free := rfl
@[simp] theorem State.setCore_pending (s : State) (c : Nat) (v : Core) : (s.setCore c v).pending = s.pending := rfl
@[simp] theorem State.setCore_reg (s : State) (c : Nat) (v : Core) (k : Nat) : (s.setCore c v).reg k = s.reg k := rfl
@[simp] theorem State.setCore_acc (s : State) (c : Nat) (v : Core) (k j : Nat) : (s.setCore c v).acc k j = s.acc k j := rfl
@[simp] theorem State.setCore_ftqOf (s : State) (c : Nat) (v : Core) (k : Nat) : (s.setCore c v).ftqOf k = s.ftqOf k := rfl
@[simp] theorem State.setCore_buf (s : State) (c : Nat) (v : Core) (k j : Nat) : (s.setCore c v).buf k j = s.buf k j := rfl
@[simp] theorem State.setCore_cline (s : State) (c : Nat) (v : Core) (k j m : Nat) : (s.setCore c v).cline k j m = s.cline k j m := rfl
@[simp] theorem State.setCore_chan (s : State) (c : Nat) (v : Core) (k : Nat) : (s.setCore c v).chan k = s.chan k := rfl
@[simp] theorem State.setCore_queue (s : State) (c : Nat) (v : Core) (k : Nat) : (s.setCore c v).queue k = s.queue k := rfl
@[simp] theorem State.setCore_desc (s : State) (c : Nat) (v : Core) (k : Nat) : (s.setCore c v).desc k = s.desc k := rfl
@[simp] theorem State.setCore_sem (s : State) (c : Nat) (v : Core) (k : Nat) : (s.setCore c v).sem k = s.sem k := rfl
@[simp] theorem State.setCore_bar (s : State) (c : Nat) (v : Core) (k : Nat) : (s.setCore c v).bar k = s.bar k := rfl
@[simp] theorem State.setCore_pool (s : State) (c : Nat) (v : Core) (k : Nat) : (s.setCore c v).pool k = s.pool k := rfl
@[simp] theorem State.setCore_slot (s : State) (c : Nat) (v : Core) (k : Nat) : (s.setCore c v).slot k = s.slot k := rfl
@[simp] theorem State.setCore_farPool (s : State) (c : Nat) (v : Core) (k : Nat) : (s.setCore c v).farPool k = s.farPool k := rfl
@[simp] theorem State.setCore_port (s : State) (c : Nat) (v : Core) (k : Nat) : (s.setCore c v).port k = s.port k := rfl
@[simp] theorem State.setCore_scEng (s : State) (c : Nat) (v : Core) (k : Nat) : (s.setCore c v).scEng k = s.scEng k := rfl
@[simp] theorem State.setCore_session (s : State) (c : Nat) (v : Core) (k j : Nat) : (s.setCore c v).session k j = s.session k j := rfl
@[simp] theorem State.setCore_mx (s : State) (c : Nat) (v : Core) (k : Nat) : (s.setCore c v).mx k = s.mx k := rfl
@[simp] theorem State.setCore_life (s : State) (c : Nat) (v : Core) (k : Nat) : (s.setCore c v).life k = s.life k := rfl

/-! ### State.setAcc -/

@[simp] theorem State.setAcc_regs (s : State) (c t : Nat) (v : AccTile) : (s.setAcc c t v).regs = s.regs := rfl
@[simp] theorem State.setAcc_cores (s : State) (c t : Nat) (v : AccTile) : (s.setAcc c t v).cores = s.cores := rfl
@[simp] theorem State.setAcc_ftq (s : State) (c t : Nat) (v : AccTile) : (s.setAcc c t v).ftq = s.ftq := rfl
@[simp] theorem State.setAcc_bufs (s : State) (c t : Nat) (v : AccTile) : (s.setAcc c t v).bufs = s.bufs := rfl
@[simp] theorem State.setAcc_tables (s : State) (c t : Nat) (v : AccTile) : (s.setAcc c t v).tables = s.tables := rfl
@[simp] theorem State.setAcc_mem (s : State) (c t : Nat) (v : AccTile) : (s.setAcc c t v).mem = s.mem := rfl
@[simp] theorem State.setAcc_qs (s : State) (c t : Nat) (v : AccTile) : (s.setAcc c t v).qs = s.qs := rfl
@[simp] theorem State.setAcc_sync (s : State) (c t : Nat) (v : AccTile) : (s.setAcc c t v).sync = s.sync := rfl
@[simp] theorem State.setAcc_tier (s : State) (c t : Nat) (v : AccTile) : (s.setAcc c t v).tier = s.tier := rfl
@[simp] theorem State.setAcc_fab (s : State) (c t : Nat) (v : AccTile) : (s.setAcc c t v).fab = s.fab := rfl
@[simp] theorem State.setAcc_sc (s : State) (c t : Nat) (v : AccTile) : (s.setAcc c t v).sc = s.sc := rfl
@[simp] theorem State.setAcc_wear (s : State) (c t : Nat) (v : AccTile) : (s.setAcc c t v).wear = s.wear := rfl
@[simp] theorem State.setAcc_sessions (s : State) (c t : Nat) (v : AccTile) : (s.setAcc c t v).sessions = s.sessions := rfl
@[simp] theorem State.setAcc_media (s : State) (c t : Nat) (v : AccTile) : (s.setAcc c t v).media = s.media := rfl
@[simp] theorem State.setAcc_pwr (s : State) (c t : Nat) (v : AccTile) : (s.setAcc c t v).pwr = s.pwr := rfl
@[simp] theorem State.setAcc_mgmt (s : State) (c t : Nat) (v : AccTile) : (s.setAcc c t v).mgmt = s.mgmt := rfl
@[simp] theorem State.setAcc_boot (s : State) (c t : Nat) (v : AccTile) : (s.setAcc c t v).boot = s.boot := rfl
@[simp] theorem State.setAcc_pins (s : State) (c t : Nat) (v : AccTile) : (s.setAcc c t v).pins = s.pins := rfl
@[simp] theorem State.setAcc_dev (s : State) (c t : Nat) (v : AccTile) : (s.setAcc c t v).dev = s.dev := rfl
@[simp] theorem State.setAcc_devBusy (s : State) (c t : Nat) (v : AccTile) : (s.setAcc c t v).devBusy = s.devBusy := rfl
@[simp] theorem State.setAcc_devCmdStatus (s : State) (c t : Nat) (v : AccTile) : (s.setAcc c t v).devCmdStatus = s.devCmdStatus := rfl
@[simp] theorem State.setAcc_resetAt (s : State) (c t : Nat) (v : AccTile) : (s.setAcc c t v).resetAt = s.resetAt := rfl
@[simp] theorem State.setAcc_ft (s : State) (c t : Nat) (v : AccTile) : (s.setAcc c t v).ft = s.ft := rfl
@[simp] theorem State.setAcc_cycle (s : State) (c t : Nat) (v : AccTile) : (s.setAcc c t v).cycle = s.cycle := rfl
@[simp] theorem State.setAcc_ninths (s : State) (c t : Nat) (v : AccTile) : (s.setAcc c t v).ninths = s.ninths := rfl
@[simp] theorem State.setAcc_ftPrev (s : State) (c t : Nat) (v : AccTile) : (s.setAcc c t v).ftPrev = s.ftPrev := rfl
@[simp] theorem State.setAcc_log (s : State) (c t : Nat) (v : AccTile) : (s.setAcc c t v).log = s.log := rfl
@[simp] theorem State.setAcc_eventSeq (s : State) (c t : Nat) (v : AccTile) : (s.setAcc c t v).eventSeq = s.eventSeq := rfl
@[simp] theorem State.setAcc_free (s : State) (c t : Nat) (v : AccTile) : (s.setAcc c t v).free = s.free := rfl
@[simp] theorem State.setAcc_pending (s : State) (c t : Nat) (v : AccTile) : (s.setAcc c t v).pending = s.pending := rfl
@[simp] theorem State.setAcc_reg (s : State) (c t : Nat) (v : AccTile) (k : Nat) : (s.setAcc c t v).reg k = s.reg k := rfl
@[simp] theorem State.setAcc_core (s : State) (c t : Nat) (v : AccTile) (k : Nat) : (s.setAcc c t v).core k = s.core k := rfl
@[simp] theorem State.setAcc_ftqOf (s : State) (c t : Nat) (v : AccTile) (k : Nat) : (s.setAcc c t v).ftqOf k = s.ftqOf k := rfl
@[simp] theorem State.setAcc_buf (s : State) (c t : Nat) (v : AccTile) (k j : Nat) : (s.setAcc c t v).buf k j = s.buf k j := rfl
@[simp] theorem State.setAcc_cline (s : State) (c t : Nat) (v : AccTile) (k j m : Nat) : (s.setAcc c t v).cline k j m = s.cline k j m := rfl
@[simp] theorem State.setAcc_chan (s : State) (c t : Nat) (v : AccTile) (k : Nat) : (s.setAcc c t v).chan k = s.chan k := rfl
@[simp] theorem State.setAcc_queue (s : State) (c t : Nat) (v : AccTile) (k : Nat) : (s.setAcc c t v).queue k = s.queue k := rfl
@[simp] theorem State.setAcc_desc (s : State) (c t : Nat) (v : AccTile) (k : Nat) : (s.setAcc c t v).desc k = s.desc k := rfl
@[simp] theorem State.setAcc_sem (s : State) (c t : Nat) (v : AccTile) (k : Nat) : (s.setAcc c t v).sem k = s.sem k := rfl
@[simp] theorem State.setAcc_bar (s : State) (c t : Nat) (v : AccTile) (k : Nat) : (s.setAcc c t v).bar k = s.bar k := rfl
@[simp] theorem State.setAcc_pool (s : State) (c t : Nat) (v : AccTile) (k : Nat) : (s.setAcc c t v).pool k = s.pool k := rfl
@[simp] theorem State.setAcc_slot (s : State) (c t : Nat) (v : AccTile) (k : Nat) : (s.setAcc c t v).slot k = s.slot k := rfl
@[simp] theorem State.setAcc_farPool (s : State) (c t : Nat) (v : AccTile) (k : Nat) : (s.setAcc c t v).farPool k = s.farPool k := rfl
@[simp] theorem State.setAcc_port (s : State) (c t : Nat) (v : AccTile) (k : Nat) : (s.setAcc c t v).port k = s.port k := rfl
@[simp] theorem State.setAcc_scEng (s : State) (c t : Nat) (v : AccTile) (k : Nat) : (s.setAcc c t v).scEng k = s.scEng k := rfl
@[simp] theorem State.setAcc_session (s : State) (c t : Nat) (v : AccTile) (k j : Nat) : (s.setAcc c t v).session k j = s.session k j := rfl
@[simp] theorem State.setAcc_mx (s : State) (c t : Nat) (v : AccTile) (k : Nat) : (s.setAcc c t v).mx k = s.mx k := rfl
@[simp] theorem State.setAcc_life (s : State) (c t : Nat) (v : AccTile) (k : Nat) : (s.setAcc c t v).life k = s.life k := rfl

/-! ### State.setFtq -/

@[simp] theorem State.setFtq_regs (s : State) (c : Nat) (v : List FtqEntry) : (s.setFtq c v).regs = s.regs := rfl
@[simp] theorem State.setFtq_cores (s : State) (c : Nat) (v : List FtqEntry) : (s.setFtq c v).cores = s.cores := rfl
@[simp] theorem State.setFtq_accs (s : State) (c : Nat) (v : List FtqEntry) : (s.setFtq c v).accs = s.accs := rfl
@[simp] theorem State.setFtq_bufs (s : State) (c : Nat) (v : List FtqEntry) : (s.setFtq c v).bufs = s.bufs := rfl
@[simp] theorem State.setFtq_tables (s : State) (c : Nat) (v : List FtqEntry) : (s.setFtq c v).tables = s.tables := rfl
@[simp] theorem State.setFtq_mem (s : State) (c : Nat) (v : List FtqEntry) : (s.setFtq c v).mem = s.mem := rfl
@[simp] theorem State.setFtq_qs (s : State) (c : Nat) (v : List FtqEntry) : (s.setFtq c v).qs = s.qs := rfl
@[simp] theorem State.setFtq_sync (s : State) (c : Nat) (v : List FtqEntry) : (s.setFtq c v).sync = s.sync := rfl
@[simp] theorem State.setFtq_tier (s : State) (c : Nat) (v : List FtqEntry) : (s.setFtq c v).tier = s.tier := rfl
@[simp] theorem State.setFtq_fab (s : State) (c : Nat) (v : List FtqEntry) : (s.setFtq c v).fab = s.fab := rfl
@[simp] theorem State.setFtq_sc (s : State) (c : Nat) (v : List FtqEntry) : (s.setFtq c v).sc = s.sc := rfl
@[simp] theorem State.setFtq_wear (s : State) (c : Nat) (v : List FtqEntry) : (s.setFtq c v).wear = s.wear := rfl
@[simp] theorem State.setFtq_sessions (s : State) (c : Nat) (v : List FtqEntry) : (s.setFtq c v).sessions = s.sessions := rfl
@[simp] theorem State.setFtq_media (s : State) (c : Nat) (v : List FtqEntry) : (s.setFtq c v).media = s.media := rfl
@[simp] theorem State.setFtq_pwr (s : State) (c : Nat) (v : List FtqEntry) : (s.setFtq c v).pwr = s.pwr := rfl
@[simp] theorem State.setFtq_mgmt (s : State) (c : Nat) (v : List FtqEntry) : (s.setFtq c v).mgmt = s.mgmt := rfl
@[simp] theorem State.setFtq_boot (s : State) (c : Nat) (v : List FtqEntry) : (s.setFtq c v).boot = s.boot := rfl
@[simp] theorem State.setFtq_pins (s : State) (c : Nat) (v : List FtqEntry) : (s.setFtq c v).pins = s.pins := rfl
@[simp] theorem State.setFtq_dev (s : State) (c : Nat) (v : List FtqEntry) : (s.setFtq c v).dev = s.dev := rfl
@[simp] theorem State.setFtq_devBusy (s : State) (c : Nat) (v : List FtqEntry) : (s.setFtq c v).devBusy = s.devBusy := rfl
@[simp] theorem State.setFtq_devCmdStatus (s : State) (c : Nat) (v : List FtqEntry) : (s.setFtq c v).devCmdStatus = s.devCmdStatus := rfl
@[simp] theorem State.setFtq_resetAt (s : State) (c : Nat) (v : List FtqEntry) : (s.setFtq c v).resetAt = s.resetAt := rfl
@[simp] theorem State.setFtq_ft (s : State) (c : Nat) (v : List FtqEntry) : (s.setFtq c v).ft = s.ft := rfl
@[simp] theorem State.setFtq_cycle (s : State) (c : Nat) (v : List FtqEntry) : (s.setFtq c v).cycle = s.cycle := rfl
@[simp] theorem State.setFtq_ninths (s : State) (c : Nat) (v : List FtqEntry) : (s.setFtq c v).ninths = s.ninths := rfl
@[simp] theorem State.setFtq_ftPrev (s : State) (c : Nat) (v : List FtqEntry) : (s.setFtq c v).ftPrev = s.ftPrev := rfl
@[simp] theorem State.setFtq_log (s : State) (c : Nat) (v : List FtqEntry) : (s.setFtq c v).log = s.log := rfl
@[simp] theorem State.setFtq_eventSeq (s : State) (c : Nat) (v : List FtqEntry) : (s.setFtq c v).eventSeq = s.eventSeq := rfl
@[simp] theorem State.setFtq_free (s : State) (c : Nat) (v : List FtqEntry) : (s.setFtq c v).free = s.free := rfl
@[simp] theorem State.setFtq_pending (s : State) (c : Nat) (v : List FtqEntry) : (s.setFtq c v).pending = s.pending := rfl
@[simp] theorem State.setFtq_reg (s : State) (c : Nat) (v : List FtqEntry) (k : Nat) : (s.setFtq c v).reg k = s.reg k := rfl
@[simp] theorem State.setFtq_core (s : State) (c : Nat) (v : List FtqEntry) (k : Nat) : (s.setFtq c v).core k = s.core k := rfl
@[simp] theorem State.setFtq_acc (s : State) (c : Nat) (v : List FtqEntry) (k j : Nat) : (s.setFtq c v).acc k j = s.acc k j := rfl
@[simp] theorem State.setFtq_buf (s : State) (c : Nat) (v : List FtqEntry) (k j : Nat) : (s.setFtq c v).buf k j = s.buf k j := rfl
@[simp] theorem State.setFtq_cline (s : State) (c : Nat) (v : List FtqEntry) (k j m : Nat) : (s.setFtq c v).cline k j m = s.cline k j m := rfl
@[simp] theorem State.setFtq_chan (s : State) (c : Nat) (v : List FtqEntry) (k : Nat) : (s.setFtq c v).chan k = s.chan k := rfl
@[simp] theorem State.setFtq_queue (s : State) (c : Nat) (v : List FtqEntry) (k : Nat) : (s.setFtq c v).queue k = s.queue k := rfl
@[simp] theorem State.setFtq_desc (s : State) (c : Nat) (v : List FtqEntry) (k : Nat) : (s.setFtq c v).desc k = s.desc k := rfl
@[simp] theorem State.setFtq_sem (s : State) (c : Nat) (v : List FtqEntry) (k : Nat) : (s.setFtq c v).sem k = s.sem k := rfl
@[simp] theorem State.setFtq_bar (s : State) (c : Nat) (v : List FtqEntry) (k : Nat) : (s.setFtq c v).bar k = s.bar k := rfl
@[simp] theorem State.setFtq_pool (s : State) (c : Nat) (v : List FtqEntry) (k : Nat) : (s.setFtq c v).pool k = s.pool k := rfl
@[simp] theorem State.setFtq_slot (s : State) (c : Nat) (v : List FtqEntry) (k : Nat) : (s.setFtq c v).slot k = s.slot k := rfl
@[simp] theorem State.setFtq_farPool (s : State) (c : Nat) (v : List FtqEntry) (k : Nat) : (s.setFtq c v).farPool k = s.farPool k := rfl
@[simp] theorem State.setFtq_port (s : State) (c : Nat) (v : List FtqEntry) (k : Nat) : (s.setFtq c v).port k = s.port k := rfl
@[simp] theorem State.setFtq_scEng (s : State) (c : Nat) (v : List FtqEntry) (k : Nat) : (s.setFtq c v).scEng k = s.scEng k := rfl
@[simp] theorem State.setFtq_session (s : State) (c : Nat) (v : List FtqEntry) (k j : Nat) : (s.setFtq c v).session k j = s.session k j := rfl
@[simp] theorem State.setFtq_mx (s : State) (c : Nat) (v : List FtqEntry) (k : Nat) : (s.setFtq c v).mx k = s.mx k := rfl
@[simp] theorem State.setFtq_life (s : State) (c : Nat) (v : List FtqEntry) (k : Nat) : (s.setFtq c v).life k = s.life k := rfl

/-! ### State.setBuf -/

@[simp] theorem State.setBuf_regs (s : State) (c b : Nat) (v : TileBuf) : (s.setBuf c b v).regs = s.regs := rfl
@[simp] theorem State.setBuf_cores (s : State) (c b : Nat) (v : TileBuf) : (s.setBuf c b v).cores = s.cores := rfl
@[simp] theorem State.setBuf_accs (s : State) (c b : Nat) (v : TileBuf) : (s.setBuf c b v).accs = s.accs := rfl
@[simp] theorem State.setBuf_ftq (s : State) (c b : Nat) (v : TileBuf) : (s.setBuf c b v).ftq = s.ftq := rfl
@[simp] theorem State.setBuf_tables (s : State) (c b : Nat) (v : TileBuf) : (s.setBuf c b v).tables = s.tables := rfl
@[simp] theorem State.setBuf_mem (s : State) (c b : Nat) (v : TileBuf) : (s.setBuf c b v).mem = s.mem := rfl
@[simp] theorem State.setBuf_qs (s : State) (c b : Nat) (v : TileBuf) : (s.setBuf c b v).qs = s.qs := rfl
@[simp] theorem State.setBuf_sync (s : State) (c b : Nat) (v : TileBuf) : (s.setBuf c b v).sync = s.sync := rfl
@[simp] theorem State.setBuf_tier (s : State) (c b : Nat) (v : TileBuf) : (s.setBuf c b v).tier = s.tier := rfl
@[simp] theorem State.setBuf_fab (s : State) (c b : Nat) (v : TileBuf) : (s.setBuf c b v).fab = s.fab := rfl
@[simp] theorem State.setBuf_sc (s : State) (c b : Nat) (v : TileBuf) : (s.setBuf c b v).sc = s.sc := rfl
@[simp] theorem State.setBuf_wear (s : State) (c b : Nat) (v : TileBuf) : (s.setBuf c b v).wear = s.wear := rfl
@[simp] theorem State.setBuf_sessions (s : State) (c b : Nat) (v : TileBuf) : (s.setBuf c b v).sessions = s.sessions := rfl
@[simp] theorem State.setBuf_media (s : State) (c b : Nat) (v : TileBuf) : (s.setBuf c b v).media = s.media := rfl
@[simp] theorem State.setBuf_pwr (s : State) (c b : Nat) (v : TileBuf) : (s.setBuf c b v).pwr = s.pwr := rfl
@[simp] theorem State.setBuf_mgmt (s : State) (c b : Nat) (v : TileBuf) : (s.setBuf c b v).mgmt = s.mgmt := rfl
@[simp] theorem State.setBuf_boot (s : State) (c b : Nat) (v : TileBuf) : (s.setBuf c b v).boot = s.boot := rfl
@[simp] theorem State.setBuf_pins (s : State) (c b : Nat) (v : TileBuf) : (s.setBuf c b v).pins = s.pins := rfl
@[simp] theorem State.setBuf_dev (s : State) (c b : Nat) (v : TileBuf) : (s.setBuf c b v).dev = s.dev := rfl
@[simp] theorem State.setBuf_devBusy (s : State) (c b : Nat) (v : TileBuf) : (s.setBuf c b v).devBusy = s.devBusy := rfl
@[simp] theorem State.setBuf_devCmdStatus (s : State) (c b : Nat) (v : TileBuf) : (s.setBuf c b v).devCmdStatus = s.devCmdStatus := rfl
@[simp] theorem State.setBuf_resetAt (s : State) (c b : Nat) (v : TileBuf) : (s.setBuf c b v).resetAt = s.resetAt := rfl
@[simp] theorem State.setBuf_ft (s : State) (c b : Nat) (v : TileBuf) : (s.setBuf c b v).ft = s.ft := rfl
@[simp] theorem State.setBuf_cycle (s : State) (c b : Nat) (v : TileBuf) : (s.setBuf c b v).cycle = s.cycle := rfl
@[simp] theorem State.setBuf_ninths (s : State) (c b : Nat) (v : TileBuf) : (s.setBuf c b v).ninths = s.ninths := rfl
@[simp] theorem State.setBuf_ftPrev (s : State) (c b : Nat) (v : TileBuf) : (s.setBuf c b v).ftPrev = s.ftPrev := rfl
@[simp] theorem State.setBuf_log (s : State) (c b : Nat) (v : TileBuf) : (s.setBuf c b v).log = s.log := rfl
@[simp] theorem State.setBuf_eventSeq (s : State) (c b : Nat) (v : TileBuf) : (s.setBuf c b v).eventSeq = s.eventSeq := rfl
@[simp] theorem State.setBuf_free (s : State) (c b : Nat) (v : TileBuf) : (s.setBuf c b v).free = s.free := rfl
@[simp] theorem State.setBuf_pending (s : State) (c b : Nat) (v : TileBuf) : (s.setBuf c b v).pending = s.pending := rfl
@[simp] theorem State.setBuf_reg (s : State) (c b : Nat) (v : TileBuf) (k : Nat) : (s.setBuf c b v).reg k = s.reg k := rfl
@[simp] theorem State.setBuf_core (s : State) (c b : Nat) (v : TileBuf) (k : Nat) : (s.setBuf c b v).core k = s.core k := rfl
@[simp] theorem State.setBuf_acc (s : State) (c b : Nat) (v : TileBuf) (k j : Nat) : (s.setBuf c b v).acc k j = s.acc k j := rfl
@[simp] theorem State.setBuf_ftqOf (s : State) (c b : Nat) (v : TileBuf) (k : Nat) : (s.setBuf c b v).ftqOf k = s.ftqOf k := rfl
@[simp] theorem State.setBuf_cline (s : State) (c b : Nat) (v : TileBuf) (k j m : Nat) : (s.setBuf c b v).cline k j m = s.cline k j m := rfl
@[simp] theorem State.setBuf_chan (s : State) (c b : Nat) (v : TileBuf) (k : Nat) : (s.setBuf c b v).chan k = s.chan k := rfl
@[simp] theorem State.setBuf_queue (s : State) (c b : Nat) (v : TileBuf) (k : Nat) : (s.setBuf c b v).queue k = s.queue k := rfl
@[simp] theorem State.setBuf_desc (s : State) (c b : Nat) (v : TileBuf) (k : Nat) : (s.setBuf c b v).desc k = s.desc k := rfl
@[simp] theorem State.setBuf_sem (s : State) (c b : Nat) (v : TileBuf) (k : Nat) : (s.setBuf c b v).sem k = s.sem k := rfl
@[simp] theorem State.setBuf_bar (s : State) (c b : Nat) (v : TileBuf) (k : Nat) : (s.setBuf c b v).bar k = s.bar k := rfl
@[simp] theorem State.setBuf_pool (s : State) (c b : Nat) (v : TileBuf) (k : Nat) : (s.setBuf c b v).pool k = s.pool k := rfl
@[simp] theorem State.setBuf_slot (s : State) (c b : Nat) (v : TileBuf) (k : Nat) : (s.setBuf c b v).slot k = s.slot k := rfl
@[simp] theorem State.setBuf_farPool (s : State) (c b : Nat) (v : TileBuf) (k : Nat) : (s.setBuf c b v).farPool k = s.farPool k := rfl
@[simp] theorem State.setBuf_port (s : State) (c b : Nat) (v : TileBuf) (k : Nat) : (s.setBuf c b v).port k = s.port k := rfl
@[simp] theorem State.setBuf_scEng (s : State) (c b : Nat) (v : TileBuf) (k : Nat) : (s.setBuf c b v).scEng k = s.scEng k := rfl
@[simp] theorem State.setBuf_session (s : State) (c b : Nat) (v : TileBuf) (k j : Nat) : (s.setBuf c b v).session k j = s.session k j := rfl
@[simp] theorem State.setBuf_mx (s : State) (c b : Nat) (v : TileBuf) (k : Nat) : (s.setBuf c b v).mx k = s.mx k := rfl
@[simp] theorem State.setBuf_life (s : State) (c b : Nat) (v : TileBuf) (k : Nat) : (s.setBuf c b v).life k = s.life k := rfl

/-! ### State.setCline -/

@[simp] theorem State.setCline_regs (s : State) (c i w : Nat) (v : CLine) : (s.setCline c i w v).regs = s.regs := rfl
@[simp] theorem State.setCline_cores (s : State) (c i w : Nat) (v : CLine) : (s.setCline c i w v).cores = s.cores := rfl
@[simp] theorem State.setCline_accs (s : State) (c i w : Nat) (v : CLine) : (s.setCline c i w v).accs = s.accs := rfl
@[simp] theorem State.setCline_ftq (s : State) (c i w : Nat) (v : CLine) : (s.setCline c i w v).ftq = s.ftq := rfl
@[simp] theorem State.setCline_bufs (s : State) (c i w : Nat) (v : CLine) : (s.setCline c i w v).bufs = s.bufs := rfl
@[simp] theorem State.setCline_tables (s : State) (c i w : Nat) (v : CLine) : (s.setCline c i w v).tables = s.tables := rfl
@[simp] theorem State.setCline_qs (s : State) (c i w : Nat) (v : CLine) : (s.setCline c i w v).qs = s.qs := rfl
@[simp] theorem State.setCline_sync (s : State) (c i w : Nat) (v : CLine) : (s.setCline c i w v).sync = s.sync := rfl
@[simp] theorem State.setCline_tier (s : State) (c i w : Nat) (v : CLine) : (s.setCline c i w v).tier = s.tier := rfl
@[simp] theorem State.setCline_fab (s : State) (c i w : Nat) (v : CLine) : (s.setCline c i w v).fab = s.fab := rfl
@[simp] theorem State.setCline_sc (s : State) (c i w : Nat) (v : CLine) : (s.setCline c i w v).sc = s.sc := rfl
@[simp] theorem State.setCline_wear (s : State) (c i w : Nat) (v : CLine) : (s.setCline c i w v).wear = s.wear := rfl
@[simp] theorem State.setCline_sessions (s : State) (c i w : Nat) (v : CLine) : (s.setCline c i w v).sessions = s.sessions := rfl
@[simp] theorem State.setCline_media (s : State) (c i w : Nat) (v : CLine) : (s.setCline c i w v).media = s.media := rfl
@[simp] theorem State.setCline_pwr (s : State) (c i w : Nat) (v : CLine) : (s.setCline c i w v).pwr = s.pwr := rfl
@[simp] theorem State.setCline_mgmt (s : State) (c i w : Nat) (v : CLine) : (s.setCline c i w v).mgmt = s.mgmt := rfl
@[simp] theorem State.setCline_boot (s : State) (c i w : Nat) (v : CLine) : (s.setCline c i w v).boot = s.boot := rfl
@[simp] theorem State.setCline_pins (s : State) (c i w : Nat) (v : CLine) : (s.setCline c i w v).pins = s.pins := rfl
@[simp] theorem State.setCline_dev (s : State) (c i w : Nat) (v : CLine) : (s.setCline c i w v).dev = s.dev := rfl
@[simp] theorem State.setCline_devBusy (s : State) (c i w : Nat) (v : CLine) : (s.setCline c i w v).devBusy = s.devBusy := rfl
@[simp] theorem State.setCline_devCmdStatus (s : State) (c i w : Nat) (v : CLine) : (s.setCline c i w v).devCmdStatus = s.devCmdStatus := rfl
@[simp] theorem State.setCline_resetAt (s : State) (c i w : Nat) (v : CLine) : (s.setCline c i w v).resetAt = s.resetAt := rfl
@[simp] theorem State.setCline_ft (s : State) (c i w : Nat) (v : CLine) : (s.setCline c i w v).ft = s.ft := rfl
@[simp] theorem State.setCline_cycle (s : State) (c i w : Nat) (v : CLine) : (s.setCline c i w v).cycle = s.cycle := rfl
@[simp] theorem State.setCline_ninths (s : State) (c i w : Nat) (v : CLine) : (s.setCline c i w v).ninths = s.ninths := rfl
@[simp] theorem State.setCline_ftPrev (s : State) (c i w : Nat) (v : CLine) : (s.setCline c i w v).ftPrev = s.ftPrev := rfl
@[simp] theorem State.setCline_log (s : State) (c i w : Nat) (v : CLine) : (s.setCline c i w v).log = s.log := rfl
@[simp] theorem State.setCline_eventSeq (s : State) (c i w : Nat) (v : CLine) : (s.setCline c i w v).eventSeq = s.eventSeq := rfl
@[simp] theorem State.setCline_free (s : State) (c i w : Nat) (v : CLine) : (s.setCline c i w v).free = s.free := rfl
@[simp] theorem State.setCline_pending (s : State) (c i w : Nat) (v : CLine) : (s.setCline c i w v).pending = s.pending := rfl
@[simp] theorem State.setCline_reg (s : State) (c i w : Nat) (v : CLine) (k : Nat) : (s.setCline c i w v).reg k = s.reg k := rfl
@[simp] theorem State.setCline_core (s : State) (c i w : Nat) (v : CLine) (k : Nat) : (s.setCline c i w v).core k = s.core k := rfl
@[simp] theorem State.setCline_acc (s : State) (c i w : Nat) (v : CLine) (k j : Nat) : (s.setCline c i w v).acc k j = s.acc k j := rfl
@[simp] theorem State.setCline_ftqOf (s : State) (c i w : Nat) (v : CLine) (k : Nat) : (s.setCline c i w v).ftqOf k = s.ftqOf k := rfl
@[simp] theorem State.setCline_buf (s : State) (c i w : Nat) (v : CLine) (k j : Nat) : (s.setCline c i w v).buf k j = s.buf k j := rfl
@[simp] theorem State.setCline_queue (s : State) (c i w : Nat) (v : CLine) (k : Nat) : (s.setCline c i w v).queue k = s.queue k := rfl
@[simp] theorem State.setCline_desc (s : State) (c i w : Nat) (v : CLine) (k : Nat) : (s.setCline c i w v).desc k = s.desc k := rfl
@[simp] theorem State.setCline_sem (s : State) (c i w : Nat) (v : CLine) (k : Nat) : (s.setCline c i w v).sem k = s.sem k := rfl
@[simp] theorem State.setCline_bar (s : State) (c i w : Nat) (v : CLine) (k : Nat) : (s.setCline c i w v).bar k = s.bar k := rfl
@[simp] theorem State.setCline_pool (s : State) (c i w : Nat) (v : CLine) (k : Nat) : (s.setCline c i w v).pool k = s.pool k := rfl
@[simp] theorem State.setCline_slot (s : State) (c i w : Nat) (v : CLine) (k : Nat) : (s.setCline c i w v).slot k = s.slot k := rfl
@[simp] theorem State.setCline_farPool (s : State) (c i w : Nat) (v : CLine) (k : Nat) : (s.setCline c i w v).farPool k = s.farPool k := rfl
@[simp] theorem State.setCline_port (s : State) (c i w : Nat) (v : CLine) (k : Nat) : (s.setCline c i w v).port k = s.port k := rfl
@[simp] theorem State.setCline_scEng (s : State) (c i w : Nat) (v : CLine) (k : Nat) : (s.setCline c i w v).scEng k = s.scEng k := rfl
@[simp] theorem State.setCline_session (s : State) (c i w : Nat) (v : CLine) (k j : Nat) : (s.setCline c i w v).session k j = s.session k j := rfl
@[simp] theorem State.setCline_mx (s : State) (c i w : Nat) (v : CLine) (k : Nat) : (s.setCline c i w v).mx k = s.mx k := rfl
@[simp] theorem State.setCline_life (s : State) (c i w : Nat) (v : CLine) (k : Nat) : (s.setCline c i w v).life k = s.life k := rfl

/-! ### State.setChan -/

@[simp] theorem State.setChan_regs (s : State) (c : Nat) (v : Chan) : (s.setChan c v).regs = s.regs := rfl
@[simp] theorem State.setChan_cores (s : State) (c : Nat) (v : Chan) : (s.setChan c v).cores = s.cores := rfl
@[simp] theorem State.setChan_accs (s : State) (c : Nat) (v : Chan) : (s.setChan c v).accs = s.accs := rfl
@[simp] theorem State.setChan_ftq (s : State) (c : Nat) (v : Chan) : (s.setChan c v).ftq = s.ftq := rfl
@[simp] theorem State.setChan_bufs (s : State) (c : Nat) (v : Chan) : (s.setChan c v).bufs = s.bufs := rfl
@[simp] theorem State.setChan_tables (s : State) (c : Nat) (v : Chan) : (s.setChan c v).tables = s.tables := rfl
@[simp] theorem State.setChan_qs (s : State) (c : Nat) (v : Chan) : (s.setChan c v).qs = s.qs := rfl
@[simp] theorem State.setChan_sync (s : State) (c : Nat) (v : Chan) : (s.setChan c v).sync = s.sync := rfl
@[simp] theorem State.setChan_tier (s : State) (c : Nat) (v : Chan) : (s.setChan c v).tier = s.tier := rfl
@[simp] theorem State.setChan_fab (s : State) (c : Nat) (v : Chan) : (s.setChan c v).fab = s.fab := rfl
@[simp] theorem State.setChan_sc (s : State) (c : Nat) (v : Chan) : (s.setChan c v).sc = s.sc := rfl
@[simp] theorem State.setChan_wear (s : State) (c : Nat) (v : Chan) : (s.setChan c v).wear = s.wear := rfl
@[simp] theorem State.setChan_sessions (s : State) (c : Nat) (v : Chan) : (s.setChan c v).sessions = s.sessions := rfl
@[simp] theorem State.setChan_media (s : State) (c : Nat) (v : Chan) : (s.setChan c v).media = s.media := rfl
@[simp] theorem State.setChan_pwr (s : State) (c : Nat) (v : Chan) : (s.setChan c v).pwr = s.pwr := rfl
@[simp] theorem State.setChan_mgmt (s : State) (c : Nat) (v : Chan) : (s.setChan c v).mgmt = s.mgmt := rfl
@[simp] theorem State.setChan_boot (s : State) (c : Nat) (v : Chan) : (s.setChan c v).boot = s.boot := rfl
@[simp] theorem State.setChan_pins (s : State) (c : Nat) (v : Chan) : (s.setChan c v).pins = s.pins := rfl
@[simp] theorem State.setChan_dev (s : State) (c : Nat) (v : Chan) : (s.setChan c v).dev = s.dev := rfl
@[simp] theorem State.setChan_devBusy (s : State) (c : Nat) (v : Chan) : (s.setChan c v).devBusy = s.devBusy := rfl
@[simp] theorem State.setChan_devCmdStatus (s : State) (c : Nat) (v : Chan) : (s.setChan c v).devCmdStatus = s.devCmdStatus := rfl
@[simp] theorem State.setChan_resetAt (s : State) (c : Nat) (v : Chan) : (s.setChan c v).resetAt = s.resetAt := rfl
@[simp] theorem State.setChan_ft (s : State) (c : Nat) (v : Chan) : (s.setChan c v).ft = s.ft := rfl
@[simp] theorem State.setChan_cycle (s : State) (c : Nat) (v : Chan) : (s.setChan c v).cycle = s.cycle := rfl
@[simp] theorem State.setChan_ninths (s : State) (c : Nat) (v : Chan) : (s.setChan c v).ninths = s.ninths := rfl
@[simp] theorem State.setChan_ftPrev (s : State) (c : Nat) (v : Chan) : (s.setChan c v).ftPrev = s.ftPrev := rfl
@[simp] theorem State.setChan_log (s : State) (c : Nat) (v : Chan) : (s.setChan c v).log = s.log := rfl
@[simp] theorem State.setChan_eventSeq (s : State) (c : Nat) (v : Chan) : (s.setChan c v).eventSeq = s.eventSeq := rfl
@[simp] theorem State.setChan_free (s : State) (c : Nat) (v : Chan) : (s.setChan c v).free = s.free := rfl
@[simp] theorem State.setChan_pending (s : State) (c : Nat) (v : Chan) : (s.setChan c v).pending = s.pending := rfl
@[simp] theorem State.setChan_reg (s : State) (c : Nat) (v : Chan) (k : Nat) : (s.setChan c v).reg k = s.reg k := rfl
@[simp] theorem State.setChan_core (s : State) (c : Nat) (v : Chan) (k : Nat) : (s.setChan c v).core k = s.core k := rfl
@[simp] theorem State.setChan_acc (s : State) (c : Nat) (v : Chan) (k j : Nat) : (s.setChan c v).acc k j = s.acc k j := rfl
@[simp] theorem State.setChan_ftqOf (s : State) (c : Nat) (v : Chan) (k : Nat) : (s.setChan c v).ftqOf k = s.ftqOf k := rfl
@[simp] theorem State.setChan_buf (s : State) (c : Nat) (v : Chan) (k j : Nat) : (s.setChan c v).buf k j = s.buf k j := rfl
@[simp] theorem State.setChan_queue (s : State) (c : Nat) (v : Chan) (k : Nat) : (s.setChan c v).queue k = s.queue k := rfl
@[simp] theorem State.setChan_desc (s : State) (c : Nat) (v : Chan) (k : Nat) : (s.setChan c v).desc k = s.desc k := rfl
@[simp] theorem State.setChan_sem (s : State) (c : Nat) (v : Chan) (k : Nat) : (s.setChan c v).sem k = s.sem k := rfl
@[simp] theorem State.setChan_bar (s : State) (c : Nat) (v : Chan) (k : Nat) : (s.setChan c v).bar k = s.bar k := rfl
@[simp] theorem State.setChan_pool (s : State) (c : Nat) (v : Chan) (k : Nat) : (s.setChan c v).pool k = s.pool k := rfl
@[simp] theorem State.setChan_slot (s : State) (c : Nat) (v : Chan) (k : Nat) : (s.setChan c v).slot k = s.slot k := rfl
@[simp] theorem State.setChan_farPool (s : State) (c : Nat) (v : Chan) (k : Nat) : (s.setChan c v).farPool k = s.farPool k := rfl
@[simp] theorem State.setChan_port (s : State) (c : Nat) (v : Chan) (k : Nat) : (s.setChan c v).port k = s.port k := rfl
@[simp] theorem State.setChan_scEng (s : State) (c : Nat) (v : Chan) (k : Nat) : (s.setChan c v).scEng k = s.scEng k := rfl
@[simp] theorem State.setChan_session (s : State) (c : Nat) (v : Chan) (k j : Nat) : (s.setChan c v).session k j = s.session k j := rfl
@[simp] theorem State.setChan_mx (s : State) (c : Nat) (v : Chan) (k : Nat) : (s.setChan c v).mx k = s.mx k := rfl
@[simp] theorem State.setChan_life (s : State) (c : Nat) (v : Chan) (k : Nat) : (s.setChan c v).life k = s.life k := rfl

/-! ### State.putNear -/

@[simp] theorem State.putNear_regs (s : State) (a : Nat) (l : List Byte) : (s.putNear a l).regs = s.regs := rfl
@[simp] theorem State.putNear_cores (s : State) (a : Nat) (l : List Byte) : (s.putNear a l).cores = s.cores := rfl
@[simp] theorem State.putNear_accs (s : State) (a : Nat) (l : List Byte) : (s.putNear a l).accs = s.accs := rfl
@[simp] theorem State.putNear_ftq (s : State) (a : Nat) (l : List Byte) : (s.putNear a l).ftq = s.ftq := rfl
@[simp] theorem State.putNear_bufs (s : State) (a : Nat) (l : List Byte) : (s.putNear a l).bufs = s.bufs := rfl
@[simp] theorem State.putNear_tables (s : State) (a : Nat) (l : List Byte) : (s.putNear a l).tables = s.tables := rfl
@[simp] theorem State.putNear_qs (s : State) (a : Nat) (l : List Byte) : (s.putNear a l).qs = s.qs := rfl
@[simp] theorem State.putNear_sync (s : State) (a : Nat) (l : List Byte) : (s.putNear a l).sync = s.sync := rfl
@[simp] theorem State.putNear_tier (s : State) (a : Nat) (l : List Byte) : (s.putNear a l).tier = s.tier := rfl
@[simp] theorem State.putNear_fab (s : State) (a : Nat) (l : List Byte) : (s.putNear a l).fab = s.fab := rfl
@[simp] theorem State.putNear_sc (s : State) (a : Nat) (l : List Byte) : (s.putNear a l).sc = s.sc := rfl
@[simp] theorem State.putNear_wear (s : State) (a : Nat) (l : List Byte) : (s.putNear a l).wear = s.wear := rfl
@[simp] theorem State.putNear_sessions (s : State) (a : Nat) (l : List Byte) : (s.putNear a l).sessions = s.sessions := rfl
@[simp] theorem State.putNear_media (s : State) (a : Nat) (l : List Byte) : (s.putNear a l).media = s.media := rfl
@[simp] theorem State.putNear_pwr (s : State) (a : Nat) (l : List Byte) : (s.putNear a l).pwr = s.pwr := rfl
@[simp] theorem State.putNear_mgmt (s : State) (a : Nat) (l : List Byte) : (s.putNear a l).mgmt = s.mgmt := rfl
@[simp] theorem State.putNear_boot (s : State) (a : Nat) (l : List Byte) : (s.putNear a l).boot = s.boot := rfl
@[simp] theorem State.putNear_pins (s : State) (a : Nat) (l : List Byte) : (s.putNear a l).pins = s.pins := rfl
@[simp] theorem State.putNear_dev (s : State) (a : Nat) (l : List Byte) : (s.putNear a l).dev = s.dev := rfl
@[simp] theorem State.putNear_devBusy (s : State) (a : Nat) (l : List Byte) : (s.putNear a l).devBusy = s.devBusy := rfl
@[simp] theorem State.putNear_devCmdStatus (s : State) (a : Nat) (l : List Byte) : (s.putNear a l).devCmdStatus = s.devCmdStatus := rfl
@[simp] theorem State.putNear_resetAt (s : State) (a : Nat) (l : List Byte) : (s.putNear a l).resetAt = s.resetAt := rfl
@[simp] theorem State.putNear_ft (s : State) (a : Nat) (l : List Byte) : (s.putNear a l).ft = s.ft := rfl
@[simp] theorem State.putNear_cycle (s : State) (a : Nat) (l : List Byte) : (s.putNear a l).cycle = s.cycle := rfl
@[simp] theorem State.putNear_ninths (s : State) (a : Nat) (l : List Byte) : (s.putNear a l).ninths = s.ninths := rfl
@[simp] theorem State.putNear_ftPrev (s : State) (a : Nat) (l : List Byte) : (s.putNear a l).ftPrev = s.ftPrev := rfl
@[simp] theorem State.putNear_log (s : State) (a : Nat) (l : List Byte) : (s.putNear a l).log = s.log := rfl
@[simp] theorem State.putNear_eventSeq (s : State) (a : Nat) (l : List Byte) : (s.putNear a l).eventSeq = s.eventSeq := rfl
@[simp] theorem State.putNear_free (s : State) (a : Nat) (l : List Byte) : (s.putNear a l).free = s.free := rfl
@[simp] theorem State.putNear_pending (s : State) (a : Nat) (l : List Byte) : (s.putNear a l).pending = s.pending := rfl
@[simp] theorem State.putNear_reg (s : State) (a : Nat) (l : List Byte) (k : Nat) : (s.putNear a l).reg k = s.reg k := rfl
@[simp] theorem State.putNear_core (s : State) (a : Nat) (l : List Byte) (k : Nat) : (s.putNear a l).core k = s.core k := rfl
@[simp] theorem State.putNear_acc (s : State) (a : Nat) (l : List Byte) (k j : Nat) : (s.putNear a l).acc k j = s.acc k j := rfl
@[simp] theorem State.putNear_ftqOf (s : State) (a : Nat) (l : List Byte) (k : Nat) : (s.putNear a l).ftqOf k = s.ftqOf k := rfl
@[simp] theorem State.putNear_buf (s : State) (a : Nat) (l : List Byte) (k j : Nat) : (s.putNear a l).buf k j = s.buf k j := rfl
@[simp] theorem State.putNear_queue (s : State) (a : Nat) (l : List Byte) (k : Nat) : (s.putNear a l).queue k = s.queue k := rfl
@[simp] theorem State.putNear_desc (s : State) (a : Nat) (l : List Byte) (k : Nat) : (s.putNear a l).desc k = s.desc k := rfl
@[simp] theorem State.putNear_sem (s : State) (a : Nat) (l : List Byte) (k : Nat) : (s.putNear a l).sem k = s.sem k := rfl
@[simp] theorem State.putNear_bar (s : State) (a : Nat) (l : List Byte) (k : Nat) : (s.putNear a l).bar k = s.bar k := rfl
@[simp] theorem State.putNear_pool (s : State) (a : Nat) (l : List Byte) (k : Nat) : (s.putNear a l).pool k = s.pool k := rfl
@[simp] theorem State.putNear_slot (s : State) (a : Nat) (l : List Byte) (k : Nat) : (s.putNear a l).slot k = s.slot k := rfl
@[simp] theorem State.putNear_farPool (s : State) (a : Nat) (l : List Byte) (k : Nat) : (s.putNear a l).farPool k = s.farPool k := rfl
@[simp] theorem State.putNear_port (s : State) (a : Nat) (l : List Byte) (k : Nat) : (s.putNear a l).port k = s.port k := rfl
@[simp] theorem State.putNear_scEng (s : State) (a : Nat) (l : List Byte) (k : Nat) : (s.putNear a l).scEng k = s.scEng k := rfl
@[simp] theorem State.putNear_session (s : State) (a : Nat) (l : List Byte) (k j : Nat) : (s.putNear a l).session k j = s.session k j := rfl
@[simp] theorem State.putNear_mx (s : State) (a : Nat) (l : List Byte) (k : Nat) : (s.putNear a l).mx k = s.mx k := rfl
@[simp] theorem State.putNear_life (s : State) (a : Nat) (l : List Byte) (k : Nat) : (s.putNear a l).life k = s.life k := rfl

/-! ### State.putTile -/

@[simp] theorem State.putTile_regs (s : State) (c o : Nat) (l : List Byte) : (s.putTile c o l).regs = s.regs := rfl
@[simp] theorem State.putTile_cores (s : State) (c o : Nat) (l : List Byte) : (s.putTile c o l).cores = s.cores := rfl
@[simp] theorem State.putTile_accs (s : State) (c o : Nat) (l : List Byte) : (s.putTile c o l).accs = s.accs := rfl
@[simp] theorem State.putTile_ftq (s : State) (c o : Nat) (l : List Byte) : (s.putTile c o l).ftq = s.ftq := rfl
@[simp] theorem State.putTile_bufs (s : State) (c o : Nat) (l : List Byte) : (s.putTile c o l).bufs = s.bufs := rfl
@[simp] theorem State.putTile_tables (s : State) (c o : Nat) (l : List Byte) : (s.putTile c o l).tables = s.tables := rfl
@[simp] theorem State.putTile_qs (s : State) (c o : Nat) (l : List Byte) : (s.putTile c o l).qs = s.qs := rfl
@[simp] theorem State.putTile_sync (s : State) (c o : Nat) (l : List Byte) : (s.putTile c o l).sync = s.sync := rfl
@[simp] theorem State.putTile_tier (s : State) (c o : Nat) (l : List Byte) : (s.putTile c o l).tier = s.tier := rfl
@[simp] theorem State.putTile_fab (s : State) (c o : Nat) (l : List Byte) : (s.putTile c o l).fab = s.fab := rfl
@[simp] theorem State.putTile_sc (s : State) (c o : Nat) (l : List Byte) : (s.putTile c o l).sc = s.sc := rfl
@[simp] theorem State.putTile_wear (s : State) (c o : Nat) (l : List Byte) : (s.putTile c o l).wear = s.wear := rfl
@[simp] theorem State.putTile_sessions (s : State) (c o : Nat) (l : List Byte) : (s.putTile c o l).sessions = s.sessions := rfl
@[simp] theorem State.putTile_media (s : State) (c o : Nat) (l : List Byte) : (s.putTile c o l).media = s.media := rfl
@[simp] theorem State.putTile_pwr (s : State) (c o : Nat) (l : List Byte) : (s.putTile c o l).pwr = s.pwr := rfl
@[simp] theorem State.putTile_mgmt (s : State) (c o : Nat) (l : List Byte) : (s.putTile c o l).mgmt = s.mgmt := rfl
@[simp] theorem State.putTile_boot (s : State) (c o : Nat) (l : List Byte) : (s.putTile c o l).boot = s.boot := rfl
@[simp] theorem State.putTile_pins (s : State) (c o : Nat) (l : List Byte) : (s.putTile c o l).pins = s.pins := rfl
@[simp] theorem State.putTile_dev (s : State) (c o : Nat) (l : List Byte) : (s.putTile c o l).dev = s.dev := rfl
@[simp] theorem State.putTile_devBusy (s : State) (c o : Nat) (l : List Byte) : (s.putTile c o l).devBusy = s.devBusy := rfl
@[simp] theorem State.putTile_devCmdStatus (s : State) (c o : Nat) (l : List Byte) : (s.putTile c o l).devCmdStatus = s.devCmdStatus := rfl
@[simp] theorem State.putTile_resetAt (s : State) (c o : Nat) (l : List Byte) : (s.putTile c o l).resetAt = s.resetAt := rfl
@[simp] theorem State.putTile_ft (s : State) (c o : Nat) (l : List Byte) : (s.putTile c o l).ft = s.ft := rfl
@[simp] theorem State.putTile_cycle (s : State) (c o : Nat) (l : List Byte) : (s.putTile c o l).cycle = s.cycle := rfl
@[simp] theorem State.putTile_ninths (s : State) (c o : Nat) (l : List Byte) : (s.putTile c o l).ninths = s.ninths := rfl
@[simp] theorem State.putTile_ftPrev (s : State) (c o : Nat) (l : List Byte) : (s.putTile c o l).ftPrev = s.ftPrev := rfl
@[simp] theorem State.putTile_log (s : State) (c o : Nat) (l : List Byte) : (s.putTile c o l).log = s.log := rfl
@[simp] theorem State.putTile_eventSeq (s : State) (c o : Nat) (l : List Byte) : (s.putTile c o l).eventSeq = s.eventSeq := rfl
@[simp] theorem State.putTile_free (s : State) (c o : Nat) (l : List Byte) : (s.putTile c o l).free = s.free := rfl
@[simp] theorem State.putTile_pending (s : State) (c o : Nat) (l : List Byte) : (s.putTile c o l).pending = s.pending := rfl
@[simp] theorem State.putTile_reg (s : State) (c o : Nat) (l : List Byte) (k : Nat) : (s.putTile c o l).reg k = s.reg k := rfl
@[simp] theorem State.putTile_core (s : State) (c o : Nat) (l : List Byte) (k : Nat) : (s.putTile c o l).core k = s.core k := rfl
@[simp] theorem State.putTile_acc (s : State) (c o : Nat) (l : List Byte) (k j : Nat) : (s.putTile c o l).acc k j = s.acc k j := rfl
@[simp] theorem State.putTile_ftqOf (s : State) (c o : Nat) (l : List Byte) (k : Nat) : (s.putTile c o l).ftqOf k = s.ftqOf k := rfl
@[simp] theorem State.putTile_buf (s : State) (c o : Nat) (l : List Byte) (k j : Nat) : (s.putTile c o l).buf k j = s.buf k j := rfl
@[simp] theorem State.putTile_queue (s : State) (c o : Nat) (l : List Byte) (k : Nat) : (s.putTile c o l).queue k = s.queue k := rfl
@[simp] theorem State.putTile_desc (s : State) (c o : Nat) (l : List Byte) (k : Nat) : (s.putTile c o l).desc k = s.desc k := rfl
@[simp] theorem State.putTile_sem (s : State) (c o : Nat) (l : List Byte) (k : Nat) : (s.putTile c o l).sem k = s.sem k := rfl
@[simp] theorem State.putTile_bar (s : State) (c o : Nat) (l : List Byte) (k : Nat) : (s.putTile c o l).bar k = s.bar k := rfl
@[simp] theorem State.putTile_pool (s : State) (c o : Nat) (l : List Byte) (k : Nat) : (s.putTile c o l).pool k = s.pool k := rfl
@[simp] theorem State.putTile_slot (s : State) (c o : Nat) (l : List Byte) (k : Nat) : (s.putTile c o l).slot k = s.slot k := rfl
@[simp] theorem State.putTile_farPool (s : State) (c o : Nat) (l : List Byte) (k : Nat) : (s.putTile c o l).farPool k = s.farPool k := rfl
@[simp] theorem State.putTile_port (s : State) (c o : Nat) (l : List Byte) (k : Nat) : (s.putTile c o l).port k = s.port k := rfl
@[simp] theorem State.putTile_scEng (s : State) (c o : Nat) (l : List Byte) (k : Nat) : (s.putTile c o l).scEng k = s.scEng k := rfl
@[simp] theorem State.putTile_session (s : State) (c o : Nat) (l : List Byte) (k j : Nat) : (s.putTile c o l).session k j = s.session k j := rfl
@[simp] theorem State.putTile_mx (s : State) (c o : Nat) (l : List Byte) (k : Nat) : (s.putTile c o l).mx k = s.mx k := rfl
@[simp] theorem State.putTile_life (s : State) (c o : Nat) (l : List Byte) (k : Nat) : (s.putTile c o l).life k = s.life k := rfl

/-! ### State.setQueue -/

@[simp] theorem State.setQueue_regs (s : State) (q : Nat) (v : Queue) : (s.setQueue q v).regs = s.regs := rfl
@[simp] theorem State.setQueue_cores (s : State) (q : Nat) (v : Queue) : (s.setQueue q v).cores = s.cores := rfl
@[simp] theorem State.setQueue_accs (s : State) (q : Nat) (v : Queue) : (s.setQueue q v).accs = s.accs := rfl
@[simp] theorem State.setQueue_ftq (s : State) (q : Nat) (v : Queue) : (s.setQueue q v).ftq = s.ftq := rfl
@[simp] theorem State.setQueue_bufs (s : State) (q : Nat) (v : Queue) : (s.setQueue q v).bufs = s.bufs := rfl
@[simp] theorem State.setQueue_tables (s : State) (q : Nat) (v : Queue) : (s.setQueue q v).tables = s.tables := rfl
@[simp] theorem State.setQueue_mem (s : State) (q : Nat) (v : Queue) : (s.setQueue q v).mem = s.mem := rfl
@[simp] theorem State.setQueue_sync (s : State) (q : Nat) (v : Queue) : (s.setQueue q v).sync = s.sync := rfl
@[simp] theorem State.setQueue_tier (s : State) (q : Nat) (v : Queue) : (s.setQueue q v).tier = s.tier := rfl
@[simp] theorem State.setQueue_fab (s : State) (q : Nat) (v : Queue) : (s.setQueue q v).fab = s.fab := rfl
@[simp] theorem State.setQueue_sc (s : State) (q : Nat) (v : Queue) : (s.setQueue q v).sc = s.sc := rfl
@[simp] theorem State.setQueue_wear (s : State) (q : Nat) (v : Queue) : (s.setQueue q v).wear = s.wear := rfl
@[simp] theorem State.setQueue_sessions (s : State) (q : Nat) (v : Queue) : (s.setQueue q v).sessions = s.sessions := rfl
@[simp] theorem State.setQueue_media (s : State) (q : Nat) (v : Queue) : (s.setQueue q v).media = s.media := rfl
@[simp] theorem State.setQueue_pwr (s : State) (q : Nat) (v : Queue) : (s.setQueue q v).pwr = s.pwr := rfl
@[simp] theorem State.setQueue_mgmt (s : State) (q : Nat) (v : Queue) : (s.setQueue q v).mgmt = s.mgmt := rfl
@[simp] theorem State.setQueue_boot (s : State) (q : Nat) (v : Queue) : (s.setQueue q v).boot = s.boot := rfl
@[simp] theorem State.setQueue_pins (s : State) (q : Nat) (v : Queue) : (s.setQueue q v).pins = s.pins := rfl
@[simp] theorem State.setQueue_dev (s : State) (q : Nat) (v : Queue) : (s.setQueue q v).dev = s.dev := rfl
@[simp] theorem State.setQueue_devBusy (s : State) (q : Nat) (v : Queue) : (s.setQueue q v).devBusy = s.devBusy := rfl
@[simp] theorem State.setQueue_devCmdStatus (s : State) (q : Nat) (v : Queue) : (s.setQueue q v).devCmdStatus = s.devCmdStatus := rfl
@[simp] theorem State.setQueue_resetAt (s : State) (q : Nat) (v : Queue) : (s.setQueue q v).resetAt = s.resetAt := rfl
@[simp] theorem State.setQueue_ft (s : State) (q : Nat) (v : Queue) : (s.setQueue q v).ft = s.ft := rfl
@[simp] theorem State.setQueue_cycle (s : State) (q : Nat) (v : Queue) : (s.setQueue q v).cycle = s.cycle := rfl
@[simp] theorem State.setQueue_ninths (s : State) (q : Nat) (v : Queue) : (s.setQueue q v).ninths = s.ninths := rfl
@[simp] theorem State.setQueue_ftPrev (s : State) (q : Nat) (v : Queue) : (s.setQueue q v).ftPrev = s.ftPrev := rfl
@[simp] theorem State.setQueue_log (s : State) (q : Nat) (v : Queue) : (s.setQueue q v).log = s.log := rfl
@[simp] theorem State.setQueue_eventSeq (s : State) (q : Nat) (v : Queue) : (s.setQueue q v).eventSeq = s.eventSeq := rfl
@[simp] theorem State.setQueue_free (s : State) (q : Nat) (v : Queue) : (s.setQueue q v).free = s.free := rfl
@[simp] theorem State.setQueue_pending (s : State) (q : Nat) (v : Queue) : (s.setQueue q v).pending = s.pending := rfl
@[simp] theorem State.setQueue_reg (s : State) (q : Nat) (v : Queue) (k : Nat) : (s.setQueue q v).reg k = s.reg k := rfl
@[simp] theorem State.setQueue_core (s : State) (q : Nat) (v : Queue) (k : Nat) : (s.setQueue q v).core k = s.core k := rfl
@[simp] theorem State.setQueue_acc (s : State) (q : Nat) (v : Queue) (k j : Nat) : (s.setQueue q v).acc k j = s.acc k j := rfl
@[simp] theorem State.setQueue_ftqOf (s : State) (q : Nat) (v : Queue) (k : Nat) : (s.setQueue q v).ftqOf k = s.ftqOf k := rfl
@[simp] theorem State.setQueue_buf (s : State) (q : Nat) (v : Queue) (k j : Nat) : (s.setQueue q v).buf k j = s.buf k j := rfl
@[simp] theorem State.setQueue_cline (s : State) (q : Nat) (v : Queue) (k j m : Nat) : (s.setQueue q v).cline k j m = s.cline k j m := rfl
@[simp] theorem State.setQueue_chan (s : State) (q : Nat) (v : Queue) (k : Nat) : (s.setQueue q v).chan k = s.chan k := rfl
@[simp] theorem State.setQueue_sem (s : State) (q : Nat) (v : Queue) (k : Nat) : (s.setQueue q v).sem k = s.sem k := rfl
@[simp] theorem State.setQueue_bar (s : State) (q : Nat) (v : Queue) (k : Nat) : (s.setQueue q v).bar k = s.bar k := rfl
@[simp] theorem State.setQueue_pool (s : State) (q : Nat) (v : Queue) (k : Nat) : (s.setQueue q v).pool k = s.pool k := rfl
@[simp] theorem State.setQueue_slot (s : State) (q : Nat) (v : Queue) (k : Nat) : (s.setQueue q v).slot k = s.slot k := rfl
@[simp] theorem State.setQueue_farPool (s : State) (q : Nat) (v : Queue) (k : Nat) : (s.setQueue q v).farPool k = s.farPool k := rfl
@[simp] theorem State.setQueue_port (s : State) (q : Nat) (v : Queue) (k : Nat) : (s.setQueue q v).port k = s.port k := rfl
@[simp] theorem State.setQueue_scEng (s : State) (q : Nat) (v : Queue) (k : Nat) : (s.setQueue q v).scEng k = s.scEng k := rfl
@[simp] theorem State.setQueue_session (s : State) (q : Nat) (v : Queue) (k j : Nat) : (s.setQueue q v).session k j = s.session k j := rfl
@[simp] theorem State.setQueue_mx (s : State) (q : Nat) (v : Queue) (k : Nat) : (s.setQueue q v).mx k = s.mx k := rfl
@[simp] theorem State.setQueue_life (s : State) (q : Nat) (v : Queue) (k : Nat) : (s.setQueue q v).life k = s.life k := rfl

/-! ### State.setDesc -/

@[simp] theorem State.setDesc_regs (s : State) (d : Desc) : (s.setDesc d).regs = s.regs := rfl
@[simp] theorem State.setDesc_cores (s : State) (d : Desc) : (s.setDesc d).cores = s.cores := rfl
@[simp] theorem State.setDesc_accs (s : State) (d : Desc) : (s.setDesc d).accs = s.accs := rfl
@[simp] theorem State.setDesc_ftq (s : State) (d : Desc) : (s.setDesc d).ftq = s.ftq := rfl
@[simp] theorem State.setDesc_bufs (s : State) (d : Desc) : (s.setDesc d).bufs = s.bufs := rfl
@[simp] theorem State.setDesc_tables (s : State) (d : Desc) : (s.setDesc d).tables = s.tables := rfl
@[simp] theorem State.setDesc_mem (s : State) (d : Desc) : (s.setDesc d).mem = s.mem := rfl
@[simp] theorem State.setDesc_sync (s : State) (d : Desc) : (s.setDesc d).sync = s.sync := rfl
@[simp] theorem State.setDesc_tier (s : State) (d : Desc) : (s.setDesc d).tier = s.tier := rfl
@[simp] theorem State.setDesc_fab (s : State) (d : Desc) : (s.setDesc d).fab = s.fab := rfl
@[simp] theorem State.setDesc_sc (s : State) (d : Desc) : (s.setDesc d).sc = s.sc := rfl
@[simp] theorem State.setDesc_wear (s : State) (d : Desc) : (s.setDesc d).wear = s.wear := rfl
@[simp] theorem State.setDesc_sessions (s : State) (d : Desc) : (s.setDesc d).sessions = s.sessions := rfl
@[simp] theorem State.setDesc_media (s : State) (d : Desc) : (s.setDesc d).media = s.media := rfl
@[simp] theorem State.setDesc_pwr (s : State) (d : Desc) : (s.setDesc d).pwr = s.pwr := rfl
@[simp] theorem State.setDesc_mgmt (s : State) (d : Desc) : (s.setDesc d).mgmt = s.mgmt := rfl
@[simp] theorem State.setDesc_boot (s : State) (d : Desc) : (s.setDesc d).boot = s.boot := rfl
@[simp] theorem State.setDesc_pins (s : State) (d : Desc) : (s.setDesc d).pins = s.pins := rfl
@[simp] theorem State.setDesc_dev (s : State) (d : Desc) : (s.setDesc d).dev = s.dev := rfl
@[simp] theorem State.setDesc_devBusy (s : State) (d : Desc) : (s.setDesc d).devBusy = s.devBusy := rfl
@[simp] theorem State.setDesc_devCmdStatus (s : State) (d : Desc) : (s.setDesc d).devCmdStatus = s.devCmdStatus := rfl
@[simp] theorem State.setDesc_resetAt (s : State) (d : Desc) : (s.setDesc d).resetAt = s.resetAt := rfl
@[simp] theorem State.setDesc_ft (s : State) (d : Desc) : (s.setDesc d).ft = s.ft := rfl
@[simp] theorem State.setDesc_cycle (s : State) (d : Desc) : (s.setDesc d).cycle = s.cycle := rfl
@[simp] theorem State.setDesc_ninths (s : State) (d : Desc) : (s.setDesc d).ninths = s.ninths := rfl
@[simp] theorem State.setDesc_ftPrev (s : State) (d : Desc) : (s.setDesc d).ftPrev = s.ftPrev := rfl
@[simp] theorem State.setDesc_log (s : State) (d : Desc) : (s.setDesc d).log = s.log := rfl
@[simp] theorem State.setDesc_eventSeq (s : State) (d : Desc) : (s.setDesc d).eventSeq = s.eventSeq := rfl
@[simp] theorem State.setDesc_free (s : State) (d : Desc) : (s.setDesc d).free = s.free := rfl
@[simp] theorem State.setDesc_pending (s : State) (d : Desc) : (s.setDesc d).pending = s.pending := rfl
@[simp] theorem State.setDesc_reg (s : State) (d : Desc) (k : Nat) : (s.setDesc d).reg k = s.reg k := rfl
@[simp] theorem State.setDesc_core (s : State) (d : Desc) (k : Nat) : (s.setDesc d).core k = s.core k := rfl
@[simp] theorem State.setDesc_acc (s : State) (d : Desc) (k j : Nat) : (s.setDesc d).acc k j = s.acc k j := rfl
@[simp] theorem State.setDesc_ftqOf (s : State) (d : Desc) (k : Nat) : (s.setDesc d).ftqOf k = s.ftqOf k := rfl
@[simp] theorem State.setDesc_buf (s : State) (d : Desc) (k j : Nat) : (s.setDesc d).buf k j = s.buf k j := rfl
@[simp] theorem State.setDesc_cline (s : State) (d : Desc) (k j m : Nat) : (s.setDesc d).cline k j m = s.cline k j m := rfl
@[simp] theorem State.setDesc_chan (s : State) (d : Desc) (k : Nat) : (s.setDesc d).chan k = s.chan k := rfl
@[simp] theorem State.setDesc_sem (s : State) (d : Desc) (k : Nat) : (s.setDesc d).sem k = s.sem k := rfl
@[simp] theorem State.setDesc_bar (s : State) (d : Desc) (k : Nat) : (s.setDesc d).bar k = s.bar k := rfl
@[simp] theorem State.setDesc_pool (s : State) (d : Desc) (k : Nat) : (s.setDesc d).pool k = s.pool k := rfl
@[simp] theorem State.setDesc_slot (s : State) (d : Desc) (k : Nat) : (s.setDesc d).slot k = s.slot k := rfl
@[simp] theorem State.setDesc_farPool (s : State) (d : Desc) (k : Nat) : (s.setDesc d).farPool k = s.farPool k := rfl
@[simp] theorem State.setDesc_port (s : State) (d : Desc) (k : Nat) : (s.setDesc d).port k = s.port k := rfl
@[simp] theorem State.setDesc_scEng (s : State) (d : Desc) (k : Nat) : (s.setDesc d).scEng k = s.scEng k := rfl
@[simp] theorem State.setDesc_session (s : State) (d : Desc) (k j : Nat) : (s.setDesc d).session k j = s.session k j := rfl
@[simp] theorem State.setDesc_mx (s : State) (d : Desc) (k : Nat) : (s.setDesc d).mx k = s.mx k := rfl
@[simp] theorem State.setDesc_life (s : State) (d : Desc) (k : Nat) : (s.setDesc d).life k = s.life k := rfl

/-! ### State.setSem -/

@[simp] theorem State.setSem_regs (s : State) (i : Nat) (v : Sem) : (s.setSem i v).regs = s.regs := rfl
@[simp] theorem State.setSem_cores (s : State) (i : Nat) (v : Sem) : (s.setSem i v).cores = s.cores := rfl
@[simp] theorem State.setSem_accs (s : State) (i : Nat) (v : Sem) : (s.setSem i v).accs = s.accs := rfl
@[simp] theorem State.setSem_ftq (s : State) (i : Nat) (v : Sem) : (s.setSem i v).ftq = s.ftq := rfl
@[simp] theorem State.setSem_bufs (s : State) (i : Nat) (v : Sem) : (s.setSem i v).bufs = s.bufs := rfl
@[simp] theorem State.setSem_tables (s : State) (i : Nat) (v : Sem) : (s.setSem i v).tables = s.tables := rfl
@[simp] theorem State.setSem_mem (s : State) (i : Nat) (v : Sem) : (s.setSem i v).mem = s.mem := rfl
@[simp] theorem State.setSem_qs (s : State) (i : Nat) (v : Sem) : (s.setSem i v).qs = s.qs := rfl
@[simp] theorem State.setSem_tier (s : State) (i : Nat) (v : Sem) : (s.setSem i v).tier = s.tier := rfl
@[simp] theorem State.setSem_fab (s : State) (i : Nat) (v : Sem) : (s.setSem i v).fab = s.fab := rfl
@[simp] theorem State.setSem_sc (s : State) (i : Nat) (v : Sem) : (s.setSem i v).sc = s.sc := rfl
@[simp] theorem State.setSem_wear (s : State) (i : Nat) (v : Sem) : (s.setSem i v).wear = s.wear := rfl
@[simp] theorem State.setSem_sessions (s : State) (i : Nat) (v : Sem) : (s.setSem i v).sessions = s.sessions := rfl
@[simp] theorem State.setSem_media (s : State) (i : Nat) (v : Sem) : (s.setSem i v).media = s.media := rfl
@[simp] theorem State.setSem_pwr (s : State) (i : Nat) (v : Sem) : (s.setSem i v).pwr = s.pwr := rfl
@[simp] theorem State.setSem_mgmt (s : State) (i : Nat) (v : Sem) : (s.setSem i v).mgmt = s.mgmt := rfl
@[simp] theorem State.setSem_boot (s : State) (i : Nat) (v : Sem) : (s.setSem i v).boot = s.boot := rfl
@[simp] theorem State.setSem_pins (s : State) (i : Nat) (v : Sem) : (s.setSem i v).pins = s.pins := rfl
@[simp] theorem State.setSem_dev (s : State) (i : Nat) (v : Sem) : (s.setSem i v).dev = s.dev := rfl
@[simp] theorem State.setSem_devBusy (s : State) (i : Nat) (v : Sem) : (s.setSem i v).devBusy = s.devBusy := rfl
@[simp] theorem State.setSem_devCmdStatus (s : State) (i : Nat) (v : Sem) : (s.setSem i v).devCmdStatus = s.devCmdStatus := rfl
@[simp] theorem State.setSem_resetAt (s : State) (i : Nat) (v : Sem) : (s.setSem i v).resetAt = s.resetAt := rfl
@[simp] theorem State.setSem_ft (s : State) (i : Nat) (v : Sem) : (s.setSem i v).ft = s.ft := rfl
@[simp] theorem State.setSem_cycle (s : State) (i : Nat) (v : Sem) : (s.setSem i v).cycle = s.cycle := rfl
@[simp] theorem State.setSem_ninths (s : State) (i : Nat) (v : Sem) : (s.setSem i v).ninths = s.ninths := rfl
@[simp] theorem State.setSem_ftPrev (s : State) (i : Nat) (v : Sem) : (s.setSem i v).ftPrev = s.ftPrev := rfl
@[simp] theorem State.setSem_log (s : State) (i : Nat) (v : Sem) : (s.setSem i v).log = s.log := rfl
@[simp] theorem State.setSem_eventSeq (s : State) (i : Nat) (v : Sem) : (s.setSem i v).eventSeq = s.eventSeq := rfl
@[simp] theorem State.setSem_free (s : State) (i : Nat) (v : Sem) : (s.setSem i v).free = s.free := rfl
@[simp] theorem State.setSem_pending (s : State) (i : Nat) (v : Sem) : (s.setSem i v).pending = s.pending := rfl
@[simp] theorem State.setSem_reg (s : State) (i : Nat) (v : Sem) (k : Nat) : (s.setSem i v).reg k = s.reg k := rfl
@[simp] theorem State.setSem_core (s : State) (i : Nat) (v : Sem) (k : Nat) : (s.setSem i v).core k = s.core k := rfl
@[simp] theorem State.setSem_acc (s : State) (i : Nat) (v : Sem) (k j : Nat) : (s.setSem i v).acc k j = s.acc k j := rfl
@[simp] theorem State.setSem_ftqOf (s : State) (i : Nat) (v : Sem) (k : Nat) : (s.setSem i v).ftqOf k = s.ftqOf k := rfl
@[simp] theorem State.setSem_buf (s : State) (i : Nat) (v : Sem) (k j : Nat) : (s.setSem i v).buf k j = s.buf k j := rfl
@[simp] theorem State.setSem_cline (s : State) (i : Nat) (v : Sem) (k j m : Nat) : (s.setSem i v).cline k j m = s.cline k j m := rfl
@[simp] theorem State.setSem_chan (s : State) (i : Nat) (v : Sem) (k : Nat) : (s.setSem i v).chan k = s.chan k := rfl
@[simp] theorem State.setSem_queue (s : State) (i : Nat) (v : Sem) (k : Nat) : (s.setSem i v).queue k = s.queue k := rfl
@[simp] theorem State.setSem_desc (s : State) (i : Nat) (v : Sem) (k : Nat) : (s.setSem i v).desc k = s.desc k := rfl
@[simp] theorem State.setSem_pool (s : State) (i : Nat) (v : Sem) (k : Nat) : (s.setSem i v).pool k = s.pool k := rfl
@[simp] theorem State.setSem_slot (s : State) (i : Nat) (v : Sem) (k : Nat) : (s.setSem i v).slot k = s.slot k := rfl
@[simp] theorem State.setSem_farPool (s : State) (i : Nat) (v : Sem) (k : Nat) : (s.setSem i v).farPool k = s.farPool k := rfl
@[simp] theorem State.setSem_port (s : State) (i : Nat) (v : Sem) (k : Nat) : (s.setSem i v).port k = s.port k := rfl
@[simp] theorem State.setSem_scEng (s : State) (i : Nat) (v : Sem) (k : Nat) : (s.setSem i v).scEng k = s.scEng k := rfl
@[simp] theorem State.setSem_session (s : State) (i : Nat) (v : Sem) (k j : Nat) : (s.setSem i v).session k j = s.session k j := rfl
@[simp] theorem State.setSem_mx (s : State) (i : Nat) (v : Sem) (k : Nat) : (s.setSem i v).mx k = s.mx k := rfl
@[simp] theorem State.setSem_life (s : State) (i : Nat) (v : Sem) (k : Nat) : (s.setSem i v).life k = s.life k := rfl

/-! ### State.setBar -/

@[simp] theorem State.setBar_regs (s : State) (b : Nat) (v : Bar) : (s.setBar b v).regs = s.regs := rfl
@[simp] theorem State.setBar_cores (s : State) (b : Nat) (v : Bar) : (s.setBar b v).cores = s.cores := rfl
@[simp] theorem State.setBar_accs (s : State) (b : Nat) (v : Bar) : (s.setBar b v).accs = s.accs := rfl
@[simp] theorem State.setBar_ftq (s : State) (b : Nat) (v : Bar) : (s.setBar b v).ftq = s.ftq := rfl
@[simp] theorem State.setBar_bufs (s : State) (b : Nat) (v : Bar) : (s.setBar b v).bufs = s.bufs := rfl
@[simp] theorem State.setBar_tables (s : State) (b : Nat) (v : Bar) : (s.setBar b v).tables = s.tables := rfl
@[simp] theorem State.setBar_mem (s : State) (b : Nat) (v : Bar) : (s.setBar b v).mem = s.mem := rfl
@[simp] theorem State.setBar_qs (s : State) (b : Nat) (v : Bar) : (s.setBar b v).qs = s.qs := rfl
@[simp] theorem State.setBar_tier (s : State) (b : Nat) (v : Bar) : (s.setBar b v).tier = s.tier := rfl
@[simp] theorem State.setBar_fab (s : State) (b : Nat) (v : Bar) : (s.setBar b v).fab = s.fab := rfl
@[simp] theorem State.setBar_sc (s : State) (b : Nat) (v : Bar) : (s.setBar b v).sc = s.sc := rfl
@[simp] theorem State.setBar_wear (s : State) (b : Nat) (v : Bar) : (s.setBar b v).wear = s.wear := rfl
@[simp] theorem State.setBar_sessions (s : State) (b : Nat) (v : Bar) : (s.setBar b v).sessions = s.sessions := rfl
@[simp] theorem State.setBar_media (s : State) (b : Nat) (v : Bar) : (s.setBar b v).media = s.media := rfl
@[simp] theorem State.setBar_pwr (s : State) (b : Nat) (v : Bar) : (s.setBar b v).pwr = s.pwr := rfl
@[simp] theorem State.setBar_mgmt (s : State) (b : Nat) (v : Bar) : (s.setBar b v).mgmt = s.mgmt := rfl
@[simp] theorem State.setBar_boot (s : State) (b : Nat) (v : Bar) : (s.setBar b v).boot = s.boot := rfl
@[simp] theorem State.setBar_pins (s : State) (b : Nat) (v : Bar) : (s.setBar b v).pins = s.pins := rfl
@[simp] theorem State.setBar_dev (s : State) (b : Nat) (v : Bar) : (s.setBar b v).dev = s.dev := rfl
@[simp] theorem State.setBar_devBusy (s : State) (b : Nat) (v : Bar) : (s.setBar b v).devBusy = s.devBusy := rfl
@[simp] theorem State.setBar_devCmdStatus (s : State) (b : Nat) (v : Bar) : (s.setBar b v).devCmdStatus = s.devCmdStatus := rfl
@[simp] theorem State.setBar_resetAt (s : State) (b : Nat) (v : Bar) : (s.setBar b v).resetAt = s.resetAt := rfl
@[simp] theorem State.setBar_ft (s : State) (b : Nat) (v : Bar) : (s.setBar b v).ft = s.ft := rfl
@[simp] theorem State.setBar_cycle (s : State) (b : Nat) (v : Bar) : (s.setBar b v).cycle = s.cycle := rfl
@[simp] theorem State.setBar_ninths (s : State) (b : Nat) (v : Bar) : (s.setBar b v).ninths = s.ninths := rfl
@[simp] theorem State.setBar_ftPrev (s : State) (b : Nat) (v : Bar) : (s.setBar b v).ftPrev = s.ftPrev := rfl
@[simp] theorem State.setBar_log (s : State) (b : Nat) (v : Bar) : (s.setBar b v).log = s.log := rfl
@[simp] theorem State.setBar_eventSeq (s : State) (b : Nat) (v : Bar) : (s.setBar b v).eventSeq = s.eventSeq := rfl
@[simp] theorem State.setBar_free (s : State) (b : Nat) (v : Bar) : (s.setBar b v).free = s.free := rfl
@[simp] theorem State.setBar_pending (s : State) (b : Nat) (v : Bar) : (s.setBar b v).pending = s.pending := rfl
@[simp] theorem State.setBar_reg (s : State) (b : Nat) (v : Bar) (k : Nat) : (s.setBar b v).reg k = s.reg k := rfl
@[simp] theorem State.setBar_core (s : State) (b : Nat) (v : Bar) (k : Nat) : (s.setBar b v).core k = s.core k := rfl
@[simp] theorem State.setBar_acc (s : State) (b : Nat) (v : Bar) (k j : Nat) : (s.setBar b v).acc k j = s.acc k j := rfl
@[simp] theorem State.setBar_ftqOf (s : State) (b : Nat) (v : Bar) (k : Nat) : (s.setBar b v).ftqOf k = s.ftqOf k := rfl
@[simp] theorem State.setBar_buf (s : State) (b : Nat) (v : Bar) (k j : Nat) : (s.setBar b v).buf k j = s.buf k j := rfl
@[simp] theorem State.setBar_cline (s : State) (b : Nat) (v : Bar) (k j m : Nat) : (s.setBar b v).cline k j m = s.cline k j m := rfl
@[simp] theorem State.setBar_chan (s : State) (b : Nat) (v : Bar) (k : Nat) : (s.setBar b v).chan k = s.chan k := rfl
@[simp] theorem State.setBar_queue (s : State) (b : Nat) (v : Bar) (k : Nat) : (s.setBar b v).queue k = s.queue k := rfl
@[simp] theorem State.setBar_desc (s : State) (b : Nat) (v : Bar) (k : Nat) : (s.setBar b v).desc k = s.desc k := rfl
@[simp] theorem State.setBar_pool (s : State) (b : Nat) (v : Bar) (k : Nat) : (s.setBar b v).pool k = s.pool k := rfl
@[simp] theorem State.setBar_slot (s : State) (b : Nat) (v : Bar) (k : Nat) : (s.setBar b v).slot k = s.slot k := rfl
@[simp] theorem State.setBar_farPool (s : State) (b : Nat) (v : Bar) (k : Nat) : (s.setBar b v).farPool k = s.farPool k := rfl
@[simp] theorem State.setBar_port (s : State) (b : Nat) (v : Bar) (k : Nat) : (s.setBar b v).port k = s.port k := rfl
@[simp] theorem State.setBar_scEng (s : State) (b : Nat) (v : Bar) (k : Nat) : (s.setBar b v).scEng k = s.scEng k := rfl
@[simp] theorem State.setBar_session (s : State) (b : Nat) (v : Bar) (k j : Nat) : (s.setBar b v).session k j = s.session k j := rfl
@[simp] theorem State.setBar_mx (s : State) (b : Nat) (v : Bar) (k : Nat) : (s.setBar b v).mx k = s.mx k := rfl
@[simp] theorem State.setBar_life (s : State) (b : Nat) (v : Bar) (k : Nat) : (s.setBar b v).life k = s.life k := rfl

/-! ### State.setPool -/

@[simp] theorem State.setPool_regs (s : State) (n : Nat) (x : BitVec 512) : (s.setPool n x).regs = s.regs := rfl
@[simp] theorem State.setPool_cores (s : State) (n : Nat) (x : BitVec 512) : (s.setPool n x).cores = s.cores := rfl
@[simp] theorem State.setPool_accs (s : State) (n : Nat) (x : BitVec 512) : (s.setPool n x).accs = s.accs := rfl
@[simp] theorem State.setPool_ftq (s : State) (n : Nat) (x : BitVec 512) : (s.setPool n x).ftq = s.ftq := rfl
@[simp] theorem State.setPool_bufs (s : State) (n : Nat) (x : BitVec 512) : (s.setPool n x).bufs = s.bufs := rfl
@[simp] theorem State.setPool_tables (s : State) (n : Nat) (x : BitVec 512) : (s.setPool n x).tables = s.tables := rfl
@[simp] theorem State.setPool_mem (s : State) (n : Nat) (x : BitVec 512) : (s.setPool n x).mem = s.mem := rfl
@[simp] theorem State.setPool_qs (s : State) (n : Nat) (x : BitVec 512) : (s.setPool n x).qs = s.qs := rfl
@[simp] theorem State.setPool_sync (s : State) (n : Nat) (x : BitVec 512) : (s.setPool n x).sync = s.sync := rfl
@[simp] theorem State.setPool_fab (s : State) (n : Nat) (x : BitVec 512) : (s.setPool n x).fab = s.fab := rfl
@[simp] theorem State.setPool_sc (s : State) (n : Nat) (x : BitVec 512) : (s.setPool n x).sc = s.sc := rfl
@[simp] theorem State.setPool_wear (s : State) (n : Nat) (x : BitVec 512) : (s.setPool n x).wear = s.wear := rfl
@[simp] theorem State.setPool_sessions (s : State) (n : Nat) (x : BitVec 512) : (s.setPool n x).sessions = s.sessions := rfl
@[simp] theorem State.setPool_media (s : State) (n : Nat) (x : BitVec 512) : (s.setPool n x).media = s.media := rfl
@[simp] theorem State.setPool_pwr (s : State) (n : Nat) (x : BitVec 512) : (s.setPool n x).pwr = s.pwr := rfl
@[simp] theorem State.setPool_mgmt (s : State) (n : Nat) (x : BitVec 512) : (s.setPool n x).mgmt = s.mgmt := rfl
@[simp] theorem State.setPool_boot (s : State) (n : Nat) (x : BitVec 512) : (s.setPool n x).boot = s.boot := rfl
@[simp] theorem State.setPool_pins (s : State) (n : Nat) (x : BitVec 512) : (s.setPool n x).pins = s.pins := rfl
@[simp] theorem State.setPool_dev (s : State) (n : Nat) (x : BitVec 512) : (s.setPool n x).dev = s.dev := rfl
@[simp] theorem State.setPool_devBusy (s : State) (n : Nat) (x : BitVec 512) : (s.setPool n x).devBusy = s.devBusy := rfl
@[simp] theorem State.setPool_devCmdStatus (s : State) (n : Nat) (x : BitVec 512) : (s.setPool n x).devCmdStatus = s.devCmdStatus := rfl
@[simp] theorem State.setPool_resetAt (s : State) (n : Nat) (x : BitVec 512) : (s.setPool n x).resetAt = s.resetAt := rfl
@[simp] theorem State.setPool_ft (s : State) (n : Nat) (x : BitVec 512) : (s.setPool n x).ft = s.ft := rfl
@[simp] theorem State.setPool_cycle (s : State) (n : Nat) (x : BitVec 512) : (s.setPool n x).cycle = s.cycle := rfl
@[simp] theorem State.setPool_ninths (s : State) (n : Nat) (x : BitVec 512) : (s.setPool n x).ninths = s.ninths := rfl
@[simp] theorem State.setPool_ftPrev (s : State) (n : Nat) (x : BitVec 512) : (s.setPool n x).ftPrev = s.ftPrev := rfl
@[simp] theorem State.setPool_log (s : State) (n : Nat) (x : BitVec 512) : (s.setPool n x).log = s.log := rfl
@[simp] theorem State.setPool_eventSeq (s : State) (n : Nat) (x : BitVec 512) : (s.setPool n x).eventSeq = s.eventSeq := rfl
@[simp] theorem State.setPool_free (s : State) (n : Nat) (x : BitVec 512) : (s.setPool n x).free = s.free := rfl
@[simp] theorem State.setPool_pending (s : State) (n : Nat) (x : BitVec 512) : (s.setPool n x).pending = s.pending := rfl
@[simp] theorem State.setPool_reg (s : State) (n : Nat) (x : BitVec 512) (k : Nat) : (s.setPool n x).reg k = s.reg k := rfl
@[simp] theorem State.setPool_core (s : State) (n : Nat) (x : BitVec 512) (k : Nat) : (s.setPool n x).core k = s.core k := rfl
@[simp] theorem State.setPool_acc (s : State) (n : Nat) (x : BitVec 512) (k j : Nat) : (s.setPool n x).acc k j = s.acc k j := rfl
@[simp] theorem State.setPool_ftqOf (s : State) (n : Nat) (x : BitVec 512) (k : Nat) : (s.setPool n x).ftqOf k = s.ftqOf k := rfl
@[simp] theorem State.setPool_buf (s : State) (n : Nat) (x : BitVec 512) (k j : Nat) : (s.setPool n x).buf k j = s.buf k j := rfl
@[simp] theorem State.setPool_cline (s : State) (n : Nat) (x : BitVec 512) (k j m : Nat) : (s.setPool n x).cline k j m = s.cline k j m := rfl
@[simp] theorem State.setPool_chan (s : State) (n : Nat) (x : BitVec 512) (k : Nat) : (s.setPool n x).chan k = s.chan k := rfl
@[simp] theorem State.setPool_queue (s : State) (n : Nat) (x : BitVec 512) (k : Nat) : (s.setPool n x).queue k = s.queue k := rfl
@[simp] theorem State.setPool_desc (s : State) (n : Nat) (x : BitVec 512) (k : Nat) : (s.setPool n x).desc k = s.desc k := rfl
@[simp] theorem State.setPool_sem (s : State) (n : Nat) (x : BitVec 512) (k : Nat) : (s.setPool n x).sem k = s.sem k := rfl
@[simp] theorem State.setPool_bar (s : State) (n : Nat) (x : BitVec 512) (k : Nat) : (s.setPool n x).bar k = s.bar k := rfl
@[simp] theorem State.setPool_port (s : State) (n : Nat) (x : BitVec 512) (k : Nat) : (s.setPool n x).port k = s.port k := rfl
@[simp] theorem State.setPool_scEng (s : State) (n : Nat) (x : BitVec 512) (k : Nat) : (s.setPool n x).scEng k = s.scEng k := rfl
@[simp] theorem State.setPool_session (s : State) (n : Nat) (x : BitVec 512) (k j : Nat) : (s.setPool n x).session k j = s.session k j := rfl
@[simp] theorem State.setPool_mx (s : State) (n : Nat) (x : BitVec 512) (k : Nat) : (s.setPool n x).mx k = s.mx k := rfl
@[simp] theorem State.setPool_life (s : State) (n : Nat) (x : BitVec 512) (k : Nat) : (s.setPool n x).life k = s.life k := rfl

/-! ### State.setSlot -/

@[simp] theorem State.setSlot_regs (s : State) (n : Nat) (x : BitVec 512) : (s.setSlot n x).regs = s.regs := rfl
@[simp] theorem State.setSlot_cores (s : State) (n : Nat) (x : BitVec 512) : (s.setSlot n x).cores = s.cores := rfl
@[simp] theorem State.setSlot_accs (s : State) (n : Nat) (x : BitVec 512) : (s.setSlot n x).accs = s.accs := rfl
@[simp] theorem State.setSlot_ftq (s : State) (n : Nat) (x : BitVec 512) : (s.setSlot n x).ftq = s.ftq := rfl
@[simp] theorem State.setSlot_bufs (s : State) (n : Nat) (x : BitVec 512) : (s.setSlot n x).bufs = s.bufs := rfl
@[simp] theorem State.setSlot_tables (s : State) (n : Nat) (x : BitVec 512) : (s.setSlot n x).tables = s.tables := rfl
@[simp] theorem State.setSlot_mem (s : State) (n : Nat) (x : BitVec 512) : (s.setSlot n x).mem = s.mem := rfl
@[simp] theorem State.setSlot_qs (s : State) (n : Nat) (x : BitVec 512) : (s.setSlot n x).qs = s.qs := rfl
@[simp] theorem State.setSlot_sync (s : State) (n : Nat) (x : BitVec 512) : (s.setSlot n x).sync = s.sync := rfl
@[simp] theorem State.setSlot_fab (s : State) (n : Nat) (x : BitVec 512) : (s.setSlot n x).fab = s.fab := rfl
@[simp] theorem State.setSlot_sc (s : State) (n : Nat) (x : BitVec 512) : (s.setSlot n x).sc = s.sc := rfl
@[simp] theorem State.setSlot_wear (s : State) (n : Nat) (x : BitVec 512) : (s.setSlot n x).wear = s.wear := rfl
@[simp] theorem State.setSlot_sessions (s : State) (n : Nat) (x : BitVec 512) : (s.setSlot n x).sessions = s.sessions := rfl
@[simp] theorem State.setSlot_media (s : State) (n : Nat) (x : BitVec 512) : (s.setSlot n x).media = s.media := rfl
@[simp] theorem State.setSlot_pwr (s : State) (n : Nat) (x : BitVec 512) : (s.setSlot n x).pwr = s.pwr := rfl
@[simp] theorem State.setSlot_mgmt (s : State) (n : Nat) (x : BitVec 512) : (s.setSlot n x).mgmt = s.mgmt := rfl
@[simp] theorem State.setSlot_boot (s : State) (n : Nat) (x : BitVec 512) : (s.setSlot n x).boot = s.boot := rfl
@[simp] theorem State.setSlot_pins (s : State) (n : Nat) (x : BitVec 512) : (s.setSlot n x).pins = s.pins := rfl
@[simp] theorem State.setSlot_dev (s : State) (n : Nat) (x : BitVec 512) : (s.setSlot n x).dev = s.dev := rfl
@[simp] theorem State.setSlot_devBusy (s : State) (n : Nat) (x : BitVec 512) : (s.setSlot n x).devBusy = s.devBusy := rfl
@[simp] theorem State.setSlot_devCmdStatus (s : State) (n : Nat) (x : BitVec 512) : (s.setSlot n x).devCmdStatus = s.devCmdStatus := rfl
@[simp] theorem State.setSlot_resetAt (s : State) (n : Nat) (x : BitVec 512) : (s.setSlot n x).resetAt = s.resetAt := rfl
@[simp] theorem State.setSlot_ft (s : State) (n : Nat) (x : BitVec 512) : (s.setSlot n x).ft = s.ft := rfl
@[simp] theorem State.setSlot_cycle (s : State) (n : Nat) (x : BitVec 512) : (s.setSlot n x).cycle = s.cycle := rfl
@[simp] theorem State.setSlot_ninths (s : State) (n : Nat) (x : BitVec 512) : (s.setSlot n x).ninths = s.ninths := rfl
@[simp] theorem State.setSlot_ftPrev (s : State) (n : Nat) (x : BitVec 512) : (s.setSlot n x).ftPrev = s.ftPrev := rfl
@[simp] theorem State.setSlot_log (s : State) (n : Nat) (x : BitVec 512) : (s.setSlot n x).log = s.log := rfl
@[simp] theorem State.setSlot_eventSeq (s : State) (n : Nat) (x : BitVec 512) : (s.setSlot n x).eventSeq = s.eventSeq := rfl
@[simp] theorem State.setSlot_free (s : State) (n : Nat) (x : BitVec 512) : (s.setSlot n x).free = s.free := rfl
@[simp] theorem State.setSlot_pending (s : State) (n : Nat) (x : BitVec 512) : (s.setSlot n x).pending = s.pending := rfl
@[simp] theorem State.setSlot_reg (s : State) (n : Nat) (x : BitVec 512) (k : Nat) : (s.setSlot n x).reg k = s.reg k := rfl
@[simp] theorem State.setSlot_core (s : State) (n : Nat) (x : BitVec 512) (k : Nat) : (s.setSlot n x).core k = s.core k := rfl
@[simp] theorem State.setSlot_acc (s : State) (n : Nat) (x : BitVec 512) (k j : Nat) : (s.setSlot n x).acc k j = s.acc k j := rfl
@[simp] theorem State.setSlot_ftqOf (s : State) (n : Nat) (x : BitVec 512) (k : Nat) : (s.setSlot n x).ftqOf k = s.ftqOf k := rfl
@[simp] theorem State.setSlot_buf (s : State) (n : Nat) (x : BitVec 512) (k j : Nat) : (s.setSlot n x).buf k j = s.buf k j := rfl
@[simp] theorem State.setSlot_cline (s : State) (n : Nat) (x : BitVec 512) (k j m : Nat) : (s.setSlot n x).cline k j m = s.cline k j m := rfl
@[simp] theorem State.setSlot_chan (s : State) (n : Nat) (x : BitVec 512) (k : Nat) : (s.setSlot n x).chan k = s.chan k := rfl
@[simp] theorem State.setSlot_queue (s : State) (n : Nat) (x : BitVec 512) (k : Nat) : (s.setSlot n x).queue k = s.queue k := rfl
@[simp] theorem State.setSlot_desc (s : State) (n : Nat) (x : BitVec 512) (k : Nat) : (s.setSlot n x).desc k = s.desc k := rfl
@[simp] theorem State.setSlot_sem (s : State) (n : Nat) (x : BitVec 512) (k : Nat) : (s.setSlot n x).sem k = s.sem k := rfl
@[simp] theorem State.setSlot_bar (s : State) (n : Nat) (x : BitVec 512) (k : Nat) : (s.setSlot n x).bar k = s.bar k := rfl
@[simp] theorem State.setSlot_port (s : State) (n : Nat) (x : BitVec 512) (k : Nat) : (s.setSlot n x).port k = s.port k := rfl
@[simp] theorem State.setSlot_scEng (s : State) (n : Nat) (x : BitVec 512) (k : Nat) : (s.setSlot n x).scEng k = s.scEng k := rfl
@[simp] theorem State.setSlot_session (s : State) (n : Nat) (x : BitVec 512) (k j : Nat) : (s.setSlot n x).session k j = s.session k j := rfl
@[simp] theorem State.setSlot_mx (s : State) (n : Nat) (x : BitVec 512) (k : Nat) : (s.setSlot n x).mx k = s.mx k := rfl
@[simp] theorem State.setSlot_life (s : State) (n : Nat) (x : BitVec 512) (k : Nat) : (s.setSlot n x).life k = s.life k := rfl

/-! ### State.setFarPool -/

@[simp] theorem State.setFarPool_regs (s : State) (n : Nat) (x : BitVec 256) : (s.setFarPool n x).regs = s.regs := rfl
@[simp] theorem State.setFarPool_cores (s : State) (n : Nat) (x : BitVec 256) : (s.setFarPool n x).cores = s.cores := rfl
@[simp] theorem State.setFarPool_accs (s : State) (n : Nat) (x : BitVec 256) : (s.setFarPool n x).accs = s.accs := rfl
@[simp] theorem State.setFarPool_ftq (s : State) (n : Nat) (x : BitVec 256) : (s.setFarPool n x).ftq = s.ftq := rfl
@[simp] theorem State.setFarPool_bufs (s : State) (n : Nat) (x : BitVec 256) : (s.setFarPool n x).bufs = s.bufs := rfl
@[simp] theorem State.setFarPool_tables (s : State) (n : Nat) (x : BitVec 256) : (s.setFarPool n x).tables = s.tables := rfl
@[simp] theorem State.setFarPool_mem (s : State) (n : Nat) (x : BitVec 256) : (s.setFarPool n x).mem = s.mem := rfl
@[simp] theorem State.setFarPool_qs (s : State) (n : Nat) (x : BitVec 256) : (s.setFarPool n x).qs = s.qs := rfl
@[simp] theorem State.setFarPool_sync (s : State) (n : Nat) (x : BitVec 256) : (s.setFarPool n x).sync = s.sync := rfl
@[simp] theorem State.setFarPool_fab (s : State) (n : Nat) (x : BitVec 256) : (s.setFarPool n x).fab = s.fab := rfl
@[simp] theorem State.setFarPool_sc (s : State) (n : Nat) (x : BitVec 256) : (s.setFarPool n x).sc = s.sc := rfl
@[simp] theorem State.setFarPool_wear (s : State) (n : Nat) (x : BitVec 256) : (s.setFarPool n x).wear = s.wear := rfl
@[simp] theorem State.setFarPool_sessions (s : State) (n : Nat) (x : BitVec 256) : (s.setFarPool n x).sessions = s.sessions := rfl
@[simp] theorem State.setFarPool_media (s : State) (n : Nat) (x : BitVec 256) : (s.setFarPool n x).media = s.media := rfl
@[simp] theorem State.setFarPool_pwr (s : State) (n : Nat) (x : BitVec 256) : (s.setFarPool n x).pwr = s.pwr := rfl
@[simp] theorem State.setFarPool_mgmt (s : State) (n : Nat) (x : BitVec 256) : (s.setFarPool n x).mgmt = s.mgmt := rfl
@[simp] theorem State.setFarPool_boot (s : State) (n : Nat) (x : BitVec 256) : (s.setFarPool n x).boot = s.boot := rfl
@[simp] theorem State.setFarPool_pins (s : State) (n : Nat) (x : BitVec 256) : (s.setFarPool n x).pins = s.pins := rfl
@[simp] theorem State.setFarPool_dev (s : State) (n : Nat) (x : BitVec 256) : (s.setFarPool n x).dev = s.dev := rfl
@[simp] theorem State.setFarPool_devBusy (s : State) (n : Nat) (x : BitVec 256) : (s.setFarPool n x).devBusy = s.devBusy := rfl
@[simp] theorem State.setFarPool_devCmdStatus (s : State) (n : Nat) (x : BitVec 256) : (s.setFarPool n x).devCmdStatus = s.devCmdStatus := rfl
@[simp] theorem State.setFarPool_resetAt (s : State) (n : Nat) (x : BitVec 256) : (s.setFarPool n x).resetAt = s.resetAt := rfl
@[simp] theorem State.setFarPool_ft (s : State) (n : Nat) (x : BitVec 256) : (s.setFarPool n x).ft = s.ft := rfl
@[simp] theorem State.setFarPool_cycle (s : State) (n : Nat) (x : BitVec 256) : (s.setFarPool n x).cycle = s.cycle := rfl
@[simp] theorem State.setFarPool_ninths (s : State) (n : Nat) (x : BitVec 256) : (s.setFarPool n x).ninths = s.ninths := rfl
@[simp] theorem State.setFarPool_ftPrev (s : State) (n : Nat) (x : BitVec 256) : (s.setFarPool n x).ftPrev = s.ftPrev := rfl
@[simp] theorem State.setFarPool_log (s : State) (n : Nat) (x : BitVec 256) : (s.setFarPool n x).log = s.log := rfl
@[simp] theorem State.setFarPool_eventSeq (s : State) (n : Nat) (x : BitVec 256) : (s.setFarPool n x).eventSeq = s.eventSeq := rfl
@[simp] theorem State.setFarPool_free (s : State) (n : Nat) (x : BitVec 256) : (s.setFarPool n x).free = s.free := rfl
@[simp] theorem State.setFarPool_pending (s : State) (n : Nat) (x : BitVec 256) : (s.setFarPool n x).pending = s.pending := rfl
@[simp] theorem State.setFarPool_reg (s : State) (n : Nat) (x : BitVec 256) (k : Nat) : (s.setFarPool n x).reg k = s.reg k := rfl
@[simp] theorem State.setFarPool_core (s : State) (n : Nat) (x : BitVec 256) (k : Nat) : (s.setFarPool n x).core k = s.core k := rfl
@[simp] theorem State.setFarPool_acc (s : State) (n : Nat) (x : BitVec 256) (k j : Nat) : (s.setFarPool n x).acc k j = s.acc k j := rfl
@[simp] theorem State.setFarPool_ftqOf (s : State) (n : Nat) (x : BitVec 256) (k : Nat) : (s.setFarPool n x).ftqOf k = s.ftqOf k := rfl
@[simp] theorem State.setFarPool_buf (s : State) (n : Nat) (x : BitVec 256) (k j : Nat) : (s.setFarPool n x).buf k j = s.buf k j := rfl
@[simp] theorem State.setFarPool_cline (s : State) (n : Nat) (x : BitVec 256) (k j m : Nat) : (s.setFarPool n x).cline k j m = s.cline k j m := rfl
@[simp] theorem State.setFarPool_chan (s : State) (n : Nat) (x : BitVec 256) (k : Nat) : (s.setFarPool n x).chan k = s.chan k := rfl
@[simp] theorem State.setFarPool_queue (s : State) (n : Nat) (x : BitVec 256) (k : Nat) : (s.setFarPool n x).queue k = s.queue k := rfl
@[simp] theorem State.setFarPool_desc (s : State) (n : Nat) (x : BitVec 256) (k : Nat) : (s.setFarPool n x).desc k = s.desc k := rfl
@[simp] theorem State.setFarPool_sem (s : State) (n : Nat) (x : BitVec 256) (k : Nat) : (s.setFarPool n x).sem k = s.sem k := rfl
@[simp] theorem State.setFarPool_bar (s : State) (n : Nat) (x : BitVec 256) (k : Nat) : (s.setFarPool n x).bar k = s.bar k := rfl
@[simp] theorem State.setFarPool_port (s : State) (n : Nat) (x : BitVec 256) (k : Nat) : (s.setFarPool n x).port k = s.port k := rfl
@[simp] theorem State.setFarPool_scEng (s : State) (n : Nat) (x : BitVec 256) (k : Nat) : (s.setFarPool n x).scEng k = s.scEng k := rfl
@[simp] theorem State.setFarPool_session (s : State) (n : Nat) (x : BitVec 256) (k j : Nat) : (s.setFarPool n x).session k j = s.session k j := rfl
@[simp] theorem State.setFarPool_mx (s : State) (n : Nat) (x : BitVec 256) (k : Nat) : (s.setFarPool n x).mx k = s.mx k := rfl
@[simp] theorem State.setFarPool_life (s : State) (n : Nat) (x : BitVec 256) (k : Nat) : (s.setFarPool n x).life k = s.life k := rfl

/-! ### State.setPort -/

@[simp] theorem State.setPort_regs (s : State) (p : Nat) (v : Port) : (s.setPort p v).regs = s.regs := rfl
@[simp] theorem State.setPort_cores (s : State) (p : Nat) (v : Port) : (s.setPort p v).cores = s.cores := rfl
@[simp] theorem State.setPort_accs (s : State) (p : Nat) (v : Port) : (s.setPort p v).accs = s.accs := rfl
@[simp] theorem State.setPort_ftq (s : State) (p : Nat) (v : Port) : (s.setPort p v).ftq = s.ftq := rfl
@[simp] theorem State.setPort_bufs (s : State) (p : Nat) (v : Port) : (s.setPort p v).bufs = s.bufs := rfl
@[simp] theorem State.setPort_tables (s : State) (p : Nat) (v : Port) : (s.setPort p v).tables = s.tables := rfl
@[simp] theorem State.setPort_mem (s : State) (p : Nat) (v : Port) : (s.setPort p v).mem = s.mem := rfl
@[simp] theorem State.setPort_qs (s : State) (p : Nat) (v : Port) : (s.setPort p v).qs = s.qs := rfl
@[simp] theorem State.setPort_sync (s : State) (p : Nat) (v : Port) : (s.setPort p v).sync = s.sync := rfl
@[simp] theorem State.setPort_tier (s : State) (p : Nat) (v : Port) : (s.setPort p v).tier = s.tier := rfl
@[simp] theorem State.setPort_sc (s : State) (p : Nat) (v : Port) : (s.setPort p v).sc = s.sc := rfl
@[simp] theorem State.setPort_wear (s : State) (p : Nat) (v : Port) : (s.setPort p v).wear = s.wear := rfl
@[simp] theorem State.setPort_sessions (s : State) (p : Nat) (v : Port) : (s.setPort p v).sessions = s.sessions := rfl
@[simp] theorem State.setPort_media (s : State) (p : Nat) (v : Port) : (s.setPort p v).media = s.media := rfl
@[simp] theorem State.setPort_pwr (s : State) (p : Nat) (v : Port) : (s.setPort p v).pwr = s.pwr := rfl
@[simp] theorem State.setPort_mgmt (s : State) (p : Nat) (v : Port) : (s.setPort p v).mgmt = s.mgmt := rfl
@[simp] theorem State.setPort_boot (s : State) (p : Nat) (v : Port) : (s.setPort p v).boot = s.boot := rfl
@[simp] theorem State.setPort_pins (s : State) (p : Nat) (v : Port) : (s.setPort p v).pins = s.pins := rfl
@[simp] theorem State.setPort_dev (s : State) (p : Nat) (v : Port) : (s.setPort p v).dev = s.dev := rfl
@[simp] theorem State.setPort_devBusy (s : State) (p : Nat) (v : Port) : (s.setPort p v).devBusy = s.devBusy := rfl
@[simp] theorem State.setPort_devCmdStatus (s : State) (p : Nat) (v : Port) : (s.setPort p v).devCmdStatus = s.devCmdStatus := rfl
@[simp] theorem State.setPort_resetAt (s : State) (p : Nat) (v : Port) : (s.setPort p v).resetAt = s.resetAt := rfl
@[simp] theorem State.setPort_ft (s : State) (p : Nat) (v : Port) : (s.setPort p v).ft = s.ft := rfl
@[simp] theorem State.setPort_cycle (s : State) (p : Nat) (v : Port) : (s.setPort p v).cycle = s.cycle := rfl
@[simp] theorem State.setPort_ninths (s : State) (p : Nat) (v : Port) : (s.setPort p v).ninths = s.ninths := rfl
@[simp] theorem State.setPort_ftPrev (s : State) (p : Nat) (v : Port) : (s.setPort p v).ftPrev = s.ftPrev := rfl
@[simp] theorem State.setPort_log (s : State) (p : Nat) (v : Port) : (s.setPort p v).log = s.log := rfl
@[simp] theorem State.setPort_eventSeq (s : State) (p : Nat) (v : Port) : (s.setPort p v).eventSeq = s.eventSeq := rfl
@[simp] theorem State.setPort_free (s : State) (p : Nat) (v : Port) : (s.setPort p v).free = s.free := rfl
@[simp] theorem State.setPort_pending (s : State) (p : Nat) (v : Port) : (s.setPort p v).pending = s.pending := rfl
@[simp] theorem State.setPort_reg (s : State) (p : Nat) (v : Port) (k : Nat) : (s.setPort p v).reg k = s.reg k := rfl
@[simp] theorem State.setPort_core (s : State) (p : Nat) (v : Port) (k : Nat) : (s.setPort p v).core k = s.core k := rfl
@[simp] theorem State.setPort_acc (s : State) (p : Nat) (v : Port) (k j : Nat) : (s.setPort p v).acc k j = s.acc k j := rfl
@[simp] theorem State.setPort_ftqOf (s : State) (p : Nat) (v : Port) (k : Nat) : (s.setPort p v).ftqOf k = s.ftqOf k := rfl
@[simp] theorem State.setPort_buf (s : State) (p : Nat) (v : Port) (k j : Nat) : (s.setPort p v).buf k j = s.buf k j := rfl
@[simp] theorem State.setPort_cline (s : State) (p : Nat) (v : Port) (k j m : Nat) : (s.setPort p v).cline k j m = s.cline k j m := rfl
@[simp] theorem State.setPort_chan (s : State) (p : Nat) (v : Port) (k : Nat) : (s.setPort p v).chan k = s.chan k := rfl
@[simp] theorem State.setPort_queue (s : State) (p : Nat) (v : Port) (k : Nat) : (s.setPort p v).queue k = s.queue k := rfl
@[simp] theorem State.setPort_desc (s : State) (p : Nat) (v : Port) (k : Nat) : (s.setPort p v).desc k = s.desc k := rfl
@[simp] theorem State.setPort_sem (s : State) (p : Nat) (v : Port) (k : Nat) : (s.setPort p v).sem k = s.sem k := rfl
@[simp] theorem State.setPort_bar (s : State) (p : Nat) (v : Port) (k : Nat) : (s.setPort p v).bar k = s.bar k := rfl
@[simp] theorem State.setPort_pool (s : State) (p : Nat) (v : Port) (k : Nat) : (s.setPort p v).pool k = s.pool k := rfl
@[simp] theorem State.setPort_slot (s : State) (p : Nat) (v : Port) (k : Nat) : (s.setPort p v).slot k = s.slot k := rfl
@[simp] theorem State.setPort_farPool (s : State) (p : Nat) (v : Port) (k : Nat) : (s.setPort p v).farPool k = s.farPool k := rfl
@[simp] theorem State.setPort_scEng (s : State) (p : Nat) (v : Port) (k : Nat) : (s.setPort p v).scEng k = s.scEng k := rfl
@[simp] theorem State.setPort_session (s : State) (p : Nat) (v : Port) (k j : Nat) : (s.setPort p v).session k j = s.session k j := rfl
@[simp] theorem State.setPort_mx (s : State) (p : Nat) (v : Port) (k : Nat) : (s.setPort p v).mx k = s.mx k := rfl
@[simp] theorem State.setPort_life (s : State) (p : Nat) (v : Port) (k : Nat) : (s.setPort p v).life k = s.life k := rfl

/-! ### State.setScEng -/

@[simp] theorem State.setScEng_regs (s : State) (e : Nat) (v : ScEng) : (s.setScEng e v).regs = s.regs := rfl
@[simp] theorem State.setScEng_cores (s : State) (e : Nat) (v : ScEng) : (s.setScEng e v).cores = s.cores := rfl
@[simp] theorem State.setScEng_accs (s : State) (e : Nat) (v : ScEng) : (s.setScEng e v).accs = s.accs := rfl
@[simp] theorem State.setScEng_ftq (s : State) (e : Nat) (v : ScEng) : (s.setScEng e v).ftq = s.ftq := rfl
@[simp] theorem State.setScEng_bufs (s : State) (e : Nat) (v : ScEng) : (s.setScEng e v).bufs = s.bufs := rfl
@[simp] theorem State.setScEng_tables (s : State) (e : Nat) (v : ScEng) : (s.setScEng e v).tables = s.tables := rfl
@[simp] theorem State.setScEng_mem (s : State) (e : Nat) (v : ScEng) : (s.setScEng e v).mem = s.mem := rfl
@[simp] theorem State.setScEng_qs (s : State) (e : Nat) (v : ScEng) : (s.setScEng e v).qs = s.qs := rfl
@[simp] theorem State.setScEng_sync (s : State) (e : Nat) (v : ScEng) : (s.setScEng e v).sync = s.sync := rfl
@[simp] theorem State.setScEng_tier (s : State) (e : Nat) (v : ScEng) : (s.setScEng e v).tier = s.tier := rfl
@[simp] theorem State.setScEng_fab (s : State) (e : Nat) (v : ScEng) : (s.setScEng e v).fab = s.fab := rfl
@[simp] theorem State.setScEng_wear (s : State) (e : Nat) (v : ScEng) : (s.setScEng e v).wear = s.wear := rfl
@[simp] theorem State.setScEng_sessions (s : State) (e : Nat) (v : ScEng) : (s.setScEng e v).sessions = s.sessions := rfl
@[simp] theorem State.setScEng_media (s : State) (e : Nat) (v : ScEng) : (s.setScEng e v).media = s.media := rfl
@[simp] theorem State.setScEng_pwr (s : State) (e : Nat) (v : ScEng) : (s.setScEng e v).pwr = s.pwr := rfl
@[simp] theorem State.setScEng_mgmt (s : State) (e : Nat) (v : ScEng) : (s.setScEng e v).mgmt = s.mgmt := rfl
@[simp] theorem State.setScEng_boot (s : State) (e : Nat) (v : ScEng) : (s.setScEng e v).boot = s.boot := rfl
@[simp] theorem State.setScEng_pins (s : State) (e : Nat) (v : ScEng) : (s.setScEng e v).pins = s.pins := rfl
@[simp] theorem State.setScEng_dev (s : State) (e : Nat) (v : ScEng) : (s.setScEng e v).dev = s.dev := rfl
@[simp] theorem State.setScEng_devBusy (s : State) (e : Nat) (v : ScEng) : (s.setScEng e v).devBusy = s.devBusy := rfl
@[simp] theorem State.setScEng_devCmdStatus (s : State) (e : Nat) (v : ScEng) : (s.setScEng e v).devCmdStatus = s.devCmdStatus := rfl
@[simp] theorem State.setScEng_resetAt (s : State) (e : Nat) (v : ScEng) : (s.setScEng e v).resetAt = s.resetAt := rfl
@[simp] theorem State.setScEng_ft (s : State) (e : Nat) (v : ScEng) : (s.setScEng e v).ft = s.ft := rfl
@[simp] theorem State.setScEng_cycle (s : State) (e : Nat) (v : ScEng) : (s.setScEng e v).cycle = s.cycle := rfl
@[simp] theorem State.setScEng_ninths (s : State) (e : Nat) (v : ScEng) : (s.setScEng e v).ninths = s.ninths := rfl
@[simp] theorem State.setScEng_ftPrev (s : State) (e : Nat) (v : ScEng) : (s.setScEng e v).ftPrev = s.ftPrev := rfl
@[simp] theorem State.setScEng_log (s : State) (e : Nat) (v : ScEng) : (s.setScEng e v).log = s.log := rfl
@[simp] theorem State.setScEng_eventSeq (s : State) (e : Nat) (v : ScEng) : (s.setScEng e v).eventSeq = s.eventSeq := rfl
@[simp] theorem State.setScEng_free (s : State) (e : Nat) (v : ScEng) : (s.setScEng e v).free = s.free := rfl
@[simp] theorem State.setScEng_pending (s : State) (e : Nat) (v : ScEng) : (s.setScEng e v).pending = s.pending := rfl
@[simp] theorem State.setScEng_reg (s : State) (e : Nat) (v : ScEng) (k : Nat) : (s.setScEng e v).reg k = s.reg k := rfl
@[simp] theorem State.setScEng_core (s : State) (e : Nat) (v : ScEng) (k : Nat) : (s.setScEng e v).core k = s.core k := rfl
@[simp] theorem State.setScEng_acc (s : State) (e : Nat) (v : ScEng) (k j : Nat) : (s.setScEng e v).acc k j = s.acc k j := rfl
@[simp] theorem State.setScEng_ftqOf (s : State) (e : Nat) (v : ScEng) (k : Nat) : (s.setScEng e v).ftqOf k = s.ftqOf k := rfl
@[simp] theorem State.setScEng_buf (s : State) (e : Nat) (v : ScEng) (k j : Nat) : (s.setScEng e v).buf k j = s.buf k j := rfl
@[simp] theorem State.setScEng_cline (s : State) (e : Nat) (v : ScEng) (k j m : Nat) : (s.setScEng e v).cline k j m = s.cline k j m := rfl
@[simp] theorem State.setScEng_chan (s : State) (e : Nat) (v : ScEng) (k : Nat) : (s.setScEng e v).chan k = s.chan k := rfl
@[simp] theorem State.setScEng_queue (s : State) (e : Nat) (v : ScEng) (k : Nat) : (s.setScEng e v).queue k = s.queue k := rfl
@[simp] theorem State.setScEng_desc (s : State) (e : Nat) (v : ScEng) (k : Nat) : (s.setScEng e v).desc k = s.desc k := rfl
@[simp] theorem State.setScEng_sem (s : State) (e : Nat) (v : ScEng) (k : Nat) : (s.setScEng e v).sem k = s.sem k := rfl
@[simp] theorem State.setScEng_bar (s : State) (e : Nat) (v : ScEng) (k : Nat) : (s.setScEng e v).bar k = s.bar k := rfl
@[simp] theorem State.setScEng_pool (s : State) (e : Nat) (v : ScEng) (k : Nat) : (s.setScEng e v).pool k = s.pool k := rfl
@[simp] theorem State.setScEng_slot (s : State) (e : Nat) (v : ScEng) (k : Nat) : (s.setScEng e v).slot k = s.slot k := rfl
@[simp] theorem State.setScEng_farPool (s : State) (e : Nat) (v : ScEng) (k : Nat) : (s.setScEng e v).farPool k = s.farPool k := rfl
@[simp] theorem State.setScEng_port (s : State) (e : Nat) (v : ScEng) (k : Nat) : (s.setScEng e v).port k = s.port k := rfl
@[simp] theorem State.setScEng_session (s : State) (e : Nat) (v : ScEng) (k j : Nat) : (s.setScEng e v).session k j = s.session k j := rfl
@[simp] theorem State.setScEng_mx (s : State) (e : Nat) (v : ScEng) (k : Nat) : (s.setScEng e v).mx k = s.mx k := rfl
@[simp] theorem State.setScEng_life (s : State) (e : Nat) (v : ScEng) (k : Nat) : (s.setScEng e v).life k = s.life k := rfl

/-! ### State.setSession -/

@[simp] theorem State.setSession_regs (s : State) (e n : Nat) (v : Session) : (s.setSession e n v).regs = s.regs := rfl
@[simp] theorem State.setSession_cores (s : State) (e n : Nat) (v : Session) : (s.setSession e n v).cores = s.cores := rfl
@[simp] theorem State.setSession_accs (s : State) (e n : Nat) (v : Session) : (s.setSession e n v).accs = s.accs := rfl
@[simp] theorem State.setSession_ftq (s : State) (e n : Nat) (v : Session) : (s.setSession e n v).ftq = s.ftq := rfl
@[simp] theorem State.setSession_bufs (s : State) (e n : Nat) (v : Session) : (s.setSession e n v).bufs = s.bufs := rfl
@[simp] theorem State.setSession_tables (s : State) (e n : Nat) (v : Session) : (s.setSession e n v).tables = s.tables := rfl
@[simp] theorem State.setSession_mem (s : State) (e n : Nat) (v : Session) : (s.setSession e n v).mem = s.mem := rfl
@[simp] theorem State.setSession_qs (s : State) (e n : Nat) (v : Session) : (s.setSession e n v).qs = s.qs := rfl
@[simp] theorem State.setSession_sync (s : State) (e n : Nat) (v : Session) : (s.setSession e n v).sync = s.sync := rfl
@[simp] theorem State.setSession_tier (s : State) (e n : Nat) (v : Session) : (s.setSession e n v).tier = s.tier := rfl
@[simp] theorem State.setSession_fab (s : State) (e n : Nat) (v : Session) : (s.setSession e n v).fab = s.fab := rfl
@[simp] theorem State.setSession_sc (s : State) (e n : Nat) (v : Session) : (s.setSession e n v).sc = s.sc := rfl
@[simp] theorem State.setSession_wear (s : State) (e n : Nat) (v : Session) : (s.setSession e n v).wear = s.wear := rfl
@[simp] theorem State.setSession_media (s : State) (e n : Nat) (v : Session) : (s.setSession e n v).media = s.media := rfl
@[simp] theorem State.setSession_pwr (s : State) (e n : Nat) (v : Session) : (s.setSession e n v).pwr = s.pwr := rfl
@[simp] theorem State.setSession_mgmt (s : State) (e n : Nat) (v : Session) : (s.setSession e n v).mgmt = s.mgmt := rfl
@[simp] theorem State.setSession_boot (s : State) (e n : Nat) (v : Session) : (s.setSession e n v).boot = s.boot := rfl
@[simp] theorem State.setSession_pins (s : State) (e n : Nat) (v : Session) : (s.setSession e n v).pins = s.pins := rfl
@[simp] theorem State.setSession_dev (s : State) (e n : Nat) (v : Session) : (s.setSession e n v).dev = s.dev := rfl
@[simp] theorem State.setSession_devBusy (s : State) (e n : Nat) (v : Session) : (s.setSession e n v).devBusy = s.devBusy := rfl
@[simp] theorem State.setSession_devCmdStatus (s : State) (e n : Nat) (v : Session) : (s.setSession e n v).devCmdStatus = s.devCmdStatus := rfl
@[simp] theorem State.setSession_resetAt (s : State) (e n : Nat) (v : Session) : (s.setSession e n v).resetAt = s.resetAt := rfl
@[simp] theorem State.setSession_ft (s : State) (e n : Nat) (v : Session) : (s.setSession e n v).ft = s.ft := rfl
@[simp] theorem State.setSession_cycle (s : State) (e n : Nat) (v : Session) : (s.setSession e n v).cycle = s.cycle := rfl
@[simp] theorem State.setSession_ninths (s : State) (e n : Nat) (v : Session) : (s.setSession e n v).ninths = s.ninths := rfl
@[simp] theorem State.setSession_ftPrev (s : State) (e n : Nat) (v : Session) : (s.setSession e n v).ftPrev = s.ftPrev := rfl
@[simp] theorem State.setSession_log (s : State) (e n : Nat) (v : Session) : (s.setSession e n v).log = s.log := rfl
@[simp] theorem State.setSession_eventSeq (s : State) (e n : Nat) (v : Session) : (s.setSession e n v).eventSeq = s.eventSeq := rfl
@[simp] theorem State.setSession_free (s : State) (e n : Nat) (v : Session) : (s.setSession e n v).free = s.free := rfl
@[simp] theorem State.setSession_pending (s : State) (e n : Nat) (v : Session) : (s.setSession e n v).pending = s.pending := rfl
@[simp] theorem State.setSession_reg (s : State) (e n : Nat) (v : Session) (k : Nat) : (s.setSession e n v).reg k = s.reg k := rfl
@[simp] theorem State.setSession_core (s : State) (e n : Nat) (v : Session) (k : Nat) : (s.setSession e n v).core k = s.core k := rfl
@[simp] theorem State.setSession_acc (s : State) (e n : Nat) (v : Session) (k j : Nat) : (s.setSession e n v).acc k j = s.acc k j := rfl
@[simp] theorem State.setSession_ftqOf (s : State) (e n : Nat) (v : Session) (k : Nat) : (s.setSession e n v).ftqOf k = s.ftqOf k := rfl
@[simp] theorem State.setSession_buf (s : State) (e n : Nat) (v : Session) (k j : Nat) : (s.setSession e n v).buf k j = s.buf k j := rfl
@[simp] theorem State.setSession_cline (s : State) (e n : Nat) (v : Session) (k j m : Nat) : (s.setSession e n v).cline k j m = s.cline k j m := rfl
@[simp] theorem State.setSession_chan (s : State) (e n : Nat) (v : Session) (k : Nat) : (s.setSession e n v).chan k = s.chan k := rfl
@[simp] theorem State.setSession_queue (s : State) (e n : Nat) (v : Session) (k : Nat) : (s.setSession e n v).queue k = s.queue k := rfl
@[simp] theorem State.setSession_desc (s : State) (e n : Nat) (v : Session) (k : Nat) : (s.setSession e n v).desc k = s.desc k := rfl
@[simp] theorem State.setSession_sem (s : State) (e n : Nat) (v : Session) (k : Nat) : (s.setSession e n v).sem k = s.sem k := rfl
@[simp] theorem State.setSession_bar (s : State) (e n : Nat) (v : Session) (k : Nat) : (s.setSession e n v).bar k = s.bar k := rfl
@[simp] theorem State.setSession_pool (s : State) (e n : Nat) (v : Session) (k : Nat) : (s.setSession e n v).pool k = s.pool k := rfl
@[simp] theorem State.setSession_slot (s : State) (e n : Nat) (v : Session) (k : Nat) : (s.setSession e n v).slot k = s.slot k := rfl
@[simp] theorem State.setSession_farPool (s : State) (e n : Nat) (v : Session) (k : Nat) : (s.setSession e n v).farPool k = s.farPool k := rfl
@[simp] theorem State.setSession_port (s : State) (e n : Nat) (v : Session) (k : Nat) : (s.setSession e n v).port k = s.port k := rfl
@[simp] theorem State.setSession_scEng (s : State) (e n : Nat) (v : Session) (k : Nat) : (s.setSession e n v).scEng k = s.scEng k := rfl
@[simp] theorem State.setSession_mx (s : State) (e n : Nat) (v : Session) (k : Nat) : (s.setSession e n v).mx k = s.mx k := rfl
@[simp] theorem State.setSession_life (s : State) (e n : Nat) (v : Session) (k : Nat) : (s.setSession e n v).life k = s.life k := rfl

/-! ### State.setMx -/

@[simp] theorem State.setMx_regs (s : State) (e : Nat) (v : MxEng) : (s.setMx e v).regs = s.regs := rfl
@[simp] theorem State.setMx_cores (s : State) (e : Nat) (v : MxEng) : (s.setMx e v).cores = s.cores := rfl
@[simp] theorem State.setMx_accs (s : State) (e : Nat) (v : MxEng) : (s.setMx e v).accs = s.accs := rfl
@[simp] theorem State.setMx_ftq (s : State) (e : Nat) (v : MxEng) : (s.setMx e v).ftq = s.ftq := rfl
@[simp] theorem State.setMx_bufs (s : State) (e : Nat) (v : MxEng) : (s.setMx e v).bufs = s.bufs := rfl
@[simp] theorem State.setMx_tables (s : State) (e : Nat) (v : MxEng) : (s.setMx e v).tables = s.tables := rfl
@[simp] theorem State.setMx_mem (s : State) (e : Nat) (v : MxEng) : (s.setMx e v).mem = s.mem := rfl
@[simp] theorem State.setMx_qs (s : State) (e : Nat) (v : MxEng) : (s.setMx e v).qs = s.qs := rfl
@[simp] theorem State.setMx_sync (s : State) (e : Nat) (v : MxEng) : (s.setMx e v).sync = s.sync := rfl
@[simp] theorem State.setMx_tier (s : State) (e : Nat) (v : MxEng) : (s.setMx e v).tier = s.tier := rfl
@[simp] theorem State.setMx_fab (s : State) (e : Nat) (v : MxEng) : (s.setMx e v).fab = s.fab := rfl
@[simp] theorem State.setMx_sc (s : State) (e : Nat) (v : MxEng) : (s.setMx e v).sc = s.sc := rfl
@[simp] theorem State.setMx_wear (s : State) (e : Nat) (v : MxEng) : (s.setMx e v).wear = s.wear := rfl
@[simp] theorem State.setMx_sessions (s : State) (e : Nat) (v : MxEng) : (s.setMx e v).sessions = s.sessions := rfl
@[simp] theorem State.setMx_pwr (s : State) (e : Nat) (v : MxEng) : (s.setMx e v).pwr = s.pwr := rfl
@[simp] theorem State.setMx_mgmt (s : State) (e : Nat) (v : MxEng) : (s.setMx e v).mgmt = s.mgmt := rfl
@[simp] theorem State.setMx_boot (s : State) (e : Nat) (v : MxEng) : (s.setMx e v).boot = s.boot := rfl
@[simp] theorem State.setMx_pins (s : State) (e : Nat) (v : MxEng) : (s.setMx e v).pins = s.pins := rfl
@[simp] theorem State.setMx_dev (s : State) (e : Nat) (v : MxEng) : (s.setMx e v).dev = s.dev := rfl
@[simp] theorem State.setMx_devBusy (s : State) (e : Nat) (v : MxEng) : (s.setMx e v).devBusy = s.devBusy := rfl
@[simp] theorem State.setMx_devCmdStatus (s : State) (e : Nat) (v : MxEng) : (s.setMx e v).devCmdStatus = s.devCmdStatus := rfl
@[simp] theorem State.setMx_resetAt (s : State) (e : Nat) (v : MxEng) : (s.setMx e v).resetAt = s.resetAt := rfl
@[simp] theorem State.setMx_ft (s : State) (e : Nat) (v : MxEng) : (s.setMx e v).ft = s.ft := rfl
@[simp] theorem State.setMx_cycle (s : State) (e : Nat) (v : MxEng) : (s.setMx e v).cycle = s.cycle := rfl
@[simp] theorem State.setMx_ninths (s : State) (e : Nat) (v : MxEng) : (s.setMx e v).ninths = s.ninths := rfl
@[simp] theorem State.setMx_ftPrev (s : State) (e : Nat) (v : MxEng) : (s.setMx e v).ftPrev = s.ftPrev := rfl
@[simp] theorem State.setMx_log (s : State) (e : Nat) (v : MxEng) : (s.setMx e v).log = s.log := rfl
@[simp] theorem State.setMx_eventSeq (s : State) (e : Nat) (v : MxEng) : (s.setMx e v).eventSeq = s.eventSeq := rfl
@[simp] theorem State.setMx_free (s : State) (e : Nat) (v : MxEng) : (s.setMx e v).free = s.free := rfl
@[simp] theorem State.setMx_pending (s : State) (e : Nat) (v : MxEng) : (s.setMx e v).pending = s.pending := rfl
@[simp] theorem State.setMx_reg (s : State) (e : Nat) (v : MxEng) (k : Nat) : (s.setMx e v).reg k = s.reg k := rfl
@[simp] theorem State.setMx_core (s : State) (e : Nat) (v : MxEng) (k : Nat) : (s.setMx e v).core k = s.core k := rfl
@[simp] theorem State.setMx_acc (s : State) (e : Nat) (v : MxEng) (k j : Nat) : (s.setMx e v).acc k j = s.acc k j := rfl
@[simp] theorem State.setMx_ftqOf (s : State) (e : Nat) (v : MxEng) (k : Nat) : (s.setMx e v).ftqOf k = s.ftqOf k := rfl
@[simp] theorem State.setMx_buf (s : State) (e : Nat) (v : MxEng) (k j : Nat) : (s.setMx e v).buf k j = s.buf k j := rfl
@[simp] theorem State.setMx_cline (s : State) (e : Nat) (v : MxEng) (k j m : Nat) : (s.setMx e v).cline k j m = s.cline k j m := rfl
@[simp] theorem State.setMx_chan (s : State) (e : Nat) (v : MxEng) (k : Nat) : (s.setMx e v).chan k = s.chan k := rfl
@[simp] theorem State.setMx_queue (s : State) (e : Nat) (v : MxEng) (k : Nat) : (s.setMx e v).queue k = s.queue k := rfl
@[simp] theorem State.setMx_desc (s : State) (e : Nat) (v : MxEng) (k : Nat) : (s.setMx e v).desc k = s.desc k := rfl
@[simp] theorem State.setMx_sem (s : State) (e : Nat) (v : MxEng) (k : Nat) : (s.setMx e v).sem k = s.sem k := rfl
@[simp] theorem State.setMx_bar (s : State) (e : Nat) (v : MxEng) (k : Nat) : (s.setMx e v).bar k = s.bar k := rfl
@[simp] theorem State.setMx_pool (s : State) (e : Nat) (v : MxEng) (k : Nat) : (s.setMx e v).pool k = s.pool k := rfl
@[simp] theorem State.setMx_slot (s : State) (e : Nat) (v : MxEng) (k : Nat) : (s.setMx e v).slot k = s.slot k := rfl
@[simp] theorem State.setMx_farPool (s : State) (e : Nat) (v : MxEng) (k : Nat) : (s.setMx e v).farPool k = s.farPool k := rfl
@[simp] theorem State.setMx_port (s : State) (e : Nat) (v : MxEng) (k : Nat) : (s.setMx e v).port k = s.port k := rfl
@[simp] theorem State.setMx_scEng (s : State) (e : Nat) (v : MxEng) (k : Nat) : (s.setMx e v).scEng k = s.scEng k := rfl
@[simp] theorem State.setMx_session (s : State) (e : Nat) (v : MxEng) (k j : Nat) : (s.setMx e v).session k j = s.session k j := rfl
@[simp] theorem State.setMx_life (s : State) (e : Nat) (v : MxEng) (k : Nat) : (s.setMx e v).life k = s.life k := rfl

/-! ### State.setLife -/

@[simp] theorem State.setLife_regs (s : State) (n : Nat) (v : W64) : (s.setLife n v).regs = s.regs := rfl
@[simp] theorem State.setLife_cores (s : State) (n : Nat) (v : W64) : (s.setLife n v).cores = s.cores := rfl
@[simp] theorem State.setLife_accs (s : State) (n : Nat) (v : W64) : (s.setLife n v).accs = s.accs := rfl
@[simp] theorem State.setLife_ftq (s : State) (n : Nat) (v : W64) : (s.setLife n v).ftq = s.ftq := rfl
@[simp] theorem State.setLife_bufs (s : State) (n : Nat) (v : W64) : (s.setLife n v).bufs = s.bufs := rfl
@[simp] theorem State.setLife_tables (s : State) (n : Nat) (v : W64) : (s.setLife n v).tables = s.tables := rfl
@[simp] theorem State.setLife_mem (s : State) (n : Nat) (v : W64) : (s.setLife n v).mem = s.mem := rfl
@[simp] theorem State.setLife_qs (s : State) (n : Nat) (v : W64) : (s.setLife n v).qs = s.qs := rfl
@[simp] theorem State.setLife_sync (s : State) (n : Nat) (v : W64) : (s.setLife n v).sync = s.sync := rfl
@[simp] theorem State.setLife_tier (s : State) (n : Nat) (v : W64) : (s.setLife n v).tier = s.tier := rfl
@[simp] theorem State.setLife_fab (s : State) (n : Nat) (v : W64) : (s.setLife n v).fab = s.fab := rfl
@[simp] theorem State.setLife_sc (s : State) (n : Nat) (v : W64) : (s.setLife n v).sc = s.sc := rfl
@[simp] theorem State.setLife_sessions (s : State) (n : Nat) (v : W64) : (s.setLife n v).sessions = s.sessions := rfl
@[simp] theorem State.setLife_media (s : State) (n : Nat) (v : W64) : (s.setLife n v).media = s.media := rfl
@[simp] theorem State.setLife_pwr (s : State) (n : Nat) (v : W64) : (s.setLife n v).pwr = s.pwr := rfl
@[simp] theorem State.setLife_mgmt (s : State) (n : Nat) (v : W64) : (s.setLife n v).mgmt = s.mgmt := rfl
@[simp] theorem State.setLife_boot (s : State) (n : Nat) (v : W64) : (s.setLife n v).boot = s.boot := rfl
@[simp] theorem State.setLife_pins (s : State) (n : Nat) (v : W64) : (s.setLife n v).pins = s.pins := rfl
@[simp] theorem State.setLife_dev (s : State) (n : Nat) (v : W64) : (s.setLife n v).dev = s.dev := rfl
@[simp] theorem State.setLife_devBusy (s : State) (n : Nat) (v : W64) : (s.setLife n v).devBusy = s.devBusy := rfl
@[simp] theorem State.setLife_devCmdStatus (s : State) (n : Nat) (v : W64) : (s.setLife n v).devCmdStatus = s.devCmdStatus := rfl
@[simp] theorem State.setLife_resetAt (s : State) (n : Nat) (v : W64) : (s.setLife n v).resetAt = s.resetAt := rfl
@[simp] theorem State.setLife_ft (s : State) (n : Nat) (v : W64) : (s.setLife n v).ft = s.ft := rfl
@[simp] theorem State.setLife_cycle (s : State) (n : Nat) (v : W64) : (s.setLife n v).cycle = s.cycle := rfl
@[simp] theorem State.setLife_ninths (s : State) (n : Nat) (v : W64) : (s.setLife n v).ninths = s.ninths := rfl
@[simp] theorem State.setLife_ftPrev (s : State) (n : Nat) (v : W64) : (s.setLife n v).ftPrev = s.ftPrev := rfl
@[simp] theorem State.setLife_log (s : State) (n : Nat) (v : W64) : (s.setLife n v).log = s.log := rfl
@[simp] theorem State.setLife_eventSeq (s : State) (n : Nat) (v : W64) : (s.setLife n v).eventSeq = s.eventSeq := rfl
@[simp] theorem State.setLife_free (s : State) (n : Nat) (v : W64) : (s.setLife n v).free = s.free := rfl
@[simp] theorem State.setLife_pending (s : State) (n : Nat) (v : W64) : (s.setLife n v).pending = s.pending := rfl
@[simp] theorem State.setLife_reg (s : State) (n : Nat) (v : W64) (k : Nat) : (s.setLife n v).reg k = s.reg k := rfl
@[simp] theorem State.setLife_core (s : State) (n : Nat) (v : W64) (k : Nat) : (s.setLife n v).core k = s.core k := rfl
@[simp] theorem State.setLife_acc (s : State) (n : Nat) (v : W64) (k j : Nat) : (s.setLife n v).acc k j = s.acc k j := rfl
@[simp] theorem State.setLife_ftqOf (s : State) (n : Nat) (v : W64) (k : Nat) : (s.setLife n v).ftqOf k = s.ftqOf k := rfl
@[simp] theorem State.setLife_buf (s : State) (n : Nat) (v : W64) (k j : Nat) : (s.setLife n v).buf k j = s.buf k j := rfl
@[simp] theorem State.setLife_cline (s : State) (n : Nat) (v : W64) (k j m : Nat) : (s.setLife n v).cline k j m = s.cline k j m := rfl
@[simp] theorem State.setLife_chan (s : State) (n : Nat) (v : W64) (k : Nat) : (s.setLife n v).chan k = s.chan k := rfl
@[simp] theorem State.setLife_queue (s : State) (n : Nat) (v : W64) (k : Nat) : (s.setLife n v).queue k = s.queue k := rfl
@[simp] theorem State.setLife_desc (s : State) (n : Nat) (v : W64) (k : Nat) : (s.setLife n v).desc k = s.desc k := rfl
@[simp] theorem State.setLife_sem (s : State) (n : Nat) (v : W64) (k : Nat) : (s.setLife n v).sem k = s.sem k := rfl
@[simp] theorem State.setLife_bar (s : State) (n : Nat) (v : W64) (k : Nat) : (s.setLife n v).bar k = s.bar k := rfl
@[simp] theorem State.setLife_pool (s : State) (n : Nat) (v : W64) (k : Nat) : (s.setLife n v).pool k = s.pool k := rfl
@[simp] theorem State.setLife_slot (s : State) (n : Nat) (v : W64) (k : Nat) : (s.setLife n v).slot k = s.slot k := rfl
@[simp] theorem State.setLife_farPool (s : State) (n : Nat) (v : W64) (k : Nat) : (s.setLife n v).farPool k = s.farPool k := rfl
@[simp] theorem State.setLife_port (s : State) (n : Nat) (v : W64) (k : Nat) : (s.setLife n v).port k = s.port k := rfl
@[simp] theorem State.setLife_scEng (s : State) (n : Nat) (v : W64) (k : Nat) : (s.setLife n v).scEng k = s.scEng k := rfl
@[simp] theorem State.setLife_session (s : State) (n : Nat) (v : W64) (k j : Nat) : (s.setLife n v).session k j = s.session k j := rfl
@[simp] theorem State.setLife_mx (s : State) (n : Nat) (v : W64) (k : Nat) : (s.setLife n v).mx k = s.mx k := rfl

/-! ### State.setDict -/

@[simp] theorem State.setDict_regs (s : State) (i n : Nat) (v : List Byte) : (s.setDict i n v).regs = s.regs := rfl
@[simp] theorem State.setDict_cores (s : State) (i n : Nat) (v : List Byte) : (s.setDict i n v).cores = s.cores := rfl
@[simp] theorem State.setDict_accs (s : State) (i n : Nat) (v : List Byte) : (s.setDict i n v).accs = s.accs := rfl
@[simp] theorem State.setDict_ftq (s : State) (i n : Nat) (v : List Byte) : (s.setDict i n v).ftq = s.ftq := rfl
@[simp] theorem State.setDict_bufs (s : State) (i n : Nat) (v : List Byte) : (s.setDict i n v).bufs = s.bufs := rfl
@[simp] theorem State.setDict_tables (s : State) (i n : Nat) (v : List Byte) : (s.setDict i n v).tables = s.tables := rfl
@[simp] theorem State.setDict_mem (s : State) (i n : Nat) (v : List Byte) : (s.setDict i n v).mem = s.mem := rfl
@[simp] theorem State.setDict_qs (s : State) (i n : Nat) (v : List Byte) : (s.setDict i n v).qs = s.qs := rfl
@[simp] theorem State.setDict_sync (s : State) (i n : Nat) (v : List Byte) : (s.setDict i n v).sync = s.sync := rfl
@[simp] theorem State.setDict_tier (s : State) (i n : Nat) (v : List Byte) : (s.setDict i n v).tier = s.tier := rfl
@[simp] theorem State.setDict_fab (s : State) (i n : Nat) (v : List Byte) : (s.setDict i n v).fab = s.fab := rfl
@[simp] theorem State.setDict_sc (s : State) (i n : Nat) (v : List Byte) : (s.setDict i n v).sc = s.sc := rfl
@[simp] theorem State.setDict_wear (s : State) (i n : Nat) (v : List Byte) : (s.setDict i n v).wear = s.wear := rfl
@[simp] theorem State.setDict_sessions (s : State) (i n : Nat) (v : List Byte) : (s.setDict i n v).sessions = s.sessions := rfl
@[simp] theorem State.setDict_media (s : State) (i n : Nat) (v : List Byte) : (s.setDict i n v).media = s.media := rfl
@[simp] theorem State.setDict_pwr (s : State) (i n : Nat) (v : List Byte) : (s.setDict i n v).pwr = s.pwr := rfl
@[simp] theorem State.setDict_boot (s : State) (i n : Nat) (v : List Byte) : (s.setDict i n v).boot = s.boot := rfl
@[simp] theorem State.setDict_pins (s : State) (i n : Nat) (v : List Byte) : (s.setDict i n v).pins = s.pins := rfl
@[simp] theorem State.setDict_dev (s : State) (i n : Nat) (v : List Byte) : (s.setDict i n v).dev = s.dev := rfl
@[simp] theorem State.setDict_devBusy (s : State) (i n : Nat) (v : List Byte) : (s.setDict i n v).devBusy = s.devBusy := rfl
@[simp] theorem State.setDict_devCmdStatus (s : State) (i n : Nat) (v : List Byte) : (s.setDict i n v).devCmdStatus = s.devCmdStatus := rfl
@[simp] theorem State.setDict_resetAt (s : State) (i n : Nat) (v : List Byte) : (s.setDict i n v).resetAt = s.resetAt := rfl
@[simp] theorem State.setDict_ft (s : State) (i n : Nat) (v : List Byte) : (s.setDict i n v).ft = s.ft := rfl
@[simp] theorem State.setDict_cycle (s : State) (i n : Nat) (v : List Byte) : (s.setDict i n v).cycle = s.cycle := rfl
@[simp] theorem State.setDict_ninths (s : State) (i n : Nat) (v : List Byte) : (s.setDict i n v).ninths = s.ninths := rfl
@[simp] theorem State.setDict_ftPrev (s : State) (i n : Nat) (v : List Byte) : (s.setDict i n v).ftPrev = s.ftPrev := rfl
@[simp] theorem State.setDict_log (s : State) (i n : Nat) (v : List Byte) : (s.setDict i n v).log = s.log := rfl
@[simp] theorem State.setDict_eventSeq (s : State) (i n : Nat) (v : List Byte) : (s.setDict i n v).eventSeq = s.eventSeq := rfl
@[simp] theorem State.setDict_free (s : State) (i n : Nat) (v : List Byte) : (s.setDict i n v).free = s.free := rfl
@[simp] theorem State.setDict_pending (s : State) (i n : Nat) (v : List Byte) : (s.setDict i n v).pending = s.pending := rfl
@[simp] theorem State.setDict_reg (s : State) (i n : Nat) (v : List Byte) (k : Nat) : (s.setDict i n v).reg k = s.reg k := rfl
@[simp] theorem State.setDict_core (s : State) (i n : Nat) (v : List Byte) (k : Nat) : (s.setDict i n v).core k = s.core k := rfl
@[simp] theorem State.setDict_acc (s : State) (i n : Nat) (v : List Byte) (k j : Nat) : (s.setDict i n v).acc k j = s.acc k j := rfl
@[simp] theorem State.setDict_ftqOf (s : State) (i n : Nat) (v : List Byte) (k : Nat) : (s.setDict i n v).ftqOf k = s.ftqOf k := rfl
@[simp] theorem State.setDict_buf (s : State) (i n : Nat) (v : List Byte) (k j : Nat) : (s.setDict i n v).buf k j = s.buf k j := rfl
@[simp] theorem State.setDict_cline (s : State) (i n : Nat) (v : List Byte) (k j m : Nat) : (s.setDict i n v).cline k j m = s.cline k j m := rfl
@[simp] theorem State.setDict_chan (s : State) (i n : Nat) (v : List Byte) (k : Nat) : (s.setDict i n v).chan k = s.chan k := rfl
@[simp] theorem State.setDict_queue (s : State) (i n : Nat) (v : List Byte) (k : Nat) : (s.setDict i n v).queue k = s.queue k := rfl
@[simp] theorem State.setDict_desc (s : State) (i n : Nat) (v : List Byte) (k : Nat) : (s.setDict i n v).desc k = s.desc k := rfl
@[simp] theorem State.setDict_sem (s : State) (i n : Nat) (v : List Byte) (k : Nat) : (s.setDict i n v).sem k = s.sem k := rfl
@[simp] theorem State.setDict_bar (s : State) (i n : Nat) (v : List Byte) (k : Nat) : (s.setDict i n v).bar k = s.bar k := rfl
@[simp] theorem State.setDict_pool (s : State) (i n : Nat) (v : List Byte) (k : Nat) : (s.setDict i n v).pool k = s.pool k := rfl
@[simp] theorem State.setDict_slot (s : State) (i n : Nat) (v : List Byte) (k : Nat) : (s.setDict i n v).slot k = s.slot k := rfl
@[simp] theorem State.setDict_farPool (s : State) (i n : Nat) (v : List Byte) (k : Nat) : (s.setDict i n v).farPool k = s.farPool k := rfl
@[simp] theorem State.setDict_port (s : State) (i n : Nat) (v : List Byte) (k : Nat) : (s.setDict i n v).port k = s.port k := rfl
@[simp] theorem State.setDict_scEng (s : State) (i n : Nat) (v : List Byte) (k : Nat) : (s.setDict i n v).scEng k = s.scEng k := rfl
@[simp] theorem State.setDict_session (s : State) (i n : Nat) (v : List Byte) (k j : Nat) : (s.setDict i n v).session k j = s.session k j := rfl
@[simp] theorem State.setDict_mx (s : State) (i n : Nat) (v : List Byte) (k : Nat) : (s.setDict i n v).mx k = s.mx k := rfl
@[simp] theorem State.setDict_life (s : State) (i n : Nat) (v : List Byte) (k : Nat) : (s.setDict i n v).life k = s.life k := rfl

/-! ### What is read back -/

theorem State.reg_setReg (s : State) (o k : Nat) (v : W64) : (s.setReg o v).reg k = if k = o then v else s.reg k :=
  Store.get_set 0 s.regs o k v
@[simp] theorem State.reg_setReg_self (s : State) (o : Nat) (v : W64) : (s.setReg o v).reg o = v := Store.get_set_self 0 s.regs o v
theorem State.reg_setReg_ne (s : State) (o k : Nat) (v : W64) (h : k ≠ o) : (s.setReg o v).reg k = s.reg k :=
  Store.get_set_ne 0 s.regs o k v h
theorem State.core_setCore (s : State) (c k : Nat) (v : Core) : (s.setCore c v).core k = if k = c then v else s.core k :=
  Store.get_set _ s.cores c k v
@[simp] theorem State.core_setCore_self (s : State) (c : Nat) (v : Core) : (s.setCore c v).core c = v :=
  Store.get_set_self _ s.cores c v
theorem State.queue_setQueue (s : State) (q k : Nat) (v : Queue) : (s.setQueue q v).queue k = if k = q then v else s.queue k :=
  Store.get_set _ s.qs.queues q k v
@[simp] theorem State.queue_setQueue_self (s : State) (q : Nat) (v : Queue) : (s.setQueue q v).queue q = v :=
  Store.get_set_self _ s.qs.queues q v
theorem State.sem_setSem (s : State) (i k : Nat) (v : Sem) : (s.setSem i v).sem k = if k = i then v else s.sem k :=
  Store.get_set _ s.sync.sems i k v
@[simp] theorem State.sem_setSem_self (s : State) (i : Nat) (v : Sem) : (s.setSem i v).sem i = v :=
  Store.get_set_self _ s.sync.sems i v
theorem State.bar_setBar (s : State) (b k : Nat) (v : Bar) : (s.setBar b v).bar k = if k = b then v else s.bar k :=
  Store.get_set _ s.sync.bars b k v
@[simp] theorem State.bar_setBar_self (s : State) (b : Nat) (v : Bar) : (s.setBar b v).bar b = v :=
  Store.get_set_self _ s.sync.bars b v
@[simp] theorem State.sem_setBar (s : State) (b k : Nat) (v : Bar) : (s.setBar b v).sem k = s.sem k := rfl
@[simp] theorem State.bar_setSem (s : State) (i k : Nat) (v : Sem) : (s.setSem i v).bar k = s.bar k := rfl
theorem State.port_setPort (s : State) (p k : Nat) (v : Port) : (s.setPort p v).port k = if k = p then v else s.port k :=
  Store.get_set _ s.fab.ports p k v
@[simp] theorem State.port_setPort_self (s : State) (p : Nat) (v : Port) : (s.setPort p v).port p = v :=
  Store.get_set_self _ s.fab.ports p v
@[simp] theorem State.acc_setAcc_self (s : State) (c t : Nat) (v : AccTile) : (s.setAcc c t v).acc c t = v :=
  Store.get_set_self _ s.accs (c * 4 + t) v
@[simp] theorem State.ftqOf_setFtq_self (s : State) (c : Nat) (v : List FtqEntry) : (s.setFtq c v).ftqOf c = v :=
  Store.get_set_self _ s.ftq c v
@[simp] theorem State.buf_setBuf_self (s : State) (c b : Nat) (v : TileBuf) : (s.setBuf c b v).buf c b = v :=
  Store.get_set_self _ s.bufs (c * 4 + b) v
@[simp] theorem State.cline_setCline_self (s : State) (c i w : Nat) (v : CLine) : (s.setCline c i w v).cline c i w = v :=
  Store.get_set_self _ s.mem.cache (wayKey c i w) v
@[simp] theorem State.chan_setChan_self (s : State) (c : Nat) (v : Chan) : (s.setChan c v).chan c = v :=
  Store.get_set_self _ s.mem.chans c v
@[simp] theorem State.scEng_setScEng_self (s : State) (e : Nat) (v : ScEng) : (s.setScEng e v).scEng e = v :=
  Store.get_set_self _ s.sc e v
@[simp] theorem State.session_setSession_self (s : State) (e n : Nat) (v : Session) : (s.setSession e n v).session e n = v :=
  Store.get_set_self _ s.sessions (e * 64 + n) v
@[simp] theorem State.mx_setMx_self (s : State) (e : Nat) (v : MxEng) : (s.setMx e v).mx e = v := Store.get_set_self _ s.media e v
@[simp] theorem State.life_setLife_self (s : State) (n : Nat) (v : W64) : (s.setLife n v).life n = v :=
  Store.get_set_self 0 s.wear.life n v
@[simp] theorem State.slot_setSlot_self (s : State) (n : Nat) (x : BitVec 512) : (s.setSlot n x).slot n = x :=
  Store.get_set_self 0 s.tier.slots n x
@[simp] theorem State.pool_setPool_self (s : State) (n : Nat) (x : BitVec 512) : (s.setPool n x).pool n = x :=
  Store.get_set_self 0 s.tier.pools n x
@[simp] theorem State.farPool_setFarPool_self (s : State) (n : Nat) (x : BitVec 256) : (s.setFarPool n x).farPool n = x :=
  Store.get_set_self 0 s.tier.farPools n x
/-- Tile memory reads back what was written to it. -/
@[simp] theorem State.tile_putTile_self (s : State) (c o : Nat) (l : List Byte) : (s.putTile c o l).tile c o l.length = l :=
  loadBytes_storeBytes s.mem.tile (tileKey c o) l
/-- A counter after it was raised. -/
@[simp] theorem State.reg_bump_self (s : State) (o n : Nat) : (s.bump o n).reg o = s.reg o + BitVec.ofNat 64 n :=
  State.reg_setReg_self s o _
theorem State.reg_bump_ne (s : State) (o k n : Nat) (h : k ≠ o) : (s.bump o n).reg k = s.reg k := State.reg_setReg_ne s o k _ h
theorem State.reg_setFlag_ne (s : State) (o b k : Nat) (h : k ≠ o) : (s.setFlag o b).reg k = s.reg k := State.reg_setReg_ne s o k _ h
/-- A W1C bit after it was set. -/
theorem State.flag_setFlag_self (s : State) (o b : Nat) (h : b < 64) : (s.setFlag o b).flag o b = true := by
  simp [State.flag, State.setFlag, h]

/-! ### Operands that name units -/

@[simp] theorem ifUnit_true (w : String) (s : State) : ifUnit true w s = .next s := rfl
@[simp] theorem ifUnit_false (w : String) (s : State) : ifUnit false w s = .fault (.noSuchUnit w) := rfl
theorem byCp_of_live (s t : State) (core : Nat) (h : s.cpLive core = true) : s.byCp core t = t := by simp [State.byCp, h]
theorem byCp_of_not (s t : State) (core : Nat) (h : s.cpLive core = false) : s.byCp core t = s := by simp [State.byCp, h]

end Sys2Proof.Machine
end

