-- ==== Sys2Proof/Tests/Slice0.lean ====
section
/-! SUPPORT. Small tests: a command with an operand that names nothing, for each check of WellFormed; for each statement, a concrete state and
operands that meet its hypotheses, clause by clause, mostly with what then holds. -/

open Sys2Proof Sys2Proof.Machine

set_option Elab.async false

namespace Sys2Proof.Tests

/-- Does a command answer a next state with a property? -/
def ok (o : Host.Outcome State Fault Refusal) (p : State → Bool) : Bool :=
  match o with
  | .next t => p t
  | _ => false

/-- A running device with nothing written yet. -/
def run0 : State := { State.reset with dev := .running }

/-! ### The machine as a whole -/

theorem test_idle_hyps : State.reset.pending = [] ∧ State.reset.fab.slewNs = 0 ∧ State.reset.fab.lost = [] ∧ State.reset.fab.parked = [] := by decide +kernel
theorem test_idle_step : ok (step State.reset) (fun t => decide (t.cycle = 1 ∧ t.ft = 0 ∧ t.ninths = 5)) = true := by decide +kernel
theorem test_reset_inv : State.reset.Inv := ⟨rfl, rfl, by decide, by decide, by decide, by decide⟩
theorem test_step_next : ∃ t, step State.reset = .next t := ⟨_, rfl⟩
theorem test_wf_both : (Instr.yield 143).wf = true ∧ (Instr.yield 144).wf = false := by decide +kernel
theorem test_queue_ok : State.reset.queueOk = true ∧ ({ run0 with pending := [.yield 0, .yield 144] } : State).queueOk = false := by decide +kernel
theorem test_step_front :
    ok (step { run0 with pending := [.idConflict, .yield 0] }) (fun t => decide (t.pending = [.yield 0] ∧ t.mgmt.link = 3)) = true := by
  decide +kernel
theorem test_touch : ok (exec (.yield 0) run0) (fun t => decide (t.dev = run0.dev)) = true ∧ mayTouch (.yield 0) .dev = false := by decide +kernel
theorem test_bad_unit : exec (.yield 144) run0 = .fault (.noSuchUnit "core") := rfl

/-! ### Registers and control processors -/

/-- Does a window offset have a register with a property? -/
def hasReg (o : Nat) (p : RegSpec → Bool) : Bool :=
  match regSpec o with
  | some r => p r && decide ((r.size = 4 ∨ r.size = 8) ∧ o % r.size = 0)
  | none => false

theorem test_register_write :
    hasReg (coreOff 143 0x1008) (fun r => decide (2 ^ 64 - 1 < 2 ^ (8 * r.size) ∧ (2 ^ 64 - 1) &&& r.rsvd = 0)) = true ∧
    commandReg (coreOff 143 0x1008) = false ∧ run0.regsLive = true ∧
    ok (exec (.registerWrite (coreOff 143 0x1008) 8 0xFFFFFFFFFFFFFFFF) run0)
      (fun t => decide (t.reg (coreOff 143 0x1008) = 0xFFFFFFFFFFFFFFFF)) = true := by decide +kernel
theorem test_register_w1c :
    commandReg 0xC000 = false ∧
    ok (exec (.registerWrite 0xC000 4 1) (run0.setReg 0xC000 1)) (fun t => decide (t.reg 0xC000 = 0)) = true ∧
    ok (exec (.registerWrite 0xC000 4 0) (run0.setReg 0xC000 1)) (fun t => decide (t.reg 0xC000 = 1)) = true := by decide +kernel
/-- The reserved bit of each register that the statement on refused writes names, and of one with no clause of its own. -/
def refusedAt (o v : Nat) : Bool :=
  hasReg o fun r => decide (v < 2 ^ (8 * r.size) ∧ v &&& r.rsvd ≠ 0) &&
    ok (exec (.registerWrite o r.size (BitVec.ofNat 64 v)) run0) fun t => decide (t.reg 0x650 = 1 ∧ t.reg o = 0)
theorem test_refused_write :
    refusedAt 0xB008 0x100 = true ∧ refusedAt (coreOff 0 0x1010) (2 ^ 63) = true ∧ refusedAt (coreOff 143 0x1000) 0x00100000 = true ∧
    refusedAt (coreOff 0 0x7118) 0x20 = true ∧ refusedAt (coreOff 0 0x7090) 4 = true ∧ refusedAt (coreOff 0 0x3000) (2 ^ 48) = true := by
  decide +kernel
theorem test_set_wins :
    hasReg (coreOff 0 0x1004) (fun r => r.w1c.testBit 16 && decide (0x10000 &&& r.rsvd = 0)) = true ∧
    ok (exec (.w1cClear (coreOff 0 0x1004) 0x10000 ⟨0x10000, .ok, 0⟩) run0) (fun t => t.flag (coreOff 0 0x1004) 16) = true ∧
    ok (exec (.w1cClear (coreOff 0 0x1004) 0x10000 ⟨0, .ok, 0⟩) (run0.setFlag (coreOff 0 0x1004) 16)) (fun t => !t.flag (coreOff 0 0x1004) 16) = true := by
  decide +kernel
theorem test_set_wins_counter :
    seenCounter (coreOff 0 0x3018) 16 = some (coreOff 0 0x3020) ∧
    ok (exec (.w1cClear (coreOff 0 0x3018) 0 ⟨0x10000, .ok, 0⟩) run0) (fun t => decide (t.reg (coreOff 0 0x3020) = 1)) = true := by decide +kernel

theorem test_set_wins_fault :
    seenFault (coreOff 0 0x4000) 3 = true ∧ seenCounter (coreOff 0 0x4000) 3 = none ∧
    ok (exec (.w1cClear (coreOff 0 0x4000) 8 ⟨8, .pageFault, 0⟩) run0)
      (fun t => t.flag (coreOff 0 0x4000) 3 && decide (t.reg Status.pageFault.counterOff = 1)) = true := by decide +kernel

/-- The window address of a byte of a core's tile memory. -/
def tileAt (core o : Nat) : Nat := 0x100000000000 + core * 0x1000000 + o
theorem test_tile_access :
    isCore 143 = true ∧ run0.cpLive 143 = true ∧ tileAt 143 0xFF < 2 ^ 48 ∧ run0.region (tileAt 143 0xFF) = .tile 143 0xFF ∧
    run0.region (tileAt 0 8) = .tile 0 8 ∧ run0.tileBad 0 8 8 = none ∧ tileAt 143 0xFF % 2 ≠ 0 ∧ tileAt 0 8 % 8 = 0 := by decide +kernel
theorem test_tile_misaligned :
    ok (exec (.cpAccess 0 .load (BitVec.ofNat 64 (tileAt 143 0xFF)) 2 0 []) run0)
      (fun t => decide ((t.core 0).cpExc = some (.loadMisaligned, BitVec.ofNat 64 (tileAt 143 0xFF)))) = true := by decide +kernel
theorem test_access_fault_hyps :
    cpSize 1 = true ∧ run0.region (2 ^ 48 - 1) = .unmapped ∧ (∃ o, run0.region 0x400000000000 = .tiered o) ∧
    ¬ ((BitVec.ofNat 64 (2 ^ 48)).toNat < 2 ^ 48) := by
  refine ⟨by decide, by decide, ⟨_, rfl⟩, by decide⟩
theorem test_time_reads :
    ok (exec (.cpAccess 143 .time 0 8 0 []) { run0 with ft := 7 }) (fun t => decide ((t.core 143).cpValue = 7)) = true ∧
    ok (exec (.cpAccess 143 .cycle 0 8 0 []) { run0 with cycle := 9 }) (fun t => decide ((t.core 143).cpValue = 9)) = true := by decide +kernel
theorem test_store_then_load :
    run0.region 0x1238 = .near 0x1238 ∧ run0.cpBarred 0x1238 8 true = false ∧ (run0.cacheLine 0 (0x1238 / 64)).2.1 = .ok ∧
    ok (exec (.cpAccess 0 .store 0x1238 8 0x0123456789ABCDEF []) run0) (fun t =>
      ok (exec (.cpAccess 0 .load 0x1238 8 0 []) t) fun u => decide ((u.core 0).cpValue = 0x0123456789ABCDEF)) = true := by decide +kernel
theorem test_store_then_load_tile :
    ok (exec (.cpAccess 3 .store (BitVec.ofNat 64 (tileAt 0 64)) 2 0xFEDC []) run0) (fun t =>
      decide (t.tileBad 0 64 2 = none) &&
      ok (exec (.cpAccess 3 .load (BitVec.ofNat 64 (tileAt 0 64)) 2 0 []) t) fun u => decide ((u.core 3).cpValue = 0xFEDC)) = true := by
  decide +kernel

/-! ### Atomic operations, reservations, the core cache -/

/-- Core 0's `AMO_ADDR`, `AMO_OP0` and `AMO_OP1` written. -/
def amoSt (a x y : W64) : State :=
  ((run0.setReg (coreOff 0 0x7100) a).setReg (coreOff 0 0x7108) x).setReg (coreOff 0 0x7110) y
theorem test_atomic_hyps :
    (run0.core 0).absent = false ∧ (run0.core 0).fenced = false ∧ 0x40 + 8 ≤ Config.nearBytes ∧ touchesFw 0x40 8 = false ∧
    (run0.cacheRead 0 0x40 8).2.1 = .ok ∧ amoOf (.amoIntegerAdd 0 true) = some (0, 1) := by decide +kernel
theorem test_atomic_unaligned : touchesFw 0x44 8 = false ∧ 0x44 % amoSize 1 false ≠ 0 := by decide +kernel
/-- The old value that an atomic command delivers and the new value it leaves, from an old value. -/
def amoGives (c : Instr) (old op0 op1 new : W64) : Bool :=
  ok (exec (.cpAccess 0 .store 0x40 8 old []) (amoSt 0x40 op0 op1)) fun s =>
    ok (exec c s) fun t => ok (exec (.amoResultRead 0) t) fun u =>
      decide ((u.core 0).cpValue = old ∧ t.reg (coreOff 0 0x7128) = 0) &&
      ok (exec (.cpAccess 0 .load 0x40 8 0 []) u) fun v => decide ((v.core 0).cpValue = new)
theorem test_amo_add : amoGives (.amoIntegerAdd 0 true) 0xFFFFFFFFFFFFFFFF 2 0 1 = true := by decide +kernel
theorem test_amo_smin : amoGives (.amoSignedMinimum 0 true) 5 0x8000000000000000 0 0x8000000000000000 = true := by decide +kernel
theorem test_amo_smax : amoGives (.amoSignedMaximum 0 true) 5 0x8000000000000000 0 5 = true := by decide +kernel
theorem test_amo_umin : amoGives (.amoUnsignedMinimum 0 true) 5 0x8000000000000000 0 5 = true := by decide +kernel
theorem test_amo_umax : amoGives (.amoUnsignedMaximum 0 true) 5 0x8000000000000000 0 0x8000000000000000 = true := by decide +kernel
theorem test_amo_swap : amoGives (.amoSwap 0 true) 5 9 0 9 = true := by decide +kernel
theorem test_amo_cas :
    amoGives (.amoCompareAndSwap 0 true) 5 5 7 7 = true ∧ amoGives (.amoCompareAndSwap 0 true) 5 6 7 5 = true := by decide +kernel
theorem test_amo_f32 :
    amoGives (.amoFp32Add 0) 0x3F800000 0x40000000 0 0x40400000 = true ∧ amoGives (.amoFp32Minimum 0) 0x3F800000 0xC0000000 0 0xC0000000 = true ∧
    amoGives (.amoFp32Maximum 0) 0x3F800000 0xC0000000 0 0x3F800000 = true := by decide +kernel
theorem test_amo_misaligned :
    ok (exec (.amoIntegerAdd 0 false) (amoSt 0x42 1 0)) (fun t => decide (t.reg (coreOff 0 0x7128) = 0x0102)) = true := by decide +kernel
theorem test_amo_home :
    ok (exec (.amoIntegerAdd 0 false) ((amoSt 0x40 1 0).setCore 0 { absent := true })) (fun t => decide (t.reg (coreOff 0 0x7128) = 0x0201)) = true ∧
    ok (exec (.amoIntegerAdd 0 false) ((amoSt 0x40 1 0).setCore 0 { fenced := true })) (fun t => decide (t.reg (coreOff 0 0x7128) = 0x0403)) =
      true := by decide +kernel
theorem test_rv_amo :
    lrSize 4 = true ∧ rvCode 0 = true ∧ amoSize 0 false = 4 ∧ run0.cpBarred 0x40 4 true = false ∧
    (run0.amoAt 0 0x40 0 4 1 0).2.1 = .ok ∧ run0.cpBarred 0x41 4 true = false ∧ 0x41 % 4 ≠ 0 := by decide +kernel
theorem test_lr_sc :
    ok (exec (.lr 0 0x40 4) run0) (fun t =>
      t.scHolds 0 1 && ok (exec (.sc 0 0x40 4 7) t) fun u => decide ((u.core 0).cpValue = 0 ∧ (u.core 0).lr = none)) = true ∧
    run0.scHolds 0 1 = false ∧ ok (exec (.sc 0 0x40 4 7) run0) (fun u => decide ((u.core 0).cpValue = 1)) = true := by decide +kernel
theorem test_store_ends_reservation :
    ok (exec (.lr 0 0x40 4) run0) (fun t =>
      decide ((t.core 0).lr.isSome) && decide ((t.cacheLine 0 1).2.1 = .ok) && (t.findWay 0 1).isSome &&
      decide (((t.cacheWrite 0 0x7F [1]).1.core 0).lr = none)) = true := by decide +kernel
/-- Core 0's maintenance range written. -/
def maintSt (a n : W64) : State := (run0.setReg (coreOff 0 0x7080) a).setReg (coreOff 0 0x7088) n
theorem test_maintenance :
    ok (exec (.cpAccess 0 .store 0x1238 8 0x55 []) (maintSt 0x1200 64)) (fun s =>
      decide (s.findWay 0 (0x1238 / 64) = some 0 ∧ s.near 0x1238 1 = [0]) &&
      ok (exec (.ccClean 0) s) fun t => decide (t.near 0x1238 1 = [0x55])) = true ∧
    ok (exec (.ccCleanInvalidate 0) (maintSt 0x1200 65)) (fun t => t.flag (coreOff 0 0x7000) 4) = true ∧
    ok (exec (.ccInvalidate 0) (maintSt (BitVec.ofNat 64 Config.nearBytes) 64)) (fun t => t.flag (coreOff 0 0x7000) 4) = true := by decide +kernel
theorem test_maintenance_waits :
    (({ run0 with mem.wbWaits := [{ core := 0, line := 0x48, bytes := [], notBefore := 0, maint := true }] } : State).regRead (coreOff 0 0x7000)).testBit 2 =
      true := by decide +kernel

/-! ### Semaphores and barriers -/

/-- A LIVE CONSUME semaphore with a count. -/
def sem1 (count : W32) : Sem := { version := 1, state := .live, take := 1, add := 1, count := count }
/-- A running device with one semaphore. -/
def semSt (S : Sem) : State := run0.setSem 65535 S
theorem test_sem_saturates :
    isCore 143 = true ∧ isSem 65535 = true ∧ (semSt (sem1 0xFFFFFFFF)).cpLive 143 = true ∧
    ok (exec (.semSignal 143 65535 1) (semSt (sem1 0xFFFFFFFF)))
      (fun t => decide ((t.sem 65535).count = 0xFFFFFFFF ∧ t.reg 0x3010 = 1 ∧ t.swStatus 143 = 0)) = true := by decide +kernel
theorem test_decrement :
    ok (exec (.decrement 0 65535 7) (semSt (sem1 7))) (fun t => decide ((t.sem 65535).count = 0)) = true ∧
    ok (exec (.decrement 0 65535 8) (semSt (sem1 7))) (fun t => decide ((t.sem 65535).count = 7 ∧ t.reg 0x3008 = 1)) = true := by
  decide +kernel
theorem test_sem_free_and_init :
    (sem1 0).cfgStatus 0 = .ok ∧
    ok (exec (.semFree 0 65535) (semSt (sem1 7))) (fun t => decide ((t.sem 65535).state = .free) &&
      ok (exec (.semInit 0 65535 9 0) t) fun u => decide (u.sem 65535 = sem1 9)) = true := by decide +kernel
theorem test_sem_statuses :
    semTable (sem1 0) (.semInit 0 65535 9 0) = .stateConflict ∧ semTable {} (.semSignal 0 65535 1) = .stateConflict ∧
    semTable { sem1 0 with state := .poisoned } (.decrement 0 65535 1) = .ownerLost ∧ semTable (sem1 0) (.semSignal 0 65535 0) = .reservedNonzero := by
  decide +kernel

/-- A LIVE LOCAL barrier of three participants, the first two of which have arrived. -/
def bar3 : Bar := { version := 1, state := .live, nPartM1 := 2, slot0 := 3 }
/-- A running device with one barrier. -/
def barSt (B : Bar) : State := run0.setBar 4095 B
theorem test_bar_init_free :
    ({ bar3 with state := .free } : Bar).cfgStatus = .ok ∧ isBar 4095 = true ∧
    ok (exec (.barInit 0 4095) (barSt { bar3 with state := .free })) (fun t => decide (t.bar 4095 = { bar3 with slot0 := 0 })) = true ∧
    ok (exec (.barFree 0 4095) (barSt { bar3 with state := .faulted, waiters := [(1, 0)] })) (fun t => decide ((t.bar 4095).state = .free)) = true ∧
    ok (exec (.barFree 0 4095) (barSt bar3)) (fun t => decide ((t.bar 4095).state = .free)) = true := by decide +kernel
theorem test_bar_refused :
    barTable bar3 (.barInit 0 4095) = .stateConflict ∧ barTable bar3 (.arrive 0 4095 3) = .reservedNonzero ∧
    ok (exec (.arrive 0 4095 3) (barSt bar3)) (fun t => decide (t.swStatus 0 = 0x0102 ∧ t.bar 4095 = bar3)) = true := by decide +kernel

/-- Core 5 waits for the semaphore to reach `n`. -/
def waitSt (n : W32) : State :=
  (semSt { sem1 2 with waiters := [.cp 5] }).setCore 5 { run0.core 5 with sw := some { kind := 0, index := 65535, n := n, consume := true } }
theorem test_wait_at_once :
    (run0.core 0).sw = none ∧
    ok (exec (.semaphoreWait 0 65535 2 true) (semSt (sem1 2)))
      (fun t => decide ((t.sem 65535).count = 0 ∧ t.reg (coreOff 0 0x3010) = 0 ∧ (t.core 0).sw = none)) = true := by decide +kernel
theorem test_wait_registers :
    ok (exec (.semaphoreWait 0 65535 3 true) (semSt (sem1 2))) (fun t => decide ((t.sem 65535).waiters = [.cp 0])) = true ∧
    ok (exec (.semaphoreWait 0 65535 3 true) (semSt { sem1 2 with state := .poisoned }))
      (fun t => decide (t.reg (coreOff 0 0x3010) = 0x0403000000000000)) = true := by decide +kernel
theorem test_wait_ends :
    ok (exec (.semSignal 0 65535 1) (waitSt 3))
      (fun t => decide ((t.core 5).sw = none ∧ (t.sem 65535).count = 0 ∧ t.reg (coreOff 5 0x3010) = 0)) = true ∧
    ok (exec (.semSignal 0 65535 1) (waitSt 4)) (fun t => decide ((t.core 5).sw.isSome ∧ (t.sem 65535).count = 3)) = true := by
  decide +kernel
theorem test_wait_busy :
    ok (exec (.semaphoreWait 5 65535 1 true) (waitSt 9)) (fun t => decide (t.swStatus 5 = 0x0101)) = true ∧
    ok (exec (.swWait 5 4095 0) (waitSt 9)) (fun t => decide (t.swStatus 5 = 0x0101)) = true := by decide +kernel
theorem test_result_read :
    ok (exec (.swResultRead 0) (run0.setReg (coreOff 0 0x3010) 9)) (fun t => decide ((t.core 0).cpValue = 9)) = true ∧
    ok (exec (.swResultRead 5) (waitSt 9)) (fun t => decide (((t.core 5).sw.map fun r => r.stalled) = some true)) = true := by
  decide +kernel
theorem test_result_delivered :
    ok (exec (.swResultRead 5) (waitSt 3)) (fun s =>
      ok (exec (.semSignal 0 65535 5) s) fun t => decide ((t.core 5).sw = none ∧ (t.core 5).cpValue = 4)) = true := by decide +kernel
/-- Core 5's wait with a timeout of 10 cycles at a cycle. -/
def lateSt (cycle : W64) : State := { (waitSt 9).setReg (coreOff 5 0x3008) 10 with cycle := cycle }
theorem test_timeout :
    ok (exec (.swTimeout 5) (lateSt 9)) (fun t => decide ((t.core 5).sw.isSome)) = true ∧
    ok (exec (.swTimeout 5) (lateSt 10))
      (fun t => decide ((t.core 5).sw = none ∧ (t.sem 65535).waiters = [] ∧ t.reg (coreOff 5 0x3010) = 0x0301000000000000)) = true := by
  decide +kernel

theorem test_arrive :
    ok (exec (.arrive 0 4095 2) (barSt { bar3 with slot0 := 0 })) (fun t => decide ((t.bar 4095).slot0 = 4)) = true ∧
    ok (exec (.arrive 0 4095 0) (barSt bar3)) (fun t => decide ((t.bar 4095).slot1 = 1)) = true := by decide +kernel
theorem test_arrive_completes :
    ok (exec (.arrive 0 4095 2) ((barSt { bar3 with waiters := [(7, 0)] }).setCore 7 { sw := some { kind := 3, index := 4095, n := 0, consume := false } }))
      (fun t => decide ((t.bar 4095).round = 1 ∧ (t.bar 4095).sense ∧ (t.bar 4095).slot0 = 0 ∧ (t.bar 4095).waiters = [] ∧ (t.core 7).sw = none)) =
      true := by decide +kernel
theorem test_arrive_signals :
    ok (exec (.arrive 0 4095 2) ((barSt { bar3 with relEn := true, relSem := 65535 }).setSem 65535 (sem1 0)))
      (fun t => decide ((t.sem 65535).count = 1 ∧ (t.bar 4095).round = 1)) = true := by decide +kernel
theorem test_overrun :
    ok (exec (.arrive 0 4095 0) (barSt { bar3 with slot1 := 1, waiters := [(7, 0)] }))
      (fun t => decide ((t.bar 4095).state = .faulted ∧ t.swStatus 0 = 0x0402 ∧ t.reg (coreOff 7 0x3010) = 0x0402000000000000)) = true ∧
    ok (exec (.swWait 0 4095 0) (barSt { bar3 with state := .faulted })) (fun t => decide (t.reg (coreOff 0 0x3010) = 0x0402000000000000)) = true := by
  decide +kernel
theorem test_bar_waits :
    ok (exec (.swArrive 0 4095 0) (barSt bar3)) (fun t => decide (t.reg (coreOff 0 0x3010) = 1)) = true ∧
    ok (exec (.arriveWait 0 4095 2) (barSt { bar3 with slot0 := 1 })) (fun t => decide ((t.bar 4095).waiters = [(0, 0)])) = true ∧
    ok (exec (.arriveWait 0 4095 2) (barSt bar3)) (fun t => decide ((t.bar 4095).round = 1 ∧ (t.core 0).sw = none)) = true := by decide +kernel
theorem test_bar_wait_rounds :
    ok (exec (.swWait 0 4095 0xFFFFFFFF) (barSt bar3)) (fun t => decide ((t.core 0).sw = none ∧ t.reg (coreOff 0 0x3010) = 0xFFFFFFFF)) = true ∧
    ok (exec (.swWait 0 4095 0) (barSt bar3)) (fun t => decide ((t.bar 4095).waiters = [(0, 0)])) = true := by decide +kernel

/-- A FABRIC barrier of a root and of two members. -/
def barF (root : Nat) : Bar := { bar3 with fabric := true, rootChip := root, nChipsM1 := 1 }
theorem test_fabric_arrival :
    run0.fab.chipNum = 0 ∧ ok (exec (.fabricArrival 4095 1 0) (barSt (barF 0))) (fun t => decide ((t.bar 4095).chipArr0 = 1)) = true ∧
    (barSt { barF 0 with nChipsM1 := 0 }).barPeers { barF 0 with nChipsM1 := 0 } = [] ∧
    ok (exec (.fabricArrival 4095 0 0) (barSt { barF 0 with nChipsM1 := 0 })) (fun t => decide ((t.bar 4095).round = 1)) = true := by
  decide +kernel
theorem test_fabric_release :
    ok (exec (.fabricRelease 4095 1 0) (barSt { barF 1 with sent := true })) (fun t => decide ((t.bar 4095).round = 1 ∧ (t.bar 4095).sense)) = true := by
  decide +kernel
theorem test_fabric_fault :
    ok (exec (.fabricFaultMessage 4095 1 false) (barSt (barF 1))) (fun t => decide ((t.bar 4095).state = .faulted ∧ (t.bar 4095).ovrPart = 255)) = true ∧
    ok (exec (.fabricFaultMessage 4095 1 true) (barSt { barF 1 with waiters := [(7, 0)] }))
      (fun t => decide ((t.bar 4095).state = .poisoned ∧ (t.bar 4095).waiters = [])) = true ∧
    ok (exec (.fabricFaultMessage 4095 1 true) (barSt bar3)) (fun t => decide (t.reg 0x3030 = 0 ∧ t.bar 4095 = bar3)) = true := by decide +kernel

theorem test_fabric_mismatch :
    ok (exec (.fabricArrival 4095 1 0) run0) (fun t => decide (t.reg 0x3030 = 1)) = true ∧
    ok (exec (.fabricRelease 4095 1 0) (barSt bar3)) (fun t => decide (t.reg 0x3030 = 1 ∧ t.bar 4095 = bar3)) = true := by decide +kernel

/-- `SYNC_DBG_OBJ` and `SYNC_DBG_VAL` written. -/
def dbgSt (s : State) (obj : Nat) : State := (s.setDictNat 0x9100 1 obj).setDictNat 0x9100 2 77
theorem test_set_by_hand :
    (dbgSt run0 65535).dbgObj = (false, 65535) ∧
    ok (exec (.set 1) (dbgSt (semSt (sem1 2)) 65535)) (fun t => decide ((t.sem 65535).count = 77 ∧ t.sync.dbgLog.length = 1)) = true ∧
    ok (exec (.set 1) (dbgSt run0 65535)) (fun t => decide (t.sem 65535 = {})) = true := by decide +kernel
theorem test_release_free_by_hand :
    ok (exec (.manualRelease 1) (dbgSt (waitSt 9) 65535)) (fun t => decide ((t.sem 65535).waiters = [] ∧ (t.core 5).sw = none)) = true ∧
    ok (exec (.manualFree 1) (dbgSt (waitSt 9) 65535)) (fun t => decide ((t.sem 65535).state = .free ∧ (t.core 5).sw = none)) = true := by
  decide +kernel
theorem test_bar_by_hand :
    (dbgSt run0 (65536 + 4095)).dbgObj = (true, 4095) ∧
    ok (exec (.complete 1) (dbgSt (barSt bar3) (65536 + 4095))) (fun t => decide ((t.bar 4095).round = 1 ∧ (t.bar 4095).slot0 = 0)) = true ∧
    ok (exec (.complete 1) (dbgSt run0 (65536 + 4095))) (fun t => decide (t.bar 4095 = {})) = true ∧
    ok (exec (.manualRelease 1) (dbgSt (barSt { bar3 with waiters := [(7, 0)] }) (65536 + 4095))) (fun t => decide (t.bar 4095 = bar3)) = true ∧
    ok (exec (.manualFree 1) (dbgSt (barSt { bar3 with waiters := [(7, 0)] }) (65536 + 4095))) (fun t => decide ((t.bar 4095).state = .free)) = true := by
  decide +kernel
theorem test_poison_ctx :
    isCtx 65535 = true ∧
    ok (exec (.poisonCtx 65535) ((semSt { sem1 2 with ownCtx := 65535, waiters := [.cp 5] }).setBar 4095 { bar3 with ownCtx := 65534 }))
      (fun t => decide ((t.sem 65535).state = .poisoned ∧ (t.sem 65535).waiters = [] ∧ (t.bar 4095).state = .live)) = true ∧
    ok (exec (.poisonCtx 65535) (barSt { bar3 with ownCtx := 65535 })) (fun t => decide ((t.bar 4095).state = .poisoned)) = true := by decide +kernel

/-! ### The execute engines -/

/-- A 64-byte structure of version 1 from its fields. -/
def item (l : List (Nat × Nat × Nat)) : BitVec 512 := l.foldl (fun x f => setFld x f.1 f.2.1 f.2.2) (BitVec.ofNat 512 (2 ^ 508))
/-- An ACTIVE queue of a kind on core 0, that holds an item whose waits are satisfied. -/
def queueOf (kind : Nat) (x : BitVec 512) : Queue :=
  { cfg := item [(505, 503, kind)], state := .active, head := 1, tail := 1, held := some { index := 0, item := x, satisfied := true } }
/-- Queue 7 of a device holds an item; core 0 runs a schedule program, its registers are clear and the energy balances stand at their caps. -/
def hold (s : State) (kind : Nat) (x : BitVec 512) : State :=
  ({ s with regs := [], pwr.balance := [] }.setQueue 7 (queueOf kind x)).setCore 0 { s.core 0 with scheduled := true }
/-- What `State.memSound` asks, as a Bool. -/
def sound (s : State) : Bool :=
  decide (s.mem.badNear = [] ∧ s.mem.badTile = [] ∧ s.mem.nearErr = [] ∧ s.mem.tileErr = [] ∧ s.mem.burstBad = [] ∧ s.mem.chans = []) &&
  (List.range 8).all fun k => !s.flag (msOff k 0) 7
/-- A tag of version 1 and a format. -/
def tagOf (fmt : Nat) : W128 := BitVec.ofNat 128 (2 ^ 124 + fmt * 2 ^ 56)
/-- Tiles of a format at granules 0, 8 and 16 of core 0: their first elements are 3, 5 and 7 as raw bits of `w` bytes. -/
def tiles (fmt w a b c : Nat) : State :=
  ((((((run0.putTag 0 0 (tagOf fmt)).putTag 0 8 (tagOf fmt)).putTag 0 16 (tagOf fmt)).putTile 0 0 (leBytes w a)).putTile 0 16384
    (leBytes w b)).putTile 0 32768 (leBytes w c))
/-- What `State.mayBegin` asks, as a Bool. -/
def begins (s : State) (E : EngineOps) (q : Nat) (x : BitVec 512) : Bool :=
  decide ((s.queue q).kind = E.kind ∧ s.takesItems (s.queue q).core = true ∧ E.underway s (s.queue q).core = none ∧
    s.readyItem q = some x ∧ E.free s q x = true ∧ E.chosen s q = true ∧ E.check s q x = .ok)

/-- An MMA item of one term and one word: A at granule 0, B at granule 8. -/
def mma (op : Nat) : BitVec 512 := item [(503, 502, op), (473, 469, 1), (421, 409, 8)]
theorem test_bad_item :
    engineOf (.mmaStart 7) = some (matrixEngine, 7, mmaMine 1) ∧ matrixEngine.check (hold run0 1 (mma 1)) 7 (mma 1) = .versionUnsupported ∧
    ok (exec (.mmaStart 7) (hold run0 1 (mma 1)))
      (fun t => decide ((t.queue 7).state = .stopped ∧ (t.queue 7).faultStatus = 0x0103 ∧ (t.queue 7).held = none)) = true := by
  refine ⟨rfl, by decide +kernel, by decide +kernel⟩
/-- A device with core 0 scheduled. -/
def sched0 : State := run0.setCore 0 { scheduled := true }
/-- A device whose queue 7 has an item in its ring at 0x1000 that waits for semaphore 9. -/
def waits9 : State :=
  ((sched0.setSem 9 (sem1 0)).putNear 0x1000 (leBytes 64 (item [(503, 502, 1), (473, 469, 1), (421, 409, 8), (383, 383, 1), (382, 367, 9)]).toNat)).setQueue 7
    { cfg := item [(505, 503, 1), (445, 416, 4)], state := .active, tail := 1 }
theorem test_take_waits :
    (waits9.queue 7).kind = 1 ∧ itemWaits 1 (waits9.ringItem (waits9.queue 7) 0) = [9] ∧ mmaMine 1 (waits9.ringItem (waits9.queue 7) 0) = true ∧
    waits9.takesItems 0 = true ∧ sound waits9 = true ∧
    ok (exec (.mmaStart 7) waits9) (fun t => decide ((t.queue 7).head = 1 ∧ (t.sem 9).waiters = [.item 7])) = true := by decide +kernel
theorem test_mma_exact :
    begins (hold (tiles 11 1 3 5 0) 1 (mma 1)) matrixEngine 7 (mma 1) = true ∧ sound (tiles 11 1 3 5 0) = true ∧
    ok (exec (.mmaStart 7) (hold (tiles 11 1 3 5 0) 1 (mma 1))) (fun t =>
      decide ((t.acc 0 0).owner = some 7 ∧ (t.acc 0 0).word 0 = BitVec.ofNat 96 (15 * 2 ^ 62)) && begins (hold t 1 (mma 0)) matrixEngine 7 (mma 0) &&
      ok (exec (.mmaContinue 7) (hold t 1 (mma 0))) fun u =>
        decide ((u.acc 0 0).word 0 = BitVec.ofNat 96 (30 * 2 ^ 62)) && begins (hold u 1 (mma 2)) matrixEngine 7 (mma 2) &&
        ok (exec (.mmaFinish 7) (hold u 1 (mma 2))) fun v =>
          decide ((v.acc 0 0).empty = true ∧ ((v.ftqOf 0).map fun e => Store.get 0 e.words 0) = [0x42340000])) = true := by decide +kernel
theorem test_mma_float :
    begins (hold (tiles 1 2 0x3FC0 0x4000 0) 1 (mma 1)) matrixEngine 7 (mma 1) = true ∧
    ok (exec (.mmaStart 7) (hold (tiles 1 2 0x3FC0 0x4000 0) 1 (mma 1)))
      (fun t => decide ((t.acc 0 0).word 0 = 0x40400000 ∧ (t.acc 0 0).word 1 = 0x80000000)) = true := by decide +kernel
theorem test_save_begins : begins (hold run0 1 (item [(507, 504, 1)])) matrixEngine 7 (item [(507, 504, 1)]) = true := by decide +kernel
/-- A device with the image of a tile of the exact class at granule 0 of core 0. -/
def image0 : State := run0.putTile 0 49152 (leBytes 8 (2 ^ 60 + 2 ^ 59))
theorem test_restore_begins : begins (hold image0 1 (item [(507, 504, 2)])) matrixEngine 7 (item [(507, 504, 2)]) = true := by decide +kernel
theorem test_ftq_flush :
    ok (exec (.ftqFlush 143) (run0.setFtq 143 [{}])) (fun t => decide (t.ftqOf 143 = [])) = true ∧
    ok (exec (.bufClear 143) (run0.setBuf 143 3 { tag := 1 })) (fun t => decide (t.buf 143 3 = {})) = true ∧
    ok (exec (.bufClear 0) (run0.setCore 0 { vec := some { queue := 7 } })) (fun t => (t.core 0).bufClear) = true := by decide +kernel

/-- A vector item of one element from granule 0 (and 8) into buffer 3. -/
def vec (op sub : Nat) (l : List (Nat × Nat × Nat)) : BitVec 512 :=
  item ([(507, 504, op), (503, 500, sub), (423, 422, 2), (421, 409, 3), (382, 378, 1)] ++ l)
/-- Does a vector command begin its item, and what word does it leave in buffer 3? -/
def veGives (c : Instr) (s : State) (x : BitVec 512) (w : W32) : Bool :=
  begins (hold s 2 x) vectorEngine 7 x &&
  ok (exec c (hold s 2 x)) fun t => decide (Store.get 0 (t.buf 0 3).words 0 = w ∧ (t.buf 0 3).m = 1 ∧ (t.queue 7).held = none)
/-- The BF16 numbers 1.5 and 2 at granules 0 and 8, the INT8 number 0 at granule 16. -/
def vt : State := (tiles 1 2 0x3FC0 0x4000 0).putTag 0 16 (tagOf 11)
theorem test_epi : veGives (.epi 7) vt (vec 0 0 [(484, 484, 1), (449, 437, 8)]) 0x40600000 = true := by decide +kernel
theorem test_binary :
    veGives (.binary 7) vt (vec 1 1 [(449, 437, 8)]) 0xBF000000 = true ∧ veGives (.binary 7) vt (vec 1 3 [(449, 437, 8)]) 0x3F400000 = true ∧
    veGives (.binary 7) vt (vec 1 5 [(449, 437, 8)]) 0x3FC00000 = true := by decide +kernel
theorem test_permute : veGives (.permute 7) vt (vec 3 1 []) 0x3FC00000 = true ∧ veGives (.permute 7) vt (vec 3 3 []) 0x3FC00000 = true := by
  decide +kernel
theorem test_shuffle : veGives (.shuffle 7) vt (vec 4 0 [(449, 437, 16)]) 0x3FC00000 = true := by decide +kernel
theorem test_convert : veGives (.convert 7) vt (vec 5 1 []) 0x3FC00000 = true := by decide +kernel
theorem test_smax_norm_begins :
    begins (hold (vt.loadBuiltins 0) 2 (vec 2 3 [(395, 383, 32)])) vectorEngine 7 (vec 2 3 [(395, 383, 32)]) = true ∧
    begins (hold (vt.loadBuiltins 0) 2 (vec 2 4 [(395, 383, 32)])) vectorEngine 7 (vec 2 4 [(395, 383, 32)]) = true := by decide +kernel
/-- A ROWSTAT item with its record at granule 32. -/
def stat (sub : Nat) : BitVec 512 := item [(507, 504, 2), (503, 500, sub), (481, 481, 1), (423, 422, 1), (395, 383, 32), (382, 378, 1)]
theorem test_stats :
    begins (hold vt 2 (stat 0)) vectorEngine 7 (stat 0) = true ∧ begins (hold vt 2 (stat 1)) vectorEngine 7 (stat 1) = true ∧
    begins (hold (vt.loadBuiltins 0) 2 (stat 2)) vectorEngine 7 (stat 2) = true ∧ (vt.core 0).bufClear = false := by decide +kernel
theorem test_stat_p1 :
    ok (exec (.statP1 7) (hold vt 2 (stat 0)))
      (fun t => decide ((RowRec.ofBits (t.recRow 0 32 0)).mean = 0x3FC00000 ∧ (RowRec.ofBits (t.recRow 0 32 0)).max = 0x3FC00000)) = true := by
  decide +kernel
/-- A table image of mode 1 with two segments at granule 64, its first coefficient 1. -/
def tableSt : State :=
  run0.putTile 0 (2048 * 64) (leBytes 64 (item [(507, 505, 1), (504, 503, 2), (477, 474, 1)]).toNat ++ leBytes 4 0x3F800000)
/-- The LOAD_TABLE item for slot 7. -/
def loadT : BitVec 512 := item [(507, 504, 6), (495, 493, 7), (423, 422, 1), (395, 383, 64), (382, 378, 1)]
theorem test_load_table :
    begins (hold tableSt 2 loadT) vectorEngine 7 loadT = true ∧
    ok (exec (.loadTable 7) (hold tableSt 2 loadT))
      (fun t => decide ((t.bank 0 7 0).segs.head? = some (0x3F800000, 0, 0) ∧ (t.bank 0 7 1).empty = true)) = true := by decide +kernel

/-- A device for an attention item: slot 0 is active, the builtin tables are loaded, BF16 tags stand at granules 0, 4 and 8. -/
def attnSt : State :=
  { ((((run0.loadBuiltins 0).putTag 0 0 (tagOf 1)).putTag 0 4 (tagOf 1)).putTag 0 8 (tagOf 1)) with
    tier.slots := [(0, item [(507, 506, 1)])] }
/-- An item of one pair over one streamed block, of an opcode. -/
def attn (op : Nat) (l : List (Nat × Nat × Nat)) : BitVec 512 :=
  item ([(507, 504, op), (388, 385, 1), (377, 375, 1), (361, 349, 16), (335, 323, 160), (322, 310, 64), (283, 256, 1)] ++ l)
theorem test_attention_begins :
    begins (hold attnSt 3 (attn 0 [(348, 336, 128)])) (attnEngine 1) 7 (attn 0 [(348, 336, 128)]) = true ∧
    begins (hold attnSt 3 (attn 1 [(348, 336, 128)])) (attnEngine 1) 7 (attn 1 [(348, 336, 128)]) = true ∧
    begins (hold attnSt 3 (attn 2 [(348, 336, 128), (309, 297, 4), (296, 284, 8)])) (attnEngine 1) 7
      (attn 2 [(348, 336, 128), (309, 297, 4), (296, 284, 8)]) = true ∧
    begins (hold attnSt 3 (attn 3 [(492, 492, 1)])) (attnEngine 1) 7 (attn 3 [(492, 492, 1)]) = true := by decide +kernel
theorem test_yield :
    ok (exec (.yield 143) run0) (fun t => decide (t = run0)) = true ∧
    ok (exec (.yield 143) (run0.setCore 143 { walk := some { queue := 7, index := 0, item := 0, next := 0 } }))
      (fun t => (t.core 143).yieldPending) = true := by decide +kernel

/-- A pool of 64 positions a page, one head tile, BF16, with two frames and one spill frame: its frames from 0x100000, its frame table at
0x2000, its far range from the start of the tiered range. -/
def poolX : BitVec 512 :=
  item [(507, 507, 1), (506, 502, 6), (499, 496, 1), (495, 464, 16384), (463, 436, 256), (435, 412, 2), (411, 384, 2), (380, 346, 0x400000000),
    (345, 322, 1)]
/-- A device whose tiered range is enabled (1 GiB from address 0, 64 MiB of it metadata), with a command at the head of the tier manager's
ring and an entry of object 5. -/
def tierSt (x obj : BitVec 512) : State :=
  let s := [(1, 0), (2, 1), (3, 64), (5, 1), (6, 0x26000), (7, 0x6000), (9, 0x2000)].foldl (fun (s : State) (f : Nat × Nat) => s.setDictNat 0x4300 f.1 f.2) run0
  { ((s.putNear 0x2000 (leBytes 64 x.toNat)).putNear (0x26000 + 5 * 64) (leBytes 64 obj.toNat)).setReg 0xB008 1 with
    tier.farPools := [(0, BitVec.ofNat 256 (2 ^ 252 + 2 ^ 251 + 2 ^ 249 + 2 ^ 168))] }
/-- A LIVE object of one page of 4,096 bytes at offset 0. -/
def obj5 : BitVec 512 := item [(507, 506, 1), (505, 501, 12), (445, 412, 1)]
/-- That device with page 0 of object 5, a FAR object that protection domain 0 may read and write, in far pool 0, with its page table of
three nodes. -/
def farSt : State :=
  let s := tierSt 0 (setFld (setFld obj5 500 498 2) 493 492 3)
  let node := fun k => (2 ^ 124 + 2 ^ 122 + (1 + k) * 8192 : Nat)
  (((s.putNear 0 (leBytes 16 (node 0x1000))).putNear 0x2002000 (leBytes 16 (node 0x1001))).putNear 0x2004000 (leBytes 16 (node 0x1002))).putNear
    0x2006000 (leBytes 16 (2 ^ 124 + 2 ^ 123 + 12 * 2 ^ 117 + 2 ^ 115 + 3 * 2 ^ 112 + 5 * 2 ^ 95 + 0x4000000))
/-- The entry of slot 0: active, its page table at 0x4000. -/
def slot0 : BitVec 512 := item [(507, 506, 1), (379, 352, 4)]
/-- Page 0 of slot 0. -/
def page0 : KvPage := { pte := 0x4000, slot := 0, layer := 0, kvh := 0, page := 0 }
/-- A device with that pool and slot 0, whose page table at 0x4000 gives page 0 a state and the address of frame 0. -/
def poolSt (state : Nat) : State :=
  { (run0.putNear 0x4000 (leBytes 8 (2 ^ 60 + state * 2 ^ 58 + 256 * 2 ^ 12))) with
    tier.slots := [(0, slot0)], tier.pools := [(0, poolX)],
    tier.kvFrames := if state = 1 then [(0, some { page := page0 })] else [],
    tier.kvSpills := if state = 2 then [(0, some page0)] else [] }
/-- The same over a far pool that is there, with small frames, and what lies in the first. -/
def poolFar (state : Nat) : State :=
  { ((farSt.putFar 0 0x4000000 (List.replicate 16 1)).putNear 0x4000 (leBytes 8 (2 ^ 60 + state * 2 ^ 58 + 256 * 2 ^ 12))) with
    tier.slots := [(0, slot0)], tier.pools := [(0, setFld poolX 495 464 16)],
    tier.kvFrames := [], tier.kvSpills := if state = 2 then [(0, some page0)] else [] }
/-- An item on the first position of page 0. -/
def pageItem (op : Nat) : BitVec 512 := item ([(507, 504, op)] ++ if op = 4 then [(388, 385, 1)] else [])
theorem test_append :
    begins (hold (poolSt 1) 3 (pageItem 4)) (attnEngine 0) 7 (pageItem 4) = true ∧ (poolSt 1).appendPages slot0 (pageItem 4) = [page0] ∧
    (poolSt 1).kvPageState page0 = 1 ∧ (poolSt 1).kvComing page0 = false ∧ (poolSt 1).appendAddr slot0 (pageItem 4) 0 0 = 0x100000 ∧
    (poolSt 1).appendAddr slot0 (pageItem 4) 1 0 = 0x102000 ∧ (poolSt 1).kvFrameOf 0 page0 = some 0 ∧
    ok (exec (.append 7) (hold ((poolSt 1).putTile 0 0 [5]) 3 (pageItem 4)))
      (fun t => decide (t.near 0x100000 1 = [5] ∧ fld (t.slot 0) 127 64 = 1)) = true := by decide +kernel
theorem test_prefetch :
    begins (hold (poolSt 1) 3 (pageItem 5)) (attnEngine 0) 7 (pageItem 5) = true ∧ (poolSt 1).kvComing page0 = false ∧
    ok (exec (.prefetch 7) (hold (poolSt 1) 3 (pageItem 5))) (fun t => decide (t.tier = (poolSt 1).tier ∧ (t.queue 7).held = none)) = true := by
  decide +kernel
theorem test_prefetch_far :
    begins (hold (poolFar 2) 3 (pageItem 5)) (attnEngine 0) 7 (pageItem 5) = true ∧
    (poolFar 2).prefetchPages (pageItem 5) slot0 = [page0] ∧ (poolFar 2).kvPageState page0 = 2 ∧
    ((poolFar 2).kvFreeFrame 0).isSome = true ∧ (poolFar 2).kvSpillOf 0 page0 = some 0 ∧ (poolFar 2).kvComing page0 = false ∧
    (poolFar 2).kvFarOk false 0 0 = true ∧ sound (poolFar 2) = true := by decide +kernel
theorem test_release :
    begins (hold (poolSt 1) 3 (pageItem 6)) (attnEngine 0) 7 (pageItem 6) = true ∧
    ((poolSt 1).kvPages 0 0).filter (fun g => decide (0 ≤ g.page * 64)) = [page0] ∧
    ok (exec (.release 7) (hold (poolSt 1) 3 (pageItem 6))) (fun t => decide (t.kvPageState page0 = 0 ∧ t.kvFrame 0 0 = none)) = true := by
  decide +kernel

/-- Frame 0 of that pool, a copy under way on it. -/
def moving (state : Nat) (m : KvMove) : State :=
  { poolFar state with tier.kvMoves := [m], tier.kvFrames := [(0, some { page := page0, transit := true })] }
theorem test_spill_ends :
    isPool 7 = true ∧ (moving 1 (.spill 0 0 page0 0 none none none)).kvFarReady 0 0 = true ∧
    overlaps 0x4000 8 (plFtBase poolX + 16 * 0) 16 = false ∧
    (moving 1 (.spill 0 0 page0 0 none none none)).kvMoveOn 0 0 true = some (.spill 0 0 page0 0 none none none) ∧
    ok (exec (.pageSpillComplete 0 0) (moving 1 (.spill 0 0 page0 0 none none none)))
      (fun t => decide (t.kvPageState page0 = 2 ∧ fld (t.slot 0) 223 192 = 1)) = true := by decide +kernel
theorem test_recall_ends :
    (moving 2 (.recall 0 0 page0 0)).kvMoveOn 0 0 false = some (.recall 0 0 page0 0) ∧
    ok (exec (.pageRecallComplete 0 0) (moving 2 (.recall 0 0 page0 0)))
      (fun t => decide (t.kvPageState page0 = 1 ∧ t.tier.kvMoves = [] ∧ fld (t.slot 0) 255 224 = 1)) = true := by decide +kernel
/-- A pin of frame 0 until local FT 5, at a local FT. -/
def pinned (ft : W64) : State := { poolSt 1 with tier.kvFrames := [(0, some { page := page0, useBy := some 5 })], ft := ft }
theorem test_pin_ends :
    ok (exec (.useByExpiry 0 0) (pinned 5)) (fun t => decide (t.kvFrame 0 0 = (pinned 5).kvFrame 0 0)) = true ∧
    ok (exec (.useByExpiry 0 0) (pinned 6)) (fun t => decide (t.kvFrame 0 0 = some { page := page0 })) = true := by decide +kernel
theorem test_slot_write :
    run0.poolsWritable = true ∧ isSlot 31 = true ∧ zeros (item [(507, 506, 1), (255, 64, 9)]) [(476, 449), (398, 380), (351, 256), (63, 0)] = true ∧
    ok (exec (.seqSlotWrite 31 (item [(507, 506, 1), (255, 64, 9)])) run0) (fun t => decide (t.slot 31 = item [(507, 506, 1)])) = true := by
  decide +kernel
theorem test_pool_write :
    ok (exec (.poolWrite 7 (setFld poolX 495 464 1)) (run0.putNear 0x2000 [9])) (fun t => decide (t.pool 7 = poolX ∧ t.near 0x2000 1 = [0])) = true ∧
    ok (exec (.poolWrite 0 (setFld poolX 435 412 3)) (poolSt 1)) (fun t => decide (t.pool 0 = poolX)) = true := by decide +kernel


/-! ### Memory stacks and the tier manager -/

/-- A burst of bytes at 0xFF00, with the CRC of them, XORed with `x`. -/
def burst (x : Nat) : Burst := ⟨leBytes 64 5, burstCrc 0xFF00 (leBytes 64 5) ^^^ x⟩
theorem test_burst_fail :
    isNear 0xFF00 = true ∧ chanOf 0xFF00 = 255 ∧ burstCrc 0xFF00 (burst 0).data = (burst 0).crc ∧
    burstCrc 0xFF00 (burst 1).data ≠ (burst 1).crc ∧ (burst 1).data.length = 64 ∧ (burst 1).crc < 65536 ∧
    ok (exec (.burstCrcFail 0xFF00 3 (burst 0)) run0) (fun t => decide (t = run0)) = true ∧
    ok (exec (.burstCrcFail 0xFF00 2 (burst 1)) run0) (fun t => decide (t.reg (msOff 7 0x08) = 1 ∧ t.mem.burstBad = [])) = true ∧
    ok (exec (.burstCrcFail 0xFF00 3 (burst 1)) (run0.setChan 255 { exhausted := List.replicate 15 0 }))
      (fun t => decide ((t.chan 255).failed = true ∧ (t.chan 255).retraining = true ∧ t.mem.burstBad = [1020])) = true ∧
    ok (exec (.burstCrcFail 0xFF00 3 (burst 1)) (run0.setChan 255 { exhausted := List.replicate 14 0 }))
      (fun t => decide ((t.chan 255).failed = false)) = true := by decide +kernel
/-- The check value of CRC-16 with polynomial 0x1021 and initial value 0xFFFF, over the characters 1 to 9. -/
theorem test_crc16 : crc16 [0x31, 0x32, 0x33, 0x34, 0x35, 0x36, 0x37, 0x38, 0x39] = 0x29B1 := by decide +kernel
theorem test_failed_channel :
    isChannel 255 = true ∧ (run0.setChan 0 { failed := true }).flag (msOff 0 0) 7 = false ∧ chanOf 0 = 0 ∧
    ((run0.setChan 0 { failed := true }).readBlock 0).2 = .crcResendExhausted ∧
    ({ run0 with mem.burstBad := [1020] }.readBlock 0xFF00).2 = .crcResendExhausted ∧
    ok (exec (.channelRetrainEnd 255 false) (run0.setChan 255 { retraining := true })) (fun t => (t.chan 255).failed) = true := by decide +kernel
theorem test_scrub :
    isNear 0xBFFFFFFFC0 = true ∧ run0.blockBad 0xBFFFFFFFC0 = false ∧ run0.blockStatus 0xBFFFFFFFC0 = .ok ∧
    ok (exec (.scrubRead 0xBFFFFFFFC0 [.near 0x2FFFFFFFF 67 5, .near 0x2FFFFFFFF 0 1]) run0) (fun t => t.blockBad 0xBFFFFFFFC0) = true ∧
    ok (exec (.scrubRead 0xBFFFFFFFC0 []) run0) (fun t => decide (t = run0)) = true ∧
    ok (exec (.scrubRead 0x1000 [.near 64 3 0x80]) (run0.putNear 0x1000 [1, 2, 3, 4]))
      (fun t => decide (t.near 0x1000 4 = [1, 2, 3, 4] ∧ t.mem.nearErr = [] ∧ t.reg (msOff (stackOf (chanOf 0x1000)) 0x18) = 1)) = true := by
  decide +kernel
theorem test_scrub_decodes :
    rsDecode ((run0.upset (.near 64 3 0x80)).blockWord 0x1000) = .corrected 3 0x80 ∧
    rsDecode (((run0.upset (.near 64 3 0x80)).upset (.near 64 60 9)).blockWord 0x1000) = .bad := by decide +kernel
theorem test_channels : chanOf (0x010203 * 65536 + 0x04 * 256 + 0x3F) = 4 ∧ chanOffset 0x010203043F = 0x0102033F := by decide +kernel

/-- An INT32 add of 1 to the first element of block 1, ordered or not. -/
def addR (ordered : Bool) (oseq : Nat) (olast : Bool) : AddReq :=
  { block := 1, fmt := 2, mask := 1, data := leBytes 64 1, ordered := ordered, oseq := oseq, olast := olast, sender := .cp 143 }
/-- Block 1 in an open round that waits for request `n`, requests held. -/
def roundSt (n : Nat) (held : List AddReq) : State :=
  (run0.putNear 64 (leBytes 4 6)).setChan (chanOf 64) { rounds := [(1, n)], window := held }
theorem test_adds :
    addReqOk (addR true 63 false) = true ∧ run0.blockStatus 64 = .ok ∧ run0.blockBad 64 = false ∧ (run0.chan (chanOf 64)).window = [] ∧
    ok (exec (.addRequest (addR false 0 false)) run0) (fun t => decide (t.near 64 4 = [1, 0, 0, 0])) = true ∧
    ok (exec (.addRequest (addR true 62 true)) (roundSt 62 []))
      (fun t => decide (t.near 64 1 = [7] ∧ (t.chan (chanOf 64)).roundOf 1 = none)) = true ∧
    ok (exec (.addRequest (addR true 0 false)) run0) (fun t => decide ((t.chan (chanOf 64)).roundOf 1 = some 1)) = true := by decide +kernel
theorem test_add_holds :
    (roundSt 3 []).blockStatus 64 = .ok ∧ (roundSt 3 []).blockBad 64 = false ∧
    ok (exec (.addRequest (addR true 4 false)) (roundSt 3 [])) (fun t => decide ((t.chan (chanOf 64)).window = [addR true 4 false])) = true ∧
    ok (exec (.addRequest (addR true 4 false)) (roundSt 3 (List.replicate 64 { addR true 5 false with block := 2 })))
      (fun t => decide ((t.mem.addWaits.map fun w => w.notBefore) = [1000])) = true ∧
    ok (exec (.addRequest (addR true 2 false)) (roundSt 3 [])) (fun t => decide ((t.core 143).cpExc = some (.loadAccessFault, 0))) = true ∧
    ok (exec (.addRequest (addR false 0 false)) (roundSt 3 [])) (fun t => decide ((t.core 143).cpExc = some (.loadAccessFault, 0))) = true ∧
    ok (exec (.addRequest (addR true 3 false)) (roundSt 3 [addR true 4 false]))
      (fun t => decide (t.near 64 1 = [8] ∧ (t.chan (chanOf 64)).roundOf 1 = some 5)) = true := by decide +kernel
/-- A held request and a waiting write-back, at a local FT. -/
def resendSt (s : State) (ft : W64) : State :=
  { s with
    ft := ft
    mem.addWaits := [{ req := addR false 0 false, notBefore := 1000 }]
    mem.wbWaits := [{ core := 7, line := 1, bytes := leBytes 64 9, notBefore := 1000 }] }
theorem test_resends :
    ok (exec (.addResend 0) (resendSt run0 999)) (fun t => decide (t.mem.addWaits.length = 1)) = true ∧
    ok (exec (.addResend 0) (resendSt run0 1000)) (fun t => decide (t.mem.addWaits = [] ∧ t.near 64 1 = [1])) = true ∧
    (resendSt run0 1000).blockStatus 64 = .ok ∧
    ok (exec (.writebackResend 7 0) (resendSt run0 1000)) (fun t => decide (t.near 64 1 = [9] ∧ t.mem.wbWaits = [])) = true ∧
    ok (exec (.writebackResend 7 0) (resendSt (roundSt 3 []) 1000))
      (fun t => decide (t.near 64 1 = [6] ∧ (t.mem.wbWaits.map fun w => w.notBefore) = [2000])) = true := by decide +kernel

/-- A command of the tier manager on object 5. -/
def tc (op : Nat) (l : List (Nat × Nat × Nat)) : BitVec 512 := item ([(507, 504, op), (503, 488, 5)] ++ l)
theorem test_create :
    (tierSt (tc 0 [(487, 483, 12), (413, 380, 1)]) 0).tcItem = some (tc 0 [(487, 483, 12), (413, 380, 1)]) ∧
    tcCheck (tc 0 [(487, 483, 12), (413, 380, 1)]) = .ok ∧
    (tierSt (tc 0 [(487, 483, 12), (413, 380, 1)]) 0).createOk (tc 0 [(487, 483, 12), (413, 380, 1)]) = true ∧
    ((tierSt (tc 0 [(487, 483, 12), (413, 380, 1)]) 0).freeBlock none 12).isSome = true ∧
    0x426000 + 8192 * 3 ≤ (tierSt 0 0).metaSize ∧ (tierSt 0 0).tier.nodes = 0 ∧
    (tierSt 0 obj5).createOk (tc 0 [(487, 483, 12), (413, 380, 1)]) = false ∧
    ok (exec .create (tierSt (tc 0 [(487, 483, 12), (413, 380, 1)]) obj5)) (fun t => decide (t.near 0x2006 2 = [1, 1] ∧ t.tcHead = 1)) = true := by
  decide +kernel
theorem test_tier_free :
    (tierSt (tc 1 []) obj5).tcItem = some (tc 1 []) ∧ tcCheck (tc 1 []) = .ok ∧ (tierSt (tc 1 []) obj5).liveObj 5 = true ∧
    (tierSt (tc 1 []) obj5).pageHeld obj5 0 = false ∧
    overlaps ((tierSt 0 0).objAddr 5) 64 ((tierSt 0 0).tcAddr (tierSt 0 0).tcHead) 64 = false ∧
    ok (exec .free { tierSt (tc 1 []) obj5 with tier.frames := [{ pool := none, addr := 0x4000000, log2 := 12, obj := 5, page := 0 }] })
      (fun t => decide (t.tier.frames = [] ∧ obState (t.obj 5) = 0)) = true ∧
    ok (exec .free (tierSt (tc 1 []) 0)) (fun t => decide (t.near 0x2006 2 = [1, 1])) = true := by decide +kernel
theorem test_place_bump :
    ok (exec .place (tierSt (tc 3 [(482, 480, 2)]) obj5)) (fun t => decide (obPlace (t.obj 5) = 2 ∧ t.near 0x2006 2 = [0, 0])) = true ∧
    ok (exec .bump (tierSt (tc 4 []) (setFld obj5 383 352 (2 ^ 32 - 1)))) (fun t => decide (obWgen (t.obj 5) = 0)) = true ∧
    ok (exec .place (tierSt (tc 3 [(482, 480, 2)]) 0)) (fun t => decide (t.near 0x2006 2 = [1, 1])) = true ∧
    ok (exec .bump (tierSt (tc 4 []) 0)) (fun t => decide (t.near 0x2006 2 = [1, 1])) = true := by decide +kernel
/-- Page 0 of object 5 in a frame of far pool 0, with its page table of three nodes; a MIGRATE of it to near memory. -/
def migSt (far : Option Nat) : State :=
  let s := tierSt (tc 2 [(472, 472, b2n far.isSome), (413, 380, 1)]) (setFld obj5 500 498 2)
  let node := fun k => (2 ^ 124 + 2 ^ 122 + (1 + k) * 8192 : Nat)
  { (((s.putNear 0 (leBytes 16 (node 0x1000))).putNear 0x2002000 (leBytes 16 (node 0x1001))).putNear 0x2004000 (leBytes 16 (node 0x1002))).putNear
      0x2006000 (leBytes 16 (2 ^ 124 + 2 ^ 123 + 12 * 2 ^ 117)) with
    tier.frames := [{ pool := far, addr := 0x4000000, log2 := 12, obj := 5, page := 0 }] }
theorem test_migrate_begins :
    (migSt (some 0)).migrateOk (tc 2 [(472, 472, 1), (413, 380, 1)]) = true ∧ tcCheck (tc 2 [(472, 472, 1), (413, 380, 1)]) = .ok ∧
    (migSt (some 0)).tcItem = some (tc 2 [(472, 472, 1), (413, 380, 1)]) ∧
    (migSt (some 0)).frameOf 5 0 = some { pool := some 0, addr := 0x4000000, log2 := 12, obj := 5, page := 0 } ∧
    ((migSt (some 0)).freeBlock none 12).isSome = true ∧ (migSt (some 0)).pageHeld ((migSt (some 0)).obj 5) 0 = false := by decide +kernel
theorem test_migrate_moves :
    tcCheck (tc 2 [(413, 380, 1)]) = .ok ∧ (migSt none).tcItem = some (tc 2 [(413, 380, 1)]) ∧
    ((migSt none).leaf (pageOff ((migSt none).obj 5) 0)).isSome = true ∧ fpReach ((migSt none).farPool 0) = true ∧
    sound (migSt none) = true ∧ tcUseBy (tc 2 [(413, 380, 1)]) = 0 := by decide +kernel

/-- A host pool entry of 2 MiB. -/
def hostPool : BitVec 256 := BitVec.ofNat 256 (2 ^ 252 + 2 ^ 250 + 2 ^ 168)
/-- A device whose PCIe link is up. -/
def linkUp : State := { run0 with fab.pcieUp := true, fab.busMaster := true, fab.perst := false }
theorem test_far_pools :
    isFarPool 15 = true ∧ isFarPool 16 = false ∧ bits hostPool.toNat 255 252 = 1 ∧ fpHost hostPool = true ∧
    ok (exec (.farPoolWrite 15 hostPool) run0) (fun t => decide (fpHost (t.farPool 15) = true)) = true ∧
    ok (exec (.reachableLoss 0 false) (tierSt 0 0)) (fun t => decide (fpReach (t.farPool 0) = false ∧ bits (t.farPool 0).toNat 63 0 = 1)) = true ∧
    ok (exec (.reachableLoss 15 true) run0) (fun t => decide (t.tier.lost = [15])) = true ∧
    ok (exec (.reachableRestore 15) { run0 with tier.lost := [15] }) (fun t => decide (fpReach (t.farPool 15) = false)) = true ∧
    run0.poolUsed 15 = false ∧ linkUp.routeUp hostPool = true ∧
    ok (exec (.reachableRestore 15) { linkUp with tier.farPools := [(15, hostPool)] }) (fun t => fpReach (t.farPool 15)) = true := by decide +kernel
theorem test_tier_enable :
    ok (exec .tierEnable { (tierSt 0 obj5) with dev := .config }) (fun t => decide (t.near (0x26000 + 5 * 64 + 63) 1 = [0])) = true ∧
    (tierSt 0 0).tpBase + (tierSt 0 0).metaSize ≤ Config.nearBytes ∧
    ok (exec .tierEnable (tierSt 0 obj5)) (fun t => decide (t.tier.frames = (tierSt 0 obj5).tier.frames)) = true ∧
    ok (exec .hwmClear (run0.setReg 0xB2E8 7)) (fun t => decide (t.reg 0xB2F8 = 7)) = true := by decide +kernel


/-! ### Queues and descriptors -/

/-- The entry of queue 7 in the queue table at 0x8000: a transfer queue of core 0, of context 9, with its ring at 0x1000. -/
def entry7 : BitVec 512 := item [(471, 456, 9), (445, 416, 4)]
/-- A device with that queue table. -/
def qtSt : State := ((run0.setDictNat 0x4400 1 0x8000).putNear (0x8000 + 64 * 7) (leBytes 64 entry7.toNat)).setReg (coreOff 0 0x1008) 9
/-- Queue 7 in a state, for a reason. -/
def q7 (st : QState) (why : Nat) : State := qtSt.setQueue 7 { cfg := entry7, state := st, why := why, cached := true }
theorem test_enable :
    isCore 0 = true ∧ qtSt.cpLive 0 = true ∧ isQueue 7 = true ∧ qtSt.queueAddr 7 = 0x81C0 ∧
    qtSt.enableCheck 7 { cfg := entry7, state := .active } true = .ok ∧ (qtSt.cachedOn 0).length = 0 ∧
    qtSt.enableCheck 7 { cfg := 0, state := .active } true = .versionUnsupported ∧
    ok (exec (.enable 0 7 true) qtSt) (fun t => decide ((t.queue 7).state = .active ∧ (t.queue 7).cfg = entry7)) = true ∧
    ok (exec (.enable 0 7 true) run0) (fun t => decide (t.qStatus 0 = 0x0103 ∧ (t.queue 7).state = .disabled)) = true := by decide +kernel
theorem test_queue_commands :
    (q7 .active 0).itemTaken 7 = false ∧
    ok (exec (.disable 0 7) (q7 .active 0)) (fun t => decide (t.queue 7 = {} ∧ t.near 0x81C0 8 = leBytes 8 0)) = true ∧
    ok (exec (.pause 0 7) (q7 .active 0)) (fun t => decide ((t.queue 7).state = .paused ∧ (t.queue 7).why = 1)) = true ∧
    ok (exec (.resume 0 7) (q7 .paused 1)) (fun t => decide ((t.queue 7).state = .active ∧ (t.queue 7).why = 0)) = true ∧
    ok (exec (.setEpoch 0 7) (q7 .paused 1)) (fun t => decide ((t.queue 7).epoch = 9)) = true ∧
    ok (exec (.pause 0 7) qtSt) (fun t => decide (t.qStatus 0 = 0x0101)) = true := by decide +kernel
theorem test_context_commands :
    ok (exec (.pauseCtx 0) (q7 .active 0)) (fun t => decide ((t.queue 7).state = .paused ∧ (t.queue 7).why = 5)) = true ∧
    ok (exec (.resumeCtx 0) (q7 .paused 5)) (fun t => decide ((t.queue 7).state = .active)) = true ∧
    ok (exec (.resumeCtx 0) (q7 .paused 1)) (fun t => decide ((t.queue 7).state = .paused)) = true := by decide +kernel
theorem test_doorbells :
    ok (exec (.qDoorbell 0 0x700000010) (q7 .active 0)) (fun t => decide ((t.queue 7).tail = 16)) = true ∧
    ok (exec (.qDoorbell 0 0x700000011) (q7 .active 0)) (fun t => decide ((t.queue 7).tail = 0 ∧ t.reg (coreOff 0 0x1038) = 1)) = true ∧
    ok (exec (.qDoorbell 0 0x10000700000001) (q7 .active 0)) (fun t => decide ((t.queue 7).tail = 0)) = true ∧
    ok (exec (.doorbellHeldApply 7) (qtSt.setQueue 7 { cfg := entry7, state := .active, cached := true, heldTail := some 5 }))
      (fun t => decide ((t.queue 7).tail = 5)) = true := by decide +kernel
/-- 5 cycles gathered of cause 7 of queue 7, beside 2 in the stall table at 0x10000. -/
def stallSt : State := { (qtSt.setDictNat 0x4400 2 0x10000).putNear 0x101F8 [2] with qs.stalls := [(7 * 8 + 7, 5)] }
theorem test_stalls :
    stallSt.dictNat 0x4400 2 = 0x10000 ∧ isDie 3 = true ∧ stallSt.dieOf 0 = 0 ∧
    ok (exec (.flushStats 0) stallSt) (fun t => decide (t.near 0x101F8 1 = [7] ∧ t.qs.stalls = [])) = true ∧
    ok (exec (.stallFlush 0) stallSt) (fun t => decide (t.near 0x101F8 1 = [7])) = true ∧
    ok (exec (.stallFlush 1) stallSt) (fun t => decide (t.near 0x101F8 1 = [2])) = true := by decide +kernel

/-- What `State.runsDesc` asks, but for the memories' soundness, as a Bool. -/
def runs (s : State) (q : Nat) (x : BitVec 512) : Bool :=
  let Q := s.queue q
  decide (Q.kind = 0 ∧ Q.state = .active ∧ Q.cls ≠ 1 ∧ s.engineRuns Q.core = true ∧ s.qs.descs = [] ∧ Q.head ≠ Q.tail ∧
    s.inFlight Q.core Q.fe < 32 ∧ x = s.ringItem Q Q.head ∧ dVersion x = 1 ∧ dWaitEn x = false ∧ dDeadline x = 0 ∧ dFb x = 0 ∧
    s.descFields Q.cls x = true ∧ s.ownCheck Q.pd Q.core x = .ok ∧ s.farSides x = [])
/-- Queue 7 active with a descriptor in its ring; 0x4000 holds 3 and 0x5000 holds 4. -/
def ringSt (x : BitVec 512) : State :=
  (((qtSt.putNear 0x1000 (leBytes 64 x.toNat)).putNear 0x4000 [3]).putNear 0x5000 [4]).setQueue 7
    { cfg := entry7, state := .active, tail := 1, cached := true }
/-- A descriptor of 8 bytes from 0x4000 to 0x5000. -/
def desc (op : Nat) (l : List (Nat × Nat × Nat)) : BitVec 512 := item ([(507, 504, op), (191, 128, 0x5000)] ++ l)
theorem test_copy :
    runs (ringSt (desc 0 [(367, 336, 8), (255, 192, 0x4000)])) 7 (desc 0 [(367, 336, 8), (255, 192, 0x4000)]) = true ∧
    (ringSt 0).region (addrLocal 0x4000) = .near 0x4000 ∧
    ok (exec (.copy 7) (ringSt (desc 0 [(367, 336, 8), (255, 192, 0x4000)]))) (fun t => decide (t.near 0x5000 1 = [3])) = true := by
  decide +kernel
theorem test_add :
    runs (ringSt (desc 1 [(501, 500, 3), (367, 336, 8), (255, 192, 0x4000)])) 7 (desc 1 [(501, 500, 3), (367, 336, 8), (255, 192, 0x4000)]) = true ∧
    ok (exec (.add 7) (ringSt (desc 1 [(501, 500, 3), (367, 336, 8), (255, 192, 0x4000)]))) (fun t => decide (t.near 0x5000 1 = [7])) = true := by
  decide +kernel
theorem test_atomic :
    runs (ringSt (desc 2 [(340, 336, 1), (255, 192, 9)])) 7 (desc 2 [(340, 336, 1), (255, 192, 9)]) = true ∧
    ((ringSt 0).cacheLine 0 (0x5000 / 64)).2.1 = .ok ∧
    ok (exec (.atomic 7) (ringSt (desc 2 [(340, 336, 1), (255, 192, 9)]))) (fun t => decide ((t.cacheRead 0 0x5000 1).2.2 = [13])) = true := by
  decide +kernel
/-- A SIGNAL of semaphore 65535. -/
def sigX : BitVec 512 := item [(507, 504, 3), (462, 462, 1), (461, 446, 65535)]
theorem test_signal :
    runs (ringSt sigX) 7 sigX = true ∧ sound (ringSt sigX) = true ∧
    ok (exec (.signal 7) (ringSt sigX)) (fun t => decide (((t.desc 0).map fun d => (d.stage, d.outstanding)) = some (.moving, 0))) = true := by
  decide +kernel

/-- Descriptor 4 of queue 7 under way. -/
def descSt (d : Desc) : State := { (ringSt sigX).setSem 65535 (sem1 0) with qs.descs := [d] }
/-- The SIGNAL above at a stage. -/
def desc4 (st : DStage) : Desc := { id := 4, core := 0, fe := 0, queue := 7, index := 0, item := sigX, stage := st }
theorem test_desc_complete :
    ok (exec (.descriptorComplete 4) (descSt { desc4 .moving with outstanding := 1 })) (fun t => decide (t.qs.descs.length = 1)) = true ∧
    ok (exec (.descriptorComplete 4) (descSt (desc4 .moving)))
      (fun t => decide (t.desc 4 = none ∧ (t.sem 65535).count = 1 ∧ (t.queue 7).done = 1)) = true ∧
    ok (exec (.descriptorComplete 4) (descSt { desc4 .moving with status := .pageFault }))
      (fun t => decide ((t.queue 7).state = .stopped ∧ (t.queue 7).faultStatus = Status.pageFault.code ∧ (t.sem 65535).count = 0)) = true := by
  decide +kernel
theorem test_desc_ends :
    ok (exec (.fallbackFire 4) (descSt { desc4 .moving with deadline := some 5, fallback := false })) (fun t => decide (t.qs.descs.length = 1)) = true ∧
    ok (exec (.fallbackFire 4) (descSt { desc4 .moving with deadline := some 0, fallback := true }))
      (fun t => decide (t.desc 4 = none ∧ t.reg 0xB058 = 1 ∧ (t.sem 65535).count = 0)) = true := by decide +kernel
/-- A COPY of 8 bytes from page 0 of object 5 in far pool 0 to near memory, at a stage since 0; the far pool is reachable, the page in transit
or not, the local FT at 1 ms. -/
def tierDesc (reach transit : Bool) (st : DStage) : State :=
  let m := migSt (some 0)
  let x := desc 0 [(367, 336, 8), (255, 192, 0x400000000000)]
  let m := (m.putNear 0x2006000 (leBytes 16 (2 ^ 124 + 2 ^ 123 + 12 * 2 ^ 117 + 2 ^ 115 + b2n transit * 2 ^ 114 + 2 ^ 113 + 5 * 2 ^ 95 + 0x4000 * 2 ^ 12))).setQueue
    7 { cfg := entry7, state := .active, tail := 1 }
  { (m.setDictNat 0x4300 4 1000).putObj 5 (setFld (m.obj 5) 493 493 1) with
    ft := 1000000
    tier.farPools := if reach then m.tier.farPools else []
    qs.descs := [{ desc4 st with item := x }] }
theorem test_transit_ends :
    (((tierDesc true true .transit).tieredPages [(0x400000000000, 8)]).any (tierDesc true true .transit).inTransit = true) ∧
    (((tierDesc true false .transit).tieredPages [(0x400000000000, 8)]).any (tierDesc true false .transit).inTransit = false) ∧
    (((tierDesc true false .transit).tieredPages [(0x400000000000, 8)]).any (tierDesc true false .transit).unreachable = false) ∧
    (tierDesc true false .transit).ownCheck 0 0 (desc 0 [(367, 336, 8), (255, 192, 0x400000000000)]) = .ok := by decide +kernel
theorem test_far_timeout :
    (((tierDesc false false .unreachable).tieredPages [(0x400000000000, 8)]).any (tierDesc false false .unreachable).unreachable = true) ∧
    ok (exec (.farTimeout 4) (tierDesc false false .unreachable)) (fun t => decide ((t.queue 7).faultStatus = 0x0301)) = true ∧
    ok (exec (.farTimeout 4) { tierDesc false false .unreachable with ft := 999999 }) (fun t => decide (t.qs.descs.length = 1)) = true := by
  decide +kernel
/-- Queue 7's item has waited 1 ms for semaphore 9, which only the item itself would signal. -/
def deadSt : State :=
  let x := item [(503, 502, 1), (473, 469, 1), (421, 409, 8), (383, 383, 1), (382, 367, 9), (349, 349, 1), (348, 333, 9)]
  { (((run0.setSem 9 (sem1 0)).putNear 0x1000 (leBytes 64 x.toNat)).setQueue 7
      { cfg := item [(505, 503, 1), (445, 416, 4)], state := .active, head := 1, tail := 1, held := some { index := 0, item := x }, waitSince := some 0 }) with
    ft := 1000000 }
theorem test_watchdog :
    run0.cyclic = [] ∧ deadSt.signals 7 9 = true ∧ ((deadSt.queue 7).held.map fun h => itemWaits 1 h.item) = some [9] ∧
    ok (exec .watchdogEval deadSt) (fun t => decide ((t.queue 7).faultStatus = 0x0302 ∧ (t.queue 7).held = none)) = true := by decide +kernel


/-! ### Update unit and chains -/

/-- An OPT item of one element for step 5, its arrays one page each from 0x10000, its block at 0x20000. -/
def optX : BitVec 512 := item [(491, 464, 16), (463, 436, 17), (435, 408, 18), (407, 380, 19), (351, 318, 0x800), (317, 286, 1), (255, 192, 5)]
/-- A device with it held in queue 7, and a scalar block that is sealed or not, for a step, skipping or not. -/
def optSt (sealed step : Nat) (skip : Bool) : State :=
  (hold run0 4 optX).putNear 0x20000 (leBytes 64 (item [(511, 448, sealed), (415, 412, 1), (384, 384, b2n skip), (63, 0, step)]).toNat)
theorem test_opt_hyps :
    (optSt 5 5 true).updateCheck optX = .ok ∧ (optSt 5 5 true).engineRuns 0 = true ∧ (optSt 5 5 true).updateUnderway 0 = false ∧
    ((optSt 5 5 true).rivals 7 fun _ => true).any (fun r => (optSt 5 5 true).before 7 r) = false ∧ sound (optSt 5 5 false) = true ∧
    (optExtents optX).all (fun e => !overlaps ((optSt 5 5 false).queue 7 |>.itemAddr 0) 8 e.1 e.2.1) = true := by decide +kernel
theorem test_opt_waits :
    ok (exec (.opt 7) (optSt 4 5 false)) (fun t => decide ((t.core 0).optWait = some (7, 512))) = true ∧
    ok (exec (.opt 7) (optSt 5 4 false)) (fun t => decide ((t.core 0).optWait = some (7, 512))) = true ∧
    ok (exec (.blockReread 7) ({ optSt 6 6 false with cycle := 512 }.setCore 0 { optWait := some (7, 512) }))
      (fun t => decide ((t.core 0).optWait = none ∧ (t.queue 7).faultStatus = 0x0101)) = true := by decide +kernel
theorem test_opt_skips :
    ok (exec (.opt 7) (optSt 5 5 true)) (fun t => decide (t.reg (coreOff 0 0x8018) = 1 ∧ (t.queue 7).held = none)) = true := by decide +kernel
theorem test_opt_runs :
    ok (exec (.opt 7) (optSt 5 5 false)) (fun t => decide (t.reg (coreOff 0 0x8010) = 1 ∧ (t.queue 7).held = none)) = true := by decide +kernel

/-- A CHAIN item of one FP32 element, of member `k`: its contribution at 0x10000, its receive buffers at 0x11000 and 0x14000, its result
at 0x17000, the descriptor at 0x20000, its contribution semaphore 9. -/
def chainX (k last : Nat) : BitVec 512 :=
  item ([(507, 504, 1), (491, 464, 16), (351, 318, 0x800), (317, 286, 1), (285, 274, k), (271, 256, 9)] ++
    (if k = 0 then [] else [(463, 436, 17)]) ++ (if k = last then [(379, 352, 23)] else [(435, 408, 20)]))
/-- Its descriptor: FP32 or BF16 as `run` says, members 0 to `last`, chain 3 of step 2, arrival semaphore 10, late semaphore 11, the late
area at 0x30000, the masks at 0x40000 and the record at 0x50000. -/
def chainD (last slots : Nat) (force : Bool) : BitVec 512 :=
  item [(505, 505, b2n force), (502, 491, last), (490, 486, 16), (485, 481, slots), (480, 465, 3), (442, 427, 10), (426, 411, 11), (383, 320, 2),
    (127, 100, 48), (99, 66, 0x1000), (65, 32, 0x1400)]
/-- A device with the item held in queue 7; rank 0 is this chip; the contribution is 1. -/
def chainSt (k last slots : Nat) (force : Bool) : State :=
  ((((hold run0 4 (chainX k last)).putNear 0x20000 (leBytes 64 (chainD last slots force).toNat)).putNear 0x10000 (leBytes 4 0x3F800000)).setSem 9
    (sem1 0)).setSem 10 (sem1 0)
theorem test_chain_tail_begins :
    (chainSt 1 1 0 true).updateCheck (chainX 1 1) = .ok ∧ (chainSt 1 1 0 true).engineRuns 0 = true ∧
    (chainSt 1 1 0 true).updateUnderway 0 = false ∧ (chainSt 1 1 0 true).chainDesc (chainX 1 1) = chainD 1 0 true ∧
    ok (exec (.chain 7) (chainSt 1 1 0 true)) (fun t => decide (((t.core 0).chain.map fun r => r.stage) = some .header)) = true ∧
    ok (exec (.chain 7) (chainSt 0 0 0 true)) (fun t => decide (((t.core 0).chain.map fun r => r.stage) = some .decision)) = true := by
  decide +kernel

/-- The header of that chain's transfers. -/
def hdr0 : List Byte := freshHeader (chainD 1 0 true)
/-- A chain of member `k` of two at a stage in core 0. -/
def runAt (k slots : Nat) (force : Bool) (st : ChainStage) : ChainRun :=
  { queue := 7, item := chainX k 1, cd := chainD 1 slots force, succChip := 0, tailChip := 0, force := 0, beganFt := 0, stage := st,
    hdr := freshHeader (chainD 1 slots force) }
/-- A device with it under way. -/
def runSt (r : ChainRun) : State := (chainSt r.member 1 (cdLateSlots r.cd) (cdForce r.cd)).setCore 0 { chain := some r }
theorem test_decision_waits :
    ok (exec (.chainDecision 0) (runSt { runAt 0 0 false .decision with beganFt := 5 }))
      (fun t => decide (((t.core 0).chain.map fun r => r.stage) = some .decision)) = true ∧
    ok (exec (.chainDecision 0) (runSt { runAt 0 0 true .decision with force := 1 }))
      (fun t => decide (((t.core 0).chain.map fun r => r.stage) = some .decision)) = true := by decide +kernel
theorem test_decision_skips :
    (runAt 1 0 false .decision).isTail = true ∧ (runAt 1 0 false .decision).hdr.length = 0x400 ∧
    (runSt (runAt 1 0 false .decision)).pastBy (runAt 1 0 false .decision).decisionAt = true ∧
    ok (exec (.chainDecision 0) { runSt (runAt 1 0 false .decision) with ft := 1 })
      (fun t => decide (((t.core 0).chain.map fun r => (r.stage, r.included)) = some (.chunks, false) ∧ t.reg (coreOff 0 0x8038) = 1)) = true ∧
    ok (exec (.chainDecision 0) (runSt { runAt 1 0 true .decision with force := 2, satisfied := true }))
      (fun t => decide (((t.core 0).chain.map fun r => r.included) = some true)) = true := by decide +kernel
/-- A head whose contribution has come, in RECORD mode. -/
def headRun : ChainRun := { runAt 0 0 false .decision with satisfied := true }
theorem test_head_hyps :
    headRun.decisionAt ≤ (runSt headRun).ft.toNat ∧ headRun.isTail = false ∧ headRun.succChip = (runSt headRun).fab.chipNum ∧
    holderCheck (uArr headRun.item 2) (recvBytes headRun.n headRun.size) = .ok ∧ extentsOk (chainExtents headRun.item headRun.cd) = true ∧
    overlaps (uArr headRun.item 2) (recvBytes headRun.n headRun.size) (uArr headRun.item 0) 4 = false := by decide +kernel
theorem test_head_runs :
    ok (exec (.chainDecision 0) (runSt headRun))
      (fun t => decide ((t.core 0).chain = none ∧ t.near 0x15000 4 = leBytes 4 0x3F800000 ∧ t.near 0x14400 4 = leBytes 4 0x3F800000)) = true := by
  decide +kernel
theorem test_header_arrives :
    hdr0.length = 0x400 ∧
    ok (exec (.chainHeaderArrival 0 []) ((runSt { runAt 1 0 true .header with arrived := true }).putNear 0x11000 hdr0))
      (fun t => decide (((t.core 0).chain.map fun r => r.stage) = some .decision)) = true ∧
    ok (exec (.chainHeaderArrival 0 []) ((runSt { runAt 1 0 true .header with arrived := true }).putNear 0x11000 (leBytes 4 0x10000000)))
      (fun t => decide ((t.core 0).chain = none ∧ (t.queue 7).faultStatus = 0x0101)) = true ∧
    ok (exec (.chainHeaderArrival 0 hdr0) ((runSt (runAt 1 0 true .header)).setSem 10 { sem1 0 with waiters := [.chainArr 0] }))
      (fun t => decide (((t.core 0).chain.map fun r => r.stage) = some .decision)) = true := by decide +kernel
theorem test_chunk_arrives :
    ok (exec (.chainChunkArrival 0 [])
        ((runSt { runAt 1 0 true .chunks with arrived := true, included := true, nonempty := true }).putNear 0x12000 (leBytes 4 0x40000000)))
      (fun t => decide (((t.core 0).chain.map fun r => (r.stage, r.chunk)) = some (.trailer, 1) ∧ t.near 0x17000 4 = leBytes 4 0x40400000)) = true := by
  decide +kernel
theorem test_trailer_arrives :
    ok (exec (.chainTrailerArrival 0 [])
        ((runSt { runAt 1 1 true .trailer with arrived := true, included := true, force := 2 ^ 4096, chunk := 1 }).putNear 0x11400
          (leBytes 4 0x40800000)))
      (fun t => decide (((t.core 0).chain.map fun r => (r.stage, r.sumSq)) = some (.tailWait, 0x40A00000))) = true := by decide +kernel
theorem test_late_drop :
    (runAt 0 0 true .grace).inGrace = false ∧ ({ runAt 0 0 true .grace with satisfied := true } : ChainRun).inGrace = true ∧
    ok (exec (.lateCopy 0) (runSt { runAt 0 0 true .grace with satisfied := true }))
      (fun t => decide ((t.core 0).chain = none ∧ t.reg (coreOff 0 0x8048) = 1)) = true := by decide +kernel
/-- A skipped head whose contribution has come in FORCE mode, with one late slot. -/
def lateRun : ChainRun := { runAt 0 1 true .grace with satisfied := true }
theorem test_late_copy :
    ((runSt lateRun).amoAt 0 0x30000 0 4 1 0).2.1 = .ok ∧ sound ((runSt lateRun).amoAt 0 0x30000 0 4 1 0).1 = true ∧ holderCheck 0x30000 (lateBytes 1 1 4) = .ok ∧
    ((runSt lateRun).amoAt 0 0x30000 0 4 1 0).2.2 = 0 ∧
    (((runSt lateRun).putNear 0x30000 [1]).amoAt 0 0x30000 0 4 1 0).2.2 = 1 ∧
    ok (exec (.lateCopy 0) (runSt lateRun)) (fun t => decide ((t.core 0).chain = none ∧ t.near 0x31000 4 = leBytes 4 0x3F800000 ∧
      t.near 0x30040 4 = leBytes 4 (2 ^ 31))) = true ∧
    ok (exec (.lateCopy 0) ((runSt lateRun).putNear 0x30000 [1])) (fun t => decide (t.near 0x31000 4 = leBytes 4 0)) = true := by decide +kernel
theorem test_grace_ends :
    ok (exec (.graceEnd 0) (runSt (runAt 0 0 false .grace))) (fun t => decide ((t.core 0).chain = none ∧ t.reg (coreOff 0 0x8048) = 1)) = true ∧
    ok (exec (.graceEnd 0) (runSt { runAt 0 0 false .grace with cd := setFld (chainD 1 0 false) 191 128 1 })) (fun t => (t.core 0).chain.isSome) = true := by
  decide +kernel
/-- A tail at its fold, the head included or late in slot 0 with the contribution 2; its result stands at 1. -/
def foldRun (slots : Nat) : ChainRun :=
  { runAt 1 slots true .tailWait with
    included := true
    nonempty := true
    force := 2 ^ 4096
    sumSq := 0x3F800000
    hdr := includeIn (if slots = 0 then includeIn hdr0 0 else hdr0) 1 }
/-- A device with it under way. -/
def foldSt (slots : Nat) : State :=
  ((((runSt (foldRun slots)).putNear 0x17000 (leBytes 4 0x3F800000)).putNear 0x30040 (leBytes 4 (2 ^ 31))).putNear 0x31000 (leBytes 4 0x40000000)).setSem 11
    (sem1 (if slots = 0 then 0 else 1))
/-- The fold instant at 0. -/
def at0 : FoldPoint := { ft := 0, slots := [], own := false }
theorem test_fold_hyps :
    (foldSt 0).foldAt (foldRun 0) = some at0 ∧ (foldRun 0).isTail = true ∧ extentsClash (chainExtents (foldRun 1).item (foldRun 1).cd) = false ∧
    extentsOk (chainExtents (foldRun 1).item (foldRun 1).cd) = true ∧
    (foldRun 0).lateWanted.contains 1 = false ∧ ((foldSt 0).lateSlots (foldRun 0) at0).2.2 = [] ∧ ((foldSt 1).lateSlots (foldRun 1) { at0 with slots := [0] }).2.2 = [(0, 0)] ∧
    (foldSt 1).foldAt (foldRun 1) = some { at0 with slots := [0] } ∧ ((foldSt 1).setSem 11 (sem1 0)).foldAt (foldRun 1) = none := by decide +kernel


/-! ### Fabric ports, packets and the host bridge -/

/-- Port 0 in a state. -/
def portSt (P : Port) : State := run0.setPort 0 P
/-- An ACTIVE port, a flit in its replay buffer. -/
def up1 : Port := { link := .active, replay := [{ seq := 4095, vc := 3, pkts := [] }] }
/-- A SIGNAL packet for semaphore 65535 of chip 0. -/
def sig : Packet := { mkPacket .signal 0 (semAddr 65535) [] with src := 5 }
/-- A flit of a type with zeros in its body. -/
def flit (ftype seq ack crVc credits vc : Nat) : FlitWire := flitWire (linkHeader ftype seq ack crVc credits vc 0) (List.replicate 244 0)
/-- The CRC-32 check value, over the characters 1 to 9. -/
theorem test_crc32 : crc32 [0x31, 0x32, 0x33, 0x34, 0x35, 0x36, 0x37, 0x38, 0x39] = 0xCBF43926 := by decide +kernel
theorem test_flit_words :
    wireSays (flit 1 0 4095 3 63 3) 4095 3 63 = true ∧ wireHdr (flit 1 0 4095 3 63 3) 63 60 = 1 ∧ wireHdr (flit 1 0 4095 3 63 3) 59 48 = 0 ∧
    wireHdr (flit 1 0 4095 3 63 3) 27 26 = 3 ∧ wireHdr (flit 0 0 4095 0 1 0) 63 60 = 0 ∧ wireHdr (flit 2 4095 7 0 0 0) 63 60 = 2 ∧
    wireHdr (flit 5 0 4095 0 1 0) 63 60 = 5 := by decide +kernel
theorem test_flits :
    isPort 13 = true ∧ run0.fab.lost = [] ∧ run0.regsLive = true ∧ linkFields 4095 4095 3 63 = true ∧
    ok (exec (.dataFlit 0 (flit 1 0 4095 3 63 3) 0 0 0 4095 3 3 63 []) (portSt up1))
      (fun t => decide ((t.port 0).replay = [] ∧ (t.port 0).rxSeq = 1 ∧ (t.port 0).credits = [128, 128, 128, 128])) = true ∧
    ok (exec (.dataFlit 0 { flit 1 0 4095 3 63 3 with crc := 5 } 0 0 0 4095 3 3 63 []) (portSt up1)) (fun t => decide ((t.port 0).gapNaked ∧ t.reg (portOff 0 0x20) = 1)) = true ∧
    ok (exec (.dataFlit 0 (flit 1 1 4095 3 63 3) 0 0 1 4095 3 3 63 []) (portSt up1)) (fun t => decide ((t.port 0).gapNaked ∧ (t.port 0).rxSeq = 0)) = true ∧
    ok (exec (.dataFlit 0 (flit 1 0 4095 3 63 3) 2 1 0 4095 3 3 63 []) (portSt up1))
      (fun t => decide ((t.port 0).rxSeq = 0 ∧ t.reg (portOff 0 0x10) = 2 ∧ t.reg (portOff 0 0x18) = 1)) = true ∧
    ok (exec (.idleFlit 0 (flit 5 0 4095 0 1 0) 0 0 4095 0 1) (portSt up1)) (fun t => decide (t.reg (portOff 0 0x20) = 1 ∧ t.port 0 = up1)) = true ∧
    ok (exec (.idleFlit 0 (flit 0 0 4095 0 1 0) 0 0 4095 0 1) (portSt { up1 with credits := [0, 128, 128, 128] }))
      (fun t => decide ((t.port 0).credits = [1, 128, 128, 128])) = true := by decide +kernel
theorem test_nak :
    ok (exec (.nak 0 (flit 2 4095 7 0 0 0) 0 0 4095 7 0 0) (portSt { up1 with replay := up1.replay ++ [{ seq := 0, vc := 0, pkts := [] }] }))
      (fun t => decide (t.reg (portOff 0 0x28) = 2)) = true ∧
    ok (exec (.nak 0 (flit 2 0 7 0 0 0) 0 0 0 7 0 0) (portSt { up1 with replay := up1.replay ++ [{ seq := 0, vc := 0, pkts := [] }] }))
      (fun t => decide (t.reg (portOff 0 0x28) = 1 ∧ (t.port 0).replay.length = 1)) = true := by decide +kernel
theorem test_data_serves :
    packetOk .signal sig = true ∧ packetVc sig = 0 ∧ sig.dst = run0.fab.chipNum ∧
    ok (exec (.dataFlit 0 (flit 1 0 0 0 0 0) 0 0 0 0 0 0 0 [sig]) ((portSt up1).setSem 65535 (sem1 3))) (fun t => decide ((t.sem 65535).count = 4)) = true := by
  decide +kernel
theorem test_replay_timeout :
    ok (exec (.replayTimeout 0) { portSt up1 with ft := 1999 }) (fun t => decide ((t.port 0) = up1)) = true ∧
    ok (exec (.replayTimeout 0) { portSt { up1 with fails := 15 } with ft := 2000 }) (fun t => decide ((t.port 0).fails = 16)) = true ∧
    ok (exec (.replayTimeout 0) { portSt { up1 with fails := 16 } with ft := 2000 })
      (fun t => decide ((t.port 0).link = .retrain ∧ t.reg (portOff 0 0x30) = 1)) = true := by decide +kernel

/-- What a training finds on port 0 of chip 0: good lanes, and a peer. -/
def found (lanes peer : Nat) : TrainResult :=
  { here := lanes, there := 0xFF, places := List.range 8, inverted := 0, peerVersion := 1, peerChip := peer, peerPort := 2 }
theorem test_training :
    trainOk (found 0xFF 1) = true ∧ run0.expectedPeer 0 = some (1, 2) ∧
    (let f : TrainResult := { found 0xFF 1 with places := [7, 6, 5, 4, 3, 2, 1, 8] }; f.reversed && decide (f.goodLanes = 0x7F)) = true ∧
    ok (exec (.trainingPhaseTimeout 0) (portSt { link := .retrain, phase := .align, fast := true })) (fun t => decide ((t.port 0).phase = .detect)) = true ∧
    ok (exec (.trainingPhaseTimeout 0) (portSt { phase := .align, attempts := 1 })) (fun t => decide ((t.port 0).attempts = 2)) = true ∧
    ok (exec (.trainingPhaseTimeout 0) (portSt { phase := .align, attempts := 2 }))
      (fun t => decide ((t.port 0).link = .down ∧ (t.port 0).nextTry = some 1000000000)) = true ∧
    ok (exec (.trainingEnd 0 (found 0 1)) (portSt { phase := .align })) (fun t => decide ((t.port 0).link = .down)) = true ∧
    ok (exec (.trainingEnd 0 (found 0xF1 1)) (portSt { phase := .align }))
      (fun t => decide ((t.port 0).link = .active ∧ (t.port 0).active = 0xF0 ∧ (t.port 0).width = 4)) = true ∧
    ok (exec (.trainingEnd 0 (found 0xFF 2)) (portSt { phase := .align })) (fun t => decide ((t.port 0).link = .fenced)) = true := by decide +kernel
theorem test_lanes_and_idents :
    ok (exec (.laneSerExceed 0 7) (portSt { up1 with active := 0x80 })) (fun t => decide ((t.port 0).link = .retrain)) = true ∧
    ok (exec (.laneSerExceed 0 7) (portSt { up1 with active := 0x7F })) (fun t => decide ((t.port 0).link = .active)) = true ∧
    ok (exec (.downRetry 0) { portSt { nextTry := some 5 } with ft := 4 }) (fun t => decide ((t.port 0).link = .down)) = true ∧
    ok (exec (.downRetry 0) { portSt { nextTry := some 5 } with ft := 5 }) (fun t => decide ((t.port 0).link = .training)) = true ∧
    ok (exec (.ident 0 1 1 2) (portSt { link := .fenced, reident := true })) (fun t => decide ((t.port 0).link = .active)) = true ∧
    ok (exec (.ident 0 1 2 2) (portSt up1)) (fun t => decide ((t.port 0).link = .fenced)) = true := by decide +kernel
theorem test_port_control :
    run0.isXanler 0 = true ∧ run0.isXanler 12 = false ∧
    ok (exec (.reident 0) (portSt {})) (fun t => (t.port 0).reident) = true ∧
    ok (exec (.portRetrain 0) (portSt up1)) (fun t => decide ((t.port 0).link = .retrain ∧ (t.port 0).phase = .detect)) = true ∧
    ok (exec (.portDisable 0) (portSt up1)) (fun t => (t.port 0).disabling) = true ∧
    ok (exec (.portDisable 0) ((portSt up1).setQueue 7 { cfg := item [(502, 501, 1), (415, 409, 1)], state := .active, admitted := true }))
      (fun t => decide ((t.queue 7).state = .stopped ∧ (t.queue 7).why = 7)) = true ∧
    ok (exec (.portDisable 0) (portSt {})) (fun t => decide ((t.port 0).link = .disabled)) = true ∧
    ok (exec (.portDisableComplete 0) (portSt { up1 with disabling := true })) (fun t => decide ((t.port 0).link = .active)) = true ∧
    ok (exec (.portDisableComplete 0) (portSt { link := .active, disabling := true })) (fun t => decide ((t.port 0).link = .disabled)) = true ∧
    ok (exec (.portEnable 0) (portSt { link := .disabled, disabled := true })) (fun t => decide ((t.port 0).link = .training)) = true ∧
    ok (exec (.linkStateAnnounce 31 5) run0) (fun t => decide (Store.get 0 t.fab.linkUp 31 = 5)) = true ∧
    ok (exec (.linkStateAnnounce 32 5) run0) (fun t => decide (t.fab.linkUp = [])) = true := by decide +kernel

/-- A device that is member 1 of its group, whose port 2 leads to member 0; FT valid or not. -/
def member1 (valid : Bool) : State := { (run0.setPort 2 { link := .active }).setReg 0x108 (BitVec.ofNat 64 (b2n valid)) with fab.chipNum := 1, ft := 100000 }
theorem test_time :
    run0.timeParent = none ∧ (member1 true).timeParent = some 2 ∧
    ok (exec .timeExchange (member1 true)) (fun t => decide (t.fab.timeAsked = some 100000)) = true ∧
    ok (exec (.timeFlit 2 false true false 0 1 2 3) (member1 true)) (fun t => decide (t.fab.timeSent = [(2, 100000)])) = true ∧
    ok (exec (.timeFlit 2 true true true 5 99000 99600 99601) { member1 true with fab.timeAsked := some 99000 })
      (fun t => decide (t.fab.slewNs = 100 ∧ t.ft = 100000 ∧ bits (t.reg 0x108).toNat 31 16 = 25)) = true ∧
    ok (exec (.timeFlit 2 true true false 5 99000 99600 99601) { member1 false with fab.timeAsked := some 99000 })
      (fun t => decide (t.ft = 100100 ∧ t.ftValid = true)) = true := by decide +kernel
/-- Member 0 at a local FT, with an edge of the reference expected from 5 on. -/
def pps (ft : W64) : State := { (member1 true) with fab.chipNum := 0, fab.expectedEdge := some 5, ft := ft }
theorem test_pps_loads :
    ok (exec .ppsEdge { member1 false with fab.chipNum := 0, mgmt.values := [(dictKey 0x3002 1, leBytes 8 9)] })
      (fun t => decide (t.ft = 9 ∧ t.ftValid = true ∧ t.fab.expectedEdge = some 9)) = true ∧
    ok (exec .ppsEdge { member1 false with fab.chipNum := 0 }) (fun t => decide (t.ftValid = false)) = true := by decide +kernel
theorem test_pps :
    ok (exec .ppsEdge (pps 1000100005)) (fun t => decide (t.fab.slewNs = -100000 ∧ t.fab.expectedEdge = some 1000000005)) = true ∧
    ok (exec .ppsEdge (pps 1000100006)) (fun t => decide (t.fab.slewNs = 0 ∧ t.reg 0xE020 = 1)) = true ∧
    ok (exec .holdoverEntry (pps 1099999999)) (fun t => decide (t.flag 0x108 1 = false)) = true ∧
    (pps 1100000000).flag 0x108 1 = false ∧ (pps 1100000000).fab.lastEdge = 0 ∧
    ok (exec .holdoverEntry ((pps 2000000).setReg 0x108 3)) (fun t => decide (bits (t.reg 0x108).toNat 31 16 = 100)) = true := by decide +kernel

/-- A packet for near memory of chip 0 from chip 5. -/
def pkt (ty : PType) (a : Nat) (data : List Byte) : Packet := { mkPacket ty 0 a data 0 64 with src := 5 }
theorem test_packets :
    run0.fab.plans = [] ∧ run0.region 0x1000 = .near 0x1000 ∧ packetOk .write (pkt .write 0x1000 [7]) = true ∧ run0.outerOk true 0x1000 1 = true ∧
    run0.outerOk true 0xBF00000000 1 = false ∧ packetOk .read (pkt .read 0x1000 []) = true ∧ run0.outerOk false 0x1000 64 = true ∧
    packetOk .add (pkt .add 0x1000 (List.replicate 68 0)) = true ∧ run0.touchesOffline 0x1000 64 = false ∧
    addReqOk (run0.addOf (pkt .add 0x1000 (List.replicate 68 0)) 0x1000) = true ∧
    packetOk .atomic (pkt .atomic 0x1000 (leBytes 24 1)) = true ∧ (run0.amoAt 0 0x1000 1 8 0 0).2.1 = .ok ∧
    packetOk .check (pkt .check 0x1000 (leBytes 16 64)) = true ∧
    ok (exec (.writePacket (pkt .write 0x1000 [7])) run0) (fun t => decide (t.near 0x1000 1 = [7])) = true ∧
    ok (exec (.atomicPacket (pkt .atomic 0x1000 (leBytes 24 (1 + 9 * 2 ^ 64)))) run0)
      (fun t => decide ((t.cacheRead 0 0x1000 8).2.2 = leBytes 8 9)) = true ∧
    ok (exec (.writePacket (pkt .write 0xBF00000000 [7])) run0) (fun t => decide (t.near 0xBF00000000 1 = [0])) = true := by decide +kernel
theorem test_packet_version :
    packetOk .write { pkt .write 0x1000 [7] with version := 2 } = true ∧
    ok (exec (.writePacket { pkt .write 0x1000 [7] with version := 2 }) run0)
      (fun t => decide (t.near 0x1000 1 = [0] ∧ t.reg (Status.counterOff .versionUnsupported) = 1)) = true := by decide +kernel
/-- A request outstanding to chip 5. -/
def asked (why : Purpose) : State := { run0 with fab.outReqs := [{ tag := 0, dst := 5, why := why }] }
theorem test_answers :
    packetOk .cmpl (pkt .cmpl 0 []) = true ∧ packetOk .readData (pkt .readData 0 [7]) = true ∧ (pkt .cmpl 0 []).aux % 2 ^ 15 = 0 ∧
    ok (exec (.cmpl (pkt .cmpl 0 [])) (asked (.farSignal 9))) (fun t => decide (t.fab.outReqs = [] ∧ t.flag 0x3004 5 = false)) = true ∧
    ok (exec (.cmpl { pkt .cmpl 0 [] with aux := 0x0201 }) (asked (.farSignal 9))) (fun t => t.flag 0x3004 5) = true ∧
    ok (exec (.cmpl (pkt .cmpl 0 [])) { asked (.descWrite 4) with qs.descs := [{ desc4 .moving with outstanding := 2 }] })
      (fun t => decide ((t.desc 4).map (fun d => d.outstanding) = some 1)) = true ∧
    ok (exec (.readData (pkt .readData 0 [7])) (asked (.hostRead 64))) (fun t => decide (t.fab.hostOut = [(64, .data [7])])) = true ∧
    ok (exec (.signalPacket sig) (run0.setSem 65535 (sem1 3))) (fun t => decide ((t.sem 65535).count = 4)) = true := by decide +kernel
/-- A bridge whose link is up, with host aperture 0 open to near memory of this chip. -/
def bridge : State := { run0.setDictNat 0x3111 1 (2 ^ 63) with fab.pcieUp := true, fab.perst := false }
theorem test_bridge :
    hostReqOk true (2 ^ 36 - 1) 1 [7] = true ∧ hostReqOk false 0x1000 8 [] = true ∧ bridge.region 0x1000 = .near 0x1000 ∧
    bitAt (bridge.dictNat 0x3111 64) 63 = false ∧
    ok (exec (.hostApertureRequest true (2 ^ 36 - 1) 1 [7]) bridge) (fun t => decide (t.fab.hostOut = [(2 ^ 36 - 1, .unsupported)])) = true ∧
    ok (exec (.hostApertureRequest true 0x1000 1 [7]) bridge) (fun t => decide (t.near 0x1000 1 = [7] ∧ t.reg 0xE050 = 1)) = true ∧
    ok (exec (.hostApertureRequest false 0x1000 1 []) bridge) (fun t => decide (t.fab.hostOut = [(0x1000, .data [0])])) = true := by decide +kernel
theorem test_bridge_config :
    ok (exec (.pcieConfigRequest true 4 4) bridge) (fun t => t.fab.busMaster) = true ∧
    ok (exec (.pcieConfigRequest false 0 0) { bridge with dev := .boot }) (fun t => decide (t.fab.hostOut = [(0, .retry)])) = true ∧
    run0.fab.perst = true ∧ ok (exec .perstN bridge) (fun t => decide (t.fab.pcieUp = false ∧ t.fab.perst = true)) = true ∧
    ok (exec .perstNRelease run0) (fun t => t.fab.pcieUp) = true ∧
    ok (exec .perstN { bridge with fab.chipNum := 1 }) (fun t => t.fab.pcieUp) = true ∧
    ok (exec .flr { bridge with fab.msix := [3] }) (fun t => decide (t.fab.msix = [] ∧ t.dictNat 0x3111 1 = 0)) = true := by decide +kernel


/-! ### Snapshots, wear and power -/

theorem test_erased :
    ∃ shard : List Byte, shard.length = 3 * (14 * 65536) ∧ ((List.range (14 + 2)).filter fun i => decide (i = 3 ∨ i = 15)).length ≤ 2 :=
  ⟨List.replicate _ 0, List.length_replicate, by decide⟩
/-- A device with K = 2, M = 1 and the group of chips 0, 1 and 2, the snapshot area at 0x1000000 with slots of 1 MiB, and a command of one
region of 4,096 bytes at 0x40000 at address 0x8000. -/
def snapSt (x : BitVec 512) : State :=
  let s := (((((run0.setReg 0x108 1).setDictNat 0x2200 2 2).setDictNat 0x2200 3 1).setDictNat 0x2200 4 0x1000000).setDictNat 0x2200 5 1).setDict 0x2200 6
    (leBytes 32 0x200010000)
  (s.putNear 0x8000 (leBytes 64 x.toNat)).putNear 0x9000 (leBytes 16 (0x40000 + 4096 * 2 ^ 64))
/-- A command of an operation. -/
def sc (op : Nat) (l : List (Nat × Nat × Nat)) : BitVec 512 := item ([(507, 504, op), (367, 340, 9)] ++ l)
theorem test_snap_accepts :
    isEngine 1 = true ∧ (snapSt 0).snapGroup = [0, 1, 2] ∧ (snapSt 0).shardK = 2 ∧ (snapSt (sc 0 [])).scCheck (sc 0 []) = .ok ∧
    (snapSt (sc 0 [])).scBusy 1 = false ∧ (snapSt 0).wear.offline = [] ∧
    ok (exec (.snap 1 0x8000) (snapSt (sc 0 []))) (fun t => decide ((t.scEng 1).stage = .waiting)) = true ∧
    ok (exec (.snap 1 0x8000) ((snapSt 0).setScEng 1 { stage := .data })) (fun t => decide (t.reg (scOff 1 0x10) = 0x0101)) = true ∧
    ok (exec (.snap 1 0x8000) (snapSt (sc 0 [(330, 317, 1)])))
      (fun t => decide ((t.scEng 1).stage = .idle ∧ t.near 0x800E 2 = [2, 1])) = true := by decide +kernel
theorem test_snap_starts :
    (snapSt 0).snapPos 0 = some 0 ∧ (snapSt 0).snapGroup.Nodup ∧ 1 ∈ (snapSt 0).snapGroup ∧ (snapSt 0).slotAddr 1 0 + 4096 ≤ 0xBF00000000 ∧
    ((((snapSt 0).setPort 0 { link := .active }).nextHop { mkPacket .write 1 0 [] with src := 0 }).isSome) = true ∧
    ok (exec (.snapStart 1) ((snapSt 0).setScEng 1 { stage := .waiting, cmd := item [(495, 432, 5)] })) (fun t => decide ((t.scEng 1).stage = .waiting)) =
      true := by decide +kernel
theorem test_restore_hyps :
    (snapSt (sc 1 [(330, 317, 2)])).scCheck (sc 1 [(330, 317, 2)]) = .ok ∧ (snapSt (sc 2 [(330, 317, 2)])).scCheck (sc 2 [(330, 317, 2)]) = .ok ∧
    (((List.range 3).all fun q => (({ snapSt 0 with wear.offline := [9, 10] } : State).slotBytes (sc 1 [(330, 317, 2)]) 65536 [] q).2.isNone)) = true ∧
    (snapSt 0).scRegionList (sc 1 []) = [(0x40000, 4096)] ∧ overlaps 0x8000 64 0x40000 4096 = false := by decide +kernel

/-- A command of the SNAP of chip 0, for a RESTORE. -/
def restoreX : BitVec 512 := sc 1 []
/-- The slot of data bytes of a command's shard, its CRC in its header. -/
def goodSlot (x : BitVec 512) (hash : W64) (data : List Byte) : List Byte :=
  pieceHeader 0 2 1 x 0 131072 hash (crc32 data) (scStep x) ++ data
/-- Chip 2 of the group. -/
def restoreSt : State := { snapSt restoreX with fab.chipNum := 2 }
theorem crcBit_lt (c : Nat) (h : c < 2 ^ 32) : crcBit c < 2 ^ 32 := by
  unfold crcBit
  split
  · exact Nat.xor_lt_two_pow (by omega) (by decide)
  · omega
theorem crcByte_lt (c : Nat) (b : Byte) (h : c < 2 ^ 32) : crcByte c b < 2 ^ 32 := by
  have h8 : b.toNat < 2 ^ 32 := by have := b.isLt; omega
  have := Nat.xor_lt_two_pow h h8
  simp only [crcByte, List.range, List.range.loop, List.foldl]
  iterate 8 apply crcBit_lt
  exact this
theorem crc32_lt (l : List Byte) : crc32 l < 2 ^ 32 := by
  have : ∀ (l : List Byte) c, c < 2 ^ 32 → l.foldl crcByte c < 2 ^ 32 := by
    intro l
    induction l with
    | nil => exact fun c h => h
    | cons b l ih => exact fun c h => ih _ (crcByte_lt c b h)
  exact Nat.xor_lt_two_pow (this l _ (by decide)) (by decide)
theorem drop_leBytes (n k x : Nat) (h : n ≤ k) : (leBytes n x).drop k = [] := List.drop_eq_nil_of_le (by rw [length_leBytes]; exact h)
theorem take_leBytes (n x : Nat) : (leBytes n x).take n = leBytes n x := List.take_of_length_le (by rw [length_leBytes])
theorem test_good_match (x : BitVec 512) (hash : W64) (data : List Byte) (h1 : scStep x < 2 ^ 64) (h2 : scGen x < 2 ^ 8) (h3 : scSrc x = 0) :
    pieceMatches 2 1 x hash (goodSlot x hash data) = true := by
  have h4 := hash.isLt
  simp only [pieceMatches, goodSlot, pieceHeader, List.drop_append, List.take_append, length_leBytes, List.append_assoc]
  simp [take_leBytes, leNat_leBytes, drop_leBytes, length_leBytes, h3, -List.reduceReplicate, -List.drop_one]
  omega
theorem test_good_crc (x : BitVec 512) (hash : W64) (data : List Byte) :
    leNat (((goodSlot x hash data).drop 0x28).take 4) = crc32 data ∧ (goodSlot x hash data).drop 4096 = data := by
  have h := crc32_lt data
  constructor
  · simp only [goodSlot, pieceHeader, List.drop_append, List.take_append, length_leBytes, List.append_assoc]
    simp [take_leBytes, leNat_leBytes, drop_leBytes, length_leBytes, -List.reduceReplicate]
    omega
  · simp only [goodSlot, pieceHeader, List.drop_append, length_leBytes, List.append_assoc]
    simp [drop_leBytes, -List.reduceReplicate]
theorem test_restore_good (data : List Byte) (h : data.length = 65536) (q : Nat) (hq : q < restoreSt.shardK) :
    let l := restoreSt.scRegionList restoreX
    let slot := goodSlot restoreX (scHash l) data
    ∃ b, (restoreSt.slotBytes restoreX (restoreSt.shardBytes l / restoreSt.shardK) [(0, slot), (1, slot)] q).2 = some b ∧
      pieceMatches restoreSt.shardK restoreSt.shardM restoreX (scHash l) b = true ∧
      ((b.drop 4096).take 65536).length = 65536 ∧ crc32 ((b.drop 4096).take 65536) = leNat ((b.drop 0x28).take 4) := by
  intro l slot
  have h1 : restoreSt.shardBytes l / restoreSt.shardK = 65536 ∧ restoreSt.shardK = 2 ∧ restoreSt.shardM = 1 := by decide +kernel
  have h2 : ∀ b, (restoreSt.slotBytes restoreX 65536 [(0, b), (1, b)] 0).2 = some b := fun _ => rfl
  have h3 : ∀ b, (restoreSt.slotBytes restoreX 65536 [(0, b), (1, b)] 1).2 = some b := fun _ => rfl
  have h4 := test_good_crc restoreX (scHash l) data
  have h5 := test_good_match restoreX (scHash l) data (by decide +kernel) (by decide +kernel) (by decide +kernel)
  rw [h1.1, h1.2.1, h1.2.2]
  refine ⟨slot, ?_, h5, by rw [h4.2]; simp [h], by rw [h4.1, h4.2, List.take_of_length_le (by omega)]⟩
  rw [h1.2.1] at hq
  have : q = 0 ∨ q = 1 := by omega
  rcases this with rfl | rfl
  · exact h2 _
  · exact h3 _
theorem test_restore_checks :
    restoreSt.scCheck restoreX = .ok ∧ restoreSt.wear.offline = [] ∧ restoreSt.scRegionList restoreX = [(0x40000, 4096)] := by decide +kernel

/-- A device in BOOT whose retirement record is due, and an empty record. -/
def bootSt : State := { run0 with dev := .boot, boot.stage := 11 }
theorem test_retire_load :
    isRole 3 = true ∧ bootSt.dictServed = true ∧ bootSt.boot.rrLoaded = false ∧ bootSt.recordGood [] = false ∧
    ok (exec (.retireLoad 2 []) bootSt) (fun t => decide (t.boot.stage = 12 ∧ t.boot.rrLoaded = true ∧ t.wear.recordLost = true)) = true ∧
    ok (exec (.retireLoad 1 []) bootSt) (fun t => decide (t.boot.rrLoaded = false)) = true ∧
    ok (exec (.retireLoad 2 []) run0) (fun t => decide (t.reg (Status.counterOff .stateConflict) = 1)) = true := by decide +kernel
theorem test_life_saves :
    ok (exec (.lifeSaveNow 2) run0) (fun t => decide (t.boot.jobs = [.lifetime] ∧ t.wear.hourSaved = true)) = true ∧
    ok (exec (.lifeSaveNow 2) { run0 with wear.hourSaved := true }) (fun t => decide (t.boot.jobs = [])) = true ∧
    ok (exec (.lifeSaveNow 1) run0) (fun t => decide (t.wear.hourSaved = false)) = true ∧
    ok (exec .lifetimeSave { run0 with cycle := BitVec.ofNat 64 (3600 * 1800000000 - 1) }) (fun t => decide (t.boot.jobs = [])) = true ∧
    ok (exec .lifetimeSave { run0 with cycle := BitVec.ofNat 64 (3600 * 1800000000) }) (fun t => decide (t.boot.jobs = [.lifetime])) = true ∧
    ok (exec (.histogramSample 0x20 31) run0) (fun t => decide (Store.get 0 t.wear.hist (0x20 * 64 + 31) = 1)) = true ∧
    ok (exec (.dramBankCopyEnd 255 7 5) { run0 with wear.bankCopies := [(255, 7, 5)] }) (fun t => decide (t.wear.bankCopies = [])) = true := by
  decide +kernel

theorem test_window :
    run0.powered = true ∧ run0.pwr.thermInPending = none ∧ run0.ft.toNat / 10000 = run0.pwr.lastWindow ∧
    ({ run0 with ft := 10000 } : State).ft.toNat / 10000 ≠ run0.pwr.lastWindow ∧
    ok (exec (.windowBoundary 0 0) run0) (fun t => decide (t.pwr.reserve = run0.pwr.reserve)) = true := by decide +kernel
/-- Core 0 with a new clock step, and VDD_CORE at a voltage in tenths of a millivolt. -/
def clkSt (v : Nat) : State := { run0 with pwr.nextClk := [(0, 4)], pwr.clk := [], pwr.vcoreMv10 := v }
theorem test_clock :
    ok (exec (.clockSwitch 0) (clkSt 7499)) (fun t => decide (Store.get 0 t.pwr.clk 0 = 0)) = true ∧
    ok (exec (.clockSwitch 0) (clkSt 7500)) (fun t => decide (Store.get 0 t.pwr.clk 0 = 4 ∧ t.reg (coreOff 0 0x9028) = 1)) = true ∧
    ok (exec (.pmbusTelemetry 9 8 [151] 700) { clkSt 7101 with pwr.uvCap := true })
      (fun t => decide (t.dictNat 0x5040 1 = 150 ∧ t.pwr.uvCap = true ∧ t.pwr.uMeasured = 9)) = true ∧
    ok (exec (.pmbusTelemetry 9 0 [49] 700) { clkSt 7100 with pwr.uvCap := true })
      (fun t => decide (t.dictNat 0x5040 1 = 50 ∧ t.pwr.uvCap = false)) = true := by decide +kernel
/-- A device that throttles at 100 °C, compute die 0 at a cap and so many cuts. -/
def hotSt (cap cuts : Nat) (gauze : List Nat) : State :=
  { run0.setDictNat 0x5020 1 100 with pwr.capStep := [(0, cap)], pwr.cuts := [(0, cuts)], pwr.gauzeHeat := gauze }
/-- What die 0's cap and cuts become at a temperature in sixteenths of a degree. -/
def adjusts (s : State) (T : Int) (cap cuts : Nat) : Bool :=
  ok (exec (.thermalAdjust [T, 0, 0, 0, 0, 0]) s) fun t => decide (Store.get 0 t.pwr.capStep 0 = cap ∧ Store.get 0 t.pwr.cuts 0 = cuts)
theorem test_thermal_adjust :
    4 ≤ run0.maxStep ∧ adjusts (hotSt 4 0 []) 1600 3 0 = true ∧ adjusts (hotSt 4 0 []) 1599 4 0 = true ∧ adjusts (hotSt 3 0 []) 1552 3 0 = true ∧
    adjusts (hotSt 3 0 []) 1551 4 0 = true ∧ adjusts (hotSt 0 2 [0]) 1600 0 3 = true ∧ adjusts (hotSt 0 2 [0]) 1551 0 1 = true := by decide +kernel
theorem test_half_rate :
    ok (exec (.thermalAdjust [0, 0, 0, 0, 0, 1600]) (hotSt 0 0 [])) (fun t => decide (t.pwr.halfRate = [5])) = true ∧
    ok (exec (.thermalAdjust [0, 0, 0, 0, 0, 1551]) { hotSt 0 0 [] with pwr.halfRate := [5] }) (fun t => decide (t.pwr.halfRate = [])) = true ∧
    ok (exec (.thermalAdjust [0, 0, 0, 0, 0, 1552]) { hotSt 0 0 [] with pwr.halfRate := [5] }) (fun t => decide (t.pwr.halfRate = [5])) = true := by
  decide +kernel
theorem test_stack_heat :
    isStack 7 = true ∧ ok (exec (.stackTempSample 7 1679) run0) (fun t => decide (t.flag (msOff 7 0) 6 = true ∧ t.dev = .running)) = true ∧
    ok (exec (.stackTempSample 7 1680) run0) (fun t => decide (t.flag (msOff 7 0) 7 = true ∧ t.dev = .faulted)) = true := by decide +kernel
theorem test_therm_n :
    run0.pwr.thermIn = false ∧ run0.drivesTherm = false ∧ (hotSt 0 0 [0]).drivesTherm = true ∧
    ok (exec .thermNAssert run0) (fun t => decide (t.pwr.thermIn = true ∧ t.pins.thermN = false ∧ t.flag 0x4000 3 = true)) = true ∧
    ok (exec .thermNAssert (hotSt 0 0 [0])) (fun t => decide (t.pwr.thermIn = false ∧ t.pins.thermN = false)) = true ∧
    ok (exec .thermNRelease { run0 with pwr.thermIn := true }) (fun t => decide (t.pwr.thermInPending = some false)) = true ∧
    ok (exec .thermNStuck (hotSt 0 0 [0])) (fun t => decide (t.reg 0x408 = 1)) = true := by decide +kernel
theorem test_warnings :
    ok (exec .overcurrentWarning run0) (fun t => decide (t.pwr.ocUntil = some 1000000 ∧ t.capOf 0 = 0)) = true ∧
    ok (exec .undervoltageWarning run0) (fun t => decide (t.pwr.uvCap = true ∧ t.capOf 0 = 0)) = true ∧
    ok (exec .overcurrentCapEnd { run0 with pwr.ocUntil := some 5, ft := 4 }) (fun t => t.pwr.ocUntil.isSome) = true ∧
    ok (exec .overcurrentCapEnd { run0 with pwr.ocUntil := some 5, ft := 5 }) (fun t => t.pwr.ocUntil.isNone) = true := by decide +kernel
theorem test_trips :
    run0.canTrip = true ∧ ({ run0 with dev := .faulted } : State).canTrip = false ∧
    ok (exec (.thermalTrip false 5) run0) (fun t => decide (t.dev = .faulted ∧ t.pwr.tripped = true ∧ t.pwr.vcoreMv10 = 7000)) = true ∧
    ok (exec (.thermalTrip true 7) { run0 with dev := .faulted }) (fun t => t.flag (msOff 7 0) 7) = true ∧
    ok (exec (.thermalTrip true 7) State.reset) (fun t => decide (t = State.reset)) = true ∧
    ok (exec .regulatorFault run0) (fun t => decide (t.dev = .faulted ∧ t.pwr.regFault = true)) = true := by decide +kernel
theorem test_fence :
    run0.engineRuns 143 = true ∧ State.reset.engineRuns 143 = false ∧
    ok (exec (.coreFence 143) (({ run0 with regs := [] } : State).setSem 9 { sem1 0 with ownCore := 143 }))
      (fun t => decide ((t.core 143).fenced ∧ (t.sem 9).state = .poisoned)) = true := by decide +kernel


/-! ### Media engines -/

/-- Engine 1 with a command at its head in a ring at 0x8000, a session descriptor at 0x9000, and session 63. -/
def mediaSt (c y : BitVec 512) (S : Session) : State :=
  ((((({ run0 with regs := [] } : State).setReg (mxOff 1 8) 1).setDictNat 0x7000 2 0x8000).putNear 0x8000 (leBytes 64 c.toNat)).putNear 0x9000
    (leBytes 64 y.toNat)).setSession 1 63 S
/-- A command of a media engine on session 63. -/
def mc (op : Nat) : BitVec 512 := item [(507, 504, op), (503, 498, 63), (479, 446, 0x240)]
/-- A decode session of pictures of 64 × 64 with 4 buffers from 0x100000, its units from 0x200000. -/
def sessX : BitVec 512 :=
  item [(503, 490, 63), (489, 476, 63), (475, 470, 3), (464, 451, 63), (450, 437, 63), (436, 409, 256), (408, 381, 512), (380, 357, 1), (324, 321, 1)]
/-- That session, its buffers with marks. -/
def sess (marks : List Nat) : Session := { state := 1, desc := sessX, marks := marks }
theorem test_media_idle :
    (mediaSt (mc 0) sessX {}).mxSlot 1 = 0x8000 ∧ (mediaSt (mc 0) sessX {}).mxHead 1 = 0 ∧ ((mediaSt (mc 0) sessX {}).mx 1).wait = .none ∧
    ok (exec (.openSession 1) { mediaSt (mc 0) sessX {} with dev := .config }) (fun t => decide ((t.session 1 63).state = 0)) = true := by
  decide +kernel
theorem test_media_open :
    (mediaSt (mc 0) sessX {}).mcCheck 1 (mc 0) = .ok ∧ msPatch sessX = false ∧ (mediaSt (mc 0) sessX {}).mxOpenCheck 1 63 0x9000 sessX 0 = .ok ∧
    ok (exec (.openSession 1) (mediaSt (mc 0) sessX {}))
      (fun t => decide ((t.session 1 63).marks = [0, 0, 0, 0] ∧ t.near 0x8000 1 = [1] ∧ t.mxHead 1 = 1)) = true ∧
    ok (exec (.openSession 1) (mediaSt (mc 0) 0 {})) (fun t => decide (t.near 0x800A 2 = [3, 1] ∧ (t.session 1 63).state = 0)) = true := by decide +kernel
theorem test_media_close :
    ok (exec (.closeSession 1) (mediaSt (mc 1) sessX (sess []))) (fun t => decide (t.session 1 63 = {})) = true ∧
    ok (exec (.closeSession 1) (mediaSt (mc 1) sessX {})) (fun t => decide (t.near 0x800A 2 = [1, 1])) = true := by decide +kernel
theorem test_media_flush :
    msEncode sessX = false ∧ ok (exec (.flush 1) (mediaSt (mc 4) sessX (sess []))) (fun t => decide ((t.session 1 63).state = 2)) = true := by
  decide +kernel
theorem test_media_hyps :
    (mediaSt (mc 2) sessX (sess [2, 0, 2, 2])).mcCheck 1 (mc 2) = .ok ∧ (sess [2, 0, 2, 2]).freeBuf = some 1 ∧ (sess [2, 2, 2, 2]).freeBuf = none ∧
    ((List.range 4).all fun i => !overlaps (fbAddr sessX i) (msFbBytes sessX) 0x8000 64) = true ∧
    (mediaSt (mc 3) sessX { sess [0] with desc := setFld sessX 505 505 1 }).mcCheck 1 (mc 3) = .ok ∧ (mcSource (mc 3)).2 = 0 := by decide +kernel
/-- Engine 1 while a command waits. -/
def waitMx (op : Nat) (w : MxWait) (marks : List Nat) : State :=
  (mediaSt (mc op) sessX (sess marks)).setMx 1 { wait := w, cmd := mc op }
theorem test_media_events :
    ok (exec (.frameBufferWaitEnd 1) (waitMx 2 .frame [2, 2])) (fun t => decide ((t.mx 1).wait = .frame)) = true ∧
    ok (exec (.patchBlockWrite 1) (waitMx 2 .slot [2])) (fun t => decide ((t.mx 1).wait = .slot)) = true ∧
    ok (exec (.patchBlockWrite 1) ((waitMx 2 .slot [2]).setMx 1
      { wait := .slot, cmd := mc 2, slotReady := true, status := .ownerLost, blocks := [(0, 5, [])] })) (fun t => decide (t.mxHead 1 = 1)) = true ∧
    (waitMx 2 .slot [2]).corePresent (pdCore 0) = true ∧
    ok (exec (.abort 1) (waitMx 2 .slot [2])) (fun t => decide ((t.session 1 63).state = 2 ∧ t.near 0x800A 2 = [1, 1])) = true := by decide +kernel
theorem test_media_release :
    ok (exec (.mxRelease 1 0x3F01) (mediaSt 0 0 (sess [0, 3]))) (fun t => decide ((t.session 1 63).mark 1 = 0)) = true ∧
    ok (exec (.mxRelease 1 0x3F01) (mediaSt 0 0 (sess [0, 4]))) (fun t => decide ((t.session 1 63).mark 1 = 2)) = true ∧
    ok (exec (.mxRelease 1 0x3F01) (mediaSt 0 0 (sess [0, 2]))) (fun t => decide (t.reg (mxOff 1 0x70) = 1)) = true := by decide +kernel

/-! ### Dictionary, device and field network -/

/-- A device in a state whose mailbox, bridge and forwarded requesters are ADMIN. -/
def admin (d : DevState) : State := { (run0.setDictNat 0x2010 5 2).setDictNat 0x2010 4 2 with dev := d }
/-- A request for a thermal priority (entry 0x5030). -/
def req (cmd sub v : Nat) : Msg := { cmd := cmd, seq := 5, index := 0x5030, sub := sub, len := if cmd = 2 then 4 else 0, data := leBytes 4 v }
theorem test_requests :
    (admin .running).dictServed = true ∧ (admin .running).roleOf (.mailbox 0) = 2 ∧ (admin .running).reqCheck (.mailbox 0) (req 2 1 9) = .ok ∧
    (admin .running).reqCheck (.mailbox 0) { cmd := 1, seq := 5, index := 0x5030, sub := 1, len := 1 } = .ok ∧
    (admin .running).reqCheck (.mailbox 0) (req 3 1 0) = .ok ∧ (admin .running).reqCheck .bridge { cmd := 0x20, seq := 5 } = .ok ∧
    (admin .running).reqCheck .bridge { cmd := 0x20, seq := 5, mver := 0 } = .versionUnsupported ∧
    ok (exec (.write (.mailbox 0) (req 2 1 9)) (admin .running)) (fun t => decide (t.dictNat 0x5030 1 = 9)) = true ∧
    ok (exec (.write (.mailbox 0) (req 2 1 16)) (admin .running)) (fun t => decide (t.dictNat 0x5030 1 = (admin .running).dictNat 0x5030 1)) = true ∧
    ok (exec (.dictRead (.mailbox 0) { cmd := 1, seq := 5, index := 0x5030, sub := 1, len := 1 }) (admin .running))
      (fun t => decide (((t.mgmt.responses.head?).map fun r => (r.2.status, r.2.data.length)) = some (0, 1))) = true := by decide +kernel
theorem test_repeated :
    ok (exec (.discover .bridge { cmd := 0x20, seq := 5 }) { admin .running with mgmt.stored := [(.bridge, 5, { cmd := 7, seq := 7 })] })
      (fun t => decide (t.mgmt.responses = [(.bridge, { cmd := 7, seq := 7 })])) = true := by decide +kernel
/-- A device that holds transaction 9 of the bridge with a write of entry 0x5030/1. -/
def txnSt (armed : Option Nat) (v : Nat) (ft : W64) : State :=
  { (admin .running).setReg 0x108 1 with
    mgmt.txns := [{ num := 9, path := .bridge, armed := armed, writes := [(dictKey 0x5030 1, [(0, leBytes 4 v)])] }]
    ft := ft }
theorem test_txn_begin :
    (admin .running).reqCheck .bridge { cmd := 0x10, seq := 5 } = .ok ∧
    ok (exec (.txnBegin .bridge { cmd := 0x10, seq := 5 }) { admin .running with mgmt.nextTxn := 0xFFFF })
      (fun t => decide (t.mgmt.nextTxn = 1 ∧ (t.mgmt.txns.map fun T => T.num) = [0xFFFF])) = true := by decide +kernel
theorem test_txn_commands :
    (txnSt none 9 0).reqCheck .bridge { cmd := 0x12, seq := 5, txn := 9 } = .ok ∧ ((txnSt none 9 0).txnOf .bridge 9).isSome = true ∧
    ((txnSt none 9 0).txnOf .bridge 9).map (fun T => ((txnSt none 9 0).commitTrial T).2) = some none ∧
    ok (exec (.txnCommit .bridge { cmd := 0x12, seq := 5, txn := 9 }) (txnSt none 9 0)) (fun t => decide (t.dictNat 0x5030 1 = 9 ∧ t.mgmt.txns = [])) =
      true ∧
    ok (exec (.txnCommit .bridge { cmd := 0x12, seq := 5, txn := 9, ftAt := 7 }) (txnSt none 9 7))
      (fun t => decide ((t.mgmt.txns.map fun T => T.armed) = [some 7])) = true ∧
    ok (exec (.txnAbort .bridge { cmd := 0x13, seq := 5, txn := 9 }) (txnSt none 9 0)) (fun t => decide (t.mgmt.txns = [])) = true ∧
    ok (exec (.txnStage .bridge { cmd := 0x11, seq := 5, txn := 9, index := 0x5030, sub := 2, len := 4, data := leBytes 4 8 }) (txnSt none 9 0))
      (fun t => decide ((t.mgmt.txns.map fun T => T.writes.length) = [2])) = true := by decide +kernel
theorem test_txn_time :
    ok (exec (.scheduledCommit 9) (txnSt (some 7) 9 6)) (fun t => decide (t.mgmt.txns.length = 1)) = true ∧
    ok (exec (.scheduledCommit 9) (txnSt (some 7) 9 7)) (fun t => decide (t.mgmt.txns = [] ∧ t.dictNat 0x5030 1 = 9)) = true ∧
    ok (exec (.txnIdleTimeout 9) (txnSt none 9 (BitVec.ofNat 64 (run0.dictNat 0x2020 1 * 1000000 - 1)))) (fun t => decide (t.mgmt.txns.length = 1)) =
      true ∧
    ok (exec (.txnIdleTimeout 9) (txnSt none 9 (BitVec.ofNat 64 (run0.dictNat 0x2020 1 * 1000000)))) (fun t => decide (t.mgmt.txns = [])) = true := by
  decide +kernel
theorem test_device_commands :
    (admin .config).devBusy = false ∧ ((admin .ready).qs.queues.any fun e => e.2.enabled) = false ∧ (run0.setDictNat 0x2010 5 0).roleOf (.mailbox 0) = 0 ∧
    ok (exec (.goReady (.mailbox 0)) (admin .config)) (fun t => decide (t.dev = .ready)) = true ∧
    ok (exec (.start (.mailbox 0)) (admin .ready)) (fun t => decide (t.dev = .running ∧ (t.core 143).scheduled = true)) = true ∧
    ok (exec (.drain (.mailbox 0)) (admin .running)) (fun t => decide (t.dev = .draining ∧ t.devBusy = true)) = true ∧
    ok (exec (.reconfig (.mailbox 0)) (admin .ready)) (fun t => decide (t.dev = .config)) = true ∧
    ok (exec (.start (.mailbox 0)) (admin .config)) (fun t => decide (t.dev = .config ∧ t.devCmdStatus = 0x0101)) = true ∧
    ok (exec (.resetCmd (.mailbox 0)) (run0.setDictNat 0x2010 5 1)) (fun t => decide (t.resetAt = none)) = true := by decide +kernel
theorem test_device_delays :
    (admin .draining).drained = true ∧ ok (exec .drainComplete (admin .draining)) (fun t => decide (t.dev = .ready)) = true ∧
    ok (exec .drainComplete (admin .running)) (fun t => decide (t.dev = .running)) = true ∧
    ok (exec (.resetCmd .bridge) (admin .faulted)) (fun t => decide (t.resetAt = some 100000)) = true ∧
    ok (exec .resetDelayExpiry { run0 with resetAt := some 5, ft := 4 }) (fun t => decide (t.dev = .running)) = true ∧
    ok (exec .resetDelayExpiry { run0 with resetAt := some 5, ft := 5 }) (fun t => decide (t.dev = .reset)) = true := by decide +kernel

/-- The mailbox claimed by core 143, a DISCOVER in its buffer. -/
def mailSt : State :=
  { (admin .running).setReg 0x200 144 with
    mgmt.mail := storeBytes [] 0x1000 (leBytes 32 (2 ^ 252 + 0x20 * 2 ^ 240 + 5 * 2 ^ 224 + 0x3FFF * 2 ^ 185 + 2 ^ 199)) }
theorem test_mailbox :
    run0.mbClaim = 0xFF ∧ mailSt.mbClaim = 143 ∧ mailSt.cpLive 143 = true ∧ (msgOf (loadBytes mailSt.mgmt.mail 0x1000 4096)).cmd = 0x20 ∧
    (msgOf (loadBytes mailSt.mgmt.mail 0x1000 4096)).chip = 0x3FFF ∧ mailSt.flag 0x208 0 = false ∧
    ok (exec (.mbClaim 0) run0) (fun t => decide (t.mbClaim = 0)) = true ∧ ok (exec (.mbClaim 0) mailSt) (fun t => decide (t.mbClaim = 143)) = true ∧
    ok (exec (.mbClaimRelease 143) mailSt) (fun t => decide (t.mbClaim = 0xFF)) = true ∧
    ok (exec (.mbClaimRelease 143) (mailSt.setFlag 0x208 0)) (fun t => t.mgmt.mbRelease) = true ∧
    ok (exec (.mbRelease .bridge) mailSt) (fun t => decide (t.mbClaim = 0xFF)) = true ∧
    ok (exec (.mbRelease (.mailbox 0)) mailSt) (fun t => decide (t.mbClaim = 143)) = true := by decide +kernel
theorem test_go : ok (exec (.go 143) mailSt) (fun t => decide (t.flag 0x208 1 = true ∧ t.flag 0x208 0 = false)) = true := by decide +kernel
theorem test_field_network :
    run0.mgmt.link = 0 ∧ ok (exec .pairShort run0) (fun t => decide (t.mgmt.link = 2 ∧ t.mgmt.shortNext = some 1000000000)) = true ∧
    ok (exec .noBeacon run0) (fun t => decide (t.mgmt.link = 1)) = true ∧
    ok (exec .beaconResume { run0 with mgmt.link := 1 }) (fun t => decide (t.mgmt.link = 0)) = true ∧
    ok (exec .badFrame run0) (fun t => decide (t.reg 0x258 = 1)) = true ∧
    ok (exec (.shortRetry true) { run0 with mgmt.link := 2, mgmt.shortNext := some 5, ft := 5 }) (fun t => decide (t.mgmt.link = 0)) = true ∧
    ok (exec (.shortRetry true) { run0 with mgmt.link := 2, mgmt.shortNext := some 5, ft := 4 }) (fun t => decide (t.mgmt.link = 2)) = true ∧
    ok (exec .stateEvent { run0 with mgmt.eventDue := some 5, ft := 5 }) (fun t => decide (t.mgmt.events.length = 1 ∧ t.reg 0x250 = 1)) = true ∧
    ok (exec .stateEvent { run0 with mgmt.eventDue := some 5, ft := 4 }) (fun t => decide (t.mgmt.events = [])) = true := by decide +kernel

/-! ### Start-up, firmware and the test access port -/

theorem test_resets :
    ok (exec .resetNAssert run0) (fun t => decide (t.dev = .reset ∧ t.pins.resetN = false)) = true ∧
    ok (exec (.railEvent 8 false) run0) (fun t => decide (t.dev = .reset ∧ t.pins.railReset = true ∧ t.pins.railLast = 8)) = true ∧
    ok (exec (.railEvent 1 true) run0) (fun t => decide (t.pins.clkReset = true ∧ t.pins.supplyOk = false)) = true := by decide +kernel
theorem test_starts :
    State.reset.dev = .reset ∧ State.reset.pins.resetN = false ∧ State.reset.pins.supplyOk = true ∧ State.reset.boot.helperOk = true ∧
    State.reset.noFlash = false ∧ State.reset.boot.image = some {} ∧ ({} : FwImage).headOk = true ∧ ({} : FwImage).sigOk = true ∧
    ({} : FwImage).tagOk = true ∧ ({} : FwImage).readOk = true ∧ State.reset.boot.stacksOk = true ∧ State.reset.boot.rrLoaded = false ∧
    ok (exec (.resetNRelease 2 false []) State.reset) (fun t => decide (t.dev = .boot ∧ t.boot.stage = 4)) = true ∧
    ok (exec (.resetNRelease 3 false []) State.reset) (fun t => decide (t.boot.status = .reservedNonzero)) = true ∧
    ok (exec (.resetNRelease 0 false []) { State.reset with boot.image := some { sigOk := false } })
      (fun t => decide (t.boot.stage = 7 ∧ t.boot.status = .authFailed)) = true ∧
    ok (exec (.resetNRelease 0 false []) { State.reset with boot.image := some { readOk := false } })
      (fun t => decide (t.boot.stage = 6 ∧ t.boot.status = .uncorrectable)) = true ∧
    ok (exec (.resetNRelease 0 false []) { State.reset with boot.stacksOk := false })
      (fun t => decide (t.boot.stage = 5 ∧ t.boot.status = .uncorrectable)) = true ∧
    ok (exec (.resetNRelease 0 false []) { State.reset with pins.driven := true }) (fun t => decide (t.boot.stage = 1 ∧ t.boot.holdTap)) = true ∧
    ok (exec .supplyInRange { State.reset with pins.resetN := true }) (fun t => decide (t.dev = .boot)) = true := by decide +kernel
theorem test_boot_ends :
    ok (exec .bootRrTimeout { bootSt with boot.rrDeadline := 5, ft := 4 }) (fun t => decide (t.boot.stage = 11)) = true ∧
    ok (exec .bootRrTimeout { bootSt with boot.rrDeadline := 5, ft := 5 }) (fun t => decide (t.boot.stage = 12 ∧ t.wear.recordLost = true)) = true ∧
    ok (exec .temperatureGate { bootSt with regs := [], boot.stage := 12 }) (fun t => decide (t.dev = .config)) = true := by decide +kernel
/-- A device in READY with an update in a state, begun by the bridge. -/
def updSt (n : Nat) : State := { admin .ready with boot.updState := n, boot.updOwner := some .bridge, boot.pending := some { fw := 7 } }
theorem test_update :
    ok (exec (.fwBegin .bridge) (updSt 4)) (fun t => decide (t.boot.updState = 1 ∧ t.boot.pending = none)) = true ∧
    ok (exec (.fwBegin .bridge) (updSt 1)) (fun t => decide (t.reg (Status.counterOff .stateConflict) = 1)) = true ∧
    ok (exec (.fwUpdData .bridge (0x3100000 - 1) [7]) (updSt 1)) (fun t => decide (t.near 0xBF070FFFFF 1 = [7] ∧ t.boot.updBytes = 1)) = true ∧
    ok (exec (.finish .bridge) (updSt 0)) (fun t => decide (t.reg (Status.counterOff .stateConflict) = 1)) = true ∧
    ok (exec (.cancel .bridge) (updSt 5)) (fun t => decide (t.boot.updState = 0)) = true ∧ (updSt 4).activateOk 100 = false ∧
    (updSt 5).activateOk (2 ^ 32) = true := by decide +kernel
theorem test_activate :
    ok (exec (.activate .bridge (2 ^ 32)) ((updSt 5).putNear 64 [7])) (fun t => decide (t.boot.fwVersion = 7 ∧ t.boot.updState = 6 ∧ t.near 64 1 = [7])) =
      true := by decide +kernel
theorem test_contents :
    run0.blobCheck [] = .headerRejected ∧ ok (exec (.pdcBlob .bridge []) (admin .ready)) (fun t => decide (t.boot.pdcStatus = .headerRejected)) = true ∧
    ok (exec (.quoteNonce .bridge (List.replicate 32 7)) (admin .ready)) (fun t => t.boot.quoteBusy) = true ∧
    ok (exec (.quoteNonce .bridge []) (admin .ready)) (fun t => decide (t.boot.quoteBusy = false)) = true := by decide +kernel
theorem test_flash_absent :
    ({ run0 with boot.flashMiB := 63 } : State).noFlash = true ∧
    ok (exec (.flashWriteEnd true) { updSt 3 with dev := .running, boot.flashMiB := 63, boot.jobs := [.package] })
      (fun t => decide (t.boot.jobs = [] ∧ t.boot.staging = none)) = true := by decide +kernel
theorem test_flash :
    ok (exec (.flashWriteEnd true) { updSt 3 with dev := .running, boot.jobs := [.package] }) (fun t => decide (t.boot.jobs = [])) = true ∧
    ok (exec (.flashWriteEnd false) { updSt 3 with dev := .running, boot.jobs := [.package], boot.retries := 1 }) (fun t => decide (t.boot.retries = 2)) =
      true ∧
    ok (exec (.flashWriteEnd false) { updSt 3 with dev := .running, boot.jobs := [.package], boot.retries := 2 })
      (fun t => decide (t.boot.jobs = [] ∧ t.boot.updStatus = .uncorrectable)) = true := by decide +kernel
theorem test_tap :
    State.reset.boot.holdTap = false ∧ ok (exec .idcode run0) (fun t => decide (t.pins.dr = 0x10768C57)) = true ∧
    ok (exec (.extest 7) State.reset) (fun t => decide (t.pins.driven = true ∧ t.pins.boundary = 7)) = true ∧
    ok (exec .highz { run0 with pins.resetN := true }) (fun t => decide (t.pins.effective = 0xFF ∧ t.pins.driven = false ∧ t.reg 0x410 = 1)) = true ∧
    ok (exec .bypass { bootSt with boot.stage := 1, boot.holdTap := true, pins.driven := true, pins.resetN := true })
      (fun t => decide (t.boot.holdTap = false ∧ t.pins.driven = false)) = true := by decide +kernel


/-! ### Operands that name nothing: one term for each check -/

/-- Is a command refused by `Instr.wf`, and does its meaning end in the fault of an operand that names nothing? -/
def refusedTerm (c : Instr) : Bool :=
  !c.wf && match exec c run0 with
    | .fault (.noSuchUnit _) => true
    | _ => false
theorem test_bad_cores_and_queues :
    ([.cpAccess 144 .load 0 8 0 [], .cpAccess 0 .load 0 3 0 [], .lr 0 0 2, .rv64aAmo 0 12 0 0 0, .yield 144, .mmaStart 1048576, .poolWrite 8 0,
      .seqSlotWrite 32 0, .semFree 0 65536, .barFree 0 4096, .poisonCtx 65536, .stallFlush 4] : List Instr).all refusedTerm = true := by decide +kernel
theorem test_bad_memory :
    ([.registerWrite 3 4 0, .registerWrite 0x400 3 0, .w1cClear 0x408 0 ⟨0, .ok, 0⟩, .w1cClear 0x400 0 ⟨0, .ok, 16⟩,
      .burstCrcFail 0xC000000000 0 (burst 0), .burstCrcFail 0 4 (burst 0), .burstCrcFail 0 0 ⟨[], 0⟩, .burstCrcFail 0 0 ⟨leBytes 64 0, 65536⟩,
      .odecReport 8 1, .scrubRead 0xC000000000 [], .scrubRead 0 [.near 0 68 1], .scrubRead 0 [.tile 0 0x1000000], .scrubRead 0 [.cache 0 0 9], .addRequest { addR false 0 false with fmt := 4 }, .addRequest { addR true 64 false with fmt := 2 },
      .farPoolWrite 16 0, .dramBankCopyEnd 256 0 0] : List Instr).all refusedTerm = true := by decide +kernel
theorem test_bad_fabric :
    ([.replayTimeout 14, .idleFlit 0 (flit 0 0 0 0 0 0) 0 0 4096 0 0, .dataFlit 0 (flit 1 0 0 0 0 0) 0 0 0 0 4 0 0 [],
      .dataFlit 0 (flit 1 0 0 0 0 1) 0 0 0 0 1 0 0 [sig], .laneSerExceed 0 8,
      .ident 0 1 0 256, .ident 0 1 16384 0, .trainingEnd 0 (found 256 1), .timeFlit 0 false true false 65536 0 0 0, .linkStateAnnounce 0 16384,
      .writePacket (pkt .write 0 []), .read (pkt .write 0 [1]), .addPacket (pkt .add 0 [1]), .atomicPacket (pkt .atomic 0 []),
      .hostApertureRequest true 0 513 [], .pcieConfigRequest false 4096 0, .fabricArrival 0 16384 0] : List Instr).all refusedTerm = true := by
  decide +kernel
theorem test_bad_management :
    ([.snap 2 0, .openSession 2, .retireLoad 4 [], .thermalAdjust [0], .thermalTrip true 8, .thermalTrip false 6, .write (.mailbox 144) { cmd := 2, seq := 0 },
      .discover (.field (2 ^ 48)) { cmd := 0x20, seq := 0 }, .drain (.forwarded false 0 16384 0), .resetNRelease 4 false [], .resetNRelease 0 false [144],
      .railEvent 9 false, .histogramSample 0x21 0, .histogramSample 1 32] : List Instr).all refusedTerm = true := by decide +kernel

end Sys2Proof.Tests
end

section
/-! SUPPORT. The step that executes no command: what each count of a control cycle leaves alone, and O2. -/

namespace Sys2Proof.Machine

/-! ### What a fold of updates leaves alone -/

/-- The time, the memories, the fabric and the waiting commands of two states agree: a control cycle's counts differ elsewhere. -/
structure State.SameStill (s t : State) : Prop where
  cycle : t.cycle = s.cycle
  ft : t.ft = s.ft
  ftPrev : t.ftPrev = s.ftPrev
  ninths : t.ninths = s.ninths
  mem : t.mem = s.mem
  fab : t.fab = s.fab
  pending : t.pending = s.pending

theorem State.SameStill.refl (s : State) : s.SameStill s := ⟨rfl, rfl, rfl, rfl, rfl, rfl, rfl⟩

theorem State.SameStill.trans {s t u : State} (h : s.SameStill t) (k : t.SameStill u) : s.SameStill u :=
  ⟨k.cycle.trans h.cycle, k.ft.trans h.ft, k.ftPrev.trans h.ftPrev, k.ninths.trans h.ninths, k.mem.trans h.mem,
    k.fab.trans h.fab, k.pending.trans h.pending⟩

theorem sameStill_ite {c : Prop} [Decidable c] {s a b : State} (ha : s.SameStill a) (hb : s.SameStill b) :
    s.SameStill (if c then a else b) := by
  split
  · exact ha
  · exact hb

theorem sameStill_foldl {β : Type} {f : State → β → State} (hf : ∀ (t : State) e, t.SameStill (f t e)) (l : List β) (s : State) :
    s.SameStill (l.foldl f s) := by
  induction l generalizing s with
  | nil => exact .refl s
  | cons e rest ih => exact (hf s e).trans (ih (f s e))

/-! ### The operations of a control cycle -/

theorem State.bump_sameStill (s : State) (o n : Nat) : s.SameStill (s.bump o n) := ⟨rfl, rfl, rfl, rfl, rfl, rfl, rfl⟩

theorem State.stall_sameStill (s : State) (q cause : Nat) : s.SameStill (s.stall q cause) := ⟨rfl, rfl, rfl, rfl, rfl, rfl, rfl⟩

theorem State.lifeAdd_sameStill (s : State) (sub n : Nat) : s.SameStill (s.lifeAdd sub n) := ⟨rfl, rfl, rfl, rfl, rfl, rfl, rfl⟩

theorem State.noteFold_sameStill (s : State) (core : Nat) : s.SameStill (s.noteFold core) := by
  unfold State.noteFold
  split
  · exact sameStill_ite ⟨rfl, rfl, rfl, rfl, rfl, rfl, rfl⟩ (.refl s)
  · exact .refl s

theorem State.tickIf_sameStill (s : State) (core off : Nat) (p : Bool) : s.SameStill (s.tickIf core off p) :=
  sameStill_ite (s.bump_sameStill _ _) (.refl s)

theorem State.tickCore_sameStill (s : State) (core : Nat) : s.SameStill (s.tickCore core) :=
  sameStill_foldl (β := Nat × Bool) (fun t e => t.tickIf_sameStill core e.1 e.2) _ s

theorem State.tickQueue_sameStill (s : State) (e : Nat × Queue) : s.SameStill (s.tickQueue e) := by
  have h : ∀ q cause, s.SameStill (if (s.unmet (s.waitSems e)).isEmpty then s else s.stall q cause) :=
    fun q cause => sameStill_ite (.refl s) (s.stall_sameStill q cause)
  exact sameStill_ite ((h _ _).trans (State.stall_sameStill _ _ _)) (h _ _)

theorem State.tickPort_sameStill (s : State) (p : Nat) : s.SameStill (s.tickPort p) := by
  unfold State.tickPort
  dsimp only
  split
  · exact sameStill_ite (s.bump_sameStill _ _) (.refl s)
  · exact .refl s

theorem State.tickGauze_sameStill (s : State) (die : Nat) : s.SameStill (s.tickGauze die) :=
  have h := s.bump_sameStill (0x4048 + 8 * die) 1
  sameStill_ite (.refl s) (sameStill_ite (h.trans (State.lifeAdd_sameStill _ _ _)) h)

theorem State.tickStack_sameStill (s : State) (stack : Nat) : s.SameStill (s.tickStack stack) :=
  sameStill_ite (s.bump_sameStill _ _) (.refl s)

theorem State.tickMedia_sameStill (s : State) (e : Nat) : s.SameStill (s.tickMedia e) := by
  unfold State.tickMedia
  split
  · exact .refl s
  · exact s.bump_sameStill _ _
  · exact s.bump_sameStill _ _

/-- The counters of a control cycle are registers, stall counts and lifetime counters only. -/
theorem State.tickCounts_sameStill (s : State) : s.SameStill s.tickCounts :=
  (sameStill_foldl State.tickCore_sameStill _ s).trans <|
  (sameStill_foldl State.tickQueue_sameStill _ _).trans <|
  (sameStill_foldl State.tickPort_sameStill _ _).trans <|
  (sameStill_foldl State.tickGauze_sameStill _ _).trans <|
  (sameStill_foldl State.tickStack_sameStill _ _).trans <|
  (sameStill_foldl State.tickMedia_sameStill _ _).trans (State.bump_sameStill _ _ _)

/-! ### Nothing to slew, to settle or to unpark -/

theorem State.tickSlew_of_no_slew (s : State) (before : W64) (h : s.fab.slewNs = 0) : s.tickSlew before = s :=
  if_pos (.inr h)

theorem State.settleLost_of_none (s : State) (h : s.fab.lost = []) : s.settleLost = s := by
  have e : ({ s with fab.lost := [] } : State) = s := by rw [← h]
  simp [State.settleLost, h, e]

theorem State.unparkAll_of_none (s : State) (h : s.fab.parked = []) : s.unparkAll = s := by
  simp [State.unparkAll, h]

/-- With no slew asked for, no request lost and no packet set aside, a control cycle is `tickTime` as far as the time, the memories, the
fabric and the waiting commands go. -/
theorem State.tick_sameStill (s : State) (hslew : s.fab.slewNs = 0) (hlost : s.fab.lost = []) (hparked : s.fab.parked = []) :
    s.tickTime.SameStill s.tick := by
  unfold State.tick
  dsimp only
  generalize hu : (List.range Config.cores).foldl (fun (t : State) c => t.noteFold c) s = u
  have hsu : s.SameStill u := hu ▸ sameStill_foldl State.noteFold_sameStill _ s
  have htime : s.tickTime.SameStill u.tickTime :=
    ⟨congrArg (· + 1) hsu.cycle, by simp [State.tickTime, hsu.ft, hsu.ninths], hsu.ft, by simp [State.tickTime, hsu.ninths],
      hsu.mem, hsu.fab, hsu.pending⟩
  have hfab : u.tickTime.fab = s.fab := hsu.fab
  rw [← hfab] at hslew hlost hparked
  rw [State.tickSlew_of_no_slew u.tickTime s.ft hslew, State.settleLost_of_none _ hlost, State.unparkAll_of_none _ hparked]
  exact sameStill_ite (htime.trans (State.tickCounts_sameStill _)) htime

/-- Settles O2: a step on an empty queue is `State.tick`, which agrees with `State.tickTime` on all that the statement names. -/
theorem idleStepIsOneControlCycle : Obligations.IdleStepIsOneControlCycle := by
  intro s hpending hslew hlost hparked
  have h := s.tick_sameStill hslew hlost hparked
  exact ⟨s.tick, by simp [step, hpending], h.cycle, h.ftPrev, h.ft, h.ninths, h.mem, h.pending.trans hpending⟩

end Sys2Proof.Machine
end

section
/-! SUPPORT. The register tables: the block a register lies in, and what holds of every register of a block. -/

namespace Sys2Proof.Machine

/-! ### Blocks of the window -/

/-- The block of the window that a register lies in, with its entry in the block's table. -/
inductive InBlock (o : Nat) (r : RegSpec) : Prop where
  | chip (hlt : o < 0x10000) (hstack : ¬(0xA000 ≤ o ∧ o < 0xA800)) (hport : ¬(0xD000 ≤ o ∧ o < 0xDE00))
      (hmem : (o, r) ∈ chipRegs ++ chipRegs2)
  | stack (hrange : 0xA000 ≤ o ∧ o < 0xA800) (hmem : (o % 0x100, r) ∈ stackRegs)
  | port (hrange : 0xD000 ≤ o ∧ o < 0xDE00) (hmem : (o % 0x100, r) ∈ portRegs)
  | core (hrange : 0x10000000 ≤ o ∧ o < 0x10900000) (hmem : (o % 0x10000, r) ∈ coreRegs)
  | media (hrange : 0x20000000 ≤ o ∧ o < 0x22000000) (hmem : (o % 0x1000000, r) ∈ mediaRegs)
  | shard (hrange : 0x30000000 ≤ o ∧ o < 0x31000000) (hmem : (o % 0x800000, r) ∈ shardRegs)

theorem mem_of_lookup_eq_some {β : Type} {l : List (Nat × β)} {k : Nat} {r : β} (h : l.lookup k = some r) : (k, r) ∈ l := by
  obtain ⟨l₁, l₂, rfl, -⟩ := List.lookup_eq_some_iff.1 h
  simp

theorem inBlock_of_regSpec {o : Nat} {r : RegSpec} (h : regSpec o = some r) : InBlock o r := by
  unfold regSpec at h
  split at h
  · next hlt =>
    split at h
    · next hs => exact .stack hs (mem_of_lookup_eq_some h)
    · next hs =>
      split at h
      · next hp => exact .port hp (mem_of_lookup_eq_some h)
      · next hp =>
        refine .chip hlt hs hp (List.mem_append.2 ?_)
        split at h
        · exact .inl (mem_of_lookup_eq_some h)
        · exact .inr (mem_of_lookup_eq_some h)
  · split at h
    · next hr => exact .core hr (mem_of_lookup_eq_some h)
    · split at h
      · next hr => exact .media hr (mem_of_lookup_eq_some h)
      · split at h
        · next hr => exact .shard hr (mem_of_lookup_eq_some h)
        · cases h

/-! ### Facts about the tables -/

/-- Every entry of every register table. -/
def regTables : List (Nat × RegSpec) :=
  chipRegs ++ chipRegs2 ++ stackRegs ++ portRegs ++ coreRegs ++ mediaRegs ++ shardRegs

theorem regTables_rw_and_w1c : ∀ e ∈ regTables, e.2.rw &&& e.2.w1c = 0 := by decide +kernel

theorem regTables_w1c_lt : ∀ e ∈ regTables, e.2.w1c < 2 ^ 32 := by decide +kernel

theorem regTables_w1c_size : ∀ e ∈ regTables, e.2.w1c ≠ 0 → e.2.size = 4 := by decide +kernel

theorem chipTables_not_mail : ∀ e ∈ chipRegs ++ chipRegs2, e.1 < 0x1000 ∨ 0x3000 ≤ e.1 := by decide +kernel

theorem chipTables_not_status : ∀ e ∈ chipRegs ++ chipRegs2, e.2.rsvd ≠ 0 → e.1 < 0x600 ∨ 0x880 ≤ e.1 := by decide +kernel

theorem chipTables_w1c_rsvd : ∀ e ∈ chipRegs ++ chipRegs2, e.2.w1c ≠ 0 → e.2.rsvd ≠ 0 := by decide +kernel

theorem chipTables_w1c_command : ∀ e ∈ chipRegs ++ chipRegs2, e.2.w1c ≠ 0 → commandReg e.1 = false := by decide +kernel

theorem unitTables_w1c : ∀ e ∈ stackRegs ++ portRegs ++ mediaRegs ++ shardRegs, e.2.w1c ≠ 0 → e.1 = 0 := by decide +kernel

/-- The command registers of a core's control block. -/
def coreCommands : List Nat := [0x1000, 0x1010, 0x3000, 0x4004, 0x5004, 0x6004, 0x7090, 0x7118]

theorem coreRegs_w1c : ∀ e ∈ coreRegs, e.2.w1c ≠ 0 → e.1 ∉ coreCommands := by decide +kernel

theorem mem_regTables {o : Nat} {r : RegSpec} (h : regSpec o = some r) : ∃ k, (k, r) ∈ regTables := by
  cases inBlock_of_regSpec h with
  | chip _ _ _ hmem => exact ⟨o, by simp only [regTables, List.mem_append] at hmem ⊢; tauto⟩
  | stack _ hmem => exact ⟨o % 0x100, by simp only [regTables, List.mem_append, hmem, true_or, or_true]⟩
  | port _ hmem => exact ⟨o % 0x100, by simp only [regTables, List.mem_append, hmem, true_or, or_true]⟩
  | core _ hmem => exact ⟨o % 0x10000, by simp only [regTables, List.mem_append, hmem, true_or, or_true]⟩
  | media _ hmem => exact ⟨o % 0x1000000, by simp only [regTables, List.mem_append, hmem, true_or, or_true]⟩
  | shard _ hmem => exact ⟨o % 0x800000, by simp only [regTables, List.mem_append, hmem, or_true]⟩

theorem ne_zero_of_testBit {x i : Nat} (h : x.testBit i = true) : x ≠ 0 := by
  rintro rfl
  simp at h

section
variable {o : Nat} {r : RegSpec} (h : regSpec o = some r)
include h

/-- No bit is both RW and W1C. -/
theorem rw_of_w1c {i : Nat} (hi : r.w1c.testBit i = true) : r.rw.testBit i = false := by
  obtain ⟨k, hk⟩ := mem_regTables h
  have h0 : (r.rw &&& r.w1c).testBit i = false := by rw [regTables_rw_and_w1c _ hk]; exact Nat.zero_testBit i
  simpa [hi] using h0

/-- W1C bits lie in registers of four bytes. -/
theorem size_of_w1c {i : Nat} (hi : r.w1c.testBit i = true) : r.size = 4 := by
  obtain ⟨k, hk⟩ := mem_regTables h
  exact regTables_w1c_size _ hk (ne_zero_of_testBit hi)

theorem lt_of_w1c {i : Nat} (hi : r.w1c.testBit i = true) : i < 32 := by
  obtain ⟨k, hk⟩ := mem_regTables h
  by_contra hle
  have hlt : r.w1c < 2 ^ i := (regTables_w1c_lt _ hk).trans_le (Nat.pow_le_pow_right (by decide) (not_lt.1 hle))
  simp [Nat.testBit_lt_two_pow hlt] at hi

/-- No register lies where the mailbox or the synchronisation objects do. -/
theorem regSpec_not_mail : ¬(0x1000 ≤ o ∧ o < 0x3000) := by
  cases inBlock_of_regSpec h with
  | chip _ _ _ hmem => have := chipTables_not_mail _ hmem; dsimp only at this; omega
  | stack | port | core | media | shard => omega

theorem regSpec_not_obj : isObj o = false := by
  have : o < 0x10000 ∨ 0x10000000 ≤ o := by cases inBlock_of_regSpec h <;> omega
  simp [isObj]; omega

/-- A register with a reserved bit is no status counter. -/
theorem regSpec_not_status (hr : r.rsvd ≠ 0) : o < 0x600 ∨ 0x880 ≤ o := by
  cases inBlock_of_regSpec h with
  | chip _ _ _ hmem => exact chipTables_not_status _ hmem hr
  | stack | port | core | media | shard => omega

end
end Sys2Proof.Machine
end

section
/-! SUPPORT. What a write of a register stores or refuses (R13, R639). -/

namespace Sys2Proof.Machine

/-! ### Command registers -/

theorem commandReg_core {o : Nat} (hr : 0x10000000 ≤ o ∧ o < 0x10900000) :
    commandReg o = coreCommands.contains (o % 0x10000) := if_pos hr

theorem commandReg_rest {o : Nat} (hr : ¬(0x10000000 ≤ o ∧ o < 0x10900000)) :
    commandReg o = false ↔ o ∉ [0x200, 0x204, 0x3000, 0xB004] ∧ ¬(0xD000 ≤ o ∧ o < 0xDE00 ∧ o % 0x100 = 4) ∧
      ¬(0x20000000 ≤ o ∧ o < 0x22000000 ∧ (o % 0x1000000 = 4 ∨ o % 0x1000000 = 0x10)) ∧
      ¬(0x30000000 ≤ o ∧ o < 0x31000000 ∧ o % 0x800000 = 8) := by
  rw [commandReg, if_neg hr]
  simp only [Bool.or_eq_false_iff, decide_eq_false_iff_not, and_assoc, List.contains_eq_mem]

/-- A register with W1C bits commands nothing. -/
theorem commandReg_of_w1c {o : Nat} {r : RegSpec} (h : regSpec o = some r) (hw : r.w1c ≠ 0) : commandReg o = false := by
  have hunit : ∀ k, (k, r) ∈ stackRegs ++ portRegs ++ mediaRegs ++ shardRegs → k = 0 := fun k hk => unitTables_w1c _ hk hw
  simp only [List.mem_append] at hunit
  cases inBlock_of_regSpec h with
  | chip _ _ _ hmem => exact chipTables_w1c_command _ hmem hw
  | core hr hmem => simpa [commandReg_core hr] using coreRegs_w1c _ hmem hw
  | stack hr hmem | port hr hmem | media hr hmem | shard hr hmem =>
    have h0 := hunit _ (by tauto)
    refine (commandReg_rest (by omega)).2 ⟨?_, by omega, by omega, by omega⟩
    simp only [List.mem_cons, List.not_mem_nil, or_false]
    omega

theorem coreCommand_eq_none {o : Nat} (s : State) (core v : Nat) (h : o ∉ coreCommands) : s.coreCommand core o v = none := by
  unfold State.coreCommand
  split <;> simp_all [coreCommands]

theorem chipCommand_eq_none {o : Nat} (s : State) (who : Option Nat) (v : Nat) (hr : ¬(0x10000000 ≤ o ∧ o < 0x10900000))
    (h : commandReg o = false) : s.chipCommand who o v = none := by
  obtain ⟨hlist, hport, hmedia, hshard⟩ := (commandReg_rest hr).1 h
  simp only [List.mem_cons, List.not_mem_nil, or_false, not_or] at hlist
  obtain ⟨h1, h2, h3, h4⟩ := hlist
  unfold State.chipCommand
  rw [if_neg h1, if_neg h2, if_neg h3, if_neg h4, if_neg hport, if_neg (by omega), if_neg (by omega), if_neg hshard]

/-- A register that commands nothing has no indication of its own for a refused write. -/
theorem State.regRefused_of_not_command {o : Nat} (s : State) (h : commandReg o = false) : s.regRefused o = s.refusedWrite := by
  unfold State.regRefused
  by_cases hr : 0x10000000 ≤ o ∧ o < 0x10900000
  · rw [commandReg_core hr] at h
    rw [if_neg (by omega), if_pos hr]
    unfold State.coreRefused
    split <;> simp_all [coreCommands]
  · obtain ⟨hlist, -, hmedia, hshard⟩ := (commandReg_rest hr).1 h
    simp only [List.mem_cons, List.not_mem_nil, or_false, not_or] at hlist
    obtain ⟨-, -, hsync, -⟩ := hlist
    rw [if_neg hsync, if_neg hr, if_neg (by omega), if_neg hshard]

/-! ### What a write stores -/

/-- The value of a register after a write of `v` that is neither refused nor a command. -/
def regStored (r : RegSpec) (old v : Nat) : Nat := old - (old &&& r.rw) - (old &&& r.w1c &&& v) ||| v &&& r.rw

theorem testBit_sub_and (a m i : Nat) : (a - (a &&& m)).testBit i = (a.testBit i && !m.testBit i) := by
  induction i generalizing a m with
  | zero =>
    have h := @Nat.and_mod_two_eq_one a m
    have hle : a &&& m ≤ a := Nat.and_le_left
    rw [Bool.eq_iff_iff]
    simp only [Nat.testBit_zero, Bool.and_eq_true, Bool.not_eq_true', decide_eq_true_eq, decide_eq_false_iff_not]
    omega
  | succ i ih =>
    have hdiv : (a &&& m) / 2 = a / 2 &&& m / 2 := Nat.and_div_two
    have hle : a / 2 &&& m / 2 ≤ a / 2 := Nat.and_le_left
    have hmod : (a &&& m) % 2 ≤ a % 2 := by
      have := @Nat.and_mod_two_eq_one a m
      omega
    have : (a - (a &&& m)) / 2 = a / 2 - (a / 2 &&& m / 2) := by omega
    simp only [Nat.testBit_succ, this, ih]

theorem testBit_regStored {r : RegSpec} (hdisj : ∀ i, r.w1c.testBit i = true → r.rw.testBit i = false) (old v i : Nat) :
    (regStored r old v).testBit i =
      if r.rw.testBit i then v.testBit i else old.testBit i && !(r.w1c.testBit i && v.testBit i) := by
  have hw1c : old &&& r.w1c &&& v = (old - (old &&& r.rw)) &&& (r.w1c &&& v) := by
    refine Nat.eq_of_testBit_eq fun j => ?_
    have := hdisj j
    simp only [Nat.testBit_and, testBit_sub_and]
    cases hj : r.w1c.testBit j <;> simp_all
  have := hdisj i
  rw [regStored, hw1c, Nat.testBit_or, testBit_sub_and, testBit_sub_and, Nat.testBit_and, Nat.testBit_and]
  cases hi : r.rw.testBit i <;> simp_all

section
variable {o : Nat} {r : RegSpec} (h : regSpec o = some r)
include h

theorem State.regWrite_refused (s : State) (who : Option Nat) {v : Nat} (hv : v &&& r.rsvd ≠ 0) :
    s.regWrite who o v = s.regRefused o := by
  simp [State.regWrite, h, hv]

theorem State.regWrite_stored (s : State) (who : Option Nat) {v : Nat} (hcmd : commandReg o = false) (hv : v &&& r.rsvd = 0) :
    s.regWrite who o v = s.setReg o (BitVec.ofNat 64 (regStored r (s.reg o).toNat v)) := by
  have hnone : (if 0x10000000 ≤ o ∧ o < 0x10900000 then s.coreCommand ((o - 0x10000000) / 0x10000) (o % 0x10000) v
      else s.chipCommand who o v) = none := by
    split
    · next hr =>
      rw [commandReg_core hr] at hcmd
      exact coreCommand_eq_none s _ v (by simpa using hcmd)
    · next hr => exact chipCommand_eq_none s who v hr hcmd
  simp [State.regWrite, h, hv, hnone, regStored]

/-- The bits of a register after a write that is neither refused nor a command. -/
theorem State.getLsbD_regStored (s : State) (v : Nat) {i : Nat} (hi : i < 64) :
    (BitVec.ofNat 64 (regStored r (s.reg o).toNat v)).getLsbD i =
      if r.rw.testBit i then v.testBit i else (s.reg o).getLsbD i && !(r.w1c.testBit i && v.testBit i) := by
  rw [BitVec.getLsbD_ofNat, testBit_regStored fun _ => rw_of_w1c h, BitVec.testBit_toNat, decide_eq_true hi, Bool.true_and]

/-- A write of the bytes of a register through the window is a write of the register. -/
theorem State.winWrite_eq_regWrite (s : State) (who : Option Nat) (hsize : r.size = 4 ∨ r.size = 8) (v : Nat)
    (hv : v < 2 ^ (8 * r.size)) : (s.winWrite who o (leBytes r.size v)).1 = s.regWrite who o v := by
  have hnat : leNat (leBytes r.size v) = v := by rw [leNat_leBytes, Nat.mod_eq_of_lt hv]
  have hmail := regSpec_not_mail h
  unfold State.winWrite
  simp only [hnat, regSpec_not_obj h, length_leBytes, h]
  rw [if_neg (by simp), if_neg (by omega), if_neg (by omega)]
  obtain hs | hs := hsize
  · rw [if_neg (by omega)]
    simp only [State.regWrite4, h]
    cases regSpec (o / 8 * 8) with
    | none => rfl
    | some r8 => exact if_pos hs
  · simp [hs]

/-- A command REGISTER_WRITE to a live register is a write of the register. -/
theorem exec_registerWrite (s : State) (hsize : r.size = 4 ∨ r.size = 8) (hal : o % r.size = 0) {v : Nat}
    (hv : v < 2 ^ (8 * r.size)) (hlive : s.regsLive = true) :
    exec (.registerWrite o r.size (BitVec.ofNat 64 v)) s = .next (s.regWrite none o v) := by
  have h4 : o / 4 * 4 = o := by obtain hs | hs := hsize <;> rw [hs] at hal <;> omega
  have hat : (regAt o).isSome = true := by simp [regAt, h4, h]
  have hreg : isReg o r.size = true := by simp [isReg, winOk, hsize, hal, hat]
  have h64 : v % 2 ^ 64 = v := Nat.mod_eq_of_lt (hv.trans_le (Nat.pow_le_pow_right (by decide) (by omega)))
  have hexec : exec (.registerWrite o r.size (BitVec.ofNat 64 v)) s = execRegisterWrite o r.size (BitVec.ofNat 64 v) s := rfl
  rw [hexec, execRegisterWrite, hreg, ifUnit_true, if_pos hlive, BitVec.toNat_ofNat, h64, State.winWrite_eq_regWrite h s none hsize v hv]

end
end Sys2Proof.Machine
end

section
/-! SUPPORT. Refused writes: the registers they raise or leave, and that they touch nothing but registers (R639). -/

namespace Sys2Proof.Machine

/-! ### Updates of registers alone -/

/-- The states differ in their registers at most. -/
def State.RegsOnly (s t : State) : Prop := { t with regs := s.regs } = s

theorem State.RegsOnly.refl (s : State) : s.RegsOnly s := rfl

theorem State.RegsOnly.trans {s t u : State} (h : s.RegsOnly t) (k : t.RegsOnly u) : s.RegsOnly u := by
  unfold State.RegsOnly at *
  rw [← k] at h
  exact h

theorem State.setReg_regsOnly (s : State) (o : Nat) (v : W64) : s.RegsOnly (s.setReg o v) := rfl

theorem State.bump_regsOnly (s : State) (o n : Nat) : s.RegsOnly (s.bump o n) := rfl

theorem State.setFlag_regsOnly (s : State) (o b : Nat) : s.RegsOnly (s.setFlag o b) := rfl

theorem State.bumpSeen_regsOnly (s : State) (c o b : Nat) : s.RegsOnly (s.bumpSeen c o b) := rfl

theorem State.coreRefused_regsOnly (s : State) (core o : Nat) : s.RegsOnly (s.coreRefused core o) := by
  unfold State.coreRefused
  split
  · exact s.setReg_regsOnly _ _
  · exact s.bumpSeen_regsOnly _ _ _
  · exact (s.setReg_regsOnly _ _).trans (State.bumpSeen_regsOnly _ _ _ _)
  · exact s.setFlag_regsOnly _ _
  · exact (s.setReg_regsOnly _ _).trans (State.setReg_regsOnly _ _ _)
  · exact .refl s

theorem State.faultRec_regsOnly (s : State) (status bit o : Nat) (v : W64) : s.RegsOnly (s.faultRec status bit [(o, v)]) := by
  unfold State.faultRec
  refine State.RegsOnly.trans ?_ (State.setFlag_regsOnly _ _ _)
  split
  · exact .refl s
  · exact s.setReg_regsOnly o v

theorem State.regRefused_regsOnly (s : State) (o : Nat) : s.RegsOnly (s.regRefused o) := by
  refine (s.bump_regsOnly 0x650 1).trans ?_
  unfold State.regRefused
  dsimp only
  split
  · exact State.faultRec_regsOnly _ _ _ _ _
  split
  · exact State.coreRefused_regsOnly _ _ _
  split
  · exact State.bumpSeen_regsOnly _ _ _ _
  split
  · exact State.setReg_regsOnly _ _ _
  · exact .refl _

/-! ### The registers of a refused write -/

theorem State.reg_refusedWrite (s : State) {k : Nat} (hk : k ≠ 0x650) : s.refusedWrite.reg k = s.reg k := State.reg_bump_ne s _ _ _ hk

theorem State.reg_refusedWrite_count (s : State) : s.refusedWrite.reg 0x650 = s.reg 0x650 + 1 := State.reg_bump_self s _ _

/-- The registers of a core's control block that show a refused command. -/
def coreIndications : List Nat := [0x1004, 0x1038, 0x3018, 0x3020, 0x7000, 0x7120, 0x7128]

theorem coreIndications_command_nothing : ∀ x ∈ coreIndications, x < 0x10000 ∧ coreCommands.contains x = false := by decide

theorem State.reg_coreRefused (s : State) (core o k : Nat) (hk : ∀ x ∈ coreIndications, k ≠ coreOff core x) :
    (s.coreRefused core o).reg k = s.reg k := by
  simp only [coreIndications, List.mem_cons, List.not_mem_nil, or_false, forall_eq_or_imp, forall_eq] at hk
  unfold State.coreRefused State.bumpSeen State.setSwLast State.bump State.setFlag
  split <;> simp [State.reg_setReg, hk]

/-- No indication of a refused write stands in the register written or in the status counter of RESERVED_NONZERO. -/
theorem State.reg_regRefused (s : State) (o k : Nat) (hk : k = o ∨ k = 0x650) : (s.regRefused o).reg k = s.refusedWrite.reg k := by
  by_cases hcmd : commandReg o = false
  · rw [s.regRefused_of_not_command hcmd]
  unfold State.regRefused
  dsimp only
  split
  · unfold State.faultRec State.setFlag
    have h1 : k ≠ 0x3004 := by omega
    have h2 : k ≠ 0x3038 := by omega
    split <;> simp [State.reg_setReg, h1, h2]
  split
  · next hr =>
    rw [commandReg_core hr] at hcmd
    refine State.reg_coreRefused _ _ _ _ fun x hx e => hcmd ?_
    obtain ⟨hlt, hx⟩ := coreIndications_command_nothing x hx
    have hmod : o % 0x10000 = x := by unfold coreOff at e; omega
    rwa [hmod]
  split
  · unfold State.bumpSeen State.bump State.setFlag
    have h1 : k ≠ o + 0x60 := by omega
    have h2 : k ≠ o - 0x10 := by omega
    simp [State.reg_setReg, h1, h2]
  split
  · exact State.reg_setReg_ne _ _ _ _ (by omega)
  · rfl

theorem regRefused_coreOff (s : State) {core x : Nat} (hc : isCore core = true) (hx : x < 0x10000) :
    s.regRefused (coreOff core x) = s.refusedWrite.coreRefused core x := by
  have hc' : core < 144 := of_decide_eq_true hc
  have hdiv : (coreOff core x - 0x10000000) / 0x10000 = core := by unfold coreOff; omega
  have hmod : coreOff core x % 0x10000 = x := by unfold coreOff; omega
  unfold State.regRefused
  rw [if_neg (by unfold coreOff; omega), if_pos (by unfold coreOff; omega), hdiv, hmod]

/-- Bits [15:0] of a register after they were replaced. -/
theorem bits_setBits_low (x : W64) (v : Nat) (hv : v < 2 ^ 16) : bits (BitVec.ofNat 64 (setBits x.toNat 15 0 v)).toNat 15 0 = v := by
  simp only [bits, setBits, BitVec.toNat_ofNat, Nat.shiftRight_zero, Nat.shiftLeft_zero]
  omega

end Sys2Proof.Machine
end

section
/-! SUPPORT. W1C bits set and cleared in one cycle: the register that goes with each bit, and what the hardware's sets leave (R13). -/

namespace Sys2Proof.Machine

/-! ### The counter registers of the W1C bits -/

/-- A block's map from the bits of the register at `k` to counters: no counter is that register, no two bits share one. -/
def CountersApart (f : Nat → Option Nat) (k : Nat) : Prop :=
  ∀ i < 32, f i ≠ some k ∧ ∀ j < 32, f i = f j → f i = none ∨ i = j

theorem chip_countersApart : ∀ e ∈ chipRegs ++ chipRegs2, e.2.w1c ≠ 0 → CountersApart (seenChip e.1) e.1 := by
  unfold CountersApart; decide +kernel

theorem core_countersApart : ∀ e ∈ coreRegs, e.2.w1c ≠ 0 → CountersApart (seenCore e.1) e.1 := by
  unfold CountersApart; decide +kernel

theorem unit_countersApart : ∀ kind ∈ [0, 1, 2, 3], CountersApart (seenUnit kind) 0 := by
  unfold CountersApart; decide +kernel

theorem CountersApart.map {f : Nat → Option Nat} {k : Nat} (h : CountersApart f k) (b : Nat) :
    CountersApart (fun i => (f i).map (b + ·)) (b + k) := by
  intro i hi
  obtain ⟨hk, hinj⟩ := h i hi
  refine ⟨by simpa using hk, fun j hj e => ?_⟩
  have hf : Function.Injective (Option.map (b + ·)) := Option.map_injective (add_right_injective b)
  simpa using hinj j hj (hf e)

/-- No two W1C bits of a register share a counter, and no such counter is the register itself. -/
theorem seenCounter_apart {o : Nat} {r : RegSpec} (h : regSpec o = some r) (hw : r.w1c ≠ 0) : CountersApart (seenCounter o) o := by
  have hunit : ∀ k, (k, r) ∈ stackRegs ++ portRegs ++ mediaRegs ++ shardRegs → k = 0 := fun k hk => unitTables_w1c _ hk hw
  simp only [List.mem_append] at hunit
  cases inBlock_of_regSpec h with
  | chip hlt hs hp hmem =>
    have e : seenCounter o = seenChip o := by funext i; simp only [seenCounter, if_pos hlt, if_neg hs, if_neg hp]
    exact e ▸ chip_countersApart _ hmem hw
  | stack hr hmem =>
    have e : seenCounter o = fun i => (seenUnit 0 i).map (o + ·) := by
      funext i; rw [seenCounter, if_pos (by omega), if_pos hr]
    exact e ▸ (unit_countersApart 0 (by decide)).map o
  | port hr hmem =>
    have e : seenCounter o = fun i => (seenUnit 1 i).map (o + ·) := by
      funext i; rw [seenCounter, if_pos (by omega), if_neg (by omega), if_pos hr]
    exact e ▸ (unit_countersApart 1 (by decide)).map o
  | core hr hmem =>
    have e : seenCounter o = fun i => (seenCore (o % 0x10000) i).map (o - o % 0x10000 + ·) := by
      funext i; rw [seenCounter, if_neg (by omega), if_neg (by omega), if_neg (by omega)]
    have := (core_countersApart _ hmem hw).map (o - o % 0x10000)
    rwa [Nat.sub_add_cancel (Nat.mod_le _ _), ← e] at this
  | media hr hmem =>
    have e : seenCounter o = fun i => (seenUnit 2 i).map (o + ·) := by
      funext i; rw [seenCounter, if_neg (by omega), if_pos (by omega)]
    exact e ▸ (unit_countersApart 2 (by decide)).map o
  | shard hr hmem =>
    have e : seenCounter o = fun i => (seenUnit 3 i).map (o + ·) := by
      funext i; rw [seenCounter, if_neg (by omega), if_neg (by omega), if_pos (by omega)]
    exact e ▸ (unit_countersApart 3 (by decide)).map o

theorem seenChip_not_status {o i c : Nat} (h : seenChip o i = some c) : c < 0x600 ∨ 0x880 ≤ c := by
  unfold seenChip at h
  split at h <;> simp at h <;> omega

/-- The counter of a W1C bit is no status counter. -/
theorem seenCounter_not_status {o i c : Nat} (h : seenCounter o i = some c) : c < 0x600 ∨ 0x880 ≤ c := by
  unfold seenCounter at h
  split at h
  · split at h
    · obtain ⟨a, -, rfl⟩ := Option.map_eq_some_iff.1 h; omega
    split at h
    · obtain ⟨a, -, rfl⟩ := Option.map_eq_some_iff.1 h; omega
    · exact seenChip_not_status h
  split at h
  · obtain ⟨a, -, rfl⟩ := Option.map_eq_some_iff.1 h; omega
  split at h
  · obtain ⟨a, -, rfl⟩ := Option.map_eq_some_iff.1 h; omega
  · obtain ⟨a, -, rfl⟩ := Option.map_eq_some_iff.1 h; omega

theorem counterOff_range (st : Status) : 0x600 ≤ st.counterOff ∧ st.counterOff < 0x880 := by
  cases st <;> decide

/-! ### The register that a set raises -/

/-- Is bit `b` the `MAINT_ERR` bit of a core (R264)? -/
def isMaintErr (o b : Nat) : Bool := decide (0x10000000 ≤ o ∧ o < 0x10900000 ∧ o % 0x10000 = 0x7000 ∧ b = 4)

/-- The register that `State.seenBump` raises, if it raises one. -/
def seenReg (o b : Nat) (st : Status) : Option Nat :=
  match seenCounter o b with
  | some c => some c
  | none =>
    if seenFault o b then (if st = .ok then none else some st.counterOff)
    else if isMaintErr o b then some 0x650 else none

theorem State.reg_count (s : State) (st : Status) (k : Nat) :
    (s.count st).reg k = if st ≠ .ok ∧ k = st.counterOff then s.reg k + 1 else s.reg k := by
  unfold State.count
  split
  · next h => simp [h]
  · next h =>
    by_cases hk : k = st.counterOff
    · subst hk; simp [h]
    · simp [hk, State.reg_bump_ne]

theorem State.reg_seenBump (s : State) (o b : Nat) (st : Status) (pool k : Nat) :
    (s.seenBump o b st pool).reg k = if seenReg o b st = some k then s.reg k + 1 else s.reg k := by
  unfold State.seenBump seenReg
  cases seenCounter o b with
  | some c =>
    by_cases hk : k = c
    · subst hk; simp
    · simp [hk, State.reg_bump_ne, Ne.symm hk]
  | none =>
    dsimp only
    by_cases hf : seenFault o b = true
    · rw [if_pos hf, if_pos hf, State.reg_count]
      by_cases hst : st = .ok <;> simp [hst, eq_comm]
    rw [if_neg hf, if_neg hf]
    by_cases hm : isMaintErr o b = true
    · have hrange : 0x10000000 ≤ o ∧ o < 0x10900000 ∧ o % 0x10000 = 0x7000 ∧ b = 4 := of_decide_eq_true hm
      rw [if_pos hm, if_neg (by omega), if_neg (by omega), if_neg (by omega), if_pos hrange, State.reg_count]
      simp [Status.counterOff, Status.code, eq_comm]
    · have hrange : ¬(0x10000000 ≤ o ∧ o < 0x10900000 ∧ o % 0x10000 = 0x7000 ∧ b = 4) := of_decide_eq_false (eq_false_of_ne_true hm)
      rw [if_neg hm, if_neg hrange]
      simp only [reduceCtorEq, if_false]
      split
      · rfl
      split
      · rfl
      split <;> rfl

theorem seenReg_of_counter {o b c : Nat} (st : Status) (h : seenCounter o b = some c) : seenReg o b st = some c := by
  simp [seenReg, h]

theorem seenReg_of_fault {o b : Nat} {st : Status} (h : seenCounter o b = none) (hf : seenFault o b = true) (hst : st ≠ .ok) :
    seenReg o b st = some st.counterOff := by
  simp [seenReg, h, hf, hst]

/-- A set raises the counter of its bit, or a status counter where the bit is a fault bit or `MAINT_ERR`. -/
theorem seenReg_cases {o b k : Nat} {st : Status} (h : seenReg o b st = some k) :
    seenCounter o b = some k ∨ ((0x600 ≤ k ∧ k < 0x880) ∧ (seenFault o b = true ∨ isMaintErr o b = true)) := by
  unfold seenReg at h
  split at h
  · next hc => exact .inl (hc.trans h)
  split at h
  · next hf =>
    split at h
    · cases h
    · cases h; exact .inr ⟨counterOff_range st, .inl hf⟩
  split at h
  · next hm => cases h; exact .inr ⟨by omega, .inr hm⟩
  · cases h

/-- The fault bits: of the chip's blocks, of the media and shard code engines, and of a core's engines. -/
theorem seenFault_cases {o b : Nat} (h : seenFault o b = true) :
    (o = 0x3004 ∧ b = 5) ∨ (o = 0xB000 ∧ b = 1) ∨ (0x20000000 ≤ o ∧ b = 2) ∨ ((0x10000 ≤ o ∧ o < 0x20000000) ∧
      (o % 0x10000, b) ∈ [(0x2000, 1), (0x2100, 1), (0x4000, 3), (0x5000, 3), (0x6000, 2), (0x8000, 1)]) := by
  unfold seenFault at h
  split at h
  · have := of_decide_eq_true h; omega
  split at h
  · have := of_decide_eq_true h; omega
  refine .inr (.inr (.inr ⟨by omega, ?_⟩))
  split at h
  · next e => simp [e]
  · next e => simp [e]
  · next e => simp [e]
  · next e => simp [e]
  · next e => simp [e]
  · next e => simp [e]
  · cases h

/-- At most one bit of a register is counted under a status code. -/
theorem statusBit_unique {o i j : Nat} (hi : seenFault o i = true ∨ isMaintErr o i = true)
    (hj : seenFault o j = true ∨ isMaintErr o j = true) : i = j := by
  have hcases : ∀ b, seenFault o b = true ∨ isMaintErr o b = true → _ := fun b h => h.imp seenFault_cases of_decide_eq_true
  have hi := hcases i hi
  have hj := hcases j hj
  simp only [List.mem_cons, Prod.mk.injEq, List.not_mem_nil, or_false] at hi hj
  omega

section
variable {o : Nat} {r : RegSpec} (h : regSpec o = some r) (st : Status)
include h

/-- A register with W1C bits is no status counter. -/
theorem w1c_not_status (hw : r.w1c ≠ 0) : o < 0x600 ∨ 0x880 ≤ o := by
  cases inBlock_of_regSpec h with
  | chip _ _ _ hmem => exact chipTables_not_status _ hmem (chipTables_w1c_rsvd _ hmem hw)
  | stack | port | core | media | shard => omega

theorem seenReg_ne_self {i : Nat} (hi : r.w1c.testBit i = true) : seenReg o i st ≠ some o := by
  have hw : r.w1c ≠ 0 := ne_zero_of_testBit hi
  intro e
  obtain hc | ⟨hrange, -⟩ := seenReg_cases e
  · exact (seenCounter_apart h hw i (lt_of_w1c h hi)).1 hc
  · have := w1c_not_status h hw
    omega

/-- The sets of two W1C bits of a register raise different registers. -/
theorem seenReg_inj {i j k : Nat} (hi : r.w1c.testBit i = true) (hj : r.w1c.testBit j = true) (ei : seenReg o i st = some k)
    (ej : seenReg o j st = some k) : i = j := by
  have hw : r.w1c ≠ 0 := ne_zero_of_testBit hi
  obtain hci | ⟨hri, hsi⟩ := seenReg_cases ei
  · obtain hcj | ⟨hrj, -⟩ := seenReg_cases ej
    · have := (seenCounter_apart h hw i (lt_of_w1c h hi)).2 j (lt_of_w1c h hj) (hci.trans hcj.symm)
      simpa [hci] using this
    · have := seenCounter_not_status hci
      omega
  · obtain hcj | ⟨-, hsj⟩ := seenReg_cases ej
    · have := seenCounter_not_status hcj
      omega
    · exact statusBit_unique hsi hsj

end

/-! ### The hardware's sets -/

/-- What the hardware's set of bit `i`, if it sets it, makes of a state. -/
def State.hwStep (o w1c : Nat) (hw : HwSets) (t : State) (i : Nat) : State :=
  if w1c.testBit i = true ∧ hw.bits.getLsbD i = true then (t.setFlag o i).seenBump o i hw.st hw.pool else t

theorem State.hwSet_eq_foldl (s : State) (o w1c : Nat) (hw : HwSets) :
    s.hwSet o w1c hw = (List.range 32).foldl (State.hwStep o w1c hw) s := by
  simp only [State.hwSet, bitAt, Nat.testBit_and, BitVec.testBit_toNat, Bool.and_eq_true]
  rfl

theorem State.flag_setFlag (s : State) (o b i : Nat) (hi : i < 64) : (s.setFlag o b).flag o i = (s.flag o i || decide (i = b)) := by
  by_cases hb : i = b
  · subst hb; simp [State.flag, State.setFlag, hi]
  · have : i < b ∨ i - b ≠ 0 := by omega
    simp [State.flag, State.setFlag, hi, hb]
    omega

theorem foldl_unread {α β : Type} {f : State → α} {step : State → β → State} {l : List β}
    (hkeep : ∀ t, ∀ j ∈ l, f (step t j) = f t) (s : State) : f (l.foldl step s) = f s := by
  induction l generalizing s with
  | nil => rfl
  | cons e rest ih =>
    rw [List.foldl_cons, ih fun t j hj => hkeep t j (List.mem_cons_of_mem e hj)]
    exact hkeep s e List.mem_cons_self

/-- What one element of a list of updates alone changes, the whole list changes once. -/
theorem foldl_read_once {α β : Type} {f : State → α} {g : α → α} {step : State → β → State} {l : List β} {i : β} (hi : i ∈ l)
    (hn : l.Nodup) (hkeep : ∀ t, ∀ j ∈ l, j ≠ i → f (step t j) = f t) (hread : ∀ t, f (step t i) = g (f t)) (s : State) :
    f (l.foldl step s) = g (f s) := by
  obtain ⟨l₁, l₂, rfl⟩ := List.append_of_mem hi
  obtain ⟨h₁, h₂⟩ : i ∉ l₁ ∧ i ∉ l₂ := by
    have := List.nodup_middle.1 hn
    simpa [not_or] using (List.nodup_cons.1 this).1
  rw [List.foldl_append, List.foldl_cons, foldl_unread fun t j hj => hkeep t j (by simp [hj]) (by rintro rfl; exact h₂ hj), hread,
    foldl_unread fun t j hj => hkeep t j (by simp [hj]) (by rintro rfl; exact h₁ hj)]

section
variable {o : Nat} {r : RegSpec} (h : regSpec o = some r) (hw : HwSets)
include h

/-- A register that bit `i` raises when the hardware sets it rises by 1, whatever else is set. -/
theorem State.reg_hwSet (s : State) {i k : Nat} (hi : r.w1c.testBit i = true) (hset : hw.bits.getLsbD i = true)
    (hk : seenReg o i hw.st = some k) : (s.hwSet o r.w1c hw).reg k = s.reg k + 1 := by
  have hko : k ≠ o := by rintro rfl; exact seenReg_ne_self h hw.st hi hk
  rw [State.hwSet_eq_foldl]
  refine foldl_read_once (f := fun t => t.reg k) (g := (· + 1)) (List.mem_range.2 (lt_of_w1c h hi)) List.nodup_range
    (fun t j _ hj => ?_) (fun t => ?_) s
  · rw [State.hwStep]
    split
    · next hb =>
      have hne : seenReg o j hw.st ≠ some k := fun e => hj (seenReg_inj h hw.st hb.1 hi e hk)
      rw [State.reg_seenBump, if_neg hne, State.reg_setFlag_ne _ _ _ _ hko]
    · rfl
  · rw [State.hwStep, if_pos ⟨hi, hset⟩, State.reg_seenBump, if_pos hk, State.reg_setFlag_ne _ _ _ _ hko]

/-- A W1C bit after the hardware's sets: the set wins, and a bit not set stays. -/
theorem State.flag_hwSet (s : State) {i : Nat} (hi : r.w1c.testBit i = true) :
    (s.hwSet o r.w1c hw).flag o i = (s.flag o i || hw.bits.getLsbD i) := by
  have hlt := lt_of_w1c h hi
  have hstep : ∀ t j, (State.hwStep o r.w1c hw t j).flag o i = (t.flag o i || (hw.bits.getLsbD i && decide (i = j))) := by
    intro t j
    rw [State.hwStep]
    split
    · next hb =>
      have hread : ((t.setFlag o j).seenBump o j hw.st hw.pool).flag o i = (t.setFlag o j).flag o i := by
        rw [State.flag, State.reg_seenBump, if_neg (seenReg_ne_self h hw.st hb.1), State.flag]
      rw [hread, State.flag_setFlag _ _ _ _ (by omega)]
      by_cases hij : i = j
      · subst hij; simp [hb.2]
      · simp [hij]
    · next hb =>
      by_cases hij : i = j
      · subst hij; simp [hi] at hb; simp [hb]
      · simp [hij]
  rw [State.hwSet_eq_foldl]
  exact foldl_read_once (f := fun t => t.flag o i) (g := (· || hw.bits.getLsbD i)) (List.mem_range.2 hlt) List.nodup_range
    (fun t j _ hj => by simp [hstep t j, Ne.symm hj]) (fun t => by simp [hstep t i]) s

end
end Sys2Proof.Machine
end

section
/-! SUPPORT. Register writes and W1C clears as commands, and O9. -/

namespace Sys2Proof.Machine

/-! ### The indications of a refused write to a core -/

/-- Setting bit 16 leaves bits [15:0]. -/
theorem bits_or_flag (x : W64) : bits (x ||| (1#64 <<< 16)).toNat 15 0 = bits x.toNat 15 0 := by
  have hone : (1#64 <<< 16).toNat = 2 ^ 16 := rfl
  refine Nat.eq_of_testBit_eq fun j => ?_
  simp only [bits, Nat.shiftRight_zero, Nat.testBit_mod_two_pow, BitVec.toNat_or, Nat.testBit_or, hone, Nat.testBit_two_pow]
  by_cases hj : j < 16
  · simp [show ¬16 = j by omega]
  · simp [hj]

section
variable (s : State) {core : Nat} (hc : isCore core = true)
include hc

/-- A refused doorbell sets `DB_ERR` and counts in `Q_DB_ERRS`. -/
theorem refused_doorbell : (s.regRefused (coreOff core 0x1010)).flag (coreOff core 0x1004) 16 = true ∧
    (s.regRefused (coreOff core 0x1010)).reg (coreOff core 0x1038) = s.reg (coreOff core 0x1038) + 1 := by
  have e : s.regRefused (coreOff core 0x1010) = s.refusedWrite.bumpSeen (coreOff core 0x1038) (coreOff core 0x1004) 16 :=
    regRefused_coreOff s hc (by decide)
  rw [e]
  refine ⟨State.flag_setFlag_self _ _ _ (by decide), ?_⟩
  rw [State.bumpSeen, State.reg_setFlag_ne _ _ _ _ (by unfold coreOff; omega), State.reg_bump_self,
    State.reg_refusedWrite _ (by unfold coreOff; omega)]
  rfl

/-- A refused queue command leaves RESERVED_NONZERO in `Q_CMD_STATUS`. -/
theorem refused_queueCommand : bits ((s.regRefused (coreOff core 0x1000)).reg (coreOff core 0x1004)).toNat 15 0 = 0x0102 := by
  have e : s.regRefused (coreOff core 0x1000) = s.refusedWrite.setReg (coreOff core 0x1004) _ := regRefused_coreOff s hc (by decide)
  rw [e, State.reg_setReg_self]
  exact bits_setBits_low _ _ (by decide)

/-- A refused atomic command leaves RESERVED_NONZERO in `AMO_STATUS` and 0 in `AMO_RESULT`. -/
theorem refused_amo : (s.regRefused (coreOff core 0x7118)).reg (coreOff core 0x7128) = 0x0102 ∧
    (s.regRefused (coreOff core 0x7118)).reg (coreOff core 0x7120) = 0 := by
  have e : s.regRefused (coreOff core 0x7118) = (s.refusedWrite.setReg (coreOff core 0x7128) 0x0102).setReg (coreOff core 0x7120) 0 :=
    regRefused_coreOff s hc (by decide)
  rw [e]
  exact ⟨by rw [State.reg_setReg_ne _ _ _ _ (by unfold coreOff; omega), State.reg_setReg_self], State.reg_setReg_self _ _ _⟩

/-- A refused cache command sets `MAINT_ERR`. -/
theorem refused_maint : (s.regRefused (coreOff core 0x7090)).flag (coreOff core 0x7000) 4 = true := by
  have e : s.regRefused (coreOff core 0x7090) = s.refusedWrite.setFlag (coreOff core 0x7000) 4 := regRefused_coreOff s hc (by decide)
  rw [e]
  exact State.flag_setFlag_self _ _ _ (by decide)

/-- A refused `SW_CMD` leaves RESERVED_NONZERO in `SW_LAST` and sets `SW_ERR`. -/
theorem refused_swCommand : bits ((s.regRefused (coreOff core 0x3000)).reg (coreOff core 0x3018)).toNat 15 0 = 0x0102 ∧
    (s.regRefused (coreOff core 0x3000)).flag (coreOff core 0x3018) 16 = true := by
  have e : s.regRefused (coreOff core 0x3000) =
      (s.refusedWrite.setSwLast core .reservedNonzero).bumpSeen (coreOff core 0x3020) (coreOff core 0x3018) 16 :=
    regRefused_coreOff s hc (by decide)
  rw [e]
  refine ⟨?_, State.flag_setFlag_self _ _ _ (by decide)⟩
  rw [State.bumpSeen, State.setFlag, State.reg_setReg_self, State.reg_bump_ne _ _ _ _ (by unfold coreOff; omega), bits_or_flag,
    State.setSwLast, State.reg_setReg_self]
  exact bits_setBits_low _ _ (by decide)

end

/-! ### The two commands -/

/-- A live register that commands nothing, written with its reserved bits 0. -/
theorem registerWrite_stores {o : Nat} {r : RegSpec} (h : regSpec o = some r) (s : State) {v : Nat} (hcmd : commandReg o = false)
    (hv : v &&& r.rsvd = 0) :
    (∀ i, i < 64 → ((s.regWrite none o v).reg o).getLsbD i =
      if r.rw.testBit i then v.testBit i else (s.reg o).getLsbD i && !(r.w1c.testBit i && v.testBit i)) ∧
    (∀ k, k ≠ o → (s.regWrite none o v).reg k = s.reg k) ∧ s.RegsOnly (s.regWrite none o v) := by
  rw [State.regWrite_stored h s none hcmd hv]
  refine ⟨fun i hi => ?_, fun k hk => State.reg_setReg_ne _ _ _ _ hk, s.setReg_regsOnly _ _⟩
  rw [State.reg_setReg_self, State.getLsbD_regStored h s v hi]

/-- A register write that sets a reserved bit leaves its register and counts under RESERVED_NONZERO. -/
theorem registerWrite_refuses {o : Nat} {r : RegSpec} (h : regSpec o = some r) (s : State) (hr : r.rsvd ≠ 0) :
    (s.regRefused o).reg o = s.reg o ∧ (s.regRefused o).reg 0x650 = s.reg 0x650 + 1 ∧ s.RegsOnly (s.regRefused o) := by
  have hne := regSpec_not_status h hr
  refine ⟨?_, ?_, s.regRefused_regsOnly o⟩
  · rw [s.reg_regRefused o o (.inl rfl), State.reg_refusedWrite _ (by omega)]
  · rw [s.reg_regRefused o 0x650 (.inr rfl), State.reg_refusedWrite_count]

section
variable {o : Nat} {r : RegSpec} (h : regSpec o = some r) {i : Nat} (hi : r.w1c.testBit i = true)
include h hi

theorem exec_w1cClear (s : State) (val : W64) (hw : HwSets) (hpool : hw.pool < 16) (hlive : s.regsLive = true) :
    exec (.w1cClear o val hw) s = .next ((s.regWrite none o (val.toNat % 2 ^ (8 * r.size))).hwSet o r.w1c hw) := by
  have hne : ¬(r.w1c = 0 ∨ 16 ≤ hw.pool) := not_or.2 ⟨ne_zero_of_testBit hi, by omega⟩
  have hexec : exec (.w1cClear o val hw) s = execW1cClear o val hw s := rfl
  rw [hexec]
  simp only [execW1cClear, h, if_neg hne, if_pos hlive]

/-- A write to a register with W1C bits leaves every other register but the count of refused writes. -/
theorem reg_regWrite_w1c (s : State) (v : Nat) {k : Nat} (hk : k ≠ o) (hcount : v &&& r.rsvd ≠ 0 → k ≠ 0x650) :
    (s.regWrite none o v).reg k = s.reg k := by
  have hcmd := commandReg_of_w1c h (ne_zero_of_testBit hi)
  by_cases hv : v &&& r.rsvd = 0
  · exact (registerWrite_stores h s hcmd hv).2.1 k hk
  · rw [State.regWrite_refused h s none hv, s.regRefused_of_not_command hcmd, State.reg_refusedWrite _ (hcount hv)]

/-- A W1C bit is 0 after a 1 was written to it. -/
theorem flag_regWrite_w1c (s : State) (val : W64) (hbit : val.getLsbD i = true) (hv : val.toNat % 2 ^ (8 * r.size) &&& r.rsvd = 0) :
    (s.regWrite none o (val.toNat % 2 ^ (8 * r.size))).flag o i = false := by
  have hcmd := commandReg_of_w1c h (ne_zero_of_testBit hi)
  have hlt := lt_of_w1c h hi
  have hsize : i < 8 * r.size := by rw [size_of_w1c h hi]; exact hlt
  rw [State.flag, (registerWrite_stores h s hcmd hv).1 i (by omega), rw_of_w1c h hi]
  simp [hi, hsize, Nat.testBit_mod_two_pow, BitVec.testBit_toNat, hbit]

end

/-- Settles O9: a write stores or is refused as `State.regWrite_stored` and `State.regWrite_refused` say, and the hardware's sets of a
cycle raise each bit's own register once (`State.reg_hwSet`, `State.flag_hwSet`). -/
theorem registerWrites : Obligations.RegisterWrites := by
  refine ⟨⟨?_, ?_⟩, ?_⟩
  · intro s off v r h hsize hal hcmd hlt hv hlive
    exact ⟨_, exec_registerWrite h s hsize hal hlt hlive, registerWrite_stores h s hcmd hv⟩
  · intro s off v r h hsize hal hlt hv hlive
    obtain ⟨hself, hcount, hrest⟩ := registerWrite_refuses h s (by rintro h0; simp [h0] at hv)
    refine ⟨_, (exec_registerWrite h s hsize hal hlt hlive).trans (congrArg _ (State.regWrite_refused h s none hv)), hself, hcount, hrest,
      ?_, ?_, ?_, ?_, ?_⟩
    · rintro core hc rfl; exact refused_doorbell s hc
    · rintro core hc rfl; exact refused_queueCommand s hc
    · rintro core hc rfl; exact refused_amo s hc
    · rintro core hc rfl; exact refused_maint s hc
    · rintro core hc rfl; exact refused_swCommand s hc
  · intro s off val hw r i h hi hpool hlive
    refine ⟨_, exec_w1cClear h hi s val hw hpool hlive, fun hset => ⟨?_, fun c hc => ?_, fun hf hc hst hv => ?_⟩, fun hset hbit hv => ?_⟩
    · rw [State.flag_hwSet h hw _ hi, hset, Bool.or_true]
    · have hk := seenReg_of_counter hw.st hc
      have hrange := seenCounter_not_status hc
      rw [State.reg_hwSet h hw _ hi hset hk, reg_regWrite_w1c h hi s _ (by rintro rfl; exact seenReg_ne_self h hw.st hi hk)
        (fun _ => by omega)]
    · have hk := seenReg_of_fault hc hf hst
      rw [State.reg_hwSet h hw _ hi hset hk, reg_regWrite_w1c h hi s _ (fun e => seenReg_ne_self h hw.st hi (hk.trans (congrArg some e)))
        (fun hne => absurd hv hne)]
    · rw [State.flag_hwSet h hw _ hi, flag_regWrite_w1c h hi s val hbit hv, hset, Bool.or_false]

end Sys2Proof.Machine
end

section
/-! SUPPORT. Fields of a register: what is read at a field after it or another one was replaced. -/

namespace Sys2Proof.Machine

/-- A field of `n` bits replaced leaves the bits above and below it in their places. -/
theorem setBits_eq (x v lo n : Nat) :
    setBits x (lo + n) lo v = 2 ^ lo * (2 ^ (n + 1) * (x / 2 ^ lo / 2 ^ (n + 1)) + v % 2 ^ (n + 1)) + x % 2 ^ lo := by
  have hx : 2 ^ lo * (x / 2 ^ lo) + x % 2 ^ lo = x := Nat.div_add_mod x _
  have hq : 2 ^ (n + 1) * (x / 2 ^ lo / 2 ^ (n + 1)) + x / 2 ^ lo % 2 ^ (n + 1) = x / 2 ^ lo := Nat.div_add_mod _ _
  have hn : lo + n + 1 - lo = n + 1 := by omega
  simp only [setBits, bits, hn, Nat.shiftRight_eq_div_pow, Nat.shiftLeft_eq]
  generalize x / 2 ^ lo / 2 ^ (n + 1) = a at *
  generalize x / 2 ^ lo % 2 ^ (n + 1) = m at *
  rw [← hq] at hx
  have : x - m * 2 ^ lo = 2 ^ lo * (2 ^ (n + 1) * a) + x % 2 ^ lo := by
    rw [Nat.mul_add, Nat.mul_comm (2 ^ lo) m] at hx
    omega
  rw [this, Nat.mul_add, Nat.mul_comm (2 ^ lo) (v % _)]
  omega

/-- The bits of a number after its bits [lo + n : lo] were replaced. -/
theorem testBit_setBits (x v lo n i : Nat) :
    (setBits x (lo + n) lo v).testBit i = if lo ≤ i ∧ i ≤ lo + n then v.testBit (i - lo) else x.testBit i := by
  rw [setBits_eq, Nat.testBit_two_pow_mul_add _ (Nat.mod_lt _ (Nat.two_pow_pos lo))]
  by_cases hlo : i < lo
  · rw [if_pos hlo, if_neg (by omega), Nat.testBit_mod_two_pow, decide_eq_true hlo, Bool.true_and]
  rw [if_neg hlo, Nat.testBit_two_pow_mul_add _ (Nat.mod_lt _ (Nat.two_pow_pos _))]
  by_cases hhi : i ≤ lo + n
  · rw [if_pos (by omega), if_pos (by omega), Nat.testBit_mod_two_pow, decide_eq_true (by omega : i - lo < n + 1), Bool.true_and]
  · rw [if_neg (by omega), if_neg (by omega), Nat.testBit_div_two_pow, Nat.testBit_div_two_pow]
    congr 1
    omega

end Sys2Proof.Machine
end

section
/-! SUPPORT. `FT_STATUS`, the fabric-time commands, and O43 (R44, R45, R450, R451). -/

namespace Sys2Proof.Machine

/-! ### Registers where only the fabric differs -/

theorem State.reg_withFab (s : State) (f : FabSt) (o : Nat) : ({ s with fab := f } : State).reg o = s.reg o := rfl

theorem State.flag_withFab (s : State) (f : FabSt) (o i : Nat) : ({ s with fab := f } : State).flag o i = s.flag o i := rfl

theorem State.errBound_withFab (s : State) (f : FabSt) : ({ s with fab := f } : State).errBound = s.errBound := rfl

/-! ### FT_STATUS -/

/-- The bits of `FT_STATUS` after `HOLDOVER` and `ERR_BOUND` were written. -/
theorem State.getLsbD_setHoldover (s : State) (h : Bool) (err : Nat) {i : Nat} (hi : i < 64) :
    ((s.setHoldover h err).reg 0x108).getLsbD i =
      if i = 1 then h else if 16 ≤ i ∧ i ≤ 31 then (min err 0xFFFF).testBit (i - 16) else (s.reg 0x108).getLsbD i := by
  rw [State.setHoldover, State.reg_setReg_self, BitVec.getLsbD_ofNat, decide_eq_true hi, Bool.true_and]
  rw [show setBits _ 1 1 _ = setBits (setBits (s.reg 0x108).toNat (16 + 15) 16 (min err 0xFFFF)) (1 + 0) 1 (b2n h) from rfl,
    testBit_setBits, testBit_setBits]
  by_cases h1 : i = 1
  · subst h1
    cases h <;> rfl
  · rw [if_neg (by omega), if_neg h1, BitVec.testBit_toNat]

/-- `HOLDOVER` after it was written. -/
theorem State.holdover_setHoldover (s : State) (h : Bool) (err : Nat) : (s.setHoldover h err).flag 0x108 1 = h :=
  (s.getLsbD_setHoldover h err (by decide)).trans (if_pos rfl)

/-- The flags of `FT_STATUS` beside `HOLDOVER` stay. -/
theorem State.flag_setHoldover (s : State) (h : Bool) (err : Nat) {i : Nat} (hi : i < 16) (h1 : i ≠ 1) :
    (s.setHoldover h err).flag 0x108 i = s.flag 0x108 i := by
  rw [State.flag, s.getLsbD_setHoldover h err (by omega), if_neg h1, if_neg (by omega), State.flag]

/-- `ERR_BOUND` after it was written: at most what its 16 bits hold. -/
theorem State.errBound_setHoldover (s : State) (h : Bool) (err : Nat) : (s.setHoldover h err).errBound = min err 0xFFFF := by
  refine Nat.eq_of_testBit_eq fun j => ?_
  rw [State.errBound, bits, Nat.testBit_mod_two_pow, Nat.testBit_shiftRight, BitVec.testBit_toNat]
  by_cases hj : j < 16
  · rw [s.getLsbD_setHoldover h err (by omega), if_neg (by omega), if_pos (by omega), decide_eq_true (by omega), Nat.add_sub_cancel_left,
      Bool.true_and]
  · have hlt : min err 0xFFFF < 2 ^ j := (show min err 0xFFFF < 2 ^ 16 by omega).trans_le (Nat.pow_le_pow_right (by decide) (by omega))
    rw [decide_eq_false (by omega), Bool.false_and, Nat.testBit_lt_two_pow hlt]

theorem State.reg_setHoldover_ne (s : State) (h : Bool) (err : Nat) {k : Nat} (hk : k ≠ 0x108) : (s.setHoldover h err).reg k = s.reg k :=
  State.reg_setReg_ne _ _ _ _ hk

/-- Loading FT sets `VALID` and `LOADED`. -/
theorem State.flag_loadFt (s : State) (v : W64) {i : Nat} (hi : i < 64) :
    (s.loadFt v).flag 0x108 i = (s.flag 0x108 i || decide (i = 0) || decide (i = 2)) := by
  rw [State.loadFt, State.flag_setFlag _ _ _ _ hi, State.flag_setFlag _ _ _ _ hi]
  rfl

theorem State.reg_loadFt_ne (s : State) (v : W64) {k : Nat} (hk : k ≠ 0x108) : (s.loadFt v).reg k = s.reg k := by
  rw [State.loadFt, State.reg_setFlag_ne _ _ _ _ hk, State.reg_setFlag_ne _ _ _ _ hk]
  rfl

section
variable {s : State} (hlive : s.regsLive = true)
include hlive

/-! ### TIME_EXCHANGE (R451) -/

theorem exec_timeExchange : exec .timeExchange s = .next s.timeAsk := congrArg Host.Outcome.next (if_pos hlive)

theorem timeExchange_without_parent (hp : s.timeParent = none) : exec .timeExchange s = .next s := by
  rw [exec_timeExchange hlive, State.timeAsk, hp]

theorem timeExchange_due {p : Nat} (hp : s.timeParent = some p) (hdue : s.fab.lastAsk + 64000 ≤ s.ft.toNat ∨ s.fab.lastAsk = 0) :
    exec .timeExchange s = .next { s with fab.timeAsked := some s.ft.toNat, fab.lastAsk := s.ft.toNat } := by
  rw [exec_timeExchange hlive, State.timeAsk, hp]
  exact congrArg _ (if_pos hdue)

theorem timeExchange_early {p : Nat} (hp : s.timeParent = some p) (hlt : s.ft.toNat < s.fab.lastAsk + 64000) (h0 : s.fab.lastAsk ≠ 0) :
    exec .timeExchange s = .next s := by
  rw [exec_timeExchange hlive, State.timeAsk, hp]
  exact congrArg _ (if_neg (by omega))

/-! ### PPS_EDGE (R450) -/

theorem exec_ppsEdge : exec .ppsEdge s = .next s.ppsEdge := congrArg Host.Outcome.next (if_pos hlive)

theorem ppsEdge_elsewhere (hme : s.fab.chipNum % 32 ≠ 0) : exec .ppsEdge s = .next s := by
  rw [exec_ppsEdge hlive, State.ppsEdge, chipMember, if_pos hme]

theorem ppsEdge_unloaded (hme : s.fab.chipNum % 32 = 0) (hv : s.ftValid = false)
    (hval : Store.get [] s.mgmt.values (dictKey 0x3002 1) = []) : exec .ppsEdge s = .next s := by
  rw [exec_ppsEdge hlive, State.ppsEdge, chipMember, if_neg (not_not.2 hme), if_pos (by simp [hv]), if_pos hval]

/-- The first edge at member 0 loads FT from the value that a manager has written. -/
theorem ppsEdge_loads (hme : s.fab.chipNum % 32 = 0) (hv : s.ftValid = false) {l : List Byte}
    (hval : Store.get [] s.mgmt.values (dictKey 0x3002 1) = l) (hl : l ≠ []) :
    ∃ t, exec .ppsEdge s = .next t ∧ t.ft = BitVec.ofNat 64 (leNat l) ∧ t.ftValid = true ∧ t.flag 0x108 2 = true ∧
      t.flag 0x108 1 = false ∧ t.reg 0xE018 = s.reg 0xE018 + 1 ∧ t.fab.expectedEdge = some (leNat l % 2 ^ 64) := by
  have hnat : s.dictNat 0x3002 1 = leNat l := by rw [State.dictNat, hval]; exact if_neg hl
  rw [exec_ppsEdge hlive, State.ppsEdge, chipMember, if_neg (not_not.2 hme), if_pos (by simp [hv]), if_neg (hval ▸ hl), hnat]
  let t : State := (((s.loadFt (BitVec.ofNat 64 (leNat l))).setHoldover false 0).bump 0xE018 1)
  have hflag : ∀ i, t.flag 0x108 i = ((s.loadFt (BitVec.ofNat 64 (leNat l))).setHoldover false 0).flag 0x108 i := fun i =>
    congrArg (·.getLsbD i) (State.reg_bump_ne _ _ _ _ (by decide))
  refine ⟨_, rfl, rfl, ?_, ?_, ?_, ?_, ?_⟩
  · exact (hflag 0).trans ((State.flag_setHoldover _ _ _ (by decide) (by decide)).trans (by simp [State.flag_loadFt]))
  · exact (hflag 2).trans ((State.flag_setHoldover _ _ _ (by decide) (by decide)).trans (by simp [State.flag_loadFt]))
  · exact (hflag 1).trans (State.holdover_setHoldover _ _ _)
  · refine (State.reg_bump_self _ _ _).trans ?_
    rw [State.reg_setHoldover_ne _ _ _ (by decide), State.reg_loadFt_ne _ _ (by decide)]
    rfl
  · exact congrArg some (BitVec.toNat_ofNat _ _)

section
variable (hme : s.fab.chipNum % 32 = 0) (hv : s.ftValid = true) {prev k : Nat} (hprev : s.fab.expectedEdge = some prev)
  (hk : max 1 ((s.ft.toNat - prev + 500000000) / 1000000000) = k) {e : Int}
  (he : (s.ft.toNat : Int) - ((prev + k * 1000000000 : Nat) : Int) = e)
include hme hv hprev hk he

/-- An edge more than 100 µs off is rejected and counted. -/
theorem ppsEdge_rejected (hfar : 100000 < e.natAbs) : ∃ t, exec .ppsEdge s = .next t ∧ s.RegsOnly t ∧
    t.reg 0xE020 = s.reg 0xE020 + 1 ∧ t.flag 0xE004 1 = true := by
  refine ⟨s.bumpSeen 0xE020 0xE004 1, ?_, s.bumpSeen_regsOnly _ _ _, ?_, State.flag_setFlag_self _ _ _ (by decide)⟩
  · rw [exec_ppsEdge hlive, State.ppsEdge, chipMember, if_neg (not_not.2 hme), if_neg (by simp [hv])]
    simp only [hprev, Option.getD_some, hk, he]
    rw [if_pos hfar]
  · rw [State.bumpSeen, State.reg_setFlag_ne _ _ _ _ (by decide), State.reg_bump_self]
    rfl

/-- An edge near the expected one asks for a slew that takes the offset away. -/
theorem ppsEdge_slews (hnear : e.natAbs ≤ 100000) : ∃ t, exec .ppsEdge s = .next t ∧ t.fab.slewNs = -e ∧ t.ft = s.ft ∧
    t.reg 0xE018 = s.reg 0xE018 + 1 ∧ t.fab.expectedEdge = some (prev + k * 1000000000) ∧ t.flag 0x108 1 = false := by
  have hstep : s.ppsEdge = { (s.bump 0xE018 1).setHoldover false 0 with fab := { s.fab with
      slewNs := -e, expectedEdge := some (prev + k * 1000000000), lastEdge := s.ft.toNat, lastUpdate := s.ft.toNat } } := by
    rw [State.ppsEdge, chipMember, if_neg (not_not.2 hme), if_neg (by simp [hv])]
    simp only [hprev, Option.getD_some, hk, he]
    rw [if_neg (by omega)]
    rfl
  refine ⟨_, exec_ppsEdge hlive, ?_⟩
  rw [hstep, State.reg_withFab, State.flag_withFab, State.holdover_setHoldover, State.reg_setHoldover_ne _ _ _ (by decide),
    State.reg_bump_self]
  exact ⟨rfl, rfl, rfl, rfl, rfl⟩

end

/-! ### HOLDOVER_ENTRY (R45) -/

theorem exec_holdoverEntry : exec .holdoverEntry s = .next s.holdover := congrArg Host.Outcome.next (if_pos hlive)

section
variable (hh : s.flag 0x108 1 = false)
include hh

theorem holdoverEntry_early (hlt : s.ft.toNat < s.holdoverDue) : exec .holdoverEntry s = .next s := by
  rw [exec_holdoverEntry hlive, State.holdover]
  simp only [hh, Bool.not_false, if_true, if_pos hlt]

theorem holdoverEntry_due (hle : s.holdoverDue ≤ s.ft.toNat) :
    ∃ t, exec .holdoverEntry s = .next t ∧ t.flag 0x108 1 = true ∧ t.fab.errAt = s.ft.toNat ∧ t.ft = s.ft := by
  have hstep : s.holdover =
      { (s.freeWord.2.setHoldover true (s.freeWord.1.toNat % 65536)).lifeAdd 12 1 with fab.errAt := s.ft.toNat } := by
    unfold State.holdover
    exact (if_pos (by simp [hh])).trans (if_neg (by omega))
  refine ⟨_, exec_holdoverEntry hlive, ?_⟩
  rw [hstep, State.flag_withFab, State.lifeAdd, State.flag, State.setLife_reg]
  exact ⟨State.holdover_setHoldover _ _ _, rfl, rfl⟩

end

/-- In HOLDOVER the error bound grows by 50 ns for each further millisecond. -/
theorem holdoverEntry_grows (hh : s.flag 0x108 1 = true) :
    ∃ t, exec .holdoverEntry s = .next t ∧ t.flag 0x108 1 = true ∧ t.ft = s.ft ∧
      t.errBound = min (s.errBound + 50 * ((s.ft.toNat - s.fab.errAt) / 1000000)) 0xFFFF := by
  have hstep : s.holdover = { s.setHoldover true (s.errBound + 50 * ((s.ft.toNat - s.fab.errAt) / 1000000)) with
      fab.errAt := s.fab.errAt + (s.ft.toNat - s.fab.errAt) / 1000000 * 1000000 } := by
    unfold State.holdover
    exact if_neg (by simp [hh])
  refine ⟨_, exec_holdoverEntry hlive, ?_⟩
  rw [hstep]
  exact ⟨(State.flag_withFab _ _ _ _).trans (State.holdover_setHoldover s _ _), rfl,
    (State.errBound_withFab _ _).trans (State.errBound_setHoldover s _ _)⟩

end

/-! ### TIME_FLIT (R451) -/

/-- FT after a valid reply that found the offset `offset`: asked to slew by it once it is valid, loaded before. -/
def State.takeOffset (s : State) (offset : Int) : State :=
  if s.ftValid then { s with fab.slewNs := offset } else s.loadFt (BitVec.ofInt 64 ((s.ft.toNat : Int) + offset))

theorem State.takeOffset_valid {s : State} (hv : s.ftValid = true) (offset : Int) :
    s.takeOffset offset = { s with fab.slewNs := offset } := if_pos hv

theorem State.takeOffset_invalid {s : State} (hv : s.ftValid = false) (offset : Int) :
    s.takeOffset offset = s.loadFt (BitVec.ofInt 64 ((s.ft.toNat : Int) + offset)) := if_neg (by simp [hv])

theorem State.timeAsked_takeOffset (s : State) (offset : Int) : (s.takeOffset offset).fab.timeAsked = s.fab.timeAsked := by
  unfold State.takeOffset
  split <;> rfl

/-- The reports of a reply. -/
def State.noteReply (s : State) (offset delay : Int) : State :=
  { (s.setReg 0xE008 (BitVec.ofInt 64 offset)).setReg 0xE010 (BitVec.ofInt 64 delay) with fab.timeAsked := none }

theorem State.reg_takeOffset_ne (s : State) (offset : Int) {k : Nat} (hk : k ≠ 0x108) : (s.takeOffset offset).reg k = s.reg k := by
  unfold State.takeOffset
  split
  · rfl
  · exact s.reg_loadFt_ne _ hk

theorem State.reg_noteReply (s : State) (offset delay : Int) : (s.noteReply offset delay).reg 0xE008 = BitVec.ofInt 64 offset := by
  rw [State.noteReply, State.reg_withFab, State.reg_setReg_ne _ _ _ _ (by decide), State.reg_setReg_self]

theorem State.ftValid_noteReply (s : State) (offset delay : Int) : (s.noteReply offset delay).ftValid = s.ftValid := by
  rw [State.noteReply, State.ftValid, State.flag_withFab, State.flag, State.reg_setReg_ne _ _ _ _ (by decide),
    State.reg_setReg_ne _ _ _ _ (by decide)]
  rfl

section
variable {s : State} {p err : Nat} (hp : isPort p = true) (hlink : (s.port p).link = .active) (herr : err < 65536)
include hp hlink herr

theorem exec_timeFlit_request (valid holdover : Bool) (t1 t2 t3 : W64) :
    exec (.timeFlit p false valid holdover err t1 t2 t3) s =
      .next { s with fab.timeSent := (p, s.ft.toNat) :: s.fab.timeSent.filter fun e => e.1 ≠ p } := by
  have h : exec (.timeFlit p false valid holdover err t1 t2 t3) s = execTimeFlit p false valid holdover err t1 t2 t3 s := rfl
  rw [h, execTimeFlit, hp, decide_eq_true herr, Bool.true_and, ifUnit_true]
  simp [State.portOpen, hlink]

theorem exec_timeFlit_reply (valid holdover : Bool) (t1 t2 t3 : W64) :
    exec (.timeFlit p true valid holdover err t1 t2 t3) s = .next (s.timeReply p valid holdover err t1 t2 t3) := by
  have h : exec (.timeFlit p true valid holdover err t1 t2 t3) s = execTimeFlit p true valid holdover err t1 t2 t3 s := rfl
  rw [h, execTimeFlit, hp, decide_eq_true herr, Bool.true_and, ifUnit_true]
  simp [State.portOpen, hlink]

/-- A valid reply of the time parent: the offset is reported; FT is slewed by it once it is valid and loaded before. -/
theorem timeFlit_update (holdover : Bool) (t1 t2 t3 : W64) (hparent : s.timeParent = some p)
    (hasked : s.fab.timeAsked = some (BitVec.toNat t1)) {offset : Int}
    (hoff : ((t2.toNat : Int) - t1.toNat + ((t3.toNat : Int) - s.ft.toNat)) / 2 = offset) :
    ∃ t, exec (.timeFlit p true true holdover err t1 t2 t3) s = .next t ∧ t.reg 0xE008 = BitVec.ofInt 64 offset ∧
      t.flag 0x108 1 = holdover ∧ t.errBound = (if holdover then min (err + 20) 0xFFFF else 0) ∧ t.fab.timeAsked = none ∧
      (s.ftValid = true → t.fab.slewNs = offset ∧ t.ft = s.ft) ∧
      (s.ftValid = false → t.ft = BitVec.ofInt 64 (s.ft.toNat + offset) ∧ t.ftValid = true) := by
  generalize hdelay : (((s.ft.toNat : Int) - t1.toNat) - ((t3.toNat : Int) - t2.toNat)) / 2 = delay
  let u := ((s.noteReply offset delay).takeOffset offset).setHoldover holdover (if holdover then err + 20 else 0)
  have hstep : s.timeReply p true holdover err t1 t2 t3 =
      { u with fab := { u.fab with lastUpdate := u.ft.toNat, errAt := u.ft.toNat } } := by
    rw [State.timeReply, hasked]
    refine (if_neg (by simp [hparent])).trans ?_
    simp only [hoff, hdelay]
    rfl
  have hbound : min (if holdover = true then err + 20 else 0) 0xFFFF = if holdover then min (err + 20) 0xFFFF else 0 := by
    cases holdover <;> rfl
  refine ⟨_, exec_timeFlit_reply hp hlink herr _ _ _ _ _, ?_⟩
  rw [hstep]
  refine ⟨(State.reg_withFab _ _ _).trans ?_, (State.flag_withFab _ _ _ _).trans (State.holdover_setHoldover _ _ _),
    (State.errBound_withFab _ _).trans ((State.errBound_setHoldover _ _ _).trans hbound), ?_, fun hv => ?_, fun hv => ?_⟩
  · rw [State.reg_setHoldover_ne _ _ _ (by decide), State.reg_takeOffset_ne _ _ (by decide), State.reg_noteReply]
  · exact (s.noteReply offset delay).timeAsked_takeOffset offset
  · have h := State.takeOffset_valid ((s.ftValid_noteReply offset delay).trans hv) offset
    exact ⟨show ((s.noteReply offset delay).takeOffset offset).fab.slewNs = offset by rw [h],
      show ((s.noteReply offset delay).takeOffset offset).ft = s.ft by rw [h]; rfl⟩
  · have h := State.takeOffset_invalid ((s.ftValid_noteReply offset delay).trans hv) offset
    refine ⟨show ((s.noteReply offset delay).takeOffset offset).ft = _ by rw [h]; rfl, ?_⟩
    rw [State.ftValid, State.flag_withFab, State.flag_setHoldover _ _ _ (by decide) (by decide), h, State.flag_loadFt _ _ (by decide)]
    simp

end

/-- Settles O43: each command's case is a lemma of its own above. -/
theorem fabricTime : Obligations.FabricTime := by
  intro s hlive
  refine ⟨timeExchange_without_parent hlive, fun p hp => ⟨timeExchange_due hlive hp, timeExchange_early hlive hp⟩, ?_,
    ppsEdge_elsewhere hlive, fun hme hv => ⟨ppsEdge_unloaded hlive hme hv, ppsEdge_loads hlive hme hv rfl⟩, ?_, ?_, ?_, ?_⟩
  · intro p valid holdover err t1 t2 t3 hp hlink herr
    refine ⟨exec_timeFlit_request hp hlink herr valid holdover t1 t2 t3, ?_⟩
    rintro hparent hasked rfl
    exact timeFlit_update hp hlink herr holdover t1 t2 t3 hparent hasked rfl
  · intro hme hv prev hprev
    exact ⟨ppsEdge_rejected hlive hme hv hprev rfl rfl, ppsEdge_slews hlive hme hv hprev rfl rfl⟩
  · exact fun hh hlt => holdoverEntry_early hlive hh hlt
  · exact fun hh hle => holdoverEntry_due hlive hh hle
  · exact holdoverEntry_grows hlive

end Sys2Proof.Machine
end

section
/-! SUPPORT. What an operation leaves as it was, as the parts of the state that it may touch: the rule of each shared operation. -/

namespace Sys2Proof.Machine

/-! ### Parts that an operation may touch -/

/-- Every part of the state but those of the list is the same in two states. -/
def State.Touches (l : List Part) (s t : State) : Prop := ∀ p, p ∉ l → p.same s t

theorem State.Touches.refl (l : List Part) (s : State) : s.Touches l s := fun p _ => by cases p <;> rfl

theorem State.Touches.trans {l : List Part} {s t u : State} (h : s.Touches l t) (k : t.Touches l u) : s.Touches l u := by
  intro p hp
  have hst := h p hp
  have htu := k p hp
  cases p <;> exact Eq.trans htu hst

theorem State.Touches.mono {l l' : List Part} {s t : State} (h : s.Touches l t) (hl : ∀ p ∈ l, p ∈ l') : s.Touches l' t :=
  fun p hp => h p fun hm => hp (hl p hm)

theorem touches_ite {c : Prop} [Decidable c] {l : List Part} {s a b : State} (ha : s.Touches l a) (hb : s.Touches l b) :
    s.Touches l (if c then a else b) := by
  split
  · exact ha
  · exact hb

theorem touches_foldl {β : Type} {l : List Part} {f : State → β → State} (hf : ∀ (t : State) e, t.Touches l (f t e)) (es : List β)
    (s : State) : s.Touches l (es.foldl f s) := by
  induction es generalizing s with
  | nil => exact .refl l s
  | cons e rest ih => exact (hf s e).trans (ih (f s e))

/-- The parts of the memories. -/
def memParts : List Part :=
  [.memNear, .memTile, .memBadNear, .memBadTile, .memNearErr, .memTileErr, .memBurstBad, .memCache, .memPlru, .memChans, .memWbWaits,
    .memAddWaits]

/-- The memories are the same where none of their parts is touched. -/
theorem State.Touches.mem {l : List Part} {s t : State} (h : s.Touches l t) (hl : ∀ p ∈ memParts, p ∉ l) : t.mem = s.mem := by
  have hsame : ∀ p ∈ memParts, p.same s t := fun p hp => h p (hl p hp)
  simp only [memParts, List.mem_cons, List.not_mem_nil, or_false, forall_eq_or_imp, forall_eq, Part.same] at hsame
  cases hs : s.mem
  cases ht : t.mem
  simp_all

/-! ### One part replaced -/

section
variable (s : State)

theorem touches_regs (x : Store W64) : s.Touches [.regs] { s with regs := x } := fun p hp => by cases p <;> simp_all [Part.same]
theorem touches_cores (x : Store Core) : s.Touches [.cores] { s with cores := x } := fun p hp => by cases p <;> simp_all [Part.same]
theorem touches_bufs (x : Store TileBuf) : s.Touches [.bufs] { s with bufs := x } := fun p hp => by cases p <;> simp_all [Part.same]
theorem touches_qs (x : QueueSt) : s.Touches [.qs] { s with qs := x } := fun p hp => by cases p <;> simp_all [Part.same]
theorem touches_sync (x : SyncSt) : s.Touches [.sync] { s with sync := x } := fun p hp => by cases p <;> simp_all [Part.same]
theorem touches_tier (x : TierSt) : s.Touches [.tier] { s with tier := x } := fun p hp => by cases p <;> simp_all [Part.same]
theorem touches_fab (x : FabSt) : s.Touches [.fab] { s with fab := x } := fun p hp => by cases p <;> simp_all [Part.same]
theorem touches_wear (x : WearSt) : s.Touches [.wear] { s with wear := x } := fun p hp => by cases p <;> simp_all [Part.same]
theorem touches_media (x : Store MxEng) : s.Touches [.media] { s with media := x } := fun p hp => by cases p <;> simp_all [Part.same]
theorem touches_mgmt (x : MgmtSt) : s.Touches [.mgmt] { s with mgmt := x } := fun p hp => by cases p <;> simp_all [Part.same]
theorem touches_log (x : List LogEntry) (n : W64) : s.Touches [.log, .eventSeq] { s with log := x, eventSeq := n } := fun p hp => by
  cases p <;> simp_all [Part.same]
theorem touches_free (x : Nat) : s.Touches [.free] { s with free := x } := fun p hp => by cases p <;> simp_all [Part.same]
theorem touches_memNear (x : Store Byte) : s.Touches [.memNear] { s with mem.near := x } := fun p hp => by
  cases p <;> simp_all [Part.same]
theorem touches_memTile (x : Store Byte) (y : Store Bool) (z : Store Nat) :
    s.Touches [.memTile, .memBadTile, .memTileErr] { s with mem.tile := x, mem.badTile := y, mem.tileErr := z } := fun p hp => by
  cases p <;> simp_all [Part.same]

end

/-! ### Registers, status counters and the event log -/

section
variable (s : State)

theorem State.setReg_touches (o : Nat) (v : W64) : s.Touches [.regs] (s.setReg o v) := touches_regs s _
theorem State.bump_touches (o n : Nat) : s.Touches [.regs] (s.bump o n) := touches_regs s _
theorem State.setFlag_touches (o b : Nat) : s.Touches [.regs] (s.setFlag o b) := touches_regs s _
theorem State.clearFlag_touches (o b : Nat) : s.Touches [.regs] (s.clearFlag o b) := touches_regs s _
theorem State.bumpSeen_touches (c o b : Nat) : s.Touches [.regs] (s.bumpSeen c o b) := touches_regs s _
theorem State.count_touches (st : Status) : s.Touches [.regs] (s.count st) := touches_ite (.refl _ s) (s.bump_touches _ _)

theorem State.logEvent_touches (st : Status) (source unit detail : Nat) : s.Touches [.log, .eventSeq] (s.logEvent st source unit detail) :=
  touches_ite (touches_log s _ _) (.refl _ s)

theorem State.countLog_touches (st : Status) (source unit detail : Nat) :
    s.Touches [.regs, .log, .eventSeq] (s.countLog st source unit detail) :=
  ((s.count_touches st).mono (by decide)).trans ((State.logEvent_touches _ _ _ _ _).mono (by decide))

/-! ### Packets sent -/

theorem State.setPort_touches (p : Nat) (v : Port) : s.Touches [.fab] (s.setPort p v) := touches_fab s _

theorem State.enqueue_touches (port : Nat) (p : Packet) : s.Touches [.regs, .fab] (s.enqueue port p) :=
  ((s.setPort_touches port _).mono (by decide)).trans ((State.bump_touches _ _ _).mono (by decide))

theorem State.forward_touches (p : Packet) : s.Touches [.regs, .fab, .log, .eventSeq] (s.forward p).1 := by
  unfold State.forward
  split
  · exact (s.enqueue_touches _ _).mono (by decide)
  · exact ((s.bumpSeen_touches _ _ _).mono (by decide)).trans ((State.logEvent_touches _ _ _ _ _).mono (by decide))

/-- A packet sent leaves everything but registers, the fabric and the event log. -/
theorem State.sendOn_touches (p : Packet) : s.Touches [.regs, .fab, .log, .eventSeq] (s.sendOn p) :=
  touches_ite (s.forward_touches p) ((s.forward_touches p).trans ((State.count_touches _ _).mono (by decide)))

end
end Sys2Proof.Machine
end

section
/-! SUPPORT. Answers of the dictionary service, transactions, and O55 (R564 to R566). -/

namespace Sys2Proof.Machine

/-! ### Answers -/

theorem State.releaseClaim_touches (s : State) : s.Touches [.regs, .mgmt] s.releaseClaim :=
  touches_ite ((touches_mgmt s _).mono (by decide)) (((s.setReg_touches _ _).mono (by decide)).trans ((touches_mgmt _ _).mono (by decide)))

/-- What the dictionary service keeps of its books while an answer is written: the values, the transactions, and the answers given. -/
structure State.SameBooks (s t : State) : Prop where
  values : t.mgmt.values = s.mgmt.values
  txns : t.mgmt.txns = s.mgmt.txns
  nextTxn : t.mgmt.nextTxn = s.mgmt.nextTxn
  responses : t.mgmt.responses = s.mgmt.responses

theorem State.SameBooks.of_mgmt {s t : State} (h : t.mgmt = s.mgmt) : s.SameBooks t :=
  ⟨congrArg _ h, congrArg _ h, congrArg _ h, congrArg _ h⟩

theorem State.mailReply_sameBooks (s : State) (p : Path) (r : Msg) : s.SameBooks (s.mailReply p r) := by
  unfold State.mailReply
  split
  · exact ⟨rfl, rfl, rfl, rfl⟩
  · dsimp only
    split
    · unfold State.releaseClaim
      split <;> exact ⟨rfl, rfl, rfl, rfl⟩
    · exact ⟨rfl, rfl, rfl, rfl⟩

theorem State.mailReply_touches (s : State) (p : Path) (r : Msg) : s.Touches [.regs, .mgmt, .fab] (s.mailReply p r) := by
  have hmail : ∀ x o, s.Touches [.regs, .mgmt, .fab]
      (((({ s with mgmt := x } : State).setFlag (o + 0x208) 1).clearFlag (o + 0x208) 0).bump (o + 0x210) 1) := fun x o =>
    ((((touches_mgmt s x).mono (by decide)).trans ((State.setFlag_touches _ _ _).mono (by decide))).trans
      ((State.clearFlag_touches _ _ _).mono (by decide))).trans ((State.bump_touches _ _ _).mono (by decide))
  unfold State.mailReply
  split
  · exact (hmail _ _).trans ((touches_fab _ _).mono (by decide))
  · exact touches_ite ((hmail _ _).trans ((State.releaseClaim_touches _).mono (by decide))) (hmail _ _)

/-- The state with an answer given. -/
def State.given (s : State) (p : Path) (r : Msg) : State := { s with mgmt.responses := (p, r) :: s.mgmt.responses }

theorem deliverTo_mailbox (s : State) (c tag : Nat) (r : Msg) :
    s.deliverTo (.mailbox c) tag r = (s.given (.mailbox c) r).mailReply (.mailbox c) r := rfl

theorem deliverTo_bridge (s : State) (tag : Nat) (r : Msg) : s.deliverTo .bridge tag r = (s.given .bridge r).mailReply .bridge r := rfl

theorem deliverTo_forwarded (s : State) (b : Bool) (c chip role tag : Nat) (r : Msg) :
    s.deliverTo (.forwarded b c chip role) tag r = (s.given (.forwarded b c chip role) r).sendOn
      { mkPacket .sync chip dictRespAddr (msgBytes r) with src := s.fab.chipNum, tag := tag } := rfl

theorem deliverTo_touches (s : State) (p : Path) (hp : ∀ mac, p ≠ .field mac) (tag : Nat) (r : Msg) :
    (s.given p r).SameBooks (s.deliverTo p tag r) ∧ s.Touches [.regs, .mgmt, .fab, .log, .eventSeq] (s.deliverTo p tag r) := by
  have hgiven : s.Touches [.regs, .mgmt, .fab, .log, .eventSeq] (s.given p r) := (touches_mgmt s _).mono (by decide)
  cases p with
  | field mac => exact absurd rfl (hp mac)
  | mailbox c =>
    rw [deliverTo_mailbox]
    exact ⟨State.mailReply_sameBooks _ _ _, hgiven.trans ((State.mailReply_touches _ _ _).mono (by decide))⟩
  | bridge =>
    rw [deliverTo_bridge]
    exact ⟨State.mailReply_sameBooks _ _ _, hgiven.trans ((State.mailReply_touches _ _ _).mono (by decide))⟩
  | forwarded b c chip role =>
    rw [deliverTo_forwarded]
    have hsend := (s.given (.forwarded b c chip role) r).sendOn_touches
      { mkPacket .sync chip dictRespAddr (msgBytes r) with src := s.fab.chipNum, tag := tag }
    exact ⟨.of_mgmt (hsend .mgmt (by decide)), hgiven.trans (hsend.mono (by decide))⟩

/-- What an answer leaves: the service's books with the answer entered, and the memories, the queues and the device's state. -/
structure State.Answered (s : State) (p : Path) (r : Msg) (t : State) : Prop where
  values : t.mgmt.values = s.mgmt.values
  txns : t.mgmt.txns = s.mgmt.txns
  nextTxn : t.mgmt.nextTxn = s.mgmt.nextTxn
  responses : t.mgmt.responses = (p, r) :: s.mgmt.responses
  mem : t.mem = s.mem
  qs : t.qs = s.qs
  dev : t.dev = s.dev

theorem State.finish_answered (s : State) (p : Path) (hp : ∀ mac, p ≠ .field mac) (tag : Nat) (m r : Msg) :
    s.Answered p r (s.finish p tag m r) := by
  generalize hu : ({ s with mgmt.stored := (pathWho p, m.seq, r) :: s.mgmt.stored.filter fun e => e.1 ≠ pathWho p } : State) = u
  have hbooks : s.SameBooks u := hu ▸ ⟨rfl, rfl, rfl, rfl⟩
  have htouch : s.Touches [.mgmt] u := hu ▸ touches_mgmt s _
  have hfin : s.finish p tag m r = u.deliverTo p tag r := by rw [← hu, State.finish]
  obtain ⟨hdone, hrest⟩ := deliverTo_touches u p hp tag r
  rw [hfin]
  exact ⟨hdone.values.trans hbooks.values, hdone.txns.trans hbooks.txns, hdone.nextTxn.trans hbooks.nextTxn,
    hdone.responses.trans (congrArg ((p, r) :: ·) hbooks.responses), (hrest.mem (by decide)).trans (htouch.mem (by decide)),
    (hrest .qs (by decide)).trans (htouch .qs (by decide)), (hrest .dev (by decide)).trans (htouch .dev (by decide))⟩

/-! ### A request that reaches the service -/

theorem State.commitDue_of_not_due (s : State) {T : Txn} (h : ∀ a, T.armed = some a → s.ft.toNat < a) : s.commitDue T = s := by
  unfold State.commitDue
  split
  · next a ha => exact if_neg (not_le.2 (h a ha))
  · rfl

/-- With no armed transaction due, nothing is committed before a request. -/
theorem State.commitsDue_of_none_due (s : State) (h : ∀ T a, T ∈ s.mgmt.txns → T.armed = some a → s.ft.toNat < a) :
    s.commitsDue = s := by
  have hfold : ∀ l : List Txn, (∀ T ∈ l, ∀ a, T.armed = some a → s.ft.toNat < a) →
      l.foldl (fun (u : State) t => u.commitDue t) s = s := by
    intro l hl
    induction l with
    | nil => rfl
    | cons T rest ih =>
      rw [List.foldl_cons, s.commitDue_of_not_due (hl T List.mem_cons_self)]
      exact ih fun U hU => hl U (List.mem_cons_of_mem T hU)
  exact hfold _ fun T hT a ha => h T a hT ha

/-- A request of a path other than the field network that is served here, in a control cycle in which no armed transaction is due, and that
is not the one answered last. -/
structure State.Requests (s : State) (p : Path) (m : Msg) : Prop where
  unit : pathOk p = true
  path : ∀ mac, p ≠ .field mac
  served : s.dictServed = true
  request : m.mtype = 0
  fresh : ∀ e, e ∈ s.mgmt.stored → e.1 = pathWho p → e.2.1 ≠ m.seq
  here : m.chip = 0x3FFF
  passes : s.reqCheck p m = .ok
  notDue : ∀ T a, T ∈ s.mgmt.txns → T.armed = some a → s.ft.toNat < a

/-- The state that a request on a transaction ends in: its effect, its status counted, its answer given. -/
def State.endRequest (p : Path) (m : Msg) (r : State × Status × List Byte × Nat) : State :=
  (r.1.count r.2.1).finish p 0 m (msgReply m r.2.1 r.2.2.1 r.2.2.2)

theorem State.Requests.handle_eq {s : State} {p : Path} {m : Msg} (h : s.Requests p m) (hcmd : m.cmd ≠ 2) :
    s.handle p 0 m = State.endRequest p m (s.execute p m) := by
  have hnone : s.mgmt.stored.find? (fun e => decide (e.1 = pathWho p ∧ e.2.1 = m.seq)) = none := by
    rw [List.find?_eq_none]
    intro e he
    simpa using h.fresh e he
  have hdev : msgDevCmd m = false := decide_eq_false fun hm => hcmd hm.1
  have hserve : s.serveHere p 0 m = State.endRequest p m (s.execute p m) := by
    simp only [State.serveHere, s.commitsDue_of_none_due h.notDue, hdev, Bool.false_eq_true, if_false, State.endRequest]
  rw [← hserve]
  unfold State.handle
  cases p with
  | field mac => exact absurd rfl (h.path mac)
  | mailbox _ | bridge | forwarded _ _ _ _ =>
    simp only [h.served, h.request, h.here, hnone, Bool.not_true, Bool.false_eq_true, if_false, if_true, true_or, OfNat.zero_ne_ofNat,
      zero_ne_one, or_self]

theorem State.Requests.request1_eq {s : State} {p : Path} {m : Msg} (h : s.Requests p m) {cmd : Nat} (hcmd : m.cmd = cmd)
    (hwrite : cmd ≠ 2) : s.request1 cmd p m = State.endRequest p m (s.execute p m) :=
  (if_pos (.inl hcmd)).trans (h.handle_eq (hcmd ▸ hwrite))

theorem State.Answered.of_count {s t : State} {p : Path} {r : Msg} {st : Status} (h : (s.count st).Answered p r t) : s.Answered p r t := by
  have hcount := s.count_touches st
  have hmgmt : (s.count st).mgmt = s.mgmt := hcount .mgmt (by decide)
  exact ⟨hmgmt ▸ h.values, hmgmt ▸ h.txns, hmgmt ▸ h.nextTxn, hmgmt ▸ h.responses, h.mem.trans (hcount.mem (by decide)),
    h.qs.trans (hcount .qs (by decide)), h.dev.trans (hcount .dev (by decide))⟩

theorem State.Requests.endRequest_answered {s : State} {p : Path} {m : Msg} (h : s.Requests p m) (r : State × Status × List Byte × Nat) :
    r.1.Answered p (msgReply m r.2.1 r.2.2.1 r.2.2.2) (State.endRequest p m r) :=
  (State.finish_answered _ p h.path 0 m _).of_count

/-! ### Transactions -/

/-- Of the service's books only the list of transactions and its records may differ. -/
structure State.TxnsOnly (s t : State) : Prop where
  values : t.mgmt.values = s.mgmt.values
  responses : t.mgmt.responses = s.mgmt.responses
  rest : s.Touches [.mgmt] t

theorem State.endTxn_txnsOnly (s : State) (T : Txn) (state : Nat) (st : Status) (applied failed : Nat) :
    s.TxnsOnly (s.endTxn T state st applied failed) := ⟨rfl, rfl, touches_mgmt s _⟩

/-- A transaction that has ended is gone. -/
theorem State.not_mem_endTxn (s : State) (T : Txn) (state : Nat) (st : Status) (applied failed : Nat) :
    ∀ E, E ∈ (s.endTxn T state st applied failed).mgmt.txns → E.num ≠ T.num := by
  have h : (s.endTxn T state st applied failed).mgmt.txns = s.mgmt.txns.filter fun e => e.num ≠ T.num := rfl
  intro E hE
  rw [h, List.mem_filter] at hE
  simpa using hE.2

theorem State.putTxn_txnsOnly (s : State) (T : Txn) : s.TxnsOnly (s.putTxn T) := ⟨rfl, rfl, touches_mgmt s _⟩

theorem State.txnBegin_txnsOnly (s : State) (p : Path) : s.TxnsOnly (s.txnBegin p).1 := ⟨rfl, rfl, touches_mgmt s _⟩

/-! ### What each request on a transaction does -/

section
variable {s : State} {p : Path} {m : Msg} (hok : s.reqCheck p m = .ok)
include hok

theorem execute_txnBegin (hcmd : m.cmd = 0x10) : s.execute p m = ((s.txnBegin p).1, .ok, [], s.mgmt.nextTxn) := by
  simp only [State.execute, hok, hcmd]
  rfl

variable {T : Txn} (hT : s.txnOf p m.txn = some T)
include hT

theorem execute_txnStage (hcmd : m.cmd = 0x11) : s.execute p m = ((s.doStage p m T).1, (s.doStage p m T).2, [], m.txn) := by
  simp only [State.execute, hok, hcmd, hT]

theorem execute_txnCommit (hcmd : m.cmd = 0x12) : s.execute p m = ((s.doCommit m T).1, (s.doCommit m T).2, [], m.txn) := by
  simp only [State.execute, hok, hcmd, hT]

theorem execute_txnAbort (hcmd : m.cmd = 0x13) : s.execute p m = (s.endTxn T 4 .txnAborted 0 0, .ok, [], m.txn) := by
  simp only [State.execute, hok, hcmd, hT]

end

/-- A transaction after a write of its requester was staged for it. -/
def Txn.staged (T : Txn) (now : Nat) (m : Msg) : Txn :=
  { T with lastFt := now, writes := T.writes ++ [(dictKey m.index m.sub, [(m.offset, msgBody m)])] }

/-- A whole entry staged, with no segments held: kept for the transaction. -/
theorem State.doStage_eq (s : State) (p : Path) {m : Msg} (T : Txn) (hsegs : s.mgmt.segs = []) (hsize : (msgAttr m).size ≤ 8)
    (hcheck : s.stageCheck p m.index m.sub [(m.offset, msgBody m)] = .ok)
    (hkeys : ((dictKey m.index m.sub :: T.writes.map (·.1)).eraseDups).length ≤ 64) (hload : (s.txnLoad T).2 + m.len ≤ 262144) :
    s.doStage p m T = (s.putTxn (T.staged s.ft.toNat m), .ok) := by
  have hentries : (s.txnLoad T).1 = T.writes.map (·.1) := by simp [State.txnLoad, hsegs]
  have hparts : (s.segOf p T.num (dictKey m.index m.sub)).parts = [] := by simp [State.segOf, hsegs]
  have hnone : s.setSeg p T.num (dictKey m.index m.sub) none = s := by
    have e : ({ s with mgmt.segs := [] } : State) = s := by rw [← hsegs]
    simpa [State.setSeg, hsegs] using e
  simp only [State.doStage, hentries, hparts, List.nil_append, hcheck, hnone]
  rw [if_neg (by omega), if_neg (by omega), if_neg (by simp)]
  rfl

/-- A commit for a later instant arms the transaction. -/
theorem State.doCommit_arms (s : State) {m : Msg} (T : Txn) (hat : m.ftAt ≠ 0) (hv : s.ftValid = true) (hle : s.ft.toNat ≤ m.ftAt) :
    s.doCommit m T = (s.putTxn { T with lastFt := s.ft.toNat, armed := some m.ftAt }, .ok) := by
  simp only [State.doCommit]
  rw [if_neg hat, if_neg (by simp [hv]), if_neg (by omega)]

theorem State.commit_failed (s : State) {T : Txn} {k : Nat} (hk : (s.commitTrial T).2 = some k) :
    s.commit T = (s.endTxn T 4 .txnAborted 0 k, .txnAborted) := by
  simp only [State.commit, hk]

theorem State.values_staleSegs (s : State) (l : List Nat) :
    (l.foldl (fun (u : State) k => u.staleSegs k) s).mgmt.values = s.mgmt.values := by
  induction l generalizing s with
  | nil => rfl
  | cons k rest ih => exact ih (s.staleSegs k)

/-- A commit whose trial fails nowhere, of no swap map: every staged value applied, and the transaction gone. -/
theorem State.commit_applied (s : State) {T : Txn} (hk : (s.commitTrial T).2 = none)
    (hmap : ∀ w, w ∈ T.writes → w.1 / 256 ≠ 0x2100) :
    (s.commit T).2 = .ok ∧ (s.commit T).1.mgmt.values = (s.commitTrial T).1.mgmt.values ∧
      ∀ E, E ∈ (s.commit T).1.mgmt.txns → E.num ≠ T.num := by
  have hnone : ((T.writes.map (·.1)).eraseDups.filter fun k => decide (k / 256 = 0x2100)) = [] := by
    rw [List.filter_eq_nil_iff]
    intro k hmem
    obtain ⟨w, hw, rfl⟩ := List.mem_map.1 (List.mem_eraseDups.1 hmem)
    simpa using hmap w hw
  simp only [State.commit, hk, hnone, List.foldl_nil]
  exact ⟨trivial, (State.endTxn_txnsOnly _ _ _ _ _ _).values.trans (State.values_staleSegs _ _), State.not_mem_endTxn _ _ _ _ _ _⟩

/-! ### The commands -/

section
variable {s : State} {p : Path} {m : Msg} (h : s.Requests p m)
include h

/-- A row of the dictionary service as a command: the request executed and answered. -/
theorem exec_request {c : Instr} {cmd : Nat} (hrow : exec c s = ifUnit (pathOk p) "path" (s.request1 cmd p m)) (hcmd : m.cmd = cmd)
    (hwrite : cmd ≠ 2) {u : State} {st : Status} {n : Nat} (hexec : s.execute p m = (u, st, [], n)) :
    ∃ t, exec c s = .next t ∧ u.Answered p (msgReply m st [] n) t := by
  refine ⟨_, ?_, h.endRequest_answered (u, st, [], n)⟩
  rw [hrow, h.unit, ifUnit_true, h.request1_eq hcmd hwrite, hexec]

omit h in
/-- An answer after a change of the transactions alone keeps the values, the memories, the queues and the device's state. -/
theorem State.TxnsOnly.kept {u t : State} {r : Msg} (hu : s.TxnsOnly u) (ht : u.Answered p r t) :
    t.mgmt.values = s.mgmt.values ∧ t.mem = s.mem ∧ t.qs = s.qs ∧ t.dev = s.dev :=
  ⟨ht.values.trans hu.values, ht.mem.trans (hu.rest.mem (by decide)), ht.qs.trans (hu.rest .qs (by decide)),
    ht.dev.trans (hu.rest .dev (by decide))⟩

theorem exec_txnBegin (hcmd : m.cmd = 0x10) :
    ∃ t, exec (.txnBegin p m) s = .next t ∧ (s.txnBegin p).1.Answered p (msgReply m .ok [] s.mgmt.nextTxn) t :=
  exec_request h rfl hcmd (by decide) (execute_txnBegin h.passes hcmd)

variable {T : Txn} (hT : s.txnOf p m.txn = some T)
include hT

theorem exec_txnStage (hcmd : m.cmd = 0x11) :
    ∃ t, exec (.txnStage p m) s = .next t ∧ (s.doStage p m T).1.Answered p (msgReply m (s.doStage p m T).2 [] m.txn) t :=
  exec_request h rfl hcmd (by decide) (execute_txnStage h.passes hT hcmd)

theorem exec_txnCommit (hcmd : m.cmd = 0x12) :
    ∃ t, exec (.txnCommit p m) s = .next t ∧ (s.doCommit m T).1.Answered p (msgReply m (s.doCommit m T).2 [] m.txn) t :=
  exec_request h rfl hcmd (by decide) (execute_txnCommit h.passes hT hcmd)

theorem exec_txnAbort (hcmd : m.cmd = 0x13) :
    ∃ t, exec (.txnAbort p m) s = .next t ∧ (s.endTxn T 4 .txnAborted 0 0).Answered p (msgReply m .ok [] m.txn) t :=
  exec_request h rfl hcmd (by decide) (execute_txnAbort h.passes hT hcmd)

end

section
variable {s : State} {n : Nat} {T : Txn} (hT : (s.mgmt.txns.find? fun t => decide (t.num = n)) = some T)
include hT

theorem exec_scheduledCommit : exec (.scheduledCommit n) s = .next (s.commitDue T) := by
  have hexec : exec (.scheduledCommit n) s = execScheduledCommit n s := rfl
  rw [hexec, execScheduledCommit, hT]

theorem exec_scheduledCommit_due {a : Nat} (ha : T.armed = some a) (hle : a ≤ s.ft.toNat) :
    exec (.scheduledCommit n) s = .next ((s.commit T).1.count (s.commit T).2) := by
  rw [exec_scheduledCommit hT, State.commitDue, ha]
  exact congrArg _ (if_pos hle)

theorem exec_txnIdleTimeout : exec (.txnIdleTimeout n) s =
    .next (if T.armed.isNone ∧ T.lastFt + s.dictNat 0x2020 1 * 1000000 ≤ s.ft.toNat then
      (s.endTxn T 4 .txnAborted 0 0).count .txnAborted else s) := by
  have hexec : exec (.txnIdleTimeout n) s = execTxnIdleTimeout n s := rfl
  rw [hexec, execTxnIdleTimeout, hT]

omit hT in
/-- A transaction aborted: gone, counted under TXN_ABORTED, and nothing of it applied. -/
theorem State.abortTxn_drops (s : State) (T : Txn) (k : Nat) :
    let t := (s.endTxn T 4 .txnAborted 0 k).count .txnAborted
    (∀ E, E ∈ t.mgmt.txns → E.num ≠ T.num) ∧ t.mgmt.values = s.mgmt.values ∧ t.mem = s.mem ∧ t.qs = s.qs ∧
      t.reg (Status.counterOff .txnAborted) = s.reg (Status.counterOff .txnAborted) + 1 :=
  ⟨State.not_mem_endTxn _ _ _ _ _ _, rfl, rfl, rfl, State.reg_bump_self _ _ _⟩

end

/-- Settles O55: requests end as `exec_request` says, and what time does is `commitDue` or an abort. -/
theorem transactions : Obligations.Transactions := by
  constructor
  · intro s p m hunit hpath hserved hrequest hfresh hhere hpasses hnotDue
    have h : s.Requests p m := ⟨hunit, hpath, hserved, hrequest, hfresh, hhere, hpasses, hnotDue⟩
    refine ⟨fun hcmd => ?_, fun T hT => ⟨fun hcmd hsegs hsize hcheck hkeys hload => ?_, fun hcmd hat hv hle => ?_, fun hcmd => ?_,
      fun hcmd hat => ⟨fun k hk => ?_, fun hk hmap => ?_⟩⟩⟩
    · obtain ⟨t, hexec, ht⟩ := exec_txnBegin h hcmd
      exact ⟨t, hexec, ⟨_, ht.responses⟩, (s.txnBegin_txnsOnly p).kept ht, ht.txns, ht.nextTxn⟩
    · obtain ⟨t, hexec, ht⟩ := exec_txnStage h hT hcmd
      rw [s.doStage_eq p T hsegs hsize hcheck hkeys hload] at ht
      exact ⟨t, hexec, ⟨_, ht.responses⟩, (s.putTxn_txnsOnly _).kept ht, ht.txns⟩
    · obtain ⟨t, hexec, ht⟩ := exec_txnCommit h hT hcmd
      rw [s.doCommit_arms T hat hv hle] at ht
      exact ⟨t, hexec, ⟨_, ht.responses⟩, (s.putTxn_txnsOnly _).kept ht, ht.txns⟩
    · obtain ⟨t, hexec, ht⟩ := exec_txnAbort h hT hcmd
      exact ⟨t, hexec, ⟨_, ht.responses⟩, (s.endTxn_txnsOnly T 4 .txnAborted 0 0).kept ht,
        fun E hE => s.not_mem_endTxn T 4 .txnAborted 0 0 E (ht.txns ▸ hE)⟩
    · obtain ⟨t, hexec, ht⟩ := exec_txnCommit h hT hcmd
      rw [State.doCommit, if_pos hat, s.commit_failed hk] at ht
      exact ⟨t, hexec, ⟨_, ht.responses⟩, (s.endTxn_txnsOnly T 4 .txnAborted 0 k).kept ht,
        fun E hE => s.not_mem_endTxn T 4 .txnAborted 0 k E (ht.txns ▸ hE)⟩
    · obtain ⟨t, hexec, ht⟩ := exec_txnCommit h hT hcmd
      obtain ⟨hst, hvalues, hgone⟩ := s.commit_applied hk hmap
      rw [State.doCommit, if_pos hat, hst] at ht
      exact ⟨t, hexec, ⟨_, ht.responses⟩, ht.values.trans hvalues, fun E hE => hgone E (ht.txns ▸ hE)⟩
  · intro s n T hT
    refine ⟨fun a ha => ⟨?_, fun hlt => ?_, fun hle => ⟨fun k hk => ⟨_, exec_scheduledCommit_due hT ha hle, ?_⟩,
      fun hk hmap => ⟨_, exec_scheduledCommit_due hT ha hle, ?_⟩⟩⟩, fun ha => ⟨?_, fun hlt => ?_, fun hle => ?_⟩⟩
    · rw [exec_txnIdleTimeout hT, if_neg (by simp [ha])]
    · rw [exec_scheduledCommit hT, s.commitDue_of_not_due (by rintro b hb; rw [ha] at hb; cases hb; exact hlt)]
    · rw [s.commit_failed hk]
      exact s.abortTxn_drops T k
    · obtain ⟨hst, hvalues, hgone⟩ := s.commit_applied hk hmap
      rw [hst]
      exact ⟨hgone, hvalues⟩
    · rw [exec_scheduledCommit hT, s.commitDue_of_not_due (by simp [ha])]
    · rw [exec_txnIdleTimeout hT, if_neg (by omega)]
    · rw [exec_txnIdleTimeout hT, if_pos ⟨by simp [ha], hle⟩]
      obtain ⟨hgone, hvalues, hmem, -, hcount⟩ := s.abortTxn_drops T 0
      exact ⟨_, rfl, hgone, hvalues, hmem, hcount⟩

end Sys2Proof.Machine
end

section
/-! SUPPORT. Work abandoned on a core: what its outputs left undefined may touch, and what is left of the core (R51, R229, R536). -/

namespace Sys2Proof.Machine

/-! ### What is read where a part was not touched -/

section
variable {l : List Part} {s t : State} (h : s.Touches l t)
include h

theorem State.Touches.reg (hp : .regs ∉ l) (o : Nat) : t.reg o = s.reg o := congrArg (fun m => Store.get 0 m o) (h .regs hp)
theorem State.Touches.core (hp : .cores ∉ l) (c : Nat) : t.core c = s.core c :=
  congrArg (fun m => Store.get ({} : Core) m c) (h .cores hp)
theorem State.Touches.acc (hp : .accs ∉ l) (c k : Nat) : t.acc c k = s.acc c k :=
  congrArg (fun m => Store.get ({} : AccTile) m (c * 4 + k)) (h .accs hp)
theorem State.Touches.ftqOf (hp : .ftq ∉ l) (c : Nat) : t.ftqOf c = s.ftqOf c := congrArg (fun m => Store.get [] m c) (h .ftq hp)
theorem State.Touches.buf (hp : .bufs ∉ l) (c k : Nat) : t.buf c k = s.buf c k :=
  congrArg (fun m => Store.get ({} : TileBuf) m (c * 4 + k)) (h .bufs hp)
theorem State.Touches.queue (hp : .qs ∉ l) (q : Nat) : t.queue q = s.queue q :=
  congrArg (fun m : QueueSt => Store.get ({} : Queue) m.queues q) (h .qs hp)
theorem State.Touches.sem (hp : .sync ∉ l) (i : Nat) : t.sem i = s.sem i :=
  congrArg (fun m : SyncSt => Store.get ({} : Sem) m.sems i) (h .sync hp)

end

/-! ### Extents left undefined -/

/-- The parts in which an extent left undefined may lie. -/
def havocParts : List Part := [.free, .tier, .memNear, .memTile, .memBadTile, .memTileErr]

section
variable (s : State)

theorem State.putNear_touches (a : Nat) (l : List Byte) : s.Touches [.memNear] (s.putNear a l) := touches_memNear s _
theorem State.putTile_touches (core o : Nat) (l : List Byte) : s.Touches [.memTile, .memBadTile, .memTileErr] (s.putTile core o l) :=
  touches_memTile s _ _ _
theorem State.freeBytes_touches (n : Nat) : s.Touches [.free] (s.freeBytes n).2 := touches_free s _
theorem State.putFar_touches (pool a : Nat) (l : List Byte) : s.Touches [.tier] (s.putFar pool a l) := touches_tier s _
theorem State.setCore_touches (core : Nat) (v : Core) : s.Touches [.cores] (s.setCore core v) := touches_cores s _
theorem State.setQueue_touches (q : Nat) (v : Queue) : s.Touches [.qs] (s.setQueue q v) := touches_qs s _

theorem State.havocTile_touches (core off n : Nat) : s.Touches havocParts (s.havocTile core off n) :=
  ((s.freeBytes_touches n).mono (by decide)).trans ((State.putTile_touches _ _ _ _).mono (by decide))

theorem State.havocTileAt_touches (core g f m n : Nat) : s.Touches havocParts (s.havocTileAt core g f m n) :=
  touches_foldl (fun t _ => t.havocTile_touches _ _ _) _ s

theorem State.havocNear_touches (a n : Nat) : s.Touches havocParts (s.havocNear a n) :=
  ((s.freeBytes_touches n).mono (by decide)).trans
    (touches_foldl (fun t _ => touches_ite (.refl _ t) ((t.putNear_touches _ _).mono (by decide))) _ _)

theorem State.havocTiered_touches (o n : Nat) : s.Touches havocParts (s.havocTiered o n) := by
  refine touches_foldl (fun t e => ?_) _ s
  split
  · exact t.havocNear_touches _ _
  · exact ((t.freeBytes_touches _).mono (by decide)).trans ((State.putFar_touches _ _ _ _).mono (by decide))
  · exact .refl _ t

theorem State.havocDest_touches (d : Desc) : s.Touches havocParts (s.havocDest d) := by
  refine touches_ite (touches_foldl (fun t r => touches_ite (.refl _ t) ?_) _ s) (.refl _ s)
  split
  · exact t.havocNear_touches _ _
  · exact t.havocTile_touches _ _ _
  · exact t.havocTiered_touches _ _
  · exact .refl _ t

theorem State.havocWalk_touches (core : Nat) (w : AsWalk) : s.Touches havocParts (s.havocWalk core w) :=
  touches_ite (.refl _ s)
    ((((s.havocTile_touches _ _ _).trans (touches_ite (State.havocTile_touches _ _ _ _) (.refl _ _))).trans
      (State.havocTile_touches _ _ _ _)).trans (State.havocTile_touches _ _ _ _))

theorem State.havocChain_touches (r : ChainRun) : s.Touches havocParts (s.havocChain r) :=
  touches_ite (s.havocNear_touches _ _) (.refl _ s)

theorem State.kvImages_touches (pool : Nat) (l : List KvPage) : s.Touches [.memNear] (s.kvImages pool l) := by
  refine touches_foldl (fun t g => ?_) l s
  split
  · exact t.putNear_touches _ _
  · exact .refl _ t

theorem State.unpinWalk_touches (w : Option AsWalk) : s.Touches [.memNear] (s.unpinWalk w) := by
  cases w with
  | none => exact .refl _ s
  | some w => exact touches_ite (s.kvImages_touches _ _) (.refl _ s)

theorem State.dropRequests_touches (mine : Purpose → Bool) : s.Touches [.fab] (s.dropRequests mine) :=
  (touches_foldl (fun t _ => t.setPort_touches _ _) _ s).trans (touches_fab _ _)

/-! ### The item of a vector engine -/

/-- One part of a vector item's outputs left undefined. -/
def State.veHavocPart (core : Nat) (x : BitVec 512) (m n : Nat) (t : State) (p : Nat) : State :=
  match veKindD x with
  | 0 => t.havocTileAt core (veDst x p) (veOutFmt x) (if veOp x = 3 ∧ veSub x = 1 then n else m)
      (if veOp x = 3 ∧ veSub x = 1 then m else n)
  | 2 =>
    let tag := (Config.freeWord t.free 4096).zeroExtend 128 <<< 64 ||| (Config.freeWord t.free 4097).zeroExtend 128
    let words := Store.setAll 0 [] ((List.range 4096).map fun i => (i, (Config.freeWord t.free i).truncate 32))
    { t with free := t.free + 1 }.setBuf core (veDst x p) { m := m, n := n, tag := tag, words := words }
  | _ => t

/-- The tags and the mask that a row-statistics item had begun to write left undefined. -/
def State.veHavocStats (s : State) (core : Nat) (x : BitVec 512) (m : Nat) : State :=
  if veOp x = 2 then
    let s := s.recTags core (veAux x)
    if veStat x then s.havocTile core (2048 * veAux x) (64 * m) else s
  else s

theorem State.veHavoc_eq (core : Nat) (x : BitVec 512) (m n : Nat) :
    s.veHavoc core x m n = ((veRange x).foldl (State.veHavocPart core x m n) s).veHavocStats core x m := rfl

theorem State.veHavocStats_touches (core : Nat) (x : BitVec 512) (m : Nat) : s.Touches havocParts (s.veHavocStats core x m) :=
  have htags : s.Touches havocParts (s.recTags core (veAux x)) := (s.putTile_touches _ _ _).mono (by decide)
  touches_ite (touches_ite (htags.trans (State.havocTile_touches _ _ _ _)) htags) (.refl _ s)

theorem State.veHavocPart_touches (core : Nat) (x : BitVec 512) (m n p : Nat) :
    s.Touches (.bufs :: havocParts) (s.veHavocPart core x m n p) := by
  unfold State.veHavocPart
  split
  · exact (s.havocTileAt_touches _ _ _ _ _).mono (by decide)
  · exact ((touches_free s _).mono (by decide)).trans ((touches_bufs _ _).mono (by decide))
  · exact .refl _ s

theorem State.veHavoc_touches (core : Nat) (x : BitVec 512) (m n : Nat) : s.Touches (.bufs :: havocParts) (s.veHavoc core x m n) :=
  (touches_foldl (fun t p => t.veHavocPart_touches core x m n p) _ s).trans ((State.veHavocStats_touches _ _ _ _).mono (by decide))

theorem State.buf_setBuf (core b c k : Nat) (v : TileBuf) :
    (s.setBuf core b v).buf c k = if c * 4 + k = core * 4 + b then v else s.buf c k :=
  Store.get_set _ s.bufs _ _ v

/-- A vector item abandoned on one core leaves the tile buffers of the others, where it names buffers of its own core alone. -/
theorem State.buf_veHavoc_other (core : Nat) (x : BitVec 512) (m n c k : Nat) (hk : k < 4) (hc : c ≠ core)
    (hdst : veKindD x = 2 → ∀ p, p < veTiles x → veDst x p < 4) : (s.veHavoc core x m n).buf c k = s.buf c k := by
  have hstats : ∀ t : State, (t.veHavocStats core x m).buf c k = t.buf c k := fun t =>
    (t.veHavocStats_touches core x m).buf (by decide) c k
  rw [State.veHavoc_eq, hstats]
  refine foldl_unread (f := fun t => t.buf c k) (fun t p hp => ?_) s
  unfold State.veHavocPart
  split
  · exact (t.havocTileAt_touches core _ _ _ _).buf (by decide) c k
  · next hkind =>
    have hlt := hdst hkind p (by simpa [veRange] using hp)
    rw [State.buf_setBuf, if_neg (by omega)]
    rfl
  · rfl

end

/-! ### A core's work abandoned -/

/-- A core with nothing under way on its engines. -/
def Core.idle (C : Core) : Core :=
  { C with walk := none, yieldPending := false, vec := none, bufClear := false, chain := none, optWait := none }

section
variable (s : State) (core : Nat)

/-- The outputs of a walk, where there is one, left undefined. -/
def State.havocWalkOf : Option AsWalk → State
  | some w => s.havocWalk core w
  | none => s

/-- The outputs of a CHAIN item, where there is one, left undefined. -/
def State.havocChainOf : Option ChainRun → State
  | some r => s.havocChain r
  | none => s

/-- The outputs of the item of a vector engine's queue left undefined. -/
def State.havocVecOf : Option VeWalk → State
  | some w =>
    match (s.queue w.queue).held with
    | some h => s.veHavoc core h.item 64 64
    | none => s
  | none => s

/-- The outputs of a core's descriptors left undefined, and its requests withdrawn. -/
def State.havocDescs : State :=
  ((s.qs.descs.filter fun d => decide (d.core = core)).foldl (fun (t : State) d => t.havocDest d) s).dropRequests
    fun w => decide (w.chainCore = some core)

/-- The outputs of everything under way on a core left undefined. -/
def State.havocCore : State :=
  (((s.havocWalkOf core (s.core core).walk).havocChainOf (s.core core).chain).havocVecOf core (s.core core).vec).havocDescs core

theorem State.abandonCore_eq :
    s.abandonCore core = ((s.havocCore core).setCore core ((s.havocCore core).core core).idle).unpinWalk (s.core core).walk := rfl

theorem State.havocWalkOf_touches (w : Option AsWalk) : s.Touches havocParts (s.havocWalkOf core w) := by
  cases w with
  | none => exact .refl _ s
  | some w => exact s.havocWalk_touches core w

theorem State.havocChainOf_touches (r : Option ChainRun) : s.Touches havocParts (s.havocChainOf r) := by
  cases r with
  | none => exact .refl _ s
  | some r => exact s.havocChain_touches r

theorem State.havocVecOf_touches (w : Option VeWalk) : s.Touches (.bufs :: havocParts) (s.havocVecOf core w) := by
  cases w with
  | none => exact .refl _ s
  | some w =>
    unfold State.havocVecOf
    dsimp only
    split
    · exact s.veHavoc_touches _ _ _ _
    · exact .refl _ s

theorem State.havocDescs_touches : s.Touches (.fab :: havocParts) (s.havocDescs core) :=
  ((touches_foldl (fun t d => t.havocDest_touches d) _ s).mono (by decide)).trans ((State.dropRequests_touches _ _).mono (by decide))

/-- The parts that abandoned work may touch beside the core itself. -/
def outputParts : List Part := .bufs :: .fab :: havocParts

theorem State.havocCore_touches : s.Touches outputParts (s.havocCore core) :=
  ((((s.havocWalkOf_touches core _).mono (by decide)).trans ((State.havocChainOf_touches _ _).mono (by decide))).trans
    ((State.havocVecOf_touches _ _ _).mono (by decide))).trans ((State.havocDescs_touches _ _).mono (by decide))

theorem State.abandonCore_touches : s.Touches (.cores :: outputParts) (s.abandonCore core) :=
  (((s.havocCore_touches core).mono (l' := .cores :: outputParts) (by decide)).trans ((State.setCore_touches _ _ _).mono (by decide))).trans
    ((State.unpinWalk_touches _ _).mono (by decide))

/-- A core abandoned is idle, and the others are as they were. -/
theorem State.core_abandonCore (c : Nat) : (s.abandonCore core).core c = if c = core then (s.core c).idle else s.core c := by
  have hkeep := (s.havocCore_touches core).core (by decide)
  rw [State.abandonCore_eq, (State.unpinWalk_touches _ _).core (by decide), State.core_setCore, hkeep, hkeep]
  split
  · next h => rw [h]
  · rfl

/-- Work abandoned on a core leaves the tile buffers of the others, where its vector item names buffers of its own core alone. -/
theorem State.buf_abandonCore_other (c k : Nat) (hk : k < 4) (hc : c ≠ core)
    (hdst : ∀ w h, (s.core core).vec = some w → (s.queue w.queue).held = some h → veKindD h.item = 2 →
      ∀ p, p < veTiles h.item → veDst h.item p < 4) : (s.abandonCore core).buf c k = s.buf c k := by
  have hseq : s.Touches havocParts ((s.havocWalkOf core (s.core core).walk).havocChainOf (s.core core).chain) :=
    (s.havocWalkOf_touches core _).trans (State.havocChainOf_touches _ _)
  rw [State.abandonCore_eq, (State.unpinWalk_touches _ _).buf (by decide), (State.setCore_touches _ _ _).buf (by decide),
    State.havocCore, (State.havocDescs_touches _ _).buf (by decide), ← hseq.buf (by decide) c k]
  unfold State.havocVecOf
  split
  · next w hw =>
    split
    · next h hh => exact State.buf_veHavoc_other _ _ _ _ _ _ _ hk hc (hdst w h hw (hseq.queue (by decide) w.queue ▸ hh))
    · rfl
  · rfl

end
end Sys2Proof.Machine
end

section
/-! SUPPORT. Every engine stopped: what a trip and a regulator fault leave (R261, R536, R537). -/

namespace Sys2Proof.Machine

/-! ### Status counters lie below the other registers -/

theorem State.reg_count_high (s : State) (st : Status) {o : Nat} (ho : 0x880 ≤ o) : (s.count st).reg o = s.reg o := by
  have := counterOff_range st
  rw [State.reg_count, if_neg (by omega)]

theorem State.reg_countLog_high (s : State) (st : Status) (source unit detail : Nat) {o : Nat} (ho : 0x880 ≤ o) :
    (s.countLog st source unit detail).reg o = s.reg o :=
  ((State.logEvent_touches _ _ _ _ _).reg (by decide) o).trans (s.reg_count_high st ho)

/-! ### An event of the device -/

/-- An event node told: the transactions and the registers above the status counters stay. -/
structure State.EventOnly (s t : State) : Prop where
  touches : s.Touches [.regs, .mgmt] t
  txns : t.mgmt.txns = s.mgmt.txns
  regs : ∀ o, 0x880 ≤ o → t.reg o = s.reg o

theorem State.EventOnly.refl (s : State) : s.EventOnly s := ⟨.refl _ s, rfl, fun _ _ => rfl⟩

theorem State.bump_eventOnly (s : State) {o : Nat} (ho : o < 0x880) (n : Nat) : s.EventOnly (s.bump o n) :=
  ⟨(s.bump_touches o n).mono (by decide), rfl, fun k hk => s.reg_bump_ne o k n (by omega)⟩

theorem State.eventDue_eventOnly (s : State) (d : Option Nat) : s.EventOnly { s with mgmt.eventDue := d } :=
  ⟨(touches_mgmt s _).mono (by decide), rfl, fun _ _ => rfl⟩

theorem State.sendEvent_eventOnly (s : State) : s.EventOnly s.sendEvent := by
  obtain ⟨htouch, htxns, hregs⟩ := s.bump_eventOnly (o := 0x250) (by decide) 1
  exact ⟨htouch.trans ((touches_mgmt _ _).mono (by decide)), htxns, hregs⟩

theorem State.devChanged_eventOnly (s : State) (old : Nat) : s.EventOnly (s.devChanged old) := by
  unfold State.devChanged
  split
  · exact .refl s
  split
  · exact s.bump_eventOnly (by decide) 1
  · split
    · exact s.eventDue_eventOnly _
    split
    · exact s.sendEvent_eventOnly
    · exact s.eventDue_eventOnly _
  · split
    · exact s.sendEvent_eventOnly
    · exact s.eventDue_eventOnly _

/-! ### Transactions rolled back -/

/-- One transaction rolled back. -/
def State.rollback (s : State) (T : Txn) : State := (s.endTxn T 4 .txnAborted 0 0).count .txnAborted

theorem State.rollback_touches (s : State) (T : Txn) : s.Touches [.regs, .mgmt] (s.rollback T) :=
  ((touches_mgmt s _).mono (by decide)).trans ((State.count_touches _ _).mono (by decide))

theorem State.txns_rollback (s : State) (T : Txn) : (s.rollback T).mgmt.txns = s.mgmt.txns.filter fun e => e.num ≠ T.num := rfl

theorem State.mem_txns_rollbacks (l : List Txn) (s : State) (E : Txn) (hE : E ∈ (l.foldl State.rollback s).mgmt.txns) :
    E ∈ s.mgmt.txns ∧ ∀ T ∈ l, E.num ≠ T.num := by
  induction l generalizing s with
  | nil => exact ⟨hE, by simp⟩
  | cons T rest ih =>
    obtain ⟨hmem, hrest⟩ := ih (s.rollback T) hE
    simp only [State.txns_rollback, List.mem_filter, decide_eq_true_eq] at hmem
    exact ⟨hmem.1, by simpa using ⟨hmem.2, hrest⟩⟩

theorem State.rollbackAll_touches (s : State) : s.Touches [.regs, .mgmt] s.rollbackAll :=
  touches_foldl State.rollback_touches _ s

theorem State.txns_rollbackAll (s : State) : s.rollbackAll.mgmt.txns = [] := by
  rw [List.eq_nil_iff_forall_not_mem]
  intro E hE
  obtain ⟨hmem, hne⟩ := State.mem_txns_rollbacks s.mgmt.txns s E hE
  exact hne E hmem rfl

theorem State.reg_rollbackAll (s : State) {o : Nat} (ho : 0x880 ≤ o) : s.rollbackAll.reg o = s.reg o :=
  foldl_unread (f := fun t => t.reg o) (fun t T _ => (t.endTxn T 4 .txnAborted 0 0).reg_count_high .txnAborted ho) s

/-! ### Every engine stopped -/

/-- The work of every core abandoned. -/
def State.abandonAll (s : State) : State := (List.range Config.cores).foldl (fun (t : State) c => t.abandonCore c) s

/-- The descriptors, the items taken, the code and media engines and the clocks of a device that trips. -/
def State.halt (s : State) : State :=
  { s with
    qs.descs := [],
    qs.queues := s.qs.queues.map fun (e : Nat × Queue) => (e.1, { e.2 with held := none }),
    sc := [], media := [],
    pwr.stopped := true, pwr.clk := [], pwr.nextClk := [], pwr.vcoreMv10 := 7000, pwr.wantMv10 := 7000, pwr.thermOut := true }

/-- What follows once the work of every core is abandoned: the halt, the transactions rolled back, and FAULTED. -/
def State.faultAll (s : State) : State := s.halt.rollbackAll.setDev .faulted

theorem State.stopAll_eq (s : State) : s.stopAll = s.abandonAll.faultAll := by
  unfold State.stopAll State.abandonAll
  generalize List.foldl _ _ _ = t
  rfl

theorem State.abandonAll_touches (s : State) : s.Touches (.cores :: outputParts) s.abandonAll :=
  touches_foldl (fun t c => t.abandonCore_touches c) _ s

theorem State.core_abandonAll (s : State) {c : Nat} (hc : isCore c = true) : s.abandonAll.core c = (s.core c).idle := by
  have hmem : c ∈ List.range Config.cores := List.mem_range.2 (of_decide_eq_true hc)
  refine foldl_read_once (f := fun t => t.core c) (g := Core.idle) hmem List.nodup_range (fun t j _ hj => ?_) (fun t => ?_) s
  · rw [State.core_abandonCore, if_neg (Ne.symm hj)]
  · rw [State.core_abandonCore, if_pos rfl]

theorem Store.get_map {α : Type} (d : α) (f : α → α) (m : Store α) (k : Nat) (hd : f d = d) :
    Store.get d (m.map fun e => (e.1, f e.2)) k = f (Store.get d m k) := by
  induction m with
  | nil => exact hd.symm
  | cons e rest ih =>
    simp only [List.map_cons, Store.get]
    split
    · rfl
    split
    · exact hd.symm
    · exact ih

/-- A queue with no item taken. -/
def Queue.empty (Q : Queue) : Queue := { Q with held := none }

theorem State.queue_halt (s : State) (q : Nat) : s.halt.queue q = (s.queue q).empty :=
  Store.get_map _ Queue.empty s.qs.queues q rfl

/-- Every engine stopped, the device FAULTED, VDD_CORE at 0.70 V, and nothing under way. -/
structure State.AllStopped (t : State) : Prop where
  dev : t.dev = .faulted
  vcore : t.pwr.vcoreMv10 = 7000
  stopped : t.pwr.stopped = true
  descs : t.qs.descs = []
  txns : t.mgmt.txns = []
  cores : ∀ c, isCore c = true → (t.core c).walk = none ∧ (t.core c).vec = none ∧ (t.core c).chain = none
  held : ∀ q, (t.queue q).held = none

/-- What follows the halt touches neither engines nor power. -/
theorem State.faultAll_touches_halt (s : State) : s.halt.Touches [.dev, .regs, .mgmt] s.faultAll :=
  have hdev : ∀ (t : State) d, t.Touches [.dev] { t with dev := d } := fun t d p hp => by cases p <;> simp_all [Part.same]
  (((State.rollbackAll_touches _).mono (l' := [.dev, .regs, .mgmt]) (by decide)).trans ((hdev _ .faulted).mono (by decide))).trans
    ((State.devChanged_eventOnly _ _).touches.mono (by decide))

theorem State.faultAll_allStopped (s : State) (hidle : ∀ c, isCore c = true → s.core c = (s.core c).idle) : s.faultAll.AllStopped where
  dev := (State.devChanged_eventOnly _ _).touches .dev (by decide)
  vcore := congrArg PwrSt.vcoreMv10 (s.faultAll_touches_halt .pwr (by decide))
  stopped := congrArg PwrSt.stopped (s.faultAll_touches_halt .pwr (by decide))
  descs := congrArg QueueSt.descs (s.faultAll_touches_halt .qs (by decide))
  txns := (State.devChanged_eventOnly _ _).txns.trans (State.txns_rollbackAll _)
  cores := fun c hc => by
    have h : s.faultAll.core c = (s.core c).idle := (s.faultAll_touches_halt.core (by decide) c).trans (hidle c hc)
    rw [h]
    exact ⟨rfl, rfl, rfl⟩
  held := fun q => by rw [s.faultAll_touches_halt.queue (by decide), State.queue_halt]; rfl

theorem State.reg_faultAll (s : State) {o : Nat} (ho : 0x880 ≤ o) : s.faultAll.reg o = s.reg o :=
  ((State.devChanged_eventOnly _ _).regs o ho).trans (s.halt.reg_rollbackAll ho)

theorem State.tripped_faultAll (s : State) : s.faultAll.pwr.tripped = s.pwr.tripped :=
  (congrArg PwrSt.tripped (s.faultAll_touches_halt .pwr (by decide))).trans rfl

theorem State.regFault_faultAll (s : State) : s.faultAll.pwr.regFault = s.pwr.regFault :=
  (congrArg PwrSt.regFault (s.faultAll_touches_halt .pwr (by decide))).trans rfl

/-- What stopping every engine does, with the registers above the status counters and the causes as they were. -/
theorem State.stopAll_spec (s : State) :
    s.stopAll.AllStopped ∧ (∀ o, 0x880 ≤ o → s.stopAll.reg o = s.reg o) ∧ s.stopAll.pwr.tripped = s.pwr.tripped ∧
      s.stopAll.pwr.regFault = s.pwr.regFault := by
  have hpwr : s.abandonAll.pwr = s.pwr := s.abandonAll_touches .pwr (by decide)
  have hreg := s.abandonAll_touches.reg (by decide)
  have hidle : ∀ c, isCore c = true → s.abandonAll.core c = (s.abandonAll.core c).idle := fun c hc => by
    rw [s.core_abandonAll hc]
    rfl
  rw [State.stopAll_eq]
  exact ⟨State.faultAll_allStopped _ hidle, fun o ho => (State.reg_faultAll _ ho).trans (hreg o),
    (State.tripped_faultAll _).trans (congrArg _ hpwr), (State.regFault_faultAll _).trans (congrArg _ hpwr)⟩

/-! ### Trips and regulator faults -/

theorem State.trip_of_not_canTrip (s : State) (source unit : Nat) (h : s.canTrip = false) : s.trip source unit = s := by
  rw [State.trip, h]
  rfl

theorem State.regulatorFault_of_not_canTrip (s : State) (h : s.canTrip = false) : s.regulatorFault = s := by
  rw [State.regulatorFault, h]
  rfl

/-- The record of a trip. -/
def State.noteTrip (s : State) (source unit : Nat) : State :=
  ((({ s with pwr.tripped := true } : State).bumpSeen 0x4068 0x4000 2).lifeAdd 11 1).countLog .thermalTrip source unit 0

/-- The record of a regulator fault. -/
def State.noteRegFault (s : State) : State := (({ s with pwr.regFault := true } : State).bumpSeen 0x4070 0x4000 4).lifeAdd 0x4B 1

theorem State.trip_of_canTrip (s : State) (source unit : Nat) (h : s.canTrip = true) :
    s.trip source unit = (s.noteTrip source unit).stopAll := by
  simp only [State.trip, h, Bool.not_true, Bool.false_eq_true, if_false, State.noteTrip]

theorem State.regulatorFault_of_canTrip (s : State) (h : s.canTrip = true) : s.regulatorFault = s.noteRegFault.stopAll := by
  simp only [State.regulatorFault, h, Bool.not_true, Bool.false_eq_true, if_false, State.noteRegFault]

section
variable (s : State)

theorem State.reg_bumpSeen_self (c o b : Nat) (h : c ≠ o) : (s.bumpSeen c o b).reg c = s.reg c + 1 := by
  rw [State.bumpSeen, State.reg_setFlag_ne _ _ _ _ h]
  exact s.reg_bump_self c 1

theorem State.reg_bumpSeen_ne (c o b k : Nat) (hc : k ≠ c) (ho : k ≠ o) : (s.bumpSeen c o b).reg k = s.reg k := by
  rw [State.bumpSeen, State.reg_setFlag_ne _ _ _ _ ho, State.reg_bump_ne _ _ _ _ hc]

theorem State.reg_noteTrip (source unit : Nat) {o : Nat} (ho : 0x880 ≤ o) :
    (s.noteTrip source unit).reg o = (s.bumpSeen 0x4068 0x4000 2).reg o := by
  rw [State.noteTrip, State.reg_countLog_high _ _ _ _ _ ho]
  rfl

theorem State.tripped_noteTrip (source unit : Nat) : (s.noteTrip source unit).pwr.tripped = true :=
  congrArg PwrSt.tripped ((State.countLog_touches _ .thermalTrip source unit 0) .pwr (by decide))

/-- A trip, where the device can: every engine stopped, the trip counted and seen, and every other register above the status counters
as it was. -/
theorem State.trip_spec (source unit : Nat) (h : s.canTrip = true) :
    (s.trip source unit).AllStopped ∧ (s.trip source unit).pwr.tripped = true ∧ (s.trip source unit).reg 0x4068 = s.reg 0x4068 + 1 ∧
      (s.trip source unit).flag 0x4000 2 = true ∧
      ∀ o, 0x880 ≤ o → o ≠ 0x4068 → o ≠ 0x4000 → (s.trip source unit).reg o = s.reg o := by
  rw [s.trip_of_canTrip source unit h]
  obtain ⟨hstop, hreg, htrip, -⟩ := (s.noteTrip source unit).stopAll_spec
  have hread : ∀ o, 0x880 ≤ o → (s.noteTrip source unit).stopAll.reg o = (s.bumpSeen 0x4068 0x4000 2).reg o := fun o ho =>
    (hreg o ho).trans (s.reg_noteTrip source unit ho)
  refine ⟨hstop, htrip.trans (s.tripped_noteTrip _ _), ?_, ?_, fun o ho hc hf => ?_⟩
  · rw [hread _ (by decide), State.reg_bumpSeen_self _ _ _ _ (by decide)]
  · rw [State.flag, hread _ (by decide)]
    exact State.flag_setFlag_self _ _ _ (by decide)
  · rw [hread o ho, State.reg_bumpSeen_ne _ _ _ _ _ hc hf]

/-- A regulator fault, where the device can trip. -/
theorem State.regulatorFault_spec (h : s.canTrip = true) :
    s.regulatorFault.AllStopped ∧ s.regulatorFault.pwr.regFault = true ∧ s.regulatorFault.reg 0x4070 = s.reg 0x4070 + 1 := by
  rw [s.regulatorFault_of_canTrip h]
  obtain ⟨hstop, hreg, -, hfault⟩ := s.noteRegFault.stopAll_spec
  exact ⟨hstop, hfault, (hreg 0x4070 (by decide)).trans (s.reg_bumpSeen_self 0x4070 0x4000 4 (by decide))⟩

/-! ### A stack that trips -/

/-- The trip of a stack counted, once. -/
def State.noteStackTrip (k : Nat) : State := if s.flag (msOff k 0) 7 then s else (s.setFlag (msOff k 0) 7).lifeAdd (0x2D + k) 1

theorem State.stackTrip_eq (k : Nat) : s.stackTrip k = (s.noteStackTrip k).trip 3 (32 * k) := rfl

theorem State.flag_noteStackTrip (k : Nat) : (s.noteStackTrip k).flag (msOff k 0) 7 = true := by
  unfold State.noteStackTrip
  split
  · assumption
  · exact s.flag_setFlag_self _ _ (by decide)

theorem State.canTrip_noteStackTrip (k : Nat) : (s.noteStackTrip k).canTrip = s.canTrip := by
  unfold State.noteStackTrip
  split <;> rfl

theorem State.noteStackTrip_records (k : Nat) : { s.noteStackTrip k with regs := s.regs, wear.life := s.wear.life } = s := by
  unfold State.noteStackTrip
  split <;> rfl

end
end Sys2Proof.Machine
end

section
/-! SUPPORT. Waiters released with a status, and objects poisoned: what they leave of registers, cores and semaphores (R372, R380, R390). -/

namespace Sys2Proof.Machine

/-! ### Releases -/

/-- A register that no release of a waiter writes: it lies above the status counters, and its offset ends in 8. -/
def Spared (o : Nat) : Prop := 0x880 ≤ o ∧ o % 256 = 8

/-- What a core keeps when waiters are released: it is fenced or not, its reservation, and that it has no request. -/
structure Core.Kept (C D : Core) : Prop where
  fenced : D.fenced = C.fenced
  lr : D.lr = C.lr
  sw : C.sw = none → D.sw = none

/-- What a semaphore keeps when objects are poisoned: its owner, its state unless it is poisoned, and that nobody waits. -/
structure Sem.Kept (S T : Sem) : Prop where
  owner : T.ownCore = S.ownCore
  state : T.state = S.state ∨ T.state = .poisoned
  quiet : S.waiters = [] → T.waiters = []

/-- Waiters released and objects poisoned: only the parts of the list are touched, and of these the spared registers, cores and
semaphores keep what they keep. -/
structure State.Releases (l : List Part) (s t : State) : Prop where
  touches : s.Touches l t
  regs : ∀ o, Spared o → t.reg o = s.reg o
  cores : ∀ c, (s.core c).Kept (t.core c)
  sems : ∀ i, (s.sem i).Kept (t.sem i)

theorem Core.Kept.refl (C : Core) : C.Kept C := ⟨rfl, rfl, id⟩

theorem Core.Kept.trans {C D E : Core} (h : C.Kept D) (k : D.Kept E) : C.Kept E :=
  ⟨k.fenced.trans h.fenced, k.lr.trans h.lr, fun hC => k.sw (h.sw hC)⟩

theorem Sem.Kept.refl (S : Sem) : S.Kept S := ⟨rfl, .inl rfl, id⟩

theorem Sem.Kept.trans {S T U : Sem} (h : S.Kept T) (k : T.Kept U) : S.Kept U := by
  refine ⟨k.owner.trans h.owner, ?_, fun hS => k.quiet (h.quiet hS)⟩
  rcases k.state with hk | hk
  · exact hk ▸ h.state
  · exact .inr hk

section
variable {l l' : List Part} {s t u : State}

theorem State.Releases.refl (l : List Part) (s : State) : s.Releases l s :=
  ⟨.refl l s, fun _ _ => rfl, fun _ => .refl _, fun _ => .refl _⟩

theorem State.Releases.trans (h : s.Releases l t) (k : t.Releases l u) : s.Releases l u :=
  ⟨h.touches.trans k.touches, fun o ho => (k.regs o ho).trans (h.regs o ho), fun c => (h.cores c).trans (k.cores c),
    fun i => (h.sems i).trans (k.sems i)⟩

theorem State.Releases.mono (h : s.Releases l t) (hl : ∀ p ∈ l, p ∈ l') : s.Releases l' t :=
  ⟨h.touches.mono hl, h.regs, h.cores, h.sems⟩

theorem State.Touches.releases (h : s.Touches l t) (hr : .regs ∉ l) (hc : .cores ∉ l) (hs : .sync ∉ l) : s.Releases l t :=
  ⟨h, fun o _ => h.reg hr o, fun c => h.core hc c ▸ .refl _, fun i => h.sem hs i ▸ .refl _⟩

theorem releases_ite {c : Prop} [Decidable c] {a b : State} (ha : s.Releases l a) (hb : s.Releases l b) :
    s.Releases l (if c then a else b) := by
  split
  · exact ha
  · exact hb

/-- A list of updates that each release waiters wherever a condition holds that releases keep. -/
theorem releases_foldl {β : Type} {P : State → Prop} {f : State → β → State} (hP : ∀ {t u}, P t → t.Releases l u → P u)
    (hf : ∀ (t : State) e, P t → t.Releases l (f t e)) (es : List β) (hs : P s) : s.Releases l (es.foldl f s) := by
  induction es generalizing s with
  | nil => exact .refl l s
  | cons e rest ih => exact (hf s e hs).trans (ih (hP hs (hf s e hs)))

theorem releases_foldl_all {β : Type} {f : State → β → State} (hf : ∀ (t : State) e, t.Releases l (f t e)) (es : List β) :
    s.Releases l (es.foldl f s) :=
  releases_foldl (P := fun _ => True) (fun _ _ => trivial) (fun t e _ => hf t e) es trivial

end

/-! ### Registers -/

/-- The registers of the engines that a fault writes are none of the spared ones. -/
theorem not_spared_coreOff {core o : Nat} (h : o % 256 ≠ 8) : ¬ Spared (coreOff core o) := by
  unfold Spared coreOff
  omega

theorem not_spared_counterOff (st : Status) : ¬ Spared st.counterOff := fun h => by
  have := counterOff_range st
  have := h.1
  omega

theorem not_spared_engineRegs (kind fe core : Nat) :
    ¬ Spared (engineRegs kind fe core).1 ∧ ¬ Spared (engineRegs kind fe core).2.2.1 ∧
      ¬ Spared (engineRegs kind fe core).2.2.2.1 := by
  unfold engineRegs
  split <;> exact ⟨not_spared_coreOff (by omega), not_spared_coreOff (by omega), not_spared_coreOff (by omega)⟩

section
variable (s : State)

theorem State.setReg_releases {o : Nat} (ho : ¬ Spared o) (v : W64) : s.Releases [.regs] (s.setReg o v) :=
  ⟨s.setReg_touches o v, fun k hk => s.reg_setReg_ne o k v fun h => ho (h ▸ hk), fun _ => .refl _, fun _ => .refl _⟩

theorem State.bump_releases {o : Nat} (ho : ¬ Spared o) (n : Nat) : s.Releases [.regs] (s.bump o n) := s.setReg_releases ho _

theorem State.setFlag_releases {o : Nat} (ho : ¬ Spared o) (b : Nat) : s.Releases [.regs] (s.setFlag o b) := s.setReg_releases ho _

theorem State.bumpSeen_releases {c o : Nat} (hc : ¬ Spared c) (ho : ¬ Spared o) (b : Nat) : s.Releases [.regs] (s.bumpSeen c o b) :=
  (s.bump_releases hc 1).trans (State.setFlag_releases _ ho b)

theorem State.count_releases (st : Status) : s.Releases [.regs] (s.count st) :=
  releases_ite (.refl _ s) (s.bump_releases (not_spared_counterOff st) 1)

theorem State.faultRec_releases {o : Nat} (ho : ¬ Spared o) (b : Nat) {recs : List (Nat × W64)} (hrecs : ∀ r ∈ recs, ¬ Spared r.1) :
    s.Releases [.regs] (s.faultRec o b recs) := by
  have hfold : s.Releases [.regs] (recs.foldl (fun t r => t.setReg r.1 r.2) s) := by
    induction recs generalizing s with
    | nil => exact .refl _ s
    | cons r rest ih =>
      exact (s.setReg_releases (hrecs r List.mem_cons_self) r.2).trans (ih _ fun e he => hrecs e (List.mem_cons_of_mem r he))
  exact (releases_ite (.refl _ s) hfold).trans (State.setFlag_releases _ ho b)

theorem State.logEvent_releases (st : Status) (source unit detail : Nat) :
    s.Releases [.log, .eventSeq] (s.logEvent st source unit detail) :=
  (s.logEvent_touches st source unit detail).releases (by decide) (by decide) (by decide)

theorem State.countLog_releases (st : Status) (source unit detail : Nat) :
    s.Releases [.regs, .log, .eventSeq] (s.countLog st source unit detail) :=
  ((s.count_releases st).mono (by decide)).trans ((State.logEvent_releases _ st source unit detail).mono (by decide))

theorem State.syncRec_releases (st : Status) (kind index : Nat) : s.Releases [.regs] (s.syncRec st kind index) :=
  s.faultRec_releases (by unfold Spared; decide) 5 (by simp [Spared])

/-! ### Cores, queues and semaphores replaced -/

theorem State.setCore_releases {core : Nat} {C : Core} (h : (s.core core).Kept C) : s.Releases [.cores] (s.setCore core C) := by
  refine ⟨s.setCore_touches core C, fun _ _ => rfl, fun c => ?_, fun _ => .refl _⟩
  rw [State.core_setCore]
  split
  · next hc => exact hc ▸ h
  · exact .refl _

theorem State.setQueue_releases (q : Nat) (Q : Queue) : s.Releases [.qs] (s.setQueue q Q) :=
  (s.setQueue_touches q Q).releases (by decide) (by decide) (by decide)

theorem State.setSem_releases {i : Nat} {S : Sem} (h : (s.sem i).Kept S) : s.Releases [.sync] (s.setSem i S) := by
  refine ⟨touches_sync s _, fun _ _ => rfl, fun _ => .refl _, fun k => ?_⟩
  rw [State.sem_setSem]
  split
  · next hk => exact hk ▸ h
  · exact .refl _

theorem State.setBar_releases (b : Nat) (B : Bar) : s.Releases [.sync] (s.setBar b B) :=
  ⟨touches_sync s _, fun _ _ => rfl, fun _ => .refl _, fun _ => .refl _⟩

/-- A semaphore with the waiters gone for which `p` does not hold. -/
def Sem.keepWaiters (p : Waiter → Bool) (S : Sem) : Sem := { S with waiters := S.waiters.filter p }

theorem Sem.kept_keepWaiters (p : Waiter → Bool) (S : Sem) : S.Kept (S.keepWaiters p) :=
  ⟨rfl, .inl rfl, fun h => by rw [Sem.keepWaiters, h]; rfl⟩

theorem State.keepWaiters_releases (p : Waiter → Bool) (bars : Store Bar) :
    s.Releases [.sync]
      { s with sync.sems := s.sync.sems.map (fun e => (e.1, e.2.keepWaiters p)), sync.bars := bars } := by
  refine ⟨touches_sync s _, fun _ _ => rfl, fun _ => .refl _, fun i => ?_⟩
  have h : Store.get {} (s.sync.sems.map fun e => (e.1, e.2.keepWaiters p)) i = (s.sem i).keepWaiters p :=
    Store.get_map _ (Sem.keepWaiters p) _ i rfl
  exact show (s.sem i).Kept (Store.get {} (s.sync.sems.map fun e => (e.1, e.2.keepWaiters p)) i) from h ▸ Sem.kept_keepWaiters p _

theorem State.dropWaiter_releases (w : Waiter) : s.Releases [.sync] (s.dropWaiter w) := s.keepWaiters_releases _ s.sync.bars

end
end Sys2Proof.Machine
end

section
/-! SUPPORT. Waiters released with OWNER_LOST, and a semaphore or a barrier poisoned (R372, R380). -/

namespace Sys2Proof.Machine

/-- The parts that a wait released with a status may touch. -/
def releaseParts : List Part := [.regs, .cores, .qs, .sync, .fab, .media, .log, .eventSeq]

/-- The parts that an object poisoned without a waiter of a queue may touch. -/
def quietParts : List Part := [.regs, .cores, .sync, .fab, .log, .eventSeq]

section
variable (s : State)

/-! ### Packets -/

theorem State.enqueue_releases (port : Nat) (p : Packet) : s.Releases [.regs, .fab] (s.enqueue port p) :=
  have hport : ∀ P, s.Releases [.fab] (s.setPort port P) := fun P =>
    (s.setPort_touches port P).releases (by decide) (by decide) (by decide)
  ((hport _).mono (by decide)).trans ((State.bump_releases _ (by unfold Spared portOff; omega) _).mono (by decide))

theorem State.forward_releases (p : Packet) : s.Releases [.regs, .fab, .log, .eventSeq] (s.forward p).1 := by
  unfold State.forward
  split
  · exact (s.enqueue_releases _ _).mono (by decide)
  · exact ((s.bumpSeen_releases (by unfold Spared; decide) (by unfold Spared; decide) 0).mono (by decide)).trans
      ((State.logEvent_releases _ _ _ _ _).mono (by decide))

theorem State.sendOn_releases (p : Packet) : s.Releases [.regs, .fab, .log, .eventSeq] (s.sendOn p) :=
  releases_ite (s.forward_releases p) ((s.forward_releases p).trans ((State.count_releases _ _).mono (by decide)))

theorem State.endPeers_releases (d : Desc) : s.Releases [.regs, .fab, .log, .eventSeq] (s.endPeers d) := by
  refine releases_ite (.refl _ s) (releases_foldl_all (fun t e => releases_ite ?_ (.refl _ t)) _)
  exact (((touches_fab t _).releases (by decide) (by decide) (by decide)).mono (by decide)).trans (State.sendOn_releases _ _)

/-! ### Items, descriptors and requests that end -/

theorem State.stopQueue_releases (q why : Nat) : s.Releases [.qs] (s.stopQueue q why) := releases_ite (.refl _ s) (s.setQueue_releases q _)

theorem State.recordFault_releases (q : Nat) (index : W32) (second : W64) (st : Status) :
    s.Releases [.regs, .qs] (s.recordFault q index second st) := by
  obtain ⟨hstatus, hfirst, hsecond⟩ := not_spared_engineRegs (s.queue q).kind (s.queue q).fe (s.queue q).core
  have hrec := s.faultRec_releases hstatus (engineRegs (s.queue q).kind (s.queue q).fe (s.queue q).core).2.1
    (recs := [(_, faultWord st q), (_, second)]) (by simpa using ⟨hfirst, hsecond⟩)
  exact ((hrec.mono (by decide)).trans ((State.stopQueue_releases _ q 2).mono (by decide))).trans
    ((State.setQueue_releases _ q _).mono (by decide))

/-- The queue of an item that ends. -/
def State.endHeld (s : State) (q : Nat) (index : W32) : State :=
  s.setQueue q { (s.queue q).finishItem index with held := none, waitSince := none, readySince := none }

theorem State.endItem_of_none (q : Nat) (st : Status) (h : (s.queue q).held = none) : s.endItem q st = s := by
  simp only [State.endItem, h]

theorem State.endItem_of_held (q : Nat) {st : Status} (hst : st ≠ .ok) {x : Held} (h : (s.queue q).held = some x) :
    s.endItem q st =
      ((s.endHeld q x.index).count st).recordFault q x.index (BitVec.ofNat 64 (itemCookie (s.queue q).kind x.item)) st := by
  simp only [State.endItem, h, if_neg hst, State.endHeld]

theorem State.endItem_releases (q : Nat) {st : Status} (hst : st ≠ .ok) : s.Releases [.regs, .qs] (s.endItem q st) := by
  cases h : (s.queue q).held with
  | none => rw [s.endItem_of_none q st h]; exact .refl _ s
  | some x =>
    rw [s.endItem_of_held q hst h]
    exact (((s.setQueue_releases q _).mono (by decide)).trans ((State.count_releases _ st).mono (by decide))).trans
      (State.recordFault_releases _ _ _ _ _)

/-- The counters of a descriptor that fails with a status of its own. -/
def State.noteDescFault (s : State) (d : Desc) (st : Status) : State :=
  match st with
  | .admissionRefused => s.bumpCore d.core (0x2000 + 0x100 * d.fe + 0x30) 1
  | .staleSource => s.bumpSeen (coreOff d.core (0x2000 + 0x100 * d.fe + 0x38)) (coreOff d.core (0x2000 + 0x100 * d.fe)) 2
  | _ => s

theorem State.noteDescFault_releases (d : Desc) (st : Status) : s.Releases [.regs] (s.noteDescFault d st) := by
  unfold State.noteDescFault
  split
  · exact s.bump_releases (not_spared_coreOff (by omega)) 1
  · exact s.bumpSeen_releases (not_spared_coreOff (by omega)) (not_spared_coreOff (by omega)) 2
  · exact .refl _ s

/-- The descriptor gone from the queue that gave it. -/
def State.removeDesc (s : State) (d : Desc) : State :=
  let s := { s with qs.descs := s.qs.descs.filter fun e => e.id ≠ d.id }
  s.setQueue d.queue ((s.queue d.queue).finishItem d.index)

theorem State.failDesc_eq (d : Desc) (st : Status) :
    s.failDesc d st = (((s.removeDesc d).count st).noteDescFault d st).recordFault d.queue d.index (d.index.zeroExtend 64) st := rfl

theorem State.removeDesc_releases (d : Desc) : s.Releases [.qs] (s.removeDesc d) :=
  ((touches_qs s _).trans (State.setQueue_touches _ _ _)).releases (by decide) (by decide) (by decide)

theorem State.failDesc_releases (d : Desc) (st : Status) : s.Releases [.regs, .qs] (s.failDesc d st) := by
  rw [State.failDesc_eq]
  exact ((((s.removeDesc_releases d).mono (by decide)).trans ((State.count_releases _ st).mono (by decide))).trans
    ((State.noteDescFault_releases _ d st).mono (by decide))).trans (State.recordFault_releases _ _ _ _ _)

theorem State.deliver_releases (core : Nat) (v : W64) : s.Releases [.cores] (s.deliver core v) := s.setCore_releases ⟨rfl, rfl, id⟩

theorem State.swResult_releases (core : Nat) (v : W64) : s.Releases [.regs, .cores] (s.swResult core v) := by
  have hend : s.Releases [.regs, .cores] ((s.setCore core { s.core core with sw := none }).setReg (coreOff core 0x3010) v) :=
    ((s.setCore_releases (C := { s.core core with sw := none }) ⟨rfl, rfl, fun _ => rfl⟩).mono (by decide)).trans
      ((State.setReg_releases _ (not_spared_coreOff (by omega)) v).mono (by decide))
  unfold State.swResult
  dsimp only
  split
  · exact releases_ite (hend.trans ((State.deliver_releases _ _ _).mono (l' := [.regs, .cores]) (by decide))) hend
  · exact hend

theorem State.endSw_releases (core : Nat) (st : Status) (value : W32) : s.Releases [.regs, .cores] (s.endSw core st value) := by
  have hend : ∀ v, s.Releases [.regs, .cores]
      ((s.swResult core (BitVec.ofNat 64 (st.code * 2 ^ 48 + value.toNat))).setReg (coreOff core 0x3018) v) := fun v =>
    (s.swResult_releases core _).trans ((State.setReg_releases _ (not_spared_coreOff (by omega)) v).mono (by decide))
  exact releases_ite (hend _) (((hend _).trans ((State.count_releases _ st).mono (by decide))).trans
    ((State.bumpSeen_releases _ (not_spared_coreOff (by omega)) (not_spared_coreOff (by omega)) 16).mono (by decide)))

/-- A CHAIN item gone from its core, with its waits and requests. -/
def State.withdrawChain (s : State) (core : Nat) : State :=
  let s := ((s.dropWaiter (.chain core)).dropWaiter (.chainArr core)).dropRequests fun w => decide (w.chainCore = some core)
  s.setCore core { s.core core with chain := none }

theorem State.withdrawChain_releases (core : Nat) : s.Releases [.cores, .sync, .fab] (s.withdrawChain core) :=
  have hreq : ∀ (t : State) mine, t.Releases [.cores, .sync, .fab] (t.dropRequests mine) := fun t mine =>
    ((t.dropRequests_touches mine).releases (by decide) (by decide) (by decide)).mono (by decide)
  have hcore : ∀ t : State, t.Releases [.cores, .sync, .fab] (t.setCore core { t.core core with chain := none }) := fun t =>
    (t.setCore_releases (C := { t.core core with chain := none }) ⟨rfl, rfl, id⟩).mono (by decide)
  ((((s.dropWaiter_releases _).trans (State.dropWaiter_releases _ _)).mono (by decide)).trans (hreq _ _)).trans (hcore _)

theorem State.failChain_releases (core : Nat) {st : Status} (hst : st ≠ .ok) : s.Releases releaseParts (s.failChain core st) := by
  unfold State.failChain
  split
  · next r _ =>
    have hend : s.Releases releaseParts ((s.withdrawChain core).endItem r.queue st) :=
      ((s.withdrawChain_releases core).mono (by decide)).trans ((State.endItem_releases _ _ hst).mono (by decide))
    exact hend
  · exact .refl _ s

/-! ### Waiters released -/

theorem State.releaseWaiter_releases (w : Waiter) {st : Status} (hst : st ≠ .ok) : s.Releases releaseParts (s.releaseWaiter w st) := by
  cases w with
  | item q => exact (s.endItem_releases q hst).mono (by decide)
  | desc id =>
    unfold State.releaseWaiter
    dsimp only
    split
    · exact (s.failDesc_releases _ st).mono (by decide)
    · exact .refl _ s
  | cp core => exact (s.endSw_releases core st 0).mono (by decide)
  | chain core => exact s.failChain_releases core hst
  | chainArr core => exact s.failChain_releases core hst
  | media eng => exact ((touches_media s _).releases (by decide) (by decide) (by decide)).mono (by decide)

theorem State.releaseAll_releases (i : Nat) {st : Status} (hst : st ≠ .ok) : s.Releases releaseParts (s.releaseAll i st) :=
  releases_foldl_all (fun t w => (((t.syncRec_releases st 0 i).mono (by decide)).trans
    ((State.dropWaiter_releases _ w).mono (by decide))).trans (State.releaseWaiter_releases _ w hst)) _

/-- Nobody waits: nothing is released. -/
theorem State.releaseAll_quiet (i : Nat) (st : Status) (h : (s.sem i).waiters = []) : s.releaseAll i st = s := by
  rw [State.releaseAll, h]
  rfl

theorem State.releaseBar_releases (b : Nat) {st : Status} (p : W32 → Bool) :
    s.Releases quietParts (s.releaseBar b st p) := by
  refine ((s.setBar_releases b _).mono (by decide)).trans (releases_foldl_all (fun t w => releases_ite ?_ ?_) _)
  · exact (t.endSw_releases _ _ _).mono (by decide)
  · exact ((t.syncRec_releases st 1 b).mono (by decide)).trans ((State.endSw_releases _ _ _ _).mono (by decide))

/-! ### Objects poisoned -/

/-- The counters and the event of an object poisoned with `n` waiters. -/
def State.notePoison (s : State) (n unit : Nat) : State :=
  let s := (s.bumpSeen 0x3020 0x3004 3).bump 0x3028 n
  if n = 0 then s.countLog .ownerLost 6 unit 0 else s.logEvent .ownerLost 6 unit 0

theorem State.notePoison_releases (n unit : Nat) : s.Releases [.regs, .log, .eventSeq] (s.notePoison n unit) :=
  have hcount := ((s.bumpSeen_releases (c := 0x3020) (o := 0x3004) (by unfold Spared; decide) (by unfold Spared; decide) 3).trans
    (State.bump_releases _ (o := 0x3028) (by unfold Spared; decide) n)).mono (l' := [.regs, .log, .eventSeq]) (by decide)
  releases_ite (hcount.trans (State.countLog_releases _ _ _ _ _)) (hcount.trans ((State.logEvent_releases _ _ _ _ _).mono (by decide)))

/-- A semaphore frozen. -/
def State.freeze (s : State) (i : Nat) : State := s.setSem i { s.sem i with state := .poisoned }

theorem State.freeze_releases (i : Nat) : s.Releases [.sync] (s.freeze i) := s.setSem_releases ⟨rfl, .inr rfl, id⟩

theorem State.poisonSem_of_live (i : Nat) (h : (s.sem i).state = .live) :
    s.poisonSem i = ((s.freeze i).releaseAll i .ownerLost).notePoison (s.sem i).waiters.length i := by
  rw [State.poisonSem]
  exact if_neg (not_not_intro h)

theorem State.poisonSem_of_not_live (i : Nat) (h : (s.sem i).state ≠ .live) : s.poisonSem i = s := if_pos h

theorem State.poisonSem_releases (i : Nat) : s.Releases releaseParts (s.poisonSem i) := by
  by_cases h : (s.sem i).state = .live
  · rw [s.poisonSem_of_live i h]
    exact (((s.freeze_releases i).mono (by decide)).trans (State.releaseAll_releases _ i (by decide))).trans
      ((State.notePoison_releases _ _ _).mono (by decide))
  · rw [s.poisonSem_of_not_live i h]
    exact .refl _ s

/-- A semaphore on which nobody waits is poisoned without a queue touched. -/
theorem State.poisonSem_releases_quiet (i : Nat) (hq : (s.sem i).waiters = []) : s.Releases quietParts (s.poisonSem i) := by
  by_cases h : (s.sem i).state = .live
  · rw [s.poisonSem_of_live i h, State.releaseAll_quiet _ _ _ (((s.freeze_releases i).sems i).quiet hq)]
    exact ((s.freeze_releases i).mono (by decide)).trans ((State.notePoison_releases _ _ _).mono (by decide))
  · rw [s.poisonSem_of_not_live i h]
    exact .refl _ s

theorem State.poisoned_poisonSem (i : Nat) (h : (s.sem i).state = .live) : ((s.poisonSem i).sem i).state = .poisoned := by
  have hfrozen : ((s.freeze i).sem i).state = .poisoned := by rw [State.freeze, State.sem_setSem_self]
  rw [s.poisonSem_of_live i h]
  have hkept := (((State.releaseAll_releases (s.freeze i) i (st := .ownerLost) (by decide)).trans
    ((State.notePoison_releases _ (s.sem i).waiters.length i).mono (by decide))).sems i).state
  exact hkept.elim (·.trans hfrozen) id

theorem State.spreadFault_releases (b : Nat) (m : SyncMsg) : s.Releases quietParts (s.spreadFault b m) := by
  have hsend : ∀ (t : State) chip round, t.Releases quietParts (t.sendSync chip b m round) := fun t chip round =>
    (t.sendOn_releases _).mono (by decide)
  exact releases_ite (.refl _ s) (releases_ite (releases_foldl_all (fun t c => hsend t c _) _) (hsend s _ _))

theorem State.poisonBarHere_releases (b : Nat) : s.Releases quietParts (s.poisonBarHere b) :=
  releases_ite ((((s.setBar_releases b _).mono (by decide)).trans (State.releaseBar_releases _ _ _)).trans
    ((State.notePoison_releases _ (s.bar b).waiters.length (0x10000 + b)).mono (by decide))) (.refl _ s)

theorem State.poisonBar_releases (b : Nat) : s.Releases quietParts (s.poisonBar b) :=
  releases_ite ((s.poisonBarHere_releases b).trans (State.spreadFault_releases _ _ _)) (.refl _ s)

end
end Sys2Proof.Machine
end

section
/-! SUPPORT. Every object of an owner poisoned, and a core entered in the retirement record (R372, R380, R390, R481). -/

namespace Sys2Proof.Machine

/-! ### Every object of an owner poisoned -/

/-- On no semaphore of a core does anyone wait. -/
def State.Quiet (core : Nat) (s : State) : Prop := ∀ i, (s.sem i).ownCore = core → (s.sem i).waiters = []

theorem State.Quiet.of_releases {core : Nat} {l : List Part} {s t : State} (h : s.Quiet core) (k : s.Releases l t) : t.Quiet core :=
  fun i hi => (k.sems i).quiet (h i ((k.sems i).owner.symm.trans hi))

/-- One semaphore of a core poisoned, where it is the core's. -/
def State.poisonMine (core : Nat) (s : State) (e : Nat × Sem) : State := if (s.sem e.1).ownCore = core then s.poisonSem e.1 else s

/-- The semaphores of a core poisoned. -/
def State.poisonSems (s : State) (core : Nat) : State := s.sync.sems.foldl (State.poisonMine core) s

/-- The barriers of a core poisoned. -/
def State.poisonBars (s : State) (core : Nat) : State :=
  s.sync.bars.foldl (fun t e => if (t.bar e.1).ownCore = core then t.poisonBar e.1 else t) s

theorem State.poisonOwned_core (s : State) (core : Nat) :
    (s.poisonOwned fun c _ => decide (c = core)) = (s.poisonSems core).poisonBars core := by
  simp only [State.poisonOwned, decide_eq_true_eq]
  rfl

theorem State.poisonMine_releases (core : Nat) (s : State) (e : Nat × Sem) : s.Releases releaseParts (s.poisonMine core e) :=
  releases_ite (s.poisonSem_releases e.1) (.refl _ s)

theorem State.poisonMine_releases_quiet (core : Nat) (s : State) (e : Nat × Sem) (hq : s.Quiet core) :
    s.Releases quietParts (s.poisonMine core e) := by
  unfold State.poisonMine
  split
  · next h => exact s.poisonSem_releases_quiet e.1 (hq e.1 h)
  · exact .refl _ s

theorem State.poisonBars_releases (s : State) (core : Nat) : s.Releases quietParts (s.poisonBars core) :=
  releases_foldl_all (fun t (e : Nat × Bar) => releases_ite (t.poisonBar_releases e.1) (.refl _ t)) _

theorem State.poisonOwned_releases (s : State) (core : Nat) :
    s.Releases releaseParts (s.poisonOwned fun c _ => decide (c = core)) := by
  rw [State.poisonOwned_core]
  exact (releases_foldl_all (State.poisonMine_releases core) _).trans ((State.poisonBars_releases _ core).mono (by decide))

theorem State.poisonOwned_releases_quiet (s : State) (core : Nat) (hq : s.Quiet core) :
    s.Releases quietParts (s.poisonOwned fun c _ => decide (c = core)) := by
  rw [State.poisonOwned_core]
  exact (releases_foldl (fun h k => h.of_releases k) (State.poisonMine_releases_quiet core) _ hq).trans (State.poisonBars_releases _ core)

theorem Sem.Kept.poisoned {S T : Sem} (h : S.Kept T) (hS : S.state = .poisoned) : T.state = .poisoned :=
  h.state.elim (·.trans hS) id

/-- A live semaphore of the core that a list of semaphores names is poisoned when the list has been gone through. -/
theorem State.poisoned_foldl {core i : Nat} (l : List (Nat × Sem)) (s : State) (hown : (s.sem i).ownCore = core)
    (hs : (s.sem i).state = .poisoned ∨ (s.sem i).state = .live ∧ i ∈ l.map Prod.fst) :
    ((l.foldl (State.poisonMine core) s).sem i).state = .poisoned := by
  induction l generalizing s with
  | nil => simpa using hs
  | cons e rest ih =>
    have hkept := (State.poisonMine_releases core s e).sems i
    refine ih _ (hkept.owner.trans hown) ?_
    rcases hs with hs | ⟨hlive, hmem⟩
    · exact .inl (hkept.poisoned hs)
    · rcases hkept.state with hstate | hstate
      · by_cases he : e.1 = i
        · left
          rw [State.poisonMine, he, if_pos hown]
          exact s.poisoned_poisonSem i hlive
        · refine .inr ⟨hstate.trans hlive, ?_⟩
          simpa [Ne.symm he] using hmem
      · exact .inl hstate

theorem Store.mem_keys_of_get_ne {α : Type} (d : α) (m : Store α) (k : Nat) (h : Store.get d m k ≠ d) : k ∈ m.map Prod.fst := by
  induction m with
  | nil => exact absurd rfl h
  | cons e rest ih =>
    simp only [Store.get] at h
    rw [List.map_cons, List.mem_cons]
    split at h
    · next hk => exact .inl hk
    split at h
    · exact absurd rfl h
    · exact .inr (ih h)

theorem State.poisoned_poisonOwned (s : State) {core i : Nat} (hown : (s.sem i).ownCore = core) (hlive : (s.sem i).state = .live) :
    ((s.poisonOwned fun c _ => decide (c = core)).sem i).state = .poisoned := by
  have hkey : i ∈ s.sync.sems.map Prod.fst := Store.mem_keys_of_get_ne ({} : Sem) s.sync.sems i fun h => by
    have hfree : s.sem i = {} := h
    rw [hfree] at hlive
    cases hlive
  rw [State.poisonOwned_core]
  exact ((State.poisonBars_releases _ core).sems i).poisoned (State.poisoned_foldl _ s hown (.inr ⟨hlive, hkey⟩))

/-! ### The record of a core -/

theorem State.EventOnly.releases {s t : State} (h : s.EventOnly t) : s.Releases [.regs, .mgmt] t :=
  ⟨h.touches, fun o ho => h.regs o ho.1, fun c => h.touches.core (by decide) c ▸ .refl _,
    fun i => h.touches.sem (by decide) i ▸ .refl _⟩

/-- The parts that an entry of the retirement record may touch. -/
def recordParts : List Part := [.regs, .wear, .mgmt, .log, .eventSeq]

section
variable (s : State)

theorem State.withWear_releases (x : WearSt) : s.Releases [.wear] { s with wear := x } :=
  (touches_wear s x).releases (by decide) (by decide) (by decide)

/-- Entry into unfitness noted. -/
def State.noteFitness (s : State) (d u : Bool) : State :=
  let s := if d && !s.wear.degraded then s.lifeAdd 9 1 else s
  if u && !s.wear.unfit then (s.lifeAdd 10 1).countLog .unfit 0 0 0 else s

theorem State.noteFitness_releases (d u : Bool) : s.Releases recordParts (s.noteFitness d u) := by
  have hlife : ∀ (t : State) sub, t.Releases recordParts (t.lifeAdd sub 1) := fun t _ => (t.withWear_releases _).mono (by decide)
  have hdegraded : s.Releases recordParts (if d && !s.wear.degraded then s.lifeAdd 9 1 else s) := releases_ite (hlife s 9) (.refl _ s)
  exact hdegraded.trans (releases_ite ((hlife _ 10).trans ((State.countLog_releases _ _ _ _ _).mono (by decide))) (.refl _ _))

theorem State.evalFitness_releases : s.Releases recordParts s.evalFitness :=
  ((s.noteFitness_releases s.isDegraded s.isUnfit).trans ((State.withWear_releases _ _).mono (by decide))).trans
    ((State.devChanged_eventOnly _ _).releases.mono (by decide))

theorem State.recordCore_releases (core : Nat) (e : RetEntry) : s.Releases recordParts (s.recordCore core e) := by
  have hflag : ∀ x, s.Releases recordParts (({ s with wear := x } : State).setFlag 0xF000 3) := fun x =>
    ((s.withWear_releases x).mono (by decide)).trans ((State.setFlag_releases _ (by unfold Spared; decide) 3).mono (by decide))
  exact releases_ite (hflag _)
    (releases_ite (((s.withWear_releases _).mono (by decide)).trans (State.evalFitness_releases _)) (hflag _))

theorem State.releaseClaim_releases : s.Releases [.regs, .mgmt] s.releaseClaim :=
  have hmgmt : ∀ (t : State) x, t.Releases [.regs, .mgmt] { t with mgmt := x } := fun t x =>
    ((touches_mgmt t x).releases (by decide) (by decide) (by decide)).mono (by decide)
  releases_ite (hmgmt s _) (((s.setReg_releases (by unfold Spared; decide) 0).mono (by decide)).trans (hmgmt _ _))

end
end Sys2Proof.Machine
end

section
/-! SUPPORT. A core fenced, and O51 (R51, R125, R175, R261, R362, R372, R536, R537, R544). -/

namespace Sys2Proof.Machine

/-! ### The work of a core withdrawn -/

/-- A descriptor withdrawn from its queue and from the chips asked about it. -/
def State.withdrawDesc (s : State) (d : Desc) : State :=
  (s.setQueue d.queue ((s.queue d.queue).finishItem d.index)).endPeers d

/-- The waits, the work and the descriptors of a core withdrawn. -/
def State.withdrawWork (s : State) (core : Nat) : State :=
  let s := (s.dropWaits core).abandonCore core
  (s.qs.descs.filter fun d => decide (d.core = core)).foldl State.withdrawDesc s

/-- The queues of a core fenced, its descriptors, write-backs and balance gone. -/
def State.fenceQueues (s : State) (core : Nat) : State :=
  { s with
    qs.descs := s.qs.descs.filter fun d => d.core ≠ core,
    qs.buffers := s.qs.buffers.filter fun b => !(b.chip.isNone && decide ((s.queue b.queue).core = core)),
    qs.queues := s.qs.queues.map fun (e : Nat × Queue) => if e.2.core = core then (e.1, e.2.fence) else e,
    mem.wbWaits := s.mem.wbWaits.filter fun w => w.core ≠ core,
    pwr.balance := Store.set 0 s.pwr.balance core 0 }

/-- A core sealed off: its engines' memories wiped, its grant zero, its control processor without request and reservation. -/
def State.sealCore (s : State) (core : Nat) : State :=
  let s := (s.wipeEngines core).setReg (coreOff core 0x9008) 0
  s.setCore core { s.core core with fenced := true, sw := none, lr := none }

/-- A fenced core entered in the retirement record, and its claim released. -/
def State.noteFence (s : State) (core : Nat) : State :=
  let s := s.recordCore core ⟨7, core, s.physOf core, 0⟩
  if s.mbClaim = core then s.releaseClaim else s

/-- What a fence leaves behind: the core's objects poisoned, and the core recorded. -/
def State.afterFence (s : State) (core : Nat) : State := (s.poisonOwned fun c _ => decide (c = core)).noteFence core

/-- A core with its work withdrawn and its queues fenced. -/
def State.fenced (s : State) (core : Nat) : State := (s.withdrawWork core).fenceQueues core

theorem State.fenceCore_eq (s : State) (core : Nat) : s.fenceCore core = ((s.fenced core).sealCore core).afterFence core := rfl

/-- What a queue keeps while descriptors are withdrawn. -/
structure Queue.Kept (Q R : Queue) : Prop where
  core : R.core = Q.core
  state : R.state = Q.state

section
variable (s : State) (core : Nat)

theorem State.dropWaits_releases : s.Releases [.sync] (s.dropWaits core) := s.keepWaiters_releases _ _

theorem State.abandonCore_releases : s.Releases (.cores :: outputParts) (s.abandonCore core) := by
  have htouch := s.abandonCore_touches core
  refine ⟨htouch, fun o _ => htouch.reg (by decide) o, fun c => ?_, fun i => htouch.sem (by decide) i ▸ .refl _⟩
  rw [State.core_abandonCore]
  split
  · exact ⟨rfl, rfl, id⟩
  · exact .refl _

theorem State.withdrawDesc_releases (d : Desc) : s.Releases [.regs, .qs, .fab, .log, .eventSeq] (s.withdrawDesc d) :=
  ((s.setQueue_releases _ _).mono (by decide)).trans ((State.endPeers_releases _ d).mono (by decide))

theorem State.queue_withdrawDesc (d : Desc) (q : Nat) : (s.queue q).Kept ((s.withdrawDesc d).queue q) := by
  rw [State.withdrawDesc, (State.endPeers_releases _ d).touches.queue (by decide), State.queue_setQueue]
  split
  · next h => exact h ▸ ⟨rfl, rfl⟩
  · exact ⟨rfl, rfl⟩

theorem State.queue_withdrawDescs (l : List Desc) (q : Nat) : (s.queue q).Kept ((l.foldl State.withdrawDesc s).queue q) := by
  induction l generalizing s with
  | nil => exact ⟨rfl, rfl⟩
  | cons d rest ih =>
    have hfirst := s.queue_withdrawDesc d q
    have hrest := ih (s.withdrawDesc d)
    exact ⟨hrest.core.trans hfirst.core, hrest.state.trans hfirst.state⟩

/-- The parts that the work of a core withdrawn may touch. -/
def withdrawParts : List Part := .cores :: .sync :: .regs :: .qs :: .log :: .eventSeq :: outputParts

theorem State.withdrawDescs_releases (l : List Desc) : s.Releases [.regs, .qs, .fab, .log, .eventSeq] (l.foldl State.withdrawDesc s) :=
  releases_foldl_all State.withdrawDesc_releases l

theorem State.withdrawWork_releases : s.Releases withdrawParts (s.withdrawWork core) :=
  (((s.dropWaits_releases core).mono (by decide)).trans ((State.abandonCore_releases _ core).mono (by decide))).trans
    ((State.withdrawDescs_releases _ _).mono (by decide))

theorem State.queue_withdrawWork (q : Nat) : (s.queue q).Kept ((s.withdrawWork core).queue q) := by
  have hqueue : ((s.dropWaits core).abandonCore core).queue q = s.queue q :=
    ((State.abandonCore_touches _ core).queue (by decide) q).trans ((s.dropWaits_releases core).touches.queue (by decide) q)
  exact hqueue ▸ State.queue_withdrawDescs _ _ q

theorem State.buf_withdrawWork_other (c k : Nat) (hk : k < 4) (hc : c ≠ core)
    (hdst : ∀ w h, (s.core core).vec = some w → (s.queue w.queue).held = some h → veKindD h.item = 2 →
      ∀ p, p < veTiles h.item → veDst h.item p < 4) : (s.withdrawWork core).buf c k = s.buf c k :=
  ((State.withdrawDescs_releases _ _).touches.buf (by decide) c k).trans ((s.dropWaits core).buf_abandonCore_other core c k hk hc hdst)

/-! ### The queues of a core fenced -/

/-- A queue fenced where it is a core's. -/
def Queue.fenceFor (core : Nat) (Q : Queue) : Queue := if Q.core = core then Q.fence else Q

theorem Queue.fence_of_disabled {Q : Queue} (h : Q.state = .disabled) : Q.fence = Q := if_pos h

theorem State.queue_fenceQueues (q : Nat) : (s.fenceQueues core).queue q = (s.queue q).fenceFor core := by
  have hmap : (fun e : Nat × Queue => if e.2.core = core then (e.1, e.2.fence) else e) = fun e => (e.1, e.2.fenceFor core) := by
    funext e
    unfold Queue.fenceFor
    split <;> rfl
  have hdefault : ({} : Queue).fenceFor core = {} := by
    unfold Queue.fenceFor
    split
    · exact Queue.fence_of_disabled rfl
    · rfl
  have hget := Store.get_map ({} : Queue) (Queue.fenceFor core) s.qs.queues q hdefault
  rw [← hmap] at hget
  exact hget

theorem Queue.fence_of_live {Q : Queue} (h : Q.state ≠ .disabled) :
    Q.fence.state = .stopped ∧ Q.fence.why = 8 ∧ Q.fence.faultStatus = Status.ownerLost.code ∧ Q.fence.held = none := by
  have hfinish : ∀ i, (Q.finishItem i).state ≠ .disabled := fun _ => h
  unfold Queue.fence Queue.stop
  rw [if_neg h]
  cases Q.held with
  | none => simp [h]
  | some x => simp [hfinish]

theorem State.fenceQueues_touches : s.Touches [.qs, .memWbWaits, .pwr] (s.fenceQueues core) := fun p hp => by
  cases p <;> simp_all [Part.same, State.fenceQueues]

theorem State.fenceQueues_releases : s.Releases [.qs, .memWbWaits, .pwr] (s.fenceQueues core) :=
  (s.fenceQueues_touches core).releases (by decide) (by decide) (by decide)

/-! ### A core sealed off -/

theorem State.acc_wipeEngines (c k : Nat) (hk : k < 4) : (s.wipeEngines core).acc c k = if c = core then {} else s.acc c k := by
  have h : (s.wipeEngines core).acc c k = if decide ((c * 4 + k) / 4 = core) then {} else s.acc c k := Store.get_erase _ _ _ _
  rw [h]
  simp only [decide_eq_true_eq, show (c * 4 + k) / 4 = c by omega]

theorem State.buf_wipeEngines (c k : Nat) (hk : k < 4) : (s.wipeEngines core).buf c k = if c = core then {} else s.buf c k := by
  have h : (s.wipeEngines core).buf c k = if decide ((c * 4 + k) / 4 = core) then {} else s.buf c k := Store.get_erase _ _ _ _
  rw [h]
  simp only [decide_eq_true_eq, show (c * 4 + k) / 4 = c by omega]

theorem State.ftqOf_wipeEngines : (s.wipeEngines core).ftqOf core = [] := by
  have h : (s.wipeEngines core).ftqOf core = if decide (core = core) then [] else s.ftqOf core := Store.get_erase _ _ _ _
  rw [h, if_pos (decide_eq_true rfl)]

theorem State.core_sealCore : (s.sealCore core).core core = { s.core core with fenced := true, sw := none, lr := none } :=
  State.core_setCore_self _ _ _

theorem State.grant_sealCore : (s.sealCore core).reg (coreOff core 0x9008) = 0  := State.reg_setReg_self (s.wipeEngines core) _ 0

theorem State.sem_sealCore (i : Nat) : (s.sealCore core).sem i = s.sem i := rfl

/-! ### What a fence leaves behind -/

/-- The parts that a fence may touch once a core is sealed off. -/
def afterParts : List Part := .wear :: .mgmt :: releaseParts

/-- The same where no waiter of a queue is released. -/
def quietAfterParts : List Part := .wear :: .mgmt :: quietParts

theorem State.noteFence_releases : s.Releases recordParts (s.noteFence core) :=
  have hrecord := s.recordCore_releases core ⟨7, core, s.physOf core, 0⟩
  releases_ite (hrecord.trans ((State.releaseClaim_releases _).mono (by decide))) hrecord

theorem State.afterFence_releases : s.Releases afterParts (s.afterFence core) :=
  ((s.poisonOwned_releases core).mono (by decide)).trans ((State.noteFence_releases _ core).mono (by decide))

theorem State.afterFence_releases_quiet (hq : s.Quiet core) : s.Releases quietAfterParts (s.afterFence core) :=
  ((s.poisonOwned_releases_quiet core hq).mono (by decide)).trans ((State.noteFence_releases _ core).mono (by decide))

theorem State.poisoned_afterFence {i : Nat} (hown : (s.sem i).ownCore = core) (hlive : (s.sem i).state = .live) :
    ((s.afterFence core).sem i).state = .poisoned :=
  ((State.noteFence_releases _ core).sems i).poisoned (s.poisoned_poisonOwned hown hlive)

/-! ### The fence -/

theorem State.fenced_releases : s.Releases (.memWbWaits :: .pwr :: withdrawParts) (s.fenced core) :=
  ((s.withdrawWork_releases core).mono (by decide)).trans ((State.fenceQueues_releases _ core).mono (by decide))

theorem State.cp_fenceCore :
    ((s.fenceCore core).core core).fenced = true ∧ ((s.fenceCore core).core core).sw = none ∧
      ((s.fenceCore core).core core).lr = none := by
  have hkept := (((s.fenced core).sealCore core).afterFence_releases core).cores core
  rw [State.core_sealCore] at hkept
  exact ⟨hkept.fenced, hkept.sw rfl, hkept.lr⟩

theorem State.grant_fenceCore : (s.fenceCore core).reg (coreOff core 0x9008) = 0 :=
  ((((s.fenced core).sealCore core).afterFence_releases core).regs _ (by unfold Spared coreOff; omega)).trans (State.grant_sealCore _ core)

theorem State.queue_fenceCore (hq : s.Quiet core) {q : Nat} (hcore : (s.queue q).core = core) (hstate : (s.queue q).state ≠ .disabled) :
    ((s.fenceCore core).queue q).state = .stopped ∧ ((s.fenceCore core).queue q).why = 8 ∧
      ((s.fenceCore core).queue q).faultStatus = Status.ownerLost.code ∧ ((s.fenceCore core).queue q).held = none := by
  have hquiet : ((s.fenced core).sealCore core).Quiet core :=
    fun i hi => (hq.of_releases (s.fenced_releases core)) i hi
  have hqueue : (s.fenceCore core).queue q = (s.fenced core).queue q :=
    (((s.fenced core).sealCore core).afterFence_releases_quiet core hquiet).touches.queue (by decide) q
  have hkept := s.queue_withdrawWork core q
  rw [hqueue, State.fenced, State.queue_fenceQueues, Queue.fenceFor, if_pos (hkept.core.trans hcore)]
  exact Queue.fence_of_live fun h => hstate (hkept.state.symm.trans h)

theorem State.acc_fenceCore {c k : Nat} (hk : k < 4) : (s.fenceCore core).acc c k = if c = core then {} else s.acc c k := by
  have hafter := (((s.fenced core).sealCore core).afterFence_releases core).touches.acc (by decide) c k
  have hseal : ((s.fenced core).sealCore core).acc c k = ((s.fenced core).wipeEngines core).acc c k := rfl
  rw [State.fenceCore_eq, hafter, hseal, State.acc_wipeEngines _ _ _ _ hk, (s.fenced_releases core).touches.acc (by decide)]

theorem State.buf_fenceCore {c k : Nat} (hk : k < 4) :
    (s.fenceCore core).buf c k = if c = core then {} else (s.withdrawWork core).buf c k := by
  have hafter := (((s.fenced core).sealCore core).afterFence_releases core).touches.buf (by decide) c k
  have hseal : ((s.fenced core).sealCore core).buf c k = ((s.fenced core).wipeEngines core).buf c k := rfl
  rw [State.fenceCore_eq, hafter, hseal, State.buf_wipeEngines _ _ _ _ hk, State.fenced,
    (State.fenceQueues_releases _ core).touches.buf (by decide)]

theorem State.ftqOf_fenceCore : (s.fenceCore core).ftqOf core = [] :=
  ((((s.fenced core).sealCore core).afterFence_releases core).touches.ftqOf (by decide) core).trans
    ((s.fenced core).ftqOf_wipeEngines core)

theorem State.poisoned_fenceCore {i : Nat} (hown : (s.sem i).ownCore = core) (hlive : (s.sem i).state = .live) :
    ((s.fenceCore core).sem i).state = .poisoned := by
  have hkept := (s.fenced_releases core).sems i
  have hsem : ((s.fenced core).sealCore core).sem i = (s.fenced core).sem i := State.sem_sealCore _ _ _
  rcases hkept.state with hstate | hstate
  · exact State.poisoned_afterFence _ _ ((congrArg _ hsem).trans (hkept.owner.trans hown)) ((congrArg _ hsem).trans (hstate.trans hlive))
  · exact ((((s.fenced core).sealCore core).afterFence_releases core).sems i).poisoned ((congrArg _ hsem).trans hstate)

end

/-! ### The commands -/

theorem live_of_canTrip {s : State} (h : s.canTrip = true) : ¬ (s.dev = .off ∨ s.dev = .reset) := by
  simp only [State.canTrip, decide_eq_true_eq] at h
  exact fun hd => hd.elim h.1 h.2.1

theorem exec_dieTrip (s : State) {die : Nat} (h : die < 6) : exec (.thermalTrip false die) s = .next (s.trip 8 die) := by
  have hexec : exec (.thermalTrip false die) s = ifUnit (decide (die < 6)) "unit" (s.trip 8 die) := rfl
  rw [hexec, decide_eq_true h, ifUnit_true]

theorem exec_stackTrip_unit {s : State} {k : Nat} (hk : isStack k = true) :
    exec (.thermalTrip true k) s = .next (if s.dev = .off ∨ s.dev = .reset then s else s.stackTrip k) := by
  have hexec : exec (.thermalTrip true k) s =
    ifUnit (isStack k) "unit" (if s.dev = .off ∨ s.dev = .reset then s else s.stackTrip k) := rfl
  rw [hexec, hk, ifUnit_true]

theorem exec_stackTrip {s : State} {k : Nat} (hk : isStack k = true) (hlive : ¬ (s.dev = .off ∨ s.dev = .reset)) :
    exec (.thermalTrip true k) s = .next (s.stackTrip k) := by rw [exec_stackTrip_unit hk, if_neg hlive]

theorem exec_stackTrip_dead {s : State} {k : Nat} (hk : isStack k = true) (hdead : s.dev = .off ∨ s.dev = .reset) :
    exec (.thermalTrip true k) s = .next s := by rw [exec_stackTrip_unit hk, if_pos hdead]

theorem exec_coreFence (s : State) {core : Nat} (h : isCore core = true) :
    exec (.coreFence core) s = .next (if s.engineRuns core then s.fenceCore core else s) := by
  have hexec : exec (.coreFence core) s = ifUnit (isCore core) "core" (if s.engineRuns core then s.fenceCore core else s) := rfl
  rw [hexec, h, ifUnit_true]

/-- A stack that trips where the device can: every engine stopped, and its `TRIPPED` set. -/
theorem State.stackTrip_spec (s : State) (k : Nat) (hcan : s.canTrip = true) :
    (s.stackTrip k).AllStopped ∧ (s.stackTrip k).pwr.tripped = true ∧ (s.stackTrip k).flag (msOff k 0) 7 = true := by
  obtain ⟨hstop, htrip, -, -, hreg⟩ := (s.noteStackTrip k).trip_spec 3 (32 * k) ((s.canTrip_noteStackTrip k).trans hcan)
  have hoff : 0xA000 ≤ msOff k 0 := by unfold msOff; omega
  refine ⟨hstop, htrip, ?_⟩
  rw [State.stackTrip_eq, State.flag, hreg _ (by omega) (by omega) (by omega)]
  exact s.flag_noteStackTrip k

/-! ### Settled -/

/-- Settles O51: what stopping every engine does, and what a fence does, are lemmas of their own above. -/
theorem stoppedEngines : Obligations.StoppedEngines := by
  intro s stopped
  have hall : ∀ {t : State}, t.AllStopped → stopped t := fun h =>
    ⟨h.dev, h.vcore, h.stopped, h.descs, h.txns, h.cores, h.held⟩
  refine ⟨fun hcan => ⟨fun die hdie => ?_, fun k hk => ?_, ?_⟩, fun hcan => ⟨fun die hdie => ?_, ?_⟩,
    fun k hk => ⟨fun hdev => ?_, fun hdev => ?_⟩, fun core hcore => ⟨fun hruns => ?_, fun hruns _ => ?_⟩⟩
  · obtain ⟨hstop, htrip, hcount, hseen, -⟩ := s.trip_spec 8 die hcan
    exact ⟨_, exec_dieTrip s hdie, hall hstop, htrip, hcount, hseen⟩
  · obtain ⟨hstop, htrip, hflag⟩ := s.stackTrip_spec k hcan
    exact ⟨_, exec_stackTrip hk (live_of_canTrip hcan), hall hstop, htrip, hflag⟩
  · obtain ⟨hstop, hfault, hcount⟩ := s.regulatorFault_spec hcan
    exact ⟨_, rfl, hall hstop, hfault, hcount⟩
  · rw [exec_dieTrip s hdie, s.trip_of_not_canTrip _ _ hcan]
  · exact congrArg Host.Outcome.next (s.regulatorFault_of_not_canTrip hcan)
  · exact exec_stackTrip_dead hk hdev
  · refine ⟨_, exec_stackTrip hk (by simp [hdev]), ?_⟩
    have hcan : (s.noteStackTrip k).canTrip = false := (s.canTrip_noteStackTrip k).trans (by simp [State.canTrip, hdev])
    rw [State.stackTrip_eq, State.trip_of_not_canTrip _ _ _ hcan]
    exact ⟨s.flag_noteStackTrip k, s.noteStackTrip_records k⟩
  · rw [exec_coreFence s hcore, if_neg (by simp [hruns])]
  · refine ⟨s.fenceCore core, (exec_coreFence s hcore).trans (by rw [if_pos hruns]), ?_⟩
    obtain ⟨hfenced, hsw, hlr⟩ := s.cp_fenceCore core
    refine ⟨hfenced, hsw, hlr, fun hq q => s.queue_fenceCore core hq, fun k hk => ⟨?_, ?_⟩, s.ftqOf_fenceCore core,
      s.grant_fenceCore core, fun i => s.poisoned_fenceCore core, fun c k hk hc => ?_, fun hdst c k hk hc => ?_⟩
    · rw [s.acc_fenceCore core hk, if_pos rfl]
    · rw [s.buf_fenceCore core hk, if_pos rfl]
    · rw [s.acc_fenceCore core hk, if_neg hc]
    · rw [s.buf_fenceCore core hk, if_neg hc, s.buf_withdrawWork_other core c k hk hc hdst]

end Sys2Proof.Machine
end

section
/-! SUPPORT. A semaphore signalled: the waiters it satisfies, and what they leave as it was (R368 to R370, R385). -/

namespace Sys2Proof.Machine

/-- The parts that waiters satisfied may touch. -/
def wakeParts : List Part := [.regs, .cores, .qs, .sync, .media]

/-- Waiters satisfied: only the parts of `wakeParts` are touched, and no queue gets an item to hold. -/
structure State.Wakes (s t : State) : Prop where
  touches : s.Touches wakeParts t
  held : ∀ q, (s.queue q).held = none → (t.queue q).held = none

theorem State.Wakes.refl (s : State) : s.Wakes s := ⟨.refl _ s, fun _ => id⟩

theorem State.Wakes.trans {s t u : State} (h : s.Wakes t) (k : t.Wakes u) : s.Wakes u :=
  ⟨h.touches.trans k.touches, fun q hq => k.held q (h.held q hq)⟩

/-- What touches parts of `wakeParts` other than the queues keeps every queue. -/
theorem State.Touches.wakes {l : List Part} {s t : State} (h : s.Touches l t) (hl : ∀ p ∈ l, p ∈ wakeParts) (hq : .qs ∉ l) :
    s.Wakes t := ⟨h.mono hl, fun q hs => (h.queue hq q).symm ▸ hs⟩

theorem wakes_ite {c : Prop} [Decidable c] {s a b : State} (ha : s.Wakes a) (hb : s.Wakes b) : s.Wakes (if c then a else b) := by
  split
  · exact ha
  · exact hb

theorem wakes_foldl {β : Type} {f : State → β → State} (hf : ∀ (t : State) e, t.Wakes (f t e)) (es : List β) (s : State) :
    s.Wakes (es.foldl f s) := by
  induction es generalizing s with
  | nil => exact .refl s
  | cons e rest ih => exact (hf s e).trans (ih (f s e))

section
variable (s : State)

theorem State.setSem_touches (i : Nat) (S : Sem) : s.Touches [.sync] (s.setSem i S) := touches_sync s _

theorem State.setSem_wakes (i : Nat) (S : Sem) : s.Wakes (s.setSem i S) := (s.setSem_touches i S).wakes (by decide) (by decide)

theorem State.setCore_wakes (core : Nat) (C : Core) : s.Wakes (s.setCore core C) :=
  (s.setCore_touches core C).wakes (by decide) (by decide)

theorem State.swResult_wakes (core : Nat) (v : W64) : s.Wakes (s.swResult core v) :=
  (s.swResult_releases core v).touches.wakes (by decide) (by decide)

theorem State.setDesc_wakes (d : Desc) : s.Wakes (s.setDesc d) := ⟨(touches_qs s _).mono (by decide), fun _ => id⟩

/-- A queue that holds an item may be given another one. -/
theorem State.setQueue_wakes {q : Nat} {h : Held} (hq : (s.queue q).held = some h) (Q : Queue) : s.Wakes (s.setQueue q Q) := by
  refine ⟨(s.setQueue_touches q Q).mono (by decide), fun k hk => ?_⟩
  rw [State.queue_setQueue, if_neg fun e => by simp [← e, hk] at hq]
  exact hk

/-- The decrements of a waiter satisfied, before its requester learns of it. -/
theorem State.takeAll_wakes (w : Waiter) (l : List Nat) : s.Wakes (l.foldl (fun t j => t.setSem j ((t.sem j).takeBy w)) s) :=
  wakes_foldl (fun t j => t.setSem_wakes j _) l s

theorem State.satisfy_wakes (i : Nat) (w : Waiter) : s.Wakes (s.satisfy i w) := by
  have htake := s.takeAll_wakes w (s.waiterSems w i)
  cases w with
  | item q =>
    unfold State.satisfy
    dsimp only
    split
    · next hheld => exact htake.trans (State.setQueue_wakes _ hheld _)
    · exact htake
  | desc id =>
    unfold State.satisfy
    dsimp only
    split
    · exact htake.trans (State.setDesc_wakes _ _)
    · exact htake
  | cp core =>
    unfold State.satisfy
    dsimp only
    split
    · exact .refl s
    · exact (s.setSem_wakes i _).trans (State.swResult_wakes _ core _)
  | chain core =>
    unfold State.satisfy
    dsimp only
    split
    · exact htake.trans (State.setCore_wakes _ core _)
    · exact htake
  | chainArr core =>
    unfold State.satisfy
    dsimp only
    split
    · exact htake.trans (State.setCore_wakes _ core _)
    · exact htake
  | media eng => exact htake.trans ((touches_media _ _).wakes (by decide) (by decide))

theorem State.evalSem_wakes (i : Nat) : s.Wakes (s.evalSem i) :=
  wakes_foldl (fun t w => wakes_ite (t.satisfy_wakes i w) (.refl t)) _ s

theorem State.semAdd_wakes (i n : Nat) : s.Wakes (s.semAdd i n).1 := by
  unfold State.semAdd
  dsimp only
  split
  · exact .refl s
  · exact .refl s
  · have hover : s.Wakes (if (s.sem i).count.toNat + n > 0xFFFFFFFF then s.bumpSeen 0x3010 0x3004 1 else s) :=
      wakes_ite ((s.bumpSeen_touches _ _ _).wakes (by decide) (by decide)) (.refl s)
    exact (hover.trans (State.setSem_wakes _ i _)).trans (State.evalSem_wakes _ i)

theorem State.syncFault_wakes (st : Status) (kind index : Nat) : s.Wakes (s.syncFault st kind index) :=
  ((s.count_touches st).wakes (by decide) (by decide)).trans
    ((State.syncRec_releases _ st kind index).touches.wakes (by decide) (by decide))

theorem State.signalSem_wakes (i : Nat) : s.Wakes (s.signalSem i) :=
  have hadd := s.semAdd_wakes i (s.sem i).add
  wakes_ite hadd (hadd.trans (State.syncFault_wakes _ _ 0 i))

theorem State.signalOpt_wakes (o : Option Nat) : s.Wakes (s.signalOpt o) := by
  cases o with
  | none => exact .refl s
  | some i => exact s.signalSem_wakes i

end
end Sys2Proof.Machine
end

section
/-! SUPPORT. An execute engine's item from its begin to its end: the item begins that `State.mayBegin` says may, and an item whose work ends
with OK leaves its queue without an item (R106, R320, R528, R532). -/

namespace Sys2Proof.Machine

section
variable {s : State} {E : EngineOps} {q : Nat} {x : BitVec 512}

theorem State.held_of_readyItem (h : s.readyItem q = some x) : ∃ H, (s.queue q).held = some H ∧ H.item = x := by
  unfold State.readyItem at h
  cases hH : (s.queue q).held with
  | none => simp [hH] at h
  | some H =>
    rw [hH] at h
    dsimp only at h
    split at h
    · exact ⟨H, rfl, Option.some.inj h⟩
    · cases h

theorem State.peekItem_of_readyItem (h : s.readyItem q = some x) : s.peekItem q = some x := by
  obtain ⟨H, hH, rfl⟩ := State.held_of_readyItem h
  simp only [State.peekItem, hH]

theorem EngineOps.tryBegin_of_mayBegin (h : s.mayBegin E q x) : E.tryBegin s q x = E.begin s q x := by
  obtain ⟨-, -, -, -, hfree, hchosen, hcheck⟩ := h
  simp [EngineOps.tryBegin, hfree, hchosen, hcheck]

/-- A command about an item that may begin begins it. -/
theorem EngineOps.serve_of_mayBegin (h : s.mayBegin E q x) {mine : BitVec 512 → Bool} (hmine : mine x = true) :
    E.serve s q mine = E.begin s q x := by
  have htry := E.tryBegin_of_mayBegin h
  obtain ⟨hkind, htakes, hunder, hready, -, -, -⟩ := h
  obtain ⟨H, hH, -⟩ := State.held_of_readyItem hready
  simp [EngineOps.serve, hkind, htakes, State.peekItem_of_readyItem hready, hmine, hunder, hH, hready, htry]

/-- The state in which an item's work begins: its estimate charged, and the picker's record of it. -/
def EngineOps.charged (E : EngineOps) (s : State) (q : Nat) (x : BitVec 512) : State :=
  let e := E.est s (s.queue q).core x
  (s.charge (s.queue q).core e.2 (s.energy e.1 e.2)).served q

variable (E s q x)

theorem EngineOps.begin_eq : E.begin s q x = E.work (E.charged s q x) q x := rfl

theorem State.charge_touches (core h e : Nat) : s.Touches [.regs, .pwr] (s.charge core h e) :=
  have hpwr : ∀ p : PwrSt, s.Touches [.regs, .pwr] { s with pwr := p } := fun p k hk => by cases k <;> simp_all [Part.same]
  ((hpwr _).trans ((State.bump_touches _ _ _).mono (by decide))).trans ((State.bump_touches _ _ _).mono (by decide))

theorem State.served_touches : s.Touches [.qs] (s.served q) := touches_qs s _

theorem State.queue_served (k : Nat) : (s.served q).queue k = s.queue k := rfl

theorem EngineOps.charged_touches : s.Touches [.regs, .pwr, .qs] (E.charged s q x) :=
  ((s.charge_touches _ _ _).mono (by decide)).trans ((State.served_touches _ q).mono (by decide))

theorem EngineOps.queue_charged (k : Nat) : (E.charged s q x).queue k = s.queue k :=
  (State.queue_served _ q k).trans ((s.charge_touches _ _ _).queue (by decide) k)

theorem State.endItem_ok_touches : s.Touches [.regs, .qs] (s.endItem q .ok) := by
  unfold State.endItem
  dsimp only
  split
  · exact .refl _ s
  · exact ((s.setQueue_touches q _).mono (by decide)).trans ((State.bump_touches _ _ _).mono (by decide))

theorem State.held_endItem_ok : ((s.endItem q .ok).queue q).held = none := by
  unfold State.endItem
  dsimp only
  split
  · next h => exact h
  · exact congrArg Queue.held (State.queue_setQueue_self s q _)

/-- What an engine's item that ends with OK does after its work: its queue holds nothing. -/
theorem EngineOps.work_of_ok {t : State} (hrun : E.run s q x = (t, some (.ok, true))) :
    t.Touches wakeParts (E.work s q x) ∧ ((E.work s q x).queue q).held = none := by
  have hwork : E.work s q x = (t.endItem q .ok).signalOpt (itemRel s.fab.chipNum E.kind x) := by simp [EngineOps.work, hrun]
  have hsignal := (t.endItem q .ok).signalOpt_wakes (itemRel s.fab.chipNum E.kind x)
  rw [hwork]
  exact ⟨((t.endItem_ok_touches q).mono (by decide)).trans hsignal.touches, hsignal.held q (t.held_endItem_ok q)⟩

end
end Sys2Proof.Machine
end

section
/-! SUPPORT. Accumulation keys: the fields of a key that a start sets, and those that further terms leave (R76, R77). -/

namespace Sys2Proof.Machine

theorem bits_lt (x hi lo : Nat) : bits x hi lo < 2 ^ (hi + 1 - lo) := Nat.mod_lt _ (Nat.two_pow_pos _)

theorem bits_eq_div (x hi lo : Nat) : bits x hi lo = x / 2 ^ lo % 2 ^ (hi + 1 - lo) := by rw [bits, Nat.shiftRight_eq_div_pow]

theorem unsigned_lt (w : Nat) (i : Int) : unsigned w i < 2 ^ w := by
  have hpos : (0 : Int) < 2 ^ w := by positivity
  have hlt := Int.emod_lt_of_pos i hpos
  have h0 := Int.emod_nonneg i hpos.ne'
  zify
  rw [unsigned, Int.toNat_of_nonneg h0]
  exact hlt

/-- A number of 10 bits in two's complement reads back. -/
theorem signed_unsigned_10 {i : Int} (hlo : -512 ≤ i) (hhi : i < 512) : signed 10 (unsigned 10 i) = i := by
  unfold signed unsigned
  norm_num
  split <;> omega

theorem signed_10_range (x : Nat) : -512 ≤ signed 10 x ∧ signed 10 x < 512 := by
  unfold signed
  norm_num
  split <;> omega

theorem AccClass.code_lt (c : AccClass) : c.code < 4 := by cases c <;> decide

section
variable {cls a b terms : Nat} {sref lsb : Int} (hcls : cls < 4) (ha : a < 16) (hb : b < 16) (hterms : terms < 2 ^ 17)
include hcls ha hb hterms

theorem toNat_mkKey :
    (mkKey cls a b sref lsb terms).toNat =
      2 ^ 60 + cls * 2 ^ 58 + a * 2 ^ 54 + b * 2 ^ 50 + unsigned 10 sref * 2 ^ 40 + unsigned 8 lsb * 2 ^ 32 + terms := by
  have hsref := unsigned_lt 10 sref
  have hlsb := unsigned_lt 8 lsb
  rw [mkKey, BitVec.toNat_ofNat]
  omega

/-- The fields of a key that a start sets. -/
theorem mkKey_fields (hlo : -512 ≤ sref) (hhi : sref < 512) :
    keyVersion (mkKey cls a b sref lsb terms) = 1 ∧ keyClass (mkKey cls a b sref lsb terms) = cls ∧
      keyFmtA (mkKey cls a b sref lsb terms) = a ∧ keyFmtB (mkKey cls a b sref lsb terms) = b ∧
      keySref (mkKey cls a b sref lsb terms) = sref ∧ keyTerms (mkKey cls a b sref lsb terms) = terms := by
  have hsref := unsigned_lt 10 sref
  have hlsb := unsigned_lt 8 lsb
  have hback := signed_unsigned_10 hlo hhi
  simp only [keyVersion, keyClass, keyFmtA, keyFmtB, keySref, keyTerms, bits_eq_div, toNat_mkKey hcls ha hb hterms]
  generalize unsigned 10 sref = u at *
  have hu : (2 ^ 60 + cls * 2 ^ 58 + a * 2 ^ 54 + b * 2 ^ 50 + u * 2 ^ 40 + unsigned 8 lsb * 2 ^ 32 + terms) / 2 ^ 40 %
      2 ^ (49 + 1 - 40) = u := by omega
  rw [hu]
  refine ⟨?_, ?_, ?_, ?_, hback, ?_⟩ <;> omega

end

/-- Terms added to a key that has room for them change its term count alone. -/
theorem keyTerms_add {k : W64} {terms : Nat} (h : keyTerms k + terms < 2 ^ 17) :
    keyTerms (k + BitVec.ofNat 64 terms) = keyTerms k + terms ∧ keyClass (k + BitVec.ofNat 64 terms) = keyClass k := by
  have hk := k.isLt
  simp only [keyTerms, keyClass, bits_eq_div, BitVec.toNat_add, BitVec.toNat_ofNat] at h ⊢
  omega

end Sys2Proof.Machine
end

section
/-! SUPPORT. Words of an accumulator tile: what the products of an item put into each (R80, R84, R86, R113). -/

namespace Sys2Proof.Machine

theorem wordIx_inj {i j r c : Nat} (hj : j < 64) (hc : c < 64) : wordIx r c = wordIx i j ↔ r = i ∧ c = j := by
  unfold wordIx
  omega

theorem AccTile.word_setWord (t : AccTile) (k ix : Nat) (v : BitVec 96) :
    (t.setWord ix v).word k = if k = ix then v else t.word k := Store.get_set t.fill t.words ix k v

/-- The words of the first `n` columns of row `i` replaced, each by `g` of what it holds. -/
def AccTile.mapRow (g : Nat → Nat → BitVec 96 → BitVec 96) (n : Nat) (t : AccTile) (i : Nat) : AccTile :=
  (List.range n).foldl (fun t j => t.setWord (wordIx i j) (g i j (t.word (wordIx i j)))) t

/-- The words of the first `m` rows and `n` columns replaced, each by `g` of what it holds. -/
def AccTile.mapWords (t : AccTile) (g : Nat → Nat → BitVec 96 → BitVec 96) (m n : Nat) : AccTile := (List.range m).foldl (AccTile.mapRow g n) t

section
variable (t : AccTile) (g : Nat → Nat → BitVec 96 → BitVec 96)

theorem AccTile.mapRow_succ (n i : Nat) :
    AccTile.mapRow g (n + 1) t i =
      (AccTile.mapRow g n t i).setWord (wordIx i n) (g i n ((AccTile.mapRow g n t i).word (wordIx i n))) := by
  simp [AccTile.mapRow, List.range_succ]

theorem AccTile.mapWords_succ (m n : Nat) : t.mapWords g (m + 1) n = AccTile.mapRow g n (t.mapWords g m n) m := by
  simp [AccTile.mapWords, List.range_succ]

theorem AccTile.word_mapRow {n i r c : Nat} (hn : n ≤ 64) (hc : c < 64) :
    (AccTile.mapRow g n t i).word (wordIx r c) = if r = i ∧ c < n then g i c (t.word (wordIx r c)) else t.word (wordIx r c) := by
  induction n with
  | zero => simp [AccTile.mapRow]
  | succ n ih =>
    rw [AccTile.mapRow_succ, AccTile.word_setWord, ih (by omega)]
    by_cases hw : r = i ∧ c = n
    · obtain ⟨rfl, rfl⟩ := hw
      rw [if_pos rfl, if_pos ⟨rfl, by omega⟩, ih (by omega), if_neg (by omega)]
    · rw [if_neg fun e => hw ((wordIx_inj (by omega) hc).1 e)]
      refine if_congr ?_ rfl rfl
      omega

/-- Every word of a tile after its first `m` rows and `n` columns were replaced. -/
theorem AccTile.word_mapWords {m n r c : Nat} (hn : n ≤ 64) (hc : c < 64) :
    (t.mapWords g m n).word (wordIx r c) = if r < m ∧ c < n then g r c (t.word (wordIx r c)) else t.word (wordIx r c) := by
  induction m with
  | zero => simp [AccTile.mapWords]
  | succ m ih =>
    rw [AccTile.mapWords_succ, AccTile.word_mapRow _ _ hn hc, ih]
    by_cases hr : r = m
    · subst hr
      simp
    · simp only [hr, false_and, if_false]
      refine if_congr ?_ rfl rfl
      omega

theorem AccTile.mapRow_keeps (n i : Nat) : (AccTile.mapRow g n t i).key = t.key ∧ (AccTile.mapRow g n t i).owner = t.owner := by
  induction n with
  | zero => exact ⟨rfl, rfl⟩
  | succ n ih => exact AccTile.mapRow_succ t g n i ▸ ih

theorem AccTile.mapWords_keeps (m n : Nat) : (t.mapWords g m n).key = t.key ∧ (t.mapWords g m n).owner = t.owner := by
  induction m with
  | zero => exact ⟨rfl, rfl⟩
  | succ m ih =>
    obtain ⟨hkey, howner⟩ := AccTile.mapRow_keeps (t.mapWords g m n) g n m
    rw [AccTile.mapWords_succ]
    exact ⟨hkey.trans ih.1, howner.trans ih.2⟩

end

/-- A word with the products of the pairs `ps` added: in the float class with one rounding each, in the exact class without (R80, R84). -/
def wordSum (cls : AccClass) (layout : Bool) (l sref : Int) (ps : List TilePair) (i j : Nat) (w : BitVec 96) : BitVec 96 :=
  match cls with
  | .float => (ps.foldl (floatPair layout i j) (w.truncate 32)).zeroExtend 96
  | .exact => (ps.foldl (exactPair layout l sref i j) (XWord.ofBits w, 0, 0)).1.toBits

/-- A fold over pairs whose first part never reads the second. -/
theorem foldl_fst_congr {α β γ : Type} {f : α × γ → β → α × γ} (hf : ∀ x y b, x.1 = y.1 → (f x b).1 = (f y b).1) (l : List β)
    {x y : α × γ} (h : x.1 = y.1) : (l.foldl f x).1 = (l.foldl f y).1 := by
  induction l generalizing x y with
  | nil => exact h
  | cons b rest ih => exact ih (hf x y b h)

/-- The counts of truncated and replaced terms have no effect on the sum. -/
theorem exactPair_fst_congr (layout : Bool) (l sref : Int) (i j : Nat) {x y : XWord × Nat × Nat} (p : TilePair) (h : x.1 = y.1) :
    (exactPair layout l sref i j x p).1 = (exactPair layout l sref i j y p).1 := by
  unfold exactPair
  split
  · exact foldl_fst_congr (fun x y blk hxy => congrArg (XWord.add · _) hxy) _ h
  · exact foldl_fst_congr (fun x y k hxy => congrArg (XWord.add · _) hxy) _ h

/-- What an item's products make of a tile: each valid word gets its sum. -/
theorem AccTile.products_fst (t : AccTile) (cls : AccClass) (layout : Bool) (l sref : Int) (m n : Nat) (ps : List TilePair) :
    (t.products cls layout l sref m n ps).1 = t.mapWords (wordSum cls layout l sref ps) m n := by
  refine (List.foldl_hom Prod.fst fun acc i => ?_).symm
  refine List.foldl_hom Prod.fst fun acc j => ?_
  cases cls with
  | float => rfl
  | exact =>
    have hsum := foldl_fst_congr (fun x y p => exactPair_fst_congr layout l sref i j (x := x) (y := y) p) ps
      (x := (XWord.ofBits (acc.1.word (wordIx i j)), 0, 0)) (y := (XWord.ofBits (acc.1.word (wordIx i j)), acc.2)) rfl
    exact congrArg (fun w : XWord => acc.1.setWord (wordIx i j) w.toBits) hsum

theorem startTile_word (cls : AccClass) (a b : Nat) (sref : Int) (terms q k : Nat) :
    (startTile cls a b sref terms q).word k = if cls = .float then 0x80000000 else 0 := by cases cls <;> rfl

/-- A store built from a list whose values are a function of their keys reads as that function at each key of the list. -/
theorem Store.get_setAll_of_forall {α : Type} [DecidableEq α] (d : α) (f : Nat → α) {l : List (Nat × α)} (hf : ∀ e ∈ l, e.2 = f e.1)
    (m : Store α) (k : Nat) : Store.get d (Store.setAll d m l) k = if k ∈ l.map Prod.fst then f k else Store.get d m k := by
  induction l generalizing m with
  | nil => simp [Store.setAll]
  | cons e rest ih =>
    have hstep : Store.setAll d m (e :: rest) = Store.setAll d (Store.set d m e.1 e.2) rest := rfl
    have he := hf e List.mem_cons_self
    rw [hstep, ih (fun e' h => hf e' (List.mem_cons_of_mem e h)), Store.get_set]
    by_cases hk : k = e.1
    · simp [hk, he]
    · simp only [List.map_cons, List.mem_cons, hk, false_or, if_false]

end Sys2Proof.Machine
end

section
/-! SUPPORT. The matrix engine's products as commands, and O22 (R77, R80 to R82, R84 to R86, R89, R110, R113). -/

namespace Sys2Proof.Machine

/-! ### Reads of sound tile memory -/

/-- Reads of tile memory without an error meet nothing. -/
theorem State.meetTile_of_sound {s : State} (hbad : s.mem.badTile = []) (herr : s.mem.tileErr = []) (core : Nat) (l : List (Nat × Nat)) :
    s.meetTile core l = (s, .ok) := by
  have hseen : s.observeTile core l = s := by simp [State.observeTile, herr]
  have hfind : (l.findSome? fun e => s.tileBad core e.1 e.2) = none :=
    List.findSome?_eq_none_iff.2 fun e _ => by simp [State.tileBad, hbad]
  simp only [State.meetTile, hseen, hfind]

/-! ### Checks -/

theorem foldl_orElse_eq_ok (l : List Status) (a : Status) : l.foldl Status.orElse a = .ok ↔ a = .ok ∧ ∀ st ∈ l, st = .ok := by
  induction l generalizing a with
  | nil => simp
  | cons st rest ih =>
    rw [List.foldl_cons, ih, Status.orElse]
    split
    · next h => simp [h]
    · next h => simp [h]

theorem firstBad_eq_ok {l : List Status} : firstBad l = .ok ↔ ∀ st ∈ l, st = .ok := by simp [firstBad, foldl_orElse_eq_ok]

theorem need_eq_ok {b : Bool} {st : Status} (hst : st ≠ .ok) : need b st = .ok ↔ b = true := by cases b <;> simp [need, hst]

section
variable {s : State} {q : Nat} {x : BitVec 512} (hop : mmOpcode x = 0) (hcheck : s.matrixCheck q x = .ok)
include hop hcheck

theorem mmaCheck_of_checked : s.mmaCheck q x = .ok := by
  have heq : s.matrixCheck q x =
      if fld x 511 508 ≠ 1 then .versionUnsupported else if mmaReservedOk x then s.mmaCheck q x else .reservedNonzero := by
    simp only [State.matrixCheck, hop]
  rw [heq] at hcheck
  split at hcheck
  · cases hcheck
  · split at hcheck
    · exact hcheck
    · cases hcheck

/-- An item that goes on with an accumulation finds room for its terms. -/
theorem terms_of_checked (h : mmAccOp x ≠ 1) :
    keyTerms (s.acc (s.queue q).core (mmTile x)).key + termsOf (s.mmTilePairs (s.queue q).core x) ≤ 65536 := by
  have hlast := firstBad_eq_ok.1 (mmaCheck_of_checked hop hcheck) _ (List.getLast_mem (List.cons_ne_nil _ _))
  simp only [List.getLast_cons_cons, List.getLast_singleton, if_neg h] at hlast
  rw [need_eq_ok (by decide)] at hlast
  simp only [Bool.and_eq_true, decide_eq_true_eq] at hlast
  exact hlast.2

end

theorem mmaMine_of_mma {x : BitVec 512} (hop : mmOpcode x = 0) : mmaMine (mmAccOp x) x = true := by
  simp [mmaMine, hop]

/-! ### Terms -/

theorem termsOf_le {ps : List TilePair} (h : ∀ p ∈ ps, p.k ≤ 64) : termsOf ps ≤ 64 * ps.length := by
  have hsum : ∀ n, ps.foldl (fun n p => n + (if fmtIsMx p.a.fmt then ceilDiv p.k 32 else p.k)) n ≤ n + 64 * ps.length := by
    induction ps with
    | nil => simp
    | cons p rest ih =>
      intro n
      have hp := h p List.mem_cons_self
      have hone : (if fmtIsMx p.a.fmt then ceilDiv p.k 32 else p.k) ≤ 64 := by unfold ceilDiv; split <;> omega
      have hrest := ih (fun e he => h e (List.mem_cons_of_mem p he)) (n + (if fmtIsMx p.a.fmt then ceilDiv p.k 32 else p.k))
      simp only [List.foldl_cons, List.length_cons]
      omega
  simpa [termsOf] using hsum 0

theorem mmK_le (x : BitVec 512) (p : Nat) : mmK x p ≤ 64 := by
  have hlast := bits_lt x.toNat 456 451
  unfold mmK mmKLast m1 fld
  split <;> omega

theorem termsOf_mmTilePairs_lt (s : State) (core : Nat) (x : BitVec 512) : termsOf (s.mmTilePairs core x) < 2 ^ 17 := by
  have hcount : mmKTiles x < 32 := bits_lt x.toNat 473 469
  have hterms : termsOf (s.mmTilePairs core x) ≤ 64 * (s.mmTilePairs core x).length := termsOf_le fun p hp => by
    obtain ⟨k, -, rfl⟩ := List.mem_map.1 hp
    exact mmK_le x k
  have hlen : (s.mmTilePairs core x).length = mmKTiles x := by simp [State.mmTilePairs]
  omega

theorem mmN_le (x : BitVec 512) : mmN x ≤ 64 := by
  have h := bits_lt x.toNat 462 457
  unfold mmN m1 fld
  omega

/-! ### The work of an item -/

section
variable (s : State) (q : Nat) (x : BitVec 512)

/-- The class of an item's operands. -/
def State.mmClass (core : Nat) : AccClass := (pairClass (s.mmFmts core x).1 (s.mmFmts core x).2).getD .float

/-- The window exponent of an item's operands. -/
def State.mmWindow (core : Nat) : Int := windowL (s.mmFmts core x).1 (s.mmFmts core x).2

/-- The tile to which an item adds its products: a started one with its preload, or the accumulator with the item's terms in its key. -/
def State.mmaOpened : AccTile :=
  let core := (s.queue q).core
  let terms := termsOf (s.mmTilePairs core x)
  let preF := tagFmt (s.tag core (mmPreGran x))
  let pre := s.tileAt core (mmPreGran x) preF
  if mmAccOp x = 1 then
    let T := startTile (s.mmClass x core) (s.mmFmts core x).1 (s.mmFmts core x).2 (mmSref x) (terms + b2n (decide (mmPreSrc x ≠ 0))) q
    if mmPreSrc x = 0 then T
    else
      T.preload (s.mmClass x core) (s.mmWindow x core) (mmSref x) (mmM x) (mmN x) fun i j =>
        elemVal preF (elemAt preF pre (if mmPreSrc x = 1 then 0 else i) j)
  else
    let T := s.acc core (mmTile x)
    { T with key := T.key + BitVec.ofNat 64 terms }

/-- The tile with the item's products, and the counts of terms truncated and replaced. -/
def State.mmaProducts : AccTile × Nat × Nat :=
  let core := (s.queue q).core
  (s.mmaOpened q x).products (s.mmClass x core) (mmLayout x) (s.mmWindow x core) (mmSref x) (mmM x) (mmN x) (s.mmTilePairs core x)

/-- The entry with a tag that a finish leaves in the finished-tile queue. -/
def State.mmaEntry (tag : W128) : FtqEntry :=
  let core := (s.queue q).core
  { m := mmM x, n := mmN x, tag := tag,
    words := Store.setAll 0 [] (((List.range (mmM x)).map fun i => (List.range (mmN x)).map fun j =>
      (wordIx i j, readWord (s.mmClass x core) (s.mmWindow x core + mmSref x) (decide (mmOutFmt x = 12))
        ((s.mmaProducts q x).1.word (wordIx i j)))).flatten) }

/-- The counts of terms truncated and replaced noted on a core. -/
def State.noteTerms (core truncated replaced : Nat) : State :=
  (s.bumpSeenN (coreOff core 0x4008) (coreOff core 0x4000) 1 truncated).bumpSeenN (coreOff core 0x4010) (coreOff core 0x4000) 2 replaced

/-- What an item's work makes of the state `u` that it reached with its products: a finish empties the tile into the finished-tile
queue, any other leaves the products in the tile. -/
def State.mmaStored (u : State) : State × Status :=
  let core := (s.queue q).core
  if mmAccOp x = 2 then
    ((u.setAcc core (mmTile x) {}).setFtq core (u.ftqOf core ++ [s.mmaEntry q x (u.finishTag core q x)]), .ok)
  else (u.setAcc core (mmTile x) (s.mmaProducts q x).1, .ok)

/-- The work of an MMA item: its reads, and where they meet no uncorrectable word its products. -/
theorem State.runMma_eq : ∃ l, s.runMma q x =
    let core := (s.queue q).core
    let b := (s.busyFor (coreOff core 0x4020)).meetTile core l
    if b.2 ≠ .ok then (b.1.havocAcc core (mmTile x) (s.mmaOpened q x) (mmM x) (mmN x), b.2)
    else s.mmaStored q x (b.1.noteTerms core (s.mmaProducts q x).2.1 (s.mmaProducts q x).2.2) := ⟨_, rfl⟩

theorem State.busyFor_touches (o : Nat) : s.Touches [.regs, .free] (s.busyFor o) :=
  ((touches_free s _).mono (by decide)).trans ((State.setReg_touches _ _ _).mono (by decide))

theorem State.bumpSeenN_touches (c o b n : Nat) : s.Touches [.regs] (s.bumpSeenN c o b n) :=
  touches_ite (.refl _ s) ((s.bump_touches c n).trans (State.setFlag_touches _ o b))

theorem State.noteTerms_touches (core truncated replaced : Nat) : s.Touches [.regs] (s.noteTerms core truncated replaced) :=
  (s.bumpSeenN_touches _ _ _ _).trans (State.bumpSeenN_touches _ _ _ _ _)

/-- Over sound tile memory an item's work ends with OK. -/
theorem State.runMma_of_sound (hbad : s.mem.badTile = []) (herr : s.mem.tileErr = []) :
    ∃ u, s.Touches [.regs, .free] u ∧ s.runMma q x = s.mmaStored q x u := by
  obtain ⟨l, hrun⟩ := s.runMma_eq q x
  have hbusy := s.busyFor_touches (coreOff (s.queue q).core 0x4020)
  have hmem : (s.busyFor (coreOff (s.queue q).core 0x4020)).mem = s.mem := hbusy.mem (by decide)
  have hmeet := State.meetTile_of_sound (s := s.busyFor (coreOff (s.queue q).core 0x4020)) (by rw [hmem, hbad]) (by rw [hmem, herr])
    (s.queue q).core l
  refine ⟨_, hbusy.trans ((State.noteTerms_touches _ (s.queue q).core (s.mmaProducts q x).2.1 (s.mmaProducts q x).2.2).mono (by decide)),
    hrun.trans ?_⟩
  simp only [hmeet]
  exact if_neg (not_not.2 rfl)

theorem State.mmaStored_of_finish (u : State) (h : mmAccOp x = 2) :
    s.mmaStored q x u = ((u.setAcc (s.queue q).core (mmTile x) {}).setFtq (s.queue q).core
      (u.ftqOf (s.queue q).core ++ [s.mmaEntry q x (u.finishTag (s.queue q).core q x)]), .ok) := if_pos h

theorem State.mmaStored_of_products (u : State) (h : mmAccOp x ≠ 2) :
    s.mmaStored q x u = (u.setAcc (s.queue q).core (mmTile x) (s.mmaProducts q x).1, .ok) := if_neg h

theorem State.acc_setAcc (c k j : Nat) (T : AccTile) :
    (s.setAcc c k T).acc c j = if j = k then T else s.acc c j :=
  (Store.get_set _ s.accs _ _ T).trans (if_congr (by omega) rfl rfl)

theorem State.setAcc_touches (c k : Nat) (T : AccTile) : s.Touches [.accs] (s.setAcc c k T) := fun p hp => by
  cases p <;> simp_all [Part.same]

theorem State.setFtq_touches (c : Nat) (l : List FtqEntry) : s.Touches [.ftq] (s.setFtq c l) := fun p hp => by
  cases p <;> simp_all [Part.same]

/-- What an item's work stores: it ends with OK, and touches accumulator tiles and the finished-tile queue alone. -/
theorem State.mmaStored_spec (u : State) :
    ∃ v, s.mmaStored q x u = (v, .ok) ∧ u.Touches [.accs, .ftq] v ∧
      ∀ k, k ≠ mmTile x → v.acc (s.queue q).core k = u.acc (s.queue q).core k := by
  by_cases h : mmAccOp x = 2
  · refine ⟨_, s.mmaStored_of_finish q x u h,
      ((u.setAcc_touches _ _ _).mono (by decide)).trans ((State.setFtq_touches _ _ _).mono (by decide)), fun k hk => ?_⟩
    rw [State.setFtq_acc, State.acc_setAcc, if_neg hk]
  · refine ⟨_, s.mmaStored_of_products q x u h, (u.setAcc_touches _ _ _).mono (by decide), fun k hk => ?_⟩
    rw [State.acc_setAcc, if_neg hk]

end

/-! ### What the work depends on -/

section
variable {s t : State} {q : Nat} {x : BitVec 512} (hmem : t.mem = s.mem)
include hmem

theorem State.tag_of_mem (core g : Nat) : t.tag core g = s.tag core g := by simp only [State.tag, State.tile, hmem]

theorem State.tileAt_of_mem (core g f : Nat) : t.tileAt core g f = s.tileAt core g f := by simp only [State.tileAt, State.tile, hmem]

theorem State.mmFmts_of_mem (core : Nat) : t.mmFmts core x = s.mmFmts core x := by simp only [State.mmFmts, State.tag_of_mem hmem]

theorem State.mmTilePairs_of_mem (core : Nat) : t.mmTilePairs core x = s.mmTilePairs core x := by
  simp only [State.mmTilePairs, State.mmFmts_of_mem hmem, State.tileAt_of_mem hmem]

theorem State.finishTag_of_mem (core : Nat) : t.finishTag core q x = s.finishTag core q x := by
  simp only [State.finishTag, State.tag_of_mem hmem]

variable (hq : t.queue q = s.queue q) (hacc : t.acc (s.queue q).core (mmTile x) = s.acc (s.queue q).core (mmTile x))
include hq hacc

theorem State.mmaProducts_congr : t.mmaProducts q x = s.mmaProducts q x := by
  simp only [State.mmaProducts, State.mmaOpened, State.mmClass, State.mmWindow, hq, hacc, State.mmFmts_of_mem hmem,
    State.mmTilePairs_of_mem hmem, State.tag_of_mem hmem, State.tileAt_of_mem hmem]

/-- An item's work depends on the memories, its queue and its accumulator tile. -/
theorem State.mmaStored_congr (u : State) : t.mmaStored q x u = s.mmaStored q x u := by
  simp only [State.mmaStored, State.mmaEntry, State.mmaProducts_congr hmem hq hacc, State.mmClass, State.mmWindow, hq,
    State.mmFmts_of_mem hmem]

end

/-! ### What an item leaves -/

section
variable {s : State} {q : Nat} {x : BitVec 512}

/-- The command about an item that may begin begins it. -/
theorem exec_mma {c : Instr} (hq : isQueue q = true) (hbegin : s.mayBegin matrixEngine q x) (hop : mmOpcode x = 0)
    (hc : (c = .mmaStart q ∧ mmAccOp x = 1) ∨ (c = .mmaContinue q ∧ mmAccOp x = 0) ∨ (c = .mmaFinish q ∧ mmAccOp x = 2)) :
    exec c s = .next (matrixEngine.begin s q x) := by
  have hserve : ∀ a, mmAccOp x = a →
      ifUnit (isQueue q) "queue" (matrixEngine.serve s q (mmaMine a)) = .next (matrixEngine.begin s q x) := fun a ha => by
    rw [hq, ifUnit_true, EngineOps.serve_of_mayBegin hbegin (ha ▸ mmaMine_of_mma hop)]
  obtain ⟨rfl, h⟩ | ⟨rfl, h⟩ | ⟨rfl, h⟩ := hc
  · exact hserve 1 h
  · exact hserve 0 h
  · exact hserve 2 h

theorem matrixEngine_run (s : State) (q : Nat) (x : BitVec 512) : matrixEngine.run s q x = ended (s.runMatrix q x) := rfl

theorem State.runMatrix_of_mma (hop : mmOpcode x = 0) (s : State) (q : Nat) : s.runMatrix q x = s.runMma q x := by
  simp only [State.runMatrix, hop]

/-- An item begun over sound memory does its work in a state `u` and completes. -/
theorem begin_mma (hop : mmOpcode x = 0) (hsound : s.memSound) :
    ∃ u v, s.Touches [.regs, .pwr, .qs, .free] u ∧ s.mmaStored q x u = (v, .ok) ∧
      v.Touches wakeParts (matrixEngine.begin s q x) ∧ ((matrixEngine.begin s q x).queue q).held = none := by
  obtain ⟨-, hbad, -, herr, -⟩ := hsound
  have hcharged := matrixEngine.charged_touches s q x
  have hmem : (matrixEngine.charged s q x).mem = s.mem := hcharged.mem (by decide)
  obtain ⟨u, hu, hrun⟩ := (matrixEngine.charged s q x).runMma_of_sound q x (by rw [hmem, hbad]) (by rw [hmem, herr])
  rw [State.mmaStored_congr hmem (matrixEngine.queue_charged s q x q) (hcharged.acc (by decide) _ _)] at hrun
  obtain ⟨v, hv, -⟩ := s.mmaStored_spec q x u
  have hwork : matrixEngine.run (matrixEngine.charged s q x) q x = (v, some (.ok, true)) := by
    rw [matrixEngine_run, State.runMatrix_of_mma hop, hrun, hv, ended]
  exact ⟨u, v, (hcharged.mono (by decide)).trans (hu.mono (by decide)), hv, matrixEngine.work_of_ok _ q x hwork⟩

end

section
variable {s : State} {q : Nat} {x : BitVec 512} (hop : mmOpcode x = 0) (hsound : s.memSound)
include hop hsound

/-- An item leaves its queue without an item, and the memories and the other tiles of its core as they were. -/
theorem begin_mma_keeps :
    ((matrixEngine.begin s q x).queue q).held = none ∧ (matrixEngine.begin s q x).mem = s.mem ∧
      ∀ k, k ≠ mmTile x → (matrixEngine.begin s q x).acc (s.queue q).core k = s.acc (s.queue q).core k := by
  obtain ⟨u, v, hu, hv, ht, hheld⟩ := begin_mma (q := q) hop hsound
  obtain ⟨v', hv', huv, hacc⟩ := s.mmaStored_spec q x u
  obtain rfl : v' = v := congrArg Prod.fst (hv'.symm.trans hv)
  refine ⟨hheld, (ht.mem (by decide)).trans ((huv.mem (by decide)).trans (hu.mem (by decide))), fun k hk => ?_⟩
  rw [ht.acc (by decide), hacc k hk, hu.acc (by decide)]

/-- A start or a continuation leaves its products in its tile. -/
theorem begin_mma_products (h : mmAccOp x ≠ 2) :
    (matrixEngine.begin s q x).acc (s.queue q).core (mmTile x) = (s.mmaProducts q x).1 := by
  obtain ⟨u, v, -, hv, ht, -⟩ := begin_mma (q := q) hop hsound
  obtain rfl := congrArg Prod.fst ((s.mmaStored_of_products q x u h).symm.trans hv)
  rw [ht.acc (by decide), State.acc_setAcc_self]

/-- A finish empties its tile and leaves a new last entry in the finished-tile queue. -/
theorem begin_mma_finish (h : mmAccOp x = 2) :
    (matrixEngine.begin s q x).acc (s.queue q).core (mmTile x) = {} ∧
      (matrixEngine.begin s q x).ftqOf (s.queue q).core =
        s.ftqOf (s.queue q).core ++ [s.mmaEntry q x (s.finishTag (s.queue q).core q x)] := by
  obtain ⟨u, v, hu, hv, ht, -⟩ := begin_mma (q := q) hop hsound
  obtain rfl := congrArg Prod.fst ((s.mmaStored_of_finish q x u h).symm.trans hv)
  rw [ht.acc (by decide), ht.ftqOf (by decide)]
  refine ⟨(State.setFtq_acc _ _ _ _ _).trans (State.acc_setAcc_self _ _ _ _), (State.ftqOf_setFtq_self _ _ _).trans ?_⟩
  rw [hu.ftqOf (by decide), State.finishTag_of_mem (hu.mem (by decide))]

end

/-! ### The products -/

section
variable {s : State} {q : Nat} {x : BitVec 512}

theorem mmaOpened_of_start (h : mmAccOp x = 1) (hpre : mmPreSrc x = 0) :
    s.mmaOpened q x = startTile (s.mmClass x (s.queue q).core) (s.mmFmts (s.queue q).core x).1 (s.mmFmts (s.queue q).core x).2
      (mmSref x) (termsOf (s.mmTilePairs (s.queue q).core x)) q := by
  simp [State.mmaOpened, h, hpre, b2n]

theorem mmaOpened_of_continue (h : mmAccOp x ≠ 1) :
    s.mmaOpened q x = { s.acc (s.queue q).core (mmTile x) with
      key := (s.acc (s.queue q).core (mmTile x)).key + BitVec.ofNat 64 (termsOf (s.mmTilePairs (s.queue q).core x)) } := by
  simp only [State.mmaOpened, if_neg h]

/-- The key and the owner that a start gives its tile. -/
theorem mmaOpened_fields_of_start (h : mmAccOp x = 1) (hpre : mmPreSrc x = 0) :
    let U := s.mmaOpened q x
    U.owner = some q ∧ keyVersion U.key = 1 ∧ keyClass U.key = (s.mmClass x (s.queue q).core).code ∧
      keyFmtA U.key = (s.mmFmts (s.queue q).core x).1 ∧ keyFmtB U.key = (s.mmFmts (s.queue q).core x).2 ∧
      keySref U.key = mmSref x ∧ keyTerms U.key = termsOf (s.mmTilePairs (s.queue q).core x) := by
  obtain ⟨hlo, hhi⟩ := signed_10_range (fld x 395 386)
  rw [mmaOpened_of_start h hpre]
  exact ⟨rfl, mkKey_fields (AccClass.code_lt _) (bits_lt _ 59 56) (bits_lt _ 59 56) (termsOf_mmTilePairs_lt s _ x) hlo hhi⟩

/-- The key and the owner that a tile has when an item goes on with it. -/
theorem mmaOpened_fields_of_continue (hop : mmOpcode x = 0) (hcheck : s.matrixCheck q x = .ok) (h : mmAccOp x ≠ 1) :
    let T := s.acc (s.queue q).core (mmTile x)
    let U := s.mmaOpened q x
    U.owner = T.owner ∧ keyTerms U.key = keyTerms T.key + termsOf (s.mmTilePairs (s.queue q).core x) ∧
      keyClass U.key = keyClass T.key := by
  have hroom := terms_of_checked hop hcheck h
  rw [mmaOpened_of_continue h]
  exact ⟨rfl, keyTerms_add (Nat.lt_of_le_of_lt hroom (by decide))⟩

/-- The key and the owner of a tile are those with which the item opened it. -/
theorem mmaProducts_keeps :
    (s.mmaProducts q x).1.key = (s.mmaOpened q x).key ∧ (s.mmaProducts q x).1.owner = (s.mmaOpened q x).owner := by
  rw [State.mmaProducts, AccTile.products_fst]
  exact AccTile.mapWords_keeps _ _ _ _

/-- The valid words of a tile get their sums, and every other word stays. -/
theorem word_mmaProducts {i j : Nat} (hj : j < 64) :
    (s.mmaProducts q x).1.word (wordIx i j) =
      if i < mmM x ∧ j < mmN x then
        wordSum (s.mmClass x (s.queue q).core) (mmLayout x) (s.mmWindow x (s.queue q).core) (mmSref x)
          (s.mmTilePairs (s.queue q).core x) i j ((s.mmaOpened q x).word (wordIx i j))
      else (s.mmaOpened q x).word (wordIx i j) := by
  rw [State.mmaProducts, AccTile.products_fst]
  exact AccTile.word_mapWords _ _ (mmN_le x) hj

/-- Each valid word of a finished tile is read out. -/
theorem word_mmaEntry (tag : W128) {i j : Nat} (hi : i < mmM x) (hj : j < mmN x) :
    Store.get 0 (s.mmaEntry q x tag).words (wordIx i j) =
      readWord (s.mmClass x (s.queue q).core) (s.mmWindow x (s.queue q).core + mmSref x) (decide (mmOutFmt x = 12))
        ((s.mmaProducts q x).1.word (wordIx i j)) := by
  refine (Store.get_setAll_of_forall 0 (fun k => readWord (s.mmClass x (s.queue q).core) (s.mmWindow x (s.queue q).core + mmSref x)
    (decide (mmOutFmt x = 12)) ((s.mmaProducts q x).1.word k)) (fun e he => ?_) [] _).trans (if_pos ?_)
  · simp only [List.mem_flatten, List.mem_map, List.mem_range] at he
    obtain ⟨_, ⟨_, -, rfl⟩, hrow⟩ := he
    simp only [List.mem_map, List.mem_range] at hrow
    obtain ⟨_, -, rfl⟩ := hrow
    rfl
  · simp only [List.mem_map, List.mem_flatten, List.mem_range]
    exact ⟨_, ⟨_, ⟨i, hi, rfl⟩, List.mem_map.2 ⟨j, List.mem_range.2 hj, rfl⟩⟩, rfl⟩

end

/-- Settles O22: the words, the key and the owner are those of `mmaProducts`, what a finish leaves those of `mmaEntry`. -/
theorem matrixProducts : Obligations.MatrixProducts := by
  intro s q x hq hbegin hop hsound core T f ps cls l sum first
  have hexec := fun (c : Instr) hc => exec_mma (c := c) hq hbegin hop hc
  obtain ⟨-, -, -, -, -, -, hcheck⟩ := hbegin
  obtain ⟨hheld, hmem, hother⟩ := begin_mma_keeps (q := q) hop hsound
  obtain ⟨hkey, howner⟩ := mmaProducts_keeps (s := s) (q := q) (x := x)
  refine ⟨fun hstart hpre => ?_, fun hcont => ?_, fun hfin => ?_, fun k hk _ c hc => ⟨_, hexec c hc, hother k hk⟩⟩
  · obtain ⟨hown, hversion, hclass, hfmtA, hfmtB, hsref, hterms⟩ := mmaOpened_fields_of_start (s := s) (q := q) hstart hpre
    refine ⟨_, hexec _ (.inl ⟨rfl, hstart⟩), hheld, hmem, ?_⟩
    rw [begin_mma_products hop hsound (by omega)]
    dsimp only
    rw [hkey, howner]
    refine ⟨hown, hversion, hclass, hfmtA, hfmtB, hsref, hterms, fun i j _ hj => ?_⟩
    rw [word_mmaProducts hj, mmaOpened_of_start hstart hpre, startTile_word]
    rfl
  · have hnot : mmAccOp x ≠ 1 := by omega
    obtain ⟨hown, hterms, hclass⟩ := mmaOpened_fields_of_continue hop hcheck hnot
    refine ⟨_, hexec _ (.inr (.inl ⟨rfl, hcont⟩)), hheld, hmem, ?_⟩
    rw [begin_mma_products hop hsound (by omega)]
    dsimp only
    rw [hkey, howner]
    refine ⟨hown, hterms, hclass, fun i j _ hj => ?_⟩
    rw [word_mmaProducts hj, mmaOpened_of_continue hnot]
    rfl
  · have hnot : mmAccOp x ≠ 1 := by omega
    obtain ⟨hacc, hftq⟩ := begin_mma_finish (q := q) hop hsound hfin
    refine ⟨_, _, hexec _ (.inr (.inr ⟨rfl, hfin⟩)), hheld, hmem, hacc, hftq, rfl, rfl, rfl, fun i j hi hj => ?_⟩
    rw [word_mmaEntry _ hi hj, word_mmaProducts (Nat.lt_of_lt_of_le hj (mmN_le x)), if_pos ⟨hi, hj⟩, mmaOpened_of_continue hnot]
    rfl

end Sys2Proof.Machine
end

section
/-! SUPPORT. What reset leaves, and O7 (R124, R174, R361, R391, R544, R575, R629, R635). -/

namespace Sys2Proof.Machine

theorem AccTile.empty_default : ({} : AccTile).empty = true := by decide

theorem TableBank.empty_default : ({} : TableBank).empty = true := by
  simp [-Nat.reducePow, TableBank.empty, TableBank.head, fld, bits]

theorem State.semObj_reset (i : Nat) : State.reset.semObj i = 0 := by
  have hcause : State.reset.semCause i = 0 := rfl
  have hsem : State.reset.sem i = {} := rfl
  simp [State.semObj, hcause, hsem, SemState.code, b2n]

theorem Bar.obj_default : ({} : Bar).obj = 0 := by simp [-Nat.reducePow, Bar.obj, BarState.code, b2n]

/-- Settles O7: every store is empty after reset, so every unit reads as its default. -/
theorem resetState : Obligations.ResetState :=
  ⟨fun _ => rfl, fun _ _ => ⟨AccTile.empty_default, rfl, rfl⟩, fun _ _ => ⟨rfl, rfl⟩, fun _ _ _ => TableBank.empty_default,
    fun _ => ⟨rfl, rfl⟩, State.semObj_reset, fun _ => Bar.obj_default, rfl, rfl, rfl, rfl, rfl, rfl, rfl, rfl⟩

end Sys2Proof.Machine
end

section
/-! SUPPORT. Reads of near memory that meet no obstacle (R248, R250, R251, R254, R261). -/

namespace Sys2Proof.Machine

theorem chanOf_lt (a : Nat) : chanOf a < 2 ^ 8 :=
  Nat.xor_lt_two_pow (Nat.xor_lt_two_pow (Nat.xor_lt_two_pow (bits_lt a 15 8) (bits_lt a 23 16)) (bits_lt a 31 24)) (bits_lt a 39 32)

section
variable {s : State} (hsound : s.memSound)
include hsound

theorem State.blockStatus_of_sound (a : Nat) : s.blockStatus a = .ok := by
  obtain ⟨-, -, -, -, hburst, hchans, htrip⟩ := hsound
  have hstack : stackOf (chanOf a) < 8 := Nat.div_lt_of_lt_mul (chanOf_lt a)
  have hchan : s.chan (chanOf a) = {} := by rw [State.chan, hchans]; rfl
  simp [State.blockStatus, State.chanTripped, htrip _ hstack, hchan, hburst]

theorem State.readBlock_of_sound (a : Nat) : s.readBlock a = (s, .ok) := by
  have hgate : s.blockGate a = (s, .ok) := by simp [State.blockGate, State.blockStatus_of_sound hsound]
  obtain ⟨hbad, -, herr, -⟩ := hsound
  have hseen : s.observeBlock a = s := by simp [State.observeBlock, herr, Store.get]
  simp [State.readBlock, hgate, hseen, State.blockBad, hbad, Store.get]

/-- A read over sound memory delivers the bytes and leaves the state as it was. -/
theorem State.readNear_of_sound (a n : Nat) : s.readNear a n = (s, .ok, s.near a n) := by
  have hfold := List.foldl_fixed' (f := fun (acc : State × Status) b => ((acc.1.readBlock b).1, acc.2.orElse (acc.1.readBlock b).2))
    (a := (s, .ok)) (fun b => by simp [State.readBlock_of_sound hsound, Status.orElse]) (blocksOf a n)
  simp only [State.readNear, hfold]

end
end Sys2Proof.Machine
end

section
/-! SUPPORT. A wait registered on a semaphore that cannot satisfy it (R369, R370). -/

namespace Sys2Proof.Machine

section
variable {s : State} {w : Waiter} {i : Nat}

/-- On a semaphore on which nobody waits, the new waiter is the only one; every other semaphore stays. -/
theorem State.sem_joinSem_alone (hnone : (s.sem i).waiters = []) (j : Nat) :
    (s.joinSem w i).sem j = if j = i then { s.sem i with waiters := [w] } else s.sem j := by
  have hjoined : s.joined i w = [w] := by simp [State.joined, hnone]
  rw [State.joinSem, hjoined]
  exact s.sem_setSem i j _

theorem State.evalSem_of_waiting (hw : (s.sem i).waiters = [w]) (hcan : s.canTake i w = false) : s.evalSem i = s := by
  simp [State.evalSem, hw, hcan]

theorem State.registerWait_of_live (hlive : (s.sem i).state = .live) :
    s.registerWait w [i] = ((s.joinSem w i).evalSem i, .ok) := by
  simp [State.registerWait, hlive]

/-- An item whose one wait is to take more than the semaphore has cannot take now. -/
theorem State.canTake_of_short {q : Nat} (hsems : s.waiterSems (.item q) i = [i]) (hobs : (s.sem i).observe = false)
    (hshort : (s.sem i).count.toNat < (s.sem i).take) : s.canTake i (.item q) = false := by
  simp [State.canTake, hsems, hobs, hshort]

/-- The one wait of an item, registered where it cannot be satisfied yet, stands alone. -/
theorem State.registerWait_of_short {q : Nat} (hsems : s.waiterSems (.item q) i = [i]) (hlive : (s.sem i).state = .live)
    (hnone : (s.sem i).waiters = []) (hobs : (s.sem i).observe = false) (hshort : (s.sem i).count.toNat < (s.sem i).take) :
    s.registerWait (.item q) [i] = (s.joinSem (.item q) i, .ok) := by
  have hsem := (State.sem_joinSem_alone (w := .item q) hnone i).trans (if_pos rfl)
  have hcan := State.canTake_of_short (s := s.joinSem (.item q) i) hsems (by rw [hsem]; exact hobs) (by rw [hsem]; exact hshort)
  rw [State.registerWait_of_live hlive, State.evalSem_of_waiting (congrArg Sem.waiters hsem) hcan]

end
end Sys2Proof.Machine
end

section
/-! SUPPORT. An execute engine's item that fails its checks or must wait, and O21 (R108, R109, R137, R194, R316 to R318, R320, R369). -/

namespace Sys2Proof.Machine

/-! ### Commands about items -/

/-- A command about an engine's items serves the queue. -/
theorem exec_of_engineOf {c : Instr} {E : EngineOps} {q : Nat} {mine : BitVec 512 → Bool} (h : engineOf c = some (E, q, mine))
    (hq : isQueue q = true) (s : State) : exec c s = .next (E.serve s q mine) := by
  have hunit : ∀ t, ifUnit (isQueue q) "queue" t = .next t := fun t => by rw [hq, ifUnit_true]
  unfold engineOf at h
  split at h <;> cases h <;> exact hunit _

/-! ### A fault recorded -/

theorem engineRegs_high (kind fe core : Nat) :
    0x10000000 ≤ (engineRegs kind fe core).1 ∧ 0x10000000 ≤ (engineRegs kind fe core).2.2.1 ∧
      0x10000000 ≤ (engineRegs kind fe core).2.2.2.1 := by
  unfold engineRegs coreOff
  split <;> dsimp only <;> omega

section
variable (s : State) (q : Nat)

theorem State.faultRec_touches (status bit : Nat) (recs : List (Nat × W64)) : s.Touches [.regs] (s.faultRec status bit recs) := by
  have hrecs : s.Touches [.regs] (recs.foldl (fun t r => t.setReg r.1 r.2) s) := touches_foldl (fun t r => t.setReg_touches r.1 r.2) recs s
  have hkept : s.Touches [.regs] (if s.flag status bit then s else recs.foldl (fun t r => t.setReg r.1 r.2) s) :=
    touches_ite (.refl _ s) hrecs
  exact hkept.trans (State.setFlag_touches _ status bit)

theorem State.reg_faultRec {k status : Nat} (bit : Nat) {recs : List (Nat × W64)} (hstatus : k ≠ status)
    (hrecs : ∀ r ∈ recs, k ≠ r.1) : (s.faultRec status bit recs).reg k = s.reg k := by
  have hfold : (recs.foldl (fun t r => t.setReg r.1 r.2) s).reg k = s.reg k := by
    induction recs generalizing s with
    | nil => rfl
    | cons r rest ih =>
      exact (ih (s.setReg r.1 r.2) fun e he => hrecs e (List.mem_cons_of_mem r he)).trans
        (s.reg_setReg_ne _ _ _ (hrecs r List.mem_cons_self))
  rw [State.faultRec, State.reg_setFlag_ne _ _ _ _ hstatus]
  split
  · rfl
  · exact hfold

/-- The record of a fault writes no register outside the cores' blocks. -/
theorem State.reg_recordFault (index : W32) (second : W64) (st : Status) {k : Nat} (hk : k < 0x10000000) :
    (s.recordFault q index second st).reg k = s.reg k := by
  obtain ⟨hstatus, hfirst, hsecond⟩ := engineRegs_high (s.queue q).kind (s.queue q).fe (s.queue q).core
  have hstop : ∀ t : State, (t.stopQueue q 2).reg k = t.reg k := fun t => (t.stopQueue_releases q 2).touches.reg (by decide) k
  rw [State.recordFault, State.setQueue_reg, hstop]
  refine s.reg_faultRec _ (by omega) fun r hr => ?_
  simp only [List.mem_cons, List.not_mem_nil, or_false] at hr
  rcases hr with rfl | rfl
  · exact (Nat.lt_of_lt_of_le hk hfirst).ne
  · exact (Nat.lt_of_lt_of_le hk hsecond).ne

theorem Queue.held_stop (Q : Queue) (why : Nat) : (Q.stop why).held = Q.held := by
  unfold Queue.stop
  split <;> rfl

/-- A queue as the device stops it: a RESUME of the same control cycle comes after the stop. -/
theorem State.queue_stopQueue (why : Nat) :
    (s.stopQueue q why).queue q =
      if (s.queue q).resumedAt.any (fun r => decide (r.1 = s.cycle)) then s.queue q else (s.queue q).stop why := by
  unfold State.stopQueue
  dsimp only
  split
  · rfl
  · exact State.queue_setQueue_self _ _ _

/-- What the record of a fault makes of the queue. -/
theorem State.queue_recordFault (index : W32) (second : W64) (st : Status) :
    (s.recordFault q index second st).queue q =
      { (if (s.queue q).resumedAt.any (fun r => decide (r.1 = s.cycle)) then s.queue q else (s.queue q).stop 2) with
        faultStatus := st.code, faultIndex := index } := by
  have hqueue := fun o b recs => (s.faultRec_touches o b recs).queue (by decide) q
  have hcycle := fun o b recs => s.faultRec_touches o b recs .cycle (by decide)
  rw [State.recordFault, State.queue_setQueue_self, State.queue_stopQueue, hqueue, hcycle]

/-- The queue of an item that ends with a fault: it holds no item, tells the fault, and is STOPPED unless it is DISABLED or was resumed
in this control cycle. -/
theorem State.queue_endItem_fault {st : Status} (hst : st ≠ .ok) {h : Held} (hheld : (s.queue q).held = some h) :
    ((s.endItem q st).queue q).held = none ∧
      ((s.queue q).state ≠ .disabled → (∀ r, (s.queue q).resumedAt = some r → r.1 ≠ s.cycle) →
        ((s.endItem q st).queue q).state = .stopped ∧ ((s.endItem q st).queue q).why = 2) ∧
      ((s.endItem q st).queue q).faultStatus = st.code ∧ ((s.endItem q st).queue q).faultIndex = h.index := by
  have hqueue : ((s.endHeld q h.index).count st).queue q =
      { (s.queue q).finishItem h.index with held := none, waitSince := none, readySince := none } :=
    (State.Touches.queue (State.count_touches _ st) (by decide) q).trans (State.queue_setQueue_self s q _)
  have hcycle : ((s.endHeld q h.index).count st).cycle = s.cycle := State.count_touches _ st .cycle (by decide)
  rw [s.endItem_of_held q hst hheld, State.queue_recordFault, hqueue, hcycle]
  refine ⟨?_, fun hlive hresumed => ?_, rfl, rfl⟩
  · dsimp only
    split
    · rfl
    · exact Queue.held_stop _ _
  · have hnot : ¬ ((s.queue q).resumedAt.any fun r => decide (r.1 = s.cycle)) = true := by
      cases hr : (s.queue q).resumedAt with
      | none => simp
      | some r => simpa using hresumed r hr
    have hstate : ((s.queue q).finishItem h.index).state ≠ .disabled := hlive
    have hresumedAt : ((s.queue q).finishItem h.index).resumedAt = (s.queue q).resumedAt := rfl
    simp [hresumedAt, hnot, Queue.stop, hstate]

/-- The status of an item that ends with a fault is counted. -/
theorem State.reg_endItem_fault {st : Status} (hst : st ≠ .ok) {h : Held} (hheld : (s.queue q).held = some h) :
    (s.endItem q st).reg st.counterOff = s.reg st.counterOff + 1 := by
  obtain ⟨-, hlt⟩ := counterOff_range st
  rw [s.endItem_of_held q hst hheld, State.reg_recordFault _ _ _ _ _ (by omega), State.reg_count, if_pos ⟨hst, rfl⟩]
  rfl

end

/-! ### An item that fails its checks -/

section
variable {s : State} {E : EngineOps} {q : Nat} {mine : BitVec 512 → Bool} (hkind : (s.queue q).kind = E.kind)
  (htakes : s.takesItems (s.queue q).core = true) (hunder : E.underway s (s.queue q).core = none)
include hkind htakes hunder

/-- An item that the picker begins and that fails its checks ends with the first status that failed. -/
theorem EngineOps.serve_of_failed {h : Held} (hheld : (s.queue q).held = some h) (hsat : h.satisfied = true)
    (hmine : mine h.item = true) (hfree : E.free s q h.item = true) (hchosen : E.chosen s q = true)
    (hcheck : E.check s q h.item ≠ .ok) : E.serve s q mine = (s.served q).endItem q (E.check s q h.item) := by
  have hready : s.readyItem q = some h.item := by simp [State.readyItem, hheld, hsat]
  have htry : E.tryBegin s q h.item = (s.served q).endItem q (E.check s q h.item) := by
    simp only [EngineOps.tryBegin, hfree, hchosen, Bool.not_true, Bool.false_eq_true, if_false, if_true]
  simp [EngineOps.serve, hkind, htakes, State.peekItem, hheld, hmine, hunder, hready, htry]

/-! ### An item taken that must wait -/

/-- An engine that holds no item takes the next of the ring, and begins it only where its waits are satisfied. -/
theorem EngineOps.serve_of_taken (hheld : (s.queue q).held = none) (hactive : (s.queue q).state = .active)
    (hring : (s.queue q).head ≠ (s.queue q).tail) (hmine : mine (s.ringItem (s.queue q) (s.queue q).head) = true)
    (hwaits : (s.takeItem q).readyItem q = none) : E.serve s q mine = s.takeItem q := by
  simp [EngineOps.serve, hkind, htakes, State.peekItem, hheld, hactive, hring, hmine, hunder, hwaits]

end

/-- The next item of a queue's ring taken, with its wait still to be registered. -/
def State.withNextItem (s : State) (q : Nat) : State :=
  let Q := s.queue q
  { s.setQueue q { Q with
      head := Q.head + 1
      held := some { index := Q.head, item := s.ringItem Q Q.head, satisfied := false, seq := s.qs.nextDesc }
      waitSince := some s.ft.toNat } with qs.nextDesc := s.qs.nextDesc + 1 }

section
variable {s : State} {q i : Nat}

/-- The queue of an item taken. -/
theorem State.queue_withNextItem :
    (s.withNextItem q).queue q =
      { s.queue q with
        head := (s.queue q).head + 1
        held := some {
          index := (s.queue q).head, item := s.ringItem (s.queue q) (s.queue q).head, satisfied := false, seq := s.qs.nextDesc }
        waitSince := some s.ft.toNat } := State.queue_setQueue_self s q _

/-- An item taken and a wait registered change the queues and the semaphores alone. -/
theorem State.joinSem_withNextItem_else (s : State) (q : Nat) (w : Waiter) (i : Nat) :
    ({ (s.withNextItem q).joinSem w i with qs := s.qs, sync := s.sync } : State) = s := by
  simp only [State.joinSem, State.setSem, State.withNextItem, State.setQueue]

/-- An item taken whose one wait its semaphore cannot satisfy yet waits on it. -/
theorem State.takeItem_of_short (hsound : s.memSound)
    (hwaits : itemWaits (s.queue q).kind (s.ringItem (s.queue q) (s.queue q).head) = [i]) (hlive : (s.sem i).state = .live)
    (hnone : (s.sem i).waiters = []) (hobs : (s.sem i).observe = false) (hshort : (s.sem i).count.toNat < (s.sem i).take) :
    s.takeItem q = (s.withNextItem q).joinSem (.item q) i := by
  have hitem : BitVec.ofNat 512 (leNat (s.near ((s.queue q).itemAddr (s.queue q).head.toNat) 64)) =
    s.ringItem (s.queue q) (s.queue q).head := rfl
  have hsems : (s.withNextItem q).waiterSems (.item q) i = [i] := by
    simp only [State.waiterSems, State.queue_withNextItem]
    exact hwaits
  have hregister := State.registerWait_of_short (s := s.withNextItem q) hsems hlive hnone hobs hshort
  simp only [State.takeItem, State.readNear_of_sound hsound, hitem, hwaits]
  exact congrArg (fun r : State × Status => if r.2 ≠ .ok then r.1.endItem q r.2 else r.1) hregister

end

/-- Settles O21: a failed item ends by `endItem` with its status, and an item whose wait is short is taken and joins its semaphore. -/
theorem enginesTakeItems : Obligations.EnginesTakeItems := by
  refine ⟨fun s c E q mine h hc hq hkind htakes hunder hheld hsat hmine hfree hchosen hcheck => ?_,
    fun s c E q i mine hc hq hkind htakes hunder hheld hactive hring hsound => ?_⟩
  · have hserve := EngineOps.serve_of_failed hkind htakes hunder hheld hsat hmine hfree hchosen hcheck
    have hkeeps : s.Touches [.regs, .qs] (E.serve s q mine) := hserve ▸
      ((s.served_touches q).mono (by decide)).trans (State.endItem_releases _ q hcheck).touches
    obtain ⟨hnone, hstop, hfault, hindex⟩ := (s.served q).queue_endItem_fault q hcheck hheld
    have hcount := (s.served q).reg_endItem_fault q hcheck hheld
    rw [← hserve] at hnone hstop hfault hindex hcount
    exact ⟨_, exec_of_engineOf hc hq s, hnone, hstop, hfault, hindex, hcount, hkeeps.mem (by decide), hkeeps .accs (by decide),
      hkeeps .ftq (by decide), hkeeps .bufs (by decide), hkeeps .tables (by decide), hkeeps .sync (by decide), hkeeps .tier (by decide)⟩
  · intro x hmine hwaits hlive hnone hobs hshort
    have htake := State.takeItem_of_short hsound hwaits hlive hnone hobs hshort
    have hqueue : (s.takeItem q).queue q = (s.withNextItem q).queue q := by rw [htake]; rfl
    have hsem : ∀ j, (s.takeItem q).sem j = if j = i then { s.sem i with waiters := [.item q] } else s.sem j := fun j => by
      rw [htake]
      exact State.sem_joinSem_alone (s := s.withNextItem q) hnone j
    rw [State.queue_withNextItem] at hqueue
    have hserve := EngineOps.serve_of_taken hkind htakes hunder hheld hactive hring hmine (by simp [State.readyItem, hqueue])
    have hexec := (exec_of_engineOf hc hq s).trans (congrArg Host.Outcome.next hserve)
    refine ⟨_, hexec, by rw [hqueue], by rw [hqueue], by rw [hqueue], (hsem i).trans (if_pos rfl),
      fun j hj => (hsem j).trans (if_neg hj), ?_⟩
    rw [htake]
    exact s.joinSem_withNextItem_else q (.item q) i

end Sys2Proof.Machine
end

section
/-! SUPPORT. Parts of byte lists: a piece of a list of pieces of one length, and a part of the bytes loaded. -/

namespace Sys2Proof.Machine

/-- Of pieces of one length written one after another, each reads back at its place. -/
theorem take_drop_flatten {α : Type} {w : Nat} {L : List (List α)} (hw : ∀ l ∈ L, l.length = w) {i : Nat} (hi : i < L.length) :
    (L.flatten.drop (w * i)).take w = L[i] := by
  induction L generalizing i with
  | nil => exact absurd hi (Nat.not_lt_zero i)
  | cons l rest ih =>
    have hl := hw l List.mem_cons_self
    rw [List.flatten_cons]
    cases i with
    | zero => simp [← hl]
    | succ i =>
      have hplace : w * (i + 1) = l.length + w * i := by rw [hl, Nat.mul_succ, Nat.add_comm]
      rw [hplace, List.drop_length_add_append]
      exact ih (fun e he => hw e (List.mem_cons_of_mem l he)) (Nat.lt_of_succ_lt_succ hi)

theorem loadBytes_add (m : Store Byte) (a i n : Nat) : loadBytes m a (i + n) = loadBytes m a i ++ loadBytes m (a + i) n := by
  induction i generalizing a with
  | zero => simp [loadBytes]
  | succ i ih => rw [Nat.succ_add, loadBytes, ih, loadBytes, List.cons_append, Nat.add_assoc, Nat.add_comm 1]

/-- A part of the bytes loaded is the bytes loaded from its place. -/
theorem take_drop_loadBytes (m : Store Byte) (a : Nat) {i k n : Nat} (h : i + k ≤ n) :
    ((loadBytes m a n).drop i).take k = loadBytes m (a + i) k := by
  obtain ⟨r, rfl⟩ := Nat.exists_eq_add_of_le h
  rw [Nat.add_assoc, loadBytes_add, loadBytes_add]
  have hi := length_loadBytes m a i
  have hk := length_loadBytes m (a + i) k
  rw [List.drop_left' hi, List.take_left' hk]

theorem leNat_replicate_zero (n : Nat) : leNat (List.replicate n 0) = 0 := by
  induction n with
  | zero => rfl
  | succ n ih =>
    rw [List.replicate_succ, leNat, ih]
    rfl

section
variable (s : State)

theorem State.take_drop_tile (core off : Nat) {i k n : Nat} (h : i + k ≤ n) :
    ((s.tile core off n).drop i).take k = s.tile core (off + i) k := by
  rw [State.tile, take_drop_loadBytes _ _ h, State.tile, tileKey, tileKey, Nat.add_assoc]

/-- Tile memory outside the bytes written reads as before. -/
theorem State.tile_putTile_outside (core o : Nat) (l : List Byte) {off n : Nat} (h : off + n ≤ o ∨ o + l.length ≤ off) :
    (s.putTile core o l).tile core off n = s.tile core off n :=
  loadBytes_outside _ _ _ _ _ (by unfold tileKey; omega)

theorem State.tile_of_mem {s t : State} (hmem : t.mem = s.mem) (core off n : Nat) : t.tile core off n = s.tile core off n := by
  simp only [State.tile, hmem]

/-- A read of tile memory without an error delivers the bytes and leaves the state as it was. -/
theorem State.readTile_of_sound {s : State} (hbad : s.mem.badTile = []) (herr : s.mem.tileErr = []) (core off n : Nat) :
    s.readTile core off n = (s, .ok, s.tile core off n) := by
  simp only [State.readTile, State.meetTile_of_sound hbad herr]

end
end Sys2Proof.Machine
end

section
/-! SUPPORT. The image of an accumulator tile: what it holds, and the tile that it makes (R117, R118). -/

namespace Sys2Proof.Machine

/-- The bytes of the first `n` words of an image. -/
def AccTile.imageWords (T : AccTile) (n : Nat) : List Byte := ((List.range n).map fun i => leBytes 12 (T.word i).toNat).flatten

theorem AccTile.image_eq (T : AccTile) : T.image = T.imageWords 4096 ++ (leBytes 8 T.key.toNat ++ List.replicate 2040 0) :=
  List.append_assoc _ _ _

theorem AccTile.length_imageWords (T : AccTile) (n : Nat) : (T.imageWords n).length = 12 * n := by
  simp [AccTile.imageWords, List.length_flatten, Function.comp_def, length_leBytes, Nat.mul_comm]

/-- The bytes of a word, of the words of an image. -/
theorem AccTile.imageWords_word (T : AccTile) {n i : Nat} (hi : i < n) :
    ((T.imageWords n).drop (12 * i)).take 12 = leBytes 12 (T.word i).toNat := by
  have hpiece := take_drop_flatten (w := 12) (L := (List.range n).map fun i => leBytes 12 (T.word i).toNat)
    (by simp [length_leBytes]) (i := i) (by simpa using hi)
  rw [List.getElem_map, List.getElem_range] at hpiece
  exact hpiece

theorem AccTile.length_image (T : AccTile) : T.image.length = 51200 := by
  rw [AccTile.image_eq, List.length_append, List.length_append, T.length_imageWords, length_leBytes, List.length_replicate]

/-- The bytes of a word of an image. -/
theorem AccTile.image_word (T : AccTile) {i : Nat} (hi : i < 4096) : (T.image.drop (12 * i)).take 12 = leBytes 12 (T.word i).toNat := by
  have hlen := T.length_imageWords 4096
  rw [AccTile.image_eq, List.drop_append_of_le_length (by omega), List.take_append_of_le_length (by rw [List.length_drop]; omega),
    T.imageWords_word hi]

/-- The bytes of the key of an image. -/
theorem AccTile.image_key (T : AccTile) : (T.image.drop 49152).take 8 = leBytes 8 T.key.toNat := by
  rw [AccTile.image_eq, List.drop_left' (T.length_imageWords 4096), List.take_left' (length_leBytes 8 _)]

/-- A store filled at the keys below `n` by a function reads as that function there. -/
theorem Store.get_setAll_range {α : Type} [DecidableEq α] (d : α) (f : Nat → α) {n i : Nat} (hi : i < n) :
    Store.get d (Store.setAll d [] ((List.range n).map fun k => (k, f k))) i = f i := by
  have hvals : ∀ e ∈ (List.range n).map fun k => (k, f k), e.2 = f e.1 := fun e he => by
    obtain ⟨k, -, rfl⟩ := List.mem_map.1 he
    rfl
  rw [Store.get_setAll_of_forall d f hvals, if_pos]
  exact List.mem_map.2 ⟨_, List.mem_map.2 ⟨i, List.mem_range.2 hi, rfl⟩, rfl⟩

/-- A word written as its bytes reads back. -/
theorem ofNat_leNat_leBytes {n : Nat} (w : BitVec (8 * n)) : BitVec.ofNat (8 * n) (leNat (leBytes n w.toNat)) = w := by
  rw [leNat_leBytes, Nat.mod_eq_of_lt w.isLt, BitVec.ofNat_toNat, BitVec.setWidth_eq]

/-- A word of the tile that an image makes. -/
theorem imageTile_word (img : List Byte) (q : Nat) {i : Nat} (hi : i < 4096) :
    (imageTile img q).word i = BitVec.ofNat 96 (leNat ((img.drop (12 * i)).take 12)) := by
  simp only [AccTile.word, imageTile]
  exact Store.get_setAll_range 0 (fun k => BitVec.ofNat 96 (leNat ((img.drop (12 * k)).take 12))) hi

/-- An image holds the key and every word of its tile. -/
theorem imageTile_image (T : AccTile) (q : Nat) :
    (imageTile T.image q).key = T.key ∧ ∀ i, i < 4096 → (imageTile T.image q).word i = T.word i := by
  refine ⟨?_, fun i hi => ?_⟩
  · rw [imageTile, T.image_key]
    exact ofNat_leNat_leBytes (n := 8) T.key
  · rw [imageTile_word _ _ hi, T.image_word hi]
    exact ofNat_leNat_leBytes (n := 12) (T.word i)

end Sys2Proof.Machine
end

section
/-! SUPPORT. The items and commands that save, load and clear an engine's stores, and O23 (R116 to R118, R156, R157, R172). -/

namespace Sys2Proof.Machine

/-- A command about an item that may begin begins it. -/
theorem exec_of_mayBegin {c : Instr} {s : State} {E : EngineOps} {q : Nat} {mine : BitVec 512 → Bool} {x : BitVec 512}
    (hc : engineOf c = some (E, q, mine)) (hq : isQueue q = true) (hbegin : s.mayBegin E q x) (hmine : mine x = true) :
    exec c s = .next (E.begin s q x) := by
  rw [exec_of_engineOf hc hq, EngineOps.serve_of_mayBegin hbegin hmine]

/-- What an item begun whose work ends with OK does after its work. -/
theorem EngineOps.begin_of_ok {E : EngineOps} {s t : State} {q : Nat} {x : BitVec 512}
    (hrun : E.run (E.charged s q x) q x = (t, some (.ok, true))) :
    t.Touches wakeParts (E.begin s q x) ∧ ((E.begin s q x).queue q).held = none := E.work_of_ok _ q x hrun

/-! ### SAVE and RESTORE -/

theorem matrixMine_of_op {x : BitVec 512} {op : Nat} (h : mmOpcode x = op) : matrixMine op x = true := by simp [matrixMine, h]

theorem State.runMatrix_of_save {x : BitVec 512} (hop : mmOpcode x = 1) (s : State) (q : Nat) : s.runMatrix q x = s.runSave q x := by
  simp only [State.runMatrix, hop]

theorem State.runMatrix_of_restore {x : BitVec 512} (hop : mmOpcode x = 2) (s : State) (q : Nat) :
    s.runMatrix q x = s.runRestore q x := by
  simp only [State.runMatrix, hop]

theorem matrixEngine_run_of_ok {s u : State} {q : Nat} {x : BitVec 512} (h : s.runMatrix q x = (u, .ok)) :
    matrixEngine.run s q x = (u, some (.ok, true)) := by rw [matrixEngine_run, h, ended]

/-- The image of a SAVE ends below the tag store. -/
theorem saved_below_tags {s : State} {q : Nat} {x : BitVec 512} (hop : mmOpcode x = 1) (hcheck : s.matrixCheck q x = .ok) :
    mmAGran x 0 + 25 ≤ 7168 := by
  have heq : s.matrixCheck q x = if fld x 511 508 ≠ 1 then .versionUnsupported
      else firstBad [need (saveReservedOk x) .reservedNonzero, need (decide (mmAGran x 0 + 25 ≤ 7168)) .pageFault] := by
    simp only [State.matrixCheck, hop]
  rw [heq] at hcheck
  split at hcheck
  · cases hcheck
  · have hlast := firstBad_eq_ok.1 hcheck (need (decide (mmAGran x 0 + 25 ≤ 7168)) .pageFault) (by simp)
    exact of_decide_eq_true ((need_eq_ok (by decide)).1 hlast)

section
variable (s : State) (q : Nat) (x : BitVec 512)

/-- The state `u` with a tile's image and tags put in tile memory, and the tile emptied. -/
def State.tileSaved (u : State) (core k g : Nat) (img : List Byte) : State :=
  ((u.putTile core (2048 * g) img).putTile core (tagOff g) (List.replicate 400 0)).setAcc core k {}

/-- The work of a SAVE. -/
theorem State.runSave_spec :
    ∃ u, s.Touches [.regs, .free] u ∧ s.runSave q x =
      (u.tileSaved (s.queue q).core (mmTile x) (mmAGran x 0) (s.acc (s.queue q).core (mmTile x)).image, .ok) :=
  ⟨_, s.busyFor_touches _, rfl⟩

/-- The work of a RESTORE over sound tile memory. -/
theorem State.runRestore_of_sound (hbad : s.mem.badTile = []) (herr : s.mem.tileErr = []) :
    ∃ u, s.Touches [.regs, .free] u ∧ s.runRestore q x =
      (u.setAcc (s.queue q).core (mmTile x) (imageTile (s.tile (s.queue q).core (2048 * mmAGran x 0) 51200) q), .ok) := by
  have hbusy := s.busyFor_touches (coreOff (s.queue q).core 0x4020)
  have hmem := hbusy.mem (by decide)
  have hread := State.readTile_of_sound (s := s.busyFor (coreOff (s.queue q).core 0x4020)) (by rw [hmem, hbad]) (by rw [hmem, herr])
    (s.queue q).core (2048 * mmAGran x 0) 51200
  rw [State.tile_of_mem hmem] at hread
  refine ⟨_, hbusy, ?_⟩
  simp only [State.runRestore, hread]

theorem State.tileSaved_touches (core k g : Nat) (img : List Byte) :
    s.Touches [.memTile, .memBadTile, .memTileErr, .accs] (s.tileSaved core k g img) :=
  (((s.putTile_touches _ _ _).mono (by decide)).trans ((State.putTile_touches _ _ _ _).mono (by decide))).trans
    ((State.setAcc_touches _ _ _ _).mono (by decide))

/-- The tile memory of a tile saved: its image, and 25 tags of version 0. -/
theorem State.tileSaved_mem (core k : Nat) {g : Nat} {img : List Byte} (hlen : img.length = 51200) (hg : g + 25 ≤ 7168) :
    (s.tileSaved core k g img).tile core (2048 * g) 51200 = img ∧ ∀ j, j < 25 → (s.tileSaved core k g img).tag core (g + j) = 0 := by
  have htags : (s.tileSaved core k g img).tile core (tagOff g) 400 = List.replicate 400 0 := by
    have hput := (s.putTile core (2048 * g) img).tile_putTile_self core (tagOff g) (List.replicate 400 0)
    rw [List.length_replicate] at hput
    exact hput
  refine ⟨?_, fun j hj => ?_⟩
  · have hput := (s.putTile core (2048 * g) img).tile_putTile_outside core (tagOff g) (List.replicate 400 0) (off := 2048 * g)
      (n := 51200) (.inl (by unfold tagOff; omega))
    exact hput.trans (hlen ▸ s.tile_putTile_self core (2048 * g) img)
  · have hpart := State.take_drop_tile (s.tileSaved core k g img) core (tagOff g) (i := 16 * j) (k := 16) (n := 400) (by omega)
    have hoff : tagOff g + 16 * j = tagOff (g + j) := by unfold tagOff; omega
    rw [htags, hoff] at hpart
    have hzero : leNat ((s.tileSaved core k g img).tile core (tagOff (g + j)) 16) = 0 := by
      rw [← hpart, List.drop_replicate, List.take_replicate, leNat_replicate_zero]
    rw [State.tag, hzero]
    rfl

end

section
variable {s : State} {q : Nat} {x : BitVec 512}

/-- A SAVE begun puts the tile's image and its tags in tile memory, empties the tile, and completes. -/
theorem begin_save (hop : mmOpcode x = 1) (hcheck : s.matrixCheck q x = .ok) :
    let core := (s.queue q).core
    let t := matrixEngine.begin s q x
    t.tile core (2048 * mmAGran x 0) 51200 = (s.acc core (mmTile x)).image ∧ (∀ k, k < 25 → t.tag core (mmAGran x 0 + k) = 0) ∧
      t.acc core (mmTile x) = {} ∧ (t.queue q).held = none ∧ t.mem.near = s.mem.near := by
  have hcharged := matrixEngine.charged_touches s q x
  obtain ⟨u, hu, hsave⟩ := (matrixEngine.charged s q x).runSave_spec q x
  rw [matrixEngine.queue_charged, hcharged.acc (by decide)] at hsave
  obtain ⟨ht, hheld⟩ := EngineOps.begin_of_ok (matrixEngine_run_of_ok ((State.runMatrix_of_save hop _ q).trans hsave))
  obtain ⟨htile, htags⟩ := u.tileSaved_mem (s.queue q).core (mmTile x) (s.acc (s.queue q).core (mmTile x)).length_image
    (saved_below_tags hop hcheck)
  have hmem := ht.mem (by decide)
  refine ⟨(State.tile_of_mem hmem _ _ _).trans htile, fun k hk => (State.tag_of_mem hmem _ _).trans (htags k hk), ?_, hheld, ?_⟩
  · exact (ht.acc (by decide) _ _).trans (State.acc_setAcc_self _ _ _ _)
  · exact (ht .memNear (by decide)).trans
      ((u.tileSaved_touches _ _ _ _ .memNear (by decide)).trans ((hu .memNear (by decide)).trans (hcharged .memNear (by decide))))

/-- A RESTORE begun over sound memory makes the tile from its image, and completes. -/
theorem begin_restore (hop : mmOpcode x = 2) (hsound : s.memSound) :
    let core := (s.queue q).core
    let t := matrixEngine.begin s q x
    t.acc core (mmTile x) = imageTile (s.tile core (2048 * mmAGran x 0) 51200) q ∧ (t.queue q).held = none ∧ t.mem = s.mem := by
  obtain ⟨-, hbad, -, herr, -⟩ := hsound
  have hmem := (matrixEngine.charged_touches s q x).mem (by decide)
  obtain ⟨u, hu, hrestore⟩ := (matrixEngine.charged s q x).runRestore_of_sound q x (by rw [hmem, hbad]) (by rw [hmem, herr])
  rw [matrixEngine.queue_charged, State.tile_of_mem hmem] at hrestore
  obtain ⟨ht, hheld⟩ := EngineOps.begin_of_ok (matrixEngine_run_of_ok ((State.runMatrix_of_restore hop _ q).trans hrestore))
  exact ⟨(ht.acc (by decide) _ _).trans (State.acc_setAcc_self _ _ _ _), hheld,
    (ht.mem (by decide)).trans (((State.setAcc_touches _ _ _ _).mem (by decide)).trans ((hu.mem (by decide)).trans hmem))⟩

end

/-! ### LOAD_TABLE -/

section
variable (s : State) (core slot : Nat) (b : TableBank)

theorem State.loadTable_touches : s.Touches [.tables] (s.loadTable core slot b) := fun p hp => by
  cases p <;> simp_all [Part.same, State.loadTable]

theorem State.Touches.bank {l : List Part} {s t : State} (h : s.Touches l t) (hp : .tables ∉ l) (core k j : Nat) :
    t.bank core k j = s.bank core k j := congrArg (fun m => Store.get ({} : TableBank) m (bankIx core k j)) (h .tables hp)

/-- A bank of a core after a table was loaded into a slot. -/
theorem State.bank_loadTable (k j : Nat) :
    (s.loadTable core slot b).bank core k j =
      if bankIx core k j = bankIx core slot 1 then s.bank core slot 0
      else if bankIx core k j = bankIx core slot 0 then b else s.bank core k j := by
  refine (Store.get_set _ _ _ _ _).trans ?_
  rw [Store.get_set]
  rfl

/-- The table loaded is the active one. -/
theorem State.bank_loadTable_active : (s.loadTable core slot b).bank core slot 0 = b := by
  rw [State.bank_loadTable, if_neg (by unfold bankIx; omega), if_pos rfl]

/-- The table that was active is the shadow. -/
theorem State.bank_loadTable_shadow : (s.loadTable core slot b).bank core slot 1 = s.bank core slot 0 := by
  rw [State.bank_loadTable, if_pos rfl]

/-- The banks of the other slots stay. -/
theorem State.bank_loadTable_other {k j : Nat} (hk : k ≠ slot) (hj : j < 2) :
    (s.loadTable core slot b).bank core k j = s.bank core k j := by
  rw [State.bank_loadTable, if_neg (by unfold bankIx; omega), if_neg (by unfold bankIx; omega)]

end

theorem vectorMine_loadTable {x : BitVec 512} (h : veOp x = 6) : vectorMine 6 [0] x = true := by
  have hsub : veSub x = 0 ∨ 1 ≤ veSub x := by omega
  rcases hsub with hsub | hsub <;> simp [vectorMine, veSubs, h, hsub]

/-- Segment `i` of the bank that an image makes. -/
theorem imageBank_seg (img : List Byte) {i : Nat} (hi : i < hdSegs (BitVec.ofNat 512 (leNat (img.take 64)))) :
    (imageBank img).segs[i]? = some (
      BitVec.ofNat 32 (leNat ((img.drop (64 + 16 * i)).take 4)), BitVec.ofNat 32 (leNat ((img.drop (68 + 16 * i)).take 4)),
      BitVec.ofNat 32 (leNat ((img.drop (72 + 16 * i)).take 4))) := by
  have hsecond : 68 + 16 * i = 64 + 16 * i + 4 * 1 := by omega
  have hthird : 72 + 16 * i = 64 + 16 * i + 4 * 2 := by omega
  rw [hsecond, hthird]
  simp [imageBank, hi, imageSeg]

/-- The work of a LOAD_TABLE over sound tile memory. -/
theorem State.runLoadTable_of_sound {s : State} (hbad : s.mem.badTile = []) (herr : s.mem.tileErr = []) (core : Nat) (x : BitVec 512) :
    ∃ u, (s.loadTable core (veTbl x) (imageBank (s.veImage core x))).Touches [.regs, .free] u ∧
      s.runLoadTable core x = (u, some (.ok, true)) := by
  refine ⟨_, State.busyFor_touches _ (coreOff core 0x5010), ?_⟩
  simp only [State.runLoadTable, State.readTile_of_sound hbad herr]

/-- A LOAD_TABLE begun over sound memory loads the table of its image, and completes. -/
theorem begin_loadTable {s : State} {q : Nat} {x : BitVec 512} (hop : veOp x = 6) (hsound : s.memSound) :
    let core := (s.queue q).core
    let t := vectorEngine.begin s q x
    (t.queue q).held = none ∧ t.mem = s.mem ∧ t.bufs = s.bufs ∧
      ∀ k j, t.bank core k j = (s.loadTable core (veTbl x) (imageBank (s.tile core (2048 * veAux x) 4160))).bank core k j := by
  obtain ⟨-, hbad, -, herr, -⟩ := hsound
  have hcharged := vectorEngine.charged_touches s q x
  have hmem := hcharged.mem (by decide)
  obtain ⟨u, hu, hwork⟩ := State.runLoadTable_of_sound (s := vectorEngine.charged s q x) (by rw [hmem, hbad]) (by rw [hmem, herr])
    (s.queue q).core x
  have hrun : vectorEngine.run (vectorEngine.charged s q x) q x = (u, some (.ok, true)) := by
    rw [← hwork]
    change State.runVector _ q x = _
    simp only [State.runVector, vectorEngine.queue_charged, hop, if_true]
  obtain ⟨ht, hheld⟩ := EngineOps.begin_of_ok hrun
  have hload := State.loadTable_touches (vectorEngine.charged s q x) (s.queue q).core (veTbl x)
    (imageBank ((vectorEngine.charged s q x).veImage (s.queue q).core x))
  have hafter := (hu.mono (l' := .free :: wakeParts) (by decide)).trans (ht.mono (by decide))
  have himage : (vectorEngine.charged s q x).veImage (s.queue q).core x = s.tile (s.queue q).core (2048 * veAux x) 4160 :=
    State.tile_of_mem hmem _ _ _
  have htables : (vectorEngine.charged s q x).tables = s.tables := hcharged .tables (by decide)
  refine ⟨hheld, (hafter.mem (by decide)).trans ((hload.mem (by decide)).trans hmem),
    (hafter .bufs (by decide)).trans ((hload .bufs (by decide)).trans (hcharged .bufs (by decide))), fun k j => ?_⟩
  rw [hafter.bank (by decide), himage]
  simp only [State.bank, State.loadTable, htables]

/-! ### FTQ_FLUSH and BUF_CLEAR -/

theorem exec_ftqFlush {core : Nat} (h : isCore core = true) (s : State) : exec (.ftqFlush core) s = .next (s.setFtq core []) := by
  change ifUnit (isCore core) "core" _ = _
  rw [h, ifUnit_true]
  rfl

theorem exec_bufClear {core : Nat} (h : isCore core = true) (s : State) : exec (.bufClear core) s = .next (s.clearBufs core) := by
  change ifUnit (isCore core) "core" _ = _
  rw [h, ifUnit_true]

/-- A clear with no item under way leaves the buffers of its core at their default and every other one as it was. -/
theorem State.buf_clearBufs {s : State} {core : Nat} (hvec : (s.core core).vec = none) (k : Nat) {b : Nat} (hb : b < 4) :
    (s.clearBufs core).buf k b = if k = core then {} else s.buf k b := by
  have hclear : s.clearBufs core = { s with bufs := Store.erase {} (fun k => decide (k / 4 = core)) s.bufs } := by
    simp [State.clearBufs, hvec]
  have hkey : (k * 4 + b) / 4 = k := by omega
  rw [hclear]
  refine (Store.get_erase _ _ s.bufs (k * 4 + b)).trans ?_
  simp only [hkey, decide_eq_true_eq]
  rfl

/-- Settles O23: what each of the items begun leaves, and what each of the two commands writes. -/
theorem engineStores : Obligations.EngineStores := by
  refine ⟨⟨⟨fun s q x hq hbegin => ⟨fun hop => ?_, fun hop hsound => ?_⟩, imageTile_image⟩,
    fun s q x hq hbegin hsound hop => ?_⟩, fun s core hcore => ⟨?_, fun hvec => ?_, fun w hvec => ?_⟩⟩
  · have hexec := exec_of_mayBegin (c := .matrixSave q) rfl hq hbegin (matrixMine_of_op hop)
    obtain ⟨-, -, -, -, -, -, hcheck⟩ := hbegin
    exact ⟨_, hexec, begin_save hop hcheck⟩
  · have hexec := exec_of_mayBegin (c := .matrixRestore q) rfl hq hbegin (matrixMine_of_op hop)
    obtain ⟨hacc, hheld, hmem⟩ := begin_restore (q := q) hop hsound
    refine ⟨_, hexec, by rw [hacc, imageTile], hheld, hmem, ?_, fun i hi => ?_⟩
    · rw [hacc, imageTile, State.take_drop_tile _ _ _ (by omega)]
    · rw [hacc, imageTile_word _ _ hi, State.take_drop_tile _ _ _ (by omega)]
  · have hexec := exec_of_mayBegin (c := .loadTable q) rfl hq hbegin (vectorMine_loadTable hop)
    obtain ⟨hheld, hmem, hbufs, hbank⟩ := begin_loadTable (q := q) hop hsound
    refine ⟨_, hexec, hheld, hmem, hbufs, ?_, ?_, fun i hi => ?_, ?_, fun k b _ hb hk => ?_⟩
    · rw [hbank, State.bank_loadTable_active, imageBank]
    · rw [hbank, State.bank_loadTable_active, imageBank]
    · rw [hbank, State.bank_loadTable_active, imageBank_seg _ hi]
    · rw [hbank, State.bank_loadTable_shadow]
    · rw [hbank, State.bank_loadTable_other _ _ _ _ hk hb]
  · have hother : ∀ k, k ≠ core → (s.setFtq core []).ftqOf k = s.ftqOf k := fun k hk => Store.get_set_ne _ s.ftq core k [] hk
    exact ⟨_, exec_ftqFlush hcore s, State.ftqOf_setFtq_self _ _ _, hother, rfl⟩
  · have hbufs := State.buf_clearBufs hvec
    refine ⟨_, exec_bufClear hcore s, fun b hb => (hbufs core hb).trans (if_pos rfl),
      fun k b hb hk => (hbufs k hb).trans (if_neg hk), ?_⟩
    simp [State.clearBufs, hvec]
  · rw [exec_bufClear hcore, State.clearBufs, if_pos (Option.isSome_of_eq_some hvec)]

end Sys2Proof.Machine
end

section
/-! SUPPORT. Row-state records: their bits read back, and the rows of a record in tile memory (R162, R165). -/

namespace Sys2Proof.Machine

/-! ### The bits of a row -/

/-- The count and the flags of a row fit the 32 bits that a record has for each. -/
structure RowRec.Fits (R : RowRec) : Prop where
  count : R.count < 2 ^ 32
  flags : R.flags < 2 ^ 32

section
variable {R : RowRec}

theorem RowRec.toNat_toBits (h : R.Fits) :
    R.toBits.toNat = R.max.toNat + R.min.toNat * 2 ^ 32 + R.l.toNat * 2 ^ 64 + R.alpha.toNat * 2 ^ 96 + R.mean.toNat * 2 ^ 128 +
      R.var.toNat * 2 ^ 160 + R.count * 2 ^ 192 + R.flags * 2 ^ 224 + R.sum.toNat * 2 ^ 256 + R.sq.toNat * 2 ^ 320 +
      R.lse.toNat * 2 ^ 384 := by
  obtain ⟨hcount, hflags⟩ := h
  rw [RowRec.toBits, BitVec.toNat_ofNat, Nat.mod_eq_of_lt hcount, Nat.mod_eq_of_lt hflags]
  dsimp only
  omega

/-- A row that fits reads back from its bits. -/
theorem RowRec.ofBits_toBits (h : R.Fits) : RowRec.ofBits R.toBits = R := by
  have hbits := RowRec.toNat_toBits h
  obtain ⟨hcount, hflags⟩ := h
  have hback : ∀ {n : Nat} (w : BitVec n) (v : Nat), v = w.toNat → BitVec.ofNat n v = w := fun w v hv => by
    rw [hv, BitVec.ofNat_toNat, BitVec.setWidth_eq]
  simp only [RowRec.ofBits, fld, bits_eq_div, hbits, BitVec.toNat_ofNat]
  cases R
  simp only [RowRec.mk.injEq] at hcount hflags ⊢
  refine ⟨hback _ _ ?_, hback _ _ ?_, hback _ _ ?_, hback _ _ ?_, hback _ _ ?_, hback _ _ ?_, ?_, ?_, hback _ _ ?_, hback _ _ ?_,
    hback _ _ ?_⟩
  all_goals omega

theorem RowRec.fits_ofBits (x : BitVec 512) : (RowRec.ofBits x).Fits := ⟨BitVec.isLt _, BitVec.isLt _⟩

theorem RowRec.fits_initial : RowRec.initial.Fits := ⟨by decide, by decide⟩

theorem RowRec.fits_p1 (h : R.Fits) (w : W32) : (R.p1 w).Fits := by
  refine ⟨Nat.mod_lt _ (Nat.two_pow_pos 32), ?_⟩
  unfold RowRec.p1
  dsimp only
  split
  · exact Nat.or_lt_two_pow h.flags (by decide)
  · exact Nat.or_lt_two_pow h.flags (by decide)
  · exact Nat.or_lt_two_pow h.flags (by decide)
  · exact h.flags

theorem RowRec.fits_p2 (h : R.Fits) (w : W32) : (R.p2 w).Fits := by
  unfold RowRec.p2
  split
  · exact ⟨h.count, h.flags⟩
  · exact h

/-- A step that keeps rows within their fields keeps them so over a list of elements. -/
theorem RowRec.fits_foldl {f : RowRec → Nat → RowRec} (hf : ∀ R c, R.Fits → (f R c).Fits) (l : List Nat) (h : R.Fits) :
    (l.foldl f R).Fits := List.foldlRecOn l f h fun R hR c _ => hf R c hR

end

/-! ### The rows of a record -/

section
variable (s : State) (core g : Nat)

/-- A row of a record after a row was written. -/
theorem State.recRow_putRecRow (r : Nat) (v : BitVec 512) (k : Nat) :
    (s.putRecRow core g r v).recRow core g k = if k = r then v else s.recRow core g k := by
  have hlen : (leBytes 64 v.toNat).length = 64 := length_leBytes 64 _
  unfold State.recRow State.putRecRow
  split
  · next h =>
    have hself := s.tile_putTile_self core (2048 * g + 64 * r) (leBytes 64 v.toNat)
    rw [hlen] at hself
    rw [h, hself]
    exact ofNat_leNat_leBytes (n := 64) v
  · next h => rw [s.tile_putTile_outside core _ _ (by omega)]

/-- The first `n` rows of a record written in turn. -/
def State.putRecRows (f : Nat → BitVec 512) (n : Nat) : State := (List.range n).foldl (fun t r => t.putRecRow core g r (f r)) s

theorem State.recRow_putRecRows (f : Nat → BitVec 512) (n k : Nat) :
    (s.putRecRows core g f n).recRow core g k = if k < n then f k else s.recRow core g k := by
  induction n with
  | zero => rfl
  | succ n ih =>
    have hlast : s.putRecRows core g f (n + 1) = (s.putRecRows core g f n).putRecRow core g n (f n) := by
      simp [State.putRecRows, List.range_succ]
    rw [hlast, State.recRow_putRecRow, ih]
    by_cases hk : k = n
    · simp [hk]
    · simp only [hk, if_false]
      exact if_congr (by omega) rfl rfl

theorem State.putRecRows_touches (f : Nat → BitVec 512) (n : Nat) :
    s.Touches [.memTile, .memBadTile, .memTileErr] (s.putRecRows core g f n) :=
  touches_foldl (fun t _ => t.putTile_touches core _ _) _ s

theorem State.recTags_touches : s.Touches [.memTile, .memBadTile, .memTileErr] (s.recTags core g) := s.putTile_touches _ _ _

/-- The first tag of a record is zero once its tags are written. -/
theorem State.tag_recTags : (s.recTags core g).tag core g = 0 := by
  have hself := s.tile_putTile_self core (tagOff g) (List.replicate 32 0)
  have hpart := State.take_drop_tile (s.recTags core g) core (tagOff g) (i := 0) (k := 16) (n := 32) (by omega)
  rw [List.length_replicate] at hself
  rw [State.recTags, hself, Nat.add_zero] at hpart
  rw [State.tag, State.recTags, ← hpart, List.drop_replicate, List.take_replicate, leNat_replicate_zero]
  rfl

/-- The rows of a record lie below the tags. -/
theorem State.recRow_recTags {k : Nat} (hk : k < 64) (hg : g + 2 ≤ 7168) : (s.recTags core g).recRow core g k = s.recRow core g k := by
  have htile := s.tile_putTile_outside core (tagOff g) (List.replicate 32 0) (off := 2048 * g + 64 * k) (n := 64)
    (.inl (by unfold tagOff; omega))
  rw [State.recRow, State.recTags, htile, State.recRow]

/-- A record of `n` rows written, with its tags. -/
def State.putRecord (f : Nat → BitVec 512) (n : Nat) : State := (s.putRecRows core g f n).recTags core g

theorem State.putRecord_touches (f : Nat → BitVec 512) (n : Nat) :
    s.Touches [.memTile, .memBadTile, .memTileErr] (s.putRecord core g f n) :=
  (s.putRecRows_touches core g f n).trans (State.recTags_touches _ core g)

theorem State.recRow_putRecord (f : Nat → BitVec 512) {n k : Nat} (hk : k < n) (hn : n ≤ 64) (hg : g + 2 ≤ 7168) :
    (s.putRecord core g f n).recRow core g k = f k := by
  rw [State.putRecord, State.recRow_recTags _ core g (by omega) hg, State.recRow_putRecRows, if_pos hk]

end
end Sys2Proof.Machine
end

section
/-! SUPPORT. The vector engine's work on an item of one tile: its fields and checks, the state in which the work is done, and what
the tile leaves (R127 to R137, R162, R172). -/

namespace Sys2Proof.Machine

/-! ### Fields of an item -/

theorem testBit_bits (x hi lo i : Nat) : (bits x hi lo).testBit i = (decide (i < hi + 1 - lo) && x.testBit (lo + i)) := by
  rw [bits, Nat.testBit_mod_two_pow, Nat.testBit_shiftRight]

section
variable {x : BitVec 512} {hi lo : Nat} (h : fld x hi lo = 0)
include h

/-- A bit within a field of zeros. -/
theorem fbit_eq_false_of_fld {i : Nat} (hlo : lo ≤ i) (hhi : i ≤ hi) : fbit x i = false := by
  have hbit := testBit_bits x.toNat hi lo (i - lo)
  have hzero : bits x.toNat hi lo = 0 := h
  have hin : i - lo < hi + 1 - lo := by omega
  rw [hzero, Nat.zero_testBit, Nat.add_sub_cancel' hlo, decide_eq_true hin, Bool.true_and] at hbit
  exact hbit.symm

/-- A field within a field of zeros. -/
theorem fld_eq_zero_of_fld {hi' lo' : Nat} (hlo : lo ≤ lo') (hhi : hi' ≤ hi) : fld x hi' lo' = 0 := by
  refine Nat.eq_of_testBit_eq fun i => ?_
  rw [fld, testBit_bits, Nat.zero_testBit]
  by_cases hi : i < hi' + 1 - lo'
  · have hbit : x.toNat.testBit (lo' + i) = false := fbit_eq_false_of_fld h (by omega) (by omega)
    rw [hbit, Bool.and_false]
  · simp [hi]

end

theorem veM_le (x : BitVec 512) : veM x ≤ 64 := by
  have h := bits_lt x.toNat 377 372
  unfold veM m1 fld
  omega

theorem veN_le (x : BitVec 512) : veN x ≤ 64 := by
  have h := bits_lt x.toNat 371 366
  unfold veN m1 fld
  omega

/-- The commands about the variants `subs` of an opcode are about an item of that opcode whose variant is one of them or reserved. -/
theorem vectorMine_of_op {op : Nat} {subs : List Nat} {x : BitVec 512} (hop : veOp x = op)
    (hsub : veSubs op ≤ veSub x ∨ veSub x ∈ subs) : vectorMine op subs x = true := by
  rcases hsub with hsub | hsub <;> simp [vectorMine, hop, hsub]

/-! ### Checks -/

section
variable {s : State} {q : Nat} {x : BitVec 512}

/-- What an item that passes its checks satisfies: the reserved fields, and the extents beside its operands and destinations. -/
theorem fields_of_vectorCheck (h : s.vectorCheck q x = .ok) : veReservedOk x = true ∧ ∀ e ∈ veAuxExt x, e.1 + e.2 ≤ 7168 := by
  unfold State.vectorCheck at h
  dsimp only at h
  split at h
  · cases h
  · split at h
    · cases h
    · next hreserved =>
      have hext := (need_eq_ok (by decide)).1 (firstBad_eq_ok.1 h _ List.mem_cons_self)
      exact ⟨Bool.eq_true_of_not_eq_false hreserved,
        fun e he => of_decide_eq_true (List.all_eq_true.1 hext e (List.mem_append_right _ he))⟩

/-- The record of an item ends below the tag store. -/
theorem record_of_vectorCheck (h : s.vectorCheck q x = .ok) (hop : veOp x = 2) : veAux x + 2 ≤ 7168 :=
  (fields_of_vectorCheck h).2 (veAux x, 2) (by simp [veAuxExt, hop])

/-- A tile buffer receives FP32. -/
theorem veOutFmt_of_reserved (h : veReservedOk x = true) (hdst : veKindD x = 2) : veOutFmt x = 0 := by
  simp only [veReservedOk, Bool.and_eq_true] at h
  obtain ⟨⟨-, hfmt⟩, -⟩ := h
  simpa [hdst] using hfmt

/-- The fields that an item's opcode does not use are zero. -/
theorem unused_of_reserved (h : veReservedOk x = true) {hi lo : Nat} (hmem : (hi, lo) ∈ veUnused x) : fld x hi lo = 0 := by
  simp only [veReservedOk, Bool.and_eq_true, and_assoc] at h
  obtain ⟨-, hzeros, -⟩ := h
  exact of_decide_eq_true (List.all_eq_true.1 hzeros _ hmem)

end

/-! ### What the sources depend on -/

section
variable {l : List Part} {s t : State} (h : s.Touches l t)
include h

theorem State.Touches.recRow (hmem : ∀ p ∈ memParts, p ∉ l) (core g r : Nat) : t.recRow core g r = s.recRow core g r := by
  simp only [State.recRow, State.tile_of_mem (h.mem hmem)]

theorem State.Touches.memSrc (hmem : ∀ p ∈ memParts, p ∉ l) (core g m n : Nat) : t.memSrc core g m n = s.memSrc core g m n := by
  simp only [State.memSrc, State.tag_of_mem (h.mem hmem), State.tileAt_of_mem (h.mem hmem)]

theorem State.Touches.kindSrc (hmem : ∀ p ∈ memParts, p ∉ l) (hbufs : .bufs ∉ l) (core kind g m n : Nat) :
    t.kindSrc core kind g m n = s.kindSrc core kind g m n := by
  simp only [State.kindSrc, h.memSrc hmem, h.buf hbufs]

theorem State.Touches.table (htables : .tables ∉ l) (hboot : .boot ∉ l) (core : Nat) : t.table core = s.table core := by
  have hversion : t.boot = s.boot := h .boot hboot
  funext slot
  simp only [State.table, h.bank htables, hversion]

end

/-! ### The state in which an item of one tile is worked -/

/-- The state with a walk under way on a core's vector engine. -/
def State.withVec (s : State) (core : Nat) (w : VeWalk) : State := s.setCore core { s.core core with vec := some w }

theorem State.withVec_touches (s : State) (core : Nat) (w : VeWalk) : s.Touches [.cores] (s.withVec core w) := s.setCore_touches core _

@[simp] theorem State.core_withVec (s : State) (core : Nat) (w : VeWalk) :
    (s.withVec core w).core core = { s.core core with vec := some w } := State.core_setCore_self _ _ _

/-- The walk of an item that begins. -/
def State.veStart (s : State) (q : Nat) : VeWalk := { queue := q, slots := s.tier.slots }

/-- The state in which an item's first tile is worked: its estimate charged, and the item under way. -/
def State.veBegun (s : State) (q : Nat) (x : BitVec 512) : State :=
  (vectorEngine.charged s q x).withVec (s.queue q).core (s.veStart q)

/-- The state after an item's last tile, with its records written and no item under way. -/
def State.veEnd (t : State) (core : Nat) (x : BitVec 512) : State :=
  ((t.veRecords core x (((t.core core).vec).getD { queue := 0 })).busyFor (coreOff core 0x5010)).veDone core

/-- The parts that differ where an item's first tile is worked. -/
def begunParts : List Part := [.regs, .pwr, .qs, .cores]

/-- An element as the item's mask leaves it: −∞ where it is masked (R143). -/
def State.veMasked (s : State) (x : BitVec 512) (t : VSrc) (r c : Nat) : W32 :=
  if veMask x && tagMasks (s.slot (tagSlot t.tag)) t.tag r c then 0xFF800000#32 else t.wide r c

section
variable (s : State) (q : Nat) (x : BitVec 512)

theorem State.veBegun_touches : s.Touches begunParts (s.veBegun q x) :=
  ((vectorEngine.charged_touches s q x).mono (by decide)).trans ((State.withVec_touches _ _ _).mono (by decide))

theorem State.core_veBegun :
    (s.veBegun q x).core (s.queue q).core = { s.core (s.queue q).core with vec := some (s.veStart q) } := by
  rw [State.veBegun, State.core_withVec, (vectorEngine.charged_touches s q x).core (by decide)]

@[simp] theorem State.recRow_veBegun (core g r : Nat) : (s.veBegun q x).recRow core g r = s.recRow core g r :=
  (s.veBegun_touches q x).recRow (by decide) core g r

@[simp] theorem State.memSrc_veBegun (core g m n : Nat) : (s.veBegun q x).memSrc core g m n = s.memSrc core g m n :=
  (s.veBegun_touches q x).memSrc (by decide) core g m n

@[simp] theorem State.table_veBegun (core : Nat) : (s.veBegun q x).table core = s.table core :=
  (s.veBegun_touches q x).table (by decide) (by decide) core

@[simp] theorem State.veSource1_veBegun (core p : Nat) : (s.veBegun q x).veSource1 core x p = s.veSource1 core x p :=
  (s.veBegun_touches q x).kindSrc (by decide) (by decide) core _ _ _ _

@[simp] theorem State.veSource0_veBegun (core p : Nat) : (s.veBegun q x).veSource0 core x p = s.veSource0 core x p := by
  have h := s.veBegun_touches q x
  simp only [State.veSource0, h.ftqOf (by decide), h.kindSrc (by decide) (by decide)]

/-- The item masks by the slots as it began (R186). -/
@[simp] theorem State.masked0_veBegun (t : VSrc) (r c : Nat) :
    (s.veBegun q x).masked0 (s.queue q).core x t r c = s.veMasked x t r c := by
  simp only [State.masked0, State.core_veBegun]
  rfl

end

theorem State.meetTile_veBegun {s : State} (hsound : s.memSound) (q : Nat) (x : BitVec 512) (core : Nat) (l : List (Nat × Nat)) :
    (s.veBegun q x).meetTile core l = (s.veBegun q x, .ok) := by
  obtain ⟨-, hbad, -, herr, -⟩ := hsound
  have hmem := (s.veBegun_touches q x).mem (by decide)
  exact State.meetTile_of_sound (by rw [hmem, hbad]) (by rw [hmem, herr]) core l

/-- The work of an item of one tile, from tile memory or a tile buffer, over sound memory. -/
theorem vectorEngine_run_single {s : State} {q : Nat} {x : BitVec 512} (hop : veOp x ≠ 6) (htiles : veTiles x = 1)
    (hkind : veKind0 x ≠ 1) (hvec : (s.core (s.queue q).core).vec = none) (hsound : s.memSound) :
    vectorEngine.run (vectorEngine.charged s q x) q x =
      (((s.veBegun q x).veTile (s.queue q).core q x (s.veStart q)).veEnd (s.queue q).core x, some (.ok, true)) := by
  have hcharged := vectorEngine.charged_touches s q x
  have hslots : (vectorEngine.charged s q x).tier = s.tier := hcharged .tier (by decide)
  have hrun : vectorEngine.run (vectorEngine.charged s q x) q x = State.veGo 1 (s.veBegun q x) (s.queue q).core q x := by
    change State.runVector _ q x = _
    simp only [State.runVector, vectorEngine.queue_charged, if_neg hop, hcharged.core (by decide), hvec, hslots, Option.getD_none, htiles,
      State.veBegun, State.withVec, State.veStart]
  rw [hrun]
  simp only [State.veGo, hkind, false_and, if_false, State.meetTile_veBegun hsound, ne_eq, not_true_eq_false, State.core_veBegun,
    Option.getD_some]
  rfl

/-! ### The end of an item -/

section
variable (s : State) (core : Nat) (x : BitVec 512) (w : VeWalk)

/-- The end of an item with no clear of the buffers waiting. -/
theorem State.veDone_touches (h : (s.core core).bufClear = false) : s.Touches [.cores] (s.veDone core) := by
  have hdone : s.veDone core = s.setCore core { s.core core with vec := none, bufClear := false } := by simp [State.veDone, h]
  exact hdone ▸ s.setCore_touches core _

theorem State.veRecords_touches : s.Touches [.memTile, .memBadTile, .memTileErr] (s.veRecords core x w) :=
  touches_ite (.refl _ s) (touches_ite
    ((touches_foldl (fun t _ => t.putTile_touches core _ _) _ s).trans (State.recTags_touches _ _ _)) (s.recTags_touches _ _))

/-- What the end of an item, with no clear of the buffers waiting, touches after its records. -/
theorem State.veEnd_after (h : (s.core core).bufClear = false) :
    (s.veRecords core x (((s.core core).vec).getD { queue := 0 })).Touches [.regs, .free, .cores] (s.veEnd core x) := by
  have hrecords := s.veRecords_touches core x (((s.core core).vec).getD { queue := 0 })
  have hbusy := (s.veRecords core x (((s.core core).vec).getD { queue := 0 })).busyFor_touches (coreOff core 0x5010)
  exact (hbusy.mono (by decide)).trans
    ((State.veDone_touches _ core (by rw [hbusy.core (by decide), hrecords.core (by decide), h])).mono (by decide))

/-- The parts that the end of an item may touch. -/
def endParts : List Part := [.regs, .free, .cores, .memTile, .memBadTile, .memTileErr]

theorem State.veEnd_touches (h : (s.core core).bufClear = false) : s.Touches endParts (s.veEnd core x) :=
  ((s.veRecords_touches core x _).mono (by decide)).trans ((s.veEnd_after core x h).mono (by decide))

end

end Sys2Proof.Machine
end

section
/-! SUPPORT. The element-by-element operations into a tile buffer, and O24 (R138 to R140, R142 to R145, R167, R168). -/

namespace Sys2Proof.Machine

/-! ### A tile buffer written -/

/-- A tile buffer of `m` rows and `n` columns with its elements. -/
def elementBuf (m n : Nat) (tag : W128) (y : Nat → Nat → W32) : TileBuf :=
  { m := m, n := n, tag := tag,
    words := Store.setAll 0 [] (((List.range m).map fun r => (List.range n).map fun c => (wordIx r c, y r c)).flatten) }

theorem elementBuf_word {m n : Nat} (tag : W128) (y : Nat → Nat → W32) {r c : Nat} (hn : n ≤ 64) (hr : r < m) (hc : c < n) :
    Store.get 0 (elementBuf m n tag y).words (wordIx r c) = y r c := by
  have hplace : ∀ i j, j < 64 → wordIx i j / 64 = i ∧ wordIx i j % 64 = j := fun i j hj => by
    unfold wordIx
    omega
  obtain ⟨hrow, hcol⟩ := hplace r c (by omega)
  refine (Store.get_setAll_of_forall 0 (fun k => y (k / 64) (k % 64)) (fun e he => ?_) [] _).trans ((if_pos ?_).trans ?_)
  · simp only [List.mem_flatten, List.mem_map, List.mem_range] at he
    obtain ⟨_, ⟨i, -, rfl⟩, hrow⟩ := he
    simp only [List.mem_map, List.mem_range] at hrow
    obtain ⟨j, hj, rfl⟩ := hrow
    obtain ⟨hi, hj⟩ := hplace i j (by omega)
    simp only [hi, hj]
  · simp only [List.mem_map, List.mem_flatten, List.mem_range]
    exact ⟨_, ⟨_, ⟨r, hr, rfl⟩, List.mem_map.2 ⟨c, List.mem_range.2 hc, rfl⟩⟩, rfl⟩
  · simp only [hrow, hcol]

/-! ### The work of a tile without row state -/

/-- The rows and columns of an operation's output, from those of its source. -/
def veDims (x : BitVec 512) (t : VSrc) : Nat × Nat := if veOp x = 3 ∧ veSub x = 1 then (t.n, t.m) else (t.m, t.n)

/-- An output tile into a tile buffer. -/
theorem State.veWrite_buffer {x : BitVec 512} (hdst : veKindD x = 2) (s : State) (core q p : Nat) (tag : W128) (m n : Nat)
    (out : Nat → Nat → VOut) :
    ∃ u, s.Touches [.regs] u ∧ s.veWrite core q p x tag m n out =
      u.setBuf core (veDst x p) (elementBuf m n (outTag tag (veOutFmt x) q) fun r c => toF32 (out r c).1) := by
  simp only [State.veWrite, hdst]
  exact ⟨_, s.bumpSeenN_touches _ _ _ _, rfl⟩

/-- A tile of an item without row state, into a tile buffer. -/
theorem State.veTile_elements {x : BitVec 512} (hkind : veKind0 x ≠ 1) (hstat : veStat x = false) (hdst : veKindD x = 2) (s : State)
    (core q : Nat) (w : VeWalk) :
    let t := s.veSource0 core x w.next
    ∃ u, s.Touches [.regs, .cores] u ∧ (u.core core).bufClear = (s.core core).bufClear ∧
      s.veTile core q x w = u.setBuf core (veDst x w.next) (elementBuf (veDims x t).1 (veDims x t).2 (outTag t.tag (veOutFmt x) q)
        fun r c => toF32 (s.veElem core w.next x (fun r => s.veRow core x w r) t r c).1) := by
  intro t
  have hbump := s.bump_touches (coreOff core 0x5038) (s.shuffleOob core w.next x t)
  have hvec := (s.bump (coreOff core 0x5038) (s.shuffleOob core w.next x t)).withVec_touches core { w with next := w.next + 1 }
  obtain ⟨u, hu, hwrite⟩ := State.veWrite_buffer hdst
    ((s.bump (coreOff core 0x5038) (s.shuffleOob core w.next x t)).withVec core { w with next := w.next + 1 }) core q w.next t.tag
    (veDims x t).1 (veDims x t).2 (s.veElem core w.next x (fun r => s.veRow core x w r) t)
  refine ⟨u, ((hbump.mono (by decide)).trans (hvec.mono (by decide))).trans (hu.mono (by decide)), ?_, ?_⟩
  · rw [hu.core (by decide), State.core_withVec, hbump.core (by decide)]
  · rw [← hwrite]
    simp only [State.veTile, if_neg hkind, hstat]
    rfl

/-! ### An item of one tile -/

/-- An item of one tile, from tile memory or a tile buffer, begins in `s` over sound memory with no clear of the buffers waiting. -/
structure State.BeginsOne (s : State) (q : Nat) (x : BitVec 512) : Prop where
  queue : isQueue q = true
  begins : s.mayBegin vectorEngine q x
  sound : s.memSound
  tiles : veTiles x = 1
  source : veKind0 x ≠ 1
  clear : (s.core (s.queue q).core).bufClear = false

section
variable {s : State} {q : Nat} {x : BitVec 512} (h : s.BeginsOne q x)
include h

theorem State.BeginsOne.check : s.vectorCheck q x = .ok := by
  obtain ⟨-, -, -, -, -, -, hcheck⟩ := h.begins
  exact hcheck

theorem State.BeginsOne.idle : (s.core (s.queue q).core).vec = none := by
  obtain ⟨-, -, hunder, -⟩ := h.begins
  exact Option.map_eq_none_iff.1 hunder

/-- The buffers' clear does not wait where the item is worked. -/
theorem State.BeginsOne.begun_clear : ((s.veBegun q x).core (s.queue q).core).bufClear = false := by
  rw [State.core_veBegun]
  exact h.clear

/-- The source of the item's one tile, its valid part being that of the item. -/
theorem State.BeginsOne.dims :
    (s.veSource0 (s.queue q).core x 0).m = veM x ∧ (s.veSource0 (s.queue q).core x 0).n = veN x := by
  unfold State.veSource0 State.kindSrc State.memSrc
  rw [if_neg h.source]
  split <;> exact ⟨rfl, rfl⟩

theorem State.BeginsOne.columns_le : (veDims x (s.veSource0 (s.queue q).core x 0)).2 ≤ 64 := by
  obtain ⟨hm, hn⟩ := h.dims
  unfold veDims
  split
  · exact hm ▸ veM_le x
  · exact hn ▸ veN_le x

/-- What an item of one tile leaves after its end: its queue holds nothing. -/
theorem State.BeginsOne.after (hop : veOp x ≠ 6) :
    (((s.veBegun q x).veTile (s.queue q).core q x (s.veStart q)).veEnd (s.queue q).core x).Touches wakeParts (vectorEngine.begin s q x) ∧
      ((vectorEngine.begin s q x).queue q).held = none :=
  EngineOps.begin_of_ok (vectorEngine_run_single hop h.tiles h.source h.idle h.sound)

/-- An item without row state leaves the elements of its operation in its tile buffer. -/
theorem State.BeginsOne.begin_elements (hop : veOp x ≠ 6) (hstat : veStat x = false) (hdst : veKindD x = 2) :
    let core := (s.queue q).core
    let t := vectorEngine.begin s q x
    let A := s.veSource0 core x 0
    (t.queue q).held = none ∧ t.mem.near = s.mem.near ∧ t.accs = s.accs ∧
      t.buf core (veDst x 0) = elementBuf (veDims x A).1 (veDims x A).2 (outTag A.tag 0 q) fun r c =>
        toF32 ((s.veBegun q x).veElem core 0 x (fun r => RowRec.ofBits (s.recRow core (veAux x) r)) A r c).1 := by
  intro core t A
  obtain ⟨hafter, hheld⟩ := h.after hop
  obtain ⟨u, hu, hclear, htile⟩ := State.veTile_elements h.source hstat hdst (s.veBegun q x) core q (s.veStart q)
  have hrow : ∀ r, (s.veBegun q x).veRow core x (s.veStart q) r = RowRec.ofBits (s.recRow core (veAux x) r) := fun r => by
    simp only [State.veRow, hstat, Bool.false_and, Bool.false_eq_true, if_false, State.recRow_veBegun]
    rfl
  have hnext : (s.veStart q).next = 0 := rfl
  have hfmt := veOutFmt_of_reserved (fields_of_vectorCheck h.check).1 hdst
  simp only [hrow, hnext, hfmt, State.veSource0_veBegun] at htile
  rw [htile] at hafter
  have hput : ∀ v, u.Touches [.bufs] (u.setBuf core (veDst x 0) v) := fun v => touches_bufs u _
  have hend := fun v => State.veEnd_touches (u.setBuf core (veDst x 0) v) core x (by
    rw [(hput v).core (by decide), hclear, h.begun_clear])
  have hpast := ((hend _).mono (l' := wakeParts ++ endParts) (by decide)).trans (hafter.mono (by decide))
  have hall := ((s.veBegun_touches q x).mono (l' := .bufs :: .pwr :: wakeParts ++ endParts) (by decide)).trans
    ((hu.mono (by decide)).trans (((hput _).mono (by decide)).trans (hpast.mono (by decide))))
  exact ⟨hheld, hall .memNear (by decide), hall .accs (by decide),
    (hpast.buf (by decide) core (veDst x 0)).trans (State.buf_setBuf_self _ _ _ _)⟩

/-- A command about an item without row state leaves in the item's tile buffer what each element is. -/
theorem State.BeginsOne.exec_elements {c : Instr} {mine : BitVec 512 → Bool} (hc : engineOf c = some (vectorEngine, q, mine))
    (hmine : mine x = true) (hwork : veOp x ≠ 6 ∧ ¬(veOp x = 2 ∧ veSub x ≤ 2)) (hdst : veKindD x = 2) {m n : Nat}
    {y : Nat → Nat → W32} :
    let core := (s.queue q).core
    let A := s.veSource0 core x 0
    veDims x A = (m, n) →
    (∀ r k, r < m → k < n →
      toF32 ((s.veBegun q x).veElem core 0 x (fun r => RowRec.ofBits (s.recRow core (veAux x) r)) A r k).1 = y r k) →
    ∃ t, exec c s = .next t ∧ (t.queue q).held = none ∧ t.mem.near = s.mem.near ∧ t.accs = s.accs ∧
      (t.buf core (veDst x 0)).m = m ∧ (t.buf core (veDst x 0)).n = n ∧ (t.buf core (veDst x 0)).tag = outTag A.tag 0 q ∧
      ∀ r k, r < m → k < n → Store.get 0 (t.buf core (veDst x 0)).words (wordIx r k) = y r k := by
  intro core A hdims hy
  have hn : (veDims x A).2 ≤ 64 := h.columns_le
  obtain ⟨hheld, hnear, haccs, hbuf⟩ := h.begin_elements hwork.1 (decide_eq_false hwork.2) hdst
  change (vectorEngine.begin s q x).buf core (veDst x 0) = _ at hbuf
  rw [hdims] at hbuf hn
  refine ⟨_, exec_of_mayBegin hc h.queue h.begins hmine, hheld, hnear, haccs, by rw [hbuf]; rfl, by rw [hbuf]; rfl,
    by rw [hbuf]; rfl, fun r k hr hk => ?_⟩
  rw [hbuf, elementBuf_word _ _ hn hr hk]
  exact hy r k hr hk

end

/-! ### What each element is -/

section
variable (s : State) (q : Nat) {x : BitVec 512} (rec : Nat → RowRec) (t : VSrc) (r c : Nat)

/-- EPI into a tile buffer: bias, function, scale and residual in this order (R138, R139). -/
theorem veElem_epi (hop : veOp x = 0) (hfmt : veOutFmt x = 0) :
    let core := (s.queue q).core
    let a := s.veMasked x t r c
    let y := if veBias x then f32add a ((s.memSrc core (veAux x) 1 64).wide 0 c) else a
    let y := fnApply (s.table core) (veFn x) (veTbl x) y
    let y := if veScaleEn x then f32mul y (veScale x) else y
    ((s.veBegun q x).veElem core 0 x rec t r c).1 = f32 (if veRes x then f32add y ((s.veSource1 core x 0).wide r c) else y) := by
  simp [State.veElem, State.epiAt, hop, hfmt]

theorem veElem_binary (hop : veOp x = 1) :
    ((s.veBegun q x).veElem (s.queue q).core 0 x rec t r c).1 =
      f32 (binaryOp (veSub x) (s.veMasked x t r c) ((s.veSource1 (s.queue q).core x 0).wide r c)) := by
  simp only [State.veElem, hop, State.masked0_veBegun, State.veSource1_veBegun]

theorem veElem_smaxNorm (hop : veOp x = 2) (hsub : veSub x = 3) :
    ((s.veBegun q x).veElem (s.queue q).core 0 x rec t r c).1 =
      f32 ((rec r).smaxNorm (s.table (s.queue q).core) (s.veMasked x t r c)) := by
  simp [State.veElem, hop, hsub]

theorem veElem_norm (hop : veOp x = 2) (hsub : veSub x = 4) :
    let B := s.veSource1 (s.queue q).core x 0
    let u := f32mul (f32sub (t.wide r c) (rec r).mean) ((s.table (s.queue q).core 3).eval (f32add (rec r).var (veScale x)))
    ((s.veBegun q x).veElem (s.queue q).core 0 x rec t r c).1 =
      f32 (if veBias x then f32fma u (B.wide 0 c) (B.wide 1 c) else u) := by
  simp only [State.veElem, State.normAt, hop, hsub, if_true, State.table_veBegun, State.veSource1_veBegun]
  split <;> rfl

/-- The element that PERMUTE puts in a place: copied, transposed, or from a row or a column reversed (R144). -/
def permuteAt (sub : Nat) (t : VSrc) (r c : Nat) : W32 :=
  match sub with
  | 1 => t.wide c r
  | 2 => t.wide r (t.n - 1 - c)
  | 3 => t.wide (t.m - 1 - r) c
  | _ => t.wide r c

theorem veElem_permute (hop : veOp x = 3) {sub : Nat} (hsub : veSub x = sub) :
    ((s.veBegun q x).veElem (s.queue q).core 0 x rec t r c).1 = f32 (permuteAt sub t r c) := by
  simp only [State.veElem, hop, hsub]
  rfl

/-- SHUFFLE: the element that the index names, or zero where it names none (R145). -/
theorem veElem_shuffle (hop : veOp x = 4) :
    let i := ((s.veSource1 (s.queue q).core x 0).val 0 (if veSub x = 0 then c else r)).toIntR .rne
    let lim := if veSub x = 0 then t.n else t.m
    toF32 ((s.veBegun q x).veElem (s.queue q).core 0 x rec t r c).1 =
      if 0 ≤ i ∧ i < lim then toF32 (f32 (if veSub x = 0 then t.wide r i.toNat else t.wide i.toNat c)) else 0 := by
  intro i lim
  have hix : (s.veBegun q x).shuffleAt (s.queue q).core 0 x t r c = if 0 ≤ i ∧ i < lim then some i.toNat else none := by
    simp only [State.shuffleAt, shuffleIx, State.veSource1_veBegun, i, lim]
    split <;> rfl
  by_cases hin : 0 ≤ i ∧ i < lim
  · simp only [State.veElem, hop, hix, if_pos hin]
    rfl
  · simp only [State.veElem, hop, hix, if_neg hin]
    decide

/-- CONVERT: none of what EPI does to an element is asked for (R142). -/
theorem veElem_convert (hop : veOp x = 5) (hreserved : veReservedOk x = true) (hfmt : veOutFmt x = 0) :
    ((s.veBegun q x).veElem (s.queue q).core 0 x rec t r c).1 = f32 (t.wide r c) := by
  have hfn := unused_of_reserved hreserved (hi := 499) (lo := 493) (by simp [veUnused, hop])
  have hbits := unused_of_reserved hreserved (hi := 485) (lo := 481) (by simp [veUnused, hop])
  have hcode : veFn x = 0 := fld_eq_zero_of_fld hfn (by decide) (by decide)
  have hbias : veBias x = false := fbit_eq_false_of_fld hbits (by decide) (by decide)
  have hres : veRes x = false := fbit_eq_false_of_fld hbits (by decide) (by decide)
  have hscale : veScaleEn x = false := fbit_eq_false_of_fld hbits (by decide) (by decide)
  have hmask : veMask x = false := fbit_eq_false_of_fld hbits (by decide) (by decide)
  simp [State.veElem, State.epiAt, hop, hfmt, hcode, hbias, hres, hscale, State.veMasked, hmask, fnApply]

end

/-- Settles O24: each command leaves the elements of its operation, and each of them is what a lemma of its own above says. -/
theorem vectorElements : Obligations.VectorElements := by
  intro s q x hq hbegin hsound htiles hkind hdst hclear core A B a rec1 canon gives
  have h : s.BeginsOne q x := ⟨hq, hbegin, hsound, htiles, hkind, hclear⟩
  obtain ⟨hreserved, -⟩ := fields_of_vectorCheck h.check
  have hfmt := veOutFmt_of_reserved hreserved hdst
  have hpermute : ∀ (sub : Nat) {m n : Nat}, veOp x = 3 → veSub x = sub → sub < 4 → veDims x A = (m, n) →
      gives (.permute q) m n fun r c => canon (permuteAt sub A r c) := fun sub _ _ hop hsub hlt hdims =>
    h.exec_elements rfl (vectorMine_of_op hop (by simp [hsub]; omega)) (by omega) hdst hdims fun r c _ _ =>
      congrArg toF32 (veElem_permute s q _ _ r c hop hsub)
  refine ⟨fun hop => ?_, fun hop => ?_, fun hop hsub => ?_, fun hop hsub => ?_, fun hop hsub => ?_, fun hop hsub => ?_,
    fun hop hsub => ?_, fun hop hsub => ?_, fun hop => ?_, fun hop => ?_⟩
  · refine h.exec_elements rfl (vectorMine_of_op hop (by simp [veSubs]; omega)) (by omega) hdst (if_neg (by omega)) fun r c _ _ => ?_
    exact congrArg toF32 (veElem_epi s q _ _ r c hop hfmt)
  · refine h.exec_elements rfl (vectorMine_of_op hop (by simp [veSubs]; omega)) (by omega) hdst (if_neg (by omega)) fun r c _ _ => ?_
    rw [veElem_binary s q _ _ r c hop]
    rfl
  · refine h.exec_elements rfl (vectorMine_of_op hop (by simp [hsub])) (by omega) hdst (if_neg (by omega)) fun r c _ _ => ?_
    exact congrArg toF32 (veElem_smaxNorm s q _ _ r c hop hsub)
  · refine h.exec_elements rfl (vectorMine_of_op hop (by simp [hsub])) (by omega) hdst (if_neg (by omega)) fun r c _ _ => ?_
    exact congrArg toF32 (veElem_norm s q _ _ r c hop hsub)
  · exact hpermute 0 hop hsub (by decide) (if_neg (by omega))
  · exact hpermute 1 hop hsub (by decide) (if_pos ⟨hop, hsub⟩)
  · exact hpermute 2 hop hsub (by decide) (if_neg (by omega))
  · exact hpermute 3 hop hsub (by decide) (if_neg (by omega))
  · refine h.exec_elements rfl (vectorMine_of_op hop (by simp [veSubs]; omega)) (by omega) hdst (if_neg (by omega)) fun r c _ _ => ?_
    exact veElem_shuffle s q _ _ r c hop
  · refine h.exec_elements rfl (vectorMine_of_op hop (by simp [veSubs]; omega)) (by omega) hdst (if_neg (by omega)) fun r c _ _ => ?_
    exact congrArg toF32 (veElem_convert s q _ _ r c hop hreserved hfmt)

end Sys2Proof.Machine
end

section
/-! SUPPORT. The row statistics of an item of one tile, and O25 (R162, R163, R165, R166). -/

namespace Sys2Proof.Machine

/-! ### A store of the first rows -/

/-- A key above those of a store is put at its end. -/
theorem Store.put_above {α : Type} {m : Store α} {k : Nat} (h : ∀ e ∈ m, e.1 < k) (v : α) : Store.put m k v = m ++ [(k, v)] := by
  induction m with
  | nil => rfl
  | cons e rest ih =>
    have he := h e List.mem_cons_self
    rw [Store.put, if_neg (by omega), if_neg (by omega), ih fun e' h' => h e' (List.mem_cons_of_mem e h')]
    rfl

/-- Values put at ascending keys are listed in their order. -/
theorem foldl_put_range {α β : Type} (g : Nat → α) (f : α → β) (n : Nat) :
    ((List.range n).map fun r => (r, g r)).foldl (fun acc e => Store.put acc e.1 (f e.2)) [] = (List.range n).map fun r => (r, f (g r)) := by
  induction n with
  | zero => rfl
  | succ n ih =>
    have hbelow : ∀ e ∈ (List.range n).map fun r => (r, f (g r)), e.1 < n := fun e he => by
      obtain ⟨r, hr, rfl⟩ := List.mem_map.1 he
      exact List.mem_range.1 hr
    simp only [List.range_succ, List.map_append, List.foldl_append, ih, List.map_cons, List.map_nil, List.foldl_cons, List.foldl_nil]
    exact Store.put_above hbelow _

/-! ### The rows of an item -/

/-- The walk of an item after its next tile, with `n` rows in hand. -/
def VeWalk.withRows (w : VeWalk) (n : Nat) (R : Nat → RowRec) : VeWalk :=
  { w with next := w.next + 1, rows := (List.range n).map fun r => (r, (R r).toBits) }

/-- A row's record at the end of its item. -/
def State.statEnd (s : State) (core : Nat) (x : BitVec 512) (R : RowRec) : RowRec :=
  match veSub x with
  | 0 => R.p1End
  | 1 => R.p2End
  | _ => R.smaxEnd (s.table core)

/-- A row after SMAX_ACC and at its end (R166). -/
theorem RowRec.smaxEnd_smaxAcc (T : Nat → Table) (R : RowRec) (xs : List W32) :
    (R.smaxAcc T xs).1.smaxEnd T =
      (let m := f32max R.max (xs.foldl f32max 0xFF800000)
       let low := decide (m = 0xFF800000)
       let al := if low then 0x3F800000 else (T 0).exp (f32sub R.max m)
       let l := (xs.map fun e => if low then 0 else (T 0).exp (f32sub e m)).foldl f32add (f32mul R.l al)
       { R with max := m, alpha := al, l := l, lse := if (f32 l).isZero then 0xFF800000 else f32add m ((T 1).eval l) }) := rfl

section
variable (s : State) (core : Nat) {x : BitVec 512}

theorem State.fits_statEnd {R : RowRec} (h : R.Fits) : (s.statEnd core x R).Fits := by
  unfold State.statEnd
  split <;> exact ⟨h.count, h.flags⟩

theorem State.fits_statRow (w : VeWalk) (t : VSrc) (r : Nat) : (s.statRow core x w t r).1.Fits := by
  have hrow : (s.veRow core x w r).Fits := RowRec.fits_ofBits _
  unfold State.statRow
  dsimp only
  split
  · exact RowRec.fits_foldl (fun R c hR => RowRec.fits_p1 hR _) _ hrow
  · exact RowRec.fits_foldl (fun R c hR => RowRec.fits_p2 hR _) _ hrow
  · exact ⟨hrow.count, hrow.flags⟩

/-- The tile of a row-statistics item takes its rows in hand, and touches nothing beside. -/
theorem State.veTile_stats (hkind : veKind0 x ≠ 1) (hstat : veStat x = true) (hdst : veKindD x = 1) (q : Nat) {w : VeWalk}
    (hrows : w.rows = []) :
    let t := s.veSource0 core x w.next
    s.veTile core q x w = s.withVec core (w.withRows t.m fun r => (s.statRow core x w t r).1) := by
  intro t
  have hlist := foldl_put_range (fun r => s.statRow core x w t r) (fun e : RowRec × List W32 => e.1.toBits) t.m
  have hnot : ¬(veSub x = 2 ∧ veKindD x ≠ 1) := fun hboth => hboth.2 hdst
  simp only [State.veTile, if_neg hkind, hstat, if_true, if_neg hnot, hrows]
  rw [hlist]
  rfl

/-- The rows in hand are written as their records end. -/
theorem State.veRecords_withRows (hstat : veStat x = true) (w : VeWalk) (n : Nat) {R : Nat → RowRec} (hR : ∀ r, (R r).Fits) :
    s.veRecords core x (w.withRows n R) = s.putRecord core (veAux x) (fun r => (s.statEnd core x (R r)).toBits) n := by
  obtain ⟨hop, -⟩ : veOp x = 2 ∧ veSub x ≤ 2 := of_decide_eq_true hstat
  have hnot : ¬veOp x ≠ 2 := not_not.2 hop
  have hback : ∀ r, RowRec.ofBits (R r).toBits = R r := fun r => RowRec.ofBits_toBits (hR r)
  simp only [State.veRecords, if_neg hnot, hstat, if_true, VeWalk.withRows, List.foldl_map, hback]
  rfl

end

/-- The row of the record with which an item begins: the initial one, or that in tile memory (R163). -/
theorem State.veRow_veBegun (s : State) (q : Nat) {x : BitVec 512} (hstat : veStat x = true) (core r : Nat) :
    (s.veBegun q x).veRow core x (s.veStart q) r =
      if veRsInit x then RowRec.initial else RowRec.ofBits (s.recRow core (veAux x) r) := by
  have hempty : (s.veStart q).rows = [] := rfl
  simp only [State.veRow, hstat, Bool.true_and, hempty, Store.get, State.recRow_veBegun]
  split
  · exact RowRec.ofBits_toBits RowRec.fits_initial
  · rfl

/-! ### An item of one tile -/

/-- Row `r` of an item's one tile, after the row's elements. -/
def State.statTaken (s : State) (q : Nat) (x : BitVec 512) (r : Nat) : RowRec :=
  let core := (s.queue q).core
  ((s.veBegun q x).statRow core x (s.veStart q) (s.veSource0 core x 0) r).1

/-- The state in which an item's one tile was worked, with its rows in hand. -/
def State.veTaken (s : State) (q : Nat) (x : BitVec 512) : State :=
  let core := (s.queue q).core
  (s.veBegun q x).withVec core ((s.veStart q).withRows (s.veSource0 core x 0).m (s.statTaken q x))

section
variable (s : State) (q : Nat) (x : BitVec 512)

theorem State.veTaken_touches : s.Touches begunParts (s.veTaken q x) :=
  (s.veBegun_touches q x).trans ((State.withVec_touches _ _ _).mono (by decide))

theorem State.core_veTaken :
    (s.veTaken q x).core (s.queue q).core = { (s.veBegun q x).core (s.queue q).core with
      vec := some ((s.veStart q).withRows (s.veSource0 (s.queue q).core x 0).m (s.statTaken q x)) } := State.core_withVec _ _ _

theorem State.fits_statTaken (r : Nat) : (s.statTaken q x r).Fits := State.fits_statRow _ _ _ _ r

end

section
variable {s : State} {q : Nat} {x : BitVec 512} (h : s.BeginsOne q x) (hstat : veStat x = true) (hdst : veKindD x = 1)
include h hstat hdst

theorem State.BeginsOne.veTile_taken : (s.veBegun q x).veTile (s.queue q).core q x (s.veStart q) = s.veTaken q x := by
  have hwork := (s.veBegun q x).veTile_stats (s.queue q).core h.source hstat hdst q (w := s.veStart q) rfl
  rw [State.veSource0_veBegun] at hwork
  exact hwork

/-- The record that the item's end writes is followed by no more writes to memory. -/
theorem State.BeginsOne.record_after :
    let core := (s.queue q).core
    ((s.veTaken q x).putRecord core (veAux x) (fun r => ((s.veTaken q x).statEnd core x (s.statTaken q x r)).toBits)
      (s.veSource0 core x 0).m).Touches (.free :: wakeParts) (vectorEngine.begin s q x) := by
  intro core
  obtain ⟨hop, -⟩ : veOp x = 2 ∧ veSub x ≤ 2 := of_decide_eq_true hstat
  obtain ⟨hafter, -⟩ := h.after (by omega)
  have hclear : ((s.veTaken q x).core core).bufClear = false := by rw [State.core_veTaken]; exact h.begun_clear
  have hend := (s.veTaken q x).veEnd_after core x hclear
  rw [State.core_veTaken, Option.getD_some, State.veRecords_withRows _ core hstat _ _ (s.fits_statTaken q x)] at hend
  rw [h.veTile_taken hstat hdst] at hafter
  exact (hend.mono (by decide)).trans (hafter.mono (by decide))

/-- A row-statistics item leaves the rows of its tile in its record. -/
theorem State.BeginsOne.begin_stats :
    let core := (s.queue q).core
    let t := vectorEngine.begin s q x
    let A := s.veSource0 core x 0
    (t.queue q).held = none ∧ t.mem.near = s.mem.near ∧ t.accs = s.accs ∧ t.bufs = s.bufs ∧ t.tag core (veAux x) = 0 ∧
      ∀ r, r < A.m → RowRec.ofBits (t.recRow core (veAux x) r) = s.statEnd core x (s.statTaken q x r) := by
  intro core t A
  obtain ⟨hop, -⟩ : veOp x = 2 ∧ veSub x ≤ 2 := of_decide_eq_true hstat
  obtain ⟨-, hheld⟩ := h.after (by omega)
  have htaken := s.veTaken_touches q x
  have hpast := h.record_after hstat hdst
  have hall := (htaken.mono (l' := [.memTile, .memBadTile, .memTileErr] ++ .free :: .pwr :: wakeParts) (by decide)).trans
    (((State.putRecord_touches _ core (veAux x) _ _).mono (by decide)).trans (hpast.mono (by decide)))
  refine ⟨hheld, hall .memNear (by decide), hall .accs (by decide), hall .bufs (by decide),
    (State.tag_of_mem (hpast.mem (by decide)) _ _).trans (State.tag_recTags _ _ _), fun r hr => ?_⟩
  rw [hpast.recRow (by decide), State.recRow_putRecord _ core _ _ hr (h.dims.1 ▸ veM_le x) (record_of_vectorCheck h.check hop),
    RowRec.ofBits_toBits (State.fits_statEnd _ core (s.fits_statTaken q x r))]
  simp only [State.statEnd, htaken.table (by decide) (by decide)]

/-- A command about a row-statistics item leaves in the item's record what each row is at the end of its pass. -/
theorem State.BeginsOne.exec_stats {c : Instr} {mine : BitVec 512 → Bool} (hc : engineOf c = some (vectorEngine, q, mine))
    (hmine : mine x = true) {R : Nat → RowRec} :
    let core := (s.queue q).core
    let A := s.veSource0 core x 0
    (∀ r, s.statEnd core x (s.statTaken q x r) = R r) →
    ∃ t, exec c s = .next t ∧ (t.queue q).held = none ∧ t.mem.near = s.mem.near ∧ t.accs = s.accs ∧ t.bufs = s.bufs ∧
      t.tag core (veAux x) = 0 ∧ ∀ r, r < A.m → RowRec.ofBits (t.recRow core (veAux x) r) = R r := by
  intro core A hR
  obtain ⟨hheld, hnear, haccs, hbufs, htag, hrows⟩ := h.begin_stats hstat hdst
  exact ⟨_, exec_of_mayBegin hc h.queue h.begins hmine, hheld, hnear, haccs, hbufs, htag, fun r hr => (hrows r hr).trans (hR r)⟩

end

/-- Settles O25: each command leaves each row at the end of its pass, begun from the record or from the initial row. -/
theorem rowStatistics : Obligations.RowStatistics := by
  intro s q x hq hbegin hsound hop htiles hkind hdst core A a R0 gives hclear
  have h : s.BeginsOne q x := ⟨hq, hbegin, hsound, htiles, hkind, hclear⟩
  have hstat : veSub x ≤ 2 → veStat x = true := fun hsub => decide_eq_true ⟨hop, hsub⟩
  refine ⟨fun hsub => ?_, fun hsub => ?_, fun hsub => ?_⟩
  · refine h.exec_stats (hstat (by omega)) hdst rfl (vectorMine_of_op hop (by simp [hsub])) fun r => ?_
    simp only [State.statEnd, State.statTaken, State.statRow, hsub, s.veRow_veBegun q (hstat (by omega))]
    rfl
  · refine h.exec_stats (hstat (by omega)) hdst rfl (vectorMine_of_op hop (by simp [hsub])) fun r => ?_
    simp only [State.statEnd, State.statTaken, State.statRow, hsub, s.veRow_veBegun q (hstat (by omega))]
    rfl
  · refine h.exec_stats (hstat (by omega)) hdst rfl (vectorMine_of_op hop (by simp [hsub])) fun r => ?_
    have hmask : (s.veBegun q x).masked0 (s.queue q).core x (s.veSource0 (s.queue q).core x 0) r = a r :=
      funext fun c => s.masked0_veBegun q x _ r c
    simp only [State.statEnd, State.statTaken, State.statRow, hsub, s.veRow_veBegun q (hstat (by omega)), State.table_veBegun, hmask]
    exact RowRec.smaxEnd_smaxAcc (s.table core) (R0 r) _

end Sys2Proof.Machine
end

section
/-! SUPPORT. Fields of a 64-byte structure after one of them was replaced, and near memory read after it was written. -/

namespace Sys2Proof.Machine

/-! ### Fields of a 64-byte structure -/

theorem testBit_fld (x : BitVec 512) (hi lo i : Nat) : (fld x hi lo).testBit i = (decide (i < hi + 1 - lo) && x.getLsbD (lo + i)) :=
  testBit_bits x.toNat hi lo i

theorem fld_lt (x : BitVec 512) (hi lo : Nat) : fld x hi lo < 2 ^ (hi + 1 - lo) := bits_lt x.toNat hi lo

section
variable (x : BitVec 512) {hi lo : Nat} (v : Nat) (hle : lo ≤ hi)
include hle

/-- The bits of a structure after its bits [hi:lo] were replaced. -/
theorem getLsbD_setFld (i : Nat) (hi512 : i < 512) :
    (setFld x hi lo v).getLsbD i = if lo ≤ i ∧ i ≤ hi then v.testBit (i - lo) else x.getLsbD i := by
  obtain ⟨n, rfl⟩ := Nat.exists_eq_add_of_le hle
  rw [setFld, BitVec.getLsbD_ofNat, decide_eq_true hi512, Bool.true_and, testBit_setBits]
  rfl

theorem fld_setFld_self (hhi : hi < 512) : fld (setFld x hi lo v) hi lo = v % 2 ^ (hi + 1 - lo) := by
  apply Nat.eq_of_testBit_eq
  intro i
  rw [testBit_fld, Nat.testBit_mod_two_pow]
  by_cases h : i < hi + 1 - lo
  · rw [getLsbD_setFld x v hle _ (by omega), if_pos (by omega), Nat.add_sub_cancel_left]
  · simp [h]

/-- A field keeps what it holds when another one is replaced. -/
theorem fld_setFld_of_apart {hi' lo' : Nat} (hhi' : hi' < 512) (hapart : hi' < lo ∨ hi < lo') :
    fld (setFld x hi lo v) hi' lo' = fld x hi' lo' := by
  apply Nat.eq_of_testBit_eq
  intro i
  rw [testBit_fld, testBit_fld]
  by_cases h : i < hi' + 1 - lo'
  · rw [getLsbD_setFld x v hle _ (by omega), if_neg (by omega)]
  · simp [h]

end

/-! ### Near memory -/

section
variable {s t : State} {a n : Nat}

/-- Near memory below the firmware region reads as it was stored. -/
theorem State.near_of_low (s : State) (h : a + n ≤ 0xBF00000000) : s.near a n = loadBytes s.mem.near a n := by
  have hfw : overlaps a n 0xBF00000000 0x4000000 = false := by
    simp only [overlaps, Bool.and_eq_false_iff, decide_eq_false_iff_not]
    omega
  rw [State.near, hfw]
  rfl

theorem loadBytes_congr {m m' : Store Byte} (h : ∀ k, a ≤ k → k < a + n → Store.get 0 m k = Store.get 0 m' k) :
    loadBytes m a n = loadBytes m' a n := by
  induction n generalizing a with
  | zero => rfl
  | succ n ih =>
    rw [loadBytes, loadBytes, h a (by omega) (by omega), ih (a := a + 1) fun k hk hlt => h k (by omega) (by omega)]

/-- Bytes of near memory are the same in two states that hold the same ones and the same image. -/
theorem State.near_congr (hboot : t.boot = s.boot)
    (h : ∀ k, a ≤ k → k < a + n → Store.get 0 t.mem.near k = Store.get 0 s.mem.near k) :
    t.near a n = s.near a n := by
  unfold State.near
  split
  · refine List.map_congr_left fun i hi => ?_
    have hlt : i < n := List.mem_range.1 hi
    rw [State.nearByte, State.nearByte, hboot, h (a + i) (by omega) (by omega)]
  · exact loadBytes_congr h

theorem State.Touches.near {l : List Part} (h : s.Touches l t) (hnear : .memNear ∉ l) (hboot : .boot ∉ l) (a n : Nat) :
    t.near a n = s.near a n :=
  State.near_congr (h .boot hboot) fun k _ _ => congrArg (fun m => Store.get 0 m k) (h .memNear hnear)

/-- Bytes apart from those written read as before. -/
theorem State.near_putNear_apart (s : State) {b : Nat} {l : List Byte} (h : overlaps a n b l.length = false) :
    (s.putNear b l).near a n = s.near a n := by
  refine State.near_congr rfl fun k hle hlt => get_storeBytes_outside s.mem.near b k l ?_
  simp only [overlaps, Bool.and_eq_false_iff, decide_eq_false_iff_not] at h
  omega

/-- Bytes below the firmware region read back as they were written. -/
theorem State.near_putNear_self (s : State) {l : List Byte} (hlen : l.length = n) (h : a + n ≤ 0xBF00000000) :
    (s.putNear a l).near a n = l := by
  rw [State.near_of_low _ h, ← hlen]
  exact loadBytes_storeBytes s.mem.near a l

end

theorem overlaps_comm (a n b m : Nat) : overlaps a n b m = overlaps b m a n := by
  simp only [overlaps, Bool.and_assoc, Bool.and_left_comm, Bool.and_comm]

end Sys2Proof.Machine
end

section
/-! SUPPORT. Slots, pools, page-table entries and frames: what is read after each was written (R182, R213, R216). -/

namespace Sys2Proof.Machine

section
variable (s : State)

/-! ### Entries -/

theorem State.slot_setSlot (n k : Nat) (x : BitVec 512) : (s.setSlot n x).slot k = if k = n then x else s.slot k :=
  Store.get_set 0 s.tier.slots n k x

theorem State.pool_setPool (n k : Nat) (x : BitVec 512) : (s.setPool n x).pool k = if k = n then x else s.pool k :=
  Store.get_set 0 s.tier.pools n k x

/-- A counting field of a slot's entry after it was raised. -/
theorem State.fld_slotAdd_self (n : Nat) {hi lo : Nat} (d : Int) (hle : lo ≤ hi) (hhi : hi < 512) :
    fld ((s.slotAdd n hi lo d).slot n) hi lo = unsigned (hi + 1 - lo) ((fld (s.slot n) hi lo : Nat) + d) := by
  rw [State.slotAdd, State.slot_setSlot_self, fld_setFld_self _ _ hle hhi, Nat.mod_eq_of_lt (unsigned_lt _ _)]

/-- A field of a slot's entry is not the one raised. -/
theorem State.fld_slotAdd_of_apart (n k : Nat) {hi lo hi' lo' : Nat} (d : Int) (hle : lo ≤ hi) (hhi' : hi' < 512)
    (hapart : hi' < lo ∨ hi < lo') : fld ((s.slotAdd n hi lo d).slot k) hi' lo' = fld (s.slot k) hi' lo' := by
  rw [State.slotAdd, State.slot_setSlot]
  split
  · next h => rw [h, fld_setFld_of_apart _ _ hle hhi' hapart]
  · rfl

/-- A field of a pool's entry that a count's rise leaves. -/
theorem State.fld_poolAdd_of_apart (n k : Nat) {hi lo hi' lo' : Nat} (hle : lo ≤ hi) (hhi' : hi' < 512)
    (hapart : hi' < lo ∨ hi < lo') : fld ((s.poolAdd n hi lo).pool k) hi' lo' = fld (s.pool k) hi' lo' := by
  rw [State.poolAdd, State.pool_setPool]
  split
  · next h => rw [h, fld_setFld_of_apart _ _ hle hhi' hapart]
  · rfl

/-! ### Page-table entries -/

/-- The state of a page by its entry's bytes. -/
theorem State.kvPageState_congr {s t : State} {g : KvPage} (h : t.near g.pte 8 = s.near g.pte 8) :
    t.kvPageState g = s.kvPageState g ∧ t.kvPageAddr g = s.kvPageAddr g := by
  simp only [State.kvPageState, State.kvPageAddr, h, and_self]

/-- A page's entry reads back the state written. -/
theorem State.kvPageState_setKvPte {g : KvPage} {state : Nat} (addr : Nat) (hstate : state < 4) (hpte : g.pte + 8 ≤ 0xBF00000000) :
    (s.setKvPte g state addr).kvPageState g = state := by
  have haddr := bits_lt addr 46 12
  generalize hv : 2 ^ 60 + state * 2 ^ 58 + bits addr 46 12 * 4096 = v
  have hread : leNat ((s.setKvPte g state addr).near g.pte 8) = v := by
    rw [State.setKvPte, State.near_putNear_self _ (length_leBytes 8 _) hpte, leNat_leBytes, hv]
    exact Nat.mod_eq_of_lt (by omega)
  rw [State.kvPageState, hread, bits_eq_div, bits_eq_div, if_pos (by omega)]
  omega

theorem State.setKvPte_touches (g : KvPage) (state addr : Nat) : s.Touches [.memNear] (s.setKvPte g state addr) :=
  s.putNear_touches _ _

/-! ### Frames -/

theorem State.kvImage_touches (pool n : Nat) : s.Touches [.memNear] (s.kvImage pool n) := s.putNear_touches _ _

/-- A frame's table entry is written at its own place alone. -/
theorem State.near_kvImage_apart (pool n : Nat) {a k : Nat} (h : overlaps a k (plFtBase (s.pool pool) + 16 * n) 16 = false) :
    (s.kvImage pool n).near a k = s.near a k :=
  s.near_putNear_apart (by rwa [length_leBytes])

/-- A frame's state replaced, its table entry not yet written. -/
def State.withKvFrame (pool n : Nat) (f : Option KvFrame) : State :=
  { s with tier.kvFrames := Store.set none s.tier.kvFrames (kvKey pool n) f }

theorem State.kvFrame_withKvFrame (pool n : Nat) (f : Option KvFrame) : (s.withKvFrame pool n f).kvFrame pool n = f :=
  Store.get_set_self none s.tier.kvFrames (kvKey pool n) f

theorem State.near_setKvFrame_apart (pool n : Nat) (f : Option KvFrame) {a k : Nat}
    (h : overlaps a k (plFtBase (s.pool pool) + 16 * n) 16 = false) : (s.setKvFrame pool n f).near a k = s.near a k :=
  (s.withKvFrame pool n f).near_kvImage_apart pool n h

theorem State.setKvFrame_touches (pool n : Nat) (f : Option KvFrame) : s.Touches [.memNear, .tier] (s.setKvFrame pool n f) :=
  ((touches_tier s _).mono (by decide)).trans ((State.kvImage_touches _ pool n).mono (by decide))

theorem State.putNear_rest (a : Nat) (l : List Byte) (m : MemSt) (x : TierSt) :
    { s.putNear a l with mem := m, tier := x } = { s with mem := m, tier := x } := rfl

/-- Beside the memories a frame replaced leaves all but the tier. -/
theorem State.setKvFrame_rest (pool n : Nat) (f : Option KvFrame) : { s.setKvFrame pool n f with mem := s.mem, tier := s.tier } = s :=
  (s.withKvFrame pool n f).putNear_rest _ _ s.mem s.tier

end
end Sys2Proof.Machine
end

section
/-! SUPPORT. Reads and writes of near memory and of the tiered range, whatever they meet: what they leave of the key/value pools
(R220, R224, R254, R477). -/

namespace Sys2Proof.Machine

/-! ### Accesses to near memory -/

/-- The parts that an access to near memory may touch, whatever it meets. -/
def accessParts : List Part := [.regs, .wear, .mgmt, .log, .eventSeq, .memNear, .memBadNear, .memNearErr, .memBurstBad]

section
variable (s : State)

theorem touches_memNearErr (x : Store Byte) (y : Store Bool) (z : Store (List (Nat × Byte))) :
    s.Touches [.memNear, .memBadNear, .memNearErr] { s with mem.near := x, mem.badNear := y, mem.nearErr := z } := fun p hp => by
  cases p <;> simp_all [Part.same]

theorem touches_memBurstBad (x : List Nat) : s.Touches [.memBurstBad] { s with mem.burstBad := x } := fun p hp => by
  cases p <;> simp_all [Part.same]

theorem State.record_touches (e : RetEntry) : s.Touches recordParts (s.record e) :=
  touches_ite (((touches_wear s _).mono (by decide)).trans (State.evalFitness_releases _).touches)
    (((touches_wear s _).mono (by decide)).trans ((State.setFlag_touches _ _ _).mono (by decide)))

theorem State.retirement_touches (c o b : Nat) (e : RetEntry) : s.Touches recordParts ((s.bumpSeen c o b).record e) :=
  ((s.bumpSeen_touches c o b).mono (by decide)).trans (State.record_touches _ e)

theorem State.pageOffline_touches (page : Nat) : s.Touches recordParts (s.pageOffline page) :=
  touches_ite (.refl _ s) (((((touches_wear s _).mono (by decide)).trans (State.retirement_touches _ _ _ _ _)).trans
    ((State.countLog_touches _ _ _ _ _).mono (by decide))).trans (State.evalFitness_releases _).touches)

theorem State.wornRow_touches (ch die bank row : Nat) : s.Touches recordParts (s.wornRow ch die bank row) := by
  have hspare : ∀ x e sub, s.Touches recordParts ((({ s with wear := x }.spareUsed.record e).lifeAdd sub 1).evalFitness) :=
    fun x e sub => ((((touches_wear s x).mono (by decide)).trans (State.retirement_touches _ _ _ _ e)).trans
      ((touches_wear _ _).mono (by decide))).trans (State.evalFitness_releases _).touches
  exact touches_ite (hspare _ _ _) (touches_ite (hspare _ _ _) (touches_foldl (fun t p => t.pageOffline_touches p) _ s))

theorem State.correctBlock_touches (a : Nat) : s.Touches recordParts (s.correctBlock a) := by
  have hwear : ∀ (t : State) x, t.Touches recordParts { t with wear := x } := fun t x => (touches_wear t x).mono (by decide)
  have hcount : s.Touches recordParts ((s.noteCorrected a).lifeAdd (0x89 + 4 * stackOf (chanOf a) + 1) 1) :=
    ((s.bumpSeen_touches _ _ _).mono (by decide)).trans (hwear _ _)
  exact touches_ite ((hcount.trans (hwear _ _)).trans (State.wornRow_touches _ _ _ _ _)) (hcount.trans (hwear _ _))

theorem State.spoilBlock_touches (a : Nat) : s.Touches accessParts (s.spoilBlock a) :=
  touches_ite (.refl _ s) ((((touches_memNearErr s _ _ _).mono (by decide)).trans ((touches_wear _ _).mono (by decide))).trans
    ((State.wornRow_touches _ _ _ _ _).mono (by decide)))

theorem State.settleBlock_touches (a : Nat) (word : List Nat) : s.Touches accessParts (s.settleBlock a word) :=
  (touches_memNearErr s _ _ _).mono (by decide)

theorem State.observeBlock_touches (a : Nat) : s.Touches accessParts (s.observeBlock a) := by
  unfold State.observeBlock
  split
  · exact .refl _ s
  · dsimp only
    split
    · exact s.settleBlock_touches a _
    · exact (s.settleBlock_touches a _).trans ((State.correctBlock_touches _ a).mono (by decide))
    · exact s.spoilBlock_touches a

theorem State.noteUncorr_touches (a : Nat) : s.Touches accessParts (s.noteUncorr a) :=
  (((touches_ite (.refl _ s) (s.setReg_touches _ _)).mono (by decide)).trans ((State.bumpSeen_touches _ _ _ _).mono (by decide))).trans
    ((State.logEvent_touches _ _ _ _ _).mono (by decide))

theorem State.blockGate_touches (a : Nat) : s.Touches accessParts (s.blockGate a).1 := by
  unfold State.blockGate
  split
  · exact (((touches_memBurstBad s _).mono (by decide)).trans ((State.bumpSeen_touches _ _ _ _).mono (by decide))).trans
      ((State.logEvent_touches _ _ _ _ _).mono (by decide))
  · exact .refl _ s

theorem State.readBlock_touches (a : Nat) : s.Touches accessParts (s.readBlock a).1 := by
  have hgate := s.blockGate_touches a
  have hseen := hgate.trans (State.observeBlock_touches _ a)
  unfold State.readBlock
  dsimp only
  split
  · split
    · exact hseen.trans (State.noteUncorr_touches _ a)
    · exact hseen
  · exact hgate

theorem State.writeBlock_touches (a : Nat) (bytes : List Byte) : s.Touches accessParts (s.writeBlock a bytes).1 := by
  have hgate := s.blockGate_touches a
  have hseen := hgate.trans (State.observeBlock_touches _ a)
  unfold State.writeBlock
  dsimp only
  split
  · exact .refl _ s
  split
  · split
    · split
      · exact hseen.trans (State.noteUncorr_touches _ a)
      · exact hseen.trans ((State.putNear_touches _ a bytes).mono (by decide))
    · exact hgate.trans ((touches_memNearErr _ _ _ _).mono (by decide))
  · exact hgate

end

/-- A fold whose first part is a state, each step of which touches the same parts. -/
theorem touches_foldl_fst {α β : Type} {l : List Part} {f : State × α → β → State × α}
    (hf : ∀ (x : State × α) e, x.1.Touches l (f x e).1) (es : List β)
    (x : State × α) : x.1.Touches l (es.foldl f x).1 := by
  induction es generalizing x with
  | nil => exact .refl l _
  | cons e rest ih => exact (hf x e).trans (ih (f x e))

section
variable (s : State)

theorem State.readNear_touches (a n : Nat) : s.Touches accessParts (s.readNear a n).1 := by
  refine touches_foldl_fst (fun x b => ?_) (blocksOf a n) (s, Status.ok)
  exact x.1.readBlock_touches b

theorem State.writeNear_touches (a : Nat) (bytes : List Byte) : s.Touches accessParts (s.writeNear a bytes).1 := by
  refine touches_foldl_fst (fun x p => ?_) (blockPieces bytes.length a bytes) (s, Status.ok)
  exact x.1.writeBlock_touches p.1 p.2

end

/-! ### What the pool manager holds -/

/-- The entries of slots and pools, the frames, the spill frames and the copies under way are the same in two states. -/
structure State.SamePools (s t : State) : Prop where
  pools : t.tier.pools = s.tier.pools
  slots : t.tier.slots = s.tier.slots
  frames : t.tier.kvFrames = s.tier.kvFrames
  spills : t.tier.kvSpills = s.tier.kvSpills
  moves : t.tier.kvMoves = s.tier.kvMoves

theorem State.SamePools.refl (s : State) : s.SamePools s := ⟨rfl, rfl, rfl, rfl, rfl⟩

theorem State.SamePools.trans {s t u : State} (h : s.SamePools t) (k : t.SamePools u) : s.SamePools u :=
  ⟨k.pools.trans h.pools, k.slots.trans h.slots, k.frames.trans h.frames, k.spills.trans h.spills, k.moves.trans h.moves⟩

theorem State.Touches.samePools {l : List Part} {s t : State} (h : s.Touches l t) (hl : .tier ∉ l) : s.SamePools t := by
  have htier : t.tier = s.tier := h .tier hl
  constructor <;> rw [htier]

theorem samePools_ite {c : Prop} [Decidable c] {s a b : State} (ha : s.SamePools a) (hb : s.SamePools b) :
    s.SamePools (if c then a else b) := by
  split
  · exact ha
  · exact hb

theorem samePools_foldl {β : Type} {f : State → β → State} (hf : ∀ (t : State) e, t.SamePools (f t e)) (es : List β) (s : State) :
    s.SamePools (es.foldl f s) := by
  induction es generalizing s with
  | nil => exact .refl s
  | cons e rest ih => exact (hf s e).trans (ih (f s e))

theorem samePools_foldl_fst {α β : Type} {f : State × α → β → State × α}
    (hf : ∀ (x : State × α) e, x.1.SamePools (f x e).1) (es : List β)
    (x : State × α) : x.1.SamePools (es.foldl f x).1 := by
  induction es generalizing x with
  | nil => exact .refl _
  | cons e rest ih => exact (hf x e).trans (ih (f x e))

section
variable {s t : State} (h : s.SamePools t)
include h

theorem State.SamePools.pool (n : Nat) : t.pool n = s.pool n := congrArg (fun m => Store.get 0 m n) h.pools
theorem State.SamePools.slot (n : Nat) : t.slot n = s.slot n := congrArg (fun m => Store.get 0 m n) h.slots
theorem State.SamePools.kvFrame (pool n : Nat) : t.kvFrame pool n = s.kvFrame pool n :=
  congrArg (fun m => Store.get none m (kvKey pool n)) h.frames

end

/-! ### Accesses to the tiered range -/

section
variable (s : State)

theorem State.touchPage_touches (o : Nat) : s.Touches [.memNear] (s.touchPage o) := by
  unfold State.touchPage
  split
  · unfold State.putLeaf
    split
    · exact touches_foldl (fun t i => t.putNear_touches _ _) _ s
    · exact .refl _ s
  · exact .refl _ s

theorem State.objAdd_touches (n hi lo : Nat) (d : Int) : s.Touches [.memNear] (s.objAdd n hi lo d) := s.putNear_touches _ _

theorem State.countFarAll_touches (write : Bool) (o n : Nat) : s.Touches [.regs, .memNear] (s.countFarAll write o n) := by
  refine touches_foldl (fun t e => touches_ite (.refl _ t) (touches_ite ((t.bump_touches _ _).mono (by decide)) ?_)) _ s
  have hbytes : t.Touches [.regs, .memNear] (t.bump 0xB028 e.2) := (t.bump_touches _ _).mono (by decide)
  dsimp only
  split
  · exact hbytes.trans ((State.objAdd_touches _ _ _ _ _).mono (by decide))
  · exact hbytes

theorem State.translate_samePools (die o : Nat) : s.SamePools (s.translate die o) := by
  unfold State.translate
  split
  · exact (s.bump_touches _ _).samePools (by decide)
  · exact samePools_ite (.refl s) ⟨rfl, rfl, rfl, rfl, rfl⟩

theorem State.someTranslate_samePools (l : List Nat) : s.SamePools (s.someTranslate l) :=
  samePools_ite (.refl s) (((touches_free s _).samePools (by decide)).trans
    (samePools_foldl (fun t o => t.translate_samePools _ o) l _))

theorem State.tierWrite_samePools (o : Nat) (bytes : List Byte) : s.SamePools (s.tierWrite o bytes).1 := by
  refine samePools_foldl_fst (fun x e => ?_) _ (s, Status.ok)
  have htouch := (x.1.touchPage_touches e.1).samePools (by decide)
  dsimp only
  split
  · exact htouch.trans ((State.writeNear_touches _ _ _).samePools (by decide))
  · exact htouch.trans ⟨rfl, rfl, rfl, rfl, rfl⟩
  · exact htouch

theorem State.tierRead_samePools (o n : Nat) : s.SamePools (s.tierRead o n).1 := by
  refine samePools_foldl_fst (fun x e => ?_) _ (s, Status.ok, ([] : List Byte))
  have htouch := (x.1.touchPage_touches e.1).samePools (by decide)
  dsimp only
  split
  · exact htouch.trans ((State.readNear_touches _ _ _).samePools (by decide))
  · exact htouch
  · exact htouch

theorem State.copied_samePools (r : State × Status × List Byte) (h : s.SamePools r.1) : s.SamePools (State.copied r).1 := by
  unfold State.copied
  split
  · exact h
  · exact h.trans ((State.freeBytes_touches r.1 r.2.2.length).samePools (by decide))

end
end Sys2Proof.Machine
end

section
/-! SUPPORT. The ends of spills, recalls and pins, the writes of slot and pool entries, and O27 (R182, R213 to R215, R218, R220, R224). -/

namespace Sys2Proof.Machine

/-! ### Counting fields -/

theorem unsigned_succ (x : Nat) : unsigned 32 ((x : Nat) + 1) = (x + 1) % 2 ^ 32 := by
  unfold unsigned
  omega

theorem unsigned_pred {x : Nat} (h : x < 2 ^ 32) : unsigned 32 ((x : Nat) + -1) = (x + 2 ^ 32 - 1) % 2 ^ 32 := by
  unfold unsigned
  omega

section
variable (s : State)

/-! ### What each write leaves -/

theorem State.setKvPte_samePools (g : KvPage) (state addr : Nat) : s.SamePools (s.setKvPte g state addr) :=
  (s.setKvPte_touches g state addr).samePools (by decide)

theorem State.setKvFrame_samePools (pool n : Nat) (f : Option KvFrame) : (s.withKvFrame pool n f).SamePools (s.setKvFrame pool n f) :=
  (State.kvImage_touches _ pool n).samePools (by decide)

@[simp] theorem State.slot_setKvPte (g : KvPage) (state addr k : Nat) : (s.setKvPte g state addr).slot k = s.slot k :=
  (s.setKvPte_samePools g state addr).slot k
@[simp] theorem State.pool_setKvPte (g : KvPage) (state addr k : Nat) : (s.setKvPte g state addr).pool k = s.pool k :=
  (s.setKvPte_samePools g state addr).pool k
@[simp] theorem State.kvMoves_setKvPte (g : KvPage) (state addr : Nat) : (s.setKvPte g state addr).tier.kvMoves = s.tier.kvMoves :=
  (s.setKvPte_samePools g state addr).moves
@[simp] theorem State.kvFrame_setKvPte (g : KvPage) (state addr p k : Nat) : (s.setKvPte g state addr).kvFrame p k = s.kvFrame p k :=
  (s.setKvPte_samePools g state addr).kvFrame p k
@[simp] theorem State.slot_setKvFrame (pool n : Nat) (f : Option KvFrame) (k : Nat) : (s.setKvFrame pool n f).slot k = s.slot k :=
  (s.setKvFrame_samePools pool n f).slot k
@[simp] theorem State.kvMoves_setKvFrame (pool n : Nat) (f : Option KvFrame) : (s.setKvFrame pool n f).tier.kvMoves = s.tier.kvMoves :=
  (s.setKvFrame_samePools pool n f).moves
@[simp] theorem State.kvFrame_setKvFrame (pool n : Nat) (f : Option KvFrame) : (s.setKvFrame pool n f).kvFrame pool n = f :=
  ((s.setKvFrame_samePools pool n f).kvFrame pool n).trans (s.kvFrame_withKvFrame pool n f)
@[simp] theorem State.slot_setKvSpill (pool n : Nat) (g : Option KvPage) (k : Nat) : (s.setKvSpill pool n g).slot k = s.slot k := rfl
@[simp] theorem State.pool_setKvSpill (pool n : Nat) (g : Option KvPage) (k : Nat) : (s.setKvSpill pool n g).pool k = s.pool k := rfl
@[simp] theorem State.kvMoves_setKvSpill (pool n : Nat) (g : Option KvPage) : (s.setKvSpill pool n g).tier.kvMoves = s.tier.kvMoves := rfl
@[simp] theorem State.kvFrame_setKvSpill (pool n : Nat) (g : Option KvPage) (p k : Nat) :
    (s.setKvSpill pool n g).kvFrame p k = s.kvFrame p k := rfl
@[simp] theorem State.kvPageState_setKvSpill (pool n : Nat) (p : Option KvPage) (g : KvPage) :
    (s.setKvSpill pool n p).kvPageState g = s.kvPageState g := rfl
@[simp] theorem State.pool_slotAdd (n hi lo : Nat) (d : Int) (k : Nat) : (s.slotAdd n hi lo d).pool k = s.pool k := rfl
@[simp] theorem State.kvMoves_slotAdd (n hi lo : Nat) (d : Int) : (s.slotAdd n hi lo d).tier.kvMoves = s.tier.kvMoves := rfl
@[simp] theorem State.kvFrame_slotAdd (n hi lo : Nat) (d : Int) (p k : Nat) : (s.slotAdd n hi lo d).kvFrame p k = s.kvFrame p k := rfl
@[simp] theorem State.kvPageState_slotAdd (n hi lo : Nat) (d : Int) (g : KvPage) :
    (s.slotAdd n hi lo d).kvPageState g = s.kvPageState g := rfl
@[simp] theorem State.slot_poolAdd (n hi lo k : Nat) : (s.poolAdd n hi lo).slot k = s.slot k := rfl
@[simp] theorem State.kvMoves_poolAdd (n hi lo : Nat) : (s.poolAdd n hi lo).tier.kvMoves = s.tier.kvMoves := rfl
@[simp] theorem State.kvFrame_poolAdd (n hi lo p k : Nat) : (s.poolAdd n hi lo).kvFrame p k = s.kvFrame p k := rfl
@[simp] theorem State.kvPageState_poolAdd (n hi lo : Nat) (g : KvPage) : (s.poolAdd n hi lo).kvPageState g = s.kvPageState g := rfl

/-! ### What the end of a copy reads back -/

/-- A page's entry is apart from the frame's that is written. -/
theorem State.kvPageState_setKvFrame_apart {pool n : Nat} {g : KvPage} (f : Option KvFrame)
    (h : overlaps g.pte 8 (plFtBase (s.pool pool) + 16 * n) 16 = false) : (s.setKvFrame pool n f).kvPageState g = s.kvPageState g :=
  (State.kvPageState_congr (s.near_setKvFrame_apart pool n f h)).1

theorem State.plFtBase_poolAdd (n k : Nat) {hi lo : Nat} (hle : lo ≤ hi) (hhi : hi < 384) :
    plFtBase ((s.poolAdd n hi lo).pool k) = plFtBase (s.pool k) :=
  congrArg (· * 4096) (s.fld_poolAdd_of_apart n k hle (by decide) (.inr hhi))

/-- One of a slot's counts of near and far pages falls by 1 and the other rises by 1. -/
theorem State.fld_slotAdd_pair (n : Nat) :
    (let t := (s.slotAdd n 255 224 (-1)).slotAdd n 223 192 1
     fld (t.slot n) 223 192 = (fld (s.slot n) 223 192 + 1) % 2 ^ 32 ∧
       fld (t.slot n) 255 224 = (fld (s.slot n) 255 224 + 2 ^ 32 - 1) % 2 ^ 32) ∧
    (let t := (s.slotAdd n 255 224 1).slotAdd n 223 192 (-1)
     fld (t.slot n) 255 224 = (fld (s.slot n) 255 224 + 1) % 2 ^ 32 ∧
       fld (t.slot n) 223 192 = (fld (s.slot n) 223 192 + 2 ^ 32 - 1) % 2 ^ 32) := by
  have hfar : ∀ d e, fld (((s.slotAdd n 255 224 d).slotAdd n 223 192 e).slot n) 223 192 =
      unsigned 32 ((fld (s.slot n) 223 192 : Nat) + e) := fun d e => by
    rw [State.fld_slotAdd_self _ _ _ (by decide) (by decide), s.fld_slotAdd_of_apart _ _ _ (by decide) (by decide) (by decide)]
  have hnear : ∀ d e, fld (((s.slotAdd n 255 224 d).slotAdd n 223 192 e).slot n) 255 224 =
      unsigned 32 ((fld (s.slot n) 255 224 : Nat) + d) := fun d e => by
    rw [State.fld_slotAdd_of_apart _ _ _ _ (by decide) (by decide) (by decide), s.fld_slotAdd_self _ _ (by decide) (by decide)]
  exact ⟨⟨(hfar _ _).trans (unsigned_succ _), (hnear _ _).trans (unsigned_pred (fld_lt _ 255 224))⟩,
    ⟨(hnear _ _).trans (unsigned_succ _), (hfar _ _).trans (unsigned_pred (fld_lt _ 223 192))⟩⟩

/-- The copies under way without one that has ended. -/
def State.withoutMove (v : KvMove) : State := { s with tier.kvMoves := s.tier.kvMoves.erase v }

/-! ### The end of a spill -/

/-- What the end of a spill writes after its bytes: the page's entry, the counts of its slot and its pool, and the frame. -/
def State.spillWritten (u : State) (pool frame : Nat) (g : KvPage) (addr : Nat) : State :=
  ((((u.setKvPte g 2 addr).slotAdd g.slot 255 224 (-1)).slotAdd g.slot 223 192 1).poolAdd pool 191 128).setKvFrame pool frame none

theorem State.kvSpillEnd_written (pool frame : Nat) (g : KvPage) (far : Nat) :
    ∃ u addr, (s.withoutMove (.spill pool frame g far none none none)).SamePools u ∧
      s.kvSpillEnd (.spill pool frame g far none none none) = u.spillWritten pool frame g addr := by
  refine ⟨_, _, ?_, rfl⟩
  refine .trans ?_ ((State.countFarAll_touches _ _ _ _).samePools (by decide))
  refine .trans ?_ (State.tierWrite_samePools _ _ _)
  refine State.copied_samePools _ _ (.trans ?_ ((State.readNear_touches _ _ _).samePools (by decide)))
  exact (State.someTranslate_samePools _ _).trans (samePools_foldl (fun t n => (t.objAdd_touches _ _ _ _).samePools (by decide)) _ _)

theorem State.spillWritten_reads {pool frame : Nat} {g : KvPage} (addr : Nat) (hpte : g.pte + 8 ≤ 0xBF00000000)
    (happart : overlaps g.pte 8 (plFtBase (s.pool pool) + 16 * frame) 16 = false) :
    let t := s.spillWritten pool frame g addr
    t.kvPageState g = 2 ∧ t.kvFrame pool frame = none ∧ t.tier.kvMoves = s.tier.kvMoves ∧
      fld (t.slot g.slot) 223 192 = (fld (s.slot g.slot) 223 192 + 1) % 2 ^ 32 ∧
      fld (t.slot g.slot) 255 224 = (fld (s.slot g.slot) 255 224 + 2 ^ 32 - 1) % 2 ^ 32 := by
  have hpage : (s.spillWritten pool frame g addr).kvPageState g = 2 := by
    rw [State.spillWritten, State.kvPageState_setKvFrame_apart]
    · simpa using s.kvPageState_setKvPte addr (by decide) hpte
    · simpa [State.plFtBase_poolAdd] using happart
  have hcounts := ((s.setKvPte g 2 addr).fld_slotAdd_pair g.slot).1
  refine ⟨hpage, ?_, ?_, ?_⟩
  · simp [State.spillWritten]
  · simp [State.spillWritten]
  · simpa only [State.spillWritten, State.slot_setKvFrame, State.slot_poolAdd, State.slot_setKvPte] using hcounts

/-! ### The end of a recall -/

/-- What the end of a recall writes after its bytes: the page's entry, the spill frame, and the counts of its slot and its pool. -/
def State.recallWritten (u : State) (pool : Nat) (g : KvPage) (far addr : Nat) : State :=
  ((((u.setKvPte g 1 addr).setKvSpill pool far none).slotAdd g.slot 255 224 1).slotAdd g.slot 223 192 (-1)).poolAdd pool 127 64

theorem State.kvRecallEnd_written {pool frame : Nat} {g : KvPage} {far : Nat} {f : KvFrame} (hf : s.kvFrame pool frame = some f) :
    ∃ u addr, (s.withoutMove (.recall pool frame g far)).SamePools u ∧
      s.kvRecallEnd (.recall pool frame g far) =
        (u.recallWritten pool g far addr).setKvFrame pool frame (some { f with transit := false }) := by
  have hend : ∃ u addr, (s.withoutMove (.recall pool frame g far)).SamePools u ∧
      s.kvRecallEnd (.recall pool frame g far) =
        match (u.recallWritten pool g far addr).kvFrame pool frame with
        | some f => (u.recallWritten pool g far addr).setKvFrame pool frame (some { f with transit := false })
        | none => u.recallWritten pool g far addr := by
    refine ⟨_, _, ?_, rfl⟩
    refine .trans ?_ ((State.writeNear_touches _ _ _).samePools (by decide))
    refine State.copied_samePools _ _ (.trans ?_ (State.tierRead_samePools _ _ _))
    exact (State.someTranslate_samePools _ _).trans ((State.countFarAll_touches _ _ _ _).samePools (by decide))
  obtain ⟨u, addr, hsame, hend⟩ := hend
  have hframe : (u.recallWritten pool g far addr).kvFrame pool frame = some f := by
    simpa [State.recallWritten] using (hsame.kvFrame pool frame).trans hf
  rw [hframe] at hend
  exact ⟨u, addr, hsame, hend⟩

theorem State.recallWritten_reads {pool frame : Nat} {g : KvPage} (far addr : Nat) (f : Option KvFrame) (hpte : g.pte + 8 ≤ 0xBF00000000)
    (happart : overlaps g.pte 8 (plFtBase (s.pool pool) + 16 * frame) 16 = false) :
    let t := (s.recallWritten pool g far addr).setKvFrame pool frame f
    t.kvPageState g = 1 ∧ t.kvFrame pool frame = f ∧ t.tier.kvMoves = s.tier.kvMoves ∧
      fld (t.slot g.slot) 255 224 = (fld (s.slot g.slot) 255 224 + 1) % 2 ^ 32 ∧
      fld (t.slot g.slot) 223 192 = (fld (s.slot g.slot) 223 192 + 2 ^ 32 - 1) % 2 ^ 32 := by
  have hpage : ((s.recallWritten pool g far addr).setKvFrame pool frame f).kvPageState g = 1 := by
    rw [State.recallWritten, State.kvPageState_setKvFrame_apart]
    · simpa using s.kvPageState_setKvPte addr (by decide) hpte
    · simpa [State.plFtBase_poolAdd] using happart
  have hcounts := (((s.setKvPte g 1 addr).setKvSpill pool far none).fld_slotAdd_pair g.slot).2
  refine ⟨hpage, ?_, ?_, ?_⟩
  · simp
  · simp [State.recallWritten]
  · simpa only [State.recallWritten, State.slot_setKvFrame, State.slot_poolAdd, State.slot_setKvSpill, State.slot_setKvPte] using hcounts

end

/-! ### The commands of the pool manager -/

section
variable {s : State} {pool : Nat} (hpool : isPool pool = true)
include hpool

theorem exec_pageSpillComplete {frame far : Nat} {g : KvPage} (hready : s.kvFarReady pool far = true)
    (hmove : s.kvMoveOn pool frame true = some (.spill pool frame g far none none none)) :
    exec (.pageSpillComplete pool frame) s = .next (s.kvSpillEnd (.spill pool frame g far none none none)) := by
  change ifUnit (isPool pool) "pool" (s.spillComplete pool frame) = _
  rw [hpool, ifUnit_true, State.spillComplete, hmove]
  dsimp only
  rw [if_pos hready]

theorem exec_pageRecallComplete {frame far : Nat} {g : KvPage} (hready : s.kvFarReady pool far = true)
    (hmove : s.kvMoveOn pool frame false = some (.recall pool frame g far)) :
    exec (.pageRecallComplete pool frame) s = .next (s.kvRecallEnd (.recall pool frame g far)) := by
  change ifUnit (isPool pool) "pool" (s.recallComplete pool frame) = _
  rw [hpool, ifUnit_true, State.recallComplete, hmove]
  dsimp only
  rw [if_pos hready]

theorem exec_useByExpiry {frame u : Nat} {f : KvFrame} (hf : s.kvFrame pool frame = some f) (hu : f.useBy = some u) :
    exec (.useByExpiry pool frame) s =
      .next (if u < s.ft.toNat then s.setKvFrame pool frame (some { f with useBy := none }) else s) := by
  change ifUnit (isPool pool) "pool" (s.useByPassed pool frame) = _
  rw [hpool, ifUnit_true, State.useByPassed, hf]
  dsimp only
  rw [hu]

end

/-! ### Writes of slot and pool entries -/

theorem State.setSlot_rest (s : State) (n : Nat) (x : BitVec 512) : { s.setSlot n x with tier.slots := s.tier.slots } = s := rfl

theorem State.zeroNear_setPool_rest (s : State) (n : Nat) (x : BitVec 512) (a k : Nat) :
    { (s.setPool n x).zeroNear a k with mem := s.mem, tier.pools := s.tier.pools } = s := rfl

/-- The fields of a pool's entry are in range, as R213 asks. -/
def PoolFieldsOk (v : BitVec 512) : Prop :=
  4 ≤ plPageLog2 v ∧ plPageLog2 v ≤ 16 ∧ 1 ≤ plFmt v ∧ plFmt v ≤ 4 ∧ plFrames v ≠ 0 ∧
    zeros v [(383, 381), (321, 256), (207, 192)] = true

/-- A pool's entry after a write of `v` over `old`: `frame_bytes` computed, the counts kept. -/
def poolWritten (old v : BitVec 512) : BitVec 512 :=
  setFld (setFld v 495 464 (frameBytesOf (plHt v) (plPageLog2 v) (plFmt v))) 255 0 (fld old 255 0)

/-- `frame_bytes` fits its field. -/
theorem frameBytesOf_lt {ht log2 fmt : Nat} (hht : ht ≤ 4) (hlog2 : log2 ≤ 16) : frameBytesOf ht log2 fmt < 2 ^ 32 := by
  have hpow : 2 ^ log2 ≤ 2 ^ 16 := Nat.pow_le_pow_right (by decide) hlog2
  have helem : kvElem fmt ≤ 2 := by unfold kvElem; split <;> decide
  have hbytes : 2 * ht * 2 ^ log2 * 64 * kvElem fmt ≤ 2 * 4 * 2 ^ 16 * 64 * 2 :=
    Nat.mul_le_mul (Nat.mul_le_mul_right _ (Nat.mul_le_mul (Nat.mul_le_mul_left _ hht) hpow)) helem
  unfold frameBytesOf roundUp
  omega

theorem plHt_le (v : BitVec 512) : plHt v ≤ 4 := by
  have := fld_lt v 501 500
  unfold plHt m1
  omega

theorem poolWritten_fields (old : BitVec 512) {v : BitVec 512} (hlog2 : plPageLog2 v ≤ 16) :
    fld (poolWritten old v) 511 496 = fld v 511 496 ∧ fld (poolWritten old v) 463 256 = fld v 463 256 ∧
      fld (poolWritten old v) 255 0 = fld old 255 0 ∧
      plFrameBytes (poolWritten old v) = frameBytesOf (plHt v) (plPageLog2 v) (plFmt v) := by
  have hkept : ∀ {hi lo : Nat}, hi < 512 → 255 < lo → hi < 464 ∨ 495 < lo → fld (poolWritten old v) hi lo = fld v hi lo :=
    fun hhi hlo hapart => by
      rw [poolWritten, fld_setFld_of_apart _ _ (by decide) hhi (.inr hlo), fld_setFld_of_apart _ _ (by decide) hhi hapart]
  refine ⟨hkept (by decide) (by decide) (by decide), hkept (by decide) (by decide) (by decide), ?_, ?_⟩
  · rw [poolWritten, fld_setFld_self _ _ (by decide) (by decide), Nat.mod_eq_of_lt (fld_lt _ 255 0)]
  · rw [plFrameBytes, poolWritten, fld_setFld_of_apart _ _ (by decide) (by decide) (by decide),
      fld_setFld_self _ _ (by decide) (by decide), Nat.mod_eq_of_lt (frameBytesOf_lt (plHt_le v) hlog2)]

section
variable {s : State} {n : Nat} {v : BitVec 512} (hlive : s.poolsWritable = true) (hversion : fld v 511 508 = 1)
include hlive hversion

theorem exec_seqSlotWrite (hn : isSlot n = true) (hstate : slState v < 2) (hmask : fld v 505 504 ≠ 3) (hpages : slPagesLog2 v ≤ 20)
    (hprefix : fld v 448 424 ≤ 2 ^ 24) (hwindow : fld v 423 399 ≤ 2 ^ 24)
    (hzeros : zeros v [(476, 449), (398, 380), (351, 256), (63, 0)] = true) :
    exec (.seqSlotWrite n v) s = .next (s.setSlot n (setFld v 255 64 (fld (s.slot n) 255 64))) := by
  have hok : s.slotWrite n v = (s.setSlot n (setFld v 255 64 (fld (s.slot n) 255 64)), .ok) := by
    rw [State.slotWrite, hlive, if_neg (by decide), if_neg (not_not_intro hversion), if_neg]
    simp only [hzeros, Bool.true_eq_false, or_false]
    omega
  change ifUnit (isSlot n) "slot" ((s.slotWrite n v).1.count (s.slotWrite n v).2) = _
  rw [hn, ifUnit_true, hok]
  rfl

section
variable (hn : isPool n = true) (hfields : PoolFieldsOk v)
include hn hfields

/-- A write of a pool's entry whose fields are in range, up to what the enabled pool refuses. -/
theorem exec_poolWrite :
    exec (.poolWrite n v) s =
      .next (if plEnable (s.pool n) ∧ plGeometry (s.pool n) ≠ plGeometry v then s.count .stateConflict
        else if plEnable (s.pool n) ∧ !plEnable v ∧ (s.kvUsed n).isEmpty = false then s.count .stateConflict
        else
          let t := s.setPool n (poolWritten (s.pool n) v)
          if plEnable v && !plEnable (s.pool n) then t.zeroNear (plFtBase v) (16 * plFrames v) else t) := by
  obtain ⟨hlog4, hlog16, hfmt1, hfmt4, hframes, hzeros⟩ := hfields
  have hrange : ¬ (plPageLog2 v < 4 ∨ 16 < plPageLog2 v ∨ plFmt v < 1 ∨ 4 < plFmt v ∨ plFrames v = 0 ∨
      zeros v [(383, 381), (321, 256), (207, 192)] = false) := by
    simp only [hzeros, Bool.true_eq_false, or_false]
    omega
  change ifUnit (isPool n) "pool" ((s.poolWrite n v).1.count (s.poolWrite n v).2) = _
  rw [hn, ifUnit_true, State.poolWrite, hlive, if_neg (by decide), if_neg (not_not_intro hversion), if_neg hrange]
  congr 1
  split
  · rfl
  split
  · rfl
  · rfl

end
end

/-- Settles O27: each copy's end, each pin's end and each write is what a lemma of its own above says. -/
theorem poolsAndSlots : Obligations.PoolsAndSlots := by
  refine ⟨fun s pool frame far g hpool hready hpte happart => ⟨fun hmove => ?_, fun f hmove hf => ?_, fun f u hf hu =>
      ⟨fun hle => ?_, fun hlt => ?_⟩⟩,
    fun s n v hlive hversion => ⟨fun hn hstate hmask hpages hprefix hwindow hzeros => ?_,
      fun hn hlog4 hlog16 hfmt1 hfmt4 hframes hzeros hold hnew => ?_,
      fun hn hlog4 hlog16 hfmt1 hfmt4 hframes hzeros hold hgeometry => ?_⟩⟩
  · obtain ⟨u, addr, hsame, hend⟩ := s.kvSpillEnd_written pool frame g far
    refine ⟨_, exec_pageSpillComplete hpool hready hmove, ?_⟩
    rw [hend, show s.tier.kvMoves.erase _ = u.tier.kvMoves from hsame.moves.symm]
    have hreads := u.spillWritten_reads addr hpte (by rw [hsame.pool]; exact happart)
    rwa [hsame.slot] at hreads
  · obtain ⟨u, addr, hsame, hend⟩ := s.kvRecallEnd_written (g := g) (far := far) hf
    refine ⟨_, exec_pageRecallComplete hpool hready hmove, ?_⟩
    rw [hend, show s.tier.kvMoves.erase _ = u.tier.kvMoves from hsame.moves.symm]
    have hreads := u.recallWritten_reads far addr (some { f with transit := false }) hpte (by rw [hsame.pool]; exact happart)
    rwa [hsame.slot] at hreads
  · rw [exec_useByExpiry hpool hf hu, if_neg (by omega)]
  · have hexec := exec_useByExpiry hpool hf hu
    rw [if_pos hlt] at hexec
    exact ⟨_, hexec, s.kvFrame_setKvFrame pool frame _,
      s.setKvFrame_touches pool frame _ .memTile (by decide), s.setKvFrame_rest pool frame _⟩
  · refine ⟨_, exec_seqSlotWrite hlive hversion hn hstate hmask hpages hprefix hwindow hzeros, fun i hi => ?_,
      fun k hk => (s.slot_setSlot n k _).trans (if_neg hk), s.setSlot_rest n _⟩
    rw [State.slot_setSlot_self, getLsbD_setFld _ _ (by decide) i hi]
    split
    · rw [testBit_fld, decide_eq_true (by omega), Bool.true_and, Nat.add_sub_cancel' (by omega)]
    · rfl
  · have hexec := exec_poolWrite hlive hversion hn ⟨hlog4, hlog16, hfmt1, hfmt4, hframes, hzeros⟩
    simp only [hold, hnew, Bool.false_eq_true, false_and, if_false, Bool.not_false, Bool.and_self, if_true] at hexec
    obtain ⟨hhigh, hmid, hlow, hbytes⟩ := poolWritten_fields (s.pool n) hlog16
    have hpool : State.pool ((s.setPool n (poolWritten (s.pool n) v)).zeroNear (plFtBase v) (16 * plFrames v)) n =
        poolWritten (s.pool n) v := s.pool_setPool_self n _
    refine ⟨_, hexec, ?_, ?_, ?_, ?_, fun a => (Store.get_erase 0 _ s.mem.near a).trans (by simp only [decide_eq_true_eq]),
      s.zeroNear_setPool_rest n _ _ _⟩
    · rw [hpool, hhigh]
    · rw [hpool, hmid]
    · rw [hpool, hlow]
    · rw [hpool, hbytes]
  · have hexec := exec_poolWrite hlive hversion hn ⟨hlog4, hlog16, hfmt1, hfmt4, hframes, hzeros⟩
    rw [if_pos ⟨hold, hgeometry⟩] at hexec
    exact ⟨_, hexec, rfl, State.reg_bump_self _ _ _⟩

end Sys2Proof.Machine
end

section
/-! SUPPORT. What the sequencer's registers and items under way depend on: signals leave them as they are, and so does the computing
of a pair of blocks, which writes tile memory (R196 to R198, R202, R226, R368 to R370). -/

namespace Sys2Proof.Machine

/-! ### The sequencer's counts -/

/-- A register that no signal and no step of a pair writes: a stack's, or a core's count of items, of pairs computed or of pairs skipped. -/
def SeqKept (o : Nat) : Prop :=
  (0xA000 ≤ o ∧ o < 0xA800) ∨ (0x10000000 ≤ o ∧ (o % 0x10000 = 0x6008 ∨ o % 0x10000 = 0x6010 ∨ o % 0x10000 = 0x6018))

theorem not_seqKept_coreOff {o : Nat} (h : o % 0x10000 ≠ 0x6008 ∧ o % 0x10000 ≠ 0x6010 ∧ o % 0x10000 ≠ 0x6018) (core : Nat) :
    ¬ SeqKept (coreOff core o) := by
  unfold SeqKept coreOff
  omega

theorem not_seqKept_low {o : Nat} (h : o < 0xA000) : ¬ SeqKept o := by
  unfold SeqKept
  omega

/-- The items under way of the sequencers and their counts are the same in two states. -/
structure State.SeqStays (s t : State) : Prop where
  walks : ∀ c, (t.core c).walk = (s.core c).walk
  regs : ∀ o, SeqKept o → t.reg o = s.reg o

theorem State.SeqStays.refl (s : State) : s.SeqStays s := ⟨fun _ => rfl, fun _ _ => rfl⟩

theorem State.SeqStays.trans {s t u : State} (h : s.SeqStays t) (k : t.SeqStays u) : s.SeqStays u :=
  ⟨fun c => (k.walks c).trans (h.walks c), fun o ho => (k.regs o ho).trans (h.regs o ho)⟩

theorem State.Touches.seqStays {l : List Part} {s t : State} (h : s.Touches l t) (hr : .regs ∉ l) (hc : .cores ∉ l) : s.SeqStays t :=
  ⟨fun c => congrArg Core.walk (h.core hc c), fun o _ => h.reg hr o⟩

theorem seqStays_ite {c : Prop} [Decidable c] {s a b : State} (ha : s.SeqStays a) (hb : s.SeqStays b) :
    s.SeqStays (if c then a else b) := by
  split
  · exact ha
  · exact hb

theorem seqStays_foldl {β : Type} {f : State → β → State} (hf : ∀ (t : State) e, t.SeqStays (f t e)) (es : List β) (s : State) :
    s.SeqStays (es.foldl f s) := by
  induction es generalizing s with
  | nil => exact .refl s
  | cons e rest ih => exact (hf s e).trans (ih (f s e))

section
variable (s : State)

theorem State.setReg_seqStays {o : Nat} (ho : ¬ SeqKept o) (v : W64) : s.SeqStays (s.setReg o v) :=
  ⟨fun _ => rfl, fun k hk => s.reg_setReg_ne o k v fun h => ho (h ▸ hk)⟩

theorem State.bump_seqStays {o : Nat} (ho : ¬ SeqKept o) (n : Nat) : s.SeqStays (s.bump o n) := s.setReg_seqStays ho _

theorem State.setFlag_seqStays {o : Nat} (ho : ¬ SeqKept o) (b : Nat) : s.SeqStays (s.setFlag o b) := s.setReg_seqStays ho _

theorem State.setCore_seqStays {core : Nat} {C : Core} (h : C.walk = (s.core core).walk) : s.SeqStays (s.setCore core C) := by
  refine ⟨fun c => ?_, fun _ _ => rfl⟩
  rw [State.core_setCore]
  split
  · next hc => rw [h, hc]
  · rfl

/-! ### A semaphore signalled -/

theorem State.swResult_seqStays (core : Nat) (v : W64) : s.SeqStays (s.swResult core v) := by
  have hresult : s.SeqStays ((s.setCore core { s.core core with sw := none }).setReg (coreOff core 0x3010) v) :=
    (s.setCore_seqStays (C := { s.core core with sw := none }) rfl).trans (State.setReg_seqStays _ (not_seqKept_coreOff (by decide) core) v)
  unfold State.swResult
  dsimp only
  split
  · exact seqStays_ite (hresult.trans (State.setCore_seqStays _ rfl)) hresult
  · exact hresult

theorem State.satisfy_seqStays (i : Nat) (w : Waiter) : s.SeqStays (s.satisfy i w) := by
  have hsem : ∀ (t : State) j S, t.SeqStays (t.setSem j S) := fun t j S => (t.setSem_touches j S).seqStays (by decide) (by decide)
  have htake : s.SeqStays ((s.waiterSems w i).foldl (fun t j => t.setSem j ((t.sem j).takeBy w)) s) :=
    seqStays_foldl (fun t j => hsem t j _) _ s
  cases w with
  | item q =>
    unfold State.satisfy
    dsimp only
    split
    · exact htake.trans ((State.setQueue_touches _ _ _).seqStays (by decide) (by decide))
    · exact htake
  | desc id =>
    unfold State.satisfy
    dsimp only
    split
    · exact htake.trans ((touches_qs _ _).seqStays (by decide) (by decide))
    · exact htake
  | cp core =>
    unfold State.satisfy
    dsimp only
    split
    · exact .refl s
    · exact (hsem s i _).trans (State.swResult_seqStays _ core _)
  | chain core =>
    unfold State.satisfy
    dsimp only
    split
    · exact htake.trans (State.setCore_seqStays _ rfl)
    · exact htake
  | chainArr core =>
    unfold State.satisfy
    dsimp only
    split
    · exact htake.trans (State.setCore_seqStays _ rfl)
    · exact htake
  | media eng => exact htake.trans ((touches_media _ _).seqStays (by decide) (by decide))

theorem State.evalSem_seqStays (i : Nat) : s.SeqStays (s.evalSem i) :=
  seqStays_foldl (fun t w => seqStays_ite (t.satisfy_seqStays i w) (.refl t)) _ s

theorem State.semAdd_seqStays (i n : Nat) : s.SeqStays (s.semAdd i n).1 := by
  unfold State.semAdd
  dsimp only
  split
  · exact .refl s
  · exact .refl s
  · have hover : s.SeqStays (if (s.sem i).count.toNat + n > 0xFFFFFFFF then s.bumpSeen 0x3010 0x3004 1 else s) :=
      seqStays_ite ((s.bump_seqStays (not_seqKept_low (by decide)) 1).trans
        (State.setFlag_seqStays _ (not_seqKept_low (by decide)) 1)) (.refl s)
    exact (hover.trans ((State.setSem_touches _ i _).seqStays (by decide) (by decide))).trans (State.evalSem_seqStays _ i)

theorem State.count_seqStays (st : Status) : s.SeqStays (s.count st) :=
  seqStays_ite (.refl s) (s.bump_seqStays (not_seqKept_low (by have := counterOff_range st; omega)) 1)

theorem State.syncFault_seqStays (st : Status) (kind index : Nat) : s.SeqStays (s.syncFault st kind index) := by
  refine (s.count_seqStays st).trans (.trans ?_ (State.setFlag_seqStays _ (not_seqKept_low (by decide)) 5))
  exact seqStays_ite (.refl _) (State.setReg_seqStays (o := 0x3038) _ (not_seqKept_low (by decide)) _)

theorem State.signalOpt_seqStays (o : Option Nat) : s.SeqStays (s.signalOpt o) := by
  cases o with
  | none => exact .refl s
  | some i =>
    have hadd := s.semAdd_seqStays i (s.sem i).add
    exact seqStays_ite hadd (hadd.trans (State.syncFault_seqStays _ _ 0 i))

end

/-! ### The steps of a pair -/

/-- The parts that the work on a pair of blocks may touch. -/
def pairParts : List Part := [.regs, .pwr, .free, .memTile, .memBadTile, .memTileErr]

/-- A step of the sequencer's work: it touches the parts of a pair's work, keeps the counts, and leaves no word of tile memory in error. -/
structure State.PairStep (s t : State) : Prop where
  touches : s.Touches pairParts t
  stays : s.SeqStays t
  bad : s.mem.badTile = [] → t.mem.badTile = []
  err : s.mem.tileErr = [] → t.mem.tileErr = []

theorem State.PairStep.refl (s : State) : s.PairStep s := ⟨.refl _ s, .refl s, id, id⟩

theorem State.PairStep.trans {s t u : State} (h : s.PairStep t) (k : t.PairStep u) : s.PairStep u :=
  ⟨h.touches.trans k.touches, h.stays.trans k.stays, fun hs => k.bad (h.bad hs), fun hs => k.err (h.err hs)⟩

theorem pairStep_ite {c : Prop} [Decidable c] {s a b : State} (ha : s.PairStep a) (hb : s.PairStep b) :
    s.PairStep (if c then a else b) := by
  split
  · exact ha
  · exact hb

theorem pairStep_foldl {β : Type} {f : State → β → State} (hf : ∀ (t : State) e, t.PairStep (f t e)) (es : List β) (s : State) :
    s.PairStep (es.foldl f s) := by
  induction es generalizing s with
  | nil => exact .refl s
  | cons e rest ih => exact (hf s e).trans (ih (f s e))

theorem pairStep_foldl_fst {α β : Type} {f : State × α → β → State × α} (hf : ∀ (x : State × α) e, x.1.PairStep (f x e).1)
    (es : List β) (x : State × α) : x.1.PairStep (es.foldl f x).1 := by
  induction es generalizing x with
  | nil => exact .refl _
  | cons e rest ih => exact (hf x e).trans (ih (f x e))

section
variable (s : State)

/-! #### Registers and free values -/

theorem State.bump_pairStep {o : Nat} (ho : ¬ SeqKept o) (n : Nat) : s.PairStep (s.bump o n) :=
  ⟨(s.bump_touches o n).mono (by decide), s.bump_seqStays ho n, id, id⟩

theorem State.setFlag_pairStep {o : Nat} (ho : ¬ SeqKept o) (b : Nat) : s.PairStep (s.setFlag o b) :=
  ⟨(s.setFlag_touches o b).mono (by decide), s.setFlag_seqStays ho b, id, id⟩

theorem State.bumpSeenN_pairStep {c o : Nat} (hc : ¬ SeqKept c) (ho : ¬ SeqKept o) (b n : Nat) : s.PairStep (s.bumpSeenN c o b n) :=
  pairStep_ite (.refl s) ((s.bump_pairStep hc n).trans (State.setFlag_pairStep _ ho b))

theorem State.draw_pairStep (n : Nat) : s.PairStep { s with free := n } :=
  ⟨(touches_free s n).mono (by decide), (touches_free s n).seqStays (by decide) (by decide), id, id⟩

theorem State.busyFor_pairStep {o : Nat} (ho : ¬ SeqKept o) : s.PairStep (s.busyFor o) :=
  (s.draw_pairStep _).trans
    ⟨(State.setReg_touches _ _ _).mono (by decide), State.setReg_seqStays _ ho _, id, id⟩

theorem State.seqCounters_pairStep (core : Nat) : s.PairStep (s.seqCounters core) :=
  (s.busyFor_pairStep (not_seqKept_coreOff (by decide) core)).trans (State.busyFor_pairStep _ (not_seqKept_coreOff (by decide) core))

theorem State.charge_pairStep (core : Nat) {h : Nat} (hh : h < 16) (e : Nat) : s.PairStep (s.charge core h e) := by
  have hpwr : ∀ p : PwrSt, s.Touches [.pwr] { s with pwr := p } := fun p k hk => by cases k <;> simp_all [Part.same]
  have hbalance : ∀ p : PwrSt, s.PairStep { s with pwr := p } := fun p =>
    ⟨(hpwr p).mono (by decide), (hpwr p).seqStays (by decide) (by decide), id, id⟩
  exact ((hbalance _).trans (State.bump_pairStep _ (not_seqKept_coreOff (by decide) core) e)).trans
    (State.bump_pairStep _ (not_seqKept_low (by omega)) e)

theorem State.countFetch_pairStep (core bytes : Nat) : s.PairStep (s.countFetch core bytes) := by
  have hunit : ∀ o, o = 0x2108 ∨ o = 0x2008 → s.PairStep ((s.busyFor (coreOff core o)).bump (coreOff core (o + 8)) bytes) := by
    rintro o (rfl | rfl)
    · exact (s.busyFor_pairStep (not_seqKept_coreOff (by decide) core)).trans (State.bump_pairStep _ (not_seqKept_coreOff (by decide) core) _)
    · exact (s.busyFor_pairStep (not_seqKept_coreOff (by decide) core)).trans (State.bump_pairStep _ (not_seqKept_coreOff (by decide) core) _)
  exact hunit _ (by split <;> simp)

/-! #### Tiles -/

theorem State.putTile_pairStep (core o : Nat) (l : List Byte) : s.PairStep (s.putTile core o l) :=
  have ht := s.putTile_touches core o l
  ⟨ht.mono (by decide), ht.seqStays (by decide) (by decide), fun h => by simp [State.putTile, h, Store.erase],
    fun h => by simp [State.putTile, h, Store.erase]⟩

theorem State.putRow_pairStep (core g : Nat) (v : Conv) (r : Nat) (vals : List FVal) : s.PairStep (s.putRow core g v r vals).1 := by
  unfold State.putRow
  split
  · refine pairStep_foldl_fst (fun x b => ?_) _ (s, 0)
    exact (x.1.putTile_pairStep core _ _).trans (State.putTile_pairStep _ core _ _)
  · exact s.putTile_pairStep core _ _

theorem State.putTileVals_pairStep (core g : Nat) (v : Conv) (m n : Nat) (val : Nat → Nat → FVal) :
    s.PairStep (s.putTileVals core g v m n val).1 := by
  refine pairStep_foldl_fst (fun x r => ?_) (List.range m) (s, 0)
  exact x.1.putRow_pairStep core g v r _

theorem State.seqWrite_pairStep (core g : Nat) (v : Conv) (tag : W128) (m n : Nat) (out : List (List (W32 × Bool))) :
    s.PairStep (s.seqWrite core g v tag m n out) :=
  have hseen : ∀ (t : State) o b k, o = 0x5030 ∨ o = 0x5028 → t.PairStep (t.bumpSeenN (coreOff core o) (coreOff core 0x5000) b k) :=
    fun t o b k ho => t.bumpSeenN_pairStep (not_seqKept_coreOff (by omega) core) (not_seqKept_coreOff (by decide) core) b k
  (((hseen s _ _ _ (.inl rfl)).trans (State.putTileVals_pairStep _ core g v m n _)).trans (State.putTile_pairStep _ core _ _)).trans
    (hseen _ _ _ _ (.inr rfl))

theorem State.seqMix_pairStep (core g : Nat) (tag : W128) (m n : Nat) (alpha : Nat → W32) (w : Store W32) :
    s.PairStep (s.seqMix core g tag m n alpha w) := s.seqWrite_pairStep core g _ tag m n _

theorem State.seqProb_pairStep (core q : Nat) (x : BitVec 512) (tag : W128) (m n : Nat) (out : List (List (W32 × Bool))) :
    s.PairStep (s.seqProb core q x tag m n out).1 :=
  (s.draw_pairStep _).trans (State.seqWrite_pairStep _ core _ _ _ m n out)

theorem State.seqTrans_pairStep (core q : Nat) (x : BitVec 512) (tag : W128) (m n : Nat) (p : OpTile) :
    s.PairStep (s.seqTrans core q x tag m n p).1 := s.seqProb_pairStep core q x tag n m _

theorem State.recTags_pairStep (core g : Nat) : s.PairStep (s.recTags core g) := s.putTile_pairStep core _ _

/-! #### Pairs -/

theorem State.pairTag_pairStep (core q g kv cls : Nat) (x : BitVec 512) : s.PairStep (s.pairTag core q g kv cls x).1 :=
  s.putTile_pairStep core _ _

theorem State.fwdPair_pairStep (core q : Nat) (x slot : BitVec 512) (t h j cls : Nat) (k v : Nat → Nat) :
    s.PairStep (s.fwdPair core q x slot t h j cls k v) := by
  refine .trans (.trans (.trans (.trans (s.pairTag_pairStep core q (asQTile x (asResGran x) t h 0) j cls x) ?_) (State.recTags_pairStep _ core _))
    (State.seqProb_pairStep _ core q x _ _ _ _)) (pairStep_foldl (fun u _ => u.seqMix_pairStep core _ _ _ _ _ _) _ _)
  exact pairStep_foldl (fun u e => u.putTile_pairStep core _ _) _ _

theorem State.bwdQPair_pairStep (core q : Nat) (x slot : BitVec 512) (t h j cls : Nat) (k v : Nat → Nat) :
    s.PairStep (s.bwdQPair core q x slot t h j cls k v) :=
  (((s.pairTag_pairStep core q _ j cls x).trans (State.seqProb_pairStep _ core q x _ _ _ _)).trans
    (State.seqProb_pairStep _ core q x _ _ _ _)).trans (pairStep_foldl (fun u _ => u.seqMix_pairStep core _ _ _ _ _ _) _ _)

theorem State.bwdKvPair_pairStep (core q : Nat) (x slot : BitVec 512) (t i cls : Nat) (qt dt yt : Nat → Nat) (rec : Nat) :
    s.PairStep (s.bwdKvPair core q x slot t i cls qt dt yt rec) := by
  unfold State.bwdKvPair
  extract_lets m n kt vt D S r tag p mixInto pt s1 dp ds dst
  have hprob : s.PairStep p.1 := (s.pairTag_pairStep core q _ _ cls x).trans (State.seqProb_pairStep _ core q x _ _ _ _)
  have hmix : ∀ (u : State) w a b, u.PairStep (mixInto u w a b) := fun u w a b =>
    pairStep_foldl (fun u _ => u.seqMix_pairStep core _ _ _ _ _ _) _ u
  have hvalue : s.PairStep s1 := pairStep_ite ((hprob.trans (State.seqTrans_pairStep _ core q x _ _ _ _)).trans (hmix _ _ _ _)) hprob
  exact pairStep_ite (((hvalue.trans (State.seqProb_pairStep _ core q x _ _ _ _)).trans
    (State.seqTrans_pairStep _ core q x _ _ _ _)).trans (hmix _ _ _ _)) hvalue

theorem State.asPairs_pairStep (core q : Nat) (x slot : BitVec 512) (j : Nat) : s.PairStep (s.asPairs core q x slot j) := by
  refine pairStep_foldl (fun u t => pairStep_foldl (fun v h => ?_) _ u) _ s
  refine pairStep_ite (.refl v) ?_
  dsimp only
  split
  · exact v.bwdQPair_pairStep core q x slot t h j _ _ _
  · exact v.bwdKvPair_pairStep core q x slot t j _ _ _ _ _
  · exact v.fwdPair_pairStep core q x slot t h j _ _ _

/-! #### The begin and the end of a walk, and staging -/

theorem State.asInit_pairStep (core q : Nat) (x : BitVec 512) : s.PairStep (s.asInit core q x) := by
  have haccs : s.PairStep _ := pairStep_foldl (fun u t => pairStep_foldl (fun u h => pairStep_foldl (fun u i =>
    u.seqWrite_pairStep core (asAcc x (asAccIx x t h i)) (seqConv 0) (u.accTag core q t (if asOp x = 3 then 0 else h) 0 x) (asResValid x t) 64
      (outTable (asResValid x t) 64 fun _ _ => (0, false))) (List.range (asHt x)) u)
    (List.range (if asOp x = 3 then asW x else asH x)) u) (List.range (asT x)) s
  refine pairStep_ite (haccs.trans (pairStep_foldl (fun u t => pairStep_foldl (fun u h => ?_) _ u) _ _)) haccs
  exact (pairStep_foldl (fun u r => u.putTile_pairStep core _ _) _ u).trans (State.recTags_pairStep _ core _)

theorem State.asFin_pairStep (core q : Nat) (x : BitVec 512) : s.PairStep (s.asFin core q x) :=
  pairStep_foldl (fun u _ => pairStep_foldl (fun u _ => pairStep_foldl (fun u _ => u.seqWrite_pairStep core _ _ _ _ _ _) _ u) _ u) _ s

theorem State.stageTags_pairStep (core : Nat) (x : BitVec 512) (j base : Nat) : s.PairStep (s.stageTags core x j base) :=
  (pairStep_foldl (fun u _ => u.putTile_pairStep core _ _) _ s).trans (pairStep_foldl (fun u _ => u.recTags_pairStep core _) _ _)

end
end Sys2Proof.Machine
end

section
/-! SUPPORT. Attention items from their begin to their end, and walks over the streamed blocks of a linear source (R187, R191, R195, R196,
R198, R202). -/

namespace Sys2Proof.Machine

/-! ### Sound memory -/

/-- A stack's register, by which its accesses may trip, is one of those kept. -/
theorem seqKept_msOff {k : Nat} (hk : k < 8) : SeqKept (msOff k 0) := by
  unfold SeqKept msOff
  omega

/-- Memory stays sound where nothing but its bytes changes. -/
theorem State.memSound.of_same {s t : State} (h : s.memSound) (hbadNear : t.mem.badNear = s.mem.badNear)
    (hbadTile : s.mem.badTile = [] → t.mem.badTile = []) (hnearErr : t.mem.nearErr = s.mem.nearErr)
    (htileErr : s.mem.tileErr = [] → t.mem.tileErr = []) (hburst : t.mem.burstBad = s.mem.burstBad) (hchans : t.mem.chans = s.mem.chans)
    (hregs : ∀ k, k < 8 → t.reg (msOff k 0) = s.reg (msOff k 0)) : t.memSound := by
  obtain ⟨hbn, hbt, hne, hte, hbb, hch, htrip⟩ := h
  refine ⟨hbadNear.trans hbn, hbadTile hbt, hnearErr.trans hne, htileErr hte, hburst.trans hbb, hchans.trans hch, fun k hk => ?_⟩
  rw [State.flag, hregs k hk]
  exact htrip k hk

/-- Memory stays sound where it and the stacks' registers stay. -/
theorem State.memSound.of_mem {s t : State} (h : s.memSound) (hmem : t.mem = s.mem) (hstays : ∀ o, SeqKept o → t.reg o = s.reg o) :
    t.memSound :=
  h.of_same (by rw [hmem]) (by rw [hmem]; exact id) (by rw [hmem]) (by rw [hmem]; exact id) (by rw [hmem]) (by rw [hmem])
    fun _ hk => hstays _ (seqKept_msOff hk)

/-! ### The begin of an item -/

section
variable (s : State) (n q : Nat) (x : BitVec 512)

theorem State.asTagPhase_lt (core : Nat) : s.asTagPhase core x < 16 := by
  have := bits_lt (s.tag core (asResGran x)).toNat 51 48
  unfold State.asTagPhase tagPhase
  split
  · omega
  · decide

theorem attnEngine_charged_stays : s.SeqStays ((attnEngine n).charged s q x) :=
  (s.charge_pairStep _ (s.asTagPhase_lt x _) _).stays.trans ((State.served_touches _ q).seqStays (by decide) (by decide))

theorem attnEngine_charged_sound (hsound : s.memSound) : ((attnEngine n).charged s q x).memSound :=
  hsound.of_mem (((attnEngine n).charged_touches s q x).mem (by decide)) (attnEngine_charged_stays s n q x).regs

/-- The bookkeeping of an item that begins. -/
def State.walkStart : AsWalk :=
  { queue := q, index := match (s.queue q).held with
      | some h => h.index
      | none => 0, item := x, next := asStrFirst x, slot := s.slot (asSlot x) }

theorem State.setWalk_touches (core : Nat) (w : AsWalk) : s.Touches [.cores] (s.setWalk core w) := s.setCore_touches core _

@[simp] theorem State.core_setWalk (core : Nat) (w : AsWalk) : (s.setWalk core w).core core = { s.core core with walk := some w } :=
  State.core_setCore_self s core _

@[simp] theorem State.asWalk_setWalk (core : Nat) (w : AsWalk) : (s.setWalk core w).asWalk core = w := by simp [State.asWalk]

theorem State.asDone_touches (core : Nat) : s.Touches [.cores] (s.asDone core) := s.setCore_touches core _

@[simp] theorem State.walk_asDone (core : Nat) : ((s.asDone core).core core).walk = none :=
  congrArg Core.walk (State.core_setCore_self s core _)

variable {s q x}

/-- On an idle sequencer an item begins its bookkeeping; a walk that does not continue one also its accumulators and records. -/
theorem State.asStart_of_idle {core : Nat} (h : (s.core core).walk = none) :
    s.asStart core q x =
      if decide (asOp x ≤ 3) && !asCont x then (s.setWalk core (s.walkStart q x)).asInit core q x else s.setWalk core (s.walkStart q x) := by
  rw [State.asStart, h]
  rfl

theorem idle_of_mayBegin (h : s.mayBegin (attnEngine n) q x) : (s.core (s.queue q).core).walk = none := by
  obtain ⟨-, -, hunder, -⟩ := h
  exact Option.map_eq_none_iff.1 hunder

/-! ### The end of an item -/

/-- What an attention item whose work ends with OK leaves after it: its queue holds nothing, no item under way is touched, and the
core's count of items has risen by 1. -/
theorem attn_ends (hbegin : s.mayBegin (attnEngine n) q x) {u : State}
    (hrun : (attnEngine n).run ((attnEngine n).charged s q x) q x = (u, some (.ok, true)))
    (hqs : ((attnEngine n).charged s q x).qs = u.qs) :
    let t := (attnEngine n).begin s q x
    u.Touches wakeParts t ∧ (t.queue q).held = none ∧ (∀ c, (t.core c).walk = (u.core c).walk) ∧
      ∀ o, SeqKept o → t.reg o = u.reg o + if o = coreOff (s.queue q).core 0x6008 then 1 else 0 := by
  obtain ⟨hkind, -, -, hready, -⟩ := hbegin
  obtain ⟨H, hheld, -⟩ := State.held_of_readyItem hready
  have hqueue : u.queue q = s.queue q :=
    (congrArg (fun m : QueueSt => Store.get ({} : Queue) m.queues q) hqs.symm).trans ((attnEngine n).queue_charged s q x q)
  have hbegin : (attnEngine n).begin s q x = (u.endItem q .ok).signalOpt (itemRel ((attnEngine n).charged s q x).fab.chipNum 3 x) := by
    rw [EngineOps.begin_eq, EngineOps.work, hrun]
    rfl
  have hend : u.endItem q .ok = (u.setQueue q { (u.queue q).finishItem H.index with
      held := none, waitSince := none, readySince := none }).bump (coreOff (s.queue q).core 0x6008) 1 := by
    have hkind : (s.queue q).kind = 3 := hkind
    simp [State.endItem, hqueue, hheld, hkind, engineRegs, State.count]
  have hstays := (u.endItem q .ok).signalOpt_seqStays (itemRel ((attnEngine n).charged s q x).fab.chipNum 3 x)
  obtain ⟨htouches, hnone⟩ := EngineOps.begin_of_ok hrun
  refine ⟨htouches, hnone, fun c => ?_, fun o ho => ?_⟩
  · rw [hbegin, hstays.walks, hend]
    rfl
  · rw [hbegin, hstays.regs o ho, hend]
    split
    · next h => rw [h, State.reg_bump_self]; rfl
    · next h => rw [State.reg_bump_ne _ _ _ _ h, add_zero]; rfl

end

/-! ### What a walk counts -/

/-- What a count of pairs rises by: `a` for those computed on a core, `b` for those skipped. -/
def pairCount (core a b o : Nat) : W64 :=
  if o = coreOff core 0x6010 then BitVec.ofNat 64 a else if o = coreOff core 0x6018 then BitVec.ofNat 64 b else 0

theorem pairCount_add (core a b c d o : Nat) : pairCount core a b o + pairCount core c d o = pairCount core (a + c) (b + d) o := by
  unfold pairCount
  split
  · exact (BitVec.ofNat_add a c).symm
  split
  · exact (BitVec.ofNat_add b d).symm
  · rfl

theorem pairCount_zero (core o : Nat) : pairCount core 0 0 o = 0 := by
  unfold pairCount
  split
  · rfl
  split <;> rfl

/-- Work of the sequencer of a core on pairs, `a` of them computed and `b` skipped. -/
structure State.Walked (core a b : Nat) (s t : State) : Prop where
  touches : s.Touches (.cores :: pairParts) t
  regs : ∀ o, SeqKept o → t.reg o = s.reg o + pairCount core a b o
  bad : s.mem.badTile = [] → t.mem.badTile = []
  err : s.mem.tileErr = [] → t.mem.tileErr = []

section
variable {core a b c d : Nat} {s t u : State}

theorem State.Walked.trans (h : s.Walked core a b t) (k : t.Walked core c d u) : s.Walked core (a + c) (b + d) u :=
  ⟨h.touches.trans k.touches, fun o ho => by rw [k.regs o ho, h.regs o ho, BitVec.add_assoc, pairCount_add],
    fun hs => k.bad (h.bad hs), fun hs => k.err (h.err hs)⟩

theorem State.PairStep.walked (core : Nat) (h : s.PairStep t) : s.Walked core 0 0 t :=
  ⟨h.touches.mono fun _ => List.mem_cons_of_mem _, fun o ho => by rw [h.stays.regs o ho, pairCount_zero, add_zero], h.bad, h.err⟩

theorem State.setCore_walked (s : State) (core k : Nat) (C : Core) : s.Walked core 0 0 (s.setCore k C) :=
  ⟨(s.setCore_touches k C).mono (by decide), fun o _ => by rw [pairCount_zero, add_zero]; rfl, id, id⟩

theorem State.Walked.sound (h : s.Walked core a b t) (hs : s.memSound) : t.memSound := by
  refine hs.of_same (h.touches .memBadNear (by decide)) h.bad (h.touches .memNearErr (by decide)) h.err
    (h.touches .memBurstBad (by decide)) (h.touches .memChans (by decide)) fun k hk => ?_
  rw [h.regs _ (seqKept_msOff hk), pairCount, if_neg (by unfold msOff coreOff; omega), if_neg (by unfold msOff coreOff; omega),
    add_zero]

end

/-! ### One streamed block -/

/-- The resident blocks whose pair with streamed block `j` is not skipped (R184). -/
def liveBlocks (slot x : BitVec 512) (j : Nat) : Nat := ((List.range (asT x)).filter fun t => asClass slot x t j ≠ 2).length

section
variable {s : State} (core q : Nat) (x slot : BitVec 512) (j : Nat)

/-- The count of the pairs computed. -/
theorem State.bump_walked_computed (s : State) (a : Nat) : s.Walked core a 0 (s.bump (coreOff core 0x6010) a) := by
  refine ⟨(s.bump_touches _ _).mono (by decide), fun o _ => ?_, id, id⟩
  unfold pairCount
  split
  · next h => rw [h, State.reg_bump_self]
  · next h => rw [State.reg_bump_ne _ _ _ _ h]; split <;> exact (add_zero _).symm

/-- The count of the pairs skipped. -/
theorem State.bump_walked_skipped (s : State) (b : Nat) : s.Walked core 0 b (s.bump (coreOff core 0x6018) b) := by
  refine ⟨(s.bump_touches _ _).mono (by decide), fun o _ => ?_, id, id⟩
  unfold pairCount
  by_cases h : o = coreOff core 0x6018
  · have hne : coreOff core 0x6018 ≠ coreOff core 0x6010 := by unfold coreOff; omega
    rw [h, State.reg_bump_self, if_neg hne, if_pos rfl]
  · rw [State.reg_bump_ne _ _ _ _ h, if_neg h]
    split <;> exact (add_zero _).symm

/-- A block's pairs counted after they were worked on. -/
theorem State.PairStep.counted {v : State} (h : s.PairStep v) (a b : Nat) :
    ((v.bump (coreOff core 0x6010) a).bump (coreOff core 0x6018) b).cores = s.cores ∧
      s.Walked core a b ((v.bump (coreOff core 0x6010) a).bump (coreOff core 0x6018) b) := by
  have hcount := (h.walked core).trans ((State.bump_walked_computed core v a).trans (State.bump_walked_skipped core _ b))
  simp only [Nat.zero_add, Nat.add_zero] at hcount
  exact ⟨h.touches .cores (by decide), hcount⟩

/-- A block of a linear source over sound memory is staged. -/
theorem State.stageBlock_of_sound (hsound : s.memSound) (hlinear : asPaged x = false) :
    ∃ u, s.stageBlock core x slot j = (u, .done) ∧ s.PairStep u := by
  have hfetch : s.fetchLinear core x j = (s.countFetch core (asBlockBytes x), .done,
      s.near (asSrc x + (j - asStrFirst x) * asBlockBytes x) (asBlockBytes x)) := by
    simp only [State.fetchLinear, State.readNear_of_sound hsound, if_true]
  refine ⟨_, by simp only [State.stageBlock, hlinear, Bool.false_eq_true, if_false, hfetch]; rfl, ?_⟩
  exact ((s.countFetch_pairStep core _).trans (State.putTile_pairStep _ core _ _)).trans (State.stageTags_pairStep _ core x j _)

/-- A block of a linear source over sound memory is done: every pair of it computed or skipped. -/
theorem State.asBlock_of_sound (hsound : s.memSound) (hlinear : asPaged x = false) :
    ∃ u, s.asBlock core q x slot j = (u, .done) ∧ u.cores = s.cores ∧
      s.Walked core (liveBlocks slot x j * asH x) ((asT x - liveBlocks slot x j) * asH x) u := by
  unfold State.asBlock
  dsimp only
  split
  · next hempty =>
    have hlive : liveBlocks slot x j = 0 := by rw [liveBlocks, List.isEmpty_iff.1 hempty]; rfl
    have hcount := ((s.bump_pairStep (not_seqKept_coreOff (o := 0x6020) (by decide) core) 1).walked core).trans
      (State.bump_walked_skipped core _ ((asT x - liveBlocks slot x j) * asH x))
    have hnone : liveBlocks slot x j * asH x = 0 := by rw [hlive, Nat.zero_mul]
    simp only [Nat.zero_add] at hcount
    exact ⟨_, rfl, rfl, hnone ▸ hcount⟩
  · have hmeet := State.meetTile_of_sound hsound.2.1 hsound.2.2.2.1 core (asBlockReads slot x j)
    obtain ⟨u, hu, hstep⟩ := State.stageBlock_of_sound core x slot j hsound hlinear
    simp only [hmeet, ne_eq, not_true_eq_false, if_false, hu]
    have hpairs (e : Nat) : s.PairStep (((u.charge core (s.asTagPhase core x) e).asPairs core q x slot j).seqCounters core) :=
      ((hstep.trans (u.charge_pairStep core (s.asTagPhase_lt x core) _)).trans
        (State.asPairs_pairStep _ core q x slot j)).trans (State.seqCounters_pairStep _ core)
    exact ⟨_, rfl, (hpairs _).counted core _ _⟩

end
end Sys2Proof.Machine
end

section
/-! SUPPORT. Walks over streamed blocks of a linear source that no yield stops (R187, R195, R196, R198, R202). -/

namespace Sys2Proof.Machine

/-- The pairs computed by a walk over `n` streamed blocks from `first` on. -/
def walkComputed (slot x : BitVec 512) (first n : Nat) : Nat :=
  ((List.range n).map fun i => liveBlocks slot x (first + i) * asH x).sum

/-- The pairs skipped by a walk over `n` streamed blocks from `first` on. -/
def walkSkipped (slot x : BitVec 512) (first n : Nat) : Nat :=
  ((List.range n).map fun i => (asT x - liveBlocks slot x (first + i)) * asH x).sum

theorem sum_range_shift (f : Nat → Nat) (first n : Nat) :
    ((List.range (n + 1)).map fun i => f (first + i)).sum = f first + ((List.range n).map fun i => f (first + 1 + i)).sum := by
  have hshift : (fun i => f (first + i)) ∘ Nat.succ = fun i => f (first + 1 + i) := by
    funext i
    exact congrArg f (by omega)
  rw [List.range_succ_eq_map, List.map_cons, List.map_map, hshift, List.sum_cons, Nat.add_zero]

section
variable {s : State} {core q : Nat} {x : BitVec 512}

/-- The end of a walk over sound memory completes it with OK. -/
theorem State.asFinish_of_sound (hsound : s.memSound) :
    ∃ u, s.asFinish core q x = (u, some (.ok, true)) ∧ s.Walked core 0 0 u ∧ (u.core core).walk = none := by
  have hbusy := (s.busyFor_pairStep (not_seqKept_coreOff (o := 0x6028) (by decide) core)).walked core
  have hdone {v : State} (h : s.Walked core 0 0 v) : s.Walked core 0 0 (v.asDone core) := h.trans (v.setCore_walked core core _)
  obtain ⟨-, hbad, -, herr, -⟩ := hbusy.sound hsound
  unfold State.asFinish
  dsimp only
  split
  · simp only [State.meetTile_of_sound hbad herr, ne_eq, not_true_eq_false, if_false]
    exact ⟨_, rfl, hdone (hbusy.trans ((State.asFin_pairStep _ core q x).walked core)), State.walk_asDone _ core⟩
  · exact ⟨_, rfl, hdone hbusy, State.walk_asDone _ core⟩

/-- A walk that stands at its end finishes. -/
theorem State.asGo_of_end (fuel : Nat) (h : asEnd x ≤ (s.asWalk core).next) : State.asGo fuel s core q x = s.asFinish core q x := by
  cases fuel with
  | zero => rw [State.asGo, if_pos h]
  | succ k => rw [State.asGo]; simp only [h, if_true]

/-- A walk works on the block it stands at and goes on from the next one, unless it must stop there. -/
theorem State.asGo_of_done {fuel : Nat} {u : State} (hlt : (s.asWalk core).next < asEnd x)
    (hblock : s.asBlock core q x (s.asWalk core).slot (s.asWalk core).next = (u, .done)) (hyield : (u.core core).yieldPending = false) :
    State.asGo (fuel + 1) s core q x =
      State.asGo fuel (u.setWalk core { u.asWalk core with next := (s.asWalk core).next + 1 }) core q x := by
  rw [State.asGo]
  simp only [Nat.not_le.2 hlt, if_false, hblock, State.core_setWalk, hyield, Bool.false_and, Bool.false_eq_true]

/-- A walk over a linear source and sound memory that no yield stops runs to its end. -/
theorem State.asGo_of_sound (n : Nat) {fuel : Nat} {w : AsWalk} (hsound : s.memSound) (hlinear : asPaged x = false)
    (hwalk : (s.core core).walk = some w) (hyield : (s.core core).yieldPending = false) (hend : asEnd x = w.next + n) (hfuel : n ≤ fuel) :
    ∃ u, State.asGo fuel s core q x = (u, some (.ok, true)) ∧
      s.Walked core (walkComputed w.slot x w.next n) (walkSkipped w.slot x w.next n) u ∧ (u.core core).walk = none := by
  induction n generalizing s fuel w with
  | zero =>
    have hw : s.asWalk core = w := by simp [State.asWalk, hwalk]
    rw [State.asGo_of_end fuel (by rw [hw, hend]; exact Nat.le_refl _)]
    exact State.asFinish_of_sound hsound
  | succ n ih =>
    obtain ⟨k, rfl⟩ := Nat.exists_eq_add_of_le' (Nat.lt_of_lt_of_le (Nat.succ_pos n) hfuel)
    have hw : s.asWalk core = w := by simp [State.asWalk, hwalk]
    obtain ⟨v, hv, hcores, hblock⟩ := State.asBlock_of_sound core q x w.slot w.next hsound hlinear
    have hcore : v.core core = s.core core := by rw [State.core, hcores]; rfl
    have hvw : v.asWalk core = w := by simp [State.asWalk, hcore, hwalk]
    have hgo : State.asGo (k + 1) s core q x = State.asGo k (v.setWalk core { w with next := w.next + 1 }) core q x := by
      rw [State.asGo_of_done (u := v) (by rw [hw]; omega) (by rw [hw]; exact hv) (by rw [hcore]; exact hyield), hw, hvw]
    have hnext := hblock.trans (v.setCore_walked core core { v.core core with walk := some { w with next := w.next + 1 } })
    obtain ⟨u, hu, hrest, hnone⟩ := ih (s := v.setWalk core { w with next := w.next + 1 }) (fuel := k)
      (w := { w with next := w.next + 1 }) (hnext.sound hsound) (by rw [State.core_setWalk])
      (by rw [State.core_setWalk, hcore]; exact hyield) (by dsimp only; omega) (by omega)
    have hall := hnext.trans hrest
    rw [walkComputed, walkSkipped, sum_range_shift fun j => liveBlocks w.slot x j * asH x,
      sum_range_shift fun j => (asT x - liveBlocks w.slot x j) * asH x]
    exact ⟨u, hgo.trans hu, hall, hnone⟩

end

/-! ### A walk's item -/

section
variable {s : State} {n q : Nat} {x : BitVec 512}

/-- The work of a walk that may begin. -/
theorem runAttn_walk (hop : asOp x ≤ 3) :
    State.runAttn n s q x = State.asGo n (s.asStart (s.queue q).core q x) (s.queue q).core q x := by
  unfold State.runAttn
  split
  · omega
  · omega
  · omega
  · rfl

/-- On an idle sequencer a walk begins its bookkeeping, and its accumulators and records unless it continues one. -/
theorem State.asStart_walk {core : Nat} (hidle : (s.core core).walk = none) :
    (s.asStart core q x).core core = { s.core core with walk := some (s.walkStart q x) } ∧ s.Walked core 0 0 (s.asStart core q x) := by
  have hset : s.Walked core 0 0 (s.setWalk core (s.walkStart q x)) := s.setCore_walked core core _
  rw [State.asStart_of_idle hidle]
  split
  · have hinit := (s.setWalk core (s.walkStart q x)).asInit_pairStep core q x
    exact ⟨(hinit.touches.core (by decide) core).trans (s.core_setWalk core _), hset.trans (hinit.walked core)⟩
  · exact ⟨s.core_setWalk core _, hset⟩

theorem attnMine_of_op {op : Nat} (h : asOp x = op) : attnMine op x = true := by simp [attnMine, h]

/-- A walk over a linear source and sound memory that no yield stops: the item is complete and its pairs are counted. -/
theorem attn_walk {c : Instr} (hc : engineOf c = some (attnEngine n, q, attnMine (asOp x))) (hop : asOp x ≤ 3) (hq : isQueue q = true)
    (hbegin : s.mayBegin (attnEngine n) q x) (hsound : s.memSound) (hlinear : asPaged x = false)
    (hyield : (s.core (s.queue q).core).yieldPending = false) (hn : asStrCount x ≤ n) :
    let core := (s.queue q).core
    let slot := s.slot (asSlot x)
    ∃ t, exec c s = .next t ∧ (t.queue q).held = none ∧ (t.core core).walk = none ∧
      s.Touches (.cores :: pairParts ++ .pwr :: wakeParts) t ∧ t.reg (coreOff core 0x6008) = s.reg (coreOff core 0x6008) + 1 ∧
      t.reg (coreOff core 0x6010) =
        s.reg (coreOff core 0x6010) + BitVec.ofNat 64 (walkComputed slot x (asStrFirst x) (asStrCount x)) ∧
      t.reg (coreOff core 0x6018) =
        s.reg (coreOff core 0x6018) + BitVec.ofNat 64 (walkSkipped slot x (asStrFirst x) (asStrCount x)) := by
  intro core slot
  generalize hcharged : (attnEngine n).charged s q x = r
  have hrtouches : s.Touches [.regs, .pwr, .qs] r := hcharged ▸ (attnEngine n).charged_touches s q x
  have hrstays : s.SeqStays r := hcharged ▸ attnEngine_charged_stays s n q x
  have hrsound : r.memSound := hcharged ▸ attnEngine_charged_sound s n q x hsound
  have hrqueue : r.queue q = s.queue q := hcharged ▸ (attnEngine n).queue_charged s q x q
  have hrcore : r.core core = s.core core := hrtouches.core (by decide) core
  have hrslot : (r.walkStart q x).slot = slot := congrArg (fun m : TierSt => Store.get 0 m.slots (asSlot x)) (hrtouches .tier (by decide))
  have hridle : (r.core core).walk = none := by rw [hrcore]; exact idle_of_mayBegin n hbegin
  obtain ⟨hstart, hstartWalked⟩ := State.asStart_walk (q := q) (x := x) hridle
  obtain ⟨u, hu, hwalked, hnone⟩ := State.asGo_of_sound (q := q) (asStrCount x) (hstartWalked.sound hrsound) hlinear
    (by rw [hstart]) (by rw [hstart]; exact (congrArg Core.yieldPending hrcore).trans hyield) rfl hn
  have hall := hstartWalked.trans hwalked
  rw [hrslot, Nat.zero_add, Nat.zero_add] at hall
  have hrun : (attnEngine n).run ((attnEngine n).charged s q x) q x = (u, some (.ok, true)) := by
    rw [hcharged]
    change State.runAttn n r q x = _
    rw [runAttn_walk hop, hrqueue]
    exact hu
  obtain ⟨htouches, hheld, hwalk, hregs⟩ := attn_ends n hbegin hrun (by rw [hcharged]; exact (hall.touches .qs (by decide)).symm)
  have hreg {o : Nat} (ho : o % 0x10000 = 0x6008 ∨ o % 0x10000 = 0x6010 ∨ o % 0x10000 = 0x6018) :
      ((attnEngine n).begin s q x).reg (coreOff core o) = s.reg (coreOff core o) +
        pairCount core (walkComputed slot x (asStrFirst x) (asStrCount x)) (walkSkipped slot x (asStrFirst x) (asStrCount x))
          (coreOff core o) + if coreOff core o = coreOff core 0x6008 then 1 else 0 :=
    have hkept : SeqKept (coreOff core o) := Or.inr (by unfold coreOff; omega)
    (hregs _ hkept).trans (by rw [hall.regs _ hkept, hrstays.regs _ hkept]; rfl)
  refine ⟨_, exec_of_mayBegin hc hq hbegin (attnMine_of_op rfl), hheld, (hwalk core).trans hnone, ?_, ?_, ?_, ?_⟩
  · exact ((hrtouches.mono (by decide)).trans (hall.touches.mono (by decide))).trans (htouches.mono (by decide))
  · rw [hreg (by decide)]
    simp [pairCount, coreOff]
  · rw [hreg (by decide)]
    simp [pairCount, coreOff]
  · rw [hreg (by decide)]
    simp [pairCount, coreOff]

end
end Sys2Proof.Machine
end

section
/-! SUPPORT. A request to yield (R202, R226). -/

namespace Sys2Proof.Machine

theorem exec_yield {core : Nat} (hcore : isCore core = true) (s : State) : exec (.yield core) s = .next (s.askYield core) :=
  (congrArg (fun b => ifUnit b "core" (s.askYield core)) hcore).trans (ifUnit_true _ _)

/-- With no item under way a request to yield does nothing. -/
theorem State.askYield_of_idle {s : State} {core : Nat} (h : (s.core core).walk = none) : s.askYield core = s := by
  simp [State.askYield, h]

theorem State.askYield_of_walk {s : State} {core : Nat} {w : AsWalk} (h : (s.core core).walk = some w) :
    s.askYield core = s.setCore core { s.core core with yieldPending := true } := by
  simp [State.askYield, h]

theorem State.setCore_rest (s : State) (core : Nat) (C : Core) : { s.setCore core C with cores := s.cores } = s := rfl

theorem yield_walk {s : State} {core : Nat} {w : AsWalk} (hcore : isCore core = true) (h : (s.core core).walk = some w) :
    ∃ t, exec (.yield core) s = .next t ∧ (t.core core).yieldPending = true ∧ (t.core core).walk = some w ∧
      (∀ k, k ≠ core → t.core k = s.core k) ∧ { t with cores := s.cores } = s := by
  refine ⟨_, (exec_yield hcore s).trans (congrArg _ (State.askYield_of_walk h)), ?_, ?_, fun k hk => ?_, s.setCore_rest core _⟩
  · rw [State.core_setCore_self]
  · rw [State.core_setCore_self, h]
  · rw [State.core_setCore, if_neg hk]

end Sys2Proof.Machine
end

section
/-! SUPPORT. The items that work on pages of a pool, as they begin (R186, R219, R224, R225). -/

namespace Sys2Proof.Machine

/-! ### The begin -/

section
variable (s : State) (q : Nat) (x : BitVec 512)

/-- The state in which the work of an item on pages begins. -/
def State.pagesBegun : State :=
  ((attnEngine 0).charged s q x).setWalk (s.queue q).core (((attnEngine 0).charged s q x).walkStart q x)

theorem State.charge_eq (core h e : Nat) : ∃ R P, s.charge core h e = { s with regs := R, pwr := P } := ⟨_, _, rfl⟩

theorem EngineOps.charged_eq (E : EngineOps) : ∃ R P Q, E.charged s q x = { s with regs := R, pwr := P, qs := Q } := by
  unfold EngineOps.charged
  dsimp only
  obtain ⟨R, P, h⟩ := s.charge_eq (s.queue q).core (E.est s (s.queue q).core x).2
    (s.energy (E.est s (s.queue q).core x).1 (E.est s (s.queue q).core x).2)
  rw [h]
  exact ⟨R, P, _, rfl⟩

/-- An item on pages begins with the memories and the pools as they are. -/
theorem State.pagesBegun_eq : ∃ R P Q C, s.pagesBegun q x = { s with regs := R, pwr := P, qs := Q, cores := C } := by
  obtain ⟨R, P, Q, h⟩ := EngineOps.charged_eq s q x (attnEngine 0)
  rw [State.pagesBegun, h]
  exact ⟨R, P, Q, _, rfl⟩

theorem State.pagesBegun_touches : s.Touches [.regs, .pwr, .qs, .cores] (s.pagesBegun q x) :=
  (((attnEngine 0).charged_touches s q x).mono (by decide)).trans ((State.setWalk_touches _ _ _).mono (by decide))

theorem State.asWalk_pagesBegun : ((s.pagesBegun q x).asWalk (s.queue q).core) = ((attnEngine 0).charged s q x).walkStart q x :=
  State.asWalk_setWalk _ _ _

theorem State.slot_asWalk_pagesBegun : ((s.pagesBegun q x).asWalk (s.queue q).core).slot = s.slot (asSlot x) := by
  rw [State.asWalk_pagesBegun]
  exact congrArg (fun m : TierSt => Store.get 0 m.slots (asSlot x)) (((attnEngine 0).charged_touches s q x) .tier (by decide))

theorem State.pagesBegun_sound (h : s.memSound) : (s.pagesBegun q x).memSound :=
  (attnEngine_charged_sound s 0 q x h).of_mem ((State.setWalk_touches _ _ _).mem (by decide))
    fun o _ => (State.setWalk_touches _ _ _).reg (by decide) o

variable {s q x}

/-- An item on pages begins on its queue's core with its bookkeeping alone. -/
theorem asStart_pages (hbegin : s.mayBegin (attnEngine 0) q x) (hop : 3 < asOp x) :
    ((attnEngine 0).charged s q x).asStart (s.queue q).core q x = s.pagesBegun q x := by
  have hidle : (((attnEngine 0).charged s q x).core (s.queue q).core).walk = none := by
    rw [((attnEngine 0).charged_touches s q x).core (by decide)]
    exact idle_of_mayBegin 0 hbegin
  rw [State.asStart_of_idle hidle, decide_eq_false (Nat.not_le.2 hop)]
  rfl

theorem run_append (hbegin : s.mayBegin (attnEngine 0) q x) (hop : asOp x = 4) :
    (attnEngine 0).run ((attnEngine 0).charged s q x) q x = (s.pagesBegun q x).runAppend (s.queue q).core x := by
  change State.runAttn 0 _ q x = _
  simp only [State.runAttn, asStart_pages hbegin (by omega), hop, (attnEngine 0).queue_charged s q x q]

theorem run_prefetch (hbegin : s.mayBegin (attnEngine 0) q x) (hop : asOp x = 5) :
    (attnEngine 0).run ((attnEngine 0).charged s q x) q x = (s.pagesBegun q x).runPrefetch (s.queue q).core x := by
  change State.runAttn 0 _ q x = _
  simp only [State.runAttn, asStart_pages hbegin (by omega), hop, (attnEngine 0).queue_charged s q x q]

theorem run_release (hbegin : s.mayBegin (attnEngine 0) q x) (hop : asOp x = 6) :
    (attnEngine 0).run ((attnEngine 0).charged s q x) q x = (s.pagesBegun q x).runRelease (s.queue q).core x := by
  change State.runAttn 0 _ q x = _
  simp only [State.runAttn, asStart_pages hbegin (by omega), hop, (attnEngine 0).queue_charged s q x q]

/-- An item on pages whose work ends with OK: the memories and the pools are as its work left them, the queue holds nothing, and the
sequencer is idle where the work left it so. -/
theorem attn_pages_ends {c : Instr} {op : Nat} (hc : engineOf c = some (attnEngine 0, q, attnMine op)) (hq : isQueue q = true)
    (hbegin : s.mayBegin (attnEngine 0) q x) (hop : asOp x = op) {u : State}
    (hrun : (attnEngine 0).run ((attnEngine 0).charged s q x) q x = (u, some (.ok, true)))
    (hqs : (s.pagesBegun q x).qs = u.qs) :
    ∃ t, exec c s = .next t ∧ (t.queue q).held = none ∧ u.Touches wakeParts t ∧ ∀ k, (t.core k).walk = (u.core k).walk := by
  obtain ⟨htouches, hheld, hwalks, -⟩ := attn_ends 0 hbegin hrun hqs
  exact ⟨_, exec_of_mayBegin hc hq hbegin (attnMine_of_op hop), hheld, htouches, hwalks⟩

end

end Sys2Proof.Machine
end

section
/-! SUPPORT. PREFETCH and RELEASE on pages of a pool (R218, R224, R225). -/

namespace Sys2Proof.Machine

/-! ### Pins -/

section
variable {α : Type} {d v : α} {m : Store α} {k : Nat} {e : Nat × α}

theorem Store.mem_of_mem_dropAt (h : e ∈ Store.dropAt d k m) : e ∈ m ∨ e = (k, d) := by
  cases m with
  | nil => exact .inl h
  | cons b rest =>
    simp only [Store.dropAt] at h
    split at h
    · exact .inl h
    · exact (List.mem_cons.1 h).symm

theorem Store.mem_of_mem_drop (h : e ∈ Store.drop d m k) : e ∈ m ∨ e = (k, d) := by
  induction m with
  | nil => exact .inl h
  | cons b rest ih =>
    unfold Store.drop at h
    split at h
    · next hk => exact (Store.mem_of_mem_dropAt h).imp (List.mem_cons_of_mem _) fun h => hk ▸ h
    split at h
    · exact .inl h
    · exact (List.mem_cons.1 h).elim (fun h => .inl (h ▸ List.mem_cons_self)) fun h => (ih h).imp_left (List.mem_cons_of_mem _)

theorem Store.mem_of_mem_put (h : e ∈ Store.put m k v) : e ∈ m ∨ e = (k, v) := by
  induction m with
  | nil => exact .inr (List.mem_singleton.1 h)
  | cons b rest ih =>
    unfold Store.put at h
    split at h
    · exact (List.mem_cons.1 h).symm.imp_left (List.mem_cons_of_mem _)
    split at h
    · exact (List.mem_cons.1 h).symm
    · exact (List.mem_cons.1 h).elim (fun h => .inl (h ▸ List.mem_cons_self)) fun h => (ih h).imp_left (List.mem_cons_of_mem _)

/-- What is listed after a write was listed before it, or is what was written. -/
theorem Store.mem_of_mem_set [DecidableEq α] (h : e ∈ Store.set d m k v) : e ∈ m ∨ e = (k, v) := by
  unfold Store.set at h
  split at h
  · next hv => exact hv ▸ Store.mem_of_mem_drop h
  · exact Store.mem_of_mem_put h

end

/-- A core whose sequencer has no APPEND under way. -/
def Core.appendsNothing (C : Core) : Prop := ∀ w, C.walk = some w → asOp w.item ≠ 4

/-- A page that no append needs is needed by none after a core was given no append to do. -/
theorem State.kvPins_setCore {s : State} {core : Nat} {C : Core} {g : KvPage} (hpins : s.kvPins g = 0) (hC : C.appendsNothing) :
    (s.setCore core C).kvPins g = 0 := by
  unfold State.kvPins at hpins ⊢
  rw [List.length_eq_zero_iff, List.filter_eq_nil_iff] at hpins ⊢
  intro e he
  obtain hold | rfl := Store.mem_of_mem_set he
  · exact hpins e hold
  · dsimp only
    split
    · next w hw => simp [show fld w.item 507 504 ≠ 4 from hC w hw]
    · exact Bool.false_ne_true

/-! ### RELEASE -/

theorem State.slotAdd_touches (s : State) (n hi lo : Nat) (d : Int) : s.Touches [.tier] (s.slotAdd n hi lo d) := touches_tier s _

/-- What a freed near page leaves: its frame and its entry free. -/
theorem State.kvFreePage_near {s : State} {pool n : Nat} {g : KvPage} (hframe : s.kvFrameOf pool g = some n)
    (hpte : g.pte + 8 ≤ 0xBF00000000) :
    let t := s.kvFreePage pool g
    s.Touches [.memNear, .tier] t ∧ t.kvFrame pool n = none ∧ t.kvPageState g = 0 := by
  have hfree : s.kvFreePage pool g = ((s.setKvFrame pool n none).setKvPte g 0 0).slotAdd g.slot 255 224 (-1) := by
    simp only [State.kvFreePage, hframe]
  rw [hfree]
  refine ⟨?_, ?_, ?_⟩
  · exact ((s.setKvFrame_touches pool n none).trans ((State.setKvPte_touches _ g 0 0).mono (by decide))).trans
      ((State.slotAdd_touches _ _ _ _ _).mono (by decide))
  · rw [State.kvFrame_slotAdd, State.kvFrame_setKvPte, State.kvFrame_setKvFrame]
  · rw [State.kvPageState_slotAdd, State.kvPageState_setKvPte _ _ (by decide) hpte]

/-- A RELEASE of one page that is near and not pinned frees it. -/
theorem State.runRelease_of_near {v : State} {core n : Nat} {x slot : BitVec 512} {g : KvPage} {f : KvFrame}
    (hslot : (v.asWalk core).slot = slot)
    (hpages : (v.kvPages (slPool slot) (asSlot x)).filter
      (fun g => decide (64 * asStrFirst x ≤ g.page * 2 ^ plPageLog2 (v.pool (slPool slot)))) = [g])
    (hcoming : v.kvComing g = false) (hstate : v.kvPageState g = 1) (hframe : v.kvFrameOf (slPool slot) g = some n)
    (hf : v.kvFrame (slPool slot) n = some f) (hpinned : v.kvPinned f = false) :
    v.runRelease core x = ((v.asDone core).kvFreePage (slPool slot) g, some (.ok, true)) := by
  have hpins : (v.asDone core).kvPinned f = false := by
    simp only [State.kvPinned, Bool.or_eq_false_iff, decide_eq_false_iff_not, not_not] at hpinned ⊢
    exact ⟨hpinned.1, State.kvPins_setCore hpinned.2 (fun w hw => nomatch hw)⟩
  have hcoming' : (v.asDone core).kvComing g = false := hcoming
  have hstate' : (v.asDone core).kvPageState g = 1 := hstate
  have hframe' : (v.asDone core).kvFrameOf (slPool slot) g = some n := hframe
  have hf' : (v.asDone core).kvFrame (slPool slot) n = some f := hf
  simp [State.runRelease, hslot, hpages, hcoming', hstate', hframe', hf', hpins]

section
variable {s : State} {q : Nat} {x : BitVec 512}

/-- A frame that is not pinned is not pinned by an item that begins, unless it appends. -/
theorem State.kvPinned_pagesBegun {f : KvFrame} (h : s.kvPinned f = false) (hop : asOp x ≠ 4) : (s.pagesBegun q x).kvPinned f = false := by
  obtain ⟨R, P, Q, hcharged⟩ := EngineOps.charged_eq s q x (attnEngine 0)
  have hpins : ((attnEngine 0).charged s q x).kvPins f.page = s.kvPins f.page := by rw [hcharged]; rfl
  simp only [State.kvPinned, Bool.or_eq_false_iff, decide_eq_false_iff_not, not_not] at h ⊢
  refine ⟨h.1, State.kvPins_setCore (hpins.trans h.2) fun w hw => ?_⟩
  cases hw
  exact hop

theorem State.kvFrame_congr {t u : State} (h : t.tier = u.tier) (pool n : Nat) : t.kvFrame pool n = u.kvFrame pool n :=
  congrArg (fun m : TierSt => Store.get none m.kvFrames (kvKey pool n)) h

theorem attn_release {n : Nat} {g : KvPage} {f : KvFrame} (hq : isQueue q = true)
    (hbegin : s.mayBegin (attnEngine 0) q x) (hop : asOp x = 6)
    (hpages : (s.kvPages (slPool (s.slot (asSlot x))) (asSlot x)).filter
      (fun g => decide (64 * asStrFirst x ≤ g.page * 2 ^ plPageLog2 (s.pool (slPool (s.slot (asSlot x)))))) = [g])
    (hcoming : s.kvComing g = false) (hstate : s.kvPageState g = 1) (hframe : s.kvFrameOf (slPool (s.slot (asSlot x))) g = some n)
    (hf : s.kvFrame (slPool (s.slot (asSlot x))) n = some f) (hpinned : s.kvPinned f = false) (hpte : g.pte + 8 ≤ 0xBF00000000) :
    ∃ t, exec (.release q) s = .next t ∧ (t.queue q).held = none ∧ t.kvFrame (slPool (s.slot (asSlot x))) n = none ∧
      t.kvPageState g = 0 := by
  have hslot := s.slot_asWalk_pagesBegun q x
  have hpinned' : (s.pagesBegun q x).kvPinned f = false := State.kvPinned_pagesBegun hpinned (by omega)
  obtain ⟨R, P, Q, C, hv⟩ := s.pagesBegun_eq q x
  have hrun : (s.pagesBegun q x).runRelease (s.queue q).core x =
      (((s.pagesBegun q x).asDone (s.queue q).core).kvFreePage (slPool (s.slot (asSlot x))) g, some (.ok, true)) := by
    rw [hv] at hslot hpinned' ⊢
    exact State.runRelease_of_near hslot hpages hcoming hstate hframe hf hpinned'
  have hframe' : ((s.pagesBegun q x).asDone (s.queue q).core).kvFrameOf (slPool (s.slot (asSlot x))) g = some n := by
    rw [hv]
    exact hframe
  obtain ⟨hfree, hnone, hzero⟩ := State.kvFreePage_near hframe' hpte
  have hqs := (hfree .qs (by decide)).trans (State.asDone_touches (s.pagesBegun q x) (s.queue q).core .qs (by decide))
  obtain ⟨t, ht, hheld, htouches, -⟩ := attn_pages_ends (c := .release q) rfl hq hbegin hop
    ((run_release hbegin hop).trans hrun) hqs.symm
  exact ⟨t, ht, hheld, (State.kvFrame_congr (htouches .tier (by decide)) _ n).trans hnone,
    (State.kvPageState_congr (htouches.near (by decide) (by decide) _ _)).1.trans hzero⟩

end

/-! ### PREFETCH -/

theorem foldl_of_fixed {α β : Type} {f : α → β → α} {a : α} {l : List β} (h : ∀ b ∈ l, f a b = a) : l.foldl f a = a := by
  induction l with
  | nil => rfl
  | cons b rest ih =>
    rw [List.foldl_cons, h b List.mem_cons_self]
    exact ih fun c hc => h c (List.mem_cons_of_mem _ hc)

/-- A page on whose way no frame is, and whose frame has no pin of a PREFETCH and no recall, is not pinned anew. -/
theorem State.kvPinComing_of_near {s : State} {pool : Nat} {g : KvPage} (t : Nat) (hcoming : s.kvComing g = false)
    (hframe : ∀ n f, s.kvFrameOf pool g = some n → s.kvFrame pool n = some f →
      f.useBy = none ∧ s.tier.kvMoves.any (KvMove.recalls pool n) = false) : s.kvPinComing pool g t = s := by
  have hmap {F : KvMove → KvMove} (h : ∀ v ∈ s.tier.kvMoves, F v = v) : s.tier.kvMoves.map F = s.tier.kvMoves :=
    (List.map_congr_left h).trans (List.map_id _)
  have hnext (v : KvMove) (hv : v ∈ s.tier.kvMoves) :
      ∀ p f vic far next src useBy, v = .spill p f vic far next src useBy → next ≠ some g := by
    rintro p f vic far next src useBy rfl hg
    exact Bool.false_ne_true (hcoming.symm.trans (List.any_eq_true.2 ⟨_, hv, decide_eq_true hg⟩))
  unfold State.kvPinComing
  dsimp only
  rw [hmap fun v hv => ?_]
  · split
    · next n hn =>
      split
      · next f hf =>
        obtain ⟨huse, hrecall⟩ := hframe n f hn hf
        rw [if_neg (by simp [huse, hrecall])]
      · rfl
    · rfl
  · obtain ⟨p, f, vic, far, next, src, useBy⟩ | ⟨p, f, page, far⟩ := v
    · exact if_neg (hnext _ hv p f vic far next src useBy rfl)
    · rfl

/-- A PREFETCH of pages that are near and on no way, with no pin to renew, has nothing to do. -/
theorem State.runPrefetch_of_near {v : State} {core : Nat} {x slot : BitVec 512} (hslot : (v.asWalk core).slot = slot)
    (hpages : ∀ g ∈ v.prefetchPages x slot, v.kvPageState g = 1 ∧ v.kvComing g = false ∧ g.page < 2 ^ slPagesLog2 slot ∧
      ∀ n f, v.kvFrameOf (slPool slot) g = some n → v.kvFrame (slPool slot) n = some f →
        f.useBy = none ∧ v.tier.kvMoves.any (KvMove.recalls (slPool slot) n) = false) :
    v.runPrefetch core x = (v.asDone core, some (.ok, true)) := by
  have hfew : (v.prefetchPages x slot).any (fun g => decide (2 ^ slPagesLog2 slot ≤ g.page)) = false :=
    List.any_eq_false.2 fun g hg => by simpa using (hpages g hg).2.2.1
  have hready : (v.prefetchPages x slot).any (fun g => v.kvComing g || decide (v.kvPageState g = 3)) = false :=
    List.any_eq_false.2 fun g hg => by
      obtain ⟨hstate, hcoming, -⟩ := hpages g hg
      simp [hstate, hcoming]
  unfold State.runPrefetch
  dsimp only
  rw [hslot, hfew, foldl_of_fixed fun g hg => ?_]
  · simp [hready]
  · obtain ⟨hstate, hcoming, -, hframe⟩ := hpages g hg
    have hnone : (true && decide (v.kvPageState g = 2) && !v.kvComing g) = false := by simp [hstate]
    dsimp only
    rw [hnone]
    cases v.pinUntil x with
    | none => rfl
    | some t => exact congrArg (·, true) (State.kvPinComing_of_near t hcoming hframe)

section
variable {s : State} {q : Nat} {x : BitVec 512}

theorem attn_prefetch_near (hq : isQueue q = true) (hbegin : s.mayBegin (attnEngine 0) q x) (hop : asOp x = 5)
    (hpages : ∀ g ∈ s.prefetchPages x (s.slot (asSlot x)), s.kvPageState g = 1 ∧ s.kvComing g = false ∧
      g.page < 2 ^ slPagesLog2 (s.slot (asSlot x)) ∧
      ∀ n f, s.kvFrameOf (slPool (s.slot (asSlot x))) g = some n → s.kvFrame (slPool (s.slot (asSlot x))) n = some f →
        f.useBy = none ∧ s.tier.kvMoves.any (KvMove.recalls (slPool (s.slot (asSlot x))) n) = false) :
    ∃ t, exec (.prefetch q) s = .next t ∧ (t.queue q).held = none ∧ (t.core (s.queue q).core).walk = none ∧
      t.tier = s.tier ∧ t.mem = s.mem := by
  have hslot := s.slot_asWalk_pagesBegun q x
  obtain ⟨R, P, Q, C, hv⟩ := s.pagesBegun_eq q x
  have hrun : (s.pagesBegun q x).runPrefetch (s.queue q).core x =
      ((s.pagesBegun q x).asDone (s.queue q).core, some (.ok, true)) := by
    rw [hv] at hslot ⊢
    exact State.runPrefetch_of_near hslot hpages
  have hdone := State.asDone_touches (s.pagesBegun q x) (s.queue q).core
  obtain ⟨t, ht, hheld, htouches, hwalks⟩ := attn_pages_ends (c := .prefetch q) rfl hq hbegin hop
    ((run_prefetch hbegin hop).trans hrun) (hdone .qs (by decide)).symm
  have hall := ((s.pagesBegun_touches q x).trans (hdone.mono (by decide))).mono
    (l' := [.regs, .pwr, .qs, .cores, .sync, .media]) (by decide) |>.trans (htouches.mono (by decide))
  exact ⟨t, ht, hheld, (hwalks _).trans (State.walk_asDone _ _), hall .tier (by decide), hall.mem (by decide)⟩

end

/-- A copy of the pool manager under way after the others. -/
def State.withMove (s : State) (v : KvMove) : State := { s with tier.kvMoves := s.tier.kvMoves ++ [v] }

theorem State.kvGive_eq (s : State) (pool n : Nat) (g : KvPage) (far : Nat) (useBy : Option Nat) :
    s.kvGive pool n g (some far) useBy =
      (({ s with free := s.free + 1 }.newKvFrame pool n g true useBy).setKvPte g 3
        ({ s with free := s.free + 1 }.kvAddr pool n)).withMove (.recall pool n g far) := rfl

theorem State.withMove_touches (s : State) (v : KvMove) : s.Touches [.tier] (s.withMove v) := touches_tier s _

@[simp] theorem State.kvFrame_withMove (s : State) (v : KvMove) (pool n : Nat) : (s.withMove v).kvFrame pool n = s.kvFrame pool n := rfl

@[simp] theorem State.kvMoves_withMove (s : State) (v : KvMove) : (s.withMove v).tier.kvMoves = s.tier.kvMoves ++ [v] := rfl

theorem State.newKvFrame_eq (s : State) (pool n : Nat) (g : KvPage) (transit : Bool) (useBy : Option Nat) :
    ∃ la, s.newKvFrame pool n g transit useBy =
      s.setKvFrame pool n (some { page := g, transit := transit, lastAccess := la, useBy := useBy }) := ⟨_, rfl⟩

/-- A free frame given to a page in the far tier: in transit, pinned as it was asked for, and its recall under way. -/
theorem State.kvGive_far (s : State) (pool n : Nat) (g : KvPage) (far : Nat) (useBy : Option Nat) :
    let t := s.kvGive pool n g (some far) useBy
    s.Touches [.free, .memNear, .tier] t ∧ t.tier.kvMoves = s.tier.kvMoves ++ [.recall pool n g far] ∧
      ∃ f, t.kvFrame pool n = some f ∧ f.page = g ∧ f.transit = true ∧ f.useBy = useBy := by
  dsimp only
  obtain ⟨la, hnew⟩ := { s with free := s.free + 1 }.newKvFrame_eq pool n g true useBy
  rw [State.kvGive_eq, hnew]
  have hdrawn : s.Touches [.free] { s with free := s.free + 1 } := touches_free s _
  generalize { s with free := s.free + 1 } = d at hdrawn ⊢
  refine ⟨?_, ?_, { page := g, transit := true, lastAccess := la, useBy := useBy }, ?_, rfl, rfl, rfl⟩
  · exact (((hdrawn.mono (by decide)).trans ((d.setKvFrame_touches pool n _).mono (by decide))).trans
      ((State.setKvPte_touches _ g 3 _).mono (by decide))).trans ((State.withMove_touches _ _).mono (by decide))
  · rw [State.kvMoves_withMove, State.kvMoves_setKvPte, State.kvMoves_setKvFrame, hdrawn .tier (by decide)]
  · rw [State.kvFrame_withMove, State.kvFrame_setKvPte, State.kvFrame_setKvFrame]

/-- A PREFETCH of one page in the far tier, with a frame free for it, gives it the frame and waits for its recall. -/
theorem State.runPrefetch_of_far {v : State} {core n far : Nat} {x slot : BitVec 512} {g : KvPage}
    (hslot : (v.asWalk core).slot = slot) (hpages : v.prefetchPages x slot = [g]) (hpage : g.page < 2 ^ slPagesLog2 slot)
    (hstate : v.kvPageState g = 2) (hcoming : v.kvComing g = false) (hframe : v.kvFreeFrame (slPool slot) = some n)
    (hspill : v.kvSpillOf (slPool slot) g = some far) (hok : v.kvFarOk false (slPool slot) far = true) :
    v.runPrefetch core x = (v.kvGive (slPool slot) n g (some far) (v.pinUntil x), none) := by
  have hask : v.kvAsk (slPool slot) g (some far) (v.pinUntil x) = (v.kvGive (slPool slot) n g (some far) (v.pinUntil x), true) := by
    simp only [State.kvAsk, Option.any_some, hok, Bool.not_true, Bool.false_eq_true, if_false, hframe]
  have hway : (v.kvGive (slPool slot) n g (some far) (v.pinUntil x)).kvComing g = true := by
    rw [State.kvComing, (v.kvGive_far (slPool slot) n g far (v.pinUntil x)).2.1]
    simp
  unfold State.runPrefetch
  dsimp only
  rw [hslot, hpages]
  simp [hpage, hstate, hcoming, hspill, hask, hway]

section
variable {s : State} {q : Nat} {x : BitVec 512}

theorem attn_prefetch_far {n far : Nat} {g : KvPage} (hq : isQueue q = true) (hbegin : s.mayBegin (attnEngine 0) q x) (hop : asOp x = 5)
    (hpages : s.prefetchPages x (s.slot (asSlot x)) = [g]) (hpage : g.page < 2 ^ slPagesLog2 (s.slot (asSlot x)))
    (hstate : s.kvPageState g = 2) (hcoming : s.kvComing g = false) (hframe : s.kvFreeFrame (slPool (s.slot (asSlot x))) = some n)
    (hspill : s.kvSpillOf (slPool (s.slot (asSlot x))) g = some far)
    (hok : s.kvFarOk false (slPool (s.slot (asSlot x))) far = true) :
    let pool := slPool (s.slot (asSlot x))
    ∃ t f, exec (.prefetch q) s = .next t ∧ (t.queue q).held = (s.queue q).held ∧ (t.core (s.queue q).core).walk.isSome = true ∧
      t.tier.kvMoves = s.tier.kvMoves ++ [.recall pool n g far] ∧ t.kvFrame pool n = some f ∧ f.page = g ∧ f.transit = true ∧
      f.useBy = if s.ft.toNat ≤ asUseBy x then some (asUseBy x) else none := by
  intro pool
  have hslot := s.slot_asWalk_pagesBegun q x
  have hbegun := s.pagesBegun_touches q x
  obtain ⟨R, P, Q, C, hv⟩ := s.pagesBegun_eq q x
  have hrun : (s.pagesBegun q x).runPrefetch (s.queue q).core x =
      ((s.pagesBegun q x).kvGive pool n g (some far) (s.pinUntil x), none) := by
    rw [hv] at hslot ⊢
    exact State.runPrefetch_of_far hslot hpages hpage hstate hcoming hframe hspill hok
  obtain ⟨htouches, hmoves, f, hf, hfpage, htransit, huse⟩ := (s.pagesBegun q x).kvGive_far pool n g far (s.pinUntil x)
  have hwork : (attnEngine 0).begin s q x = (s.pagesBegun q x).kvGive pool n g (some far) (s.pinUntil x) := by
    rw [EngineOps.begin_eq, EngineOps.work, run_prefetch hbegin hop, hrun]
  refine ⟨_, f, (exec_of_mayBegin rfl hq hbegin (attnMine_of_op hop)).trans (congrArg _ hwork), ?_, ?_, ?_, hf, hfpage, htransit, huse⟩
  · rw [htouches.queue (by decide)]
    exact congrArg Queue.held ((attnEngine 0).queue_charged s q x q)
  · rw [htouches.core (by decide), State.pagesBegun, State.core_setWalk]
    rfl
  · rw [hmoves, hbegun .tier (by decide)]

end

end Sys2Proof.Machine
end

section
/-! SUPPORT. Writes of near memory that meet no obstacle (R250, R254, R260). -/

namespace Sys2Proof.Machine

theorem storeBytes_append (m : Store Byte) (a : Nat) (l l' : List Byte) :
    storeBytes m a (l ++ l') = storeBytes (storeBytes m a l) (a + l.length) l' := by
  have hcells : cells a (l ++ l') = cells a l ++ cells (a + l.length) l' := by
    induction l generalizing a with
    | nil => rfl
    | cons b rest ih => simp [cells, ih, Nat.add_assoc, Nat.add_comm 1]
  simp only [storeBytes, Store.setAll, hcells, List.foldl_append]

section
variable {s : State}

theorem State.putNear_append (a : Nat) (l l' : List Byte) : s.putNear a (l ++ l') = (s.putNear a l).putNear (a + l.length) l' := by
  simp only [State.putNear, storeBytes_append]

theorem State.putNear_sound (hsound : s.memSound) (a : Nat) (l : List Byte) : (s.putNear a l).memSound := hsound

theorem State.writeBlock_of_sound (hsound : s.memSound) (a : Nat) (l : List Byte) : s.writeBlock a l = (s.putNear a l, .ok) := by
  have hstatus := State.blockStatus_of_sound hsound a
  have hgate : s.blockGate a = (s, .ok) := by simp [State.blockGate, hstatus]
  obtain ⟨hbad, -, herr, -, -, hchans, -⟩ := hsound
  have hround : s.roundOpen a = false := by
    rw [State.roundOpen, State.chan, hchans]
    rfl
  have hseen : s.observeBlock a = s := by simp [State.observeBlock, herr, Store.get]
  have hclear : s.blockBad a = false := by simp [State.blockBad, hbad, Store.get]
  have hwhole : { s.putNear a l with
      mem.badNear := Store.set false s.mem.badNear (a / 64) false
      mem.nearErr := Store.set [] s.mem.nearErr (a / 64) [] } = s.putNear a l := by
    simp only [State.putNear, hbad, herr]
    rfl
  simp only [State.writeBlock, hround, hgate, hseen, hclear, hwhole]
  simp

/-- One block's piece of a plain write, after those before it. -/
def writePiece (acc : State × Status) (p : Nat × List Byte) : State × Status :=
  ((acc.1.writeBlock p.1 p.2).1, acc.2.orElse (acc.1.writeBlock p.1 p.2).2)

theorem State.writeNear_eq (s : State) (a : Nat) (l : List Byte) : s.writeNear a l = (blockPieces l.length a l).foldl writePiece (s, .ok) := rfl

/-- The pieces of an extent, written over sound memory one after the other, put its bytes down. -/
theorem foldl_writePiece_of_sound (fuel : Nat) (hsound : s.memSound) (a : Nat) (l : List Byte) (hl : l.length ≤ fuel) :
    (blockPieces fuel a l).foldl writePiece (s, .ok) = (s.putNear a l, .ok) := by
  induction fuel generalizing s a l with
  | zero =>
    rw [List.eq_nil_of_length_eq_zero (Nat.le_zero.1 hl)]
    rfl
  | succ fuel ih =>
    have hpos : 0 < 64 - a % 64 := by omega
    generalize hk : 64 - a % 64 = k at hpos
    rw [blockPieces, hk]
    split
    · next h =>
      rw [List.isEmpty_iff.1 h]
      rfl
    · next h =>
      have hpiece : writePiece (s, .ok) (a, l.take k) = (s.putNear a (l.take k), .ok) := by
        simp [writePiece, State.writeBlock_of_sound hsound, Status.orElse]
      rw [List.foldl_cons, hpiece, ih (State.putNear_sound hsound a _) _ _ (by rw [List.length_drop]; omega)]
      by_cases hlast : l.length ≤ k
      · rw [List.take_of_length_le hlast, List.drop_of_length_le hlast]
        rfl
      · have hlen : (l.take k).length = k := by rw [List.length_take]; omega
        conv_rhs => rw [← List.take_append_drop k l, State.putNear_append, hlen]

/-- A write over sound memory puts the bytes down. -/
theorem State.writeNear_of_sound (hsound : s.memSound) (a : Nat) (l : List Byte) : s.writeNear a l = (s.putNear a l, .ok) :=
  s.writeNear_eq a l ▸ foldl_writePiece_of_sound l.length hsound a l (Nat.le_refl _)

end
end Sys2Proof.Machine
end

section
/-! SUPPORT. APPEND to pages that are near (R214, R217, R219). -/

namespace Sys2Proof.Machine

/-! ### The frames of pages -/

/-- The frame that holds a page in a list of frames (R216). -/
def frameIn (m : Store (Option KvFrame)) (pool : Nat) (g : KvPage) : Option Nat :=
  ((m.filterMap fun e => if e.1 / 2 ^ 24 = pool then e.2.map fun f => (e.1 % 2 ^ 24, f) else none).find?
    fun e => decide (e.2.page = g)).map (·.1)

theorem State.kvFrameOf_eq (s : State) (pool : Nat) (g : KvPage) : s.kvFrameOf pool g = frameIn s.tier.kvFrames pool g := rfl

theorem frameIn_cons (e : Nat × Option KvFrame) (m : Store (Option KvFrame)) (pool : Nat) (g : KvPage) :
    frameIn (e :: m) pool g =
      if e.1 / 2 ^ 24 = pool ∧ e.2.map KvFrame.page = some g then some (e.1 % 2 ^ 24) else frameIn m pool g := by
  obtain ⟨k, f⟩ := e
  simp only [frameIn, List.filterMap_cons]
  by_cases hk : k / 2 ^ 24 = pool
  · cases f with
    | none => simp only [hk, if_true, Option.map_none, reduceCtorEq, and_false, if_false]
    | some f =>
      by_cases hg : f.page = g
      · simp only [hk, hg, if_true, Option.map_some, List.find?_cons, decide_true, and_self]
      · simp only [hk, hg, if_true, Option.map_some, List.find?_cons, decide_false, Option.some.injEq, and_false, if_false]
  · simp only [hk, if_false, false_and]

/-- A frame in use that changes, but for its page, holds the page still. -/
theorem frameIn_put {m : Store (Option KvFrame)} {k : Nat} {f f' : KvFrame} (hget : Store.get none m k = some f)
    (hpage : f'.page = f.page) (pool : Nat) (g : KvPage) : frameIn (Store.put m k (some f')) pool g = frameIn m pool g := by
  induction m with
  | nil => cases hget
  | cons e rest ih =>
    obtain ⟨a, w⟩ := e
    rw [Store.get] at hget
    rw [Store.put]
    by_cases hka : k = a
    · rw [if_pos hka] at hget ⊢
      rw [frameIn_cons, frameIn_cons, hget, hka]
      simp only [Option.map_some, hpage]
    · rw [if_neg hka] at hget ⊢
      by_cases hlt : k < a
      · rw [if_pos hlt] at hget
        cases hget
      · rw [if_neg hlt] at hget ⊢
        rw [frameIn_cons, frameIn_cons, ih hget]

/-! ### What the pages' frame-table entries do not hold -/

/-- [a, a + n) lies apart from the frame-table entries of the pages of a list. -/
def State.apartFromFrames (s : State) (pool : Nat) (pages : List KvPage) (a n : Nat) : Prop :=
  ∀ g m, g ∈ pages → s.kvFrameOf pool g = some m → overlaps a n (plFtBase (s.pool pool) + 16 * m) 16 = false

/-- The frames of the pages of a list were touched and their table entries written: they hold the pages still, and near memory keeps what
lies apart from those entries. -/
structure State.Retouched (pool : Nat) (pages : List KvPage) (s t : State) : Prop where
  touches : s.Touches [.memNear, .tier] t
  pools : t.tier.pools = s.tier.pools
  slots : t.tier.slots = s.tier.slots
  frameOf : ∀ g, t.kvFrameOf pool g = s.kvFrameOf pool g
  near : ∀ a n, s.apartFromFrames pool pages a n → t.near a n = s.near a n

section
variable {pool : Nat} {pages : List KvPage} {s t u : State}

theorem State.Retouched.refl (s : State) : s.Retouched pool pages s := ⟨.refl _ s, rfl, rfl, fun _ => rfl, fun _ _ _ => rfl⟩

theorem State.Retouched.pool_eq (h : s.Retouched pool pages t) : t.pool pool = s.pool pool := by rw [State.pool, h.pools]; rfl

theorem State.Retouched.apart (h : s.Retouched pool pages t) {a n : Nat} (ha : s.apartFromFrames pool pages a n) :
    t.apartFromFrames pool pages a n := by
  intro g m hg hm
  rw [h.pool_eq]
  exact ha g m hg ((h.frameOf g).symm.trans hm)

theorem State.Retouched.trans (h : s.Retouched pool pages t) (k : t.Retouched pool pages u) : s.Retouched pool pages u :=
  ⟨h.touches.trans k.touches, k.pools.trans h.pools, k.slots.trans h.slots, fun g => (k.frameOf g).trans (h.frameOf g),
    fun a n ha => (k.near a n (h.apart ha)).trans (h.near a n ha)⟩

theorem State.Retouched.sound (h : s.Retouched pool pages t) (hs : s.memSound) : t.memSound :=
  hs.of_same (h.touches .memBadNear (by decide)) (fun hb => (h.touches .memBadTile (by decide)).trans hb)
    (h.touches .memNearErr (by decide)) (fun he => (h.touches .memTileErr (by decide)).trans he) (h.touches .memBurstBad (by decide))
    (h.touches .memChans (by decide)) fun _ _ => h.touches.reg (by decide) _

theorem retouched_foldl {f : State → KvPage → State} (hf : ∀ (t : State) g, g ∈ pages → t.Retouched pool pages (f t g))
    {l : List KvPage} (hl : ∀ g ∈ l, g ∈ pages) (s : State) : s.Retouched pool pages (l.foldl f s) := by
  induction l generalizing s with
  | nil => exact .refl s
  | cons g rest ih =>
    exact (hf s g (hl g List.mem_cons_self)).trans (ih (fun g hg => hl g (List.mem_cons_of_mem _ hg)) (f s g))

variable (s) in
/-- A page's frame with its table entry written. -/
theorem State.kvImage_retouched {g : KvPage} {n : Nat} (hg : g ∈ pages) (hn : s.kvFrameOf pool g = some n) :
    s.Retouched pool pages (s.kvImage pool n) := by
  have htier : (s.kvImage pool n).tier = s.tier := s.kvImage_touches pool n .tier (by decide)
  refine ⟨(s.kvImage_touches pool n).mono (by decide), by rw [htier], by rw [htier], fun g' => ?_, fun a k ha => ?_⟩
  · rw [State.kvFrameOf_eq, htier]
    rfl
  · exact s.near_kvImage_apart pool n (ha g n hg hn)

variable (s) in
theorem State.kvImages_retouched : s.Retouched pool pages (s.kvImages pool pages) := by
  refine retouched_foldl (fun t g hg => ?_) (fun _ => id) s
  split
  · next n hn => exact t.kvImage_retouched hg hn
  · exact .refl t

variable (s) in
theorem State.kvTouch_retouched {g : KvPage} (hg : g ∈ pages) : s.Retouched pool pages (s.kvTouch pool g) := by
  unfold State.kvTouch
  split
  · next n hn =>
    split
    · next f hf =>
      have hframes : ∀ g', (s.withKvFrame pool n (some { f with lastAccess := s.ft.toNat })).kvFrameOf pool g' = s.kvFrameOf pool g' :=
        fun g' => by
          rw [State.kvFrameOf_eq, State.kvFrameOf_eq]
          exact frameIn_put (f' := { f with lastAccess := s.ft.toNat }) hf rfl pool g'
      have hwith : s.Retouched pool pages (s.withKvFrame pool n (some { f with lastAccess := s.ft.toNat })) :=
        ⟨(touches_tier s _).mono (by decide), rfl, rfl, hframes, fun _ _ _ => rfl⟩
      exact hwith.trans (State.kvImage_retouched _ hg ((hframes g).trans hn))
    · exact .refl s
  · exact .refl s

end
end Sys2Proof.Machine
end

section
/-! SUPPORT. The rows of an APPEND (R214, R219). -/

namespace Sys2Proof.Machine

/-! ### Rows put down one after the other -/

section
variable {s : State} {e : Nat} {addr : Nat × Nat → Nat} {bytes : Nat × Nat → List Byte} {l : List (Nat × Nat)}

/-- Rows put down in near memory, one after the other. -/
def State.putRows (s : State) (addr : Nat × Nat → Nat) (bytes : Nat × Nat → List Byte) (l : List (Nat × Nat)) : State :=
  l.foldl (fun t c => t.putNear (addr c) (bytes c)) s

theorem State.putRows_cons (s : State) (addr : Nat × Nat → Nat) (bytes : Nat × Nat → List Byte) (c : Nat × Nat) (l : List (Nat × Nat)) :
    s.putRows addr bytes (c :: l) = (s.putNear (addr c) (bytes c)).putRows addr bytes l := rfl

theorem State.putRows_touches (s : State) (addr : Nat × Nat → Nat) (bytes : Nat × Nat → List Byte) (l : List (Nat × Nat)) :
    s.Touches [.memNear] (s.putRows addr bytes l) := touches_foldl (fun t _ => t.putNear_touches _ _) l s

/-- What lies apart from every row keeps its bytes. -/
theorem State.near_putRows_apart (hlen : ∀ c, (bytes c).length = e) {a n : Nat} (h : ∀ c ∈ l, overlaps a n (addr c) e = false) :
    (s.putRows addr bytes l).near a n = s.near a n := by
  induction l generalizing s with
  | nil => rfl
  | cons c rest ih =>
    rw [State.putRows_cons, ih fun d hd => h d (List.mem_cons_of_mem _ hd)]
    exact s.near_putNear_apart (by rw [hlen]; exact h c List.mem_cons_self)

/-- Rows that lie apart from each other read back as they were put down. -/
theorem State.near_putRows_row (hlen : ∀ c, (bytes c).length = e) (hlow : ∀ c ∈ l, addr c + e ≤ 0xBF00000000)
    (hapart : ∀ c ∈ l, ∀ d ∈ l, c ≠ d → overlaps (addr c) e (addr d) e = false) {c : Nat × Nat} (hc : c ∈ l) :
    (s.putRows addr bytes l).near (addr c) e = bytes c := by
  induction l generalizing s with
  | nil => cases hc
  | cons b rest ih =>
    rw [State.putRows_cons]
    by_cases hmem : c ∈ rest
    · exact ih (fun d hd => hlow d (List.mem_cons_of_mem _ hd))
        (fun d hd d' hd' => hapart d (List.mem_cons_of_mem _ hd) d' (List.mem_cons_of_mem _ hd')) hmem
    · obtain rfl : c = b := (List.mem_cons.1 hc).resolve_right hmem
      rw [State.near_putRows_apart hlen fun d hd => hapart c hc d (List.mem_cons_of_mem _ hd) fun h => hmem (h ▸ hd)]
      exact s.near_putNear_self (hlen c) (hlow c hc)

end

/-! ### The rows of an item -/

/-- The page of a position of a block range is one of those that the range touches. -/
theorem mem_blockPages {log2 first n r : Nat} (hr : r < n) : (64 * first + r) / 2 ^ log2 ∈ blockPages log2 first n := by
  have hlo : 64 * first / 2 ^ log2 ≤ (64 * first + r) / 2 ^ log2 := Nat.div_le_div_right (by omega)
  have hhi : (64 * first + r) / 2 ^ log2 ≤ (64 * first + n - 1) / 2 ^ log2 := Nat.div_le_div_right (by omega)
  rw [blockPages, if_neg (by omega)]
  exact List.mem_map.2 ⟨(64 * first + r) / 2 ^ log2 - 64 * first / 2 ^ log2, List.mem_range.2 (by omega), by omega⟩

/-- The regions and rows of an APPEND. -/
def appendRowList (x : BitVec 512) : List (Nat × Nat) :=
  ((List.range (2 * asHt x)).map fun u => (List.range (asStrLast x)).map fun r => (u, r)).flatten

theorem mem_appendRowList {x : BitVec 512} {c : Nat × Nat} : c ∈ appendRowList x ↔ c.1 < 2 * asHt x ∧ c.2 < asStrLast x := by
  obtain ⟨u, r⟩ := c
  simp [appendRowList]

/-- The page of a row of an APPEND. -/
def State.appendPage (s : State) (slot x : BitVec 512) (r : Nat) : KvPage :=
  kvNamed slot (asSlot x) (asLayer x) (asKvh x) ((64 * asStrFirst x + r) / 2 ^ plPageLog2 (s.pool (slPool slot)))

/-- The bytes that an APPEND puts in a row. -/
def State.appendBytes (s : State) (core : Nat) (slot x : BitVec 512) (c : Nat × Nat) : List Byte :=
  let e := 64 * kvElem (plFmt (s.pool (slPool slot)))
  s.tile core (2048 * (asStgGran x + c.1 * asG x) + e * c.2) e

/-- One row of an APPEND, after those before it; `s` is the state in which the first is written. -/
def State.appendRow (s : State) (core : Nat) (slot x : BitVec 512) (acc : State × Status) (c : Nat × Nat) : State × Status :=
  let P := s.pool (slPool slot)
  let e := 64 * kvElem (plFmt P)
  let r := acc.1.writeNear (acc.1.kvPageAddr (s.appendPage slot x c.2) + kvRow P c.1 (64 * asStrFirst x + c.2))
    (acc.1.tile core (2048 * (asStgGran x + c.1 * asG x) + e * c.2) e)
  (r.1, acc.2.orElse r.2)

section
variable {s : State} (core : Nat) {slot x : BitVec 512}

theorem State.appendRows_eq : s.appendRows core (slPool slot) slot x = (appendRowList x).foldl (s.appendRow core slot x) (s, .ok) := rfl

theorem State.appendPage_mem {r : Nat} (hr : r < asStrLast x) : s.appendPage slot x r ∈ s.appendPages slot x :=
  List.mem_map.2 ⟨_, mem_blockPages hr, rfl⟩

theorem State.length_appendBytes (c : Nat × Nat) :
    (s.appendBytes core slot x c).length = 64 * kvElem (plFmt (s.pool (slPool slot))) := length_loadBytes _ _ _

/-- A row is written over sound memory while its page's entry is as it was. -/
theorem State.appendRow_of_sound {t : State} (hsound : t.memSound) (ht : s.Touches [.memNear] t) {c : Nat × Nat}
    (hpage : t.near (s.appendPage slot x c.2).pte 8 = s.near (s.appendPage slot x c.2).pte 8) :
    s.appendRow core slot x (t, .ok) c = (t.putNear (s.appendAddr slot x c.1 c.2) (s.appendBytes core slot x c), .ok) := by
  have haddr : t.kvPageAddr (s.appendPage slot x c.2) = s.kvPageAddr (s.appendPage slot x c.2) := (State.kvPageState_congr hpage).2
  have htile (off n : Nat) : t.tile core off n = s.tile core off n :=
    congrArg (fun m => loadBytes m (tileKey core off) n) (ht .memTile (by decide))
  simp only [State.appendRow, State.writeNear_of_sound hsound, haddr, htile, Status.orElse, if_true]
  rfl

/-- The rows of an APPEND are put down over sound memory, where they lie apart from their pages' entries. -/
theorem State.foldl_appendRow {t : State} {l : List (Nat × Nat)} (hsound : t.memSound) (ht : s.Touches [.memNear] t)
    (hl : ∀ c ∈ l, c.2 < asStrLast x) (hpages : ∀ g ∈ s.appendPages slot x, t.near g.pte 8 = s.near g.pte 8)
    (happart : ∀ c ∈ l, ∀ g ∈ s.appendPages slot x,
      overlaps (s.appendAddr slot x c.1 c.2) (64 * kvElem (plFmt (s.pool (slPool slot)))) g.pte 8 = false) :
    l.foldl (s.appendRow core slot x) (t, .ok) =
      (t.putRows (fun c => s.appendAddr slot x c.1 c.2) (s.appendBytes core slot x) l, .ok) := by
  induction l generalizing t with
  | nil => rfl
  | cons c rest ih =>
    have hpage := hpages _ (State.appendPage_mem (hl c List.mem_cons_self))
    rw [List.foldl_cons, State.appendRow_of_sound core hsound ht hpage, State.putRows_cons]
    refine ih (State.putNear_sound hsound _ _) (ht.trans (t.putNear_touches _ _)) (fun d hd => hl d (List.mem_cons_of_mem _ hd))
      (fun g hg => ?_) fun d hd => happart d (List.mem_cons_of_mem _ hd)
    rw [State.near_putNear_apart t, hpages g hg]
    rw [State.length_appendBytes, overlaps_comm]
    exact happart c List.mem_cons_self g hg

end
end Sys2Proof.Machine
end

section
/-! SUPPORT. The item APPEND on pages that are near, and O26 (R202, R219). -/

namespace Sys2Proof.Machine

/-! ### What an APPEND finds after frames were touched -/

section
variable {s t : State} {slot x : BitVec 512}

theorem State.apartFromFrames_congr {pool : Nat} {pages : List KvPage} {a n : Nat} (h : t.tier = s.tier)
    (ha : s.apartFromFrames pool pages a n) : t.apartFromFrames pool pages a n := by
  intro g m hg hm
  rw [State.pool, h]
  rw [State.kvFrameOf_eq, h] at hm
  exact ha g m hg hm

/-- The entries of an APPEND's pages lie apart from their frames' table entries. -/
theorem State.appendApart.pages (ha : s.appendApart slot x) {g : KvPage} (hg : g ∈ s.appendPages slot x) :
    s.apartFromFrames (slPool slot) (s.appendPages slot x) g.pte 8 := fun g' n hg' hn => ha.2.2 g g' n hg hg' hn

/-- The rows of an APPEND lie apart from its pages' frames' table entries. -/
theorem State.appendApart.rows (ha : s.appendApart slot x) {u r : Nat} (hu : u < 2 * asHt x) (hr : r < asStrLast x) :
    s.apartFromFrames (slPool slot) (s.appendPages slot x) (s.appendAddr slot x u r) (64 * kvElem (plFmt (s.pool (slPool slot)))) :=
  (ha.2.1 u r hu hr).2.2

variable (h : s.Retouched (slPool slot) (s.appendPages slot x) t)
include h

theorem State.Retouched.appendPages_eq : t.appendPages slot x = s.appendPages slot x := by rw [State.appendPages, h.pool_eq]; rfl

variable (ha : s.appendApart slot x)
include ha

theorem State.Retouched.page {g : KvPage} (hg : g ∈ s.appendPages slot x) :
    t.kvPageState g = s.kvPageState g ∧ t.kvPageAddr g = s.kvPageAddr g :=
  State.kvPageState_congr (h.near g.pte 8 (ha.pages hg))

theorem State.Retouched.appendAddr_eq (u : Nat) {r : Nat} (hr : r < asStrLast x) : t.appendAddr slot x u r = s.appendAddr slot x u r := by
  have haddr : t.kvPageAddr (t.appendPage slot x r) = s.kvPageAddr (s.appendPage slot x r) := by
    rw [State.appendPage, h.pool_eq]
    exact (h.page ha (State.appendPage_mem hr)).2
  have hrow : kvRow (t.pool (slPool slot)) u (64 * asStrFirst x + r) = kvRow (s.pool (slPool slot)) u (64 * asStrFirst x + r) := by
    rw [h.pool_eq]
  exact congrArg₂ (· + ·) haddr hrow

theorem State.Retouched.appendApart : t.appendApart slot x := by
  obtain ⟨hrows, hplace, hentries⟩ := ha
  unfold State.appendApart
  dsimp only
  rw [h.appendPages_eq, h.pool_eq]
  refine ⟨fun u r v w hu hv hr hw hne => ?_, fun u r hu hr => ?_, fun g g' n hg hg' hn => ?_⟩
  · rw [h.appendAddr_eq ⟨hrows, hplace, hentries⟩ u hr, h.appendAddr_eq ⟨hrows, hplace, hentries⟩ v hw]
    exact hrows u r v w hu hv hr hw hne
  · rw [h.appendAddr_eq ⟨hrows, hplace, hentries⟩ u hr]
    obtain ⟨hlow, hpages, hframes⟩ := hplace u r hu hr
    exact ⟨hlow, hpages, fun g n hg hn => hframes g n hg ((h.frameOf g).symm.trans hn)⟩
  · exact hentries g g' n hg hg' ((h.frameOf g').symm.trans hn)

end

/-! ### The work of an APPEND -/

section
variable {v : State} {core : Nat} {slot x : BitVec 512}

/-- The rows of an APPEND are put down, and read back. -/
theorem State.appendRows_of_sound (hsound : v.memSound) (ha : v.appendApart slot x) :
    ∃ u, v.appendRows core (slPool slot) slot x = (u, .ok) ∧ v.Touches [.memNear] u ∧
      ∀ a r, a < 2 * asHt x → r < asStrLast x →
        u.near (v.appendAddr slot x a r) (64 * kvElem (plFmt (v.pool (slPool slot)))) = v.appendBytes core slot x (a, r) := by
  obtain ⟨hrows, hplace, -⟩ := ha
  rw [State.appendRows_eq]
  refine ⟨_, State.foldl_appendRow core hsound (.refl _ v) (fun c hc => (mem_appendRowList.1 hc).2) (fun _ _ => rfl) ?_,
    v.putRows_touches _ _ _, fun a r hu hr => ?_⟩
  · intro c hc g hg
    obtain ⟨hu, hr⟩ := mem_appendRowList.1 hc
    exact (hplace c.1 c.2 hu hr).2.1 g hg
  · refine State.near_putRows_row (addr := fun c => v.appendAddr slot x c.1 c.2) (c := (a, r)) (State.length_appendBytes core)
      (fun c hc => ?_) (fun c hc d hd hne => ?_) (mem_appendRowList.2 ⟨hu, hr⟩)
    · obtain ⟨hu, hr⟩ := mem_appendRowList.1 hc
      exact (hplace c.1 c.2 hu hr).1
    · obtain ⟨hu, hr⟩ := mem_appendRowList.1 hc
      obtain ⟨hu', hr'⟩ := mem_appendRowList.1 hd
      exact hrows c.1 c.2 d.1 d.2 hu hu' hr hr' hne

theorem unsigned_succ64 (n : Nat) : unsigned 64 ((n : Nat) + 1) = (n + 1) % 2 ^ 64 := by
  unfold unsigned
  omega

/-- What the end of an APPEND leaves once its rows are down in `c`. -/
theorem State.appended_ends {b c : State} (hc : b.Touches [.memNear] c) (core pool : Nat) (pages : List KvPage) (n bytes : Nat) :
    let u := (((c.asDone core).kvImages pool pages).countFetch core bytes).slotAdd n 127 64 1
    b.Touches (.cores :: .tier :: .memNear :: pairParts) u ∧ (u.core core).walk = none ∧
      fld (u.slot n) 127 64 = (fld (b.slot n) 127 64 + 1) % 2 ^ 64 ∧
      ∀ a k, b.apartFromFrames pool pages a k → u.near a k = c.near a k := by
  have hdone := c.asDone_touches core
  have himages := (c.asDone core).kvImages_retouched (pool := pool) (pages := pages)
  have hcount := (((c.asDone core).kvImages pool pages).countFetch_pairStep core bytes).touches
  have hadd := State.slotAdd_touches (((c.asDone core).kvImages pool pages).countFetch core bytes) n 127 64 1
  have hbegun : b.Touches (.cores :: .tier :: .memNear :: pairParts) (c.asDone core) :=
    (hc.mono (by decide)).trans (hdone.mono (by decide))
  have hend := ((himages.touches.mono (l' := .tier :: .memNear :: pairParts) (by decide)).trans (hcount.mono (by decide))).trans
    (hadd.mono (by decide))
  have htier : (c.asDone core).tier = b.tier := (hdone .tier (by decide)).trans (hc .tier (by decide))
  refine ⟨hbegun.trans (hend.mono (by decide)), ?_, ?_, fun a k hapart => ?_⟩
  · rw [hend.core (by decide), State.walk_asDone]
  · rw [State.fld_slotAdd_self _ _ _ (by decide) (by decide), State.slot, hcount .tier (by decide), himages.slots, htier]
    exact unsigned_succ64 _
  · rw [hadd.near (by decide) (by decide), hcount.near (by decide) (by decide),
      himages.near _ _ (State.apartFromFrames_congr htier hapart), hdone.near (by decide) (by decide)]

/-- An APPEND to pages that are near puts its rows down and counts. -/
theorem State.runAppend_of_near (hslot : (v.asWalk core).slot = slot) (hsound : v.memSound) (ha : v.appendApart slot x)
    (hpages : ∀ g ∈ v.appendPages slot x, v.kvPageState g = 1 ∧ g.page < 2 ^ slPagesLog2 slot) :
    ∃ u, v.runAppend core x = (u, some (.ok, true)) ∧ u.qs = v.qs ∧ (u.core core).walk = none ∧
      fld (u.slot (asSlot x)) 127 64 = (fld (v.slot (asSlot x)) 127 64 + 1) % 2 ^ 64 ∧
      ∀ a r, a < 2 * asHt x → r < asStrLast x →
        u.near (v.appendAddr slot x a r) (64 * kvElem (plFmt (v.pool (slPool slot)))) = v.appendBytes core slot x (a, r) := by
  generalize hlist : v.appendPages slot x = pages at hpages
  have hfew : pages.any (fun g => decide (2 ^ slPagesLog2 slot ≤ g.page)) = false :=
    List.any_eq_false.2 fun g hg => by simpa using (hpages g hg).2
  have hask : pages.foldl (fun acc g => if acc.2 then acc.1.appendAsk core (slPool slot) g else acc) (v, true) = (v, true) :=
    foldl_of_fixed fun g hg => by simp [State.appendAsk, (hpages g hg).1]
  have himages : v.Retouched (slPool slot) pages (v.kvImages (slPool slot) pages) := v.kvImages_retouched
  have htouched := retouched_foldl (fun t g hg => t.kvTouch_retouched hg) (fun g hg => hg) (v.kvImages (slPool slot) pages)
    (pool := slPool slot) (pages := pages)
  have hnear : pages.any (fun g => decide ((v.kvImages (slPool slot) pages).kvPageState g ≠ 1)) = false := by
    subst hlist
    exact List.any_eq_false.2 fun g hg => by simp [(himages.page ha hg).1, (hpages g hg).1]
  obtain ⟨-, hbad, -, herr, -⟩ := himages.sound hsound
  unfold State.runAppend
  dsimp only
  rw [hslot, hlist, hfew, hask]
  simp only [Bool.not_true, Bool.false_eq_true, if_false, hnear, State.meetTile_of_sound hbad herr, ne_eq, not_true_eq_false]
  generalize pages.foldl (fun t g => t.kvTouch (slPool slot) g) (v.kvImages (slPool slot) pages) = b at htouched ⊢
  have hvb := himages.trans htouched
  subst hlist
  obtain ⟨c, hc, hcTouches, hcRows⟩ := State.appendRows_of_sound (core := core) (hvb.sound hsound) (hvb.appendApart ha)
  rw [hc]
  simp only [if_true]
  obtain ⟨htouches, hwalk, hcounted, hkept⟩ := State.appended_ends hcTouches core (slPool slot) (v.appendPages slot x) (asSlot x)
    (2 * asHt x * asStrLast x * (64 * kvElem (asFmt x)))
  refine ⟨_, rfl, (htouches .qs (by decide)).trans (hvb.touches .qs (by decide)), hwalk, ?_, fun a r hu hr => ?_⟩
  · rw [hcounted, State.slot, hvb.slots]
    rfl
  · have hrow := hcRows a r hu hr
    rw [hvb.appendAddr_eq ha a hr, hvb.pool_eq] at hrow
    rw [hkept _ _ (hvb.apart (ha.rows hu hr)), hrow, State.appendBytes, hvb.pool_eq]
    exact congrArg (fun m => loadBytes m _ _) (hvb.touches .memTile (by decide))

section
variable {s : State} {q : Nat}

theorem attn_append (hq : isQueue q = true) (hbegin : s.mayBegin (attnEngine 0) q x) (hop : asOp x = 4) (hsound : s.memSound)
    (ha : s.appendApart (s.slot (asSlot x)) x)
    (hpages : ∀ g ∈ s.appendPages (s.slot (asSlot x)) x, s.kvPageState g = 1 ∧ g.page < 2 ^ slPagesLog2 (s.slot (asSlot x))) :
    ∃ t, exec (.append q) s = .next t ∧ (t.queue q).held = none ∧ (t.core (s.queue q).core).walk = none ∧
      fld (t.slot (asSlot x)) 127 64 = (fld (s.slot (asSlot x)) 127 64 + 1) % 2 ^ 64 ∧
      ∀ a r, a < 2 * asHt x → r < asStrLast x →
        t.near (s.appendAddr (s.slot (asSlot x)) x a r) (64 * kvElem (plFmt (s.pool (slPool (s.slot (asSlot x)))))) =
          s.appendBytes (s.queue q).core (s.slot (asSlot x)) x (a, r) := by
  have hslot := s.slot_asWalk_pagesBegun q x
  have hsound' := s.pagesBegun_sound q x hsound
  obtain ⟨R, P, Q, C, hv⟩ := s.pagesBegun_eq q x
  obtain ⟨u, hu, hqs, hwalk, hcounted, hrows⟩ : ∃ u, (s.pagesBegun q x).runAppend (s.queue q).core x = (u, some (.ok, true)) ∧
      u.qs = (s.pagesBegun q x).qs ∧ (u.core (s.queue q).core).walk = none ∧
      fld (u.slot (asSlot x)) 127 64 = (fld (s.slot (asSlot x)) 127 64 + 1) % 2 ^ 64 ∧
      ∀ a r, a < 2 * asHt x → r < asStrLast x →
        u.near (s.appendAddr (s.slot (asSlot x)) x a r) (64 * kvElem (plFmt (s.pool (slPool (s.slot (asSlot x)))))) =
          s.appendBytes (s.queue q).core (s.slot (asSlot x)) x (a, r) := by
    rw [hv] at hslot hsound' ⊢
    exact State.runAppend_of_near hslot hsound' ha hpages
  obtain ⟨t, ht, hheld, htouches, hwalks⟩ := attn_pages_ends (c := .append q) rfl hq hbegin hop
    ((run_append hbegin hop).trans hu) hqs.symm
  refine ⟨t, ht, hheld, (hwalks _).trans hwalk, ?_, fun a r hu hr => ?_⟩
  · rw [State.slot, htouches .tier (by decide)]
    exact hcounted
  · rw [htouches.near (by decide) (by decide)]
    exact hrows a r hu hr

end
end
/-! ### O26 -/

/-- The command for a walk's opcode is one of the engine, about the items of that opcode. -/
theorem engineOf_walk {c : Instr} {q n : Nat} {x : BitVec 512}
    (h : (c = .fwd q n ∧ asOp x = 0) ∨ (c = .recomp q n ∧ asOp x = 1) ∨ (c = .bwdQ q n ∧ asOp x = 2) ∨ (c = .bwdKv q n ∧ asOp x = 3)) :
    engineOf c = some (attnEngine n, q, attnMine (asOp x)) ∧ asOp x ≤ 3 := by
  obtain ⟨rfl, hop⟩ | ⟨rfl, hop⟩ | ⟨rfl, hop⟩ | ⟨rfl, hop⟩ := h <;> exact ⟨by rw [hop]; rfl, by omega⟩

/-- Settles O26: a walk by induction on the blocks that are left, and each item on pages by what its pages' states lead to. -/
theorem attentionItems : Obligations.AttentionItems := by
  unfold Obligations.AttentionItems
  refine ⟨⟨?walks, ?yields⟩, ?pages⟩
  case walks =>
    intro s c q n x hq hbegin hsound hlinear hyield hn hc
    obtain ⟨hengine, hop⟩ := engineOf_walk hc
    obtain ⟨t, ht, hheld, hwalk, htouches, hitems, hcomputed, hskipped⟩ := attn_walk hengine hop hq hbegin hsound hlinear hyield hn
    exact ⟨t, ht, hheld, hwalk, htouches .memNear (by decide), htouches .accs (by decide), htouches .bufs (by decide),
      htouches .tier (by decide), hitems, hcomputed, hskipped⟩
  case yields =>
    intro s core hcore
    exact ⟨fun h => (exec_yield hcore s).trans (congrArg _ (State.askYield_of_idle h)), fun w hw => yield_walk hcore hw⟩
  case pages =>
    intro s q x hq hbegin hsound core S pool e
    refine ⟨fun hop ha hpages => ?_, fun hop hpages => attn_prefetch_near hq hbegin hop hpages, ?_, ?_⟩
    · exact attn_append hq hbegin hop hsound ha fun g hg => ⟨(hpages g hg).1, (hpages g hg).2.2⟩
    · intro g n far hop hpages hpage hstate hcoming hframe hspill hok
      exact attn_prefetch_far hq hbegin hop hpages hpage hstate hcoming hframe hspill hok
    · intro g n f hop hpages hcoming hstate hframe hf hpinned hpte
      exact attn_release hq hbegin hop hpages hcoming hstate hframe hf hpinned hpte

end Sys2Proof.Machine
end

section
/-! SUPPORT. The invariants: that reset has them and that every step keeps them. -/

namespace Sys2Proof.Machine

/-- Settles O8: at reset the memories and the logs are empty. -/
theorem resetMeetsTheInvariants : Obligations.ResetMeetsTheInvariants :=
  have ⟨hnear, htile⟩ := Memory.wf_reset
  ⟨hnear, htile, by decide, by decide, by decide, by decide⟩

/-- What any command keeps, said of a step: with a command at the front it is `exec` on the rest of the queue, else `State.tick`. -/
theorem step_keeps_inv {s t : State} (h : s.Inv) (hstep : step s = .next t) : t.Inv := by
  cases hp : s.pending with
  | nil =>
    obtain rfl : s.tick = t := by simpa [step, hp] using hstep
    exact (State.tick_keeps s ⟨h, hp⟩).inv
  | cons c rest =>
    have hexec : exec c { s with pending := rest } = .next t := by simpa [step, hp] using hstep
    have hrest : State.Keeps rest { s with pending := rest } := ⟨⟨h.near, h.tile, h.ninths, h.log, h.dbgLog, h.txnTable⟩, rfl⟩
    exact (exec_keeps c _ t hrest hexec).inv

/-- Settles O3: a step is a command that `exec_keeps` covers or a control cycle that `State.tick_keeps` covers. -/
theorem everyStepKeepsTheInvariants : Obligations.EveryStepKeepsTheInvariants := fun _ _ => step_keeps_inv

end Sys2Proof.Machine
end

section
/-! SUPPORT. Upsets, control processors' accesses to tile memory, and O10 (R234, R235). -/

namespace Sys2Proof.Machine

/-! ### Upsets -/

/-- The parts in which an upset stands until a read meets it. -/
def upsetParts : List Part := [.memNearErr, .memTileErr, .memCache]

theorem State.upset_touches (s : State) (x : Upset) : s.Touches upsetParts (s.upset x) := by
  have hnear : ∀ y, s.Touches upsetParts { s with mem.nearErr := y } := fun y p hp => by cases p <;> simp_all [Part.same, upsetParts]
  have htile : ∀ y, s.Touches upsetParts { s with mem.tileErr := y } := fun y p hp => by cases p <;> simp_all [Part.same, upsetParts]
  have hcache : ∀ y, s.Touches upsetParts { s with mem.cache := y } := fun y p hp => by cases p <;> simp_all [Part.same, upsetParts]
  cases x with
  | near b i d => exact touches_ite (.refl _ s) (hnear _)
  | tile core off => exact htile _
  | cache core line w =>
    unfold State.upset
    dsimp only
    split
    · exact hcache _
    · exact .refl _ s

theorem State.upsets_touches (s : State) (ups : List Upset) : s.Touches upsetParts (ups.foldl State.upset s) :=
  touches_foldl State.upset_touches ups s

section
variable {l : List Part} {s t : State} (h : s.Touches l t)
include h

theorem State.Touches.corePresent (hc : .cores ∉ l) (core : Nat) : t.corePresent core = s.corePresent core := by
  simp [State.corePresent, h.core hc]

theorem State.Touches.cpLive (hc : .cores ∉ l) (hd : .dev ∉ l) (core : Nat) : t.cpLive core = s.cpLive core := by
  have hdev : t.dev = s.dev := h .dev hd
  simp only [State.cpLive, h.corePresent hc, hdev]

theorem State.Touches.region (hc : .cores ∉ l) (a : Nat) : t.region a = s.region a := by
  unfold State.region
  simp only [h.corePresent hc]

end

/-! ### Accesses through a tile-memory window -/

section
variable {s : State} {core n : Nat} {ups : List Upset} (hcore : isCore core = true) (hsize : cpSize n = true)
  (hups : ups.all upsetOk = true) (hlive : s.cpLive core = true) (a v : W64)
include hcore hsize hups hlive

theorem exec_cpLoad : exec (.cpAccess core .load a n v ups) s = .next ((ups.foldl State.upset s).cpLoad core a n) := by
  have hlive' := ((s.upsets_touches ups).cpLive (by decide) (by decide) core).trans hlive
  simp only [exec, execCpAccess, hcore, hsize, hups, byCp_of_live _ _ _ hlive', Bool.and_self, ifUnit_true]

theorem exec_cpStore : exec (.cpAccess core .store a n v ups) s = .next ((ups.foldl State.upset s).cpStore core a n v) := by
  have hlive' := ((s.upsets_touches ups).cpLive (by decide) (by decide) core).trans hlive
  simp only [exec, execCpAccess, hcore, hsize, hups, byCp_of_live _ _ _ hlive', Bool.and_self, ifUnit_true]

end

section
variable {s : State} {core c o n : Nat} {a : W64} (haddr : a.toNat < 2 ^ 48) (hregion : s.region a.toNat = .tile c o)
include haddr hregion

theorem State.cpLoad_tile_misaligned (hn : a.toNat % n ≠ 0) : s.cpLoad core a n = s.raise core .loadMisaligned a := by
  simp only [State.cpLoad, if_pos haddr, hregion, if_pos hn]

theorem State.cpStore_tile (v : W64) :
    s.cpStore core a n v = if a.toNat % n ≠ 0 then s.raise core .storeMisaligned a else s.putTile c o (leBytes n v.toNat) := by
  simp only [State.cpStore, if_pos haddr, hregion]

/-- A word that is sound reads as the bytes that stand there. -/
theorem State.cpLoad_tile_aligned (hn : a.toNat % n = 0) (hbad : s.tileBad c o n = none) (herr : s.mem.tileErr = []) :
    s.cpLoad core a n = s.deliver core (BitVec.ofNat 64 (leNat (s.tile c o n))) := by
  have hmeet : s.meetTile c [(o, n)] = (s, .ok) := by simp [State.meetTile, State.observeTile, herr, hbad]
  simp only [State.cpLoad, if_pos haddr, hregion, hn, State.readTile, hmeet, ne_eq, not_true, if_true, if_false]

end

/-- Settles O10: after the upsets the access meets the window that it met before them. -/
theorem controlProcessorTileAccess : Obligations.ControlProcessorTileAccess := by
  intro s core c o n a v ups hcore hsize hlive haddr hregion hups u
  have hu : u.region a.toNat = .tile c o := by rw [(s.upsets_touches ups).region (by decide), hregion]
  rw [exec_cpLoad hcore hsize hups hlive, exec_cpStore hcore hsize hups hlive]
  refine ⟨fun hn => ⟨?_, ?_⟩, fun hn => ⟨?_, fun hbad herr => ?_⟩⟩
  · exact congrArg _ (State.cpLoad_tile_misaligned haddr hu hn)
  · exact congrArg _ ((State.cpStore_tile haddr hu v).trans (if_pos hn))
  · exact congrArg _ ((State.cpStore_tile haddr hu v).trans (if_neg (not_not.2 hn)))
  · exact congrArg _ (State.cpLoad_tile_aligned haddr hu hn hbad herr)

end Sys2Proof.Machine
end

section
/-! SUPPORT. The registers that an access to near memory may write: those of wear, and the counters and bits of its stack (R254, R263, R490). -/

namespace Sys2Proof.Machine

/-! ### Registers written at most -/

/-- The registers of two states are the same but for those that a predicate names. -/
def State.RegsWithin (W : Nat → Prop) (s t : State) : Prop := ∀ o, ¬ W o → t.reg o = s.reg o

section
variable {W V : Nat → Prop} {s t u : State}

theorem State.RegsWithin.refl (W : Nat → Prop) (s : State) : s.RegsWithin W s := fun _ _ => rfl

theorem State.RegsWithin.trans (h : s.RegsWithin W t) (k : t.RegsWithin W u) : s.RegsWithin W u := fun o ho => (k o ho).trans (h o ho)

theorem State.RegsWithin.mono (h : s.RegsWithin W t) (hW : ∀ o, W o → V o) : s.RegsWithin V t := fun o ho => h o fun hw => ho (hW o hw)

theorem regsWithin_ite {c : Prop} [Decidable c] {a b : State} (ha : s.RegsWithin W a) (hb : s.RegsWithin W b) :
    s.RegsWithin W (if c then a else b) := by
  split
  · exact ha
  · exact hb

theorem regsWithin_foldl {β : Type} {f : State → β → State} (hf : ∀ (t : State) e, t.RegsWithin W (f t e)) (es : List β) (s : State) :
    s.RegsWithin W (es.foldl f s) := by
  induction es generalizing s with
  | nil => exact .refl W s
  | cons e rest ih => exact (hf s e).trans (ih (f s e))

theorem regsWithin_foldl_fst {α β : Type} {f : State × α → β → State × α} (hf : ∀ (x : State × α) e, x.1.RegsWithin W (f x e).1)
    (es : List β) (x : State × α) : x.1.RegsWithin W (es.foldl f x).1 := by
  induction es generalizing x with
  | nil => exact .refl W _
  | cons e rest ih => exact (hf x e).trans (ih (f x e))

theorem State.Touches.regsWithin {l : List Part} (h : s.Touches l t) (hr : .regs ∉ l) : s.RegsWithin W t := fun o _ => h.reg hr o

theorem State.RegsWithin.flag (h : s.RegsWithin W t) {o : Nat} (ho : ¬ W o) (b : Nat) : t.flag o b = s.flag o b :=
  congrArg (fun v : W64 => v.getLsbD b) (h o ho)

theorem State.setReg_regsWithin (s : State) {o : Nat} (ho : W o) (v : W64) : s.RegsWithin W (s.setReg o v) :=
  fun k hk => s.reg_setReg_ne o k v fun h => hk (h ▸ ho)

theorem State.bump_regsWithin (s : State) {o : Nat} (ho : W o) (n : Nat) : s.RegsWithin W (s.bump o n) := s.setReg_regsWithin ho _

theorem State.setFlag_regsWithin (s : State) {o : Nat} (ho : W o) (b : Nat) : s.RegsWithin W (s.setFlag o b) := s.setReg_regsWithin ho _

theorem State.bumpSeen_regsWithin (s : State) {c o : Nat} (hc : W c) (ho : W o) (b : Nat) : s.RegsWithin W (s.bumpSeen c o b) :=
  (s.bump_regsWithin hc 1).trans (State.setFlag_regsWithin _ ho b)

end

/-! ### Wear -/

/-- A register that wear may write: below the units' blocks, or `RAS_STATUS` and its counters. -/
def WearReg (o : Nat) : Prop := o < 0x880 ∨ (0xF000 ≤ o ∧ o < 0xF018)

section
variable (s : State)

theorem State.withWear_regsWithin (x : WearSt) : s.RegsWithin WearReg { s with wear := x } := fun _ _ => rfl

theorem State.count_regsWithin (st : Status) : s.RegsWithin WearReg (s.count st) := by
  have hlow : WearReg st.counterOff := .inl (counterOff_range st).2
  exact regsWithin_ite (.refl _ s) (s.bump_regsWithin hlow 1)

theorem State.logEvent_regsWithin {W : Nat → Prop} (st : Status) (source unit detail : Nat) :
    s.RegsWithin W (s.logEvent st source unit detail) := (s.logEvent_touches st source unit detail).regsWithin (by decide)

theorem State.countLog_regsWithin (st : Status) (source unit detail : Nat) : s.RegsWithin WearReg (s.countLog st source unit detail) :=
  (s.count_regsWithin st).trans (State.logEvent_regsWithin _ _ _ _ _)

theorem State.EventOnly.regsWithin {s t : State} (h : s.EventOnly t) : s.RegsWithin WearReg t :=
  fun o ho => h.regs o (Nat.le_of_not_lt fun hlt => ho (.inl hlt))

theorem State.noteFitness_regsWithin (d u : Bool) : s.RegsWithin WearReg (s.noteFitness d u) := by
  have hdegraded : s.RegsWithin WearReg (if d && !s.wear.degraded then s.lifeAdd 9 1 else s) :=
    regsWithin_ite (s.withWear_regsWithin _) (.refl _ s)
  exact hdegraded.trans (regsWithin_ite ((State.withWear_regsWithin _ _).trans (State.countLog_regsWithin _ _ _ _ _)) (.refl _ _))

theorem State.evalFitness_regsWithin : s.RegsWithin WearReg s.evalFitness :=
  ((s.noteFitness_regsWithin s.isDegraded s.isUnfit).trans (State.withWear_regsWithin _ _)).trans
    (State.devChanged_eventOnly _ _).regsWithin

theorem State.record_regsWithin (e : RetEntry) : s.RegsWithin WearReg (s.record e) :=
  regsWithin_ite ((s.withWear_regsWithin _).trans (State.evalFitness_regsWithin _))
    ((s.withWear_regsWithin _).trans (State.setFlag_regsWithin _ (.inr (by decide)) 3))

theorem State.spareUsed_regsWithin : s.RegsWithin WearReg s.spareUsed :=
  s.bumpSeen_regsWithin (.inr (by decide)) (.inr (by decide)) 1

theorem State.retired_regsWithin : s.RegsWithin WearReg s.retired :=
  s.bumpSeen_regsWithin (.inr (by decide)) (.inr (by decide)) 2

theorem State.pageOffline_regsWithin (page : Nat) : s.RegsWithin WearReg (s.pageOffline page) :=
  regsWithin_ite (.refl _ s) (((((s.withWear_regsWithin _).trans (State.retired_regsWithin _)).trans
    (State.record_regsWithin _ _)).trans (State.countLog_regsWithin _ _ _ _ _)).trans (State.evalFitness_regsWithin _))

theorem State.wornRow_regsWithin (ch die bank row : Nat) : s.RegsWithin WearReg (s.wornRow ch die bank row) := by
  have hspare : ∀ x e sub, s.RegsWithin WearReg ((({ s with wear := x }.spareUsed.record e).lifeAdd sub 1).evalFitness) := fun x e sub =>
    ((((s.withWear_regsWithin x).trans (State.spareUsed_regsWithin _)).trans (State.record_regsWithin _ e)).trans
      (State.withWear_regsWithin _ _)).trans (State.evalFitness_regsWithin _)
  exact regsWithin_ite (hspare _ _ _) (regsWithin_ite (hspare _ _ _) (regsWithin_foldl (fun t p => t.pageOffline_regsWithin p) _ s))

/-- What a block's correction leaves: its count and its bit, and a row worn at most. -/
theorem State.correctBlock_regsWithin (a : Nat) : (s.noteCorrected a).RegsWithin WearReg (s.correctBlock a) := by
  have hlife := (s.noteCorrected a).withWear_regsWithin ((s.noteCorrected a).lifeAdd (0x89 + 4 * stackOf (chanOf a) + 1) 1).wear
  exact regsWithin_ite ((hlife.trans (State.withWear_regsWithin _ _)).trans (State.wornRow_regsWithin _ _ _ _ _))
    (hlife.trans (State.withWear_regsWithin _ _))

theorem State.spoilBlock_regsWithin (a : Nat) : s.RegsWithin WearReg (s.spoilBlock a) :=
  regsWithin_ite (.refl _ s) (((touches_memNearErr s s.mem.near _ _).regsWithin (by decide)).trans
    ((State.withWear_regsWithin _ _).trans (State.wornRow_regsWithin _ _ _ _ _)))

end

/-! ### Stacks -/

/-- A register of the chip or of one of its stacks. -/
def ChipReg (o : Nat) : Prop := o < 0x10000

theorem WearReg.chip {o : Nat} (h : WearReg o) : ChipReg o := by
  unfold WearReg at h
  unfold ChipReg
  omega

theorem stackOf_chanOf_lt (a : Nat) : stackOf (chanOf a) < 8 := Nat.div_lt_of_lt_mul (chanOf_lt a)

theorem msOff_chip {stack off : Nat} (hs : stack < 8) (ho : off < 0x100) : ChipReg (msOff stack off) := by
  unfold ChipReg msOff
  omega

section
variable (s : State)

theorem State.noteCorrected_regsWithin (a : Nat) : s.RegsWithin ChipReg (s.noteCorrected a) :=
  s.bumpSeen_regsWithin (msOff_chip (stackOf_chanOf_lt a) (by decide)) (msOff_chip (stackOf_chanOf_lt a) (by decide)) 1

theorem State.observeBlock_regsWithin (a : Nat) : s.RegsWithin ChipReg (s.observeBlock a) := by
  unfold State.observeBlock
  have hsettle : ∀ w, s.RegsWithin ChipReg (s.settleBlock a w) := fun _ _ _ => rfl
  split
  · exact .refl _ s
  · dsimp only
    split
    · exact hsettle _
    · exact ((hsettle _).trans (State.noteCorrected_regsWithin _ a)).trans ((State.correctBlock_regsWithin _ a).mono fun _ => WearReg.chip)
    · exact (s.spoilBlock_regsWithin a).mono fun _ => WearReg.chip

theorem State.noteUncorr_regsWithin (a : Nat) : s.RegsWithin ChipReg (s.noteUncorr a) := by
  have hin : ∀ {off}, off < 0x100 → ChipReg (msOff (stackOf (chanOf a)) off) := fun ho => msOff_chip (stackOf_chanOf_lt a) ho
  exact ((regsWithin_ite (.refl _ s) (s.setReg_regsWithin (hin (by decide)) _)).trans
    (State.bumpSeen_regsWithin _ (hin (by decide)) (hin (by decide)) 2)).trans (State.logEvent_regsWithin _ _ _ _ _)

theorem State.blockGate_regsWithin (a : Nat) : s.RegsWithin ChipReg (s.blockGate a).1 := by
  have hin : ∀ {off}, off < 0x100 → ChipReg (msOff (stackOf (chanOf a)) off) := fun ho => msOff_chip (stackOf_chanOf_lt a) ho
  have hburst : ∀ x, s.RegsWithin ChipReg { s with mem.burstBad := x } := fun _ _ _ => rfl
  unfold State.blockGate
  split
  · exact ((hburst _).trans (State.bumpSeen_regsWithin _ (hin (by decide)) (hin (by decide)) 3)).trans (State.logEvent_regsWithin _ _ _ _ _)
  · exact .refl _ s

theorem State.readBlock_regsWithin (a : Nat) : s.RegsWithin ChipReg (s.readBlock a).1 := by
  have hgate := s.blockGate_regsWithin a
  have hseen := hgate.trans (State.observeBlock_regsWithin _ a)
  unfold State.readBlock
  dsimp only
  split
  · split
    · exact hseen.trans (State.noteUncorr_regsWithin _ a)
    · exact hseen
  · exact hgate

theorem State.writeBlock_regsWithin (a : Nat) (bytes : List Byte) : s.RegsWithin ChipReg (s.writeBlock a bytes).1 := by
  have hgate := s.blockGate_regsWithin a
  have hseen := hgate.trans (State.observeBlock_regsWithin _ a)
  have hput : ∀ (t : State) x, t.RegsWithin ChipReg { t with mem := x } := fun _ _ _ _ => rfl
  unfold State.writeBlock
  dsimp only
  split
  · exact .refl _ s
  split
  · split
    · split
      · exact hseen.trans (State.noteUncorr_regsWithin _ a)
      · exact hseen.trans (hput _ _)
    · exact hgate.trans (hput _ _)
  · exact hgate

theorem State.readNear_regsWithin (a n : Nat) : s.RegsWithin ChipReg (s.readNear a n).1 := by
  refine regsWithin_foldl_fst (fun x b => ?_) (blocksOf a n) (s, Status.ok)
  exact x.1.readBlock_regsWithin b

end
end Sys2Proof.Machine
end

section
/-! SUPPORT. What an operation on a core's cache may write: the parts it touches, the registers of its core, and reservations that are lost
(R236, R244). -/

namespace Sys2Proof.Machine

/-! ### Steps of a cache -/

/-- A register that a core's cache may write: those of the chip and its stacks, and the core's own from `CC_STATUS` to below `CC_AMO`. -/
def CacheReg (core o : Nat) : Prop := ChipReg o ∨ (coreOff core 0x7000 ≤ o ∧ o < coreOff core 0x7050)

/-- A core keeps everything, but perhaps its reservation. -/
def Core.LosesLr (C D : Core) : Prop := D = C ∨ D = { C with lr := none }

/-- A step of a core's cache: it touches the parts of a list, writes registers of the cache, and loses reservations at most. -/
structure State.CacheStep (core : Nat) (l : List Part) (s t : State) : Prop where
  touches : s.Touches l t
  regs : s.RegsWithin (CacheReg core) t
  lost : ∀ c, (s.core c).LosesLr (t.core c)

theorem Core.LosesLr.trans {C D E : Core} (h : C.LosesLr D) (k : D.LosesLr E) : C.LosesLr E := by
  rcases h with rfl | rfl <;> rcases k with rfl | rfl <;> simp [Core.LosesLr]

theorem Core.LosesLr.none {C D : Core} (h : C.LosesLr D) (hC : C.lr = none) : D.lr = none := by
  rcases h with rfl | rfl
  · exact hC
  · rfl

section
variable {core : Nat} {l l' : List Part} {s t u : State}

theorem State.CacheStep.refl (core : Nat) (l : List Part) (s : State) : s.CacheStep core l s := ⟨.refl l s, .refl _ s, fun _ => .inl rfl⟩

theorem State.CacheStep.trans (h : s.CacheStep core l t) (k : t.CacheStep core l u) : s.CacheStep core l u :=
  ⟨h.touches.trans k.touches, h.regs.trans k.regs, fun c => (h.lost c).trans (k.lost c)⟩

theorem State.CacheStep.mono (h : s.CacheStep core l t) (hl : ∀ p ∈ l, p ∈ l') : s.CacheStep core l' t :=
  ⟨h.touches.mono hl, h.regs, h.lost⟩

theorem cacheStep_ite {c : Prop} [Decidable c] {a b : State} (ha : s.CacheStep core l a) (hb : s.CacheStep core l b) :
    s.CacheStep core l (if c then a else b) := by
  split
  · exact ha
  · exact hb

/-- What touches neither cores nor registers is a step. -/
theorem State.Touches.cacheStep (h : s.Touches l t) (hr : .regs ∉ l) (hc : .cores ∉ l) : s.CacheStep core l t :=
  ⟨h, h.regsWithin hr, fun c => .inl (h.core hc c)⟩

theorem State.CacheStep.corePresent (h : s.CacheStep core l t) (c : Nat) : t.corePresent c = s.corePresent c := by
  rcases h.lost c with e | e <;> simp [State.corePresent, e]

theorem State.CacheStep.cpLive (h : s.CacheStep core l t) (hd : .dev ∉ l) (c : Nat) : t.cpLive c = s.cpLive c := by
  have hdev : t.dev = s.dev := h.touches .dev hd
  rw [State.cpLive, State.cpLive, h.corePresent, hdev]

end

/-- What is read at a way where the cache was not touched. -/
theorem State.Touches.cline {l : List Part} {s t : State} (h : s.Touches l t) (hp : .memCache ∉ l) (core set way : Nat) :
    t.cline core set way = s.cline core set way := congrArg (fun m => Store.get ({} : CLine) m (wayKey core set way)) (h .memCache hp)

/-! ### The operations on lines -/

theorem cacheReg_own {core off : Nat} (hlo : 0x7000 ≤ off) (hhi : off < 0x7050) : CacheReg core (coreOff core off) := by
  unfold CacheReg coreOff
  omega

theorem State.accessStep {s t : State} {l : List Part} (core : Nat) (h : s.Touches accessParts t) (hr : s.RegsWithin ChipReg t)
    (hl : ∀ p ∈ accessParts, p ∈ l) : s.CacheStep core l t :=
  ⟨h.mono hl, hr.mono fun _ => .inl, fun c => .inl (h.core (by decide) c)⟩

/-- The parts that a write-back may touch. -/
def writeBackParts : List Part := .memWbWaits :: accessParts

/-- The parts that a way emptied may touch. -/
def dropParts : List Part := .memCache :: .cores :: writeBackParts

/-- The parts that a line brought in or written may touch. -/
def cacheParts : List Part := .memPlru :: dropParts

section
variable (s : State) (core : Nat)

theorem State.bumpCore_cacheStep {off : Nat} (hlo : 0x7000 ≤ off) (hhi : off < 0x7050) (n : Nat) :
    s.CacheStep core [.regs] (s.bumpCore core off n) :=
  ⟨s.bump_touches _ n, s.bump_regsWithin (cacheReg_own hlo hhi) n, fun _ => .inl rfl⟩

theorem State.count_cacheStep (st : Status) : s.CacheStep core [.regs] (s.count st) :=
  have h := s.count_touches st
  ⟨h, (s.count_regsWithin st).mono fun _ hw => .inl hw.chip, fun c => .inl (h.core (by decide) c)⟩

theorem State.setCline_touches (set way : Nat) (v : CLine) : s.Touches [.memCache] (s.setCline core set way v) := fun p hp => by
  cases p <;> simp_all [Part.same, State.setCline]

theorem State.useWay_touches (set way : Nat) : s.Touches [.memPlru] (s.useWay core set way) := fun p hp => by
  cases p <;> simp_all [Part.same, State.useWay]

theorem State.dropWbWait_touches (line : Nat) : s.Touches [.memWbWaits] (s.dropWbWait core line) := fun p hp => by
  cases p <;> simp_all [Part.same, State.dropWbWait]

theorem State.withWbWaits_touches (x : List WbWait) : s.Touches [.memWbWaits] { s with mem.wbWaits := x } := fun p hp => by
  cases p <;> simp_all [Part.same]

theorem State.setCline_cacheStep (set way : Nat) (v : CLine) : s.CacheStep core [.memCache] (s.setCline core set way v) :=
  (s.setCline_touches core set way v).cacheStep (by decide) (by decide)

theorem State.useWay_cacheStep (set way : Nat) : s.CacheStep core [.memPlru] (s.useWay core set way) :=
  (s.useWay_touches core set way).cacheStep (by decide) (by decide)

/-- A reservation on a line is gone, and nothing else. -/
theorem State.dropLr_cacheStep (line : Nat) : s.CacheStep core [.cores] (s.dropLr core line) := by
  have hset : s.CacheStep core [.cores] (s.setCore core { s.core core with lr := none }) := by
    refine ⟨touches_cores s _, fun _ _ => rfl, fun c => ?_⟩
    rw [State.core_setCore]
    split
    · next h => exact h ▸ .inr rfl
    · exact .inl rfl
  unfold State.dropLr
  split
  · exact cacheStep_ite hset (.refl _ _ s)
  · exact .refl _ _ s

theorem State.lr_dropLr {line : Nat} (h : ∀ r, (s.core core).lr = some r → r.line = line) : ((s.dropLr core line).core core).lr = none := by
  unfold State.dropLr
  split
  · next r hr => rw [if_pos (h r hr), State.core_setCore_self]
  · next hr => exact hr

theorem State.lineBad_cacheStep (line : Nat) : s.CacheStep core [.regs, .log, .eventSeq] (s.lineBad core line) :=
  ⟨((s.bumpSeen_touches _ _ _).mono (by decide)).trans ((State.logEvent_touches _ _ _ _ _).mono (by decide)),
    (s.bumpSeen_regsWithin (cacheReg_own (by decide) (by decide)) (cacheReg_own (by decide) (by decide)) 3).trans
      (State.logEvent_regsWithin _ _ _ _ _),
    fun c => .inl ((State.logEvent_touches _ _ _ _ _).core (by decide) c)⟩

theorem State.writeBlock_cacheStep (a : Nat) (bytes : List Byte) : s.CacheStep core accessParts (s.writeBlock a bytes).1 :=
  State.accessStep core (s.writeBlock_touches a bytes) (s.writeBlock_regsWithin a bytes) fun _ h => h

theorem State.writeBack_cacheStep (line : Nat) (bytes : List Byte) : s.CacheStep core writeBackParts (s.writeBack core line bytes) := by
  have hsend := ((((s.dropWbWait_touches core line).cacheStep (core := core) (by decide) (by decide)).mono (l' := writeBackParts)
    (by decide)).trans ((State.bumpCore_cacheStep _ core (off := 0x7038) (by decide) (by decide) 1).mono (by decide))).trans
    ((State.writeBlock_cacheStep _ core (64 * line) bytes).mono (by decide))
  unfold State.writeBack
  dsimp only
  split
  · exact hsend.trans (((State.withWbWaits_touches _ _).cacheStep (by decide) (by decide)).mono (by decide))
  · exact hsend.trans ((State.count_cacheStep _ core _).mono (by decide))

/-- A way emptied, with the reservation on its line, before any write-back. -/
def State.emptyWay (set way : Nat) : State :=
  let c := s.cline core set way
  if c.valid then (s.setCline core set way {}).dropLr core c.line else s.setCline core set way {}

theorem State.emptyWay_cacheStep (set way : Nat) : s.CacheStep core [.memCache, .cores] (s.emptyWay core set way) := by
  have hset := (s.setCline_cacheStep core set way {}).mono (l' := [.memCache, .cores]) (by decide)
  exact cacheStep_ite (hset.trans ((State.dropLr_cacheStep _ core _).mono (by decide))) hset

/-- The write-back of a line that leaves the cache. -/
def State.flushLine (c : CLine) (wb : Bool) : State :=
  if c.valid && c.dirty && wb then
    if c.bad then (s.lineBad core c.line).count .uncorrectable
    else (s.bumpCore core 0x7040 c.err.length).writeBack core c.line c.bytes
  else s

theorem State.flushLine_cacheStep (c : CLine) (wb : Bool) : s.CacheStep core writeBackParts (s.flushLine core c wb) :=
  cacheStep_ite
    (cacheStep_ite
      (((s.lineBad_cacheStep core c.line).mono (by decide)).trans ((State.count_cacheStep _ core _).mono (by decide)))
      (((s.bumpCore_cacheStep core (by decide) (by decide) _).mono (by decide)).trans (State.writeBack_cacheStep _ core _ _)))
    (.refl _ _ s)

theorem State.dropWay_eq (set way : Nat) (wb : Bool) :
    s.dropWay core set way wb = (s.emptyWay core set way).flushLine core (s.cline core set way) wb := rfl

theorem State.dropWay_cacheStep (set way : Nat) (wb : Bool) : s.CacheStep core dropParts (s.dropWay core set way wb) :=
  ((s.emptyWay_cacheStep core set way).mono (by decide)).trans ((State.flushLine_cacheStep _ core _ wb).mono (by decide))

end

/-! ### Ways -/

section
variable (s : State) (core set way : Nat)

theorem State.cline_setCline (w : Nat) (v : CLine) :
    (s.setCline core set way v).cline core set w = if w = way then v else s.cline core set w := by
  unfold State.cline State.setCline
  rw [Store.get_set]
  have hkey : wayKey core set w = wayKey core set way ↔ w = way := by unfold wayKey; omega
  simp only [hkey]

theorem State.cline_emptyWay (w : Nat) : (s.emptyWay core set way).cline core set w = if w = way then {} else s.cline core set w := by
  unfold State.emptyWay
  dsimp only
  split
  · rw [(State.dropLr_cacheStep _ core _).touches.cline (by decide), State.cline_setCline]
  · exact s.cline_setCline core set way w {}

/-- A way emptied is empty, and the other ways of its set are as they were. -/
theorem State.cline_dropWay (wb : Bool) (w : Nat) :
    (s.dropWay core set way wb).cline core set w = if w = way then {} else s.cline core set w := by
  rw [State.dropWay_eq, (State.flushLine_cacheStep _ core _ wb).touches.cline (by decide), State.cline_emptyWay]

end

/-- Does a way hold a line? -/
def CLine.holds (c : CLine) (line : Nat) : Bool := c.valid && decide (c.line = line)

section
variable {s t : State} {core line w : Nat}

theorem CLine.holds_iff {c : CLine} : c.holds line = true ↔ c.valid = true ∧ c.line = line := by simp [CLine.holds]

theorem State.findWay_eq (s : State) (core line : Nat) :
    s.findWay core line = (List.range 16).find? fun w => (s.cline core (lineSet line) w).holds line := rfl

theorem State.holds_of_findWay (h : s.findWay core line = some w) : (s.cline core (lineSet line) w).holds line = true :=
  List.find?_some (p := fun w => (s.cline core (lineSet line) w).holds line) h

theorem State.lt_of_findWay (h : s.findWay core line = some w) : w < 16 := List.mem_range.1 (List.mem_of_find?_eq_some h)

/-- The way of a line depends on the ways that hold it alone. -/
theorem State.findWay_congr (h : ∀ w, (t.cline core (lineSet line) w).holds line = (s.cline core (lineSet line) w).holds line) :
    t.findWay core line = s.findWay core line := List.find?_congr fun w _ => h w

/-- The only way below 16 that holds a line is the one found. -/
theorem State.findWay_of_only (hw : w < 16) (hself : (s.cline core (lineSet line) w).holds line = true)
    (hother : ∀ k, k < 16 → k ≠ w → (s.cline core (lineSet line) k).holds line = false) : s.findWay core line = some w := by
  cases hfind : s.findWay core line with
  | none => exact absurd hself (List.find?_eq_none.1 hfind w (List.mem_range.2 hw))
  | some k =>
    by_cases hk : k = w
    · rw [hk]
    · have hheld := State.holds_of_findWay hfind
      rw [hother k (State.lt_of_findWay hfind) hk] at hheld
      cases hheld

end
end Sys2Proof.Machine
end

section
/-! SUPPORT. Cache maintenance, and O14 (R236, R239, R260). -/

namespace Sys2Proof.Machine

/-! ### One line -/

/-- A dirty line made clean, its corrected words counted and its reservation lost, before it is written back. -/
def State.cleanWay (s : State) (core line way : Nat) : State :=
  let c := s.cline core (lineSet line) way
  ((s.bumpCore core 0x7040 c.err.length).setCline core (lineSet line) way { c with dirty := false, err := [] }).dropLr core line

section
variable (s : State) (core line : Nat)

theorem State.cleanWay_cacheStep (way : Nat) : s.CacheStep core [.regs, .memCache, .cores] (s.cleanWay core line way) :=
  (((s.bumpCore_cacheStep core (by decide) (by decide) _).mono (by decide)).trans
    ((State.setCline_cacheStep _ core _ _ _).mono (by decide))).trans ((State.dropLr_cacheStep _ core line).mono (by decide))

theorem State.maintLine_missing (h : s.findWay core line = none) (clean inval : Bool) : s.maintLine core line clean inval = s := by
  simp only [State.maintLine, h]

/-- What maintenance does to a line that the cache holds. -/
theorem State.maintLine_found {w : Nat} (h : s.findWay core line = some w) (clean inval : Bool) :
    s.maintLine core line clean inval =
      let c := s.cline core (lineSet line) w
      if inval then s.dropWay core (lineSet line) w clean
      else if c.dirty then
        if c.bad then s.dropWay core (lineSet line) w true else (s.cleanWay core line w).writeBack core line c.bytes
      else s.dropLr core line := by
  simp only [State.maintLine, h]
  rfl

theorem State.maintLine_cacheStep (clean inval : Bool) : s.CacheStep core dropParts (s.maintLine core line clean inval) := by
  cases h : s.findWay core line with
  | none =>
    rw [s.maintLine_missing core line h]
    exact .refl _ _ s
  | some w =>
    rw [s.maintLine_found core line h]
    exact cacheStep_ite (s.dropWay_cacheStep core _ w clean)
      (cacheStep_ite
        (cacheStep_ite (s.dropWay_cacheStep core _ w true)
          (((s.cleanWay_cacheStep core line w).mono (by decide)).trans ((State.writeBack_cacheStep _ core line _).mono (by decide))))
        ((s.dropLr_cacheStep core line).mono (by decide)))

end

section
variable {s : State} {core line w : Nat} (h : s.findWay core line = some w)
include h

theorem State.invalid_of_invalidated (clean : Bool) :
    ((s.maintLine core line clean true).cline core (lineSet line) w).valid = false := by
  rw [s.maintLine_found core line h]
  exact congrArg CLine.valid ((s.cline_dropWay core (lineSet line) w clean w).trans (if_pos rfl))

/-- An invalidation alone writes nothing back. -/
theorem State.near_of_invalidated : (s.maintLine core line false true).mem.near = s.mem.near := by
  have hdrop : s.dropWay core (lineSet line) w false = s.emptyWay core (lineSet line) w := by
    rw [State.dropWay_eq, State.flushLine, Bool.and_false]
    rfl
  rw [s.maintLine_found core line h]
  exact (congrArg (fun t : State => t.mem.near) hdrop).trans ((s.emptyWay_cacheStep core _ w).touches .memNear (by decide))

theorem State.not_dirty_of_cleaned : ((s.maintLine core line true false).cline core (lineSet line) w).dirty = false := by
  rw [s.maintLine_found core line h]
  simp only [Bool.false_eq_true, if_false]
  split
  · split
    · exact congrArg CLine.dirty ((s.cline_dropWay core (lineSet line) w true w).trans (if_pos rfl))
    · rw [(State.writeBack_cacheStep _ core line _).touches.cline (by decide), State.cleanWay,
        (State.dropLr_cacheStep _ core line).touches.cline (by decide), State.cline_setCline, if_pos rfl]
  · next hd =>
    rw [(s.dropLr_cacheStep core line).touches.cline (by decide)]
    exact Bool.eq_false_iff.2 hd

end

/-! ### `CC_STATUS` -/

theorem regSpec_ccStatus {core : Nat} (hc : isCore core = true) :
    regSpec (coreOff core 0x7000) = some { size := 4, rw := 0, w1c := 0x1B, rsvd := 2 ^ 32 - 1 - 0x1F } := by
  have hc' : core < 144 := of_decide_eq_true hc
  have hmod : coreOff core 0x7000 % 0x10000 = 0x7000 := by unfold coreOff; omega
  rw [regSpec, if_neg (by unfold coreOff; omega), if_pos (by unfold coreOff; omega), hmod]
  decide

theorem State.regLive_ccStatus (s : State) {core : Nat} (hc : isCore core = true) :
    s.regLive (coreOff core 0x7000) = some (at_ 2 (b2n (s.mem.wbWaits.any fun w => decide (w.core = core) && w.maint))) := by
  have hc' : core < 144 := of_decide_eq_true hc
  have hmod : coreOff core 0x7000 % 0x10000 = 0x7000 := by unfold coreOff; omega
  have hdiv : (coreOff core 0x7000 - 0x10000000) / 0x10000 = core := by unfold coreOff; omega
  rw [State.regLive, if_neg (by unfold coreOff; omega), if_pos (by unfold coreOff; omega), hmod, hdiv]
  rfl

/-- `CC_MAINT_BUSY` reads 1 while a write-back waits that maintenance asked for. -/
theorem State.maintBusy_reads (s : State) {core : Nat} (hc : isCore core = true) :
    bitAt (s.regRead (coreOff core 0x7000)) 2 = s.mem.wbWaits.any fun w => decide (w.core = core) && w.maint := by
  have hw1c : Nat.testBit 0x1B 2 = false := by decide
  simp only [State.regRead, regSpec_ccStatus hc, s.regLive_ccStatus hc, bitAt, Nat.testBit_or, Nat.testBit_and, hw1c, Bool.and_false,
    Bool.or_false]
  cases s.mem.wbWaits.any fun w => decide (w.core = core) && w.maint <;> decide

/-! ### The commands -/

/-- Is a maintenance range in order: whole lines of near memory, one at least? -/
def MaintRange (a n : Nat) : Prop := ¬(a % 64 ≠ 0 ∨ n % 64 ≠ 0 ∨ n = 0 ∨ Config.nearBytes < a + n)

section
variable {s : State} {core : Nat} (hcore : isCore core = true) (hlive : s.cpLive core = true)
include hcore hlive

theorem exec_maint : exec (.ccClean core) s = .next (s.maint core true false) ∧
    exec (.ccInvalidate core) s = .next (s.maint core false true) ∧
    exec (.ccCleanInvalidate core) s = .next (s.maint core true true) := by
  simp [exec, execCcClean, execCcInvalidate, execCcCleanInvalidate, hcore, byCp_of_live _ _ _ hlive]

end

theorem State.maint_in_order {s : State} {core : Nat} (clean inval : Bool)
    (h : MaintRange (s.reg (coreOff core 0x7080)).toNat (s.reg (coreOff core 0x7088)).toNat) :
    s.maint core clean inval =
      ((s.linesIn core (s.reg (coreOff core 0x7080)).toNat (s.reg (coreOff core 0x7088)).toNat).foldl
        (fun t l => t.maintLine core l clean inval) s).markMaint core (s.reg (coreOff core 0x7080)).toNat
        (s.reg (coreOff core 0x7088)).toNat := if_neg h

theorem State.maint_out_of_order {s : State} {core : Nat} (clean inval : Bool)
    (h : ¬ MaintRange (s.reg (coreOff core 0x7080)).toNat (s.reg (coreOff core 0x7088)).toNat) :
    s.maint core clean inval = s.maintFail core := if_pos (not_not.1 h)

theorem State.maintFail_regsOnly (s : State) (core : Nat) : s.RegsOnly (s.maintFail core) :=
  (s.bump_regsOnly _ _).trans (State.setFlag_regsOnly _ _ _)

/-- Settles O14: a range in order is worked line by line, and each line by `State.maintLine_found`. -/
theorem cacheMaintenance : Obligations.CacheMaintenance := by
  intro s core hcore hlive a n
  obtain ⟨hclean, hinval, hboth⟩ := exec_maint hcore hlive
  refine ⟨fun ha hn hpos hfit => ?_, fun hbad c hc => ?_, fun line w h => ?_, s.maintBusy_reads hcore⟩
  · have hrange : MaintRange a n := by
      unfold MaintRange
      omega
    rw [hclean, hinval, hboth]
    exact ⟨congrArg _ (State.maint_in_order true false hrange), congrArg _ (State.maint_in_order false true hrange),
      congrArg _ (State.maint_in_order true true hrange)⟩
  · have hrange : ¬ MaintRange a n := not_not.2 hbad
    refine ⟨s.maintFail core, ?_, State.flag_setFlag_self _ _ _ (by decide), s.maintFail_regsOnly core⟩
    rcases hc with rfl | rfl | rfl
    · exact hclean.trans (congrArg _ (State.maint_out_of_order true false hrange))
    · exact hinval.trans (congrArg _ (State.maint_out_of_order false true hrange))
    · exact hboth.trans (congrArg _ (State.maint_out_of_order true true hrange))
  · exact ⟨State.invalid_of_invalidated h false, State.invalid_of_invalidated h true, State.near_of_invalidated h,
      State.not_dirty_of_cleaned h⟩

end Sys2Proof.Machine
end

section
/-! SUPPORT. Lines brought into a core's cache, and bytes read and written in one line (R236, R244). -/

namespace Sys2Proof.Machine

/-! ### The victim -/

theorem plruVictim_lt (tree : Nat) : plruVictim tree < 16 := by
  have hbit : ∀ b, b2n b ≤ 1 := fun b => by cases b <;> decide
  have h0 := hbit (bitAt tree 0)
  simp only [plruVictim, List.foldl]
  generalize b2n (bitAt tree 0) = b0 at *
  have h1 := hbit (bitAt tree (2 * 0 + 1 + b0))
  generalize b2n (bitAt tree (2 * 0 + 1 + b0)) = b1 at *
  have h2 := hbit (bitAt tree (2 * (2 * 0 + 1 + b0) + 1 + b1))
  generalize b2n (bitAt tree (2 * (2 * 0 + 1 + b0) + 1 + b1)) = b2 at *
  have h3 := hbit (bitAt tree (2 * (2 * (2 * 0 + 1 + b0) + 1 + b1) + 1 + b2))
  omega

theorem State.victim_lt (s : State) (core set : Nat) : s.victim core set < 16 := by
  unfold State.victim
  split
  · next h => exact List.mem_range.1 (List.mem_of_find?_eq_some h)
  · exact plruVictim_lt _

/-! ### A line brought in -/

section
variable (s : State) (core line : Nat)

/-- The state after a way was used by an access that hit. -/
def State.hitWay (way : Nat) : State := (s.bumpCore core 0x7028 1).useWay core (lineSet line) way

/-- The bytes that a missing line is filled with: those of its write-back that waits, else those that were read. -/
def State.fillBytes (read : List Byte) : List Byte :=
  match s.wbWaiting core line with
  | some b => b.bytes
  | none => read

/-- The state after a missing line took the way of a victim. -/
def State.fillLine (bytes : List Byte) : State :=
  let w := s.victim core (lineSet line)
  ((s.dropWay core (lineSet line) w true).setCline core (lineSet line) w
    { valid := true, line := line, dirty := false, data := BitVec.ofNat 512 (leNat bytes) }).useWay core (lineSet line) w

theorem State.cacheLine_hit {w : Nat} (h : s.findWay core line = some w) :
    s.cacheLine core line =
      let u := s.hitWay core line w
      let c := s.cline core (lineSet line) w
      if c.bad then ((u.lineBad core line).dropWay core (lineSet line) w false, .uncorrectable, w)
      else if c.err.isEmpty then (u, .ok, w)
      else ((u.bumpCore core 0x7040 c.err.length).setCline core (lineSet line) w { c with err := [] }, .ok, w) := by
  unfold State.cacheLine
  dsimp only
  rw [h]
  rfl

theorem State.cacheLine_miss (h : s.findWay core line = none) :
    s.cacheLine core line =
      let r := (s.bumpCore core 0x7030 1).readNear (64 * line) 64
      if r.2.1 = .ok then (r.1.fillLine core line (r.1.fillBytes core line r.2.2), .ok, r.1.victim core (lineSet line)) else (r.1, r.2.1, 0) := by
  unfold State.cacheLine
  dsimp only
  rw [h]
  dsimp only
  split
  · next hok => exact (if_pos hok).symm
  · next hne => exact (if_neg hne).symm

theorem State.hitWay_cacheStep (way : Nat) : s.CacheStep core [.regs, .memPlru] (s.hitWay core line way) :=
  ((s.bumpCore_cacheStep core (by decide) (by decide) 1).mono (by decide)).trans ((State.useWay_cacheStep _ core _ way).mono (by decide))

theorem State.fillLine_cacheStep (bytes : List Byte) : s.CacheStep core cacheParts (s.fillLine core line bytes) :=
  (((s.dropWay_cacheStep core _ _ true).mono (by decide)).trans ((State.setCline_cacheStep _ core _ _ _).mono (by decide))).trans
    ((State.useWay_cacheStep _ core _ _).mono (by decide))

theorem State.readNear_cacheStep (a n : Nat) : s.CacheStep core accessParts (s.readNear a n).1 :=
  State.accessStep core (s.readNear_touches a n) (s.readNear_regsWithin a n) fun _ h => h

theorem State.missRead_cacheStep : s.CacheStep core accessParts ((s.bumpCore core 0x7030 1).readNear (64 * line) 64).1 :=
  ((s.bumpCore_cacheStep core (by decide) (by decide) 1).mono (by decide)).trans (State.readNear_cacheStep _ core _ _)

theorem State.cacheLine_cacheStep : s.CacheStep core cacheParts (s.cacheLine core line).1 := by
  cases h : s.findWay core line with
  | some w =>
    have hhit := (s.hitWay_cacheStep core line w).mono (l' := cacheParts) (by decide)
    rw [s.cacheLine_hit core line h]
    dsimp only
    split
    · exact (hhit.trans ((State.lineBad_cacheStep _ core line).mono (by decide))).trans
        ((State.dropWay_cacheStep _ core _ w false).mono (by decide))
    · split
      · exact hhit
      · exact (hhit.trans ((State.bumpCore_cacheStep _ core (by decide) (by decide) _).mono (by decide))).trans
          ((State.setCline_cacheStep _ core _ w _).mono (by decide))
  | none =>
    have hread := (s.missRead_cacheStep core line).mono (l' := cacheParts) (by decide)
    rw [s.cacheLine_miss core line h]
    dsimp only
    split
    · exact hread.trans (State.fillLine_cacheStep _ core line _)
    · exact hread

theorem State.putLine_cacheStep (way a : Nat) (bytes : List Byte) : s.CacheStep core [.memCache, .cores] (s.putLine core way a bytes) :=
  ((s.setCline_cacheStep core _ way _).mono (by decide)).trans ((State.dropLr_cacheStep _ core (a / 64)).mono (by decide))

end

/-! ### A line that is there, sound -/

/-- A core's cache holds a line in a way, with no error that a read has yet to meet. -/
structure State.LineIn (s : State) (core line w : Nat) : Prop where
  found : s.findWay core line = some w
  sound : (s.cline core (lineSet line) w).err = []

section
variable {s t : State} {core line w : Nat}

theorem State.LineIn.congr (h : s.LineIn core line w) (hc : ∀ k, t.cline core (lineSet line) k = s.cline core (lineSet line) k) :
    t.LineIn core line w :=
  ⟨(State.findWay_congr fun k => by rw [hc]).trans h.found, by rw [hc]; exact h.sound⟩

theorem State.LineIn.touches {l : List Part} (h : s.LineIn core line w) (ht : s.Touches l t) (hp : .memCache ∉ l) : t.LineIn core line w :=
  h.congr fun _ => ht.cline hp _ _ _

/-- The way of a line rewritten with the same line, valid and sound, is the way of that line. -/
theorem State.lineIn_setCline (h : s.findWay core line = some w) (v : CLine) (hv : v.holds line = true) (he : v.err = []) :
    (s.setCline core (lineSet line) w v).LineIn core line w := by
  refine ⟨(State.findWay_congr fun k => ?_).trans h, by rw [State.cline_setCline, if_pos rfl, he]⟩
  rw [State.cline_setCline]
  split
  · next hk => rw [hk, hv, State.holds_of_findWay h]
  · rfl

theorem State.not_holds_of_missing (h : s.findWay core line = none) {k : Nat} (hk : k < 16) :
    (s.cline core (lineSet line) k).holds line = false :=
  Bool.eq_false_iff.2 (List.find?_eq_none.1 h k (List.mem_range.2 hk))

/-- A missing line that was filled is in the way of the victim. -/
theorem State.lineIn_fillLine (h : s.findWay core line = none) (bytes : List Byte) :
    (s.fillLine core line bytes).LineIn core line (s.victim core (lineSet line)) := by
  have hlt := s.victim_lt core (lineSet line)
  generalize hw : s.victim core (lineSet line) = w at hlt
  have hset : ∀ k, (s.fillLine core line bytes).cline core (lineSet line) k =
      if k = w then { valid := true, line := line, dirty := false, data := BitVec.ofNat 512 (leNat bytes) }
      else s.cline core (lineSet line) k := fun k => by
    rw [State.fillLine, hw, (State.useWay_touches _ core _ _).cline (by decide), State.cline_setCline, State.cline_dropWay]
    split
    · rfl
    · rfl
  refine ⟨State.findWay_of_only hlt ?_ fun k hk hne => ?_, ?_⟩
  · rw [hset, if_pos rfl, CLine.holds_iff]
    exact ⟨rfl, rfl⟩
  · rw [hset, if_neg hne]
    exact State.not_holds_of_missing h hk
  · rw [hset, if_pos rfl]

/-- A line brought in is there, sound. -/
theorem State.lineIn_of_cacheLine (hok : (s.cacheLine core line).2.1 = .ok) :
    (s.cacheLine core line).1.LineIn core line (s.cacheLine core line).2.2 := by
  cases h : s.findWay core line with
  | some w =>
    have hfind : (s.hitWay core line w).findWay core line = some w :=
      (State.findWay_congr fun k => by rw [(s.hitWay_cacheStep core line w).touches.cline (by decide)]).trans h
    rw [s.cacheLine_hit core line h] at hok ⊢
    dsimp only at hok ⊢
    split at hok
    · cases hok
    · next hbad =>
      rw [if_neg hbad]
      split
      · next herr =>
        refine ⟨hfind, ?_⟩
        rw [(s.hitWay_cacheStep core line w).touches.cline (by decide)]
        exact List.isEmpty_iff.1 herr
      · have hcount := State.bumpCore_cacheStep (s.hitWay core line w) core (off := 0x7040) (by decide) (by decide)
          (s.cline core (lineSet line) w).err.length
        refine State.lineIn_setCline ?_ _ (State.holds_of_findWay h) rfl
        exact (State.findWay_congr fun k => hcount.touches.cline (by decide) core (lineSet line) k ▸ rfl).trans hfind
  | none =>
    rw [s.cacheLine_miss core line h] at hok ⊢
    dsimp only at hok ⊢
    have hread := s.missRead_cacheStep core line
    split
    · exact State.lineIn_fillLine ((State.findWay_congr fun k => by rw [hread.touches.cline (by decide)]).trans h) _
    · next hne =>
      rw [if_neg hne] at hok
      exact absurd hok hne

/-- A line that is there, sound, is a hit that changes only what a hit changes. -/
theorem State.LineIn.cacheLine (h : s.LineIn core line w) : s.cacheLine core line = (s.hitWay core line w, .ok, w) := by
  have hbad : (s.cline core (lineSet line) w).bad = false := by rw [CLine.bad, h.sound]; rfl
  rw [s.cacheLine_hit core line h.found]
  simp [hbad, h.sound]

end

/-! ### Bytes in one line -/

/-- The bytes of an extent that lies in one line. -/
def CLine.part (c : CLine) (a n : Nat) : List Byte := (c.bytes.drop (a % 64)).take n

theorem blockPieces_of_inLine {a : Nat} {bs : List Byte} (hne : bs ≠ []) (hfit : a % 64 + bs.length ≤ 64) :
    blockPieces bs.length a bs = [(a, bs)] := by
  obtain ⟨k, hk⟩ := Nat.exists_eq_succ_of_ne_zero (mt List.length_eq_zero_iff.1 hne)
  have hempty : bs.isEmpty = false := List.isEmpty_eq_false_iff.2 hne
  have hdrop : bs.drop (64 - a % 64) = [] := List.drop_eq_nil_of_le (by omega)
  have hnil : ∀ fuel b, blockPieces fuel b [] = [] := fun fuel b => by cases fuel <;> rfl
  rw [hk, blockPieces, hempty, hdrop, hnil, List.take_of_length_le (by omega)]
  rfl

section
variable (s : State) (core : Nat) {a : Nat}

/-- A read in one line brings the line in, and delivers its part. -/
theorem State.cacheRead_inLine {n : Nat} (hn : 0 < n) (hfit : a % 64 + n ≤ 64) :
    s.cacheRead core a n =
      let r := s.cacheLine core (a / 64)
      (r.1, r.2.1, (r.1.cline core (lineSet (a / 64)) r.2.2).part a n) := by
  have hpieces : blockPieces n a (List.replicate n 0) = [(a, List.replicate n 0)] := by
    have hne : List.replicate n (0 : Byte) ≠ [] := by
      rw [ne_eq, List.replicate_eq_nil_iff]
      omega
    have h := blockPieces_of_inLine (a := a) hne (by rw [List.length_replicate]; exact hfit)
    rwa [List.length_replicate] at h
  rw [State.cacheRead, hpieces]
  simp [CLine.part, Status.orElse]

/-- A write in one line brings the line in, and puts the bytes into it. -/
theorem State.cacheWrite_inLine {bytes : List Byte} (hne : bytes ≠ []) (hfit : a % 64 + bytes.length ≤ 64)
    (hok : (s.cacheLine core (a / 64)).2.1 = .ok) :
    s.cacheWrite core a bytes = ((s.cacheLine core (a / 64)).1.putLine core (s.cacheLine core (a / 64)).2.2 a bytes, .ok) := by
  simp [State.cacheWrite, blockPieces_of_inLine hne hfit, hok]

theorem State.cacheRead_cacheStep (a n : Nat) : s.CacheStep core cacheParts (s.cacheRead core a n).1 := by
  unfold State.cacheRead
  generalize blockPieces n a (List.replicate n 0) = es
  suffices h : ∀ x : State × Status × List Byte, s.CacheStep core cacheParts x.1 → s.CacheStep core cacheParts (es.foldl _ x).1 from
    h (s, .ok, []) (.refl _ _ s)
  induction es with
  | nil => exact fun _ h => h
  | cons e rest ih => exact fun x h => ih _ (h.trans (x.1.cacheLine_cacheStep core _))

theorem State.cacheWrite_cacheStep (a : Nat) (bytes : List Byte) : s.CacheStep core cacheParts (s.cacheWrite core a bytes).1 := by
  unfold State.cacheWrite
  generalize blockPieces bytes.length a bytes = es
  suffices h : ∀ x : State × Status, s.CacheStep core cacheParts x.1 → s.CacheStep core cacheParts (es.foldl _ x).1 from
    h (s, .ok) (.refl _ _ s)
  induction es with
  | nil => exact fun _ h => h
  | cons e rest ih =>
    intro x h
    refine ih _ ?_
    have hline := h.trans (x.1.cacheLine_cacheStep core (e.1 / 64))
    dsimp only
    split
    · exact hline.trans ((State.putLine_cacheStep _ core _ _ _).mono (by decide))
    · exact hline

end

theorem length_bytes (c : CLine) : c.bytes.length = 64 := length_leBytes 64 _

/-- Bytes are the low bytes of the number that they stand for. -/
theorem leBytes_leNat (l : List Byte) : leBytes l.length (leNat l) = l := by
  induction l with
  | nil => rfl
  | cons b rest ih =>
    have hlt := b.isLt
    have hlow : BitVec.ofNat 8 (b.toNat + 256 * leNat rest) = b := BitVec.eq_of_toNat_eq (by rw [BitVec.toNat_ofNat]; omega)
    have hhigh : (b.toNat + 256 * leNat rest) / 256 = leNat rest := by omega
    rw [List.length_cons, leNat, leBytes, hlow, hhigh, ih]

theorem leNat_lt (l : List Byte) : leNat l < 2 ^ (8 * l.length) := by
  have h := leNat_leBytes l.length (leNat l)
  rw [leBytes_leNat] at h
  exact h ▸ Nat.mod_lt _ (Nat.two_pow_pos _)

theorem leBytes_ofNat_leNat {n : Nat} {l : List Byte} (hl : l.length = n) : leBytes n (BitVec.ofNat (8 * n) (leNat l)).toNat = l := by
  subst hl
  rw [BitVec.toNat_ofNat, Nat.mod_eq_of_lt (leNat_lt l), leBytes_leNat]

/-- A line's bytes are those that its data was made of. -/
theorem bytes_of_data {c : CLine} {l : List Byte} (hl : l.length = 64) (hd : c.data = BitVec.ofNat 512 (leNat l)) : c.bytes = l := by
  rw [CLine.bytes, hd]
  exact leBytes_ofNat_leNat hl

/-- Bytes put into a line read back from it. -/
theorem State.part_putLine (s : State) (core w a : Nat) {bytes : List Byte} (hfit : a % 64 + bytes.length ≤ 64) :
    ((s.putLine core w a bytes).cline core (lineSet (a / 64)) w).part a bytes.length = bytes := by
  have hlen := length_bytes (s.cline core (lineSet (a / 64)) w)
  have htake : ((s.cline core (lineSet (a / 64)) w).bytes.take (a % 64)).length = a % 64 := by
    rw [List.length_take]
    omega
  rw [State.putLine, (State.dropLr_cacheStep _ core _).touches.cline (by decide), State.cline_setCline, if_pos rfl, CLine.part,
    bytes_of_data (by simp only [List.length_append, List.length_take, List.length_drop]; omega) rfl, List.append_assoc,
    List.drop_left' htake, List.take_left' rfl]

end Sys2Proof.Machine
end

section
/-! SUPPORT. Atomic operations at their home: the arithmetic of R240, and what is left of the line, the counter and the core. -/

namespace Sys2Proof.Machine

/-! ### The new value -/

/-- The two's-complement reading of a number is that of its low bits. -/
theorem signed_eq_toInt {w : Nat} (hw : 0 < w) (x : BitVec w) : signed w x.toNat = x.toInt := by
  have hpow : 2 ^ w = 2 * 2 ^ (w - 1) := by rw [← Nat.pow_succ', Nat.succ_eq_add_one, Nat.sub_add_cancel hw]
  have hiff : 2 * x.toNat < 2 ^ w ↔ x.toNat < 2 ^ (w - 1) := by omega
  rw [signed, BitVec.toInt_eq_toNat_cond, Nat.mod_eq_of_lt x.isLt]
  simp only [hiff]
  split <;> push_cast <;> rfl

theorem slt_eq_signed {w : Nat} (hw : 0 < w) (x y : BitVec w) : x.slt y = decide (signed w x.toNat < signed w y.toNat) := by
  rw [signed_eq_toInt hw, signed_eq_toInt hw, BitVec.slt_eq_decide]

theorem amoSize_cases (code : Nat) (wide : Bool) : amoSize code wide = 4 ∨ amoSize code wide = 8 := by
  unfold amoSize
  split
  · split <;> simp
  · split
    · simp
    · split <;> simp

/-- The floating-point operations are on words. -/
theorem amoSize_fp {code : Nat} (hlo : 0x0E ≤ code) (hhi : code ≤ 0x10) (wide : Bool) : amoSize code wide = 4 := by
  rw [amoSize, if_neg (by omega), if_pos hhi]

section
variable {code size : Nat}

/-- The integer rows: a sum, the lesser and the greater as two's complement and as naturals, a swap, and a compare-and-swap. -/
theorem amoNew_integer (hpos : 0 < size) (hcode : code < 0x0E) (x : BitVec (8 * size)) (op0 op1 : Nat) :
    amoNew code size x.toNat op0 op1 = (amoRow (8 * size) code x (BitVec.ofNat _ op0) (BitVec.ofNat _ op1)).toNat := by
  generalize hy : BitVec.ofNat (8 * size) op0 = y
  generalize hz : BitVec.ofNat (8 * size) op1 = z
  have hy' : op0 % 2 ^ (8 * size) = y.toNat := by rw [← hy, BitVec.toNat_ofNat]
  have hz' : op1 % 2 ^ (8 * size) = z.toNat := by rw [← hz, BitVec.toNat_ofNat]
  have hslt := slt_eq_signed (w := 8 * size) (by omega) x y
  have hmin : min x.toNat y.toNat = if x.toNat < y.toNat then x.toNat else y.toNat := by split <;> omega
  have hmax : max x.toNat y.toNat = if x.toNat < y.toNat then y.toNat else x.toNat := by split <;> omega
  interval_cases code <;>
    simp only [amoNew, amoRow, hy', hz', hslt, hmin, hmax, BitVec.toNat_add, BitVec.ult, BitVec.toNat_inj, Nat.reduceDiv,
      decide_eq_true_eq, apply_ite BitVec.toNat]

/-- The bitwise rows. -/
theorem amoNew_bitwise (hlo : 0x11 ≤ code) (hhi : code ≤ 0x13) (x : BitVec (8 * size)) (op0 op1 : Nat) :
    amoNew code size x.toNat op0 op1 = (amoRow (8 * size) code x (BitVec.ofNat _ op0) (BitVec.ofNat _ op1)).toNat := by
  interval_cases code <;>
    simp [amoNew, amoRow]

/-- The floating-point rows, on words. -/
theorem amoNew_fp (hlo : 0x0E ≤ code) (hhi : code ≤ 0x10) (x : BitVec (8 * 4)) (op0 op1 : Nat) :
    amoNew code 4 x.toNat op0 op1 = (amoRow (8 * 4) code x (BitVec.ofNat _ op0) (BitVec.ofNat _ op1)).toNat := by
  have hlow : BitVec.ofNat 32 (op0 % 2 ^ (8 * 4)) = BitVec.ofNat 32 op0 := BitVec.eq_of_toNat_eq (by simp)
  interval_cases code <;>
    simp [amoNew, amoRow] at hlow ⊢ <;> rw [hlow]

end

/-- The value that an operation writes is that of its row. -/
theorem amoNew_eq_amoRow {code : Nat} (hcode : code ≤ 0x13) (wide : Bool) (x : BitVec (8 * amoSize code wide)) (op0 op1 : Nat) :
    amoNew code (amoSize code wide) x.toNat op0 op1 =
      (amoRow (8 * amoSize code wide) code x (BitVec.ofNat _ op0) (BitVec.ofNat _ op1)).toNat := by
  have hpos : 0 < amoSize code wide := by rcases amoSize_cases code wide with h | h <;> omega
  by_cases hint : code < 0x0E
  · exact amoNew_integer hpos hint x op0 op1
  by_cases hfp : code ≤ 0x10
  · have hsize := amoSize_fp (Nat.le_of_not_lt hint) hfp wide
    generalize amoSize code wide = size at *
    subst hsize
    exact amoNew_fp (Nat.le_of_not_lt hint) hfp x op0 op1
  · exact amoNew_bitwise (by omega) hcode x op0 op1

/-! ### At the home -/

section
variable {s : State} {core a size : Nat}

/-- An aligned operand lies in one line. -/
theorem inLine_of_aligned (hsize : size = 4 ∨ size = 8) (h : a % size = 0) : a % 64 + size ≤ 64 := by
  rcases hsize with rfl | rfl <;> omega

theorem State.LineIn.putLine {line w : Nat} (h : s.LineIn core line w) (ha : a / 64 = line) (bytes : List Byte) :
    (s.putLine core w a bytes).LineIn core line w := by
  subst ha
  have hset := State.lineIn_setCline h.found (w := w)
    { s.cline core (lineSet (a / 64)) w with dirty := true, data := BitVec.ofNat 512 (leNat
      ((s.cline core (lineSet (a / 64)) w).bytes.take (a % 64) ++ bytes ++
        (s.cline core (lineSet (a / 64)) w).bytes.drop (a % 64 + bytes.length))) }
    (State.holds_of_findWay h.found) h.sound
  exact hset.touches (State.dropLr_cacheStep _ core (a / 64)).touches (by decide)

/-- The old value of an atomic operation: the location's, in the line brought in. -/
def State.amoOld (s : State) (core a size : Nat) : Nat :=
  leNat (((s.cacheLine core (a / 64)).1.cline core (lineSet (a / 64)) (s.cacheLine core (a / 64)).2.2).part a size)

/-- The line of an atomic operation with its new value. -/
def State.amoPut (s : State) (core a size v : Nat) : State :=
  (s.cacheLine core (a / 64)).1.putLine core (s.cacheLine core (a / 64)).2.2 a (leBytes size v)

theorem State.amoPut_cacheStep (s : State) (core a size v : Nat) : s.CacheStep core cacheParts (s.amoPut core a size v) :=
  (s.cacheLine_cacheStep core _).trans ((State.putLine_cacheStep _ core _ a _).mono (by decide))

/-- An operation that passes its checks and gets its line writes the new value, and counts. -/
theorem State.amoAt_done (hok : s.amoOk core a size) (hline : (s.cacheLine core (a / 64)).2.1 = .ok) (code op0 op1 : Nat) :
    s.amoAt core a code size op0 op1 =
      ((s.amoPut core a size (amoNew code size (s.amoOld core a size) op0 op1)).bumpCore core 0x7050 1, .ok, s.amoOld core a size) := by
  obtain ⟨habsent, hfenced, hfit, hfw, halign⟩ := hok
  have haddr : (decide (Config.nearBytes < a + size) || touchesFw a size) = false := by
    rw [hfw, Bool.or_false, decide_eq_false_iff_not]
    omega
  simp only [State.amoAt, habsent, hfenced, haddr, halign, hline, Bool.false_eq_true, if_false, ne_eq, not_true]
  rfl

theorem State.cacheRead_aligned (s : State) (core : Nat) (hsize : size = 4 ∨ size = 8) (halign : a % size = 0) :
    (s.cacheRead core a size).2.1 = (s.cacheLine core (a / 64)).2.1 ∧ leNat (s.cacheRead core a size).2.2 = s.amoOld core a size := by
  rw [s.cacheRead_inLine core (by omega) (inLine_of_aligned hsize halign)]
  exact ⟨rfl, rfl⟩

theorem State.amoOld_lt : s.amoOld core a size < 2 ^ (8 * size) := by
  have hlen : (((s.cacheLine core (a / 64)).1.cline core (lineSet (a / 64)) (s.cacheLine core (a / 64)).2.2).part a size).length ≤ size := by
    rw [CLine.part, List.length_take]
    exact Nat.min_le_left _ _
  exact Nat.lt_of_lt_of_le (leNat_lt _) (Nat.pow_le_pow_right (by decide) (by omega))

/-- The location reads back as the value that the operation wrote. -/
theorem State.amoPut_reads (hsize : size = 4 ∨ size = 8) (halign : a % size = 0) (hline : (s.cacheLine core (a / 64)).2.1 = .ok) (v n : Nat) :
    ((s.amoPut core a size v).bumpCore core 0x7050 n).amoOld core a size = v % 2 ^ (8 * size) := by
  have hin := ((State.lineIn_of_cacheLine hline).putLine rfl (leBytes size v)).touches
    ((s.amoPut core a size v).bump_touches (coreOff core 0x7050) n) (by decide)
  have hpart := State.part_putLine (s.cacheLine core (a / 64)).1 core (s.cacheLine core (a / 64)).2.2 a (bytes := leBytes size v)
    (by rw [length_leBytes]; exact inLine_of_aligned hsize halign)
  rw [length_leBytes] at hpart
  rw [State.amoOld, State.bumpCore, State.LineIn.cacheLine hin]
  dsimp only
  rw [(State.hitWay_cacheStep _ core _ _).touches.cline (by decide), (State.bump_touches _ _ n).cline (by decide), State.amoPut, hpart,
    leNat_leBytes]

theorem not_cacheReg_ccAmo (core : Nat) : ¬ CacheReg core (coreOff core 0x7050) := by
  unfold CacheReg ChipReg coreOff
  omega

end

/-! ### `AMO_CMD` -/

/-- The commands that write `AMO_CMD`, with the code that each writes (R240, R243). -/
def amoCommands (core : Nat) (wide : Bool) : List (Instr × Nat) :=
  [(.amoIntegerAdd core wide, b2n wide), (.amoSignedMinimum core wide, 2 + b2n wide), (.amoSignedMaximum core wide, 4 + b2n wide),
    (.amoUnsignedMinimum core wide, 6 + b2n wide), (.amoUnsignedMaximum core wide, 8 + b2n wide), (.amoSwap core wide, 10 + b2n wide),
    (.amoCompareAndSwap core wide, 12 + b2n wide), (.amoFp32Add core, 14), (.amoFp32Minimum core, 15), (.amoFp32Maximum core, 16)]

theorem amoCommands_code {core : Nat} {wide : Bool} {e : Instr × Nat} (h : e ∈ amoCommands core wide) : e.2 ≤ 0x10 := by
  have hwide : b2n wide ≤ 1 := by cases wide <;> decide
  simp only [amoCommands, List.mem_cons, List.not_mem_nil, or_false] at h
  rcases h with rfl | rfl | rfl | rfl | rfl | rfl | rfl | rfl | rfl | rfl <;> dsimp only <;> omega

theorem exec_amoCommand {s : State} {core code : Nat} {wide : Bool} {c : Instr} (h : (c, code) ∈ amoCommands core wide)
    (hcore : isCore core = true) (hlive : s.regsLive = true) : exec c s = .next (s.amoCmd core code) := by
  have hregs : ∀ t, ifUnit (isCore core) "core" (s.byRegs t) = .next t := fun t => by simp [hcore, State.byRegs, hlive]
  simp only [amoCommands, List.mem_cons, List.not_mem_nil, or_false, Prod.mk.injEq] at h
  rcases h with ⟨rfl, rfl⟩ | ⟨rfl, rfl⟩ | ⟨rfl, rfl⟩ | ⟨rfl, rfl⟩ | ⟨rfl, rfl⟩ | ⟨rfl, rfl⟩ | ⟨rfl, rfl⟩ | ⟨rfl, rfl⟩ | ⟨rfl, rfl⟩ | ⟨rfl, rfl⟩
  · exact (hregs _).trans (by rw [Nat.zero_add])
  all_goals exact hregs _

section
variable (s : State) (core code : Nat)

/-- The operation that the registers of a core name. -/
def State.amoNamed : State × Status × Nat :=
  s.amoAt core (s.reg (coreOff core 0x7100)).toNat code (amoSize code false) (s.reg (coreOff core 0x7108)).toNat
    (s.reg (coreOff core 0x7110)).toNat

/-- What `AMO_CMD` leaves once its operation has ended with a status and an old value. -/
def State.amoEnd (r : State × Status × Nat) : State :=
  ((r.1.count r.2.1).setReg (coreOff core 0x7128) (BitVec.ofNat 64 r.2.1.code)).setReg (coreOff core 0x7120) (BitVec.ofNat 64 r.2.2)

theorem State.amoCmd_eq (hcode : code ≤ 0x10) : s.amoCmd core code = State.amoEnd core (s.amoNamed core code) := by
  rw [State.amoCmd, if_neg (by omega)]
  rfl

theorem State.amoEnd_status (r : State × Status × Nat) : (State.amoEnd core r).reg (coreOff core 0x7128) = BitVec.ofNat 64 r.2.1.code := by
  rw [State.amoEnd, State.reg_setReg_ne _ _ _ _ (by unfold coreOff; omega), State.reg_setReg_self]

theorem State.amoEnd_result (r : State × Status × Nat) : (State.amoEnd core r).reg (coreOff core 0x7120) = BitVec.ofNat 64 r.2.2 :=
  State.reg_setReg_self _ _ _

theorem State.amoEnd_touches (r : State × Status × Nat) : r.1.Touches [.regs] (State.amoEnd core r) :=
  ((r.1.count_touches r.2.1).trans (State.setReg_touches _ _ _)).trans (State.setReg_touches _ _ _)

end

section
variable {s : State} {core a code size op0 op1 : Nat}

theorem State.amoAt_absent (h : (s.core core).absent = true) : s.amoAt core a code size op0 op1 = (s, .pageFault, 0) := by
  rw [State.amoAt, if_pos h]

theorem State.amoAt_fenced (ha : (s.core core).absent = false) (h : (s.core core).fenced = true) :
    s.amoAt core a code size op0 op1 = (s, .ownerLost, 0) := by
  rw [State.amoAt, if_neg (by simp [ha]), if_pos h]

theorem State.amoAt_misaligned (ha : (s.core core).absent = false) (hf : (s.core core).fenced = false) (hfit : a + size ≤ Config.nearBytes)
    (hfw : touchesFw a size = false) (h : a % size ≠ 0) : s.amoAt core a code size op0 op1 = (s, .reservedNonzero, 0) := by
  have haddr : (decide (Config.nearBytes < a + size) || touchesFw a size) = false := by
    rw [hfw, Bool.or_false, decide_eq_false_iff_not]
    omega
  simp only [State.amoAt, ha, hf, haddr, h, Bool.false_eq_true, if_false, ne_eq, not_false_eq_true, if_true]

end

theorem exec_amoResultRead {s : State} {core : Nat} (hcore : isCore core = true) (hlive : s.cpLive core = true) :
    exec (.amoResultRead core) s = .next (s.deliver core (s.reg (coreOff core 0x7120))) := by
  simp [exec, execAmoResultRead, hcore, byCp_of_live _ _ _ hlive]

section
variable {s : State} {core code : Nat} {wide : Bool} {c : Instr} (hc : (c, code) ∈ amoCommands core wide)
  (hcore : isCore core = true) (hlive : s.regsLive = true)
include hc hcore hlive

theorem exec_amoCommand_eq : exec c s = .next (State.amoEnd core (s.amoNamed core code)) :=
  (exec_amoCommand hc hcore hlive).trans (congrArg _ (s.amoCmd_eq core code (amoCommands_code hc)))

/-- An operation that changes nothing leaves its status and 0. -/
theorem amoCommand_refused {st : Status} (h : s.amoNamed core code = (s, st, 0)) :
    ∃ t, exec c s = .next t ∧ t.reg (coreOff core 0x7128) = BitVec.ofNat 64 st.code ∧ t.reg (coreOff core 0x7120) = 0 ∧ t.mem = s.mem :=
  ⟨_, exec_amoCommand_eq hc hcore hlive, (State.amoEnd_status core _).trans (by rw [h]),
    (State.amoEnd_result core _).trans (by rw [h]; rfl), ((State.amoEnd_touches core _).mem (by decide)).trans (by rw [h])⟩

/-- An operation that is done leaves OK and the old value, which a read of `AMO_RESULT` delivers. -/
theorem amoCommand_done {old : Nat} (hlive' : (s.amoNamed core code).1.cpLive core = true) (h : (s.amoNamed core code).2 = (.ok, old)) :
    ∃ t u, exec c s = .next t ∧ t.reg (coreOff core 0x7128) = 0 ∧ t.reg (coreOff core 0x7120) = BitVec.ofNat 64 old ∧
      t.mem = (s.amoNamed core code).1.mem ∧ exec (.amoResultRead core) t = .next u ∧ (u.core core).cpValue = BitVec.ofNat 64 old := by
  have htouch := State.amoEnd_touches core (s.amoNamed core code)
  have hresult : (State.amoEnd core (s.amoNamed core code)).reg (coreOff core 0x7120) = BitVec.ofNat 64 old :=
    (State.amoEnd_result core _).trans (by rw [h])
  have hread := exec_amoResultRead hcore ((htouch.cpLive (by decide) (by decide) core).trans hlive')
  refine ⟨_, _, exec_amoCommand_eq hc hcore hlive, (State.amoEnd_status core _).trans (by rw [h]; rfl), hresult, htouch.mem (by decide),
    hread, ?_⟩
  rw [State.deliver, State.core_setCore_self, hresult]

end

/-- Settles O12: the location in its line, and `AMO_CMD` through it. -/
theorem atomicOperations : Obligations.AtomicOperations := by
  refine ⟨fun s home a code op0 op1 wide hcode hok hline => ?_, fun s core code wide c hc hcore hlive => ?_⟩
  · intro size old r
    have hsize : size = 4 ∨ size = 8 := amoSize_cases code wide
    have halign : a % size = 0 := hok.2.2.2.2
    have hold : old = s.amoOld home a size := (s.cacheRead_aligned home hsize halign).2
    have hr : r = _ := State.amoAt_done hok hline code op0 op1
    have hnew := amoNew_eq_amoRow hcode wide (BitVec.ofNat _ old) op0 op1
    rw [BitVec.toNat_ofNat, hold, Nat.mod_eq_of_lt State.amoOld_lt] at hnew
    refine ⟨by rw [hr, hold], ?_, ?_⟩
    · rw [(State.cacheRead_aligned r.1 home hsize halign).2, hr, State.amoPut_reads hsize halign hline, hnew, hold]
      exact Nat.mod_eq_of_lt (BitVec.isLt _)
    · rw [hr]
      exact (State.reg_bump_self _ _ _).trans
        (congrArg (· + 1) ((s.amoPut_cacheStep home a size _).regs _ (not_cacheReg_ccAmo home)))
  · intro a size refused
    have hrefused : ∀ st : Status, s.amoNamed core code = (s, st, 0) → refused st.code :=
      fun st h => amoCommand_refused (wide := wide) hc hcore hlive h
    refine ⟨fun hok hread => ?_, fun habsent => hrefused .pageFault (State.amoAt_absent habsent),
      fun habsent hfenced => hrefused .ownerLost (State.amoAt_fenced habsent hfenced),
      fun habsent hfenced hfit hfw halign => hrefused .reservedNonzero (State.amoAt_misaligned habsent hfenced hfit hfw halign)⟩
    obtain ⟨hstatus, hold⟩ := s.cacheRead_aligned core (amoSize_cases code false) hok.2.2.2.2
    have hamo : s.amoNamed core code = _ := State.amoAt_done hok (hstatus ▸ hread) code _ _
    have hlive' : s.cpLive core = true := by
      obtain ⟨habsent, hfenced, -⟩ := hok
      simpa [State.cpLive, State.corePresent, habsent, hfenced, State.regsLive] using hlive
    refine amoCommand_done (wide := wide) hc hcore hlive ?_ (by rw [hamo, hold])
    rw [hamo]
    exact ((s.amoPut_cacheStep core a size _).cpLive (by decide) core).trans hlive'

end Sys2Proof.Machine
end

section
/-! SUPPORT. RV64A instructions, load-reserve and store-conditional, what ends a reservation, and O13 (R242, R244). -/

namespace Sys2Proof.Machine

/-! ### Cores replaced -/

section
variable {α : Type} (d : α)

theorem Store.put_dropAt (a : Nat) (m : Store α) (v : α) : Store.put (Store.dropAt d a m) a v = (a, v) :: m := by
  cases m with
  | nil => rfl
  | cons e rest =>
    rw [Store.dropAt]
    split
    · next h => rw [Store.put, if_neg (by omega), if_pos h]
    · rw [Store.put, if_pos rfl]

theorem Store.drop_dropAt (a : Nat) (m : Store α) : Store.drop d (Store.dropAt d a m) a = Store.dropAt d a m := by
  cases m with
  | nil => rfl
  | cons e rest =>
    by_cases h : a < e.1
    · rw [Store.dropAt, if_pos h, Store.drop, if_neg (by omega), if_pos h]
    · rw [Store.dropAt, if_neg h, Store.drop, if_pos rfl, Store.dropAt, if_neg h]

theorem Store.put_put (m : Store α) (k : Nat) (v w : α) : Store.put (Store.put m k v) k w = Store.put m k w := by
  induction m with
  | nil => simp [Store.put]
  | cons e rest ih =>
    rw [Store.put, Store.put]
    split
    · simp [Store.put]
    · next hne =>
      split
      · simp [Store.put]
      · next hle => rw [Store.put, if_neg hne, if_neg hle, ih]

theorem Store.put_drop (m : Store α) (k : Nat) (w : α) : Store.put (Store.drop d m k) k w = Store.put m k w := by
  induction m with
  | nil => rfl
  | cons e rest ih =>
    rw [Store.put, Store.drop]
    split
    · next h => rw [h, Store.put_dropAt]
    · next hne =>
      split
      · next hlt => rw [Store.put, if_neg hne, if_pos hlt]
      · next hle => rw [Store.put, if_neg hne, if_neg hle, ih]

theorem Store.drop_put (m : Store α) (k : Nat) (v : α) : Store.drop d (Store.put m k v) k = Store.drop d m k := by
  induction m with
  | nil => simp [Store.put, Store.drop, Store.dropAt]
  | cons e rest ih =>
    rw [Store.put, Store.drop]
    split
    · next h => rw [Store.drop, if_pos rfl, h]
    · next hne =>
      split
      · next hlt => rw [Store.drop, if_pos rfl, Store.dropAt, if_pos hlt]
      · next hle => rw [Store.drop, if_neg hne, if_neg hle, ih]

theorem Store.drop_drop (m : Store α) (k : Nat) : Store.drop d (Store.drop d m k) k = Store.drop d m k := by
  induction m with
  | nil => rfl
  | cons e rest ih =>
    by_cases h : k = e.1
    · rw [Store.drop, if_pos h, h, Store.drop_dropAt]
    by_cases hlt : k < e.1
    · rw [Store.drop, if_neg h, if_pos hlt, Store.drop, if_neg h, if_pos hlt]
    · rw [Store.drop, if_neg h, if_neg hlt, Store.drop, if_neg h, if_neg hlt, ih]

/-- A key written twice holds what was written last. -/
theorem Store.set_set [DecidableEq α] (m : Store α) (k : Nat) (v w : α) : Store.set d (Store.set d m k v) k w = Store.set d m k w := by
  unfold Store.set
  split
  · split
    · exact Store.drop_drop d m k
    · exact Store.drop_put d m k v
  · split
    · exact Store.put_drop d m k w
    · exact Store.put_put m k v w

end

theorem State.setCore_setCore (s : State) (c : Nat) (C D : Core) : (s.setCore c C).setCore c D = s.setCore c D := by
  simp only [State.setCore, Store.set_set]

/-! ### The instructions -/

section
variable {s : State} {core : Nat} {a : W64} (hcore : isCore core = true) (hlive : s.cpLive core = true)
include hcore hlive

theorem exec_rv64aAmo {code : Nat} (hcode : rvCode code = true) (wide : Bool) (v : W64) :
    exec (.rv64aAmo core code wide a v) s = .next (s.rvAmo core code wide a v) := by
  simp [exec, execRv64aAmo, hcore, hcode, byCp_of_live _ _ _ hlive]

theorem exec_lr {size : Nat} (hsize : lrSize size = true) : exec (.lr core a size) s = .next (s.loadReserved core a size) := by
  simp [exec, execLr, hcore, hsize, byCp_of_live _ _ _ hlive]

theorem exec_sc {size : Nat} (hsize : lrSize size = true) (v : W64) :
    exec (.sc core a size v) s = .next (s.storeConditional core a size v) := by
  simp [exec, execSc, hcore, hsize, byCp_of_live _ _ _ hlive]

end

/-- A load is barred where a store is not only by less. -/
theorem State.cpBarred_load {s : State} {a n : Nat} (h : s.cpBarred a n true = false) : s.cpBarred a n false = false := by
  simp only [State.cpBarred, Bool.or_eq_false_iff] at h ⊢
  exact ⟨h.1, Bool.false_and _⟩

section
variable {s : State} {core size : Nat} {a : W64} (hbar : s.cpBarred a.toNat size true = false)
include hbar

theorem State.rvAmo_misaligned {code : Nat} {wide : Bool} (hsize : amoSize code wide = size) (h : a.toNat % size ≠ 0) (v : W64) :
    s.rvAmo core code wide a v = s.raise core .storeMisaligned a := by
  simp [State.rvAmo, hsize, hbar, h]

variable (halign : a.toNat % size = 0)
include halign

theorem State.rvAmo_done {code : Nat} {wide : Bool} (hsize : amoSize code wide = size) (v : W64)
    (hok : (s.amoAt core a.toNat code size v.toNat 0).2.1 = .ok) :
    s.rvAmo core code wide a v = (s.amoAt core a.toNat code size v.toNat 0).1.deliver core
      (loaded size (s.amoAt core a.toNat code size v.toNat 0).2.2) := by
  simp [State.rvAmo, hsize, hbar, halign, hok]

/-- The state after a load that reserves its line. -/
def State.reserved (s : State) (core : Nat) (a : W64) (v : W64) : State :=
  (s.deliver core v).setCore core
    { (s.deliver core v).core core with lr := some { line := a.toNat / 64, expires := s.cycle.toNat + 256 } }

theorem State.loadReserved_done (hok : (s.cacheRead core a.toNat size).2.1 = .ok) :
    s.loadReserved core a size =
      (s.cacheRead core a.toNat size).1.reserved core a (loaded size (leNat (s.cacheRead core a.toNat size).2.2)) := by
  simp [State.loadReserved, State.cpBarred_load hbar, halign, hok]
  rfl

theorem State.storeConditional_lost (h : s.scHolds core (a.toNat / 64) = false) (v : W64) :
    s.storeConditional core a size v = s.setCore core { s.core core with lr := none, cpValue := 1 } := by
  simp [State.storeConditional, hbar, halign, h, State.deliver, State.setCore_setCore]

theorem State.storeConditional_done (h : s.scHolds core (a.toNat / 64) = true) (v : W64)
    (hok : ((s.setCore core { s.core core with lr := none }).cacheWrite core a.toNat (leBytes size v.toNat)).2 = .ok) :
    s.storeConditional core a size v =
      ((s.setCore core { s.core core with lr := none }).cacheWrite core a.toNat (leBytes size v.toNat)).1.deliver core 0 := by
  simp [State.storeConditional, hbar, halign, h, hok]

end

theorem State.cpValue_deliver (s : State) (core : Nat) (v : W64) : ((s.deliver core v).core core).cpValue = v := by
  rw [State.deliver, State.core_setCore_self]

/-! ### What ends a reservation -/

section
variable {s : State} {core line : Nat} {r : Reservation} (hlr : (s.core core).lr = some r) (hline : r.line = line)
include hlr hline

/-- A step that may lose the reservation leaves no other. -/
theorem State.CacheStep.lr_dropLr {l : List Part} {t : State} (h : s.CacheStep core l t) : ((t.dropLr core line).core core).lr = none := by
  refine t.lr_dropLr core fun r' hr' => ?_
  rcases h.lost core with e | e
  · rw [e, hlr] at hr'
    exact Option.some.inj hr' ▸ hline
  · rw [e] at hr'
    cases hr'

/-- A write in the line ends the reservation. -/
theorem State.lr_cacheWrite {a : Nat} {bytes : List Byte} (hne : bytes ≠ []) (ha : a / 64 = line) (hfit : a % 64 + bytes.length ≤ 64)
    (hok : (s.cacheLine core line).2.1 = .ok) : ((s.cacheWrite core a bytes).1.core core).lr = none := by
  subst ha
  rw [s.cacheWrite_inLine core hne hfit hok]
  exact ((s.cacheLine_cacheStep core (a / 64)).trans ((State.setCline_cacheStep _ core _ _ _).mono (by decide))).lr_dropLr hlr hline

theorem State.lr_emptyWay {w : Nat} (h : s.findWay core line = some w) : ((s.emptyWay core (lineSet line) w).core core).lr = none := by
  obtain ⟨hvalid, hholds⟩ := CLine.holds_iff.1 (State.holds_of_findWay h)
  rw [State.emptyWay, if_pos hvalid, hholds]
  exact (s.setCline_cacheStep core _ w {}).lr_dropLr hlr hline

theorem State.lr_dropWay {w : Nat} (h : s.findWay core line = some w) (wb : Bool) :
    ((s.dropWay core (lineSet line) w wb).core core).lr = none := by
  rw [State.dropWay_eq]
  exact ((State.flushLine_cacheStep _ core _ wb).lost core).none (State.lr_emptyWay hlr hline h)

/-- Maintenance of a line that the cache holds ends the reservation. -/
theorem State.lr_maintLine (h : (s.findWay core line).isSome = true) (clean inval : Bool) :
    ((s.maintLine core line clean inval).core core).lr = none := by
  obtain ⟨w, hw⟩ := Option.isSome_iff_exists.1 h
  have hclean : ((s.cleanWay core line w).core core).lr = none :=
    (((s.bumpCore_cacheStep core (off := 0x7040) (by decide) (by decide) _).mono (by decide)).trans
      ((State.setCline_cacheStep _ core _ w _).mono (l' := [.regs, .memCache]) (by decide))).lr_dropLr hlr hline
  rw [s.maintLine_found core line hw]
  dsimp only
  split
  · exact State.lr_dropWay hlr hline hw clean
  split
  · split
    · exact State.lr_dropWay hlr hline hw true
    · exact ((State.writeBack_cacheStep _ core line _).lost core).none hclean
  · exact (State.CacheStep.refl core [] s).lr_dropLr hlr hline

end

/-- Settles O13: each instruction by what it leaves once its checks are passed, and reservations by `State.dropLr`. -/
theorem reservationsAndRvAtomics : Obligations.ReservationsAndRvAtomics := by
  refine ⟨fun s core size a v hcore hlive hsize hbar halign => ⟨fun code wide hcode hcs hok => ?_, fun code wide b hcode hcs hbarb hb => ?_,
    fun hok => ?_, fun hlost => ?_, fun hheld => ?_⟩, fun s core line r hlr hline => ⟨fun a bytes hne ha hfit hok => ?_, fun clean inval h => ?_⟩⟩
  · refine ⟨_, (exec_rv64aAmo hcore hlive hcode wide v).trans (congrArg _ (State.rvAmo_done hbar halign hcs v hok)), ?_, rfl⟩
    exact State.cpValue_deliver _ core _
  · exact (exec_rv64aAmo hcore hlive hcode wide v).trans (congrArg _ (State.rvAmo_misaligned hbarb hcs hb v))
  · have hcycle : (s.cacheRead core a.toNat size).1.cycle = s.cycle := (s.cacheRead_cacheStep core a.toNat size).touches .cycle (by decide)
    refine ⟨_, (exec_lr hcore hlive hsize).trans (congrArg _ (State.loadReserved_done hbar halign hok)), ?_, ?_⟩
    · rw [State.reserved, State.core_setCore_self, hcycle]
    · rw [State.reserved, State.core_setCore_self]
      exact State.cpValue_deliver _ core _
  · exact (exec_sc hcore hlive hsize v).trans (congrArg _ (State.storeConditional_lost hbar halign hlost v))
  · intro s' w hok
    have hnone : (s'.core core).lr = none := congrArg Core.lr (State.core_setCore_self s core _)
    refine ⟨_, (exec_sc hcore hlive hsize v).trans (congrArg _ (State.storeConditional_done hbar halign hheld v hok)), ?_, ?_, rfl⟩
    · exact State.cpValue_deliver _ core 0
    · rw [State.deliver, State.core_setCore_self]
      exact ((s'.cacheWrite_cacheStep core a.toNat (leBytes size v.toNat)).lost core).none hnone
  · exact State.lr_cacheWrite hlr hline hne ha hfit hok
  · exact State.lr_maintLine hlr hline h clean inval

end Sys2Proof.Machine
end

section
/-! SUPPORT. The heat of compute and edge dies at the end of a millisecond (R534 to R536). -/

namespace Sys2Proof.Machine

/-! ### A die as the power manager sees it -/

/-- What the power manager holds of a die. -/
structure DieView where
  capStep : Nat
  cuts : Nat
  gauzeHeat : Bool
  halfRate : Bool

/-- The view of a die. -/
def PwrSt.die (p : PwrSt) (d : Nat) : DieView where
  capStep := Store.get 0 p.capStep d
  cuts := Store.get 0 p.cuts d
  gauzeHeat := p.gauzeHeat.contains d
  halfRate := p.halfRate.contains d

/-- A compute die at the throttle point (R534, R535). -/
def DieView.hot (v : DieView) (top : Nat) (thermIn : Bool) : DieView :=
  { v with
    capStep := min v.capStep top - 1
    cuts := if thermIn || v.gauzeHeat || decide (0 < v.cuts) then min 7 (v.cuts + 1) else v.cuts
    gauzeHeat := v.gauzeHeat || decide (min v.capStep top ≤ 1) }

/-- A compute die more than 3 °C below it. -/
def DieView.cool (v : DieView) (top : Nat) : DieView :=
  if 0 < v.cuts then { v with cuts := v.cuts - 1 } else { v with capStep := min (min v.capStep top + 1) top, gauzeHeat := false }

/-- The millisecond's adjustment of die `d` at `T`, where `hot` is the throttle point. -/
def DieView.adjust (v : DieView) (d top : Nat) (thermIn : Bool) (hot T : Int) : DieView :=
  if hot ≤ T then (if d < 4 then v.hot top thermIn else { v with halfRate := true })
  else if T < hot - 48 then (if d < 4 then v.cool top else { v with halfRate := false })
  else v

/-! ### The power manager after one die's adjustment -/

/-- The throttle point in 1/16 °C. -/
def State.hotPoint (s : State) : Int := (16 * s.dictNat 0x5020 1 : Nat)

/-- The power manager after a compute die at the throttle point. -/
def State.hotPwr (s : State) (d : Nat) : PwrSt :=
  let cap := min (Store.get 0 s.pwr.capStep d) s.maxStep
  { s.pwr with
    cuts := if s.gauze d then Store.set 0 s.pwr.cuts d (min 7 (Store.get 0 s.pwr.cuts d + 1)) else s.pwr.cuts,
    capStep := Store.set 0 s.pwr.capStep d (cap - 1),
    gauzeHeat := if cap ≤ 1 ∧ s.pwr.gauzeHeat.contains d = false then s.pwr.gauzeHeat ++ [d] else s.pwr.gauzeHeat }

/-- The state with the temperature of a die noted. -/
def State.noteDieTemp (s : State) (d : Nat) (T : Int) : State :=
  (s.setReg (0x4010 + 4 * d) (BitVec.ofNat 64 (unsigned 16 T))).lifeMax (0x11 + d) T

/-- The throttling of a die that leaves its top step, counted. -/
def State.noteThrottle (s : State) (d : Nat) : State :=
  if min (Store.get 0 s.pwr.capStep d) s.maxStep = s.maxStep ∧ 0 < min (Store.get 0 s.pwr.capStep d) s.maxStep then
    (s.bumpSeen 0x4040 0x4000 0).lifeAdd (0x1F + d) 1
  else s

/-- An edge die at the throttle point: its media engine at half rate. -/
def State.edgeHot (s : State) (d : Nat) : State :=
  if s.pwr.halfRate.contains d then s else { s with pwr.halfRate := s.pwr.halfRate ++ [d] }.lifeAdd (0x1F + d) 1

/-- An edge die more than 3 °C below it. -/
def State.edgeCool (s : State) (d : Nat) : State := { s with pwr.halfRate := s.pwr.halfRate.filter fun e => e ≠ d }

/-- What an adjustment leaves once the temperature is noted: the parts that it may touch, and every register but two of the power manager. -/
structure State.Adjusts (s t : State) : Prop where
  touches : s.Touches [.regs, .wear, .pwr] t
  regs : ∀ o, o ≠ 0x4000 → o ≠ 0x4040 → t.reg o = s.reg o

theorem State.Adjusts.trans {s t u : State} (h : s.Adjusts t) (k : t.Adjusts u) : s.Adjusts u :=
  ⟨h.touches.trans k.touches, fun o h1 h2 => (k.regs o h1 h2).trans (h.regs o h1 h2)⟩

theorem State.Adjusts.refl (s : State) : s.Adjusts s := ⟨.refl _ s, fun _ _ _ => rfl⟩

theorem touches_pwr (s : State) (x : PwrSt) : s.Touches [.pwr] { s with pwr := x } := fun p hp => by cases p <;> simp_all [Part.same]

theorem State.lifeMax_eq (s : State) (sub : Nat) (v : Int) : ∃ x, s.lifeMax sub v = { s with wear.life := x } := by
  unfold State.lifeMax
  split
  · exact ⟨_, rfl⟩
  · exact ⟨s.wear.life, rfl⟩

/-- The dictionary reads as before where management was not touched. -/
theorem State.Touches.dictNat {l : List Part} {s t : State} (h : s.Touches l t) (hm : .mgmt ∉ l) (idx sub : Nat) :
    t.dictNat idx sub = s.dictNat idx sub := by
  have hmgmt : t.mgmt = s.mgmt := h .mgmt hm
  rw [State.dictNat, State.dictNat, hmgmt]

section
variable (s : State) (d : Nat) (T : Int)

theorem withPwr_adjusts (x : PwrSt) : s.Adjusts { s with pwr := x } := ⟨(touches_pwr s x).mono (by decide), fun _ _ _ => rfl⟩

theorem State.lifeAdd_adjusts (sub n : Nat) : s.Adjusts (s.lifeAdd sub n) := ⟨(touches_wear s _).mono (by decide), fun _ _ _ => rfl⟩

/-- Noting a temperature writes the die's register, and a lifetime counter at most. -/
theorem State.noteDieTemp_eq : ∃ x, s.noteDieTemp d T =
    { s.setReg (0x4010 + 4 * d) (BitVec.ofNat 64 (unsigned 16 T)) with wear.life := x } := State.lifeMax_eq _ _ _

theorem State.noteDieTemp_pwr : (s.noteDieTemp d T).pwr = s.pwr := by
  obtain ⟨x, hx⟩ := s.noteDieTemp_eq d T
  rw [hx]
  rfl

theorem State.noteDieTemp_reg (o : Nat) :
    (s.noteDieTemp d T).reg o = if o = 0x4010 + 4 * d then BitVec.ofNat 64 (unsigned 16 T) else s.reg o := by
  obtain ⟨x, hx⟩ := s.noteDieTemp_eq d T
  rw [hx]
  exact s.reg_setReg _ o _

theorem State.noteDieTemp_touches : s.Touches [.regs, .wear, .pwr] (s.noteDieTemp d T) := by
  obtain ⟨x, hx⟩ := s.noteDieTemp_eq d T
  rw [hx]
  exact ((s.setReg_touches _ _).mono (by decide)).trans ((touches_wear _ _).mono (by decide))

theorem State.noteThrottle_adjusts : s.Adjusts (s.noteThrottle d) := by
  have hcount : s.Adjusts ((s.bumpSeen 0x4040 0x4000 0).lifeAdd (0x1F + d) 1) :=
    State.Adjusts.trans ⟨(s.bumpSeen_touches _ _ _).mono (by decide), fun o h1 h2 => s.reg_bumpSeen_ne _ _ _ o h2 h1⟩
      (State.lifeAdd_adjusts _ _ _)
  unfold State.noteThrottle
  split
  · exact hcount
  · exact .refl s

theorem State.dieHot_eq : s.dieHot d = { s.noteThrottle d with pwr := s.hotPwr d } := by
  unfold State.dieHot State.noteThrottle State.hotPwr
  dsimp only
  split <;> rfl

theorem State.dieHot_adjusts : s.Adjusts (s.dieHot d) := by
  rw [State.dieHot_eq]
  exact (s.noteThrottle_adjusts d).trans (withPwr_adjusts _ _)

theorem State.dieCool_adjusts : s.Adjusts (s.dieCool d) := by
  unfold State.dieCool
  dsimp only
  split
  · exact withPwr_adjusts s _
  · exact withPwr_adjusts s _

theorem State.edgeHot_adjusts : s.Adjusts (s.edgeHot d) := by
  unfold State.edgeHot
  split
  · exact .refl s
  · exact (withPwr_adjusts s _).trans (State.lifeAdd_adjusts _ _ _)

theorem State.adjustDie_eq :
    s.adjustDie d T =
      let u := s.noteDieTemp d T
      if s.hotPoint ≤ T then (if d < 4 then u.dieHot d else u.edgeHot d)
      else if T < s.hotPoint - 48 then (if d < 4 then u.dieCool d else u.edgeCool d)
      else u := rfl

theorem State.adjustDie_adjusts : (s.noteDieTemp d T).Adjusts (s.adjustDie d T) := by
  rw [State.adjustDie_eq]
  dsimp only
  split
  · split
    · exact State.dieHot_adjusts _ d
    · exact State.edgeHot_adjusts _ d
  split
  · split
    · exact State.dieCool_adjusts _ d
    · exact withPwr_adjusts _ _
  · exact .refl _

theorem State.adjustDie_touches : s.Touches [.regs, .wear, .pwr] (s.adjustDie d T) :=
  (s.noteDieTemp_touches d T).trans (s.adjustDie_adjusts d T).touches

theorem State.adjustDie_reg {o : Nat} (h1 : o ≠ 0x4000) (h2 : o ≠ 0x4040) :
    (s.adjustDie d T).reg o = if o = 0x4010 + 4 * d then BitVec.ofNat 64 (unsigned 16 T) else s.reg o :=
  ((s.adjustDie_adjusts d T).regs o h1 h2).trans (s.noteDieTemp_reg d T o)

/-! ### The view of a die after an adjustment -/

theorem State.gauze_eq : s.gauze d = (s.pwr.thermIn || (s.pwr.die d).gauzeHeat || decide (0 < (s.pwr.die d).cuts)) := rfl

theorem contains_append_other {l : List Nat} {d e : Nat} (h : e ≠ d) : (l ++ [d]).contains e = l.contains e := by
  simp [h]

theorem contains_filter_other {l : List Nat} {d e : Nat} (h : e ≠ d) : (l.filter fun x => x ≠ d).contains e = l.contains e := by
  simp [h]

theorem State.hotPwr_cuts (e : Nat) : Store.get 0 (s.hotPwr d).cuts e =
    if e = d ∧ s.gauze d = true then min 7 (Store.get 0 s.pwr.cuts d + 1) else Store.get 0 s.pwr.cuts e := by
  unfold State.hotPwr
  dsimp only
  split
  · next h => rw [Store.get_set, h]; simp
  · next h => rw [if_neg fun hc => h hc.2]

theorem State.hotPwr_heat (e : Nat) : (s.hotPwr d).gauzeHeat.contains e =
    (s.pwr.gauzeHeat.contains e || decide (e = d ∧ min (Store.get 0 s.pwr.capStep d) s.maxStep ≤ 1)) := by
  unfold State.hotPwr
  dsimp only
  split
  · next h => simp [h.1]
  · next h =>
    by_cases he : e = d
    · subst he
      cases hin : s.pwr.gauzeHeat.contains e with
      | true => rfl
      | false => rw [decide_eq_false fun hc => h ⟨hc.2, hin⟩]; rfl
    · simp [he]

/-- A compute die at the throttle point loses a step and, in Gauze, a part of its grants; the other dies keep theirs. -/
theorem State.dieHot_die (e : Nat) :
    (s.dieHot d).pwr.die e = if e = d then (s.pwr.die d).hot s.maxStep s.pwr.thermIn else s.pwr.die e := by
  have hcap : Store.get 0 (s.hotPwr d).capStep e = _ := Store.get_set 0 s.pwr.capStep d e _
  rw [State.dieHot_eq, PwrSt.die, s.hotPwr_cuts, s.hotPwr_heat, hcap]
  by_cases he : e = d
  · subst he
    simp only [true_and, if_true, DieView.hot, ← State.gauze_eq]
    rfl
  · simp only [he, false_and, if_false, decide_false, Bool.or_false]
    rfl

theorem State.dieCool_eq : s.dieCool d =
    if 0 < (s.pwr.die d).cuts then { s with pwr.cuts := Store.set 0 s.pwr.cuts d ((s.pwr.die d).cuts - 1) }
    else
      { s with
        pwr.capStep := Store.set 0 s.pwr.capStep d (min (min (s.pwr.die d).capStep s.maxStep + 1) s.maxStep),
        pwr.gauzeHeat := s.pwr.gauzeHeat.filter fun e => e ≠ d } := rfl

theorem State.dieCool_die (e : Nat) : (s.dieCool d).pwr.die e = if e = d then (s.pwr.die d).cool s.maxStep else s.pwr.die e := by
  rw [State.dieCool_eq, DieView.cool]
  by_cases he : e = d
  · subst he
    rw [if_pos rfl]
    split
    · simp [PwrSt.die]
    · simp [PwrSt.die]
  · rw [if_neg he]
    split
    · simp only [PwrSt.die, Store.get_set_ne _ _ _ _ _ he]
    · simp only [PwrSt.die, Store.get_set_ne _ _ _ _ _ he, contains_filter_other he]

theorem State.edgeHot_die (e : Nat) : (s.edgeHot d).pwr.die e = if e = d then { s.pwr.die d with halfRate := true } else s.pwr.die e := by
  unfold State.edgeHot
  by_cases he : e = d
  · subst he
    rw [if_pos rfl]
    split
    · next hc => rw [PwrSt.die, hc]
    · simp [PwrSt.die, State.lifeAdd, State.setLife]
  · rw [if_neg he]
    split
    · rfl
    · simp only [PwrSt.die, State.lifeAdd, State.setLife, contains_append_other he]

theorem State.edgeCool_die (e : Nat) : (s.edgeCool d).pwr.die e = if e = d then { s.pwr.die d with halfRate := false } else s.pwr.die e := by
  by_cases he : e = d
  · subst he
    simp [PwrSt.die, State.edgeCool]
  · simp only [PwrSt.die, State.edgeCool, contains_filter_other he, if_neg he]

/-- The view of each die after the adjustment of one. -/
theorem State.adjustDie_die (e : Nat) :
    (s.adjustDie d T).pwr.die e = if e = d then (s.pwr.die d).adjust d s.maxStep s.pwr.thermIn s.hotPoint T else s.pwr.die e := by
  have hmax : (s.noteDieTemp d T).maxStep = s.maxStep := by
    rw [State.maxStep, State.maxStep, (s.noteDieTemp_touches d T).dictNat (by decide)]
  have hpwr := s.noteDieTemp_pwr d T
  have hself : s.pwr.die e = if e = d then s.pwr.die d else s.pwr.die e := by
    split
    · next h => rw [h]
    · rfl
  rw [State.adjustDie_eq, DieView.adjust]
  dsimp only
  split
  · split
    · rw [State.dieHot_die, hmax, hpwr]
    · rw [State.edgeHot_die, hpwr]
  split
  · split
    · rw [State.dieCool_die, hmax, hpwr]
    · rw [State.edgeCool_die, hpwr]
  · rw [hpwr]
    exact hself

end

/-! ### All dies -/

/-- The dies adjusted one after the other. -/
def State.adjustAll (s : State) (es : List (Int × Nat)) : State := es.foldl (fun t e => t.adjustDie e.2 e.1) s

/-- What adjustments of several dies leave. -/
structure State.AdjustsAll (s t : State) : Prop where
  touches : s.Touches [.regs, .wear, .pwr] t
  thermIn : t.pwr.thermIn = s.pwr.thermIn
  regs : ∀ o, 0x4048 ≤ o → t.reg o = s.reg o

theorem State.AdjustsAll.maxStep {s t : State} (h : s.AdjustsAll t) : t.maxStep = s.maxStep := by
  rw [State.maxStep, State.maxStep, h.touches.dictNat (by decide)]

theorem State.AdjustsAll.hotPoint {s t : State} (h : s.AdjustsAll t) : t.hotPoint = s.hotPoint := by
  rw [State.hotPoint, State.hotPoint, h.touches.dictNat (by decide)]

theorem State.thermIn_adjustDie (s : State) (d : Nat) (T : Int) : (s.adjustDie d T).pwr.thermIn = s.pwr.thermIn := by
  rw [← s.noteDieTemp_pwr d T, State.adjustDie_eq]
  dsimp only
  split
  · split
    · rw [State.dieHot_eq]; rfl
    · unfold State.edgeHot; split <;> rfl
  split
  · split
    · unfold State.dieCool; dsimp only; split <;> rfl
    · rfl
  · rfl

section
variable {es : List (Int × Nat)} (hes : ∀ e ∈ es, e.2 < 6)
include hes

theorem State.adjustAll_spec (s : State) : s.AdjustsAll (s.adjustAll es) := by
  induction es generalizing s with
  | nil => exact ⟨.refl _ s, rfl, fun _ _ => rfl⟩
  | cons e rest ih =>
    have he : e.2 < 6 := hes e List.mem_cons_self
    have hrest := ih (fun x hx => hes x (List.mem_cons_of_mem e hx)) (s.adjustDie e.2 e.1)
    exact ⟨(s.adjustDie_touches e.2 e.1).trans hrest.touches, hrest.thermIn.trans (s.thermIn_adjustDie e.2 e.1),
      fun o ho => (hrest.regs o ho).trans ((s.adjustDie_reg e.2 e.1 (by omega) (by omega)).trans (if_neg (by omega)))⟩

/-- A die that is not among those adjusted keeps its view and its temperature. -/
theorem State.adjustAll_other (s : State) {d : Nat} (hd : d < 6) (hne : ∀ e ∈ es, e.2 ≠ d) :
    (s.adjustAll es).pwr.die d = s.pwr.die d ∧ (s.adjustAll es).reg (0x4010 + 4 * d) = s.reg (0x4010 + 4 * d) := by
  induction es generalizing s with
  | nil => exact ⟨rfl, rfl⟩
  | cons e rest ih =>
    have he : e.2 ≠ d := hne e List.mem_cons_self
    obtain ⟨hdie, hreg⟩ := ih (fun x hx => hes x (List.mem_cons_of_mem e hx)) (s.adjustDie e.2 e.1)
      fun x hx => hne x (List.mem_cons_of_mem e hx)
    exact ⟨hdie.trans ((s.adjustDie_die e.2 e.1 d).trans (if_neg he.symm)),
      hreg.trans ((s.adjustDie_reg e.2 e.1 (by omega) (by omega)).trans (if_neg (by omega)))⟩

end

/-- Each die is adjusted at its own temperature. -/
theorem State.adjustAll_die (s : State) {temps : List Int} (hlen : temps.length = 6) {d : Nat} {T : Int} (hT : temps[d]? = some T) :
    (s.adjustAll temps.zipIdx).pwr.die d = (s.pwr.die d).adjust d s.maxStep s.pwr.thermIn s.hotPoint T ∧
      (s.adjustAll temps.zipIdx).reg (0x4010 + 4 * d) = BitVec.ofNat 64 (unsigned 16 T) := by
  obtain ⟨hd, hget⟩ := List.getElem?_eq_some_iff.1 hT
  have hsplit : temps.zipIdx = (temps.take d).zipIdx ++ (T, d) :: (temps.drop (d + 1)).zipIdx (d + 1) := by
    conv_lhs => rw [← List.take_append_drop d temps, List.drop_eq_getElem_cons hd, hget, List.zipIdx_append, List.zipIdx_cons]
    simp [Nat.min_eq_left (Nat.le_of_lt hd)]
  have hbefore : ∀ e ∈ (temps.take d).zipIdx, e.2 < d := fun e he => by
    have := List.snd_lt_of_mem_zipIdx he
    rw [List.length_take] at this
    omega
  have hafter : ∀ e ∈ (temps.drop (d + 1)).zipIdx (d + 1), d < e.2 ∧ e.2 < 6 := fun e he => by
    have hlo := List.le_snd_of_mem_zipIdx he
    have hhi := List.snd_lt_add_of_mem_zipIdx he
    rw [List.length_drop] at hhi
    omega
  have hpre := State.adjustAll_spec (fun e he => by have := hbefore e he; omega) s
  obtain ⟨hdie, -⟩ := State.adjustAll_other (fun e he => by have := hbefore e he; omega) s (by omega) fun e he => Nat.ne_of_lt (hbefore e he)
  have hall : s.adjustAll temps.zipIdx =
      (((s.adjustAll (temps.take d).zipIdx).adjustDie d T).adjustAll ((temps.drop (d + 1)).zipIdx (d + 1))) := by
    rw [hsplit, State.adjustAll, List.foldl_append, List.foldl_cons]
    rfl
  obtain ⟨hdie', hreg'⟩ := State.adjustAll_other (fun e he => (hafter e he).2)
    ((s.adjustAll (temps.take d).zipIdx).adjustDie d T) (by omega) fun e he => (Nat.ne_of_lt (hafter e he).1).symm
  rw [hall]
  refine ⟨?_, ?_⟩
  · rw [hdie', State.adjustDie_die, if_pos rfl, hdie, hpre.maxStep, hpre.thermIn, hpre.hotPoint]
  · exact hreg'.trans ((State.adjustDie_reg _ d T (by omega) (by omega)).trans (if_pos rfl))

end Sys2Proof.Machine
end

section
/-! SUPPORT. Throttling, stack temperatures, THERM_N and regulator warnings as commands, and O50 (R261, R534 to R537, R626). -/

namespace Sys2Proof.Machine

/-! ### The bands of temperature -/

section
variable {s t : State} {d : Nat} {T : Int}
  (hview : t.pwr.die d = (s.pwr.die d).adjust d s.maxStep s.pwr.thermIn s.hotPoint T)
include hview

/-- A compute die at the throttle point. -/
theorem computeDie_hot (hd : d < 4) (hT : s.hotPoint ≤ T) :
    let cap := min (Store.get 0 s.pwr.capStep d) s.maxStep
    let cuts := Store.get 0 s.pwr.cuts d
    let gauze := s.pwr.thermIn = true ∨ d ∈ s.pwr.gauzeHeat ∨ 0 < cuts
    Store.get 0 t.pwr.capStep d = cap - 1 ∧ (d ∈ t.pwr.gauzeHeat ↔ d ∈ s.pwr.gauzeHeat ∨ cap ≤ 1) ∧
      (gauze → Store.get 0 t.pwr.cuts d = min 7 (cuts + 1)) ∧ (¬ gauze → Store.get 0 t.pwr.cuts d = cuts) := by
  intro cap cuts gauze
  rw [DieView.adjust, if_pos hT, if_pos hd] at hview
  have hcuts : Store.get 0 t.pwr.cuts d = if s.gauze d then min 7 (cuts + 1) else cuts := congrArg DieView.cuts hview
  have hheat : t.pwr.gauzeHeat.contains d = (s.pwr.gauzeHeat.contains d || decide (cap ≤ 1)) := congrArg DieView.gauzeHeat hview
  have hgauze : s.gauze d = true ↔ gauze := by simp [State.gauze, gauze, cuts, or_assoc]
  refine ⟨congrArg DieView.capStep hview, ?_, fun h => ?_, fun h => ?_⟩
  · rw [← List.contains_iff_mem, hheat, Bool.or_eq_true, decide_eq_true_eq, List.contains_iff_mem]
  · rw [hcuts, if_pos (hgauze.2 h)]
  · rw [hcuts, if_neg fun hg => h (hgauze.1 hg)]

/-- A compute die more than 3 °C below the throttle point: its cuts are undone first, then its cap rises. -/
theorem computeDie_cool (hd : d < 4) (hT : T < s.hotPoint - 48) :
    (0 < Store.get 0 s.pwr.cuts d →
      Store.get 0 t.pwr.cuts d = Store.get 0 s.pwr.cuts d - 1 ∧ Store.get 0 t.pwr.capStep d = Store.get 0 s.pwr.capStep d) ∧
    (Store.get 0 s.pwr.cuts d = 0 →
      Store.get 0 t.pwr.capStep d = min (min (Store.get 0 s.pwr.capStep d) s.maxStep + 1) s.maxStep ∧ d ∉ t.pwr.gauzeHeat) := by
  rw [DieView.adjust, if_neg (by omega), if_pos hT, if_pos hd, DieView.cool] at hview
  refine ⟨fun (hcuts : 0 < (s.pwr.die d).cuts) => ?_, fun (hcuts : (s.pwr.die d).cuts = 0) => ?_⟩
  · rw [if_pos hcuts] at hview
    exact ⟨congrArg DieView.cuts hview, congrArg DieView.capStep hview⟩
  · rw [if_neg (Nat.not_lt.2 (Nat.le_of_eq hcuts))] at hview
    have hheat : t.pwr.gauzeHeat.contains d = false := congrArg DieView.gauzeHeat hview
    exact ⟨congrArg DieView.capStep hview, fun hm => by rw [List.contains_iff_mem.2 hm] at hheat; cases hheat⟩

/-- Between the two, everything stays. -/
theorem die_between (hlo : s.hotPoint - 48 ≤ T) (hhi : T < s.hotPoint) : t.pwr.die d = s.pwr.die d := by
  rwa [DieView.adjust, if_neg (by omega), if_neg (by omega)] at hview

/-- The media engine of an edge die. -/
theorem edgeDie (hd : 4 ≤ d) :
    (s.hotPoint ≤ T → d ∈ t.pwr.halfRate) ∧ (T < s.hotPoint - 48 → d ∉ t.pwr.halfRate) ∧
      (T < s.hotPoint → s.hotPoint - 48 ≤ T → (d ∈ t.pwr.halfRate ↔ d ∈ s.pwr.halfRate)) := by
  refine ⟨fun hT => ?_, fun hT => ?_, fun hhi hlo => ?_⟩
  · rw [DieView.adjust, if_pos hT, if_neg (by omega)] at hview
    exact List.contains_iff_mem.1 (congrArg DieView.halfRate hview)
  · rw [DieView.adjust, if_neg (by omega), if_pos hT, if_neg (by omega)] at hview
    have hrate : t.pwr.halfRate.contains d = false := congrArg DieView.halfRate hview
    exact fun hm => by rw [List.contains_iff_mem.2 hm] at hrate; cases hrate
  · rw [← List.contains_iff_mem, ← List.contains_iff_mem]
    exact Bool.eq_iff_iff.1 (congrArg DieView.halfRate (die_between hview hlo hhi))

end

/-! ### One bit of a register -/

theorem State.flag_setReg_ne (s : State) {o k : Nat} (v : W64) (b : Nat) (h : k ≠ o) : (s.setReg o v).flag k b = s.flag k b :=
  congrArg (fun v : W64 => v.getLsbD b) (s.reg_setReg_ne o k v h)

theorem State.flag_clearFlag (s : State) (o b : Nat) {i : Nat} (hi : i < 64) :
    (s.clearFlag o b).flag o i = (s.flag o i && !decide (i = b)) := by
  unfold State.flag State.clearFlag
  rw [State.reg_setReg_self]
  by_cases h : i = b
  · simp [h]
  · by_cases hlt : i < b
    · simp [hi, h, hlt]
    · simp [hi, h, hlt, Nat.sub_ne_zero_of_lt (by omega : b < i)]

/-! ### THERMAL_ADJUST -/

/-- Entries into Gauze are counted in one register, and show in one bit of another. -/
theorem State.countGauze_spec (s b : State) : (s.countGauze b).pwr = s.pwr ∧ s.Touches [.regs] (s.countGauze b) ∧
    (∀ o, o ≠ 0x4080 → o ≠ 0x4000 → (s.countGauze b).reg o = s.reg o) ∧
    ∀ i, i < 64 → i ≠ 1 → (s.countGauze b).flag 0x4000 i = s.flag 0x4000 i := by
  unfold State.countGauze State.bumpSeenN
  dsimp only
  split
  · exact ⟨rfl, .refl _ s, fun _ _ _ => rfl, fun _ _ _ => rfl⟩
  · refine ⟨rfl, (s.bump_touches _ _).trans (State.setFlag_touches _ _ _),
      fun o h1 h2 => (State.reg_setFlag_ne _ _ _ _ h2).trans (State.reg_bump_ne _ _ _ _ h1), fun i hi hne => ?_⟩
    rw [State.flag_setFlag _ _ _ _ hi, decide_eq_false hne, Bool.or_false]
    exact s.flag_setReg_ne _ _ (by decide)

/-- The state after the millisecond's adjustments, before any trip. -/
def State.adjusted (s : State) (temps : List Int) : State :=
  let t := (({ s with pwr.temps := temps } : State).adjustAll temps.zipIdx).countGauze s
  { t with pwr.thermOut := t.drivesTherm }

section
variable (s : State) {temps : List Int} (hlen : temps.length = 6)
include hlen

theorem exec_thermalAdjust : exec (.thermalAdjust temps) s = .next (s.thermalAdjust temps) := by
  simp [exec, execThermalAdjust, hlen]

theorem State.adjusted_spec : s.Touches [.regs, .wear, .pwr] (s.adjusted temps) ∧
    (s.adjusted temps).reg 0x4068 = s.reg 0x4068 ∧
    ∀ (d : Nat) (T : Int), temps[d]? = some T →
      (s.adjusted temps).pwr.die d = (s.pwr.die d).adjust d s.maxStep s.pwr.thermIn s.hotPoint T ∧
        (s.adjusted temps).reg (0x4010 + 4 * d) = BitVec.ofNat 64 (unsigned 16 T) := by
  have hsmall : ∀ e ∈ temps.zipIdx, e.2 < 6 := fun e he => hlen ▸ List.snd_lt_of_mem_zipIdx he
  have hall := State.adjustAll_spec hsmall { s with pwr.temps := temps }
  obtain ⟨hpwr, htouch, hregs, -⟩ := State.countGauze_spec (({ s with pwr.temps := temps } : State).adjustAll temps.zipIdx) s
  refine ⟨((((touches_pwr s _).mono (by decide)).trans hall.touches).trans (htouch.mono (by decide))).trans
      ((touches_pwr _ _).mono (by decide)), (hregs 0x4068 (by decide) (by decide)).trans (hall.regs 0x4068 (by decide)), fun d T hT => ?_⟩
  have hd : d < 6 := hlen ▸ (List.getElem?_eq_some_iff.1 hT).1
  obtain ⟨hdie, htemp⟩ := State.adjustAll_die { s with pwr.temps := temps } hlen hT
  exact ⟨(congrArg (fun p : PwrSt => p.die d) hpwr).trans hdie, (hregs _ (by omega) (by omega)).trans htemp⟩

variable (hpow : s.powered = true)
include hpow

theorem State.canTrip_adjusted : (s.adjusted temps).canTrip = true := by
  have hdev : (s.adjusted temps).dev = s.dev := (s.adjusted_spec hlen).1 .dev (by decide)
  simp only [State.powered, decide_eq_true_eq] at hpow
  rw [State.canTrip, hdev]
  rcases hpow with h | h | h | h <;> rw [h] <;> decide

theorem State.thermalAdjust_eq : s.thermalAdjust temps =
    match temps.findIdx? fun T => decide (((16 * s.dictNat 0x5020 2 : Nat) : Int) ≤ T) with
    | some d => (s.adjusted temps).trip 8 d
    | none => s.adjusted temps := by
  have hdict := (s.adjusted_spec hlen).1.dictNat (by decide) 0x5020 2
  simp only [State.thermalAdjust, hpow, Bool.not_true, Bool.false_eq_true, if_false]
  rw [← hdict]
  rfl

/-- A die at the trip point trips the device. -/
theorem State.thermalAdjust_trips {d : Nat} {T : Int} (hT : temps[d]? = some T) (htrip : ((16 * s.dictNat 0x5020 2 : Nat) : Int) ≤ T) :
    ∃ d, s.thermalAdjust temps = (s.adjusted temps).trip 8 d := by
  rw [s.thermalAdjust_eq hlen hpow]
  split
  · exact ⟨_, rfl⟩
  · next h => exact absurd (decide_eq_true htrip) (by rw [List.findIdx?_eq_none_iff.1 h T (List.mem_of_getElem? hT)]; decide)

theorem State.thermalAdjust_of_below (h : ∀ T, T ∈ temps → T < ((16 * s.dictNat 0x5020 2 : Nat) : Int)) :
    s.thermalAdjust temps = s.adjusted temps := by
  rw [s.thermalAdjust_eq hlen hpow, List.findIdx?_eq_none_iff.2 fun T hT => decide_eq_false (not_le.2 (h T hT))]

end

/-! ### STACK_TEMP_SAMPLE (R261) -/

/-- A stack's temperature noted. -/
def State.noteStackTemp (s : State) (k : Nat) (T : Int) : State :=
  (s.setReg (msOff k 4) (BitVec.ofNat 64 (unsigned 16 T))).lifeMax (0x17 + k) T

/-- Whether the stack reports a temperature above 85 °C. -/
def State.noteWarm (s : State) (k : Nat) (T : Int) : State := if 1360 < T then s.setFlag (msOff k 0) 5 else s.clearFlag (msOff k 0) 5

/-- Whether the stack's bandwidth cap applies: from above 90 °C until below 87 °C. -/
def State.noteCap (s : State) (k : Nat) (T : Int) : State :=
  if 1440 < T then (if s.flag (msOff k 0) 6 then s else (s.setFlag (msOff k 0) 6).lifeAdd (0x25 + k) 1)
  else if T < 1392 then s.clearFlag (msOff k 0) 6 else s

theorem State.stackTemp_eq (s : State) (k : Nat) (T : Int) :
    s.stackTemp k T =
      if 1680 ≤ T then (((s.noteStackTemp k T).noteWarm k T).noteCap k T).stackTrip k
      else ((s.noteStackTemp k T).noteWarm k T).noteCap k T := rfl

section
variable (s : State) (k : Nat) (T : Int)

theorem State.noteStackTemp_spec : (s.noteStackTemp k T).dev = s.dev ∧
    (s.noteStackTemp k T).reg (msOff k 4) = BitVec.ofNat 64 (unsigned 16 T) ∧ (s.noteStackTemp k T).reg (msOff k 0) = s.reg (msOff k 0) := by
  obtain ⟨x, hx⟩ := State.lifeMax_eq (s.setReg (msOff k 4) (BitVec.ofNat 64 (unsigned 16 T))) (0x17 + k) T
  rw [State.noteStackTemp, hx]
  exact ⟨rfl, s.reg_setReg_self _ _, s.reg_setReg_ne _ _ _ (by unfold msOff; omega)⟩

theorem State.noteWarm_spec : (s.noteWarm k T).dev = s.dev ∧ (s.noteWarm k T).reg (msOff k 4) = s.reg (msOff k 4) ∧
    (s.noteWarm k T).flag (msOff k 0) 5 = decide (1360 < T) ∧ (s.noteWarm k T).flag (msOff k 0) 6 = s.flag (msOff k 0) 6 := by
  have hne : msOff k 4 ≠ msOff k 0 := by unfold msOff; omega
  unfold State.noteWarm
  split
  · next h =>
    exact ⟨rfl, s.reg_setReg_ne _ _ _ hne, by rw [s.flag_setFlag_self _ _ (by decide), decide_eq_true h],
      by rw [s.flag_setFlag _ _ _ (by decide)]; simp⟩
  · next h =>
    exact ⟨rfl, s.reg_setReg_ne _ _ _ hne, by rw [s.flag_clearFlag _ _ (by decide), decide_eq_false h]; simp,
      by rw [s.flag_clearFlag _ _ (by decide)]; simp⟩

theorem State.noteCap_spec : (s.noteCap k T).dev = s.dev ∧ (s.noteCap k T).reg (msOff k 4) = s.reg (msOff k 4) ∧
    (s.noteCap k T).flag (msOff k 0) 5 = s.flag (msOff k 0) 5 ∧
    (s.noteCap k T).flag (msOff k 0) 6 = (if 1440 < T then true else if T < 1392 then false else s.flag (msOff k 0) 6) := by
  have hne : msOff k 4 ≠ msOff k 0 := by unfold msOff; omega
  unfold State.noteCap
  split
  · split
    · next h => exact ⟨rfl, rfl, rfl, h⟩
    · exact ⟨rfl, s.reg_setReg_ne _ _ _ hne, (s.flag_setFlag (msOff k 0) 6 5 (by decide)).trans (by simp),
        s.flag_setFlag_self _ _ (by decide)⟩
  split
  · exact ⟨rfl, s.reg_setReg_ne _ _ _ hne, by rw [s.flag_clearFlag _ _ (by decide)]; simp,
      by rw [s.flag_clearFlag _ _ (by decide)]; simp⟩
  · exact ⟨rfl, rfl, rfl, rfl⟩

/-- What a stack's temperature leaves, short of a trip. -/
theorem State.stackNoted_spec :
    let u := ((s.noteStackTemp k T).noteWarm k T).noteCap k T
    u.dev = s.dev ∧ u.reg (msOff k 4) = BitVec.ofNat 64 (unsigned 16 T) ∧ u.flag (msOff k 0) 5 = decide (1360 < T) ∧
      u.flag (msOff k 0) 6 = (if 1440 < T then true else if T < 1392 then false else s.flag (msOff k 0) 6) := by
  obtain ⟨hdev₁, htemp₁, hreg₁⟩ := s.noteStackTemp_spec k T
  obtain ⟨hdev₂, htemp₂, hwarm₂, hcap₂⟩ := (s.noteStackTemp k T).noteWarm_spec k T
  obtain ⟨hdev₃, htemp₃, hwarm₃, hcap₃⟩ := ((s.noteStackTemp k T).noteWarm k T).noteCap_spec k T
  have hold : (s.noteStackTemp k T).flag (msOff k 0) 6 = s.flag (msOff k 0) 6 := congrArg (fun v : W64 => v.getLsbD 6) hreg₁
  exact ⟨hdev₃.trans (hdev₂.trans hdev₁), htemp₃.trans (htemp₂.trans htemp₁), hwarm₃.trans hwarm₂, by rw [hcap₃, hcap₂, hold]⟩

theorem exec_stackTempSample (hk : isStack k = true) (hrun : s.dev = .running) :
    exec (.stackTempSample k T) s = .next (s.stackTemp k T) := by
  simp [exec, execStackTempSample, hk, hrun]

end

/-! ### THERM_N (R537, R626) -/

section
variable (s : State)

/-- P_sus depends on the dictionary and on THERM_N alone. -/
theorem State.susNj_congr {s t : State} (hdict : ∀ i n, t.dictNat i n = s.dictNat i n) (hin : t.pwr.thermIn = s.pwr.thermIn) :
    t.susNj = s.susNj := by
  rw [State.susNj, State.susNj, State.hostCap, State.hostCap, State.thermLimit, State.thermLimit, hin]
  simp only [hdict]

/-- P_sus is no higher once the board asserts THERM_N. -/
theorem State.susNj_thermIn_le {s t : State} (hdict : ∀ i n, t.dictNat i n = s.dictNat i n) (ht : t.pwr.thermIn = true) : t.susNj ≤ s.susNj := by
  have hlow : ∀ n (m : Nat), lowest n (some m) ≤ n := fun n m => Nat.min_le_left n m
  have hhost : t.hostCap = s.hostCap := by rw [State.hostCap, State.hostCap, hdict]
  rw [State.susNj, State.susNj, hdict, hhost, State.thermLimit, State.thermLimit, ht, hdict, if_pos rfl]
  split
  · exact Nat.le_refl _
  · exact Nat.mul_le_mul_left _ (hlow _ _)

/-- The power manager told that the board asserts THERM_N. -/
def State.takeTherm (s : State) : State := { s with pins.thermN := false, pwr.thermIn := true, pwr.thermInPending := none }

/-- A limit that falls voids the reserve. -/
def State.voidReserve (s b : State) : State := if s.susNj < b.susNj then { s with pwr.reserve := 0 } else s

/-- An assertion of THERM_N counted. -/
def State.countTherm (s : State) : State := (s.bumpSeen 0x4078 0x4000 3).lifeAdd 0x50 1

theorem State.thermAssert_taken (hpow : s.powered = true) (hin : s.pwr.thermIn = false ∨ s.pwr.thermInPending ≠ none)
    (hdrive : s.drivesTherm = false) : s.thermAssert = ((s.takeTherm.voidReserve s).countTherm).countGauze { s with pins.thermN := false } := by
  have hin' : ¬ (s.pwr.thermIn = true ∧ s.pwr.thermInPending = none) := fun h => hin.elim (fun e => by rw [e] at h; cases h.1) (· h.2)
  have hidle : ¬ ((s.pwr.thermIn = true ∧ s.pwr.thermInPending = none) ∨ s.drivesTherm = true ∨ s.powered = false) := by
    rintro (h | h | h)
    · exact hin' h
    · rw [hdrive] at h; cases h
    · rw [hpow] at h; cases h
  exact if_neg hidle

theorem State.thermAssert_idle (h : (s.pwr.thermIn = true ∧ s.pwr.thermInPending = none) ∨ s.drivesTherm = true ∨ s.powered = false) :
    s.thermAssert = { s with pins.thermN := false } := if_pos h

theorem State.voidReserve_spec (b : State) : (s.voidReserve b).pwr.thermIn = s.pwr.thermIn ∧
    (s.voidReserve b).pwr.thermInPending = s.pwr.thermInPending ∧ s.Touches [.pwr] (s.voidReserve b) ∧
    (s.susNj < b.susNj → (s.voidReserve b).pwr.reserve = 0) := by
  unfold State.voidReserve
  split
  · exact ⟨rfl, rfl, touches_pwr s _, fun _ => rfl⟩
  · next h => exact ⟨rfl, rfl, .refl _ s, fun hlt => absurd hlt h⟩

theorem State.countTherm_spec : s.countTherm.pwr = s.pwr ∧ s.Touches [.regs, .wear] s.countTherm ∧
    s.countTherm.reg 0x4078 = s.reg 0x4078 + 1 ∧ s.countTherm.flag 0x4000 3 = true :=
  ⟨rfl, ((s.bumpSeen_touches _ _ _).mono (by decide)).trans ((touches_wear _ _).mono (by decide)),
    s.reg_bumpSeen_self 0x4078 0x4000 3 (by decide), State.flag_setFlag_self _ _ _ (by decide)⟩

/-- What an assertion of THERM_N that is taken leaves. -/
theorem State.thermAssert_spec (hpow : s.powered = true) (hin : s.pwr.thermIn = false ∨ s.pwr.thermInPending ≠ none)
    (hdrive : s.drivesTherm = false) :
    s.thermAssert.pwr.thermIn = true ∧ s.thermAssert.pwr.thermInPending = none ∧ s.thermAssert.pins.thermN = false ∧
      s.thermAssert.reg 0x4078 = s.reg 0x4078 + 1 ∧ s.thermAssert.flag 0x4000 3 = true ∧ s.thermAssert.susNj ≤ s.susNj ∧
      (s.thermAssert.susNj < s.susNj → s.thermAssert.pwr.reserve = 0) ∧ s.thermAssert.dev = s.dev := by
  rw [s.thermAssert_taken hpow hin hdrive]
  obtain ⟨hvin, hvpend, hvtouch, hvoid⟩ := s.takeTherm.voidReserve_spec s
  generalize s.takeTherm.voidReserve s = u at *
  obtain ⟨hcpwr, hctouch, hcount, hseen⟩ := u.countTherm_spec
  obtain ⟨hgpwr, hgtouch, hgreg, hgflag⟩ := u.countTherm.countGauze_spec { s with pins.thermN := false }
  generalize u.countTherm.countGauze { s with pins.thermN := false } = t at *
  have htouch : s.takeTherm.Touches [.regs, .wear, .pwr] t :=
    ((hvtouch.mono (by decide)).trans (hctouch.mono (by decide))).trans (hgtouch.mono (by decide))
  have hpwr : t.pwr = u.pwr := hgpwr.trans hcpwr
  have hpins : t.pins = s.takeTherm.pins := htouch .pins (by decide)
  have hdev : t.dev = s.takeTherm.dev := htouch .dev (by decide)
  have hvreg : u.reg 0x4078 = s.reg 0x4078 := hvtouch.reg (by decide) 0x4078
  have hthermIn : t.pwr.thermIn = true := (congrArg PwrSt.thermIn hpwr).trans hvin
  have hdict : ∀ i n, t.dictNat i n = s.takeTherm.dictNat i n := htouch.dictNat (by decide)
  refine ⟨hthermIn, (congrArg PwrSt.thermInPending hpwr).trans hvpend, congrArg PinSt.thermN hpins,
    ((hgreg 0x4078 (by decide) (by decide)).trans hcount).trans (congrArg (· + 1) hvreg), (hgflag 3 (by decide) (by decide)).trans hseen,
    State.susNj_thermIn_le hdict hthermIn, fun hlt => ?_, hdev⟩
  rw [hpwr]
  exact hvoid (State.susNj_congr (s := s.takeTherm) (t := t) hdict hthermIn ▸ hlt)

theorem State.thermRelease_eq : s.thermRelease =
    { s with pins.thermN := true, pwr.thermInPending := if s.pwr.thermIn then some false else s.pwr.thermInPending } := by
  unfold State.thermRelease
  dsimp only
  split <;> rfl

/-! ### Regulator warnings (R537) -/

theorem State.capOf_zero {s : State} (h : (s.pwr.ocUntil.isSome || s.pwr.uvCap) = true) (d : Nat) : s.capOf d = 0 := if_pos h

theorem State.overcurrent_spec (hpow : s.powered = true) :
    s.overcurrent.pwr.ocUntil = some (s.ft.toNat + 1000000) ∧ s.overcurrent.reg 0x4070 = s.reg 0x4070 + 1 ∧
      s.overcurrent.flag 0x4000 4 = true ∧ ∀ d, s.overcurrent.capOf d = 0 := by
  have heq : s.overcurrent =
      (({ s with pwr.ocUntil := some (s.ft.toNat + 1000000) } : State).bumpSeen 0x4070 0x4000 4).lifeAdd 0x4D 1 := by
    simp only [State.overcurrent, hpow, Bool.not_true, Bool.false_eq_true, if_false]
  rw [heq]
  exact ⟨rfl, State.reg_bumpSeen_self _ _ _ _ (by decide), State.flag_setFlag_self _ _ _ (by decide), fun d => State.capOf_zero rfl d⟩

theorem State.undervoltage_spec (hpow : s.powered = true) :
    s.undervoltage.pwr.uvCap = true ∧ s.undervoltage.reg 0x4070 = s.reg 0x4070 + 1 ∧ ∀ d, s.undervoltage.capOf d = 0 := by
  have heq : s.undervoltage = (({ s with pwr.uvCap := true } : State).bumpSeen 0x4070 0x4000 4).lifeAdd 0x4C 1 := by
    simp only [State.undervoltage, hpow, Bool.not_true, Bool.false_eq_true, if_false]
  rw [heq]
  exact ⟨rfl, State.reg_bumpSeen_self _ _ _ _ (by decide), fun d => State.capOf_zero (Bool.or_true _) d⟩

theorem State.overcurrentEnd_eq {w : Nat} (hw : s.pwr.ocUntil = some w) :
    s.overcurrentEnd = if w ≤ s.ft.toNat then { s with pwr.ocUntil := none } else s := by
  rw [State.overcurrentEnd, hw]

theorem State.thermStuck_driven (h : s.drivesTherm = true) :
    s.thermStuck.reg 0x408 = s.reg 0x408 + 1 ∧ s.thermStuck.flag 0x400 0 = true ∧ s.thermStuck.pwr = s.pwr := by
  have heq : s.thermStuck = ({ s with pins.thermN := true } : State).bumpSeen 0x408 0x400 0 := if_pos h
  rw [heq]
  exact ⟨State.reg_bumpSeen_self _ _ _ _ (by decide), State.flag_setFlag_self _ _ _ (by decide), rfl⟩

theorem State.thermStuck_free (h : s.drivesTherm = false) : s.thermStuck = { s with pins.thermN := true } :=
  if_neg (ne_true_of_eq_false h)

end

/-- Settles O50: each die by its band of temperature, then each command by what it leaves. -/
theorem heatAndWarnings : Obligations.HeatAndWarnings := by
  intro s
  refine ⟨fun temps hlen => ⟨fun hoff => ?_, fun hpow d T hT htrip => ?_, fun hpow hbelow => ?_⟩, fun k T hk hrun => ?_,
    fun hpow hin hdrive => ⟨_, rfl, s.thermAssert_spec hpow hin hdrive⟩, fun h => congrArg _ (s.thermAssert_idle h),
    congrArg _ s.thermRelease_eq, fun h => congrArg _ (s.thermStuck_free h), fun h => ⟨_, rfl, s.thermStuck_driven h⟩,
    fun hpow => ⟨⟨_, rfl, s.overcurrent_spec hpow⟩, ⟨_, rfl, s.undervoltage_spec hpow⟩⟩,
    fun w hw => ⟨fun hlt => ?_, fun hle => ?_⟩⟩
  · rw [exec_thermalAdjust s hlen, State.thermalAdjust, hoff]
    rfl
  · obtain ⟨e, he⟩ := s.thermalAdjust_trips hlen hpow hT htrip
    obtain ⟨hstop, htripped, hcount, -⟩ := (s.adjusted temps).trip_spec 8 e (s.canTrip_adjusted hlen hpow)
    refine ⟨_, (exec_thermalAdjust s hlen).trans (congrArg _ he), hstop.dev, htripped, ?_⟩
    rw [hcount, (s.adjusted_spec hlen).2.1]
  · intro hot
    obtain ⟨htouch, -, hdie⟩ := s.adjusted_spec hlen
    refine ⟨_, (exec_thermalAdjust s hlen).trans (congrArg _ (s.thermalAdjust_of_below hlen hpow hbelow)), htouch.mem (by decide),
      fun d T hT => (hdie d T hT).2, fun d T hd hT => ?_, fun d T hd hT => edgeDie (hdie d T hT).1 hd⟩
    intro cap cuts gauze
    have hview := (hdie d T hT).1
    refine ⟨fun h => computeDie_hot hview hd h, fun h hc => (computeDie_cool hview hd h).1 hc, fun h hc => (computeDie_cool hview hd h).2 hc,
      fun hhi hlo => ?_⟩
    have hsame := die_between hview hlo hhi
    refine ⟨congrArg DieView.cuts hsame, congrArg DieView.capStep hsame, ?_⟩
    rw [← List.contains_iff_mem, ← List.contains_iff_mem]
    exact Bool.eq_iff_iff.1 (congrArg DieView.gauzeHeat hsame)
  · obtain ⟨hdev, htemp, hwarm, hcap⟩ := s.stackNoted_spec k T
    refine ⟨_, exec_stackTempSample s k T hk hrun, fun hlt => ?_, fun hle => ?_⟩
    · rw [State.stackTemp_eq, if_neg (not_le.2 hlt)]
      exact ⟨htemp, hdev.trans hrun, hwarm, hcap⟩
    · rw [State.stackTemp_eq, if_pos hle]
      obtain ⟨hstop, -, hflag⟩ := State.stackTrip_spec (((s.noteStackTemp k T).noteWarm k T).noteCap k T) k
        (by rw [State.canTrip, hdev, hrun]; decide)
      exact ⟨hflag, hstop.dev⟩
  · exact congrArg _ ((s.overcurrentEnd_eq hw).trans (if_neg (not_le.2 hlt)))
  · exact congrArg _ ((s.overcurrentEnd_eq hw).trans (if_pos hle))

end Sys2Proof.Machine
end

section
/-! SUPPORT. Channels of near memory: the hash of R248, bursts that fail, and retraining (R249 to R252). -/

namespace Sys2Proof.Machine

/-! ### The channel hash (R248) -/

/-- The bits [39:16] of an address, folded: what its channel owes to them. -/
def chanFold (a : Nat) : Nat := bits a 23 16 ^^^ bits a 31 24 ^^^ bits a 39 32

theorem chanOf_eq (a : Nat) : chanOf a = bits a 15 8 ^^^ chanFold a := by
  simp only [chanOf, chanFold, Nat.xor_assoc]

/-- Bits from `k` up depend on what is left of a number without its low `k` bits. -/
theorem bits_congr {a b k : Nat} (h : a / 2 ^ k = b / 2 ^ k) (hi : Nat) {lo : Nat} (hlo : k ≤ lo) : bits a hi lo = bits b hi lo := by
  obtain ⟨j, rfl⟩ := Nat.exists_eq_add_of_le hlo
  rw [bits, bits, Nat.shiftRight_add, Nat.shiftRight_add, Nat.shiftRight_eq_div_pow a, Nat.shiftRight_eq_div_pow b, h]

theorem chanFold_congr {a b : Nat} (h : a / 2 ^ 16 = b / 2 ^ 16) : chanFold a = chanFold b := by
  rw [chanFold, chanFold, bits_congr h 23 (by decide), bits_congr h 31 (by decide), bits_congr h 39 (by decide)]

/-- A block lies in one channel. -/
theorem chanOf_block (a : Nat) : chanOf (a / 64 * 64) = chanOf a := by
  have h : a / 64 * 64 / 2 ^ 8 = a / 2 ^ 8 := by omega
  rw [chanOf_eq, chanOf_eq, bits_congr h 15 (by decide), chanFold_congr (a := a / 64 * 64) (b := a) (by omega)]

theorem bits_15_8 (a : Nat) : bits a 15 8 = a / 256 % 256 := by
  rw [bits, Nat.shiftRight_eq_div_pow]
  rfl

/-- Of the addresses with the same bits [39:16], those in one channel have the same bits [15:8]. -/
theorem bits_eq_of_chanOf_eq {a b : Nat} (hhigh : a / 65536 = b / 65536) (h : chanOf a = chanOf b) : a / 256 % 256 = b / 256 % 256 := by
  rw [chanOf_eq, chanOf_eq, chanFold_congr hhigh] at h
  rw [← bits_15_8, ← bits_15_8]
  exact Nat.xor_left_inj.1 h

/-- The offset gives the other bits of an address. -/
theorem chanOffset_eq {a : Nat} (ha : a < 2 ^ 40) : chanOffset a = a / 65536 * 256 + a % 256 := by
  have hlow : bits a 7 0 = a % 256 := by
    rw [bits, Nat.shiftRight_zero]
    rfl
  have hhigh : bits a 39 16 = a / 65536 := by
    rw [bits, Nat.shiftRight_eq_div_pow]
    exact Nat.mod_eq_of_lt (by omega)
  rw [chanOffset, hlow, hhigh]

theorem eq_of_chan_eq {a b : Nat} (ha : a < 2 ^ 40) (hb : b < 2 ^ 40) (hchan : chanOf a = chanOf b) (hoff : chanOffset a = chanOffset b) :
    a = b := by
  rw [chanOffset_eq ha, chanOffset_eq hb] at hoff
  have := bits_eq_of_chanOf_eq (a := a) (b := b) (by omega) hchan
  omega

/-! ### Bursts that fail (R249 to R251) -/

section
variable (s : State)

/-- A re-send of a burst, counted. -/
def State.resendBurst (a : Nat) : State :=
  ((s.setChan (chanOf a) { s.chan (chanOf a) with resendUntil := s.cycle.toNat + 40 }).bump (msOff (stackOf (chanOf a)) 0x08) 1).lifeAdd
    (0x89 + 4 * stackOf (chanOf a)) 1

/-- The exhaustions of a channel within the last second. -/
def State.exhaustedNow (ch : Nat) : List Nat := (s.chan ch).exhausted.filter fun t => decide (s.ft.toNat < t + 1000000000)

/-- A burst whose re-sends are exhausted: its block's next access fails, and its channel retrains. -/
def State.exhaustBurst (a : Nat) : State :=
  ((({ s with mem.burstBad := a / 64 :: s.mem.burstBad.filter (· ≠ a / 64) } : State).bump (msOff (stackOf (chanOf a)) 0x50) 1).lifeAdd
    (0x89 + 4 * stackOf (chanOf a) + 3) 1).setChan (chanOf a)
    { s.chan (chanOf a) with exhausted := s.ft.toNat :: s.exhaustedNow (chanOf a), retraining := true }

theorem State.burstFail_resend (a : Nat) {r : Nat} (h : r < 3) : s.burstFail a r = s.resendBurst a := if_pos h

theorem State.burstFail_exhausted (a : Nat) : s.burstFail a 3 =
    if 15 ≤ (s.exhaustedNow (chanOf a)).length then (s.exhaustBurst a).failChannel (chanOf a) else s.exhaustBurst a := by
  have hcount : 16 ≤ (s.ft.toNat :: s.exhaustedNow (chanOf a)).length ↔ 15 ≤ (s.exhaustedNow (chanOf a)).length := by
    rw [List.length_cons]
    omega
  rw [← if_congr hcount rfl rfl]
  rfl

theorem State.chan_setChan (ch : Nat) (v : Chan) : (s.setChan ch v).chan ch = v := s.chan_setChan_self ch v

/-- What the failure of a channel leaves: its mark, its bits, and wear. -/
theorem State.failChannel_spec (ch : Nat) (hch : stackOf ch < 8) :
    (s.failChannel ch).chan ch = { s.chan ch with failed := true } ∧
    (s.failChannel ch).flag (msOff (stackOf ch) 0x58) (ch % 32) = true ∧ (s.failChannel ch).flag (msOff (stackOf ch) 0) 4 = true ∧
    (s.failChannel ch).mem.near = s.mem.near ∧ (s.failChannel ch).mem.burstBad = s.mem.burstBad ∧
    (s.failChannel ch).reg (msOff (stackOf ch) 0x50) = s.reg (msOff (stackOf ch) 0x50) := by
  have hwear : ∀ off, off < 0x100 → ¬ WearReg (msOff (stackOf ch) off) := fun off ho => by
    unfold WearReg msOff
    omega
  let u := ((s.setChan ch { s.chan ch with failed := true }).setFlag (msOff (stackOf ch) 0x58) (ch % 32)).setFlag (msOff (stackOf ch) 0) 4
  have htouch : u.Touches recordParts (s.failChannel ch) := (State.evalFitness_releases _).touches
  have hregs : u.RegsWithin WearReg (s.failChannel ch) := State.evalFitness_regsWithin _
  have hmem : (s.failChannel ch).mem = u.mem := htouch.mem (by decide)
  refine ⟨?_, ?_, ?_, (congrArg MemSt.near hmem).trans rfl, (congrArg MemSt.burstBad hmem).trans rfl, ?_⟩
  · exact (congrArg (fun m : MemSt => Store.get ({} : Chan) m.chans ch) hmem).trans (s.chan_setChan ch _)
  · rw [hregs.flag (hwear 0x58 (by decide))]
    refine (State.flag_setReg_ne _ _ _ (by unfold msOff; omega)).trans (State.flag_setFlag_self _ _ _ (by omega))
  · rw [hregs.flag (hwear 0 (by decide))]
    exact State.flag_setFlag_self _ _ _ (by decide)
  · rw [hregs _ (hwear 0x50 (by decide))]
    exact (State.reg_setFlag_ne _ _ _ _ (by unfold msOff; omega)).trans (State.reg_setFlag_ne _ _ _ _ (by unfold msOff; omega))

/-- What exhausted re-sends leave. -/
theorem State.exhausted_spec (a : Nat) :
    let ch := chanOf a
    a / 64 ∈ (s.burstFail a 3).mem.burstBad ∧ ((s.burstFail a 3).chan ch).retraining = true ∧
      (s.burstFail a 3).reg (msOff (stackOf ch) 0x50) = s.reg (msOff (stackOf ch) 0x50) + 1 ∧ (s.burstFail a 3).mem.near = s.mem.near ∧
      ((s.burstFail a 3).chan ch).failed = ((s.chan ch).failed || decide (15 ≤ (s.exhaustedNow ch).length)) := by
  intro ch
  have hchan : (s.exhaustBurst a).chan ch = { s.chan ch with exhausted := s.ft.toNat :: s.exhaustedNow ch, retraining := true } :=
    State.chan_setChan _ ch _
  have hreg : (s.exhaustBurst a).reg (msOff (stackOf ch) 0x50) = s.reg (msOff (stackOf ch) 0x50) + 1 := State.reg_bump_self _ _ _
  have hbad : a / 64 ∈ (s.exhaustBurst a).mem.burstBad := List.mem_cons_self
  rw [s.burstFail_exhausted a]
  split
  · next h =>
    obtain ⟨hfail, -, -, hnear, hburst, hkeep⟩ := (s.exhaustBurst a).failChannel_spec ch (stackOf_chanOf_lt a)
    refine ⟨hburst ▸ hbad, by rw [hfail, hchan], hkeep.trans hreg, hnear, ?_⟩
    rw [hfail, decide_eq_true h, Bool.or_true]
  · next h => exact ⟨hbad, by rw [hchan], hreg, rfl, by rw [hchan, decide_eq_false h, Bool.or_false]⟩

end

/-! ### Accesses that a channel does not complete (R250, R251) -/

section
variable {s : State} {a : Nat} (hfail : (s.chan (chanOf a)).failed = true ∨ a / 64 ∈ s.mem.burstBad)
  (htrip : s.flag (msOff (stackOf (chanOf a)) 0) 7 = false)
include hfail htrip

theorem State.blockStatus_gone : s.blockStatus a = .crcResendExhausted := by
  have hlost : ((s.chan (chanOf a)).failed || s.mem.burstBad.contains (a / 64)) = true := by
    rcases hfail with h | h
    · rw [h, Bool.true_or]
    · rw [List.contains_iff_mem.2 h, Bool.or_true]
  rw [State.blockStatus, State.chanTripped, htrip, if_neg Bool.false_ne_true, if_pos hlost]

/-- An access that ends with CRC_RESEND_EXHAUSTED is counted, and leaves what is stored. -/
theorem State.blockGate_gone : (s.blockGate a).2 = .crcResendExhausted ∧
    (s.blockGate a).1.reg (msOff (stackOf (chanOf a)) 0x10) = s.reg (msOff (stackOf (chanOf a)) 0x10) + 1 ∧
    (s.blockGate a).1.flag (msOff (stackOf (chanOf a)) 0) 3 = true ∧ (s.blockGate a).1.mem.near = s.mem.near := by
  have hlog := (({ s with mem.burstBad := s.mem.burstBad.filter (· ≠ a / 64) } : State).bumpSeen (msOff (stackOf (chanOf a)) 0x10)
    (msOff (stackOf (chanOf a)) 0) 3).logEvent_touches .crcResendExhausted 3 (chanOf a) 0
  rw [State.blockGate, State.blockStatus_gone hfail htrip]
  refine ⟨rfl, (hlog.reg (by decide) _).trans (State.reg_bumpSeen_self _ _ _ _ (by unfold msOff; omega)), ?_, hlog .memNear (by decide)⟩
  exact (congrArg (fun v : W64 => v.getLsbD 3) (hlog.reg (by decide) _)).trans (State.flag_setFlag_self _ _ _ (by decide))

theorem State.readBlock_gone : s.readBlock a = ((s.blockGate a).1, .crcResendExhausted) := by
  have h := (State.blockGate_gone hfail htrip).1
  simp only [State.readBlock, h]

theorem State.writeBlock_gone (bytes : List Byte) : s.writeBlock a bytes = ((s.blockGate a).1, .crcResendExhausted) := by
  have h := (State.blockGate_gone hfail htrip).1
  have hstatus := State.blockStatus_gone hfail htrip
  simp [State.writeBlock, h, hstatus]

end
end Sys2Proof.Machine
end

section
/-! SUPPORT. Scrub reads, and O28 (R252 to R255). -/

namespace Sys2Proof.Machine

/-! ### A block that answers -/

section
variable {s t : State} {b : Nat}

/-- Whether a block answers depends on registers, channels and exhausted bursts alone. -/
theorem State.Touches.blockStatus {l : List Part} (h : s.Touches l t) (hr : .regs ∉ l) (hc : .memChans ∉ l) (hb : .memBurstBad ∉ l) :
    t.blockStatus b = s.blockStatus b := by
  have hflag : ∀ o, t.reg o = s.reg o := h.reg hr
  have hchan : ∀ k, t.chan k = s.chan k := fun k => congrArg (fun m => Store.get ({} : Chan) m k) (h .memChans hc)
  have hburst : t.mem.burstBad = s.mem.burstBad := h .memBurstBad hb
  rw [State.blockStatus, State.blockStatus, State.chanTripped, State.chanTripped, State.flag, State.flag, hflag, hchan, hburst]

theorem State.Touches.blockBad {l : List Part} (h : s.Touches l t) (hb : .memBadNear ∉ l) : t.blockBad b = s.blockBad b :=
  congrArg (fun m => Store.get false m (b / 64)) (h .memBadNear hb)

theorem State.blockGate_ok (h : s.blockStatus b = .ok) : s.blockGate b = (s, .ok) := by rw [State.blockGate, h]

/-- A read of a block that answers: what it finds, and whether the block is uncorrectable. -/
theorem State.readBlock_ok (h : s.blockStatus b = .ok) :
    s.readBlock b = if (s.observeBlock b).blockBad b then ((s.observeBlock b).noteUncorr b, .uncorrectable) else (s.observeBlock b, .ok) := by
  rw [State.readBlock, State.blockGate_ok h]

theorem State.scrub_sound (h : s.blockStatus b = .ok) (hbad : (s.observeBlock b).blockBad b = false) : s.scrub b = s.observeBlock b := by
  rw [State.scrub, State.readBlock_ok h, hbad]
  rfl

theorem State.scrub_bad (h : s.blockStatus b = .ok) (hbad : (s.observeBlock b).blockBad b = true) :
    s.scrub b = ((s.observeBlock b).noteUncorr b).count .uncorrectable := by
  rw [State.scrub, State.readBlock_ok h, hbad]
  rfl

/-! ### What a read finds -/

theorem State.observeBlock_clean (h : Store.get [] s.mem.nearErr (b / 64) = []) : s.observeBlock b = s := by
  rw [State.observeBlock, h]
  rfl

variable (herr : Store.get [] s.mem.nearErr (b / 64) ≠ []) (hsound : s.blockBad b = false)
include herr hsound

theorem State.observeBlock_word : s.observeBlock b =
    match rsDecode (s.blockWord b) with
    | .clean => s.settleBlock b (s.blockWord b)
    | .corrected p d => (s.settleBlock b (withErrors (s.blockWord b) [(p, BitVec.ofNat 8 d)])).correctBlock b
    | .bad => s.spoilBlock b := by
  have hstands : ((Store.get [] s.mem.nearErr (b / 64)).isEmpty || s.blockBad b) = false := by
    rw [hsound, Bool.or_false]
    exact List.isEmpty_eq_false_iff.2 herr
  rw [State.observeBlock, hstands]
  rfl

end

/-! ### A block corrected -/

theorem length_withErrors (word : List Nat) (es : List (Nat × Byte)) : (withErrors word es).length = word.length := by
  unfold withErrors
  induction es generalizing word with
  | nil => rfl
  | cons e rest ih => exact (ih _).trans List.length_set

theorem State.length_near (s : State) (a n : Nat) : (s.near a n).length = n := by
  unfold State.near
  split
  · rw [List.length_map, List.length_range]
  · exact length_loadBytes _ _ _

theorem State.length_blockWord (s : State) (b : Nat) : 64 ≤ (s.blockWord b).length := by
  rw [State.blockWord, length_withErrors, List.length_append, List.length_map, State.length_near]
  exact Nat.le_add_right _ _

/-- The registers of the stacks are none of wear's. -/
theorem not_wearReg_msOff {stack off : Nat} (hs : stack < 8) (ho : off < 0x100) : ¬ WearReg (msOff stack off) := by
  unfold WearReg msOff
  omega

section
variable (s : State) {b : Nat} (halign : b / 64 * 64 = b)
include halign

/-- What the correction of a block leaves: its data as decoded, its errors gone, and the correction counted. -/
theorem State.corrected_spec (w : List Nat) :
    let t := (s.settleBlock b w).correctBlock b
    let st := stackOf (chanOf b)
    t.reg (msOff st 0x18) = s.reg (msOff st 0x18) + 1 ∧ t.flag (msOff st 0) 1 = true ∧ t.blockBad b = s.blockBad b ∧
      Store.get [] t.mem.nearErr (b / 64) = [] ∧
      (b + 64 ≤ 0xBF00000000 → 64 ≤ w.length → t.near b 64 = (w.take 64).map (BitVec.ofNat 8)) := by
  intro t st
  have hst : st < 8 := stackOf_chanOf_lt b
  have htouch : (s.settleBlock b w).Touches recordParts t := State.correctBlock_touches _ b
  have hregs : ((s.settleBlock b w).noteCorrected b).RegsWithin WearReg t := State.correctBlock_regsWithin _ b
  refine ⟨?_, ?_, htouch.blockBad (by decide), ?_, fun hlow hlen => ?_⟩
  · exact (hregs _ (not_wearReg_msOff hst (by decide))).trans (State.reg_bumpSeen_self _ _ _ _ (by unfold msOff; omega))
  · exact (hregs.flag (not_wearReg_msOff hst (by decide)) 1).trans (State.flag_setFlag_self _ _ _ (by decide))
  · exact (congrArg (fun m => Store.get [] m (b / 64)) (htouch .memNearErr (by decide))).trans
      (Store.get_set_self ([] : List (Nat × Byte)) s.mem.nearErr (b / 64) [])
  · have hback := s.near_putNear_self (a := b) (n := 64) (l := (w.take 64).map (BitVec.ofNat 8))
      (by rw [List.length_map, List.length_take]; omega) hlow
    rw [htouch.near (by decide) (by decide), State.settleBlock, halign]
    exact hback

end

/-! ### A block found uncorrectable -/

/-- An uncorrectable block noted: counted and seen, and what is stored stays. -/
theorem State.noteUncorr_spec (s : State) (b : Nat) :
    (s.noteUncorr b).reg (msOff (stackOf (chanOf b)) 0x28) = s.reg (msOff (stackOf (chanOf b)) 0x28) + 1 ∧
      (s.noteUncorr b).flag (msOff (stackOf (chanOf b)) 0) 2 = true ∧ s.Touches [.regs, .log, .eventSeq] (s.noteUncorr b) := by
  let u := if s.flag (msOff (stackOf (chanOf b)) 0) 2 then s
    else s.setReg (msOff (stackOf (chanOf b)) 0x30) (BitVec.ofNat 64 (b / 64 * 64))
  have hu : s.Touches [.regs] u := touches_ite (.refl _ s) (s.setReg_touches _ _)
  have hreg : u.reg (msOff (stackOf (chanOf b)) 0x28) = s.reg (msOff (stackOf (chanOf b)) 0x28) := by
    dsimp only [u]
    split
    · rfl
    · exact s.reg_setReg_ne _ _ _ (by unfold msOff; omega)
  have hlog := (u.bumpSeen (msOff (stackOf (chanOf b)) 0x28) (msOff (stackOf (chanOf b)) 0) 2).logEvent_touches .uncorrectable 3 (chanOf b)
    (b / 64 * 64)
  refine ⟨?_, ?_, ((hu.mono (by decide)).trans ((State.bumpSeen_touches _ _ _ _).mono (by decide))).trans (hlog.mono (by decide))⟩
  · exact (hlog.reg (by decide) _).trans ((State.reg_bumpSeen_self _ _ _ _ (by unfold msOff; omega)).trans (congrArg (· + 1) hreg))
  · exact (congrArg (fun v : W64 => v.getLsbD 2) (hlog.reg (by decide) _)).trans (State.flag_setFlag_self _ _ _ (by decide))

/-- A block that spoils is marked, and what is stored stays. -/
theorem State.spoilBlock_spec {s : State} {b : Nat} (h : s.blockBad b = false) :
    (s.spoilBlock b).blockBad b = true ∧ (s.spoilBlock b).mem.near = s.mem.near := by
  have hmark : (s.spoilBlock b) = (({ s with
      mem.badNear := Store.set false s.mem.badNear (b / 64) true
      mem.nearErr := Store.set [] s.mem.nearErr (b / 64) [] } : State).lifeAdd (0x89 + 4 * stackOf (chanOf b) + 2) 1).wornAt b :=
    if_neg (by rw [h]; exact Bool.false_ne_true)
  have htouch : ∀ (u : State), u.Touches recordParts (u.wornAt b) := fun u => State.wornRow_touches u _ _ _ _
  rw [hmark]
  exact ⟨((htouch _).blockBad (by decide)).trans (Store.get_set_self false s.mem.badNear (b / 64) true), (htouch _) .memNear (by decide)⟩

/-- What a scrub read of a block beyond its code leaves. -/
theorem State.scrubBad_spec {s : State} {b : Nat} (hok : s.blockStatus b = .ok) (hsound : s.blockBad b = false)
    (hobs : s.observeBlock b = s.spoilBlock b) :
    let st := stackOf (chanOf b)
    (s.scrub b).reg (msOff st 0x28) = s.reg (msOff st 0x28) + 1 ∧ (s.scrub b).flag (msOff st 0) 2 = true ∧ (s.scrub b).blockBad b = true ∧
      (s.scrub b).mem.near = s.mem.near := by
  intro st
  have hst : st < 8 := stackOf_chanOf_lt b
  obtain ⟨hbad, hnear⟩ := State.spoilBlock_spec hsound
  obtain ⟨hcount, hseen, htouch⟩ := (s.spoilBlock b).noteUncorr_spec b
  have hend : (s.spoilBlock b).Touches [.regs, .log, .eventSeq] (((s.spoilBlock b).noteUncorr b).count .uncorrectable) :=
    htouch.trans ((State.count_touches _ _).mono (by decide))
  have hregs := ((s.spoilBlock b).noteUncorr b).count_regsWithin .uncorrectable
  rw [State.scrub_bad hok (by rw [hobs]; exact hbad), hobs]
  refine ⟨?_, (hregs.flag (not_wearReg_msOff hst (by decide)) 2).trans hseen, (hend.blockBad (by decide)).trans hbad,
    (hend .memNear (by decide)).trans hnear⟩
  rw [hregs _ (not_wearReg_msOff hst (by decide)), hcount, s.spoilBlock_regsWithin b _ (not_wearReg_msOff hst (by decide))]

/-! ### The commands -/

theorem exec_burstCrcFail (s : State) {a r : Nat} {b : Burst} (hnear : isNear a = true) (hlen : b.data.length = 64) (hcrc : b.crc < 65536)
    (hr : r ≤ 3) : exec (.burstCrcFail a r b) s = .next (if burstCrc a b.data = b.crc then s else s.burstFail a r) := by
  simp [exec, execBurstCrcFail, hnear, hlen, hcrc, hr]

theorem exec_channelRetrainEnd (s : State) {ch : Nat} (hch : isChannel ch = true) (ok : Bool) :
    exec (.channelRetrainEnd ch ok) s = .next (if (s.chan ch).retraining then s.retrainEnd ch ok else s) := by
  simp [exec, execChannelRetrainEnd, hch]

theorem exec_scrubRead (s : State) {a : Nat} {ups : List Upset} (hnear : isNear a = true) (hups : ups.all upsetOk = true) :
    exec (.scrubRead a ups) s = .next ((ups.foldl State.upset s).scrub (a / 64 * 64)) := by
  simp only [exec, execScrubRead, hnear, hups, Bool.and_self, ifUnit_true]

/-- A scrub read by what its block holds. -/
theorem scrubRead_spec (s : State) {a : Nat} {ups : List Upset} (hnear : isNear a = true) (hups : ups.all upsetOk = true)
    (hok : s.blockStatus (a / 64 * 64) = .ok) (hsound : s.blockBad (a / 64 * 64) = false) :
    let st := stackOf (chanOf a)
    let u := ups.foldl State.upset s
    let b := a / 64 * 64
    let errs := Store.get [] u.mem.nearErr (a / 64)
    (errs = [] → exec (.scrubRead a ups) s = .next u) ∧
    (∀ p d, errs ≠ [] → rsDecode (u.blockWord b) = .corrected p d →
      ∃ t, exec (.scrubRead a ups) s = .next t ∧ t.reg (msOff st 0x18) = s.reg (msOff st 0x18) + 1 ∧ t.flag (msOff st 0) 1 = true ∧
        t.blockBad b = false ∧ Store.get [] t.mem.nearErr (a / 64) = [] ∧
        (b + 64 ≤ 0xBF00000000 → t.near b 64 = ((withErrors (u.blockWord b) [(p, BitVec.ofNat 8 d)]).take 64).map (BitVec.ofNat 8))) ∧
    (errs ≠ [] → rsDecode (u.blockWord b) = .bad →
      ∃ t, exec (.scrubRead a ups) s = .next t ∧ t.reg (msOff st 0x28) = s.reg (msOff st 0x28) + 1 ∧ t.flag (msOff st 0) 2 = true ∧
        t.blockBad b = true ∧ t.mem.near = s.mem.near) := by
  intro st u b errs
  have hups' : s.Touches upsetParts u := s.upsets_touches ups
  have hb : b / 64 = a / 64 := by omega
  have hexec : exec (.scrubRead a ups) s = .next (u.scrub b) := exec_scrubRead s hnear hups
  have hok' : u.blockStatus b = .ok := (hups'.blockStatus (by decide) (by decide) (by decide)).trans hok
  have hsound' : u.blockBad b = false := (hups'.blockBad (by decide)).trans hsound
  have hst : stackOf (chanOf b) = st := by rw [chanOf_block]
  have hreg : ∀ o, u.reg o = s.reg o := hups'.reg (by decide)
  have herrs : errs = Store.get [] u.mem.nearErr (b / 64) := by rw [hb]
  refine ⟨fun h => ?_, fun p d h hdec => ?_, fun h hdec => ?_⟩
  · have hobs : u.observeBlock b = u := State.observeBlock_clean (herrs ▸ h)
    rw [hexec, State.scrub_sound hok' (by rw [hobs]; exact hsound'), hobs]
  · have hobs := State.observeBlock_word (herrs ▸ h) hsound'
    rw [hdec] at hobs
    obtain ⟨hcount, hseen, hbad, hclear, hdata⟩ := u.corrected_spec (b := b) (by omega) (withErrors (u.blockWord b) [(p, BitVec.ofNat 8 d)])
    rw [hst, hreg] at hcount
    rw [hst] at hseen
    rw [hb] at hclear
    refine ⟨_, hexec.trans (congrArg _ ((State.scrub_sound hok' ?_).trans hobs)), hcount, hseen, hbad.trans hsound', hclear,
      fun hlow => hdata hlow (by rw [length_withErrors]; exact u.length_blockWord b)⟩
    rw [hobs]
    exact hbad.trans hsound'
  · have hobs := State.observeBlock_word (herrs ▸ h) hsound'
    rw [hdec] at hobs
    obtain ⟨hcount, hseen, hbad, hkeep⟩ := State.scrubBad_spec hok' hsound' hobs
    rw [hst, hreg] at hcount
    rw [hst] at hseen
    exact ⟨_, hexec, hcount, hseen, hbad, hkeep.trans (hups' .memNear (by decide))⟩

/-- Settles O28: bursts, channels and scrub reads by the lemmas of each, and the channel hash by the bits that it folds. -/
theorem memoryStackEvents : Obligations.MemoryStackEvents := by
  refine ⟨fun s a r b hnear hlen hcrc hr => ?_, fun s ch hch => ?_, fun h i j l m hi hj hl hm hh => ⟨chanOf_lt _, fun heq => ?_⟩,
    fun a b ha hb hchan hoff => eq_of_chan_eq ha hb hchan hoff⟩
  · intro ch st
    have hexec := exec_burstCrcFail s hnear hlen hcrc hr
    refine ⟨fun h => hexec.trans (congrArg _ (if_pos h)), fun h hlt => ?_, fun h hthree => ?_⟩
    · refine ⟨_, hexec.trans (congrArg _ ((if_neg h).trans (s.burstFail_resend a hlt))), State.reg_bump_self _ _ _, fun o ho => ?_, rfl⟩
      exact State.reg_bump_ne _ _ _ _ (List.ne_of_not_mem_cons ho)
    · subst hthree
      exact ⟨_, hexec.trans (congrArg _ (if_neg h)), s.exhausted_spec a⟩
  · intro st
    have hlt : ch < 256 := of_decide_eq_true hch
    have hst : st < 8 := Nat.div_lt_of_lt_mul hlt
    refine ⟨fun ok h => ?_, fun h => ⟨?_, ?_⟩, fun a ha hfail htrip => ?_, fun n => ?_, fun a ups hnear ha hups => ?_⟩
    · rw [exec_channelRetrainEnd s hch, h]
      rfl
    · rw [exec_channelRetrainEnd s hch, h]
      rfl
    · obtain ⟨hchan, hmask, hseen, hkeep, -⟩ := (s.setChan ch { s.chan ch with retraining := false }).failChannel_spec ch hst
      rw [State.chan_setChan] at hchan
      refine ⟨_, (exec_channelRetrainEnd s hch false).trans (congrArg _ (if_pos h)), congrArg Chan.failed hchan,
        congrArg Chan.retraining hchan, hmask, hseen, hkeep⟩
    · subst ha
      intro gone
      obtain ⟨-, hcount, hseen, hkeep⟩ := State.blockGate_gone hfail htrip
      refine ⟨?_, fun bytes => ?_⟩
      · rw [State.readBlock_gone hfail htrip]
        exact ⟨rfl, hcount, hseen, hkeep⟩
      · rw [State.writeBlock_gone hfail htrip bytes]
        exact ⟨rfl, hcount, hseen, hkeep⟩
    · have hstack : isStack st = true := decide_eq_true hst
      simp only [exec, execOdecReport, hstack, ifUnit_true]
      rfl
    · intro u b errs hok hsound
      subst ha
      exact scrubRead_spec s hnear hups hok hsound
  · have hdiv : (h * 65536 + i * 256 + l) / 65536 = (h * 65536 + j * 256 + m) / 65536 := by omega
    have := bits_eq_of_chanOf_eq hdiv heq
    omega

end Sys2Proof.Machine
end

section
/-! SUPPORT. Far-pool entries: what is read of one after a write of it, after its pool is lost and after its route is up again (R292, R295). -/

namespace Sys2Proof.Machine

/-! ### Bits of an entry -/

/-- The bits of a number after its bits [hi:lo] were replaced. -/
theorem testBit_setBits_field (x v : Nat) {hi lo : Nat} (hle : lo ≤ hi) (i : Nat) :
    (setBits x hi lo v).testBit i = if lo ≤ i ∧ i ≤ hi then v.testBit (i - lo) else x.testBit i := by
  obtain ⟨n, rfl⟩ := Nat.exists_eq_add_of_le hle
  exact testBit_setBits x v lo n i

theorem getLsbD_fpSetReach (x : BitVec 256) (on : Bool) {i : Nat} (hi : i < 256) :
    (fpSetReach x on).getLsbD i = if i = 249 then on else x.getLsbD i := by
  rw [fpSetReach, BitVec.getLsbD_ofNat, decide_eq_true hi, Bool.true_and, testBit_setBits_field _ _ (Nat.le_refl _)]
  by_cases h : i = 249
  · subst h; cases on <;> rfl
  · rw [if_neg (by omega), if_neg h]
    rfl

@[simp] theorem fpReach_fpSetReach (x : BitVec 256) (on : Bool) : fpReach (fpSetReach x on) = on :=
  getLsbD_fpSetReach x on (by decide)

/-- An entry as a write of `v` leaves it, but for `reachable`: without free space, and with the count of losses that it had. -/
def fpWritten (old v : BitVec 256) : BitVec 256 := BitVec.ofNat 256 (setBits (setBits v.toNat 127 104 0) 63 0 (bits old.toNat 63 0))

theorem getLsbD_fpWritten (old v : BitVec 256) {i : Nat} (hi : i < 256) :
    (fpWritten old v).getLsbD i = if i < 64 then old.getLsbD i else if 104 ≤ i ∧ i ≤ 127 then false else v.getLsbD i := by
  rw [fpWritten, BitVec.getLsbD_ofNat, decide_eq_true hi, Bool.true_and, testBit_setBits_field _ _ (by decide),
    testBit_setBits_field _ _ (by decide)]
  by_cases hlow : i < 64
  · rw [if_pos (by omega), if_pos hlow, testBit_bits, decide_eq_true (by omega), Bool.true_and, Nat.zero_add, Nat.sub_zero]
    rfl
  · rw [if_neg (by omega), if_neg hlow, Nat.zero_testBit]
    rfl

/-- The entry of a pool that has become unreachable: its count of losses raised. -/
def fpLost (x : BitVec 256) : BitVec 256 := BitVec.ofNat 256 (setBits (fpSetReach x false).toNat 63 0 (bits x.toNat 63 0 + 1))

theorem fpReach_fpLost (x : BitVec 256) : fpReach (fpLost x) = false := by
  rw [fpReach, fpLost, BitVec.getLsbD_ofNat, decide_eq_true (by decide), Bool.true_and, testBit_setBits_field _ _ (by decide),
    if_neg (by decide)]
  exact fpReach_fpSetReach x false

theorem losses_fpLost (x : BitVec 256) : bits (fpLost x).toNat 63 0 = (bits x.toNat 63 0 + 1) % 2 ^ 64 := by
  apply Nat.eq_of_testBit_eq
  intro i
  rw [testBit_bits, Nat.testBit_mod_two_pow, Nat.zero_add]
  by_cases h : i < 64
  · rw [BitVec.testBit_toNat, fpLost, BitVec.getLsbD_ofNat, decide_eq_true (by omega : i < 256), Bool.true_and,
      testBit_setBits_field _ _ (by decide), if_pos (by omega)]
    rfl
  · simp [h]

/-! ### Pools -/

section
variable (s : State) (n : Nat)

theorem State.farPool_setFarPool (k : Nat) (x : BitVec 256) : (s.setFarPool n x).farPool k = if k = n then x else s.farPool k :=
  Store.get_set 0 s.tier.farPools n k x

/-- What a change of the tier leaves of the routes. -/
theorem State.routeUp_withTier (x : TierSt) (v : BitVec 256) : ({ s with tier := x } : State).routeUp v = s.routeUp v := rfl

/-- A pool no longer counted among those lost or away. -/
def State.poolBack : State :=
  { s with tier.lost := s.tier.lost.filter (· ≠ n), tier.away := s.tier.away.filter (· ≠ n) }

/-- A write of an entry in order, while the pool holds no page. -/
theorem State.farPoolWrite_accepted {v : BitVec 256} (hwritable : s.poolsWritable = true) (hversion : bits v.toNat 255 252 = 1)
    (h1 : bits v.toNat 248 242 = 0) (h2 : bits v.toNat 167 128 = 0) (h3 : bits v.toNat 103 64 = 0) (hsize : bits v.toNat 191 168 ≠ 0)
    (hplace : fpHost v = true ∨ (fpBase v < Config.nearBytes ∧ chipGroup (fpChip v) = chipGroup s.fab.chipNum))
    (hunused : s.poolUsed n = false) :
    s.farPoolWrite n v = ((s.poolBack n).setFarPool n (fpSetReach (fpWritten (s.farPool n) v) (s.routeUp v)), .ok) := by
  have hnot : ¬(fpHost v = false ∧ (Config.nearBytes ≤ fpBase v ∨ chipGroup (fpChip v) ≠ chipGroup s.fab.chipNum)) := by
    rintro ⟨hhost, hout⟩
    rcases hplace with hhost' | ⟨hbase, hgroup⟩
    · rw [hhost] at hhost'
      exact Bool.false_ne_true hhost'
    · exact hout.elim (Nat.not_le.2 hbase) fun h => h hgroup
  simp only [State.farPoolWrite, hwritable, hversion, h1, h2, h3, hsize, hnot, hunused]
  rfl

/-- A pool that becomes unreachable: its entry, and `UNREACH`. -/
def State.noteUnreach : State :=
  if fpReach (s.farPool n) then (s.setFarPool n (fpLost (s.farPool n))).setFlag 0xB000 5 else s

/-- What a far pool holds lost. -/
def State.loseFar : State :=
  { s with
    tier.farMem := Store.erase none (fun k => decide (k / 2 ^ 48 = n)) s.tier.farMem
    tier.farLosses := Store.set 0 s.tier.farLosses n (Store.get 0 s.tier.farLosses n + 1)
    tier.lost := n :: s.tier.lost.filter (· ≠ n) }

/-- A pool counted among those away. -/
def State.poolAway : State := { s with tier.away := n :: s.tier.away.filter (· ≠ n) }

theorem State.reachLoss_alive : s.reachLoss n false = s.noteUnreach n := rfl

theorem State.reachLoss_reset : s.reachLoss n true = (s.noteUnreach n).loseFar n := rfl

theorem State.fpReach_noteUnreach : fpReach ((s.noteUnreach n).farPool n) = false := by
  unfold State.noteUnreach
  split
  · exact (congrArg fpReach (State.farPool_setFarPool_self _ _ _)).trans (fpReach_fpLost _)
  · next h => simpa using h

/-- A loss noted leaves what the far pools hold. -/
theorem State.noteUnreach_far : (s.noteUnreach n).tier.farMem = s.tier.farMem ∧ (s.noteUnreach n).tier.farLosses = s.tier.farLosses := by
  unfold State.noteUnreach
  split <;> exact ⟨rfl, rfl⟩

variable {a : Nat} (ha : a < 2 ^ 48)
include ha

theorem farKey_pool (k : Nat) : farKey k a / 2 ^ 48 = k := by
  unfold farKey
  omega

/-- A byte of the pool lost is a free value. -/
theorem State.farByte_loseFar_self : (s.loseFar n).farByte n a = Config.farByte n (Store.get 0 s.tier.farLosses n + 1) a := by
  have hmem : Store.get none (s.loseFar n).tier.farMem (farKey n a) = none :=
    (Store.get_erase _ _ _ _).trans (if_pos (decide_eq_true (farKey_pool ha n)))
  have hloss : Store.get 0 (s.loseFar n).tier.farLosses n = Store.get 0 s.tier.farLosses n + 1 := by
    simp [State.loseFar]
  rw [State.farByte, hmem, hloss]
  rfl

/-- The other pools keep their bytes. -/
theorem State.farByte_loseFar_ne {k : Nat} (hk : k ≠ n) : (s.loseFar n).farByte k a = s.farByte k a := by
  have hmem : Store.get none (s.loseFar n).tier.farMem (farKey k a) = Store.get none s.tier.farMem (farKey k a) := by
    refine (Store.get_erase _ _ _ _).trans (if_neg ?_)
    rw [farKey_pool ha]
    simpa using hk
  have hloss : Store.get 0 (s.loseFar n).tier.farLosses k = Store.get 0 s.tier.farLosses k := by
    simp [State.loseFar, Store.get_set_ne _ _ _ _ _ hk]
  rw [State.farByte, hmem, hloss]
  rfl

end
end Sys2Proof.Machine
end

section
/-! SUPPORT. The tiered range enabled, high-water marks cleared, the commands on far pools, and O31 (R292, R295, R304 to R306). -/

namespace Sys2Proof.Machine

/-! ### Numeric entries of the dictionary -/

section
variable (s : State)

theorem State.dictNat_setDictNat_self {idx sub size : Nat} (hsize : ((dictAttr idx sub).map DAttr.size).getD 8 = size + 1) {n : Nat}
    (hn : n < 2 ^ (8 * (size + 1))) : (s.setDictNat idx sub n).dictNat idx sub = n := by
  have hget : Store.get [] (s.setDictNat idx sub n).mgmt.values (dictKey idx sub) = leBytes (size + 1) n := by
    rw [State.setDictNat, hsize]
    exact Store.get_set_self [] s.mgmt.values (dictKey idx sub) (leBytes (size + 1) n)
  rw [State.dictNat, hget]
  exact (if_neg (List.cons_ne_nil _ _)).trans ((leNat_leBytes _ _).trans (Nat.mod_eq_of_lt hn))

theorem State.dictNat_setDictNat_ne {idx sub i j : Nat} (h : dictKey i j ≠ dictKey idx sub) (n : Nat) :
    (s.setDictNat idx sub n).dictNat i j = s.dictNat i j := by
  have hget : Store.get [] (s.setDictNat idx sub n).mgmt.values (dictKey i j) = Store.get [] s.mgmt.values (dictKey i j) :=
    Store.get_set_ne [] s.mgmt.values _ _ _ h
  simp only [State.dictNat, hget]

/-! ### Accounts -/

/-- The counts of one class cleared. -/
def State.clearAccount (a : Nat) : State := (s.setReg (0xB100 + 32 * a) 0).setReg (0xB108 + 32 * a) 0

/-- The high-water marks of one class set to its counts. -/
def State.clearMark (a : Nat) : State :=
  (s.setReg (0xB100 + 32 * a + 16) (s.reg (0xB100 + 32 * a))).setReg (0xB100 + 32 * a + 24) (s.reg (0xB100 + 32 * a + 8))

theorem State.reg_clearAccount (a o : Nat) :
    (s.clearAccount a).reg o = if o = 0xB100 + 32 * a ∨ o = 0xB108 + 32 * a then 0 else s.reg o := by
  rw [State.clearAccount, State.reg_setReg, State.reg_setReg]
  split <;> split <;> simp_all

theorem State.reg_clearMark (a o : Nat) :
    (s.clearMark a).reg o = if o = 0xB118 + 32 * a then s.reg (0xB108 + 32 * a)
      else if o = 0xB110 + 32 * a then s.reg (0xB100 + 32 * a) else s.reg o := by
  have h8 : 0xB100 + 32 * a + 8 = 0xB108 + 32 * a := by omega
  have h16 : 0xB100 + 32 * a + 16 = 0xB110 + 32 * a := by omega
  have h24 : 0xB100 + 32 * a + 24 = 0xB118 + 32 * a := by omega
  rw [State.clearMark, h8, h16, h24, State.reg_setReg, State.reg_setReg]

theorem State.hwmClear_eq : s.hwmClear = (List.range 16).foldl State.clearMark s := rfl

theorem regsOnly_foldl {β : Type} {f : State → β → State} (hf : ∀ (t : State) e, t.RegsOnly (f t e)) (es : List β) :
    s.RegsOnly (es.foldl f s) := by
  induction es generalizing s with
  | nil => exact .refl s
  | cons e rest ih => exact (hf s e).trans (ih (f s e))

theorem State.clearAccounts_regsOnly (l : List Nat) : s.RegsOnly (l.foldl State.clearAccount s) :=
  regsOnly_foldl (f := State.clearAccount) s (fun _ _ => rfl) l

theorem State.clearMarks_regsOnly (l : List Nat) : s.RegsOnly (l.foldl State.clearMark s) :=
  regsOnly_foldl (f := State.clearMark) s (fun _ _ => rfl) l

section
variable {l : List Nat} {k o m : Nat}

/-- A count of a class is zero once its class was cleared. -/
theorem State.reg_clearAccounts_count (hk : k ∈ l) (hn : l.Nodup) (ho : o = 0xB100 + 32 * k ∨ o = 0xB108 + 32 * k) :
    (l.foldl State.clearAccount s).reg o = 0 :=
  foldl_read_once (f := fun t => t.reg o) (g := fun _ => 0) hk hn
    (fun t j _ _ => (t.reg_clearAccount j o).trans (if_neg (by omega))) (fun t => (t.reg_clearAccount k o).trans (if_pos ho)) s

theorem State.reg_clearAccounts_other (ho : ∀ k, k ∈ l → o ≠ 0xB100 + 32 * k ∧ o ≠ 0xB108 + 32 * k) :
    (l.foldl State.clearAccount s).reg o = s.reg o :=
  foldl_unread (f := fun t => t.reg o) (fun t j hj => (t.reg_clearAccount j o).trans (if_neg (by have := ho j hj; omega))) s

/-- A mark `m` of a class is its count `o` once the class's marks were set. -/
theorem State.reg_clearMarks_mark (hk : k ∈ l) (hn : l.Nodup)
    (hm : m = 0xB110 + 32 * k ∧ o = 0xB100 + 32 * k ∨ m = 0xB118 + 32 * k ∧ o = 0xB108 + 32 * k) :
    (l.foldl State.clearMark s).reg m = s.reg o := by
  have hcount : ∀ (t : State) j, (t.clearMark j).reg o = t.reg o := fun t j =>
    (t.reg_clearMark j o).trans ((if_neg (by omega)).trans (if_neg (by omega)))
  have hother : ∀ (t : State) j, j ≠ k → (t.clearMark j).reg m = t.reg m := fun t j hj =>
    (t.reg_clearMark j m).trans ((if_neg (by omega)).trans (if_neg (by omega)))
  have hmark : ∀ t : State, (t.clearMark k).reg m = t.reg o := by
    intro t
    rw [State.reg_clearMark]
    rcases hm with ⟨rfl, rfl⟩ | ⟨rfl, rfl⟩
    · rw [if_neg (by omega), if_pos rfl]
    · rw [if_pos rfl]
  have hboth := foldl_read_once (f := fun t => (t.reg m, t.reg o)) (g := fun e => (e.2, e.2)) hk hn
    (fun t j _ hj => Prod.ext (hother t j hj) (hcount t j)) (fun t => Prod.ext (hmark t) (hcount t k)) s
  exact congrArg Prod.fst hboth

theorem State.reg_clearMarks_other (ho : ∀ k, k ∈ l → o ≠ 0xB110 + 32 * k ∧ o ≠ 0xB118 + 32 * k) :
    (l.foldl State.clearMark s).reg o = s.reg o :=
  foldl_unread (f := fun t => t.reg o) (fun t j hj => by
    have := ho j hj
    exact (t.reg_clearMark j o).trans ((if_neg (by omega)).trans (if_neg (by omega)))) s

end

/-! ### The range enabled -/

/-- The metadata area zeroed and nothing placed. -/
def State.tierCleared : State :=
  { s.zeroNear s.tpBase s.metaSize with tier.nodes := 0, tier.frames := [], tier.run := none, tier.xlat := [] }

/-- The addresses of the metadata area's tables set, and the range enabled. -/
def State.tierAddressed (b : Nat) : State :=
  ((((s.setDictNat 0x4300 6 (b + 0x26000)).setDictNat 0x4300 7 (b + 0x6000)).setDictNat 0x4300 8 b).setDictNat 0x4300 9 (b + 0x2000)).setDictNat
    0x4300 5 1

/-- The range enabled: the metadata area and the classes' counts cleared, the addresses set. -/
theorem State.tierStart_eq : s.tierStart = ((List.range 16).foldl State.clearAccount s.tierCleared).tierAddressed s.tpBase := rfl

theorem State.setDictNat_touches (idx sub n : Nat) : s.Touches [.mgmt] (s.setDictNat idx sub n) := touches_mgmt s _

theorem State.tierAddressed_touches (b : Nat) : s.Touches [.mgmt] (s.tierAddressed b) :=
  ((((s.setDictNat_touches _ _ _).trans (State.setDictNat_touches _ _ _ _)).trans (State.setDictNat_touches _ _ _ _)).trans
    (State.setDictNat_touches _ _ _ _)).trans (State.setDictNat_touches _ _ _ _)

theorem State.near_tierCleared (a : Nat) : Store.get 0 s.tierCleared.mem.near a =
    if s.tpBase ≤ a ∧ a < s.tpBase + s.metaSize then 0 else Store.get 0 s.mem.near a := by
  simp [State.tierCleared, State.zeroNear, Store.get_erase]

theorem State.dictNat_tierAddressed {b : Nat} (hb : b ≤ Config.nearBytes) :
    (s.tierAddressed b).dictNat 0x4300 5 = 1 ∧ (s.tierAddressed b).dictNat 0x4300 6 = b + 0x26000 ∧
      (s.tierAddressed b).dictNat 0x4300 7 = b + 0x6000 ∧ (s.tierAddressed b).dictNat 0x4300 8 = b ∧
      (s.tierAddressed b).dictNat 0x4300 9 = b + 0x2000 := by
  have hlt : b + 0x26000 < 2 ^ (8 * (7 + 1)) := Nat.lt_of_le_of_lt (Nat.add_le_add_right hb _) (by decide)
  have h8 : ∀ {sub}, 6 ≤ sub → sub ≤ 9 → ((dictAttr 0x4300 sub).map DAttr.size).getD 8 = 7 + 1 := by
    intro sub hlo hhi
    interval_cases sub <;> rfl
  refine ⟨State.dictNat_setDictNat_self _ (size := 3) rfl (by decide), ?_, ?_, ?_, ?_⟩
  · rw [State.tierAddressed, State.dictNat_setDictNat_ne _ (by decide), State.dictNat_setDictNat_ne _ (by decide),
      State.dictNat_setDictNat_ne _ (by decide), State.dictNat_setDictNat_ne _ (by decide)]
    exact State.dictNat_setDictNat_self _ (h8 (by decide) (by decide)) hlt
  · rw [State.tierAddressed, State.dictNat_setDictNat_ne _ (by decide), State.dictNat_setDictNat_ne _ (by decide),
      State.dictNat_setDictNat_ne _ (by decide)]
    exact State.dictNat_setDictNat_self _ (h8 (by decide) (by decide)) (by omega)
  · rw [State.tierAddressed, State.dictNat_setDictNat_ne _ (by decide), State.dictNat_setDictNat_ne _ (by decide)]
    exact State.dictNat_setDictNat_self _ (h8 (by decide) (by decide)) (by omega)
  · rw [State.tierAddressed, State.dictNat_setDictNat_ne _ (by decide)]
    exact State.dictNat_setDictNat_self _ (h8 (by decide) (by decide)) (by omega)

end

/-! ### The commands -/

theorem exec_tierEnable_config {s : State} (h : s.dev = .config) : exec .tierEnable s =
    .next (((List.range 16).foldl State.clearAccount s.tierCleared).tierAddressed s.tpBase) := by
  have hw : s.tierWritable = true := by simp [State.tierWritable, h]
  simp only [exec, execTierEnable, State.tierEnable, hw, if_true, State.tierStart_eq]
  rfl

/-- What the range enabled in CONFIG holds before the dictionary's entries are set. -/
theorem exec_tierEnable_cleared {s : State} (h : s.dev = .config) : ∃ u : State, exec .tierEnable s = .next (u.tierAddressed s.tpBase) ∧
    (∀ a, Store.get 0 u.mem.near a = if s.tpBase ≤ a ∧ a < s.tpBase + s.metaSize then 0 else Store.get 0 s.mem.near a) ∧
    u.tier.frames = [] ∧ u.tier.run = none ∧ (∀ k, k < 16 → u.reg (0xB100 + 32 * k) = 0 ∧ u.reg (0xB108 + 32 * k) = 0) ∧
    ∀ o, (∀ k, k < 16 → o ≠ 0xB100 + 32 * k ∧ o ≠ 0xB108 + 32 * k) → u.reg o = s.reg o := by
  have hexec := exec_tierEnable_config h
  have hcount := fun {k o : Nat} (hk : k < 16) =>
    s.tierCleared.reg_clearAccounts_count (o := o) (List.mem_range.2 hk) List.nodup_range
  have hother := fun {o : Nat} (ho : ∀ k, k < 16 → o ≠ 0xB100 + 32 * k ∧ o ≠ 0xB108 + 32 * k) =>
    s.tierCleared.reg_clearAccounts_other (l := List.range 16) (o := o) fun k hk => ho k (List.mem_range.1 hk)
  have hrest : { (List.range 16).foldl State.clearAccount s.tierCleared with regs := s.tierCleared.regs } = s.tierCleared :=
    s.tierCleared.clearAccounts_regsOnly (List.range 16)
  generalize (List.range 16).foldl State.clearAccount s.tierCleared = u at hexec hcount hother hrest
  have hnear : u.mem.near = s.tierCleared.mem.near := (congrArg (fun t : State => t.mem.near) hrest :)
  have htier : u.tier = s.tierCleared.tier := (congrArg State.tier hrest :)
  refine ⟨u, hexec, fun a => ?_, congrArg TierSt.frames htier, congrArg TierSt.run htier,
    fun k hk => ⟨hcount hk (.inl rfl), hcount hk (.inr rfl)⟩, fun o ho => hother ho⟩
  exact (congrArg (fun m => Store.get 0 m a) hnear).trans (s.near_tierCleared a)

theorem exec_tierEnable_running {s : State} (h : s.dev = .running) : exec .tierEnable s = .next (s.count .stateConflict) := by
  have hw : s.tierWritable = false := by simp [State.tierWritable, h]
  simp only [exec, execTierEnable, State.tierEnable, hw]
  rfl

section
variable {s : State} {n : Nat} (hn : isFarPool n = true)
include hn

theorem exec_farPoolWrite (v : BitVec 256) :
    exec (.farPoolWrite n v) s = .next ((s.farPoolWrite n v).1.count (s.farPoolWrite n v).2) := by
  simp only [exec, execFarPoolWrite, hn, ifUnit_true]

theorem exec_reachableLoss (peerReset : Bool) : exec (.reachableLoss n peerReset) s = .next ((s.reachLoss n peerReset).poolAway n) := by
  simp only [exec, execReachableLoss, hn, ifUnit_true]
  rfl

theorem exec_reachableRestore :
    exec (.reachableRestore n) s = .next (({ s with tier.away := s.tier.away.filter (· ≠ n) } : State).reachRestore n) := by
  simp only [exec, execReachableRestore, hn, ifUnit_true]

/-- A pool whose contents are lost stays as it is. -/
theorem reachableRestore_lost (hlost : n ∈ s.tier.lost) :
    exec (.reachableRestore n) s = .next { s with tier.away := s.tier.away.filter (· ≠ n) } := by
  have hmem : s.tier.lost.contains n = true := List.contains_iff_mem.2 hlost
  rw [exec_reachableRestore hn, State.reachRestore]
  simp only [hmem]
  rfl

theorem reachableRestore_up (hlost : n ∉ s.tier.lost) (hversion : bits (s.farPool n).toNat 255 252 = 1)
    (hup : s.routeUp (s.farPool n) = true) : exec (.reachableRestore n) s =
      .next (({ s with tier.away := s.tier.away.filter (· ≠ n) } : State).setFarPool n (fpSetReach (s.farPool n) true)) := by
  have hmem : s.tier.lost.contains n = false := by simpa using hlost
  have hup' : ({ s with tier.away := s.tier.away.filter (· ≠ n) } : State).routeUp (s.farPool n) = true := hup
  rw [exec_reachableRestore hn, State.reachRestore]
  refine congrArg _ (if_neg ?_)
  show ¬((s.tier.lost.contains n || decide (bits (s.farPool n).toNat 255 252 ≠ 1) ||
    !({ s with tier.away := s.tier.away.filter (· ≠ n) } : State).routeUp (s.farPool n)) = true)
  rw [hmem, hup', hversion]
  decide

end

/-- Settles O31: each command by its lemma above, and each register and bit by what was read of it. -/
theorem farPoolsAndEnable : Obligations.FarPoolsAndEnable := by
  refine ⟨fun s n hn => ⟨?_, fun hreach => ?_, ?_, fun hlost hversion hup => ?_, reachableRestore_lost hn⟩, fun s => ⟨fun hdev hfit => ?_,
    fun hdev => ?_, ?_⟩⟩
  · intro v hwritable hversion h1 h2 h3 hsize hunused hplace
    have hexec : exec (.farPoolWrite n v) s =
        .next ((s.poolBack n).setFarPool n (fpSetReach (fpWritten (s.farPool n) v) (s.routeUp v))) := by
      rw [exec_farPoolWrite hn, s.farPoolWrite_accepted n hwritable hversion h1 h2 h3 hsize hplace hunused]
      rfl
    refine ⟨_, hexec, fun i hi => ?_, fun k hk => ?_, rfl, rfl⟩
    · rw [State.farPool_setFarPool_self, getLsbD_fpSetReach _ _ hi, getLsbD_fpWritten _ _ hi]
      by_cases h : i = 249
      · subst h; rfl
      · simp only [if_neg h]
    · rw [State.farPool_setFarPool, if_neg hk]
      rfl
  · refine ⟨_, exec_reachableLoss hn false, s.fpReach_noteUnreach n, ?_, ?_, (s.noteUnreach_far n).1⟩
    · rw [State.reachLoss_alive, State.noteUnreach, if_pos hreach]
      exact State.flag_setFlag_self _ _ _ (by decide)
    · rw [State.reachLoss_alive, State.noteUnreach, if_pos hreach]
      exact (congrArg (fun x : BitVec 256 => bits x.toNat 63 0) (s.farPool_setFarPool_self n _)).trans (losses_fpLost _)
  · obtain ⟨hmem, hlosses⟩ := s.noteUnreach_far n
    refine ⟨_, exec_reachableLoss hn true, s.fpReach_noteUnreach n, List.mem_cons_self, fun a ha => ?_, fun k a ha hk => ?_⟩
    · exact ((s.noteUnreach n).farByte_loseFar_self n ha).trans (by rw [hlosses])
    · exact ((s.noteUnreach n).farByte_loseFar_ne n ha hk).trans (by rw [State.farByte, hmem, hlosses]; rfl)
  · refine ⟨_, reachableRestore_up hn hlost hversion hup, ?_, fun i hi hne => ?_, rfl⟩
    · rw [State.farPool_setFarPool_self, fpReach_fpSetReach]
    · rw [State.farPool_setFarPool_self, getLsbD_fpSetReach _ _ hi, if_neg hne]
  · have hb : s.tpBase ≤ Config.nearBytes := Nat.le_trans (Nat.le_add_right _ _) hfit
    obtain ⟨u, hexec, hnear, hframes, hrun, hcount, hother⟩ := exec_tierEnable_cleared hdev
    have hu := u.tierAddressed_touches s.tpBase
    obtain ⟨h5, h6, h7, h8, h9⟩ := u.dictNat_tierAddressed hb
    refine ⟨_, hexec, h5, h6, h7, h8, h9, (congrArg TierSt.frames (hu .tier (by decide))).trans hframes,
      (congrArg TierSt.run (hu .tier (by decide))).trans hrun, fun a => ?_,
      fun k hk => ⟨(hu.reg (by decide) _).trans (hcount k hk).1, (hu.reg (by decide) _).trans (hcount k hk).2⟩,
      fun o ho => (hu.reg (by decide) o).trans (hother o ho)⟩
    exact (congrArg (fun m => Store.get 0 m a) (hu .memNear (by decide))).trans (hnear a)
  · exact ⟨_, exec_tierEnable_running hdev, rfl, State.reg_bump_self _ _ _⟩
  · refine ⟨s.hwmClear, rfl, ?_⟩
    rw [State.hwmClear_eq]
    exact ⟨s.clearMarks_regsOnly _, fun k hk => ⟨s.reg_clearMarks_mark (List.mem_range.2 hk) List.nodup_range (.inl ⟨rfl, rfl⟩),
      s.reg_clearMarks_mark (List.mem_range.2 hk) List.nodup_range (.inr ⟨rfl, rfl⟩)⟩,
      fun o ho => s.reg_clearMarks_other fun k hk => ho k (List.mem_range.1 hk)⟩

end Sys2Proof.Machine
end

section
/-! SUPPORT. What an operation leaves of parts and registers together, and what the end of a descriptor may write (R282, R300, R301, R332,
R336). -/

namespace Sys2Proof.Machine

/-! ### Parts and registers -/

/-- An operation that touches at most the parts of a list, and of the registers at most those that a predicate names. -/
structure State.Writes (l : List Part) (W : Nat → Prop) (s t : State) : Prop where
  touches : s.Touches l t
  regs : s.RegsWithin W t

section
variable {l l' : List Part} {W V : Nat → Prop} {s t u : State}

theorem State.Writes.refl (l : List Part) (W : Nat → Prop) (s : State) : s.Writes l W s := ⟨.refl l s, .refl W s⟩

theorem State.Writes.trans (h : s.Writes l W t) (k : t.Writes l W u) : s.Writes l W u := ⟨h.touches.trans k.touches, h.regs.trans k.regs⟩

theorem State.Writes.mono (h : s.Writes l W t) (hl : ∀ p ∈ l, p ∈ l') : s.Writes l' W t := ⟨h.touches.mono hl, h.regs⟩

theorem State.Writes.weaken (h : s.Writes l W t) (hW : ∀ o, W o → V o) : s.Writes l V t := ⟨h.touches, h.regs.mono hW⟩

theorem writes_ite {c : Prop} [Decidable c] {a b : State} (ha : s.Writes l W a) (hb : s.Writes l W b) :
    s.Writes l W (if c then a else b) := ⟨touches_ite ha.touches hb.touches, regsWithin_ite ha.regs hb.regs⟩

theorem writes_foldl {β : Type} {f : State → β → State} (hf : ∀ (t : State) e, t.Writes l W (f t e)) (es : List β) (s : State) :
    s.Writes l W (es.foldl f s) := ⟨touches_foldl (fun t e => (hf t e).touches) es s, regsWithin_foldl (fun t e => (hf t e).regs) es s⟩

theorem State.Touches.writes (h : s.Touches l t) (hr : .regs ∉ l) : s.Writes l W t := ⟨h, h.regsWithin hr⟩

/-- A part that was not touched and the registers that were not written are left after an update. -/
theorem State.setReg_writes (s : State) {o : Nat} (ho : W o) (v : W64) : s.Writes [.regs] W (s.setReg o v) :=
  ⟨s.setReg_touches o v, s.setReg_regsWithin ho v⟩

theorem State.bump_writes (s : State) {o : Nat} (ho : W o) (n : Nat) : s.Writes [.regs] W (s.bump o n) := s.setReg_writes ho _

theorem State.setFlag_writes (s : State) {o : Nat} (ho : W o) (b : Nat) : s.Writes [.regs] W (s.setFlag o b) := s.setReg_writes ho _

theorem State.bumpSeen_writes (s : State) {c o : Nat} (hc : W c) (ho : W o) (b : Nat) : s.Writes [.regs] W (s.bumpSeen c o b) :=
  (s.bump_writes hc 1).trans (State.setFlag_writes _ ho b)

theorem State.count_writes (s : State) {st : Status} (ho : W st.counterOff) : s.Writes [.regs] W (s.count st) :=
  writes_ite (.refl _ _ s) (s.bump_writes ho 1)

end

/-! ### The end of a descriptor -/

/-- A register that the end of a descriptor may write beside the counter of its status: the far bytes moved, what counts packets that no
route leads anywhere, and the registers of ports and cores. -/
def EndReg (o : Nat) : Prop := o = Status.counterOff .linkRetryExhausted ∨ o = 0xB028 ∨ o = 0xB030 ∨ 0xD000 ≤ o

theorem endReg_coreOff (core o : Nat) : EndReg (coreOff core o) := by
  unfold EndReg coreOff
  omega

theorem endReg_portOff (p o : Nat) : EndReg (portOff p o) := by
  unfold EndReg portOff
  omega

section
variable (s : State)

theorem State.enqueue_writes (port : Nat) (p : Packet) : s.Writes [.regs, .fab] EndReg (s.enqueue port p) :=
  (((s.setPort_touches port _).writes (by decide)).mono (by decide)).trans
    ((State.bump_writes _ (endReg_portOff port _) _).mono (by decide))

theorem State.forward_writes (p : Packet) : s.Writes [.regs, .fab, .log, .eventSeq] EndReg (s.forward p).1 := by
  unfold State.forward
  split
  · exact (s.enqueue_writes _ _).mono (by decide)
  · have hseen : s.Writes [.regs] EndReg (s.bumpSeen 0xE028 0xE004 0) :=
      s.bumpSeen_writes (.inr (.inr (.inr (by decide)))) (.inr (.inr (.inr (by decide)))) 0
    exact (hseen.mono (by decide)).trans (((State.logEvent_touches _ _ _ _ _).writes (by decide)).mono (by decide))

theorem State.sendOn_writes (p : Packet) : s.Writes [.regs, .fab, .log, .eventSeq] EndReg (s.sendOn p) :=
  writes_ite (s.forward_writes p) ((s.forward_writes p).trans ((State.count_writes _ (.inl rfl)).mono (by decide)))

theorem State.endPeers_writes (d : Desc) : s.Writes [.regs, .fab, .log, .eventSeq] EndReg (s.endPeers d) := by
  refine writes_ite (.refl _ _ s) (writes_foldl (fun t e => writes_ite ?_ (.refl _ _ t)) _ s)
  exact (((touches_fab t _).writes (by decide)).mono (by decide)).trans (State.sendOn_writes _ _)

theorem State.dropDesc_writes (d : Desc) : s.Writes [.regs, .fab, .log, .eventSeq, .qs] EndReg (s.dropDesc d) :=
  ((s.endPeers_writes d).mono (by decide)).trans
    ((((touches_qs _ _).trans (State.setQueue_touches _ _ _)).writes (by decide)).mono (by decide))

theorem State.countFar_writes (write : Bool) (o n : Nat) : s.Writes [.regs, .memNear] EndReg (s.countFar write o n) := by
  have hread : EndReg 0xB028 := .inr (.inl rfl)
  have hwrite : EndReg 0xB030 := .inr (.inr (.inl rfl))
  refine writes_ite (.refl _ _ s) (writes_ite ((s.bump_writes hwrite n).mono (by decide)) ?_)
  have hbytes : s.Writes [.regs, .memNear] EndReg (s.bump 0xB028 n) := (s.bump_writes hread n).mono (by decide)
  dsimp only
  split
  · exact hbytes.trans (((State.objAdd_touches _ _ _ _ _).writes (by decide)).mono (by decide))
  · exact hbytes

theorem State.countMoved_writes (d : Desc) (whole : Bool) : s.Writes [.regs, .memNear, .free] EndReg (s.countMoved d whole) :=
  (((((touches_free s _).writes (by decide)).mono (by decide)).trans
    ((State.bump_writes _ (endReg_coreOff d.core _) _).mono (by decide))).trans
    (writes_foldl (fun t e => (t.countFar_writes false _ _).mono (by decide)) _ _)).trans
    (writes_foldl (fun t e => (t.countFar_writes true _ _).mono (by decide)) _ _)

theorem State.dropBeats_touches (id : Nat) : s.Touches [.fab, .memChans, .memAddWaits] (s.dropBeats id) := by
  have hmem : ∀ (t : State) x y, t.Touches [.fab, .memChans, .memAddWaits] { t with mem.addWaits := x, mem.chans := y } :=
    fun t x y p hp => by cases p <;> simp_all [Part.same]
  exact ((s.dropRequests_touches _).mono (by decide)).trans (hmem _ _ _)

/-- The parts that a descriptor cut short may touch. -/
def cutParts : List Part := .regs :: .fab :: .memChans :: .memAddWaits :: havocParts

theorem State.cutShort_writes (d : Desc) : s.Writes cutParts EndReg (s.cutShort d) :=
  writes_ite
    ((((s.countMoved_writes d false).mono (by decide)).trans (((State.dropBeats_touches _ d.id).writes (by decide)).mono (by decide))).trans
      (((State.havocDest_touches _ d).writes (by decide)).mono (by decide)))
    (.refl _ _ s)

end

/-! ### Descriptors in flight -/

section
variable {s : State} {d : Desc}

/-- A descriptor in flight has the identity by which it is found. -/
theorem State.id_of_desc {id : Nat} (h : s.desc id = some d) : d.id = id := by simpa using List.find?_some h

theorem desc_filter_none (l : List Desc) (id : Nat) : ((l.filter fun e => decide (e.id ≠ id)).find? fun e => e.id == id) = none := by
  rw [List.find?_eq_none]
  intro e he
  simpa using (List.mem_filter.1 he).2

/-- A descriptor dropped is in flight no more. -/
theorem State.desc_dropDesc (s : State) (d : Desc) : (s.dropDesc d).desc d.id = none := desc_filter_none (s.qs.descs) d.id

end
end Sys2Proof.Machine
end

section
/-! SUPPORT. Fallbacks that fire and waits for a far pool that time out (R296, R299, R300, R336). -/

namespace Sys2Proof.Machine

/-! ### Fallbacks -/

section
variable (s : State) (d : Desc)

theorem State.putFb_touches (f st : Nat) : s.Touches [.memNear] (s.putFb f st) := s.putNear_touches _ _

theorem State.deviceResume_touches (q : Nat) : s.Touches [.qs] (s.deviceResume q) :=
  touches_ite (.refl _ s) (touches_ite (s.setQueue_touches q _) (s.setQueue_touches q _))

theorem State.desc_of_qs {s t : State} (h : t.qs = s.qs) (id : Nat) : t.desc id = s.desc id := by
  rw [State.desc, State.desc, h]

theorem State.desc_deviceResume (q id : Nat) : (s.deviceResume q).desc id = s.desc id := by
  unfold State.deviceResume
  dsimp only
  split
  · rfl
  · split <;> rfl

/-- A descriptor ended by its fallback, before the fallback's queues resume. -/
def State.fallbackFired : State :=
  ((((s.cutShort d).dropDesc d).count .fallbackTaken).putFb (dFb d.item) 2).bumpSeen 0xB058 0xB000 4

/-- The queues that a fallback entry names resumed. -/
def State.resumeBoth (e : Nat) : State :=
  if bitAt e 43 then (s.deviceResume (bits e 247 228)).deviceResume (bits e 63 44) else s.deviceResume (bits e 247 228)

theorem State.fireFallback_eq : s.fireFallback d = (s.fallbackFired d).resumeBoth (s.fbEntry (dFb d.item)) := rfl

theorem State.resumeBoth_touches (e : Nat) : s.Touches [.qs] (s.resumeBoth e) :=
  touches_ite ((s.deviceResume_touches _).trans (State.deviceResume_touches _ _)) (s.deviceResume_touches _)

theorem State.desc_resumeBoth (e id : Nat) : (s.resumeBoth e).desc id = s.desc id := by
  unfold State.resumeBoth
  split
  · rw [State.desc_deviceResume, State.desc_deviceResume]
  · exact s.desc_deviceResume _ _

/-- The parts that a fallback's firing may touch. -/
def fireParts : List Part := .qs :: .log :: .eventSeq :: cutParts

/-- The descriptor gone, before its status is counted. -/
theorem State.cutDrop_writes : s.Writes fireParts EndReg ((s.cutShort d).dropDesc d) :=
  ((s.cutShort_writes d).mono (by decide)).trans ((State.dropDesc_writes _ d).mono (by decide))

theorem State.fireFallback_touches : s.Touches fireParts (s.fireFallback d) := by
  have hcount : ((s.cutShort d).dropDesc d).Touches fireParts (s.fallbackFired d) :=
    (((State.count_touches _ _).mono (by decide)).trans ((State.putFb_touches _ _ _).mono (by decide))).trans
      ((State.bumpSeen_touches _ _ _ _).mono (by decide))
  exact ((s.cutDrop_writes d).touches.trans hcount).trans ((State.resumeBoth_touches _ _).mono (by decide))

/-- What a fallback's firing counts. -/
theorem State.fireFallback_counts : (s.fireFallback d).reg 0x608 = s.reg 0x608 + 1 ∧ (s.fireFallback d).reg 0xB058 = s.reg 0xB058 + 1 ∧
    (s.fireFallback d).flag 0xB000 4 = true := by
  have hresume : ∀ o, (s.fireFallback d).reg o = (s.fallbackFired d).reg o := (State.resumeBoth_touches _ _).reg (by decide)
  have hput : ∀ t : State, ∀ o, (t.putFb (dFb d.item) 2).reg o = t.reg o := fun t => (t.putFb_touches _ _).reg (by decide)
  have hkeep := (s.cutDrop_writes d).regs
  have h608 : ¬ EndReg 0x608 := by unfold EndReg; decide
  have hB058 : ¬ EndReg 0xB058 := by unfold EndReg; decide
  refine ⟨?_, ?_, ?_⟩
  · rw [hresume, State.fallbackFired, State.reg_bumpSeen_ne _ _ _ _ _ (by decide) (by decide), hput, State.reg_count, if_pos (by decide),
      hkeep _ h608]
  · rw [hresume, State.fallbackFired, State.reg_bumpSeen_self _ _ _ _ (by decide), hput, State.reg_count_high _ _ (by decide),
      hkeep _ hB058]
  · rw [State.flag, hresume, State.fallbackFired]
    exact State.flag_setFlag_self _ _ _ (by decide)

theorem State.desc_fireFallback : (s.fireFallback d).desc d.id = none := by
  have hcount : (((s.cutShort d).dropDesc d).count .fallbackTaken).desc d.id = ((s.cutShort d).dropDesc d).desc d.id :=
    State.desc_of_qs (State.count_touches _ _ .qs (by decide)) _
  rw [State.fireFallback_eq, State.desc_resumeBoth]
  exact hcount.trans (State.desc_dropDesc _ d)

end

/-! ### Descriptors that fail -/

section
variable (s : State) (d : Desc) (st : Status)

theorem State.qs_noteDescFault : (s.noteDescFault d st).qs = s.qs := (s.noteDescFault_releases d st).touches .qs (by decide)

/-- The record of a fault leaves the descriptors in flight. -/
theorem State.descs_recordFault (q : Nat) (index : W32) (second : W64) : (s.recordFault q index second st).qs.descs = s.qs.descs := by
  have hrec : ∀ o b recs, (s.faultRec o b recs).qs = s.qs := fun o b recs => s.faultRec_touches o b recs .qs (by decide)
  have hstop : ∀ t : State, (t.stopQueue q 2).qs.descs = t.qs.descs := by
    intro t
    unfold State.stopQueue
    dsimp only
    split <;> rfl
  exact (hstop _).trans (congrArg QueueSt.descs (hrec _ _ _))

theorem State.desc_failDesc : (s.failDesc d st).desc d.id = none := by
  rw [State.failDesc_eq, State.desc, State.descs_recordFault, State.qs_noteDescFault, State.count_touches _ st .qs (by decide)]
  exact desc_filter_none s.qs.descs d.id

/-- The queue of a descriptor that fails is STOPPED, unless it is DISABLED or was resumed in this control cycle, and tells the fault. -/
theorem State.queue_failDesc (hlive : (s.queue d.queue).state ≠ .disabled)
    (hresumed : ∀ r, (s.queue d.queue).resumedAt = some r → r.1 ≠ s.cycle) :
    ((s.failDesc d st).queue d.queue).state = .stopped ∧ ((s.failDesc d st).queue d.queue).faultStatus = st.code := by
  have hqueue : (((s.removeDesc d).count st).noteDescFault d st).queue d.queue = (s.queue d.queue).finishItem d.index :=
    ((State.noteDescFault_releases _ d st).touches.queue (by decide) _).trans
      (((State.count_touches _ st).queue (by decide) _).trans (State.queue_setQueue_self _ _ _))
  have hcycle : (((s.removeDesc d).count st).noteDescFault d st).cycle = s.cycle :=
    ((State.noteDescFault_releases _ d st).touches .cycle (by decide)).trans (State.count_touches _ st .cycle (by decide))
  have hnot : ¬ (((s.queue d.queue).finishItem d.index).resumedAt.any fun r => decide (r.1 = s.cycle)) = true := by
    show ¬ ((s.queue d.queue).resumedAt.any fun r => decide (r.1 = s.cycle)) = true
    cases hr : (s.queue d.queue).resumedAt with
    | none => simp
    | some r => simpa using hresumed r hr
  rw [State.failDesc_eq, State.queue_recordFault, hqueue, hcycle, if_neg hnot]
  exact ⟨congrArg Queue.state (if_neg hlive), rfl⟩

/-- The status of a descriptor that fails is counted. -/
theorem State.reg_failDesc (hst : st ≠ .ok) : (s.failDesc d st).reg st.counterOff = s.reg st.counterOff + 1 := by
  obtain ⟨-, hlt⟩ := counterOff_range st
  have hnote : ∀ t : State, (t.noteDescFault d st).reg st.counterOff = t.reg st.counterOff := by
    intro t
    have hne : ∀ o, st.counterOff ≠ coreOff d.core o := fun o h => by unfold coreOff at h; omega
    unfold State.noteDescFault
    split
    · exact t.reg_bump_ne _ _ _ (hne _)
    · exact t.reg_bumpSeen_ne _ _ _ _ (hne _) (hne _)
    · rfl
  have hremove : (s.removeDesc d).reg st.counterOff = s.reg st.counterOff := (s.removeDesc_releases d).touches.reg (by decide) _
  rw [State.failDesc_eq, State.reg_recordFault _ _ _ _ _ (by omega), hnote, State.reg_count, if_pos ⟨hst, rfl⟩, hremove]

/-- A descriptor that fails after its first beat: it is gone, its queue tells the fault, and the status is counted. -/
theorem State.failMoved_spec (hst : st ≠ .ok) (hend : ¬ EndReg st.counterOff) (hlive : (s.queue d.queue).state ≠ .disabled)
    (hresumed : ∀ r, (s.queue d.queue).resumedAt = some r → r.1 ≠ s.cycle) :
    (s.failMoved d st).desc d.id = none ∧ ((s.failMoved d st).queue d.queue).state = .stopped ∧
      ((s.failMoved d st).queue d.queue).faultStatus = st.code ∧
      (s.failMoved d st).reg st.counterOff = s.reg st.counterOff + 1 := by
  have hcut := s.cutShort_writes d
  have hqueue : (s.cutShort d).queue d.queue = s.queue d.queue := hcut.touches.queue (by decide) _
  have hcycle : (s.cutShort d).cycle = s.cycle := hcut.touches .cycle (by decide)
  obtain ⟨hstate, hstatus⟩ := (s.cutShort d).queue_failDesc d st (by rwa [hqueue]) (by rwa [hqueue, hcycle])
  refine ⟨State.desc_failDesc _ d st, hstate, hstatus, ?_⟩
  exact ((s.cutShort d).reg_failDesc d st hst).trans (by rw [hcut.regs _ hend])

end

/-! ### The commands -/

section
variable {s : State} {id : Nat} {d : Desc} (hd : s.desc id = some d)
include hd

theorem State.toDesc_some (f : State → Desc → State) : s.toDesc id f = f s d := by
  simp only [State.toDesc, hd]

theorem exec_farTimeout : exec (.farTimeout id) s = .next (s.farTimeout d) := congrArg _ (State.toDesc_some hd _)

theorem exec_fallbackFire : exec (.fallbackFire id) s = .next (s.deadlineReached d) := congrArg _ (State.toDesc_some hd _)

theorem exec_transitWaitEnd : exec (.transitWaitEnd id) s = .next (s.transitEnd d) := congrArg _ (State.toDesc_some hd _)

end

section
variable {s : State} {d : Desc}

/-- A wait for a pool that is still unreachable: it fails once it has lasted long enough. -/
theorem State.farTimeout_waiting (hstage : d.stage = .unreachable) (hpages : (s.tieredPages d.rows).any s.unreachable = true) :
    s.farTimeout d = if d.since + 1000 * s.dictNat 0x4300 4 ≤ s.ft.toNat then s.failMoved d .deadlineMissed else s := by
  have hgo : s.descCanGo d = false := by simp only [State.descCanGo, hstage, hpages, Bool.not_true]
  simp [State.farTimeout, hstage, hgo]

theorem State.deadlineReached_of_some {w : Nat} (hw : d.deadline = some w) :
    s.deadlineReached d = if d.fallback && decide (w ≤ s.ft.toNat) && d.holds then s.fireFallback d else s := by
  simp only [State.deadlineReached, hw]

end
end Sys2Proof.Machine
end

section
/-! SUPPORT. The deadlock watchdog: a queue that waits for itself alone (R353, R354). -/

namespace Sys2Proof.Machine

section
variable {s : State} {q : Nat} {Q : Queue}

theorem State.watchdog_of_acyclic (h : s.cyclic = []) (fuel : Nat) : State.watchdog fuel s = s := by
  cases fuel with
  | zero => rfl
  | succ fuel => simp only [State.watchdog, h, youngestOf, List.foldl_nil]

theorem State.queue_of_alone (hqs : s.qs.queues = [(q, Q)]) : s.queue q = Q := by
  simp [State.queue, hqs, Store.get]

/-- The only queue, waiting for itself, is the one cycle. -/
theorem State.cyclic_of_alone (hqs : s.qs.queues = [(q, Q)]) (hself : q ∈ s.waitsFor q) : s.cyclic = [(q, Q)] := by
  have hreached : q ∈ State.reached 1 s (s.waitsFor q) := by
    simp only [State.reached, List.mem_eraseDups]
    exact List.mem_append_left _ hself
  simp [State.cyclic, hqs, hreached]

/-- A queue whose item has waited 1 ms for a semaphore that it cannot have is held on that semaphore. -/
theorem State.heldOn_of_waiting {h : Held} {w i : Nat} (hqueue : s.queue q = Q) (hdescs : s.qs.descs = []) (hheld : Q.held = some h)
    (hsat : h.satisfied = false) (hsince : Q.waitSince = some w) (hold : w + 1000000 ≤ s.ft.toNat) (hwaits : itemWaits Q.kind h.item = [i])
    (hobs : (s.sem i).observe = false) (hshort : (s.sem i).count.toNat < (s.sem i).take) : s.heldOn q = [i] := by
  simp [State.heldOn, hqueue, hdescs, hheld, hsat, hsince, hold, hwaits, State.unmet, hobs, hshort]

theorem State.waitsFor_self {i : Nat} (hqs : s.qs.queues = [(q, Q)]) (hlive : Q.state ≠ .disabled) (hon : s.heldOn q = [i])
    (hsignals : s.signals q i = true) : q ∈ s.waitsFor q := by
  simp [State.waitsFor, hqs, hon, Queue.enabled, hlive, hsignals]

/-- The queue that the watchdog records beside a queue of a cycle: the first that it waits for and that leads back to it. -/
def State.waitedFor (s : State) (q : Nat) : Nat :=
  ((s.waitsFor q).find? fun o => o == q || (State.reached s.qs.queues.length s (s.waitsFor o)).contains q).getD q

/-- The watchdog's evaluation where the only queue waits for itself. -/
theorem exec_watchdogEval_alone (hqs : s.qs.queues = [(q, Q)]) (hself : q ∈ s.waitsFor q) :
    exec .watchdogEval s = .next (s.failQueue q (s.waitedFor q)) := by
  have hlen : s.qs.queues.length = 1 := by rw [hqs]; rfl
  show Host.Outcome.next (State.watchdog s.qs.queues.length s) = _
  rw [hlen]
  simp only [State.watchdog, State.cyclic_of_alone hqs hself, youngestOf, List.foldl_cons, List.foldl_nil]
  rfl

/-- The held item of a queue without descriptors, ended by the watchdog. -/
def State.deadItem (s : State) (q : Nat) : State := (s.dropWaiter (.item q)).endItem q .deadlockDetected

/-- What the watchdog counts and records of a queue that it failed. -/
def State.noteDeadlock (s : State) (q other : Nat) : State :=
  (((s.bumpSeen 0xC008 0xC000 0).lifeAdd 13 1).setReg 0xC010 (BitVec.ofNat 64 (q * 2 ^ 44 + other * 2 ^ 24))).logEvent
    .deadlockDetected 5 q other

theorem State.failQueue_of_none (hdescs : s.qs.descs = []) (other : Nat) :
    s.failQueue q other = ((s.deadItem q).stopQueue q 6).noteDeadlock q other := by
  simp only [State.failQueue, hdescs, List.find?_nil, List.filter_nil, List.foldl_nil]
  rfl

theorem State.noteDeadlock_touches (s : State) (q other : Nat) : s.Touches [.regs, .wear, .log, .eventSeq] (s.noteDeadlock q other) :=
  ((((s.bumpSeen_touches _ _ _).mono (by decide)).trans ((touches_wear _ _).mono (by decide))).trans
    ((State.setReg_touches _ _ _).mono (by decide))).trans ((State.logEvent_touches _ _ _ _ _).mono (by decide))

theorem State.reg_noteDeadlock (s : State) (q other : Nat) :
    (s.noteDeadlock q other).reg 0xC008 = s.reg 0xC008 + 1 ∧ (s.noteDeadlock q other).flag 0xC000 0 = true := by
  have hlog : ∀ o, (s.noteDeadlock q other).reg o =
      (((s.bumpSeen 0xC008 0xC000 0).lifeAdd 13 1).setReg 0xC010 (BitVec.ofNat 64 (q * 2 ^ 44 + other * 2 ^ 24))).reg o :=
    (State.logEvent_touches _ _ _ _ _).reg (by decide)
  have hlife : ∀ (t : State) o, (t.lifeAdd 13 1).reg o = t.reg o := fun _ _ => rfl
  constructor
  · rw [hlog, State.reg_setReg_ne _ _ _ _ (by decide), hlife, State.reg_bumpSeen_self _ _ _ _ (by decide)]
  · rw [State.flag, hlog, State.reg_setReg_ne _ _ _ _ (by decide), hlife]
    exact State.flag_setFlag_self _ _ _ (by decide)

/-- A waiter dropped is registered on no semaphore. -/
theorem State.not_mem_waiters_dropWaiter (s : State) (w : Waiter) (i : Nat) : w ∉ ((s.dropWaiter w).sem i).waiters := by
  have hget : (s.dropWaiter w).sem i = (s.sem i).keepWaiters fun v => decide (v ≠ w) :=
    Store.get_map _ (Sem.keepWaiters fun v => decide (v ≠ w)) s.sync.sems i rfl
  rw [hget]
  exact fun h => by simpa using (List.mem_filter.1 h).2

/-- The only queue, failed: it holds nothing, it is STOPPED with DEADLOCK_DETECTED, and the deadlock is counted. -/
theorem State.failQueue_spec {h : Held} (hdescs : s.qs.descs = []) (hheld : (s.queue q).held = some h)
    (hlive : (s.queue q).state ≠ .disabled) (hresumed : ∀ r, (s.queue q).resumedAt = some r → r.1 ≠ s.cycle) (other i : Nat) :
    let t := s.failQueue q other
    (t.queue q).held = none ∧ (t.queue q).state = .stopped ∧ (t.queue q).faultStatus = 0x0302 ∧ t.reg 0xC008 = s.reg 0xC008 + 1 ∧
      t.flag 0xC000 0 = true ∧ .item q ∉ (t.sem i).waiters := by
  intro t
  have ht : t = ((s.deadItem q).stopQueue q 6).noteDeadlock q other := State.failQueue_of_none hdescs other
  have hdrop : s.Touches [.sync] (s.dropWaiter (.item q)) := (s.dropWaiter_releases _).touches
  have hqueue : (s.dropWaiter (.item q)).queue q = s.queue q := hdrop.queue (by decide) q
  have hcycle : (s.dropWaiter (.item q)).cycle = s.cycle := hdrop .cycle (by decide)
  obtain ⟨hnone, hstop, hstatus, -⟩ := (s.dropWaiter (.item q)).queue_endItem_fault q (st := .deadlockDetected) (by decide)
    (hqueue ▸ hheld)
  obtain ⟨hstate, -⟩ := hstop (hqueue ▸ hlive) (by rwa [hqueue, hcycle])
  have hnoted := ((s.deadItem q).stopQueue q 6).noteDeadlock_touches q other
  have hstill := (s.deadItem q).queue_stopQueue q 6
  have hkept : (t.queue q).held = ((s.deadItem q).queue q).held ∧ (t.queue q).state = .stopped ∧
      (t.queue q).faultStatus = ((s.deadItem q).queue q).faultStatus := by
    have hlive' : ((s.deadItem q).queue q).state ≠ .disabled := fun e => by simp [State.deadItem, hstate] at e
    rw [ht, hnoted.queue (by decide), hstill]
    split
    · exact ⟨rfl, hstate, rfl⟩
    · rw [Queue.stop, if_neg hlive']
      exact ⟨rfl, rfl, rfl⟩
  obtain ⟨hh, hs, hf⟩ := hkept
  have hreg : ((s.deadItem q).stopQueue q 6).reg 0xC008 = s.reg 0xC008 :=
    (((State.stopQueue_releases _ q 6).touches.reg (by decide) _).trans
      ((State.endItem_releases _ q (by decide)).regs 0xC008 ⟨by decide, by decide⟩)).trans (hdrop.reg (by decide) _)
  have hsem : (t.sem i) = (s.dropWaiter (.item q)).sem i := by
    rw [ht, hnoted.sem (by decide), (State.stopQueue_releases _ q 6).touches.sem (by decide)]
    exact (State.endItem_releases _ q (by decide)).touches.sem (by decide) i
  obtain ⟨hcount, hflag⟩ := ((s.deadItem q).stopQueue q 6).reg_noteDeadlock q other
  refine ⟨hh.trans hnone, hs, hf.trans hstatus, ?_, ht ▸ hflag, hsem ▸ State.not_mem_waiters_dropWaiter s _ i⟩
  rw [ht, hcount, hreg]

end
end Sys2Proof.Machine
end

section
/-! SUPPORT. What the movement of a descriptor's rows touches, and O36 (R279, R296, R299, R300, R334, R353, R354). -/

namespace Sys2Proof.Machine

/-! ### Rows read and written -/

/-- The parts that the movement of a row on this chip may touch. -/
def moveParts : List Part := .tier :: .free :: .memTile :: .memBadTile :: .memTileErr :: accessParts

section
variable (s : State)

theorem State.wornTile_touches (core off : Nat) : s.Touches [.wear] (s.wornTile core off) := touches_ite (.refl _ s) (touches_wear s _)

theorem State.observeWord_touches (k n : Nat) : s.Touches moveParts (s.observeWord k n) := by
  have hseen : s.Touches moveParts { s with mem.tileErr := Store.set 0 s.mem.tileErr k 0 } :=
    (touches_memTile s s.mem.tile s.mem.badTile _).mono (by decide)
  have hbad : ∀ (t : State) x, t.Touches moveParts { t with mem.badTile := x } := fun t x =>
    (touches_memTile t t.mem.tile x t.mem.tileErr).mono (by decide)
  have hworn : ∀ t : State, t.Touches moveParts (t.wornTile (k / 0x1000000) (k % 0x1000000)) := fun t =>
    (t.wornTile_touches _ _).mono (by decide)
  have hcount : ∀ (t : State) x, t.Touches moveParts { t with wear := x } := fun t x => (touches_wear t x).mono (by decide)
  refine touches_ite ?_ (hseen.trans ((hbad _ _).trans (hworn _)))
  exact (hseen.trans (((State.bumpSeen_touches _ _ _ _).mono (by decide)).trans (hcount _ _))).trans (touches_ite (hworn _) (.refl _ _))

theorem State.noteTileUncorr_touches (core off : Nat) : s.Touches moveParts (s.noteTileUncorr core off) := by
  have hfirst : s.Touches moveParts
      (if s.flag (coreOff core 0x7000) 1 then s else s.setReg (coreOff core 0x7018) (BitVec.ofNat 64 off)) :=
    touches_ite (.refl _ s) ((s.setReg_touches _ _).mono (by decide))
  exact (hfirst.trans ((State.bumpSeen_touches _ _ _ _).mono (by decide))).trans ((State.logEvent_touches _ _ _ _ _).mono (by decide))

theorem State.readTile_touches (core off n : Nat) : s.Touches moveParts (s.readTile core off n).1 := by
  have hseen : s.Touches moveParts (s.observeTile core [(off, n)]) := 
    touches_foldl (f := fun (t : State) (e : Nat × Nat) => t.observeWord e.1 e.2) (fun t e => t.observeWord_touches e.1 e.2) _ s
  show s.Touches moveParts (s.meetTile core [(off, n)]).1
  unfold State.meetTile
  dsimp only
  split
  · exact hseen.trans (State.noteTileUncorr_touches _ _ _)
  · exact hseen

theorem State.tierRead_touches (o n : Nat) : s.Touches moveParts (s.tierRead o n).1 := by
  refine touches_foldl_fst (fun x e => ?_) _ (s, Status.ok, ([] : List Byte))
  have hpage : x.1.Touches moveParts (x.1.touchPage e.1) := (x.1.touchPage_touches e.1).mono (by decide)
  dsimp only
  split
  · exact hpage.trans ((State.readNear_touches _ _ _).mono (by decide))
  · exact hpage
  · exact hpage

theorem State.tierWrite_touches (o : Nat) (bytes : List Byte) : s.Touches moveParts (s.tierWrite o bytes).1 := by
  refine touches_foldl_fst (fun x e => ?_) _ (s, Status.ok)
  have hpage : x.1.Touches moveParts (x.1.touchPage e.1) := (x.1.touchPage_touches e.1).mono (by decide)
  dsimp only
  split
  · exact hpage.trans ((State.writeNear_touches _ _ _).mono (by decide))
  · exact hpage.trans ((State.putFar_touches _ _ _ _).mono (by decide))
  · exact hpage

theorem State.readRow_touches (a n : Nat) : s.Touches moveParts (s.readRow a n).1 := by
  unfold State.readRow
  split
  · exact (s.readNear_touches _ n).mono (by decide)
  · exact s.readTile_touches _ _ n
  · exact .refl _ s
  · exact s.tierRead_touches _ n
  · exact .refl _ s

/-- Does a local address lie in the register window (R56)? -/
def WindowAddr (a : Nat) : Prop := 0x200000000000 ≤ a ∧ a < 0x200100000000

theorem windowAddr_of_regionOf {a o : Nat} (h : regionOf a = .window o) : WindowAddr a := by
  unfold regionOf at h
  split at h
  · cases h
  · split at h
    · dsimp only at h
      split at h <;> cases h
    · split at h
      · assumption
      · split at h <;> cases h

/-- Only an address of the window has a region in it. -/
theorem State.windowAddr_of_region {a o : Nat} (h : s.region a = .window o) : WindowAddr a := by
  unfold State.region at h
  split at h
  · split at h <;> cases h
  · next o' ho => exact windowAddr_of_regionOf ho
  · exact windowAddr_of_regionOf h

/-- A row written outside the register window moves bytes and no more. -/
theorem State.writeRow_touches {a : Nat} (ha : ¬ WindowAddr a) (bytes : List Byte) : s.Touches moveParts (s.writeRow a bytes).1 := by
  unfold State.writeRow
  split
  · exact (s.writeNear_touches _ bytes).mono (by decide)
  · exact (s.putTile_touches _ _ bytes).mono (by decide)
  · next o ho => exact absurd (s.windowAddr_of_region ho) ha
  · exact s.tierWrite_touches _ bytes
  · exact .refl _ s

theorem State.landTag_touches (x : BitVec 512) (a : Nat) : s.Touches moveParts (s.landTag x a) := by
  unfold State.landTag
  split
  · exact touches_ite (.refl _ s) ((s.putTile_touches _ _ _).mono (by decide))
  · exact .refl _ s

theorem State.translate_touches (die o : Nat) : s.Touches moveParts (s.translate die o) := by
  unfold State.translate
  split
  · exact (s.bump_touches _ _).mono (by decide)
  · exact touches_ite (.refl _ s) ((((touches_free s _).mono (by decide)).trans ((State.bump_touches _ _ _).mono (by decide))).trans
      ((touches_tier _ _).mono (by decide)))

theorem State.bumpWritten_touches (x : BitVec 512) : s.Touches moveParts (s.bumpWritten x) :=
  touches_foldl (fun t n => (t.objAdd_touches n _ _ _).mono (by decide)) _ s

end

/-! ### Where a descriptor's destination lies -/

section
variable {s : State} {x : BitVec 512} {pd core : Nat}

/-- An address that a row may have and that is not in the window: it and what follows it within 64 GiB miss the window. -/
def BelowOrAbove (a : Nat) : Prop := a < 0x200000000000 - 2 ^ 36 ∨ 0x400000000000 ≤ a ∧ a < 0x800000000000

theorem belowOrAbove_of_rowOk {op a n : Nat} {write : Bool} (hok : s.rowOk pd core op write a n = true) (ha : ¬ WindowAddr a) :
    BelowOrAbove a := by
  by_contra hout
  have hunmapped : regionOf a = .unmapped := by
    unfold BelowOrAbove at hout
    unfold WindowAddr at ha
    have htile : ¬ (0x100000000000 ≤ a ∧ a < 0x100090000000) := by omega
    have htiered : ¬ (0x400000000000 ≤ a ∧ a < 0x800000000000) := by omega
    rw [regionOf, if_neg (by omega), if_neg htile, if_neg ha, if_neg htiered]
  simp [State.rowOk, State.region, hunmapped] at hok

theorem not_windowAddr_of_inWindow {a : Nat} (h : inWindow a = false) : ¬ WindowAddr (addrLocal a) := by
  intro ha
  have hregion : regionOf (addrLocal a) = .window (addrLocal a - 0x200000000000) := by
    unfold WindowAddr at ha
    rw [regionOf, if_neg (by omega), if_neg (by omega), if_pos ha]
  simp [inWindow, hregion] at h

/-- The rows of a destination whose first row misses the window miss it. -/
theorem not_windowAddr_row {k : Nat} (hk : k < 4096) (hfirst : BelowOrAbove (addrLocal (dDst x))) :
    ¬ WindowAddr (addrLocal (rowAddr (dDst x) (dDstPitch x) k)) := by
  have hpitch : dDstPitch x < 2 ^ 24 := bits_lt _ _ _
  have hmul : k * dDstPitch x < 2 ^ 36 :=
    Nat.lt_of_le_of_lt (Nat.mul_le_mul_right _ (Nat.le_of_lt_succ hk : k ≤ 4095)) (by omega)
  unfold BelowOrAbove at hfirst
  unfold WindowAddr
  unfold rowAddr addrLocal at *
  omega

/-- Nor does the tag store of a row that misses the window lie in it. -/
theorem not_windowAddr_tagStoreOf {a : Nat} (ha : ¬ WindowAddr a) : ¬ WindowAddr (tagStoreOf a) := by
  unfold tagStoreOf
  split
  · next c o ho =>
    have hc : c < 0x90 ∧ o < 0x1000000 := by
      unfold regionOf at ho
      split at ho
      · cases ho
      · split at ho
        · dsimp only at ho
          split at ho
          · cases ho; omega
          · cases ho
        · split at ho
          · cases ho
          · split at ho <;> cases ho
    unfold WindowAddr
    omega
  · exact ha

/-- The check of a COPY whose destination is here and not in the window keeps its rows out of the window. -/
theorem belowOrAbove_of_ownCheck (hop : dOp x = 0) (hdst : s.isOwn (dDst x) = true) (hwindow : inWindow (dDst x) = false)
    (hcheck : s.ownCheck pd core x = .ok) : BelowOrAbove (addrLocal (dDst x)) := by
  have hside : s.sideCheck pd core x true = .ok := by
    have hall := firstBad_eq_ok.1 hcheck _ (List.mem_cons_of_mem _ List.mem_cons_self)
    simpa [hop, hdst] using hall
  have hrows : (dDstRows x).all (fun r => s.rowOk pd core (dOp x) true (addrLocal r.1) r.2) = true := by
    have hne : ¬ dOp x = 2 := by omega
    rw [State.sideCheck, if_neg hne] at hside
    exact (need_eq_ok (by decide)).1 hside
  have hfirst : (rowAddr (dDst x) (dDstPitch x) 0, dDstLen x) ∈ dDstRows x := by
    rw [dDstRows, if_pos (by omega)]
    exact List.mem_map.2 ⟨0, List.mem_range.2 (Nat.succ_pos _), rfl⟩
  have hok := List.all_eq_true.1 hrows _ hfirst
  have hzero : rowAddr (dDst x) (dDstPitch x) 0 = dDst x := by simp [rowAddr]
  rw [hzero] at hok
  exact belowOrAbove_of_rowOk hok (not_windowAddr_of_inWindow hwindow)

end

/-! ### A descriptor begins -/

/-- A descriptor moves, its beats sent or its rows read, and it is the item it was. -/
def State.Underway (id : Nat) (x : BitVec 512) (s : State) : Prop :=
  ∃ e, s.desc id = some e ∧ e.stage = .moving ∧ e.beats = true ∧ e.item = x

section
variable {s t : State} {id : Nat} {x : BitVec 512}

theorem State.desc_setDesc_self {d : Desc} (hd : s.desc id = some d) (e : Desc) (he : e.id = id) : (s.setDesc e).desc id = some e := by
  subst he
  have hfind : s.qs.descs.find? (fun v => v.id == e.id) = some d := hd
  show ((s.qs.descs.map fun v => if v.id = e.id then e else v).find? fun v => v.id == e.id) = some e
  generalize s.qs.descs = l at hfind
  induction l with
  | nil => cases hfind
  | cons v rest ih =>
    by_cases hv : v.id = e.id
    · simp [hv]
    · have hrest : rest.find? (fun v => v.id == e.id) = some d := by simpa [List.find?_cons, hv] using hfind
      simpa [List.find?_cons, hv] using ih hrest

theorem State.Touches.underway {l : List Part} (h : s.Touches l t) (hl : .qs ∉ l) (hs : s.Underway id x) : t.Underway id x := by
  obtain ⟨e, he, hrest⟩ := hs
  exact ⟨e, (State.desc_of_qs (h .qs hl) id).trans he, hrest⟩

theorem State.Underway.updDesc (hs : s.Underway id x) (f : Desc → Desc)
    (hf : ∀ e : Desc, (f e).id = e.id ∧ (f e).stage = e.stage ∧ (f e).beats = e.beats ∧ (f e).item = e.item) :
    (s.updDesc id f).Underway id x := by
  obtain ⟨e, he, hstage, hbeats, hitem⟩ := hs
  obtain ⟨hid, hfstage, hfbeats, hfitem⟩ := hf e
  have hset : s.updDesc id f = s.setDesc (f e) := by simp only [State.updDesc, he]
  refine ⟨f e, ?_, hfstage.trans hstage, hfbeats.trans hbeats, hfitem.trans hitem⟩
  rw [hset]
  exact State.desc_setDesc_self he _ (hid.trans (State.id_of_desc he))

theorem State.Underway.descMet (hs : s.Underway id x) (st : Status) : (s.descMet id st).Underway id x :=
  hs.updDesc _ fun _ => ⟨rfl, rfl, rfl, rfl⟩

theorem State.Underway.noteLanded (hs : s.Underway id x) (l : List (Nat × Nat × List Byte)) :
    (s.updDesc id fun e => { e with landed := e.landed ++ l }).Underway id x := hs.updDesc _ fun _ => ⟨rfl, rfl, rfl, rfl⟩

theorem mem_of_mem_ite_snoc {β : Type} {c : Prop} [Decidable c] {l : List β} {r v : β} (h : r ∈ if c then l ++ [v] else l) :
    r ∈ l ∨ r = v := by
  split at h
  · simpa using h
  · exact .inl h

/-- The rows that a source's reading gives are rows of it. -/
theorem State.row_of_readSides (s : State) (x : BitVec 512) {r : Nat × List Byte × List Byte} (hr : r ∈ (s.readSides x).2.2) :
    r.1 < (dSrcRows x).length := by
  have hall : ∀ r ∈ (s.readSides x).2.2, r.1 < (dSrcRows x).length := by
    refine List.foldlRecOn (motive := fun acc : State × Status × List (Nat × List Byte × List Byte) =>
      ∀ r ∈ acc.2.2, r.1 < (dSrcRows x).length) _ _ (by simp) fun acc hacc k hk r hr => ?_
    rcases mem_of_mem_ite_snoc hr with hr | rfl
    · exact hacc r hr
    · exact List.mem_range.1 hk
  exact hall r hr

theorem State.readSides_touches (s : State) (x : BitVec 512) : s.Touches moveParts (s.readSides x).1 := by
  refine touches_foldl_fst (fun acc k => ?_) _ (s, Status.ok, ([] : List (Nat × List Byte × List Byte)))
  have hrow := acc.1.readRow_touches (addrLocal (rowAddr (dSrc x) (dSrcPitch x) k)) (dLen x)
  dsimp only
  split
  · exact hrow.trans (State.readRow_touches _ _ _)
  · exact hrow

/-- A COPY's rows that land on this chip, all outside the window, leave it under way. -/
theorem State.Underway.landAll (hs : s.Underway id x) {d : Desc} (hid : d.id = id) (hitem : d.item = x) (hop : dOp x = 0)
    (hown : s.isOwn (dDst x) = true) {rows : List (Nat × List Byte × List Byte)}
    (hrows : ∀ r ∈ rows, ¬ WindowAddr (addrLocal (rowAddr (dDst x) (dDstPitch x) r.1))) : (s.landAll d rows).Underway id x := by
  subst hid hitem
  have hne : ¬ dOp d.item = 1 := by omega
  rw [State.landAll, if_neg hne]
  refine List.foldlRecOn (motive := State.Underway d.id d.item) _ _ hs fun t ht r hr => ?_
  have haddr := hrows r hr
  have hland : (t.landRow d.item r.1 r.2.1).1.Underway d.id d.item :=
    (((t.writeRow_touches haddr _).trans (State.landTag_touches _ _ _)).underway (by decide) ht)
  have hnoted := fun l => (hland.descMet (t.landRow d.item r.1 r.2.1).2).noteLanded l
  dsimp only
  rw [if_pos hown]
  split
  · exact (State.writeRow_touches _ (not_windowAddr_tagStoreOf haddr) _).underway (by decide) (hnoted _)
  · exact hnoted _

theorem State.Touches.isOwn {l : List Part} (h : s.Touches l t) (hl : .fab ∉ l) (a : Nat) : t.isOwn a = s.isOwn a := by
  have hfab : t.fab = s.fab := h .fab hl
  simp only [State.isOwn, hfab]

theorem State.descMet_touches (s : State) (id : Nat) (st : Status) : s.Touches [.qs] (s.descMet id st) := by
  unfold State.descMet State.updDesc
  split
  · exact touches_qs s _
  · exact .refl _ s

/-- A descriptor as its rows begin to move. -/
def State.begun (s : State) (d : Desc) : Desc :=
  { d with stage := .moving, beats := true, farRead := (s.tieredPages d.rows).any fun o => (s.farPoolOf o).isSome }

/-- The state as a descriptor's rows begin to move: its pages translated, the write generations of its destination advanced. -/
def State.moveBegun (s : State) (d : Desc) : State :=
  ((s.setDesc (s.begun d)).translateAll (s.dieOf d.core) (s.tieredPages d.rows)).bumpWritten d.item

theorem State.moveBegun_touches (s : State) (d : Desc) : (s.setDesc (s.begun d)).Touches moveParts (s.moveBegun d) :=
  (touches_foldl (fun t o => t.translate_touches _ o) _ _).trans (State.bumpWritten_touches _ _)

/-- A COPY from this chip: its rows are read, then they land. -/
theorem State.descMove_copy {d : Desc} (hop : dOp d.item = 0) (hsrc : (s.moveBegun d).isOwn (dSrc d.item) = true) :
    s.descMove d = (((s.moveBegun d).readSides d.item).1.descMet d.id ((s.moveBegun d).readSides d.item).2.1).landAll (s.begun d)
      ((s.moveBegun d).readSides d.item).2.2 := by
  unfold State.descMove
  dsimp only
  rw [hop]
  exact if_pos hsrc

/-- A COPY on this chip whose destination misses the window is under way once it moves. -/
theorem State.underway_descMove {d : Desc} (hd : s.desc d.id = some d) (hop : dOp d.item = 0) (hsrc : s.isOwn (dSrc d.item) = true)
    (hdst : s.isOwn (dDst d.item) = true) (hfirst : BelowOrAbove (addrLocal (dDst d.item))) :
    (s.descMove d).Underway d.id d.item := by
  have hset : (s.setDesc (s.begun d)).Underway d.id d.item := ⟨_, State.desc_setDesc_self hd _ rfl, rfl, rfl, rfl⟩
  have hbegun := s.moveBegun_touches d
  have hread := (s.moveBegun d).readSides_touches d.item
  have hown : ∀ a, (((s.moveBegun d).readSides d.item).1.descMet d.id ((s.moveBegun d).readSides d.item).2.1).isOwn a = s.isOwn a :=
    fun a => ((State.descMet_touches _ _ _).isOwn (by decide) a).trans ((hbegun.trans hread).isOwn (by decide) a)
  rw [State.descMove_copy hop ((hbegun.isOwn (by decide) _).trans hsrc)]
  refine State.Underway.landAll (((hbegun.trans hread).underway (by decide) hset).descMet _) rfl rfl hop ((hown _).trans hdst) ?_
  intro r hr
  have hlen : (dSrcRows d.item).length ≤ 4096 := by
    have hrows : dRows d.item ≤ 4096 := bits_lt _ 430 419
    rw [dSrcRows, if_pos (by omega), List.length_map, List.length_range]
    exact hrows
  exact not_windowAddr_row (Nat.lt_of_lt_of_le (State.row_of_readSides _ _ hr) hlen) hfirst

/-- A descriptor that begins with its pages at rest and its pool reachable is under way. -/
theorem State.underway_descBegin {d : Desc} (hd : s.desc d.id = some d) (hrest : (s.tieredPages d.rows).any s.inTransit = false)
    (hreach : (s.tieredPages d.rows).any s.unreachable = false) (hop : dOp d.item = 0) (hsrc : s.isOwn (dSrc d.item) = true)
    (hdst : s.isOwn (dDst d.item) = true) (hfirst : BelowOrAbove (addrLocal (dDst d.item))) :
    (s.descBegin d).Underway d.id d.item := by
  have hgo : s.descBegin d = if d.beats then s.setDesc { d with stage := .moving } else s.descMove d := by
    simp only [State.descBegin, hrest, hreach, Bool.false_eq_true, if_false]
  rw [hgo]
  split
  · next hbeats => exact ⟨_, State.desc_setDesc_self hd _ rfl, rfl, hbeats, rfl⟩
  · exact State.underway_descMove hd hop hsrc hdst hfirst

theorem State.transitEnd_waiting {d : Desc} (hrest : (s.tieredPages d.rows).any s.inTransit = true) : s.transitEnd d = s :=
  if_pos (.inr hrest)

theorem State.transitEnd_rested {d : Desc} (hstage : d.stage = .transit) (hrest : (s.tieredPages d.rows).any s.inTransit = false)
    (hcheck : s.ownCheck (s.queue d.queue).pd (s.queue d.queue).core d.item = .ok) : s.transitEnd d = s.descBegin d := by
  have hgo : ¬ (d.stage ≠ .transit ∨ (s.tieredPages d.rows).any s.inTransit = true) := by simp [hstage, hrest]
  rw [State.transitEnd, if_neg hgo]
  exact if_pos hcheck

end

/-- Settles O36: each wait by the lemma of its end, and the watchdog by the one queue that waits for itself. -/
theorem descriptorWaitsEnd : Obligations.DescriptorWaitsEnd := by
  refine ⟨fun s id d hd hid => ?_, fun s => ⟨fun hnone => congrArg _ (State.watchdog_of_acyclic hnone _), ?_⟩⟩
  · subst hid
    refine ⟨fun _ hmoving => ?_, fun hstage hrest hreach hop hsrc hdst hwindow hcheck => ?_, fun hstage hpages => ⟨fun hearly => ?_,
      fun hlate hlive hresumed => ?_⟩, fun w hw => ⟨fun hnot => ?_, fun hfb hlate hstage => ?_⟩⟩
    · rw [exec_transitWaitEnd hd, State.transitEnd_waiting hmoving]
    · obtain ⟨e, he, hmove, hbeats, hitem⟩ :=
        State.underway_descBegin hd hrest hreach hop hsrc hdst (belowOrAbove_of_ownCheck hop hdst hwindow hcheck)
      exact ⟨_, e, by rw [exec_transitWaitEnd hd, State.transitEnd_rested hstage hrest hcheck], he, hmove, hbeats, hitem⟩
    · rw [exec_farTimeout hd, State.farTimeout_waiting hstage hpages, if_neg (by omega)]
    · obtain ⟨hnone, hstop, hstatus, hcount⟩ := s.failMoved_spec d .deadlineMissed (by decide) (by unfold EndReg; decide) hlive hresumed
      exact ⟨_, by rw [exec_farTimeout hd, State.farTimeout_waiting hstage hpages, if_pos hlate], hnone, hstop, hstatus, hcount⟩
    · rw [exec_fallbackFire hd, State.deadlineReached_of_some hw]
      refine congrArg _ (if_neg ?_)
      rcases hnot with hfb | hearly
      · simp [hfb]
      · simp [Nat.not_le.2 hearly]
    · obtain ⟨h608, hB058, hflag⟩ := s.fireFallback_counts d
      have hholds : d.holds = true := by simp [Desc.holds, hstage]
      refine ⟨s.fireFallback d, ?_, s.desc_fireFallback d, h608, hB058, hflag, s.fireFallback_touches d .sync (by decide)⟩
      rw [exec_fallbackFire hd, State.deadlineReached_of_some hw, if_pos (by simp [hfb, hlate, hholds])]
  · intro q Q h w i hqs hdescs hkind hlive hheld hsat hsince hold hwaits hobs hshort hsignals hresumed
    have hqueue := State.queue_of_alone hqs
    have hon := State.heldOn_of_waiting hqueue hdescs hheld hsat hsince hold hwaits hobs hshort
    refine ⟨_, exec_watchdogEval_alone hqs (State.waitsFor_self hqs hlive hon hsignals), ?_⟩
    exact State.failQueue_spec hdescs (hqueue ▸ hheld) (hqueue ▸ hlive) (hqueue ▸ hresumed) _ i

end Sys2Proof.Machine
end

section
/-! SUPPORT. A semaphore signalled leaves the units' registers, and the end of a command of the tier manager (R283). -/

namespace Sys2Proof.Machine

/-! ### Registers of a signal -/

/-- A register that a signal may write: a fault counter, a register of the synchronization unit, or a core's. -/
def SignalReg (o : Nat) : Prop := o < 0x880 ∨ (0x3000 ≤ o ∧ o < 0x4000) ∨ 0x10000000 ≤ o

section
variable (s : State)

theorem State.swResult_regsWithin (core : Nat) (v : W64) : s.RegsWithin SignalReg (s.swResult core v) := by
  have hcore : SignalReg (coreOff core 0x3010) := .inr (.inr (by unfold coreOff; omega))
  have hend : s.RegsWithin SignalReg ((s.setCore core { s.core core with sw := none }).setReg (coreOff core 0x3010) v) :=
    ((s.setCore_touches core _).regsWithin (by decide)).trans (State.setReg_regsWithin _ hcore v)
  unfold State.swResult
  dsimp only
  split
  · exact regsWithin_ite (hend.trans ((State.deliver_releases _ _ _).touches.regsWithin (by decide))) hend
  · exact hend

/-- A waiter satisfied leaves the registers to all but a control processor's result. -/
theorem State.satisfy_regsWithin (i : Nat) (w : Waiter) : s.RegsWithin SignalReg (s.satisfy i w) := by
  have hsem : ∀ (t : State) j S, t.RegsWithin SignalReg (t.setSem j S) := fun t j S => (t.setSem_touches j S).regsWithin (by decide)
  have htake : s.RegsWithin SignalReg ((s.waiterSems w i).foldl (fun t j => t.setSem j ((t.sem j).takeBy w)) s) :=
    regsWithin_foldl (fun t j => hsem t j _) _ s
  cases w with
  | cp core =>
    unfold State.satisfy
    dsimp only
    split
    · exact .refl _ s
    · exact (hsem s i _).trans (State.swResult_regsWithin _ core _)
  | media eng => exact htake.trans ((touches_media _ _).regsWithin (by decide))
  | _ =>
    unfold State.satisfy
    dsimp only
    split
    · exact htake.trans fun _ _ => rfl
    · exact htake

theorem State.semAdd_regsWithin (i n : Nat) : s.RegsWithin SignalReg (s.semAdd i n).1 := by
  have hsync : ∀ o, 0x3000 ≤ o ∧ o < 0x4000 → SignalReg o := fun o ho => .inr (.inl ho)
  unfold State.semAdd
  dsimp only
  split
  · exact .refl _ s
  · exact .refl _ s
  · have hover : s.RegsWithin SignalReg (if (s.sem i).count.toNat + n > 0xFFFFFFFF then s.bumpSeen 0x3010 0x3004 1 else s) :=
      regsWithin_ite (s.bumpSeen_regsWithin (hsync _ (by decide)) (hsync _ (by decide)) 1) (.refl _ s)
    exact (hover.trans ((State.setSem_touches _ i _).regsWithin (by decide))).trans
      (regsWithin_foldl (fun t w => regsWithin_ite (t.satisfy_regsWithin i w) (.refl _ t)) _ _)

theorem State.syncFault_regsWithin (st : Status) (kind index : Nat) : s.RegsWithin SignalReg (s.syncFault st kind index) := by
  have hsync : ∀ o, 0x3000 ≤ o ∧ o < 0x4000 → SignalReg o := fun o ho => .inr (.inl ho)
  have hcount : s.RegsWithin SignalReg (s.count st) :=
    regsWithin_ite (.refl _ s) (s.bump_regsWithin (.inl (counterOff_range st).2) 1)
  refine (hcount.trans (regsWithin_ite (.refl _ _) ?_)).trans (State.setFlag_regsWithin _ (hsync 0x3004 (by decide)) 5)
  exact State.setReg_regsWithin _ (hsync 0x3038 (by decide)) _

theorem State.signalSem_writes (i : Nat) : s.Writes wakeParts SignalReg (s.signalSem i) :=
  have hadd := s.semAdd_regsWithin i (s.sem i).add
  ⟨(s.signalSem_wakes i).touches, regsWithin_ite hadd (hadd.trans (State.syncFault_regsWithin _ _ 0 i))⟩

end

/-! ### The end of a command -/

/-- A register of the tier manager that the end of a command leaves: its counters and the accounting. -/
def TierReg (o : Nat) : Prop := 0xB010 ≤ o ∧ o < 0xB300

/-- A command's slot with its result in it. -/
def doneItem (x : BitVec 512) (st : Status) (n : Nat) : BitVec 512 := setFld (setFld (setFld x 63 48 st.code) 47 14 n) 0 0 1

/-- The state with a command's result counted and stored, and no command under way. -/
def State.slotDone (s : State) (x : BitVec 512) (st : Status) (n : Nat) : State :=
  { (s.count st).putNear (s.tcAddr s.tcHead) (leBytes 64 (doneItem x st n).toNat) with tier.run := none }

/-- The command's signal, where it asks for one. -/
def State.slotSignal (s : State) (x : BitVec 512) : State := if fbit x 255 then s.signalSem (fld x 254 239) else s

theorem State.tcEnd_eq (s : State) (x : BitVec 512) (st : Status) (n : Nat) : s.tcEnd x st n =
    ((s.slotDone x st n).slotSignal x).setReg 0xB00C (BitVec.ofNat 64 ((((s.slotDone x st n).slotSignal x).tcHead + 1) % 256)) := rfl

section
variable (s : State) (x : BitVec 512) (st : Status) (n : Nat)

theorem Status.code_lt : st.code < 2 ^ 16 := by cases st <;> decide

/-- What the slot of a command tells. -/
theorem doneItem_fields : fbit (doneItem x st n) 0 = true ∧ fld (doneItem x st n) 63 48 = st.code ∧
    fld (doneItem x st n) 47 14 = n % 2 ^ 34 := by
  refine ⟨?_, ?_, ?_⟩
  · rw [fbit, doneItem, getLsbD_setFld _ _ (by decide) _ (by decide)]
    rfl
  · rw [doneItem, fld_setFld_of_apart _ _ (by decide) (by decide) (by decide),
      fld_setFld_of_apart _ _ (by decide) (by decide) (by decide), fld_setFld_self _ _ (by decide) (by decide)]
    exact Nat.mod_eq_of_lt (Status.code_lt st)
  · rw [doneItem, fld_setFld_of_apart _ _ (by decide) (by decide) (by decide), fld_setFld_self _ _ (by decide) (by decide)]

theorem State.slotSignal_writes : s.Writes wakeParts SignalReg (s.slotSignal x) :=
  writes_ite (s.signalSem_writes _) (.refl _ _ s)

/-- A register of no counter is the same once a command's result stands in its slot. -/
theorem State.reg_slotSignal_slotDone {o : Nat} (hlo : 0x880 ≤ o) (ho : ¬ SignalReg o) :
    ((s.slotDone x st n).slotSignal x).reg o = s.reg o :=
  (((s.slotDone x st n).slotSignal_writes x).regs o ho).trans (s.reg_count_high st hlo)

theorem State.tcHead_slotSignal_slotDone : ((s.slotDone x st n).slotSignal x).tcHead = s.tcHead := by
  have hnot : ¬ SignalReg 0xB00C := by unfold SignalReg; decide
  rw [State.tcHead, s.reg_slotSignal_slotDone x st n (by decide) hnot]
  rfl

/-- The end of a command moves the head on. -/
theorem State.tcHead_tcEnd : (s.tcEnd x st n).tcHead = (s.tcHead + 1) % 256 := by
  have hlt : (s.tcHead + 1) % 256 < 256 := Nat.mod_lt _ (by decide)
  rw [State.tcEnd_eq, State.tcHead_slotSignal_slotDone, State.tcHead, State.reg_setReg_self, bits, BitVec.toNat_ofNat]
  simp only [Nat.shiftRight_zero]
  omega

theorem State.tcEnd_touches : (s.slotDone x st n).Touches wakeParts (s.tcEnd x st n) :=
  ((s.slotDone x st n).slotSignal_writes x).touches.trans ((State.setReg_touches _ _ _).mono (by decide))

/-- The end of a command leaves the tier's state but for the command under way. -/
theorem State.tier_tcEnd : (s.tcEnd x st n).tier = { s.tier with run := none } := by
  have hcount : (s.count st).tier = s.tier := s.count_touches st .tier (by decide)
  refine (s.tcEnd_touches x st n .tier (by decide)).trans ?_
  show { (s.count st).tier with run := none } = _
  rw [hcount]

theorem State.reg_tcEnd {o : Nat} (ho : TierReg o) : (s.tcEnd x st n).reg o = s.reg o := by
  unfold TierReg at ho
  rw [State.tcEnd_eq, State.reg_setReg_ne _ _ _ _ (by omega)]
  exact s.reg_slotSignal_slotDone x st n (by omega) (by unfold SignalReg; omega)

theorem State.dictNat_tcEnd (idx sub : Nat) : (s.tcEnd x st n).dictNat idx sub = s.dictNat idx sub :=
  ((s.tcEnd_touches x st n).dictNat (by decide) idx sub).trans ((s.count_touches st).dictNat (by decide) idx sub)

theorem State.near_tcEnd (a m : Nat) :
    (s.tcEnd x st n).near a m = ((s.count st).putNear (s.tcAddr s.tcHead) (leBytes 64 (doneItem x st n).toNat)).near a m :=
  (s.tcEnd_touches x st n).near (by decide) (by decide) a m

/-- Near memory apart from the slot is left. -/
theorem State.near_tcEnd_apart {a m : Nat} (h : overlaps a m (s.tcAddr s.tcHead) 64 = false) : (s.tcEnd x st n).near a m = s.near a m := by
  rw [State.near_tcEnd, State.near_putNear_apart _ (by rwa [length_leBytes])]
  exact (s.count_touches st).near (by decide) (by decide) a m

/-- The end of a command leaves its result in its slot. -/
theorem State.tierDone_tcEnd (hslot : s.tcAddr s.tcHead + 64 ≤ 0xBF00000000) : s.tierDone (s.tcEnd x st n) st n := by
  have hitem : BitVec.ofNat 512 (leNat ((s.tcEnd x st n).near (s.tcAddr s.tcHead) 64)) = doneItem x st n := by
    rw [State.near_tcEnd, State.near_putNear_self _ (length_leBytes 64 _) hslot]
    exact ofNat_leNat_leBytes (n := 64) _
  obtain ⟨hdone, hstatus, hpages⟩ := doneItem_fields x st n
  rw [State.tierDone, hitem]
  exact ⟨hdone, hstatus, hpages, s.tcHead_tcEnd x st n, congrArg TierSt.run (s.tier_tcEnd x st n)⟩

end
end Sys2Proof.Machine
end

section
/-! SUPPORT. What the operations of the tier manager leave: frames, far bytes, counters and accounts (R272 to R274, R281, R284, R304). -/

namespace Sys2Proof.Machine

/-- The parts that an operation of the tier manager may touch where it takes no frame. -/
def unmovedParts : List Part := [.regs, .memNear, .memBadNear, .memNearErr, .tier]

/-- The parts that a command of the tier manager may touch before it ends. -/
def tierParts : List Part := .free :: unmovedParts

/-- An operation of the tier manager that moves no page: frames and far bytes are left, and of the registers all but those that a
predicate names. -/
structure State.Unmoved (W : Nat → Prop) (s t : State) : Prop where
  writes : s.Writes unmovedParts W t
  frames : t.tier.frames = s.tier.frames
  farMem : t.tier.farMem = s.tier.farMem
  farLosses : t.tier.farLosses = s.tier.farLosses

/-- A block that is free depends on the area of its pool, the frames and what comes free next. -/
theorem State.freeBlock_congr {s t : State} {pool : Option Nat} (harea : t.frameArea pool = s.frameArea pool)
    (horigin : t.frameOrigin pool = s.frameOrigin pool) (hframes : t.tier.frames = s.tier.frames) (hfree : t.free = s.free) (log2 : Nat) :
    t.freeBlock pool log2 = s.freeBlock pool log2 := by
  have hblock : t.blockFree pool = s.blockFree pool := by
    funext a k
    simp only [State.blockFree, harea, hframes]
  simp only [State.freeBlock, harea, hblock, horigin, hframes, hfree]

/-- No register. -/
def NoReg (_ : Nat) : Prop := False

section
variable {W V : Nat → Prop} {s t u : State}

theorem State.Unmoved.refl (W : Nat → Prop) (s : State) : s.Unmoved W s := ⟨.refl _ _ s, rfl, rfl, rfl⟩

theorem State.Unmoved.trans (h : s.Unmoved W t) (k : t.Unmoved W u) : s.Unmoved W u :=
  ⟨h.writes.trans k.writes, k.frames.trans h.frames, k.farMem.trans h.farMem, k.farLosses.trans h.farLosses⟩

theorem State.Unmoved.weaken (h : s.Unmoved W t) (hW : ∀ o, W o → V o) : s.Unmoved V t :=
  ⟨h.writes.weaken hW, h.frames, h.farMem, h.farLosses⟩

theorem State.Unmoved.any (h : s.Unmoved NoReg t) : s.Unmoved W t := h.weaken fun _ => False.elim

theorem State.Touches.unmoved {l : List Part} (h : s.Touches l t) (hl : ∀ p ∈ l, p ∈ unmovedParts) (hr : .regs ∉ l) (ht : .tier ∉ l) :
    s.Unmoved W t := by
  have htier : t.tier = s.tier := h .tier ht
  exact ⟨(h.writes hr).mono hl, by rw [htier], by rw [htier], by rw [htier]⟩

theorem unmoved_ite {c : Prop} [Decidable c] {a b : State} (ha : s.Unmoved W a) (hb : s.Unmoved W b) : s.Unmoved W (if c then a else b) := by
  split
  · exact ha
  · exact hb

theorem unmoved_foldl {β : Type} {f : State → β → State} (hf : ∀ (t : State) e, t.Unmoved W (f t e)) (es : List β) (s : State) :
    s.Unmoved W (es.foldl f s) := by
  induction es generalizing s with
  | nil => exact .refl W s
  | cons e rest ih => exact (hf s e).trans (ih (f s e))

theorem State.Unmoved.reg (h : s.Unmoved W t) {o : Nat} (ho : ¬ W o) : t.reg o = s.reg o := h.writes.regs o ho

theorem State.Unmoved.dictNat (h : s.Unmoved W t) (idx sub : Nat) : t.dictNat idx sub = s.dictNat idx sub :=
  h.writes.touches.dictNat (by decide) idx sub

/-- A free frame of near memory stays the one that is free. -/
theorem State.Unmoved.freeBlock (h : s.Unmoved W t) (log2 : Nat) : t.freeBlock none log2 = s.freeBlock none log2 := by
  have harea : t.frameArea none = s.frameArea none := by
    simp only [State.frameArea, State.tpBase, State.metaSize, State.tpSize, h.dictNat]
  exact State.freeBlock_congr harea rfl h.frames (h.writes.touches .free (by decide)) log2

theorem State.Unmoved.tierWrites (h : s.Unmoved W t) (hW : ∀ o, W o → V o) : s.Writes tierParts V t :=
  (h.writes.mono (by decide)).weaken hW

theorem State.Unmoved.farBytes (h : s.Unmoved W t) (pool a n : Nat) : t.farBytes pool a n = s.farBytes pool a n := by
  simp only [State.farBytes, State.farByte, h.farMem, h.farLosses]

end

/-! ### Near memory and the page table -/

section
variable {W : Nat → Prop} (s : State)

theorem State.putNear_unmoved (a : Nat) (l : List Byte) : s.Unmoved W (s.putNear a l) :=
  (s.putNear_touches a l).unmoved (by decide) (by decide) (by decide)

theorem State.putObj_unmoved (n : Nat) (x : BitVec 512) : s.Unmoved W (s.putObj n x) := s.putNear_unmoved _ _

theorem State.objAdd_unmoved (n hi lo : Nat) (d : Int) : s.Unmoved W (s.objAdd n hi lo d) := s.putObj_unmoved n _

theorem State.putPte_unmoved (a : Nat) (x : W128) : s.Unmoved W (s.putPte a x) := s.putNear_unmoved _ _

theorem State.zeroNear_unmoved (a n : Nat) : s.Unmoved W (s.zeroNear a n) :=
  (touches_memNearErr s _ _ _).unmoved (by decide) (by decide) (by decide)

theorem State.xlatDrop_unmoved (page : Nat) : s.Unmoved W (s.xlatDrop page) :=
  ⟨(((touches_tier s _).writes (by decide)).mono (by decide)), rfl, rfl, rfl⟩

theorem State.putLeafAt_unmoved (a log2 : Nat) (x : W128) : s.Unmoved W (s.putLeafAt a log2 x) :=
  unmoved_foldl (fun t _ => t.putPte_unmoved _ _) _ s

theorem State.putLeaf_unmoved (o : Nat) (x : W128) : s.Unmoved W (s.putLeaf o x) := by
  unfold State.putLeaf
  split
  · exact s.putLeafAt_unmoved _ _ x
  · exact .refl W s

theorem State.setTransit_unmoved (o : Nat) (on : Bool) : s.Unmoved W (s.setTransit o on) := by
  unfold State.setTransit
  split
  · exact (s.xlatDrop_unmoved o).trans (State.putLeaf_unmoved _ o _)
  · exact .refl W s

/-- A page's bytes are zeroed in near memory. -/
theorem State.fillFrame_unmoved (x : BitVec 512) {f : TFrame} (hf : f.pool = none) : s.Unmoved W (s.fillFrame x f) := by
  unfold State.fillFrame
  simp only [hf]
  exact unmoved_ite (s.zeroNear_unmoved _ _) (.refl W s)

/-! ### Accounts -/

/-- An accounting register of a class. -/
def AcctReg (o : Nat) : Prop := 0xB100 ≤ o ∧ o < 0xB300

theorem State.acctAdd_unmoved {cls : Nat} (hcls : cls < 16) (far : Bool) (d : Int) : s.Unmoved AcctReg (s.acctAdd cls far d) := by
  have hset : ∀ (t : State) {o : Nat} v, AcctReg o → t.Unmoved AcctReg (t.setReg o v) := fun t o v ho =>
    ⟨(t.setReg_writes ho v).mono (by decide), rfl, rfl, rfl⟩
  have hoff : AcctReg (0xB100 + 32 * cls + if far then 8 else 0) ∧ AcctReg (0xB100 + 32 * cls + (if far then 8 else 0) + 16) := by
    unfold AcctReg
    split <;> omega
  exact (hset s _ hoff.1).trans (unmoved_ite (hset _ _ hoff.2) (.refl _ _))

/-- What a class's count of near bytes reads once it was raised. -/
theorem State.reg_acctAdd_near (cls : Nat) (d : Int) :
    (s.acctAdd cls false d).reg (0xB100 + 32 * cls) = s.reg (0xB100 + 32 * cls) + BitVec.ofInt 64 d := by
  have hset : ∀ v w, ((s.setReg (0xB100 + 32 * cls) v).setReg (0xB100 + 32 * cls + 16) w).reg (0xB100 + 32 * cls) = v := by
    intro v w
    rw [State.reg_setReg_ne _ _ _ _ (by omega), State.reg_setReg_self]
  simp only [State.acctAdd, Bool.false_eq_true, if_false, Nat.add_zero]
  split
  · exact hset _ _
  · exact State.reg_setReg_self _ _ _

end

/-! ### The page table's nodes -/

section
variable {W : Nat → Prop} {s : State}

theorem State.newNode_of_room (h : 0x426000 + 8192 * (s.tier.nodes + 1) ≤ s.metaSize) :
    ∃ t a, s.newNode = some (t, a) ∧ s.Unmoved NoReg t ∧ t.tier.nodes = s.tier.nodes + 1 := by
  refine ⟨{ s with tier.nodes := s.tier.nodes + 1 }, s.tpBase + (0x426000 + 8192 * s.tier.nodes), ?_, ?_, rfl⟩
  · exact if_pos (by omega)
  · exact ⟨(((touches_tier s _).writes (by decide)).mono (by decide)), rfl, rfl, rfl⟩

/-- Room for one node and as many as `fuel` after it. -/
theorem room_succ {nodes fuel size : Nat} (h : 0x426000 + 8192 * (nodes + (fuel + 1)) ≤ size) :
    0x426000 + 8192 * (nodes + 1) ≤ size ∧ 0x426000 + 8192 * (nodes + fuel) ≤ size ∧
      ∀ k, k = nodes + 1 → 0x426000 + 8192 * (k + fuel) ≤ size := by
  have hmono : ∀ k, k ≤ nodes + (fuel + 1) → 0x426000 + 8192 * k ≤ size := fun k hk =>
    Nat.le_trans (Nat.add_le_add_left (Nat.mul_le_mul_left _ hk) _) h
  exact ⟨hmono _ (by omega), hmono _ (by omega), fun k hk => hmono _ (by omega)⟩

/-- Where as many nodes have room as levels are left, an offset's table is found or made. -/
theorem State.tableFor_of_room (o target : Nat) (fuel : Nat) (h : 0x426000 + 8192 * (s.tier.nodes + fuel) ≤ s.metaSize) (level base : Nat) :
    ∃ t a, s.tableFor o target fuel level base = some (t, a) ∧ s.Unmoved NoReg t := by
  induction fuel generalizing s level base with
  | zero => exact ⟨s, base, rfl, .refl _ s⟩
  | succ fuel ih =>
    obtain ⟨hone, hless, hnext⟩ := room_succ h
    unfold State.tableFor
    dsimp only
    split
    · exact ⟨s, base, rfl, .refl _ s⟩
    · split
      · exact ih hless _ _
      · obtain ⟨t, a, hnew, hkept, hnodes⟩ := s.newNode_of_room hone
        have hput := t.putPte_unmoved (W := NoReg) (base + 16 * levelIx o level) (nodeEntry a)
        have hmeta : (t.putPte (base + 16 * levelIx o level) (nodeEntry a)).metaSize = s.metaSize := by
          simp only [State.metaSize, (hkept.trans hput).dictNat]
        obtain ⟨u, b, hrest, hthen⟩ := ih (s := t.putPte (base + 16 * levelIx o level) (nodeEntry a))
          (hmeta.symm ▸ hnext _ hnodes) (level + 1) a
        refine ⟨u, b, ?_, (hkept.trans hput).trans hthen⟩
        rw [hnew]
        exact hrest

/-- A leaf is entered where three nodes have room. -/
theorem State.enterLeaf_of_room (o : Nat) (x : W128) (h : 0x426000 + 8192 * (s.tier.nodes + 3) ≤ s.metaSize) :
    ∃ t, s.enterLeaf o x = some t ∧ s.Unmoved NoReg t := by
  obtain ⟨t, a, htable, hkept⟩ := State.tableFor_of_room o (leafLevel (lfLog2 x)) 3 h 0 (s.dictNat 0x4300 8)
  refine ⟨_, ?_, hkept.trans (t.putLeafAt_unmoved (a + 16 * levelIx o (leafLevel (lfLog2 x))) (lfLog2 x) x)⟩
  simp only [State.enterLeaf, htable]

end
end Sys2Proof.Machine
end

section
/-! SUPPORT. CREATE, FREE, PLACE and BUMP of the tier manager (R283 to R285). -/

namespace Sys2Proof.Machine

/-! ### Commands that end -/

section
variable {s t u : State} {x : BitVec 512}

theorem tierReg_of_acctReg {o : Nat} (h : AcctReg o) : TierReg o := by
  unfold AcctReg at h
  unfold TierReg
  omega

/-- The command's slot is where it was. -/
theorem State.Writes.slot (h : s.Writes tierParts TierReg u) : u.tcHead = s.tcHead ∧ u.tcAddr = s.tcAddr := by
  have hhead : u.reg 0xB00C = s.reg 0xB00C := h.regs _ (by unfold TierReg; decide)
  refine ⟨by rw [State.tcHead, State.tcHead, hhead], funext fun i => ?_⟩
  rw [State.tcAddr, State.tcAddr, h.touches.dictNat (by decide)]

/-- A command that ends leaves its result in its slot. -/
theorem State.Writes.tierDone (h : s.Writes tierParts TierReg u) (hslot : s.tcAddr s.tcHead + 64 ≤ 0xBF00000000) (st : Status) (n : Nat) :
    s.tierDone (u.tcEnd x st n) st n := by
  obtain ⟨hhead, haddr⟩ := h.slot
  have hdone := u.tierDone_tcEnd x st n (by rwa [hhead, haddr])
  simp only [State.tierDone, hhead, haddr] at hdone ⊢
  exact hdone

theorem State.frames_tcEnd (u : State) (x : BitVec 512) (st : Status) (n : Nat) : (u.tcEnd x st n).tier.frames = u.tier.frames := by
  rw [u.tier_tcEnd x st n]

/-- An object's entry apart from the slot stands as it was written last. -/
theorem State.Writes.obj_putObj_tcEnd (h : s.Writes tierParts TierReg u) {n : Nat} (hapart : s.apartFromSlot (s.objAddr n) 64)
    (y : BitVec 512) (st : Status) (k : Nat) : ((u.putObj n y).tcEnd x st k).obj n = y := by
  obtain ⟨hslot, hlow, -⟩ := hapart
  obtain ⟨hhead, haddr⟩ := (h.trans ((u.putObj_unmoved (W := NoReg) n y).tierWrites fun _ => False.elim)).slot
  have hobj : u.objAddr n = s.objAddr n := by rw [State.objAddr, State.objAddr, h.touches.dictNat (by decide)]
  have hend : ((u.putObj n y).tcEnd x st k).objAddr n = s.objAddr n := by
    rw [State.objAddr, State.dictNat_tcEnd, (u.putObj_unmoved (W := NoReg) n y).dictNat]
    exact hobj
  rw [State.obj, hend, State.near_tcEnd_apart _ _ _ _ (by rwa [hhead, haddr]), State.putObj, hobj,
    State.near_putNear_self _ (length_leBytes 64 _) hlow]
  exact ofNat_leNat_leBytes (n := 64) y

/-- A command refused leaves its status and no pages. -/
theorem State.refused (s : State) (x : BitVec 512) (hslot : s.tcAddr s.tcHead + 64 ≤ 0xBF00000000) :
    s.tierDone (s.tcEnd x .stateConflict 0) .stateConflict 0 ∧ (s.tcEnd x .stateConflict 0).tier.frames = s.tier.frames :=
  ⟨s.tierDone_tcEnd x _ 0 hslot, s.frames_tcEnd x _ 0⟩

end

/-! ### The command at the head -/

section
variable {s : State} {x : BitVec 512} (hitem : s.tcItem = some x) (hcheck : tcCheck x = .ok)
include hitem hcheck

theorem exec_create (hop : tcOp x = 0) : exec .create s = .next (s.tcCreate x) := by
  show Host.Outcome.next (s.tierCommand 0) = _
  simp [State.tierCommand, hitem, hcheck, hop]

theorem exec_free (hop : tcOp x = 1) : exec .free s = .next (s.tcFree x) := by
  show Host.Outcome.next (s.tierCommand 1) = _
  simp [State.tierCommand, hitem, hcheck, hop]

theorem exec_migrate (hop : tcOp x = 2) : exec .migrate s = .next (s.tcMigrate x) := by
  show Host.Outcome.next (s.tierCommand 2) = _
  simp [State.tierCommand, hitem, hcheck, hop]

theorem exec_place (hop : tcOp x = 3) : exec .place s = .next (s.tcPlaceCmd x) := by
  show Host.Outcome.next (s.tierCommand 3) = _
  simp [State.tierCommand, hitem, hcheck, hop]

theorem exec_bump (hop : tcOp x = 4) : exec .bump s = .next (s.tcBump x) := by
  show Host.Outcome.next (s.tierCommand 4) = _
  simp [State.tierCommand, hitem, hcheck, hop]

end

/-! ### Frames taken -/

/-- The state with a frame taken. -/
def State.withFrame (s : State) (f : TFrame) : State := { s with tier.frames := f :: s.tier.frames, free := s.free + 1 }

theorem State.takeFrame_of_free {s : State} {pool : Option Nat} {a log2 : Nat} (h : s.freeBlock pool log2 = some a) (obj page : Nat) :
    s.takeFrame pool log2 obj page = some (s.withFrame { pool := pool, addr := a, log2 := log2, obj := obj, page := page },
      { pool := pool, addr := a, log2 := log2, obj := obj, page := page }) := by
  unfold State.takeFrame
  rw [h]
  rfl

theorem State.tryFrame_of_free {s : State} {pool : Option Nat} {a log2 : Nat} (h : s.freeBlock pool log2 = some a) (obj page : Nat) :
    s.tryFrame pool log2 obj page = (s.withFrame { pool := pool, addr := a, log2 := log2, obj := obj, page := page },
      some { pool := pool, addr := a, log2 := log2, obj := obj, page := page }) := by
  rw [State.tryFrame, State.takeFrame_of_free h]
  rfl

/-- A free frame of near memory is taken without eviction. -/
theorem State.nearFrame_of_free {s : State} {a log2 : Nat} (h : s.freeBlock none log2 = some a) (obj page : Nat) :
    s.nearFrame log2 obj page = (s.withFrame { pool := none, addr := a, log2 := log2, obj := obj, page := page },
      some { pool := none, addr := a, log2 := log2, obj := obj, page := page }) := by
  have htry := State.tryFrame_of_free h obj page
  have hsome : (s.tryFrame none log2 obj page).2.isSome = true := by rw [htry]; rfl
  rw [State.nearFrame, if_pos hsome, htry]

section
variable {s : State} {x : BitVec 512} {a : Nat}

theorem State.withFrame_writes (s : State) (f : TFrame) {W : Nat → Prop} : s.Writes tierParts W (s.withFrame f) := by
  have htaken : s.Touches [.tier, .free] (s.withFrame f) :=
    .trans (t := { s with tier.frames := f :: s.tier.frames }) ((touches_tier s _).mono (by decide)) ((touches_free _ _).mono (by decide))
  exact (htaken.writes (by decide)).mono (by decide)

/-! ### CREATE -/

theorem tcAcct_lt (x : BitVec 512) : tcAcct x < 16 := fld_lt x 459 456

/-- The state with a page's leaf entered: the page is accounted and filled. -/
def State.pageEntered (s : State) (x : BitVec 512) (far : Bool) (f : TFrame) : State :=
  ((s.acctAdd (tcAcct x) far ((2 ^ tcLog2 x : Nat) : Int)).objAdd (tcObj x) (if far then 279 else 319) (if far then 240 else 280) 1).fillFrame
    x f

theorem State.enterPage_of_leaf {t : State} {page : Nat} {far : Bool} {f : TFrame}
    (h : s.enterLeaf (pageOff (s.obj (tcObj x)) page) (s.newLeaf (tcObj x) f) = some t) :
    s.enterPage x page far f = (t.pageEntered x far f, true) := by
  rw [State.enterPage, h]
  rfl

/-- A near page entered where its table's nodes have room: its bytes are accounted. -/
theorem State.enterPage_of_room (page : Nat) {f : TFrame} (hf : f.pool = none)
    (hroom : 0x426000 + 8192 * (s.tier.nodes + 3) ≤ s.metaSize) :
    ∃ t, s.enterPage x page false f = (t, true) ∧ s.Unmoved AcctReg t ∧
      t.reg (0xB100 + 32 * tcAcct x) = s.reg (0xB100 + 32 * tcAcct x) + BitVec.ofNat 64 (2 ^ tcLog2 x) := by
  obtain ⟨u, henter, hkept⟩ := s.enterLeaf_of_room (pageOff (s.obj (tcObj x)) page) (s.newLeaf (tcObj x) f) hroom
  have hacct := u.acctAdd_unmoved (tcAcct_lt x) false ((2 ^ tcLog2 x : Nat) : Int)
  have hfill : (u.acctAdd (tcAcct x) false ((2 ^ tcLog2 x : Nat) : Int)).Unmoved NoReg (u.pageEntered x false f) :=
    (State.objAdd_unmoved _ _ _ _ _).trans (State.fillFrame_unmoved _ x hf)
  refine ⟨_, State.enterPage_of_leaf henter, (hkept.any.trans hacct).trans hfill.any, ?_⟩
  rw [hfill.reg id, State.reg_acctAdd_near, hkept.reg id, BitVec.ofInt_natCast]

/-- A near page created in a free frame. -/
theorem State.createPage_near (page : Nat) (hplace : tcPlace x < 2) (hfree : s.freeBlock none (tcLog2 x) = some a)
    (hroom : 0x426000 + 8192 * (s.tier.nodes + 3) ≤ s.metaSize) :
    ∃ t, s.createPage x page = (t, true) ∧ s.Writes tierParts TierReg t ∧
      t.tier.frames = { pool := none, addr := a, log2 := tcLog2 x, obj := tcObj x, page := page } :: s.tier.frames ∧
      t.reg (0xB100 + 32 * tcAcct x) = s.reg (0xB100 + 32 * tcAcct x) + BitVec.ofNat 64 (2 ^ tcLog2 x) := by
  have htake := State.nearFrame_of_free hfree (tcObj x) page
  have hpool : ({ pool := none, addr := a, log2 := tcLog2 x, obj := tcObj x, page := page } : TFrame).pool = none := rfl
  generalize ({ pool := none, addr := a, log2 := tcLog2 x, obj := tcObj x, page := page } : TFrame) = f at htake hpool
  have hmeta : (s.withFrame f).metaSize = s.metaSize := rfl
  obtain ⟨t, henter, hkept, hreg⟩ := State.enterPage_of_room (s := s.withFrame f) (x := x) page hpool (hmeta.symm ▸ hroom)
  have hnear : ¬ 2 ≤ tcPlace x := by omega
  refine ⟨t, ?_, (s.withFrame_writes f).trans (hkept.tierWrites fun _ => tierReg_of_acctReg), hkept.frames, hreg⟩
  rw [State.createPage, if_neg hnear, State.allocFrame, htake]
  exact henter

theorem State.createPages_one {u : State} {page : Nat} (h : s.createPage x page = (u, true)) :
    State.createPages 1 s x page = (u, none) := by
  unfold State.createPages
  rw [h]
  rfl

/-- A CREATE whose pages are all had ends well. -/
theorem State.tcCreate_of_pages {u : State} (hok : s.createOk x = true)
    (h : State.createPages (tcCount x) (s.putObj (tcObj x) (createEntry (s.obj (tcObj x)) x)) x 0 = (u, none)) :
    s.tcCreate x = u.tcEnd x .ok (tcCount x) := by
  rw [State.tcCreate, if_neg (by rw [hok]; decide), h]

/-- A CREATE of one near page. -/
theorem State.tcCreate_near (hok : s.createOk x = true) (hcount : tcCount x = 1) (hplace : tcPlace x < 2)
    (hfree : s.freeBlock none (tcLog2 x) = some a) (hroom : 0x426000 + 8192 * (s.tier.nodes + 3) ≤ s.metaSize) :
    ∃ u, s.tcCreate x = u.tcEnd x .ok 1 ∧ s.Writes tierParts TierReg u ∧
      u.tier.frames = { pool := none, addr := a, log2 := tcLog2 x, obj := tcObj x, page := 0 } :: s.tier.frames ∧
      u.reg (0xB100 + 32 * tcAcct x) = s.reg (0xB100 + 32 * tcAcct x) + BitVec.ofNat 64 (2 ^ tcLog2 x) := by
  have hput := s.putObj_unmoved (W := NoReg) (tcObj x) (createEntry (s.obj (tcObj x)) x)
  generalize ht : s.putObj (tcObj x) (createEntry (s.obj (tcObj x)) x) = t at hput
  have hnodes : t.tier.nodes = s.tier.nodes := by rw [← ht, State.putObj, State.putNear_tier]
  have hmeta : t.metaSize = s.metaSize := by simp only [State.metaSize, hput.dictNat]
  obtain ⟨u, hcreate, hwrites, hframes, hreg⟩ := State.createPage_near (s := t) 0 hplace ((hput.freeBlock _).trans hfree)
    (by rw [hnodes, hmeta]; exact hroom)
  refine ⟨u, ?_, (hput.tierWrites fun _ => False.elim).trans hwrites, hframes.trans (by rw [hput.frames]), hreg.trans (by rw [hput.reg id])⟩
  rw [State.tcCreate_of_pages (u := u) hok (by rw [hcount, ht, State.createPages_one hcreate]), hcount]

/-! ### FREE -/

theorem obAcct_lt (x : BitVec 512) : obAcct x < 16 := fld_lt x 411 408

/-- A page given up: its frame is free. -/
theorem State.freePage_spec (s : State) (f : TFrame) :
    s.Writes tierParts TierReg (s.freePage f) ∧ (s.freePage f).tier.frames = s.tier.frames.erase f := by
  have hkept : ∃ u, s.Unmoved AcctReg u ∧ s.freePage f = u.dropFrame f := by
    unfold State.freePage
    dsimp only
    refine ⟨_, .trans (.trans ?_ (State.acctAdd_unmoved _ (obAcct_lt _) _ _)) (State.objAdd_unmoved _ _ _ _ _), rfl⟩
    split
    · exact (s.xlatDrop_unmoved _).trans (unmoved_foldl (fun t _ => t.putPte_unmoved _ _) _ _)
    · exact .refl _ s
  obtain ⟨u, hu, heq⟩ := hkept
  have hdrop : u.Writes tierParts TierReg (u.dropFrame f) := ((touches_tier u _).writes (by decide)).mono (by decide)
  rw [heq]
  exact ⟨(hu.tierWrites fun _ => tierReg_of_acctReg).trans hdrop, congrArg (·.erase f) hu.frames⟩

theorem State.frames_foldl_freePage (l : List TFrame) (s : State) :
    (l.foldl State.freePage s).tier.frames = s.tier.frames.diff l := by
  induction l generalizing s with
  | nil => rfl
  | cons f rest ih => rw [List.foldl_cons, ih, (s.freePage_spec f).2, List.diff_cons]

/-- A list without its elements of a kind. -/
theorem diff_filter {α : Type} [DecidableEq α] (p : α → Bool) (l : List α) : l.diff (l.filter p) = l.filter fun a => !p a := by
  induction l with
  | nil => rfl
  | cons b rest ih =>
    cases hb : p b with
    | true => simp [hb, List.diff_cons, ih]
    | false =>
      have hnot : b ∉ rest.filter p := fun h => by simp [hb] at h
      simp [hb, List.cons_diff_of_not_mem hnot, ih]

/-- An object given up with its pages. -/
theorem State.freeObj_spec (s : State) (n : Nat) : ∃ u, s.Writes tierParts TierReg u ∧
    s.freeObj n = u.putObj n (setFld (u.obj n) 507 506 0) ∧ u.tier.frames = s.tier.frames.filter fun f => decide (f.obj ≠ n) := by
  refine ⟨(s.tier.frames.filter fun f => decide (f.obj = n)).foldl State.freePage s,
    writes_foldl (fun t f => (t.freePage_spec f).1) _ s, rfl, ?_⟩
  rw [State.frames_foldl_freePage, diff_filter]
  simp only [decide_not]

theorem State.tcFree_live (hlive : s.liveObj (tcObj x) = true)
    (hheld : ∀ f, f ∈ s.tier.frames → f.obj = tcObj x → s.pageHeld (s.obj (tcObj x)) f.page = false) :
    s.tcFree x = (s.freeObj (tcObj x)).tcEnd x .ok (s.tier.frames.filter fun f => decide (f.obj = tcObj x)).length := by
  have hnone : (s.tier.frames.filter fun f => decide (f.obj = tcObj x)).any (fun f => s.pageHeld (s.obj (tcObj x)) f.page) = false := by
    simp only [List.any_eq_false, List.mem_filter, decide_eq_true_eq]
    exact fun f hf => by simp [hheld f hf.1 hf.2]
  simp only [State.tcFree, hlive, hnone, Bool.not_true, Bool.or_self, Bool.false_eq_true, if_false]

/-! ### Commands on objects that are not LIVE, PLACE and BUMP -/

section
variable (hdead : s.liveObj (tcObj x) = false)
include hdead

theorem State.tcFree_dead : s.tcFree x = s.tcEnd x .stateConflict 0 := by simp [State.tcFree, hdead]
theorem State.tcPlaceCmd_dead : s.tcPlaceCmd x = s.tcEnd x .stateConflict 0 := by simp [State.tcPlaceCmd, hdead]
theorem State.tcBump_dead : s.tcBump x = s.tcEnd x .stateConflict 0 := by simp [State.tcBump, hdead]

end

theorem State.tcPlaceCmd_live (hlive : s.liveObj (tcObj x) = true) (hold : obPlace (s.obj (tcObj x)) = 0 ∨ obPlace (s.obj (tcObj x)) = 2)
    (hnew : tcPlace x = 0 ∨ tcPlace x = 2) :
    s.tcPlaceCmd x = (s.putObj (tcObj x) (setFld (s.obj (tcObj x)) 500 498 (tcPlace x))).tcEnd x .ok 0 := by
  have hgo : (s.liveObj (tcObj x) && decide (obPlace (s.obj (tcObj x)) = 0 ∨ obPlace (s.obj (tcObj x)) = 2) &&
      decide (tcPlace x = 0 ∨ tcPlace x = 2)) = true := by
    rw [hlive, decide_eq_true hold, decide_eq_true hnew]
    rfl
  exact if_pos hgo

theorem State.tcBump_live (hlive : s.liveObj (tcObj x) = true) : s.tcBump x = (s.putObj (tcObj x)
    (setFld (s.obj (tcObj x)) 383 352 (unsigned 32 ((obWgen (s.obj (tcObj x)) : Nat) + 1)))).tcEnd x .ok 0 := if_pos hlive

theorem unsigned_natCast (w n : Nat) : unsigned w (n : Int) = n % 2 ^ w := by
  have hcast : ((n : Int) % (2 ^ w : Int)) = ((n % 2 ^ w : Nat) : Int) := by push_cast; rfl
  rw [unsigned, hcast, Int.toNat_natCast]

/-- A command that rewrites its object's entry and ends: its slot, the frames, and the entry where it is apart from the slot. -/
theorem State.putObj_tcEnd_spec (s : State) (x : BitVec 512) (n : Nat) (y : BitVec 512) (hslot : s.tcAddr s.tcHead + 64 ≤ 0xBF00000000) :
    s.tierDone ((s.putObj n y).tcEnd x .ok 0) .ok 0 ∧ ((s.putObj n y).tcEnd x .ok 0).tier.frames = s.tier.frames ∧
      (s.apartFromSlot (s.objAddr n) 64 → ((s.putObj n y).tcEnd x .ok 0).obj n = y) := by
  have hput := s.putObj_unmoved (W := NoReg) n y
  exact ⟨(hput.tierWrites fun _ => False.elim).tierDone hslot _ _, (State.frames_tcEnd _ x _ _).trans hput.frames,
    fun hapart => (State.Writes.refl _ _ s).obj_putObj_tcEnd hapart y _ _⟩

end
end Sys2Proof.Machine
end

section
/-! SUPPORT. MIGRATE of the tier manager, and O30 (R283 to R286, R304). -/

namespace Sys2Proof.Machine

/-! ### Far bytes -/

theorem cells_eq_zipIdx (a : Nat) (l : List Byte) : cells a l = (l.zipIdx a).map Prod.swap := by
  induction l generalizing a with
  | nil => rfl
  | cons b rest ih => simp [cells, ih]

/-- Bytes of a far pool read back as they were written. -/
theorem State.farBytes_putFar (s : State) (p a : Nat) (l : List Byte) : (s.putFar p a l).farBytes p a l.length = l := by
  have hcell : ∀ c ∈ (cells (farKey p a) l).map (fun c => (c.1, some c.2)), c.2 = l[c.1 - farKey p a]? := by
    intro c hc
    obtain ⟨e, he, rfl⟩ := List.mem_map.1 hc
    obtain ⟨v, hv, rfl⟩ := List.mem_map.1 (cells_eq_zipIdx _ _ ▸ he)
    exact (List.mk_mem_zipIdx_iff_le_and_getElem?_sub.1 hv).2.symm
  have hkey : ∀ i (hi : i < l.length), farKey p (a + i) ∈ ((cells (farKey p a) l).map fun c => (c.1, some c.2)).map Prod.fst := by
    intro i hi
    have hmem : (l[i], farKey p a + i) ∈ l.zipIdx (farKey p a) := by
      simp [List.mk_mem_zipIdx_iff_le_and_getElem?_sub, hi]
    rw [cells_eq_zipIdx]
    simp only [List.map_map, List.mem_map]
    exact ⟨_, hmem, by simp [farKey, Nat.add_assoc]⟩
  refine List.ext_getElem (by simp [State.farBytes]) fun i hi hl => ?_
  have hget : Store.get none (s.putFar p a l).tier.farMem (farKey p (a + i)) = some l[i] := by
    refine (Store.get_setAll_of_forall none (fun k => l[k - farKey p a]?) hcell _ _).trans ?_
    rw [if_pos (hkey i hl)]
    have hoff : farKey p (a + i) - farKey p a = i := by unfold farKey; omega
    simp only [hoff, List.getElem?_eq_getElem hl]
  simp [State.farBytes, State.farByte, hget]

/-! ### A page moved -/

section
variable {s : State}

/-- The state with a near page's bytes in its new frame of a far pool, its leaf rewritten, its old frame free, and the move counted. -/
def State.movedOut (s : State) (old new : TFrame) (p o : Nat) (lf : W128) : State :=
  ((((s.putFar p new.addr (s.near old.addr (2 ^ old.log2))).xlatDrop o).putLeaf o lf).dropFrame old).bump 0xB020 1

/-- The accounts and the object's counts after one page of `sz` bytes came into near memory (`near` = 1) or left it (`near` = -1). -/
def State.moveCounted (s : State) (acct obj : Nat) (near sz : Int) : State :=
  ((((s.acctAdd acct false (near * sz)).acctAdd acct true (-near * sz)).objAdd obj 319 280 near).objAdd obj 279 240 (-near)).objAdd
    obj 127 64 sz

theorem State.moveCounted_unmoved (s : State) {acct : Nat} (hacct : acct < 16) (obj : Nat) (near sz : Int) :
    s.Unmoved AcctReg (s.moveCounted acct obj near sz) :=
  ((((s.acctAdd_unmoved hacct _ _).trans (State.acctAdd_unmoved _ hacct _ _)).trans (State.objAdd_unmoved _ _ _ _ _)).trans
    (State.objAdd_unmoved _ _ _ _ _)).trans (State.objAdd_unmoved _ _ _ _ _)

theorem State.movedOut_spec (s : State) (old new : TFrame) (p o : Nat) (lf : W128) :
    s.Writes tierParts TierReg (s.movedOut old new p o lf) ∧ (s.movedOut old new p o lf).tier.frames = s.tier.frames.erase old ∧
      (s.movedOut old new p o lf).farBytes p new.addr (2 ^ old.log2) = s.near old.addr (2 ^ old.log2) ∧
      (s.movedOut old new p o lf).reg 0xB020 = s.reg 0xB020 + 1 := by
  have hlen : (s.near old.addr (2 ^ old.log2)).length = 2 ^ old.log2 := s.length_near _ _
  have hput : s.Touches [.tier] (s.putFar p new.addr (s.near old.addr (2 ^ old.log2))) := s.putFar_touches _ _ _
  have hleaf : (s.putFar p new.addr (s.near old.addr (2 ^ old.log2))).Unmoved NoReg
      (((s.putFar p new.addr (s.near old.addr (2 ^ old.log2))).xlatDrop o).putLeaf o lf) :=
    (State.xlatDrop_unmoved _ o).trans (State.putLeaf_unmoved _ o lf)
  have hbytes := s.farBytes_putFar p new.addr (s.near old.addr (2 ^ old.log2))
  have hframes : (s.putFar p new.addr (s.near old.addr (2 ^ old.log2))).tier.frames = s.tier.frames := rfl
  rw [hlen] at hbytes
  unfold State.movedOut
  generalize s.putFar p new.addr (s.near old.addr (2 ^ old.log2)) = t at hput hleaf hbytes hframes ⊢
  generalize (t.xlatDrop o).putLeaf o lf = u at hleaf ⊢
  have hcount : TierReg 0xB020 := by unfold TierReg; decide
  have hdrop : u.Writes tierParts TierReg ((u.dropFrame old).bump 0xB020 1) :=
    (((touches_tier u _).writes (by decide)).mono (by decide)).trans ((State.bump_writes _ hcount 1).mono (by decide))
  refine ⟨(((hput.writes (by decide)).mono (by decide)).trans (hleaf.tierWrites fun _ => False.elim)).trans hdrop, ?_, ?_, ?_⟩
  · exact congrArg (·.erase old) (hleaf.frames.trans hframes)
  · exact (hleaf.farBytes p new.addr (2 ^ old.log2)).trans hbytes
  · rw [State.reg_bump_self]
    exact congrArg (· + 1) ((hleaf.reg id).trans (hput.reg (by decide) 0xB020))

/-- A near page of sound memory moves to a far pool. -/
theorem State.finishMove_out {old new : TFrame} {p : Nat} (useBy : Nat) (hsound : s.memSound)
    (hleaf : (s.leaf (pageOff (s.obj old.obj) old.page)).isSome = true) (hold : old.pool = none) (hnew : new.pool = some p) :
    ∃ lf, s.finishMove old new useBy =
      ((s.movedOut old new p (pageOff (s.obj old.obj) old.page) lf).moveCounted (obAcct (s.obj old.obj)) old.obj (-1)
        ((2 ^ old.log2 : Nat) : Int), .ok) := by
  obtain ⟨leaf, hlf⟩ := Option.isSome_iff_exists.1 hleaf
  have hread : s.readFrame old = (s, .ok, s.near old.addr (2 ^ old.log2)) := by
    unfold State.readFrame
    rw [hold]
    exact State.readNear_of_sound hsound _ _
  have hwrite : ∀ l, s.writeFrame new l = s.putFar p new.addr l := by
    intro l
    unfold State.writeFrame
    rw [hnew]
  unfold State.finishMove
  dsimp only
  rw [hlf, hread]
  dsimp only
  rw [hwrite, hnew]
  exact ⟨_, rfl⟩

/-! ### MIGRATE -/

/-- A page without a new frame, in the other tier and free of references, gets a frame of near memory, and is in transit. -/
theorem State.migrateGo_begin {x : BitVec 512} {f : TFrame} {p a : Nat} (fuel : Nat) (hrun : s.tier.run = some {}) (hcount : 0 < tcCount x)
    (hframe : s.frameOf (tcObj x) (tcFirst x) = some f) (hpool : f.pool = some p) (hnear : tcNear x = true)
    (hheld : s.pageHeld (s.obj (tcObj x)) (tcFirst x) = false) (hfree : s.freeBlock none f.log2 = some a) :
    let new : TFrame := { pool := none, addr := a, log2 := f.log2, obj := tcObj x, page := tcFirst x }
    let t := (s.setTransit (pageOff (s.obj (tcObj x)) (tcFirst x)) true).withFrame new
    State.migrateGo (fuel + 1) s x = { t with tier.run := some { done := 0, target := some new } } := by
  intro new t
  have hkept := s.setTransit_unmoved (W := NoReg) (pageOff (s.obj (tcObj x)) (tcFirst x)) true
  have htake := State.nearFrame_of_free ((hkept.freeBlock f.log2).trans hfree) (tcObj x) (tcFirst x)
  have hdone : ¬ tcCount x ≤ 0 := by omega
  have hother : ¬ f.pool.isNone = true := by simp [hpool]
  have hrefs : ¬ s.pageHeld (s.obj (tcObj x)) (tcFirst x) = true := by simp [hheld]
  unfold State.migrateGo
  rw [hrun]
  dsimp only [Option.getD_some, Nat.add_zero]
  simp only [if_neg hdone, hframe, if_neg hother, if_neg hrefs, hnear, Bool.true_or, if_true, State.allocFrame, htake]
  rfl

/-- The page under way is written to its far frame. -/
theorem State.migrateGo_finish {x : BitVec 512} {old new : TFrame} {k : Nat} {t : State} (fuel : Nat)
    (hrun : s.tier.run = some { done := k, target := some new }) (hk : k < tcCount x)
    (hfind : (s.tier.frames.find? fun f => decide (f.obj = tcObj x ∧ f.page = tcFirst x + k ∧ f ≠ new)) = some old)
    (hup : s.movePoolUp new = true) (hmove : s.finishMove old new (tcUseBy x) = (t, .ok)) :
    let u : State := { t with tier.run := some { done := k + 1, target := none } }
    State.migrateGo (fuel + 1) s x = if tcCount x ≤ k + 1 then u.tcEnd x .ok (k + 1) else u := by
  intro u
  have hdone : ¬ tcCount x ≤ k := by omega
  unfold State.migrateGo
  rw [hrun]
  dsimp only [Option.getD_some]
  rw [if_neg hdone, hfind]
  dsimp only
  rw [hup, hmove]
  rfl

theorem State.tcMigrate_begin {x : BitVec 512} (hrun : s.tier.run = none) (hok : s.migrateOk x = true)
    (htime : s.ftValid = true ∨ tcUseBy x = 0) :
    s.tcMigrate x = State.migrateGo (tcCount x + 1) { s with tier.run := some {} } x := by
  have hgo : (s.migrateOk x && (s.ftValid || decide (tcUseBy x = 0))) = true := by simpa [hok] using htime
  unfold State.tcMigrate
  rw [hrun]
  exact if_pos hgo

theorem State.tcMigrate_goOn {x : BitVec 512} {r : TierRun} (hrun : s.tier.run = some r) :
    s.tcMigrate x = State.migrateGo (tcCount x + 1) s x := by
  unfold State.tcMigrate
  rw [hrun]

/-- The first step of a MIGRATE: its first page has a frame of near memory. -/
theorem State.tcMigrate_begin_spec {x : BitVec 512} {f : TFrame} {p a : Nat} (hrun : s.tier.run = none) (hok : s.migrateOk x = true)
    (htime : s.ftValid = true ∨ tcUseBy x = 0) (hcount : 0 < tcCount x) (hframe : s.frameOf (tcObj x) (tcFirst x) = some f)
    (hpool : f.pool = some p) (hnear : tcNear x = true) (hheld : s.pageHeld (s.obj (tcObj x)) (tcFirst x) = false)
    (hfree : s.freeBlock none f.log2 = some a) :
    let new : TFrame := { pool := none, addr := a, log2 := f.log2, obj := tcObj x, page := tcFirst x }
    (s.tcMigrate x).tcHead = s.tcHead ∧ (s.tcMigrate x).tier.run = some { done := 0, target := some new } ∧
      (s.tcMigrate x).tier.frames = new :: s.tier.frames := by
  intro new
  have hstart : s.Unmoved NoReg { s with tier.run := some {} } := ⟨((touches_tier s _).writes (by decide)).mono (by decide), rfl, rfl, rfl⟩
  have hgo := State.migrateGo_begin (s := { s with tier.run := some {} }) (tcCount x) rfl hcount hframe hpool hnear hheld
    ((hstart.freeBlock _).trans hfree)
  have hkept := hstart.trans (State.setTransit_unmoved { s with tier.run := some {} } (pageOff (s.obj (tcObj x)) (tcFirst x)) true)
  rw [State.tcMigrate_begin hrun hok htime]
  have hwrites := (hkept.tierWrites (V := TierReg) fun _ => False.elim).trans (State.withFrame_writes _ new)
  rw [hgo]
  exact ⟨hwrites.slot.1, rfl, congrArg (new :: ·) hkept.frames⟩

/-- A near page of sound memory moves to a far pool: its frame is free, its bytes are in the new one, and the move is counted. -/
theorem State.finishMove_out_spec {old new : TFrame} {p : Nat} (useBy : Nat) (hsound : s.memSound)
    (hleaf : (s.leaf (pageOff (s.obj old.obj) old.page)).isSome = true) (hold : old.pool = none) (hnew : new.pool = some p) :
    ∃ t, s.finishMove old new useBy = (t, .ok) ∧ t.tcHead = s.tcHead ∧ t.tier.frames = s.tier.frames.erase old ∧
      t.farBytes p new.addr (2 ^ old.log2) = s.near old.addr (2 ^ old.log2) ∧ t.reg 0xB020 = s.reg 0xB020 + 1 := by
  obtain ⟨lf, hmove⟩ := State.finishMove_out useBy hsound hleaf hold hnew
  obtain ⟨hwrites, hframes, hbytes, hcount⟩ := s.movedOut_spec old new p (pageOff (s.obj old.obj) old.page) lf
  have hkept := (s.movedOut old new p (pageOff (s.obj old.obj) old.page) lf).moveCounted_unmoved (obAcct_lt (s.obj old.obj)) old.obj (-1)
    ((2 ^ old.log2 : Nat) : Int)
  exact ⟨_, hmove, (hwrites.trans (hkept.tierWrites fun _ => tierReg_of_acctReg)).slot.1, hkept.frames.trans hframes,
    (hkept.farBytes p new.addr (2 ^ old.log2)).trans hbytes, (hkept.reg (by unfold AcctReg; decide)).trans hcount⟩

/-- The state once a page of a MIGRATE has moved: the command ends where it was the last page. -/
def State.pageMoved (s : State) (x : BitVec 512) (k : Nat) : State :=
  let u : State := { s with tier.run := some { done := k + 1, target := none } }
  if tcCount x ≤ k + 1 then u.tcEnd x .ok (k + 1) else u

theorem State.pageMoved_last {x : BitVec 512} {k : Nat} (h : tcCount x ≤ k + 1) :
    (s.pageMoved x k).tcHead = (s.tcHead + 1) % 256 ∧ (s.pageMoved x k).tier = { s.tier with run := none } ∧
      (s.pageMoved x k).reg 0xB020 = s.reg 0xB020 := by
  have hend : s.pageMoved x k = ({ s with tier.run := some { done := k + 1, target := none } } : State).tcEnd x .ok (k + 1) := if_pos h
  rw [hend]
  exact ⟨State.tcHead_tcEnd _ x _ _, State.tier_tcEnd _ x _ _, State.reg_tcEnd _ x _ _ (by unfold TierReg; decide)⟩

theorem State.pageMoved_more {x : BitVec 512} {k : Nat} (h : ¬ tcCount x ≤ k + 1) :
    s.pageMoved x k = { s with tier.run := some { done := k + 1, target := none } } := if_neg h

/-- The last step of a page's move out of near memory. -/
theorem State.tcMigrate_finish_spec {x : BitVec 512} {old new : TFrame} {k p : Nat}
    (hrun : s.tier.run = some { done := k, target := some new }) (hk : k < tcCount x)
    (hfind : (s.tier.frames.find? fun f => decide (f.obj = tcObj x ∧ f.page = tcFirst x + k ∧ f ≠ new)) = some old)
    (hleaf : (s.leaf (pageOff (s.obj old.obj) old.page)).isSome = true) (hsound : s.memSound) (hold : old.pool = none)
    (hnew : new.pool = some p) (hreach : fpReach (s.farPool p) = true) :
    (s.tcMigrate x).tier.frames = s.tier.frames.erase old ∧
      (s.tcMigrate x).farBytes p new.addr (2 ^ old.log2) = s.near old.addr (2 ^ old.log2) ∧
      (s.tcMigrate x).reg 0xB020 = s.reg 0xB020 + 1 ∧
      (k + 1 < tcCount x → (s.tcMigrate x).tier.run = some { done := k + 1, target := none } ∧ (s.tcMigrate x).tcHead = s.tcHead) ∧
      (k + 1 = tcCount x → (s.tcMigrate x).tier.run = none ∧ (s.tcMigrate x).tcHead = (s.tcHead + 1) % 256) := by
  have hup : s.movePoolUp new = true := by simp [State.movePoolUp, hnew, hreach]
  obtain ⟨m, hmove, hhead, hframes, hbytes, hcount⟩ := State.finishMove_out_spec (tcUseBy x) hsound hleaf hold hnew
  have hgo : s.tcMigrate x = m.pageMoved x k :=
    (State.tcMigrate_goOn hrun).trans (State.migrateGo_finish (tcCount x) hrun hk hfind hup hmove)
  rw [hgo]
  by_cases hlast : tcCount x ≤ k + 1
  · obtain ⟨hend, htier, hreg⟩ := State.pageMoved_last (s := m) hlast
    have hfar : (m.pageMoved x k).farBytes p new.addr (2 ^ old.log2) = m.farBytes p new.addr (2 ^ old.log2) := by
      simp only [State.farBytes, State.farByte, htier]
    exact ⟨(congrArg TierSt.frames htier).trans hframes, hfar.trans hbytes, hreg.trans hcount, fun hmore => absurd hmore (by omega),
      fun _ => ⟨congrArg TierSt.run htier, by rw [hend, hhead]⟩⟩
  · rw [State.pageMoved_more hlast]
    exact ⟨hframes, hbytes, hcount, fun _ => ⟨rfl, hhead⟩, fun heq => absurd heq (by omega)⟩

end

/-- Settles O30: each command by the lemma of its end, and MIGRATE by its two steps. -/
theorem tierCommands : Obligations.TierCommands := by
  refine ⟨fun s x hitem hcheck hslot => ⟨fun a hop hok hcount hplace hfree hroom => ?_, fun hop hok => ?_, fun hop hlive hheld => ?_,
    fun hop hlive hold hnew => ?_, fun hop hlive => ?_, fun hdead => ⟨fun hop => ?_, fun hop => ?_, fun hop => ?_⟩⟩,
    fun s x hitem hcheck hop => ⟨?_, ?_⟩⟩
  · obtain ⟨u, heq, hwrites, hframes, hreg⟩ := State.tcCreate_near hok hcount hplace hfree hroom
    refine ⟨_, exec_create hitem hcheck hop, ?_⟩
    rw [heq]
    refine ⟨hwrites.tierDone hslot .ok 1, (u.frames_tcEnd x .ok 1).trans hframes, (u.reg_tcEnd x .ok 1 ?_).trans hreg⟩
    have hacct := tcAcct_lt x
    unfold TierReg
    omega
  · have heq : s.tcCreate x = s.tcEnd x .stateConflict 0 := if_pos hok
    exact ⟨_, exec_create hitem hcheck hop, heq ▸ s.refused x hslot⟩
  · obtain ⟨u, hwrites, heq, hframes⟩ := s.freeObj_spec (tcObj x)
    have hput := (u.putObj_unmoved (W := NoReg) (tcObj x) (setFld (u.obj (tcObj x)) 507 506 0))
    refine ⟨_, exec_free hitem hcheck hop, ?_⟩
    rw [State.tcFree_live hlive hheld, heq]
    refine ⟨(hwrites.trans (hput.tierWrites fun _ => False.elim)).tierDone hslot _ _, ?_, fun hapart => ?_⟩
    · exact (State.frames_tcEnd _ x _ _).trans (hput.frames.trans hframes)
    · rw [hwrites.obj_putObj_tcEnd hapart]
      exact fld_setFld_self _ _ (by decide) (by decide)
  · obtain ⟨hdone, hframes, hobj⟩ := s.putObj_tcEnd_spec x (tcObj x) (setFld (s.obj (tcObj x)) 500 498 (tcPlace x)) hslot
    refine ⟨_, exec_place hitem hcheck hop, ?_⟩
    rw [State.tcPlaceCmd_live hlive hold hnew]
    refine ⟨hdone, hframes, fun hapart => ?_⟩
    rw [hobj hapart, obPlace, fld_setFld_self _ _ (by decide) (by decide)]
    exact Nat.mod_eq_of_lt (fld_lt x 482 480)
  · obtain ⟨hdone, hframes, hobj⟩ := s.putObj_tcEnd_spec x (tcObj x)
      (setFld (s.obj (tcObj x)) 383 352 (unsigned 32 ((obWgen (s.obj (tcObj x)) : Nat) + 1))) hslot
    refine ⟨_, exec_bump hitem hcheck hop, ?_⟩
    rw [State.tcBump_live hlive]
    refine ⟨hdone, hframes, fun hapart => ?_⟩
    rw [hobj hapart, obWgen, fld_setFld_self _ _ (by decide) (by decide)]
    exact (Nat.mod_eq_of_lt (Nat.mod_lt _ (by decide))).trans (unsigned_natCast 32 (obWgen (s.obj (tcObj x)) + 1))
  · exact ⟨_, exec_free hitem hcheck hop, State.tcFree_dead hdead ▸ s.refused x hslot⟩
  · exact ⟨_, exec_place hitem hcheck hop, State.tcPlaceCmd_dead hdead ▸ s.refused x hslot⟩
  · exact ⟨_, exec_bump hitem hcheck hop, State.tcBump_dead hdead ▸ s.refused x hslot⟩
  · intro f p a hrun hok htime hcount hframe hpool hnear hheld hfree
    exact ⟨_, exec_migrate hitem hcheck hop, State.tcMigrate_begin_spec hrun hok htime hcount hframe hpool hnear hheld hfree⟩
  · intro old new p k hrun hk hfind hobj hleaf hsound hold hnew hpage hreach _
    exact ⟨_, exec_migrate hitem hcheck hop, State.tcMigrate_finish_spec hrun hk hfind (by rw [hobj, hpage]; exact hleaf) hsound hold hnew hreach⟩

end Sys2Proof.Machine
end
